-- ==== Sys2Proof/Word.lean ====
section
/-!
DEFINITION. The words of the set-up space and of frames, and fixed-size tables as plain data.
-/

namespace Sys2Proof

/-- One register of the set-up space (R467). -/
abbrev Word := BitVec 32
/-- One byte of an image, a frame or a record. -/
abbrev Byte := BitVec 8
/-- Cell k, 0 to 255, counted from STR_N (R4). -/
abbrev Cell := Fin 256
/-- Segment s = k div 16 (R4). -/
abbrev Seg := Fin 16
/-- Phase P0 to P7 (R4). -/
abbrev Phase := Fin 8
/-- Blotter slice 0 to 63 (R414). -/
abbrev Slice := Fin 64
/-- Die index 0 to 16 (R354). -/
abbrev Die := Fin 17

/-- A table of `n` equal entries, as a list whose length is known. -/
structure Vec (α : Type) (n : Nat) where
  toList : List α
  len : toList.length = n
  deriving DecidableEq, Repr

/-- Every entry the same. -/
def Vec.fill {α : Type} (n : Nat) (a : α) : Vec α n := ⟨List.replicate n a, by simp⟩

end Sys2Proof
end

