-- ==== Sys2Proof/Syntax.lean ====
section
/-!
DEFINITION. The commands and events that reach the module: one constructor of Instr for each row of
spec/opcode_table.json, with what the environment brings with it as operands (the table gives no operands: log 1).
-/

namespace Sys2Proof

/-- Status codes of R10. -/
inductive Status
  | ok | notReady | busy | rejected | noRoute | timeout | checkFail | checkValueDamaged
  | accordSplit | tempInhibit | capacity | aborted | unsupported | locked | budgetViolation | sequence
  deriving DecidableEq, Repr

/-- A loop port. -/
inductive Port
  | a | b
  deriving DecidableEq, Repr

/-- The five reactions of R391 and the class codes of R384. -/
inductive FaultClass
  | notice | degraded | halt | latched
  deriving DecidableEq, Repr

/-- Fault sources of R385, in the order of the table. -/
inductive Src
  | gate | noPath | ovPark | uvPark | clampPark | contactPark | keeperTrip | ntcPark
  | stepNak | stepDeadline | budgetOverrun | swapFailed | derated
  | vstring | phFlt | noPhase | peak | phaseFailed | xchkUnresolved | xchkHalt | deadlineMiss | stepLinkLost
  | takeover | primaryReturn | stackMismatch | noCrosscheck | captureClash | shuntMismatch | noShunt
  | ocvLow | ocvHigh | patrolContact | patrolTemp
  | zeroStale | kvalOver | recordDrop
  | linkLost | carrierLost | trainFailed | segLost
  | portDown | orphan | parkAll | positionMismatch
  | hostError | pcieLinkDown | cmdTimeout
  | holdover | holdoverLimit | slew | accordSplit | accordPartial
  | shutdown | ntcBroken | ntcReturn | dieBroken | dieNoReading | dieReturn
  | sliceSegment | sliceSpc | sliceHub | sliceOther
  | imageDamaged | imageFail | calFail
  | housekeeping | auxSag | feedFault | estop
  | writeFailed | writeAbandoned | journalDiscard | fwSlotInvalid | wear
  | lockstep | sramCorrected | sramUncorrectable | segSramUncorrectable | plausibility | watchdog
  deriving DecidableEq, Repr

/-- Who sent a command and so who receives its completion: BAR0 (no completion), the head's own command ring
by loop TAG, a CMD frame (TAG, the HEAD bit, the port it came by), or a broadcast CMD frame. -/
inductive Origin
  | bar0
  | ring (tag : Nat)
  | loop (tag : Nat) (head : Bool) (port : Port)
  | bcast
  deriving DecidableEq, Repr

/-- One register write: its sender, VALUE, MASK and accord operand (R331, R468). -/
structure Wr where
  origin : Origin
  value  : Word
  mask   : Word
  accord : BitVec 16
  deriving DecidableEq, Repr

/-- A loop frame as received: the header of R267 and the payload bytes. -/
structure Frame where
  ftype   : Nat
  down    : Bool
  bcast   : Bool
  head    : Bool
  hop     : Nat
  dist    : Nat
  lseq    : Nat
  lack    : Nat
  info    : Nat
  payload : List Byte
  deriving DecidableEq, Repr

/-- What ended a received loop frame that is not valid (R264, R272). -/
inductive FrameError
  | crc | coding | unknownType | aborted
  deriving DecidableEq, Repr

/-- Verifier channels of R161. -/
inductive Channel
  | cell (c : Cell)
  | stack (s : Seg)
  deriving DecidableEq, Repr

/-- Cause of a declared phase failure (R122). -/
inductive PhaseCause
  | isOpen | sense | xchk
  deriving DecidableEq, Repr

/-- What a segment measured in its patrol window for one cell beside its slot conversions (R225): the NTC resistance in
0.1 Ω, and the two contact channels in µV (none: saturated). -/
structure PatrolCell where
  ntc    : Nat
  contP  : Option Int
  contN  : Option Int
  deriving DecidableEq, Repr

/-- One housekeeping channel at the end of a slow round (R359): channel, samples out of limits, mean value. -/
structure HouseChannel where
  channel : Nat
  outside : Nat
  mean    : Word
  deriving DecidableEq, Repr

/-- The commands and events of spec/opcode_table.json, in its order. -/
inductive Instr
  -- start-up, resets and pins
  | auxInRange (mv : Nat)
  | auxOutOfRange (mv : Nat)
  | powerOnReset (headEn : Bool)
  | firmwareStart
  | feedEnable (prevOk : Bool) (prevVolts : Nat) (prevStack : Nat)
  | segmentImagePush (s : Seg)
  | sequencerStart (s : Seg)
  | startupTestEnd
  | drydownLogCollect
  | resetN (lowNs : Nat)
  | watchdog
  | resetApply
  | resetReq (w : Wr)
  | shutdownLatchClear (belowMs : Nat)
  | estopNLow (lowNs : Nat)
  | estopNHigh
  | phFltNLow (lowNs : Nat)
  | phFltNHigh
  | hostReset (flr : Bool)
  | pcieLinkDown
  -- faults
  | haltDecision
  | haltRequest (s : Seg)
  | faultEntry (src : Src) (seg : Option Seg) (cell : Option Cell) (arg0 arg1 arg2 : Word)
  | intakeMove
  | faultRead (o : Origin) (what : Nat) (from_ : Nat)
  | faultClear (o : Origin) (id : BitVec 16)
  | fltClear (w : Wr)
  | firstRearm (w : Wr)
  | ovfClear (w : Wr)
  | countClear (w : Wr)
  -- temperature
  | shutdown (sensor : Fin 33)
  | thermalSample (readings : List Int)
  | modelStep
  | ntcSample (resistances : List Nat)
  | slowRound (w : Option Wr)
  | slowRoundEnd (channels : List HouseChannel)
  -- cell paths
  | scheduledEdge (k : Cell)
  | commutationStep (k : Cell)
  | stepConfirmed (k : Cell)
  | stepUnconfirmed (k : Cell)
  | noPath (k : Cell)
  | ovTrip (k : Cell) (kelvin : Int)
  | uvTrip (k : Cell) (kelvin : Int)
  | clampDetect (k : Cell)
  | keeperTrip (s : Seg) (supplyFailed : Bool)
  | keeperRelease (s : Seg) (w : Wr)
  | parkReq (k : Cell) (w : Wr)
  | openReqSet (k : Cell) (w : Wr)
  | openReqClear (k : Cell) (w : Wr)
  | releasePark (o : Origin) (cells : BitVec 256)
  | releaseJudged
  -- beacons and park symbols
  | beaconTx
  | downlinkBeacon (s : Seg) (crcOk : Bool)
  | uplinkBeacon (s : Seg) (crcOk : Bool)
  | parkSymbolReceived (s : Seg)
  | linkSilence (s : Seg)
  | orphan
  | orphanPark
  -- schedule player
  | run (o : Origin) (t : Nat)
  | runStart
  | stop (o : Origin)
  | halt (o : Origin)
  | cycleBoundary
  | rungMove (s : Seg)
  | frameAnswer
  | frameDeadline
  | swap (w : Wr)
  | swapApplied
  | sweep (o : Origin) (id : Nat) (plan : Nat) (t : Nat) (cells : BitVec 256)
  | sweepStart
  -- string power controller and Step Link
  | setFrame (ext : Option (BitVec 64))
  | addTimeout (p : Phase)
  | stepIdle (frame : BitVec 64)
  | stepLinkLost
  | rampStep (codes : List (List Nat))
  | dwellComplete
  | deadlineMiss
  | phaseSwitch (p : Phase) (code : Nat)
  | windowRescale
  | phaseShed
  | phasesReleased
  | phaseFailed (p : Phase) (cause : PhaseCause)
  | phaseReturn (w : Wr)
  | toggleTest
  | toggleTestEnd
  | toggleRetry
  | vstring
  | peak (p : Phase) (code : Nat)
  | spcCtrlEn (w : Wr)
  | stepCtrlSource (w : Wr)
  -- measurement
  | slotConversion (k : Cell) (microvolts : Int)
  | coverTimeout (k : Cell)
  | verifierVisit (ch : Channel) (value : Int)
  | noCrosscheck (k : Cell)
  | capture (k : Cell) (samples : List Int)
  | contactVisit (k : Cell) (pos neg : Int) (satP satN : Bool)
  | shuntSlotMean (bottom top : Option Int)
  | shuntCompare
  | shuntReadmit (w : Wr)
  | guardWrite (w : Wr)
  | streamStart (o : Origin) (segs : BitVec 16) (kinds : BitVec 8) (cells : BitVec 256)
  | streamStop (o : Origin)
  | streamMark (s : Seg)
  -- analysis
  | zeroEstimate
  | zeroStale
  | tally
  | edgeR (k : Cell)
  | cellSnapshot
  | snapNow (w : Wr)
  | kvalSnap (w : Wr)
  | kvalReset (w : Wr)
  -- power states and drydown
  | powerBudget (o : Origin) (us : Word)
  | powerEvaluate
  | drydownEntered
  | wake (o : Origin)
  | dozeExit
  | drydownExit
  | patrol (s : Seg)
  | patrolWindowEnd (s : Seg) (stackMv : Nat) (dieTemp : Int) (cells : List PatrolCell)
  | confirmationPatrol (s : Seg)
  | patrolReport (s : Seg)
  | segLost (s : Seg)
  | anomalyClear (w : Wr)
  | drydownCfgCopy (cfg : Bool) (w : Wr)
  | stackLow (s : Seg) (mv : Nat)
  | wakeSymbol (p : Port)
  -- span links
  | spanTrained (s : Seg) (trips : List Nat)
  | trainingTimeout (s : Seg) (c0 c1 : Bool) (trips : List Nat)
  | carrierLost (s : Seg) (carrier : Bool)
  | backgroundTraining (s : Seg) (passed : Bool)
  | linkLost (s : Seg)
  | linkRetrain (s : Seg) (w : Wr)
  | segReset (s : Seg) (w : Wr)
  | spanResend (s : Seg) (up : Bool)
  | config (s : Seg)
  | read (s : Seg)
  | share (s : Seg)
  | timeMessage (s : Seg) (trip : Nat)
  | islot (s : Seg)
  | neighbour (s : Seg)
  | segmentCmd (s : Seg)
  | edge (s : Seg)
  | faultMessage (s : Seg)
  | output (s : Seg)
  | sums (s : Seg)
  | burst (s : Seg)
  | segmentRsp (s : Seg)
  | stream (s : Seg)
  -- the loop
  | idle (p : Port) (f : Frame)
  | idleSend (p : Port)
  | portDown (p : Port)
  | retransmit (p : Port)
  | portEnable (w : Wr)
  | retrain (w : Wr)
  | cmd (p : Port) (f : Frame)
  | rsp (p : Port) (f : Frame)
  | res (p : Port) (f : Frame)
  | time (p : Port) (f : Frame) (rx : Nat)
  | event (p : Port) (f : Frame)
  | parkAll (p : Port) (f : Frame)
  | census (o : Origin)
  | probe (p : Port) (f : Frame)
  | reply (p : Port) (f : Frame)
  | assign (p : Port) (f : Frame)
  | censusTimeout
  | loopPing (o : Origin)
  | retireNotice
  | recordResend
  -- line time
  | timeFrameTx
  | ptmDialogue (ok : Bool) (master : Nat)
  | holdover
  | holdoverLimit
  | sourceLost (p : Port)
  | timeNowWrite (hi lo : Wr)
  | followOff (w : Wr)
  -- accords
  | accordBegin (o : Origin) (id : BitVec 16)
  | accordPrepare (o : Origin) (id : BitVec 16) (count : Nat) (t : Nat)
  | accordCommit (o : Origin) (id : BitVec 16) (t : Nat)
  | accordAbort (o : Origin) (id : BitVec 16)
  | accordApply
  | graceExpiry
  -- registers, flacons and results
  | regRead (o : Origin) (offset : Nat)
  | regReadBlock (o : Origin) (offset : Nat) (count : Nat)
  | regWrite (offset : Nat) (w : Wr)
  | flaconPolicyWrite (w : Wr)
  | flaconLoad (o : Origin) (slot : Option (Fin 8)) (offset total : Nat) (data : List Byte)
  | flaconVerify (o : Origin) (store : Option (Fin 8))
  | flaconErase (o : Origin) (target : BitVec 8)
  | resultFetch (o : Origin) (slot : Nat) (gen : Nat)
  | marks (o : Origin) (items : List (Nat × Nat × Nat))
  | nvmLogRead (o : Origin) (source : Nat) (index : Nat)
  | logCopy (w : Wr)
  -- host port
  | hostEnable (w : Wr)
  | resetRings (w : Wr)
  | dbCmdTail (value : BitVec 16)
  | dbCplHead (value : BitVec 16)
  | dbResHead (ring : Fin 4) (value : BitVec 16)
  | descriptorFetch (desc : Option (List Byte)) (buf : Option (List Byte))
  | completion
  | cmdTimeout (tag : Nat)
  | coalesceTimeout (ring : Fin 5)
  -- self-test and check unit
  | bistRun (o : Origin) (slice : Option Slice)
  | periodicSlice
  | sliceEnd (steps : Nat) (sigOk : Bool)
  | checkScan (o : Origin) (ctx : Fin 4)
  | scanStart (ctx : Fin 4) (w : Wr)
  | scanAbort (ctx : Fin 4) (w : Wr)
  | scanDone (ctx : Fin 4)
  -- non-volatile storage
  | pageProgrammed (ok : Bool)
  | eraseDone (ok : Bool)
  | begin (o : Origin) (total version : Nat)
  | chunk (o : Origin) (offset : Nat) (data : List Byte)
  | verify (o : Origin)
  | activate (o : Origin)
  | abort (o : Origin)
  | flaconKey (o : Origin) (key : List Byte)
  -- supplies, links and errors noticed
  | keeperHoldExpiry (s : Seg)
  | logRetentionEnd (s : Seg) (mv : Nat)
  | feedLoss (s : Seg)
  | auxMonitorUpdate (mv : Nat)
  | pcieLinkUp
  | portTrainingTimeout (p : Port)
  | loopFrameError (p : Port) (e : FrameError) (f : Option Frame)
  | stepFrameDropped (frame : BitVec 64)
  | recoveryReset
  | segFeedRestore (s : Seg) (volts : Nat)
  | peakClear (codes : List Nat)
  deriving DecidableEq, Repr

end Sys2Proof
end

