-- ==== Sys2Proof/Machine/Crypto.lean ====
section
/-!
DEFINITION. Little-endian bytes (R3) and the check functions: CRC-8 of Step Link frames, CRC-32C, CRC-64 ECMA-182,
SHA-256 and the verification of a P-256 ECDSA signature.
-/

namespace Sys2Proof.Machine

/-- The n low bytes of a number, least significant first (R3). -/
def leBytes : Nat → Nat → List Byte
  | 0, _ => []
  | n + 1, v => BitVec.ofNat 8 v :: leBytes n (v / 256)

/-- Number that bytes spell, least significant first (R3). -/
def leNat : List Byte → Nat
  | [] => 0
  | b :: t => b.toNat + 256 * leNat t

/-- Number that bytes spell, most significant first. -/
def beNat (l : List Byte) : Nat := leNat l.reverse

/-- Byte i, 0 beyond the end. -/
def byteAt (l : List Byte) (i : Nat) : Nat := match l[i]? with | some b => b.toNat | none => 0

/-- Little-endian field of n bytes at offset i, 0 beyond the end. -/
def u (l : List Byte) (i n : Nat) : Nat := leNat ((l.drop i).take n)

/-- A number read as two's complement of w bits. -/
def signed (w v : Nat) : Int := (BitVec.ofNat w v).toInt

/-- A signed number as a two's complement field of w bits. -/
def unsigned (w : Nat) (v : Int) : Nat := (BitVec.ofInt w v).toNat

/-- A number saturated to a signed field of w bits. -/
def satSigned (w : Nat) (v : Int) : Int :=
  let m : Int := 2 ^ (w - 1)
  if v < -m then -m else if m ≤ v then m - 1 else v

/-- Bytes with n bytes at offset i replaced; the list is long enough. -/
def splice (l : List Byte) (i : Nat) (d : List Byte) : List Byte := l.take i ++ d ++ l.drop (i + d.length)

/-! ### CRC -/

/-- One bit of a left-shifting CRC of width w. -/
def crcBitL (w poly acc : Nat) : Nat :=
  let sh := (acc * 2) % 2 ^ w
  if acc / 2 ^ (w - 1) % 2 = 1 then sh ^^^ poly else sh

/-- One byte of a left-shifting CRC. -/
def crcByteL (w poly acc : Nat) (b : Byte) : Nat :=
  (List.range 8).foldl (fun a _ => crcBitL w poly a) (acc ^^^ (b.toNat * 2 ^ (w - 8)))

/-- CRC-8, polynomial 0x07, initial value 0xFF (R128). -/
def crc8 (l : List Byte) : Nat := l.foldl (crcByteL 8 0x07) 0xFF

/-- CRC-64 ECMA-182 running value (R427). -/
def crc64Update (acc : Nat) (l : List Byte) : Nat := l.foldl (crcByteL 64 0x42F0E1EBA9EA3693) acc

/-- One bit of the reflected CRC-32C. -/
def crc32cBit (a : Nat) : Nat := if a % 2 = 1 then (a / 2) ^^^ 0x82F63B78 else a / 2

/-- One byte of CRC-32C. -/
def crc32cByte (acc : Nat) (b : Byte) : Nat := (List.range 8).foldl (fun a _ => crc32cBit a) (acc ^^^ b.toNat)

/-- CRC-32C running value, before the final inversion (R427). -/
def crc32cUpdate (acc : Nat) (l : List Byte) : Nat := l.foldl crc32cByte acc

/-- CRC-32C of a whole string of bytes. -/
def crc32c (l : List Byte) : Nat := crc32cUpdate 0xFFFFFFFF l ^^^ 0xFFFFFFFF

/-! ### SHA-256 -/

/-- Largest x with x^3 at most n, found bit by bit. -/
def cubeRoot (n : Nat) : Nat → Nat → Nat
  | 0, x => x
  | b + 1, x => let y := x + 2 ^ b; cubeRoot n b (if y * y * y ≤ n then y else x)

/-- The 64 first primes, whose cube roots give the round constants. -/
def shaPrimes : List Nat :=
  [2, 3, 5, 7, 11, 13, 17, 19, 23, 29, 31, 37, 41, 43, 47, 53] ++
  [59, 61, 67, 71, 73, 79, 83, 89, 97, 101, 103, 107, 109, 113, 127, 131] ++
  [137, 139, 149, 151, 157, 163, 167, 173, 179, 181, 191, 193, 197, 199, 211, 223] ++
  [227, 229, 233, 239, 241, 251, 257, 263, 269, 271, 277, 281, 283, 293, 307, 311]

/-- Round constants: the first 32 bits of the fractional parts of the cube roots. -/
def shaK : List Word := shaPrimes.map (fun p => BitVec.ofNat 32 (cubeRoot (p * 2 ^ 96) 36 0))

/-- Initial chaining words. -/
def shaInit : List Word :=
  [0x6A09E667, 0xBB67AE85, 0x3C6EF372, 0xA54FF53A, 0x510E527F, 0x9B05688C, 0x1F83D9AB, 0x5BE0CD19]

def rotr (x : Word) (n : Nat) : Word := x.rotateRight n

/-- Message schedule, newest word first. -/
def shaExpand : Nat → List Word → List Word
  | 0, w => w
  | n + 1, w =>
    let g := fun i => w.getD i 0
    let s0 := rotr (g 14) 7 ^^^ rotr (g 14) 18 ^^^ (g 14 >>> 3)
    let s1 := rotr (g 1) 17 ^^^ rotr (g 1) 19 ^^^ (g 1 >>> 10)
    shaExpand n ((g 15 + s0 + g 6 + s1) :: w)

/-- One round. -/
def shaRound (h : List Word) (kw : Word × Word) : List Word :=
  match h with
  | [a, b, c, d, e, f, g, i] =>
    let t1 := i + (rotr e 6 ^^^ rotr e 11 ^^^ rotr e 25) + ((e &&& f) ^^^ (~~~e &&& g)) + kw.1 + kw.2
    let t2 := (rotr a 2 ^^^ rotr a 13 ^^^ rotr a 22) + ((a &&& b) ^^^ (a &&& c) ^^^ (b &&& c))
    [t1 + t2, a, b, c, d + t1, e, f, g]
  | _ => h

/-- The sixteen words of one block of 64 bytes, most significant byte first. -/
def shaWords : Nat → List Byte → List Word
  | 0, _ => []
  | n + 1, l => BitVec.ofNat 32 (beNat (l.take 4)) :: shaWords n (l.drop 4)

/-- One block of 64 bytes. -/
def shaBlock (h : List Word) (block : List Byte) : List Word :=
  let w := (shaExpand 48 (shaWords 16 block).reverse).reverse
  List.zipWith (· + ·) h ((shaK.zip w).foldl shaRound h)

/-- Whole blocks of 64 bytes. -/
def shaBlocks : Nat → List Word → List Byte → List Word
  | 0, h, _ => h
  | n + 1, h, l => shaBlocks n (shaBlock h (l.take 64)) (l.drop 64)

/-- Padding of a message of n bytes in all. -/
def shaPad (n : Nat) : List Byte :=
  0x80 :: (List.replicate ((119 - n % 64) % 64) 0 ++ (leBytes 8 (n * 8)).reverse)

/-- Chaining words after a message, with its padding, from given words; `before` bytes came earlier. -/
def shaFinish (h : List Word) (before : Nat) (l : List Byte) : List Word :=
  let m := l ++ shaPad (before + l.length)
  shaBlocks (m.length / 64) h m

/-- The 32 bytes of the digest. -/
def shaBytes (h : List Word) : List Byte := h.flatMap (fun w => (leBytes 4 w.toNat).reverse)

/-- SHA-256 of a string of bytes. -/
def sha256 (l : List Byte) : List Byte := shaBytes (shaFinish shaInit 0 l)

/-! ### ECDSA on P-256 -/

def p256p : Nat := 2 ^ 256 - 2 ^ 224 + 2 ^ 192 + 2 ^ 96 - 1
def p256n : Nat := 0xFFFFFFFF00000000FFFFFFFFFFFFFFFFBCE6FAADA7179E84F3B9CAC2FC632551
def p256b : Nat := 0x5AC635D8AA3A93E7B3EBBD55769886BC651D06B0CC53B0F63BCE3C3E27D2604B
def p256g : Nat × Nat :=
  (0x6B17D1F2E12C4247F8BCE6E563A440F277037D812DEB33A0F4A13945D898C296,
   0x4FE342E2FE1A7F9B8EE7EB4A7C0F9E162BCE33576B315ECECBB6406837BF51F5)

/-- x to the e modulo m; the list is the bits of e, least significant first. -/
def powMod (m : Nat) : Nat → Nat → Nat → Nat → Nat
  | 0, _, _, acc => acc
  | k + 1, x, e, acc => powMod m k (x * x % m) (e / 2) (if e % 2 = 1 then acc * x % m else acc)

/-- Inverse modulo a prime of 256 bits. -/
def invMod (m x : Nat) : Nat := powMod m 256 (x % m) (m - 2) 1

/-- Sum of two points of the curve; none is the point at infinity. -/
def ecAdd (p q : Option (Nat × Nat)) : Option (Nat × Nat) :=
  match p, q with
  | none, q => q
  | p, none => p
  | some (x1, y1), some (x2, y2) =>
    let m := p256p
    if x1 = x2 ∧ (y1 + y2) % m = 0 then none
    else
      let l := if x1 = x2 then (3 * x1 * x1 + (m - 3)) * invMod m (2 * y1) % m
               else (y2 + m - y1) * invMod m (x2 + m - x1) % m
      let x3 := (l * l + 2 * m - x1 - x2) % m
      some (x3, (l * (x1 + m - x3) + m - y1) % m)

/-- Multiple of a point. -/
def ecMul : Nat → Nat → Option (Nat × Nat) → Option (Nat × Nat) → Option (Nat × Nat)
  | 0, _, _, acc => acc
  | b + 1, k, p, acc => ecMul b (k / 2) (ecAdd p p) (if k % 2 = 1 then ecAdd acc p else acc)

/-- The key is a point of the curve other than infinity. -/
def ecOnCurve (k : Nat × Nat) : Bool :=
  decide (k.1 < p256p ∧ k.2 < p256p ∧ (k.2 * k.2) % p256p = (k.1 * k.1 * k.1 + (p256p - 3) * k.1 + p256b) % p256p)

/-- ECDSA verification of a digest with R || S, each 32 bytes. -/
def ecdsaOk (key : Nat × Nat) (digest : List Byte) (r s : Nat) : Bool :=
  if !ecOnCurve key || r == 0 || s == 0 || decide (p256n ≤ r) || decide (p256n ≤ s) then false
  else
    let w := invMod p256n s
    let u1 := beNat digest * w % p256n
    let u2 := r * w % p256n
    match ecAdd (ecMul 256 u1 (some p256g) none) (ecMul 256 u2 (some key) none) with
    | none => false
    | some (x, _) => x % p256n == r

end Sys2Proof.Machine
end

