-- ==== Sys2Proof/Config.lean ====
section
/-!
DEFINITION. What the spec leaves open: uninterpreted constants, of which nothing can be proved.
Each is named in a row of notes/assumptions.
-/

namespace Sys2Proof.Config

/-- A free value: the n-th value that the spec leaves undefined or unstated in a run (log 3). -/
opaque freeValue : Nat → BitVec 64

/-- A converter's reading after a gain in 0.01 ppm and an offset of the calibration (R144, R489; log 107: the spec gives
the two words and no formula). -/
opaque corrected : Int → Int → Int → Int

/-- Whether a quotient that is not a whole number of units is rounded up (log 5); the operands are the
numerator and the denominator. -/
opaque roundsUp : Int → Int → Bool

/-- One 10 µs step of the three-pole network of R365 for a segment: the poles' temperatures in 0.01 °C, the die
reading that gives the ambient node, for each of the 32 pairs the sum of i²·t over the step in µA²·ns, for each of
the 16 cells how often its clamps conducted (R45), and the parameters: 0 calibrated, 1 conservative, with 2 more for the
largest on-resistance of R366 (log 6: the spec gives the network's shape, its parameters lie in the calibration region). -/
opaque bankStep : Nat → List Int → Int → List Nat → List Nat → Nat → List Int

/-- Window width, in codes, that R108 predicts for the target period: from a phase's latest on-time and off-time in ns,
the string voltage before and after the jump in mV, the target period in ns and the width (log 72: the spec names what
the prediction rests on and gives no formula). -/
opaque rescaledWidth : Nat → Nat → Int → Int → Nat → Nat → Nat

/-- Expected difference of two dies' readings under the factory gradient model of R364, 0.01 °C, at a line time: it
follows their estimated dissipation, for which the spec gives no formula (log 6). -/
opaque dieGradient : Nat → Nat → Nat → Int

/-- Frequency trim in ppb that the proportional-integral servo of R301 sets after an offset in 0.1 ns
(log 7: the gains are not given). -/
opaque servoTrim : Int → Int → Int

/-- cos and sin of 2π·f·t for the lock-in of R199, in units of 2^-30: walk length in cycles, cycle length in µs,
time since the start of integration in ns (log 8). -/
opaque cosTurn : Nat → Nat → Nat → Int
opaque sinTurn : Nat → Nat → Nat → Int

/-- Natural logarithm of r / 10000 in units of 10^-9 for an NTC resistance r in 0.1 Ω (log 9). -/
opaque lnRatio : Nat → Int

/-- The Harund firmware key in the boot ROM (R443): X and Y of a P-256 point (log 10). -/
opaque firmwareKey : Nat × Nat

/-- The factory serial number of this module (R480). -/
opaque serial : BitVec 64

/-- GLB_REV.CODE, 0 for LMT256-AS and 1 for LMT256-AX (R479). -/
opaque orderingCode : Bool

/-- Low 16 bits of the signature that a slice left (R437) at its n-th end (log 11). -/
opaque sliceSignature : Nat → Nat → BitVec 16

/-- Standard deviation of single values in µΩ, SD_T1 of an EDGE_R record (R207; its formula is not given, log 17). -/
opaque spread : List Int → Nat

/-- Residual variance of R203 in 10^-12 µV² from n, Στ, Στ², Στu, Σu and Σu² (the rule does not define it, log 17). -/
opaque residualVariance : Nat → Int → Int → Int → Int → Int → Nat

/-- The control-connector pins of the boundary register, the one nearest TDO first, and the instruction codes, the bit
shifted out first at the head (R505 gives neither; log 104). -/
opaque scanPins : List Nat
opaque tapCode : List Bool → Option (Fin 4)
opaque irLength : Nat

/-- PARK_ID of a head's PARK_ALL before its first (R284: chosen by the head, different for each issue; log 43). -/
opaque parkIdBase : BitVec 16

end Sys2Proof.Config
end

