-- ==== Sys2Proof/Machine/Vec.lean ====
section
/-!
DEFINITION. Reading and writing one entry of a table, and the small list functions that the machine uses.
-/

namespace Sys2Proof

/-- Entry i. -/
def Vec.get {α : Type} {n : Nat} (v : Vec α n) (i : Fin n) : α :=
  v.toList[i.val]'(by rw [v.len]; exact i.isLt)

/-- Entry i replaced. -/
def Vec.set {α : Type} {n : Nat} (v : Vec α n) (i : Fin n) (a : α) : Vec α n :=
  ⟨v.toList.set i.val a, by rw [List.length_set]; exact v.len⟩

/-- Entry i changed by f. -/
def Vec.modify {α : Type} {n : Nat} (v : Vec α n) (i : Fin n) (f : α → α) : Vec α n := v.set i (f (v.get i))

/-- Every entry changed by f. -/
def Vec.map {α β : Type} {n : Nat} (v : Vec α n) (f : α → β) : Vec β n :=
  ⟨v.toList.map f, by rw [List.length_map]; exact v.len⟩

/-- Every entry changed by f, which also takes its index. -/
def Vec.mapIdx {α β : Type} {n : Nat} (v : Vec α n) (f : Nat → α → β) : Vec β n :=
  ⟨v.toList.mapIdx f, by rw [List.length_mapIdx]; exact v.len⟩

/-- Indices 0 to n - 1. -/
def indices (n : Nat) : List (Fin n) := List.finRange n

namespace Machine

/-- Index of a segment, cell or phase from a number, reduced to the range. -/
def seg (n : Nat) : Seg := Fin.ofNat 16 n
def cell (n : Nat) : Cell := Fin.ofNat 256 n
def phase (n : Nat) : Phase := Fin.ofNat 8 n
def slice (n : Nat) : Slice := Fin.ofNat 64 n

/-- Segment of a cell and its local index (R4). -/
def segOf (k : Cell) : Seg := seg (k.val / 16)
def localOf (k : Cell) : Nat := k.val % 16
/-- Cell c of segment s (R4). -/
def cellOf (s : Seg) (c : Nat) : Cell := cell (s.val * 16 + c % 16)
/-- The sixteen cells of a segment. -/
def cellsOf (s : Seg) : List Cell := (List.range 16).map (cellOf s)
/-- Every cell, every segment. -/
def allCells : List Cell := indices 256
def allSegs : List Seg := indices 16
def allPhases : List Phase := indices 8
def allSlices : List Slice := indices 64

/-- Line time and its differences are taken modulo 2^64 (R5). -/
def timeAdd (a b : Nat) : Nat := (a + b) % 18446744073709551616

/-- Saturating increment. -/
def satAdd (limit a b : Nat) : Nat := Nat.min limit (a + b)

/-- Value of a key in an association list. -/
def find? {α : Type} [DecidableEq α] {β : Type} (l : List (α × β)) (k : α) : Option β :=
  match l with
  | [] => none
  | (a, b) :: t => if a = k then some b else find? t k

/-- An association list with one entry for the key. -/
def assign {α : Type} [DecidableEq α] {β : Type} (l : List (α × β)) (k : α) (b : β) : List (α × β) :=
  (k, b) :: l.filter (fun e => !decide (e.1 = k))

/-- Sum of a list of numbers. -/
def sumNat (l : List Nat) : Nat := l.foldl (· + ·) 0
def sumInt (l : List Int) : Int := l.foldl (· + ·) 0

/-- Absolute value of an integer as a natural number. -/
def absI (x : Int) : Nat := x.natAbs

/-- Integer between two bounds. -/
def clampInt (lo hi x : Int) : Int := if x < lo then lo else if hi < x then hi else x

/-- Mean of a list of integers, rounded as the free constant of log 5 says where it is not whole. -/
def divI (a b : Int) : Int :=
  if b = 0 then 0 else if a % b = 0 then a / b else if Config.roundsUp a b then a / b + 1 else a / b

end Machine
end Sys2Proof
end

