-- ==== Sys2Proof/Machine/Registers.lean ====
section
/-!
DEFINITION. The register index (R491): offset, lock bit, writable masks and reset value of every register, from the
register tables of the chapters, and a name for every field that can be written.
-/

namespace Sys2Proof.Machine

/-- Registers of one name: `count` of them from `base`, `stride` apart; `block` is the GLB_LOCK bit (16: GLB, which
no bit locks); masks of the RW, RWS, W1C and WO bits; reset value of the RW and RWS bits. -/
structure RegDef where
  base : Nat
  stride : Nat
  count : Nat
  block : Nat
  rw : Word
  rws : Word
  w1c : Word
  wo : Word
  reset : Word
  deriving DecidableEq, Repr

/-- A field: offset of its register, lowest bit, width. -/
structure Field where
  off : Nat
  lo : Nat
  width : Nat
  deriving DecidableEq, Repr

/-- Registers of block PLAY: PLAY_CTRL, PLAY_STATUS, PLAY_ACTIVE_SLOT, PLAY_STAGED_SLOT, PLAY_EDGE_BUDGET, PLAY_STEP_INDEX, PLAY_FLACON_POLICY, PLAY_CYCLE_COUNT. -/
def regsPlay : List RegDef :=
  [⟨0x2800, 0x4, 1, 5, 0x0, 0x3, 0x0, 0x0, 0x0⟩,
   ⟨0x2804, 0x4, 1, 5, 0x0, 0x0, 0x0, 0x0, 0x0⟩,
   ⟨0x2808, 0x4, 1, 5, 0x0, 0x0, 0x0, 0x0, 0x0⟩,
   ⟨0x280C, 0x4, 1, 5, 0x0, 0x0, 0x0, 0x0, 0x0⟩,
   ⟨0x2814, 0x4, 1, 5, 0x0, 0x0, 0x0, 0x0, 0x0⟩,
   ⟨0x2818, 0x4, 1, 5, 0x0, 0x0, 0x0, 0x0, 0x0⟩,
   ⟨0x281C, 0x4, 1, 5, 0xFFFF0003, 0x0, 0x0, 0x0, 0x0⟩,
   ⟨0x2810, 0x4, 1, 5, 0x0, 0x0, 0x0, 0x0, 0x0⟩]

/-- Registers of block SPC: SPC_CTRL, SPC_STATUS, SPC_PHASE_ENABLE, SPC_PHASE_HEALTH, SPC_FSW_TARGET, SPC_PHASE_IMAX, SPC_SHED_CFG, SPC_TON_MAX, SPC_SENSE_GAIN, SPC_SENSE_OFFSET, SPC_XCHECK_CFG, SPC_VSTRING_LIMIT, SPC_RAMP_LIMIT. -/
def regsSpc : List RegDef :=
  [⟨0x3000, 0x4, 1, 6, 0x0, 0xF, 0x0, 0x0, 0xE⟩,
   ⟨0x3004, 0x4, 1, 6, 0x0, 0x0, 0x0, 0x0, 0x0⟩,
   ⟨0x3008, 0x4, 1, 6, 0x0, 0xFF, 0x0, 0x0, 0x0⟩,
   ⟨0x300C, 0x4, 1, 6, 0x0, 0x0, 0xFF, 0x0, 0x0⟩,
   ⟨0x3010, 0x4, 1, 6, 0x0, 0xFFF01FF, 0x0, 0x0, 0x100064⟩,
   ⟨0x3014, 0x4, 1, 6, 0x0, 0xFFF0FFF, 0x0, 0x0, 0x0⟩,
   ⟨0x3018, 0x4, 1, 6, 0x0, 0xFFFFFFFF, 0x0, 0x0, 0x6413C5A⟩,
   ⟨0x301C, 0x4, 1, 6, 0x0, 0xFFFF, 0x0, 0x0, 0x1388⟩,
   ⟨0x3020, 0x4, 8, 6, 0x0, 0x8000FFFF, 0x0, 0x0, 0x1388⟩,
   ⟨0x3040, 0x4, 8, 6, 0x0, 0xFFF, 0x0, 0x0, 0x800⟩,
   ⟨0x3060, 0x4, 1, 6, 0x0, 0xFFFFF, 0x0, 0x0, 0x64032⟩,
   ⟨0x3064, 0x4, 1, 6, 0x0, 0x7FF, 0x0, 0x0, 0x578⟩,
   ⟨0x3068, 0x4, 1, 6, 0x0, 0xFFFFFF, 0x0, 0x0, 0x4E20⟩]

/-- Registers of block STEP: STEP_CTRL, STEP_STATUS, STEP_ACK_WINDOW, STEP_ACK_DWELL, STEP_TIMEOUT, STEP_LAST_SEQ, STEP_NAK_CAUSE. -/
def regsStep : List RegDef :=
  [⟨0x3800, 0x4, 1, 7, 0x1, 0x6, 0x0, 0x0, 0x2⟩,
   ⟨0x3804, 0x4, 1, 7, 0x0, 0x0, 0x0, 0x0, 0x0⟩,
   ⟨0x3808, 0x4, 1, 7, 0x0, 0xFFFFF, 0x0, 0x0, 0x7D0⟩,
   ⟨0x380C, 0x4, 1, 7, 0x0, 0xFFFF, 0x0, 0x0, 0x32⟩,
   ⟨0x3810, 0x4, 1, 7, 0x0, 0xFFFFFFFF, 0x0, 0x0, 0x1E8480⟩,
   ⟨0x3814, 0x4, 1, 7, 0x0, 0x0, 0x0, 0x0, 0x0⟩,
   ⟨0x3818, 0x4, 1, 7, 0x0, 0x0, 0x0, 0x0, 0x0⟩]

/-- Registers of block MEAS: MEAS_CTRL, MEAS_DEFAULT_CORNER, MEAS_XCHECK_LIMIT, MEAS_SHUNT_CFG, MEAS_SHUNT_XCHECK, MEAS_GUARD_TIME, MEAS_STREAM_CFG, MEAS_CONTACT_LIMIT. -/
def regsMeas : List RegDef :=
  [⟨0x4000, 0x4, 1, 8, 0x8, 0x17, 0x0, 0x0, 0x1F⟩,
   ⟨0x4004, 0x4, 1, 8, 0x0, 0x7, 0x0, 0x0, 0x1⟩,
   ⟨0x4008, 0x4, 1, 8, 0x0, 0xFF00FFFF, 0x0, 0x0, 0x1900812C⟩,
   ⟨0x400C, 0x4, 1, 8, 0x0, 0x7, 0x30, 0x0, 0x4⟩,
   ⟨0x4010, 0x4, 1, 8, 0x0, 0xFFFFFF, 0x0, 0x0, 0x501F4⟩,
   ⟨0x4014, 0x4, 1, 8, 0x0, 0xFFFF, 0x0, 0x0, 0x7D0⟩,
   ⟨0x4018, 0x4, 1, 8, 0x0, 0xFFF, 0x0, 0x0, 0x464⟩,
   ⟨0x401C, 0x4, 1, 8, 0x0, 0xFFFFFFF, 0x0, 0x0, 0x3324E20⟩]

/-- Registers of block ANA: ANA_CTRL, ANA_KERNEL_ENABLE, ANA_TALLY_CFG, ANA_EDGER_CFG, ANA_SWEEPZ_CFG, ANA_TAPER_CFG, ANA_KVAL_CFG, ANA_DQDV_CFG, ANA_RESULT_POLICY. -/
def regsAna : List RegDef :=
  [⟨0x4800, 0x4, 1, 9, 0x0, 0x0, 0x0, 0x7, 0x0⟩,
   ⟨0x4804, 0x4, 1, 9, 0x0, 0x7E, 0x0, 0x0, 0x7E⟩,
   ⟨0x4808, 0x4, 1, 9, 0x0, 0xFFFFFFFF, 0x0, 0x0, 0xA0C03E8⟩,
   ⟨0x480C, 0x4, 1, 9, 0x0, 0xFF7FFFFF, 0x0, 0x0, 0xA43E80A⟩,
   ⟨0x4810, 0x4, 1, 9, 0x0, 0xFFFF, 0x0, 0x0, 0xA0A⟩,
   ⟨0x4814, 0x4, 1, 9, 0x0, 0xFFFFFF, 0x0, 0x0, 0x401F4⟩,
   ⟨0x4818, 0x4, 1, 9, 0x0, 0xFFFFFFF, 0x0, 0x0, 0x814000⟩,
   ⟨0x481C, 0x4, 1, 9, 0x0, 0xFFFFF, 0x0, 0x0, 0x1388⟩,
   ⟨0x4820, 0x4, 1, 9, 0xFFFFF001, 0x0, 0x0, 0x0, 0x0⟩]

/-- Registers of block PWR: PWR_DOMAIN_STATUS, PWR_DOMAIN_FORCE, PWR_LATENCY_BUDGET, PWR_STATE, PWR_DRYDOWN_PERIOD, PWR_DRYDOWN_CFG, PWR_WAKE_CFG, PWR_WAKE_CAUSE, PWR_AUX_MON. -/
def regsPwr : List RegDef :=
  [⟨0x800, 0x4, 1, 0, 0x0, 0x0, 0x0, 0x0, 0x0⟩,
   ⟨0x804, 0x4, 1, 0, 0xFFFFFE, 0x0, 0x0, 0x0, 0x0⟩,
   ⟨0x808, 0x4, 1, 0, 0xFFFFFFFF, 0x0, 0x0, 0x0, 0x0⟩,
   ⟨0x80C, 0x4, 1, 0, 0x0, 0x0, 0x0, 0x0, 0x0⟩,
   ⟨0x810, 0x4, 1, 0, 0x1FFFF, 0x0, 0x0, 0x0, 0xE10⟩,
   ⟨0x814, 0x4, 1, 0, 0xFFFF03, 0x0, 0x0, 0x0, 0x3C0102⟩,
   ⟨0x818, 0x4, 1, 0, 0x73F, 0x0, 0x0, 0x0, 0x73F⟩,
   ⟨0x81C, 0x4, 1, 0, 0x0, 0x0, 0xF, 0x0, 0x0⟩,
   ⟨0x820, 0x4, 1, 0, 0x0, 0x0, 0x0, 0x0, 0x0⟩]

/-- Registers of block LOOP: LOOP_CTRL, LOOP_STATUS, LOOP_ROLE, LOOP_TIMEOUT, LOOP_POSITION, LOOP_LENGTH, LOOP_HOPLAT_A, LOOP_HOPLAT_B, LOOP_ERRCNT_A, LOOP_ERRCNT_B, LOOP_ORPHAN_CFG. -/
def regsLoop : List RegDef :=
  [⟨0x1800, 0x4, 1, 2, 0x33, 0x0, 0x0, 0xC, 0x3⟩,
   ⟨0x1804, 0x4, 1, 2, 0x0, 0x0, 0x20, 0x0, 0x0⟩,
   ⟨0x1808, 0x4, 1, 2, 0x6, 0x0, 0x0, 0x0, 0x0⟩,
   ⟨0x180C, 0x4, 1, 2, 0xFFFF, 0x0, 0x0, 0x0, 0xC8⟩,
   ⟨0x1810, 0x4, 1, 2, 0x0, 0x0, 0x0, 0x0, 0x0⟩,
   ⟨0x1814, 0x4, 1, 2, 0x0, 0x0, 0x0, 0x0, 0x0⟩,
   ⟨0x1818, 0x4, 1, 2, 0x0, 0x0, 0x0, 0x0, 0x0⟩,
   ⟨0x181C, 0x4, 1, 2, 0x0, 0x0, 0x0, 0x0, 0x0⟩,
   ⟨0x1820, 0x4, 1, 2, 0x0, 0x0, 0x0, 0x0, 0x0⟩,
   ⟨0x1824, 0x4, 1, 2, 0x0, 0x0, 0x0, 0x0, 0x0⟩,
   ⟨0x1828, 0x4, 1, 2, 0xFFFFF, 0x0, 0x0, 0x0, 0x1388⟩]

/-- Registers of block TIME: TIME_NOW_LO, TIME_NOW_HI, TIME_CTRL, TIME_STATUS, TIME_OFFSET, TIME_FREQ_TRIM, TIME_PTM_CFG, TIME_HOLDOVER. -/
def regsTime : List RegDef :=
  [⟨0x2000, 0x4, 1, 3, 0xFFFFFFFF, 0x0, 0x0, 0x0, 0x0⟩,
   ⟨0x2004, 0x4, 1, 3, 0xFFFFFFFF, 0x0, 0x0, 0x0, 0x0⟩,
   ⟨0x2008, 0x4, 1, 3, 0xFFFF1F, 0x0, 0x0, 0x0, 0x320A13⟩,
   ⟨0x200C, 0x4, 1, 3, 0x0, 0x0, 0x10000, 0x0, 0x0⟩,
   ⟨0x2010, 0x4, 1, 3, 0x0, 0x0, 0x0, 0x0, 0x0⟩,
   ⟨0x2014, 0x4, 1, 3, 0xFFFFFF, 0x0, 0x0, 0x0, 0x0⟩,
   ⟨0x2018, 0x4, 1, 3, 0xFFFF01, 0x0, 0x0, 0x0, 0x320A01⟩,
   ⟨0x201C, 0x4, 1, 3, 0xFFFF0000, 0x0, 0x0, 0x0, 0x3C0000⟩]

/-- Registers of block ACC: ACC_ID, ACC_STATE, ACC_STAGED_COUNT, ACC_COMMIT_TIME_LO, ACC_COMMIT_TIME_HI, ACC_GRACE. -/
def regsAcc : List RegDef :=
  [⟨0x2400, 0x4, 1, 4, 0x0, 0x0, 0x0, 0x0, 0x0⟩,
   ⟨0x2404, 0x4, 1, 4, 0x0, 0x0, 0x0, 0x0, 0x0⟩,
   ⟨0x2408, 0x4, 1, 4, 0x0, 0x0, 0x0, 0x0, 0x0⟩,
   ⟨0x240C, 0x4, 1, 4, 0x0, 0x0, 0x0, 0x0, 0x0⟩,
   ⟨0x2410, 0x4, 1, 4, 0x0, 0x0, 0x0, 0x0, 0x0⟩,
   ⟨0x2414, 0x4, 1, 4, 0xFFFFFF, 0x0, 0x0, 0x0, 0x186A0⟩]

/-- Registers of block HOST: HOST_CTRL, HOST_STATUS, HOST_CMD_BASE_LO, HOST_CPL_BASE_LO, HOST_RES_BASE_LO, HOST_CMD_BASE_HI, HOST_CPL_BASE_HI, HOST_RES_BASE_HI, HOST_CMD_SIZE, HOST_CPL_SIZE, HOST_RES_SIZE, HOST_MSIX_MAP, HOST_COALESCE, HOST_ERR. -/
def regsHost : List RegDef :=
  [⟨0x1000, 0x4, 1, 1, 0xFFFF003D, 0x0, 0x0, 0x2, 0x7D00000⟩,
   ⟨0x1004, 0x4, 1, 1, 0x0, 0x0, 0x0, 0x0, 0x0⟩,
   ⟨0x1008, 0x4, 1, 1, 0xFFFFF000, 0x0, 0x0, 0x0, 0x0⟩,
   ⟨0x1014, 0x4, 1, 1, 0xFFFFF000, 0x0, 0x0, 0x0, 0x0⟩,
   ⟨0x1020, 0x10, 4, 1, 0xFFFFF000, 0x0, 0x0, 0x0, 0x0⟩,
   ⟨0x100C, 0x4, 1, 1, 0xFFFFFFFF, 0x0, 0x0, 0x0, 0x0⟩,
   ⟨0x1018, 0x4, 1, 1, 0xFFFFFFFF, 0x0, 0x0, 0x0, 0x0⟩,
   ⟨0x1024, 0x10, 4, 1, 0xFFFFFFFF, 0x0, 0x0, 0x0, 0x0⟩,
   ⟨0x1010, 0x4, 1, 1, 0x1FFF, 0x0, 0x0, 0x0, 0x0⟩,
   ⟨0x101C, 0x4, 1, 1, 0x1FFF, 0x0, 0x0, 0x0, 0x0⟩,
   ⟨0x1028, 0x10, 4, 1, 0x1FFF, 0x0, 0x0, 0x0, 0x0⟩,
   ⟨0x1060, 0x4, 1, 1, 0xFFFFFFF, 0x0, 0x0, 0x0, 0x6543210⟩,
   ⟨0x1064, 0x4, 1, 1, 0xFFFFFF, 0x0, 0x0, 0x0, 0x1⟩,
   ⟨0x1068, 0x4, 1, 1, 0x0, 0x0, 0x7F, 0x0, 0x0⟩]

/-- Registers of block THERM: THERM_CTRL, THERM_STATUS, THERM_SHUTDOWN, THERM_RATE_CFG, THERM_XCHECK_CFG, THERM_MODEL_CFG, THERM_NVM_WINDOW, THERM_CELL_WINDOW, THERM_DIE_TEMP. -/
def regsTherm : List RegDef :=
  [⟨0x5000, 0x4, 1, 10, 0x0, 0x3, 0x0, 0x4, 0x3⟩,
   ⟨0x5004, 0x4, 1, 10, 0x0, 0x0, 0x0, 0x0, 0x0⟩,
   ⟨0x5008, 0x4, 1, 10, 0x0, 0x0, 0x0, 0x0, 0x0⟩,
   ⟨0x500C, 0x4, 1, 10, 0x0, 0x0, 0x0, 0x0, 0x0⟩,
   ⟨0x5010, 0x4, 1, 10, 0x0, 0xFFFFF00, 0x0, 0x0, 0x3643200⟩,
   ⟨0x5014, 0x4, 1, 10, 0x4, 0x0, 0x0, 0x0, 0x0⟩,
   ⟨0x5018, 0x4, 1, 10, 0xFFFF, 0x0, 0x0, 0x0, 0x69EC⟩,
   ⟨0x501C, 0x4, 1, 10, 0x0, 0xFFFFFFFF, 0x0, 0x0, 0x41EC3C00⟩,
   ⟨0x5020, 0x4, 17, 10, 0x0, 0x0, 0x0, 0x0, 0x0⟩]

/-- Registers of block FLT: FLT_CTRL, FLT_SUMMARY, FLT_CLEAR, FLT_SILLAGE_STATUS, FLT_FIRST_RECORD, FLT_OVERFLOW_COUNT, FLT_PIN_CFG, FLT_REACTION, FLT_STICKY. -/
def regsFlt : List RegDef :=
  [⟨0x5800, 0x4, 1, 11, 0xF, 0x0, 0x0, 0x70, 0x6⟩,
   ⟨0x5804, 0x4, 1, 11, 0x0, 0x0, 0x0, 0x0, 0x0⟩,
   ⟨0x5808, 0x4, 1, 11, 0x0, 0x0, 0x0, 0xFFFF, 0x0⟩,
   ⟨0x580C, 0x4, 1, 11, 0x0, 0x0, 0x0, 0x0, 0x0⟩,
   ⟨0x5810, 0x4, 8, 11, 0x0, 0x0, 0x0, 0x0, 0x0⟩,
   ⟨0x5830, 0x4, 1, 11, 0x0, 0x0, 0x0, 0x0, 0x0⟩,
   ⟨0x5840, 0x4, 1, 11, 0x3, 0x0, 0x0, 0x0, 0x1⟩,
   ⟨0x5900, 0x4, 256, 11, 0x1F, 0x0, 0x0, 0x0, 0x0⟩,
   ⟨0x5D00, 0x4, 8, 11, 0x0, 0x0, 0x0, 0x0, 0x0⟩]

/-- Registers of block BIST: BIST_CTRL, BIST_STATUS, BIST_PERIOD, BIST_SLICE_MAX, BIST_SLICE_ENABLE0, BIST_SLICE_ENABLE1, BIST_LAST_FAIL, BIST_ABORT_COUNT, BIST_ROUND_COUNT. -/
def regsBist : List RegDef :=
  [⟨0x6000, 0x4, 1, 12, 0x1, 0x0, 0x0, 0x0, 0x1⟩,
   ⟨0x6004, 0x4, 1, 12, 0x0, 0x0, 0x0, 0x0, 0x0⟩,
   ⟨0x6008, 0x4, 1, 12, 0xFFFFF, 0x0, 0x0, 0x0, 0x3E8⟩,
   ⟨0x600C, 0x4, 1, 12, 0x3F, 0x0, 0x0, 0x0, 0x0⟩,
   ⟨0x6010, 0x4, 1, 12, 0xFFFFFFFF, 0x0, 0x0, 0x0, 0xFFFFFFFF⟩,
   ⟨0x6014, 0x4, 1, 12, 0xFFF7F9FF, 0x0, 0x0, 0x0, 0xFFF7F9FF⟩,
   ⟨0x6018, 0x4, 1, 12, 0x0, 0x0, 0x0, 0x0, 0x0⟩,
   ⟨0x601C, 0x4, 1, 12, 0x0, 0x0, 0x0, 0x0, 0x0⟩,
   ⟨0x6020, 0x4, 1, 12, 0x0, 0x0, 0x0, 0x0, 0x0⟩]

/-- Registers of block CHK: CHK_CTRL, CHK_ALGO, CHK_START, CHK_LENGTH, CHK_STATUS, CHK_RUN_LO, CHK_RUN_HI, CHK_DIGEST. -/
def regsChk : List RegDef :=
  [⟨0x6800, 0x40, 4, 13, 0xC, 0x0, 0x0, 0x3, 0xC⟩,
   ⟨0x6804, 0x40, 4, 13, 0x3, 0x0, 0x0, 0x0, 0x0⟩,
   ⟨0x6808, 0x40, 4, 13, 0xFFFFFFFC, 0x0, 0x0, 0x0, 0x0⟩,
   ⟨0x680C, 0x40, 4, 13, 0x1FFFFFC, 0x0, 0x0, 0x0, 0x0⟩,
   ⟨0x6810, 0x40, 4, 13, 0x0, 0x0, 0x0, 0x0, 0x0⟩,
   ⟨0x6814, 0x40, 4, 13, 0xFFFFFFFF, 0x0, 0x0, 0x0, 0x0⟩,
   ⟨0x6818, 0x40, 4, 13, 0xFFFFFFFF, 0x0, 0x0, 0x0, 0x0⟩,
   ⟨0x6820, 0x4, 8, 13, 0xFFFFFFFF, 0x0, 0x0, 0x0, 0x0⟩,
   ⟨0x6860, 0x4, 8, 13, 0xFFFFFFFF, 0x0, 0x0, 0x0, 0x0⟩,
   ⟨0x68A0, 0x4, 8, 13, 0xFFFFFFFF, 0x0, 0x0, 0x0, 0x0⟩,
   ⟨0x68E0, 0x4, 8, 13, 0xFFFFFFFF, 0x0, 0x0, 0x0, 0x0⟩]

/-- Registers of block NVM: NVM_CTRL, NVM_STATUS, NVM_JOURNAL_HEAD, NVM_WRITE_INHIBIT_CAUSE, NVM_FW_SLOT_STATUS, NVM_FLACON_DIR, NVM_WEAR. -/
def regsNvm : List RegDef :=
  [⟨0x7000, 0x4, 1, 14, 0x3, 0x0, 0x0, 0x4, 0x1⟩,
   ⟨0x7004, 0x4, 1, 14, 0x0, 0x0, 0x0, 0x0, 0x0⟩,
   ⟨0x7008, 0x4, 1, 14, 0x0, 0x0, 0x0, 0x0, 0x0⟩,
   ⟨0x700C, 0x4, 1, 14, 0x0, 0x0, 0x0, 0x0, 0x0⟩,
   ⟨0x7010, 0x4, 1, 14, 0x0, 0x0, 0x0, 0x0, 0x0⟩,
   ⟨0x7014, 0x4, 1, 14, 0x0, 0x0, 0x0, 0x0, 0x0⟩,
   ⟨0x7018, 0x4, 1, 14, 0x0, 0x0, 0x0, 0x0, 0x0⟩]

/-- Registers of block GLB: GLB_ID, GLB_REV, GLB_SERIAL_LO, GLB_SERIAL_HI, GLB_STATE, GLB_RESET_CAUSE, GLB_STRAPS, GLB_CTRL, GLB_BLOCK_RESET, GLB_LOCK, GLB_SCRATCH, GLB_CAPS. -/
def regsGlb : List RegDef :=
  [⟨0x0, 0x4, 1, 16, 0x0, 0x0, 0x0, 0x0, 0x0⟩,
   ⟨0x4, 0x4, 1, 16, 0x0, 0x0, 0x0, 0x0, 0x0⟩,
   ⟨0x8, 0x4, 1, 16, 0x0, 0x0, 0x0, 0x0, 0x0⟩,
   ⟨0xC, 0x4, 1, 16, 0x0, 0x0, 0x0, 0x0, 0x0⟩,
   ⟨0x10, 0x4, 1, 16, 0x0, 0x0, 0x0, 0x0, 0x0⟩,
   ⟨0x14, 0x4, 1, 16, 0x0, 0x0, 0x0, 0x0, 0x0⟩,
   ⟨0x18, 0x4, 1, 16, 0x0, 0x0, 0x0, 0x0, 0x0⟩,
   ⟨0x1C, 0x4, 1, 16, 0x0, 0x0, 0x0, 0xFF01, 0x0⟩,
   ⟨0x20, 0x4, 1, 16, 0x0, 0x0, 0x0, 0x0, 0x0⟩,
   ⟨0x24, 0x4, 1, 16, 0xFFFF, 0x0, 0x0, 0x0, 0x0⟩,
   ⟨0x30, 0x4, 4, 16, 0xFFFFFFFF, 0x0, 0x0, 0x0, 0x0⟩,
   ⟨0x40, 0x4, 1, 16, 0x0, 0x0, 0x0, 0x0, 0x0⟩]

/-- Registers of one segment window (R488), by offset in the window: SEG_CELL_CFG, SEG_OV_LIMIT, SEG_UV_LIMIT, SEG_NTC_CFG, SEG_CELL_STATE, SEG_CELL_SUBST, SEG_KEEPER_STATUS, SEG_CTRL, SEG_STATUS, SEG_LINK_STATUS, SEG_FEED_CTRL. -/
def regsSeg : List RegDef :=
  [⟨0x40, 0x4, 16, 15, 0x400, 0x1FF, 0x0, 0x200, 0x31⟩,
   ⟨0x80, 0x4, 16, 15, 0x0, 0x1FF, 0x0, 0x0, 0x32⟩,
   ⟨0xC0, 0x4, 16, 15, 0x0, 0x3FF, 0x0, 0x0, 0x3C⟩,
   ⟨0x100, 0x4, 16, 15, 0x0, 0xFF03, 0x0, 0x0, 0x3⟩,
   ⟨0x140, 0x4, 16, 15, 0x0, 0x0, 0x0, 0x0, 0x0⟩,
   ⟨0x180, 0x4, 16, 15, 0x0, 0x0, 0x0, 0x0, 0x0⟩,
   ⟨0xC, 0x4, 1, 15, 0x0, 0x0, 0x2, 0x0, 0x0⟩,
   ⟨0x0, 0x4, 1, 15, 0xC, 0x0, 0x0, 0x3, 0xC⟩,
   ⟨0x4, 0x4, 1, 15, 0x0, 0x0, 0x0, 0x0, 0x0⟩,
   ⟨0x8, 0x4, 1, 15, 0x0, 0x0, 0x0, 0x0, 0x0⟩,
   ⟨0x10, 0x4, 1, 15, 0x1, 0x0, 0x0, 0x0, 0x0⟩]

/-- The block list that an offset below 0x8000 belongs to (R490). -/
def blockRegs (off : Nat) : List RegDef :=
  if off < 0x800 then regsGlb
  else if off < 0x1000 then regsPwr
  else if off < 0x1800 then regsHost
  else if off < 0x2000 then regsLoop
  else if off < 0x2400 then regsTime
  else if off < 0x2800 then regsAcc
  else if off < 0x3000 then regsPlay
  else if off < 0x3800 then regsSpc
  else if off < 0x4000 then regsStep
  else if off < 0x4800 then regsMeas
  else if off < 0x5000 then regsAna
  else if off < 0x5800 then regsTherm
  else if off < 0x6000 then regsFlt
  else if off < 0x6800 then regsBist
  else if off < 0x7000 then regsChk
  else regsNvm

/-- Whether a register of a definition lies at an offset. -/
def RegDef.covers (d : RegDef) (off : Nat) : Bool :=
  decide (d.base ≤ off) && decide ((off - d.base) % d.stride = 0) && decide ((off - d.base) / d.stride < d.count)

/-- The register at an offset; none for a hole or the calibration view (R469, R491). -/
def regAt (off : Nat) : Option RegDef :=
  if off < 0x8000 then (blockRegs off).find? (fun d => d.covers off)
  else if off < 0xC000 then regsSeg.find? (fun d => d.covers ((off - 0x8000) % 0x400))
  else none

/-! ### Fields that can be written -/

def Fld.segCellCfgCorner (k : Cell) : Field := ⟨0x8040 + 0x400 * (k.val / 16) + 4 * (k.val % 16), 0, 3⟩
def Fld.segCellCfgCornerOwn (k : Cell) : Field := ⟨0x8040 + 0x400 * (k.val / 16) + 4 * (k.val % 16), 3, 1⟩
def Fld.segCellCfgOvEn (k : Cell) : Field := ⟨0x8040 + 0x400 * (k.val / 16) + 4 * (k.val % 16), 4, 1⟩
def Fld.segCellCfgUvEn (k : Cell) : Field := ⟨0x8040 + 0x400 * (k.val / 16) + 4 * (k.val % 16), 5, 1⟩
def Fld.segCellCfgChgInhibit (k : Cell) : Field := ⟨0x8040 + 0x400 * (k.val / 16) + 4 * (k.val % 16), 6, 1⟩
def Fld.segCellCfgDisInhibit (k : Cell) : Field := ⟨0x8040 + 0x400 * (k.val / 16) + 4 * (k.val % 16), 7, 1⟩
def Fld.segCellCfgExclude (k : Cell) : Field := ⟨0x8040 + 0x400 * (k.val / 16) + 4 * (k.val % 16), 8, 1⟩
def Fld.segCellCfgParkReq (k : Cell) : Field := ⟨0x8040 + 0x400 * (k.val / 16) + 4 * (k.val % 16), 9, 1⟩
def Fld.segCellCfgOpenReq (k : Cell) : Field := ⟨0x8040 + 0x400 * (k.val / 16) + 4 * (k.val % 16), 10, 1⟩
def Fld.segOvLimitOvCode (k : Cell) : Field := ⟨0x8080 + 0x400 * (k.val / 16) + 4 * (k.val % 16), 0, 9⟩
def Fld.segUvLimitUvCode (k : Cell) : Field := ⟨0x80C0 + 0x400 * (k.val / 16) + 4 * (k.val % 16), 0, 10⟩
def Fld.segNtcCfgNtcEn (k : Cell) : Field := ⟨0x8100 + 0x400 * (k.val / 16) + 4 * (k.val % 16), 0, 1⟩
def Fld.segNtcCfgSubstEn (k : Cell) : Field := ⟨0x8100 + 0x400 * (k.val / 16) + 4 * (k.val % 16), 1, 1⟩
def Fld.segNtcCfgTOffset (k : Cell) : Field := ⟨0x8100 + 0x400 * (k.val / 16) + 4 * (k.val % 16), 8, 8⟩
def Fld.segKeeperStatusTripped (s : Seg) : Field := ⟨0x800C + 0x400 * s.val, 1, 1⟩
def Fld.playCtrlSwap : Field := ⟨0x2800, 0, 1⟩
def Fld.playCtrlRungFreeze : Field := ⟨0x2800, 1, 1⟩
def Fld.playFlaconPolicyRequireSig : Field := ⟨0x281C, 0, 1⟩
def Fld.playFlaconPolicyLock : Field := ⟨0x281C, 1, 1⟩
def Fld.playFlaconPolicyMinBuild : Field := ⟨0x281C, 16, 16⟩
def Fld.spcCtrlEn : Field := ⟨0x3000, 0, 1⟩
def Fld.spcCtrlFfEn : Field := ⟨0x3000, 1, 1⟩
def Fld.spcCtrlIlvEn : Field := ⟨0x3000, 2, 1⟩
def Fld.spcCtrlXcheckEn : Field := ⟨0x3000, 3, 1⟩
def Fld.spcPhaseEnableEn : Field := ⟨0x3008, 0, 8⟩
def Fld.spcPhaseHealthFailed : Field := ⟨0x300C, 0, 8⟩
def Fld.spcFswTargetFswKhz : Field := ⟨0x3010, 0, 9⟩
def Fld.spcFswTargetWMin : Field := ⟨0x3010, 16, 12⟩
def Fld.spcPhaseImaxImax : Field := ⟨0x3014, 0, 12⟩
def Fld.spcPhaseImaxIpeak : Field := ⟨0x3014, 16, 12⟩
def Fld.spcShedCfgAddPct : Field := ⟨0x3018, 0, 8⟩
def Fld.spcShedCfgShedPct : Field := ⟨0x3018, 8, 8⟩
def Fld.spcShedCfgMinActive : Field := ⟨0x3018, 16, 4⟩
def Fld.spcShedCfgShedDwell : Field := ⟨0x3018, 20, 12⟩
def Fld.spcTonMaxTonMax : Field := ⟨0x301C, 0, 16⟩
def Fld.spcSenseGainGain (i : Nat) : Field := ⟨0x3020 + 4 * i, 0, 16⟩
def Fld.spcSenseGainInvert (i : Nat) : Field := ⟨0x3020 + 4 * i, 31, 1⟩
def Fld.spcSenseOffsetOffset (i : Nat) : Field := ⟨0x3040 + 4 * i, 0, 12⟩
def Fld.spcXcheckCfgLimit : Field := ⟨0x3060, 0, 12⟩
def Fld.spcXcheckCfgRetryMs : Field := ⟨0x3060, 12, 8⟩
def Fld.spcVstringLimitLimitV : Field := ⟨0x3064, 0, 11⟩
def Fld.spcRampLimitRate : Field := ⟨0x3068, 0, 24⟩
def Fld.stepCtrlSource : Field := ⟨0x3800, 0, 1⟩
def Fld.stepCtrlMirror : Field := ⟨0x3800, 1, 1⟩
def Fld.stepCtrlPinsEn : Field := ⟨0x3800, 2, 1⟩
def Fld.stepAckWindowWindow : Field := ⟨0x3808, 0, 20⟩
def Fld.stepAckDwellDwellUs : Field := ⟨0x380C, 0, 16⟩
def Fld.stepTimeoutTimeoutUs : Field := ⟨0x3810, 0, 32⟩
def Fld.measCtrlVerifyEn : Field := ⟨0x4000, 0, 1⟩
def Fld.measCtrlTakeoverEn : Field := ⟨0x4000, 1, 1⟩
def Fld.measCtrlContactEn : Field := ⟨0x4000, 2, 1⟩
def Fld.measCtrlOpenTestEn : Field := ⟨0x4000, 3, 1⟩
def Fld.measCtrlStackEn : Field := ⟨0x4000, 4, 1⟩
def Fld.measDefaultCornerCorner : Field := ⟨0x4004, 0, 3⟩
def Fld.measXcheckLimitLimit : Field := ⟨0x4008, 0, 12⟩
def Fld.measXcheckLimitMissN : Field := ⟨0x4008, 12, 4⟩
def Fld.measXcheckLimitStackLimit : Field := ⟨0x4008, 24, 8⟩
def Fld.measShuntCfgUse : Field := ⟨0x400C, 0, 2⟩
def Fld.measShuntCfgAutoExclude : Field := ⟨0x400C, 2, 1⟩
def Fld.measShuntCfgExcluded : Field := ⟨0x400C, 4, 2⟩
def Fld.measShuntXcheckLimit : Field := ⟨0x4010, 0, 16⟩
def Fld.measShuntXcheckDwellMs : Field := ⟨0x4010, 16, 8⟩
def Fld.measGuardTimeGuard : Field := ⟨0x4014, 0, 16⟩
def Fld.measStreamCfgMarkMs : Field := ⟨0x4018, 0, 8⟩
def Fld.measStreamCfgShuntDecim : Field := ⟨0x4018, 8, 4⟩
def Fld.measContactLimitLimit : Field := ⟨0x401C, 0, 16⟩
def Fld.measContactLimitOpenLimit : Field := ⟨0x401C, 16, 8⟩
def Fld.measContactLimitCount : Field := ⟨0x401C, 24, 4⟩
def Fld.anaCtrlSnapNow : Field := ⟨0x4800, 0, 1⟩
def Fld.anaCtrlKvalSnap : Field := ⟨0x4800, 1, 1⟩
def Fld.anaCtrlKvalReset : Field := ⟨0x4800, 2, 1⟩
def Fld.anaKernelEnableKernels : Field := ⟨0x4804, 1, 6⟩
def Fld.anaTallyCfgPeriod : Field := ⟨0x4808, 0, 16⟩
def Fld.anaTallyCfgZeroMaxH : Field := ⟨0x4808, 16, 8⟩
def Fld.anaTallyCfgSnapPeriod : Field := ⟨0x4808, 24, 8⟩
def Fld.anaEdgerCfgT1 : Field := ⟨0x480C, 0, 8⟩
def Fld.anaEdgerCfgT2 : Field := ⟨0x480C, 8, 12⟩
def Fld.anaEdgerCfgNLog2 : Field := ⟨0x480C, 20, 3⟩
def Fld.anaEdgerCfgIMin : Field := ⟨0x480C, 24, 8⟩
def Fld.anaSweepzCfgExclPermil : Field := ⟨0x4810, 0, 8⟩
def Fld.anaSweepzCfgMinAmpl : Field := ⟨0x4810, 8, 8⟩
def Fld.anaTaperCfgBand : Field := ⟨0x4814, 0, 16⟩
def Fld.anaTaperCfgNConfirm : Field := ⟨0x4814, 16, 8⟩
def Fld.anaKvalCfgTc : Field := ⟨0x4818, 0, 12⟩
def Fld.anaKvalCfgTBand : Field := ⟨0x4818, 12, 8⟩
def Fld.anaKvalCfgMinN : Field := ⟨0x4818, 20, 8⟩
def Fld.anaDqdvCfgBinUv : Field := ⟨0x481C, 0, 16⟩
def Fld.anaDqdvCfgScaleMin : Field := ⟨0x481C, 16, 4⟩
def Fld.anaResultPolicyFullMode : Field := ⟨0x4820, 0, 1⟩
def Fld.anaResultPolicyRingMap : Field := ⟨0x4820, 12, 20⟩
def Fld.pwrDomainForceHubForce : Field := ⟨0x804, 1, 7⟩
def Fld.pwrDomainForceSegForce : Field := ⟨0x804, 8, 16⟩
def Fld.pwrLatencyBudgetBudgetUs : Field := ⟨0x808, 0, 32⟩
def Fld.pwrDrydownPeriodPeriodS : Field := ⟨0x810, 0, 17⟩
def Fld.pwrDrydownCfgEn : Field := ⟨0x814, 0, 1⟩
def Fld.pwrDrydownCfgDormantPatrol : Field := ⟨0x814, 1, 1⟩
def Fld.pwrDrydownCfgLogEvery : Field := ⟨0x814, 8, 8⟩
def Fld.pwrDrydownCfgEntryDelayS : Field := ⟨0x814, 16, 8⟩
def Fld.pwrWakeCfgAnomWake : Field := ⟨0x818, 0, 6⟩
def Fld.pwrWakeCfgWakeNEn : Field := ⟨0x818, 8, 1⟩
def Fld.pwrWakeCfgLoopWakeTx : Field := ⟨0x818, 9, 1⟩
def Fld.pwrWakeCfgLoopWakeRx : Field := ⟨0x818, 10, 1⟩
def Fld.pwrWakeCauseCommand : Field := ⟨0x81C, 0, 1⟩
def Fld.pwrWakeCauseLoopSymbol : Field := ⟨0x81C, 1, 1⟩
def Fld.pwrWakeCauseAnomaly : Field := ⟨0x81C, 2, 1⟩
def Fld.pwrWakeCauseBudget : Field := ⟨0x81C, 3, 1⟩
def Fld.segCtrlSegReset (s : Seg) : Field := ⟨0x8000 + 0x400 * s.val, 0, 1⟩
def Fld.segCtrlLinkRetrain (s : Seg) : Field := ⟨0x8000 + 0x400 * s.val, 1, 1⟩
def Fld.segCtrlC0En (s : Seg) : Field := ⟨0x8000 + 0x400 * s.val, 2, 1⟩
def Fld.segCtrlC1En (s : Seg) : Field := ⟨0x8000 + 0x400 * s.val, 3, 1⟩
def Fld.segFeedCtrlFeedEn (s : Seg) : Field := ⟨0x8010 + 0x400 * s.val, 0, 1⟩
def Fld.loopCtrlAEn : Field := ⟨0x1800, 0, 1⟩
def Fld.loopCtrlBEn : Field := ⟨0x1800, 1, 1⟩
def Fld.loopCtrlRetrainA : Field := ⟨0x1800, 2, 1⟩
def Fld.loopCtrlRetrainB : Field := ⟨0x1800, 3, 1⟩
def Fld.loopCtrlResDir : Field := ⟨0x1800, 4, 2⟩
def Fld.loopStatusWakeSeen : Field := ⟨0x1804, 5, 1⟩
def Fld.loopRoleTopo : Field := ⟨0x1808, 1, 1⟩
def Fld.loopRoleHeadNo : Field := ⟨0x1808, 2, 1⟩
def Fld.loopTimeoutTimeoutMs : Field := ⟨0x180C, 0, 16⟩
def Fld.loopOrphanCfgRamp : Field := ⟨0x1828, 0, 20⟩
def Fld.timeNowLoNowLo : Field := ⟨0x2000, 0, 32⟩
def Fld.timeNowHiNowHi : Field := ⟨0x2004, 0, 32⟩
def Fld.timeCtrlFollow : Field := ⟨0x2008, 0, 1⟩
def Fld.timeCtrlTxEn : Field := ⟨0x2008, 1, 1⟩
def Fld.timeCtrlSrcSel : Field := ⟨0x2008, 2, 2⟩
def Fld.timeCtrlStepEn : Field := ⟨0x2008, 4, 1⟩
def Fld.timeCtrlStepUs : Field := ⟨0x2008, 8, 8⟩
def Fld.timeCtrlSlewPpm : Field := ⟨0x2008, 16, 8⟩
def Fld.timeStatusStepped : Field := ⟨0x200C, 16, 1⟩
def Fld.timeFreqTrimTrim : Field := ⟨0x2014, 0, 24⟩
def Fld.timePtmCfgPtmEn : Field := ⟨0x2018, 0, 1⟩
def Fld.timePtmCfgIntervalMs : Field := ⟨0x2018, 8, 8⟩
def Fld.timePtmCfgLossMs : Field := ⟨0x2018, 16, 8⟩
def Fld.timeHoldoverLimitS : Field := ⟨0x201C, 16, 16⟩
def Fld.accGraceGraceUs : Field := ⟨0x2414, 0, 24⟩
def Fld.hostCtrlEn : Field := ⟨0x1000, 0, 1⟩
def Fld.hostCtrlResetRings : Field := ⟨0x1000, 1, 1⟩
def Fld.hostCtrlStreamRing : Field := ⟨0x1000, 2, 2⟩
def Fld.hostCtrlNoticeRing : Field := ⟨0x1000, 4, 2⟩
def Fld.hostCtrlCmdTimeoutMs : Field := ⟨0x1000, 16, 16⟩
def Fld.hostCmdBaseLoBaseLo : Field := ⟨0x1008, 12, 20⟩
def Fld.hostCplBaseLoBaseLo : Field := ⟨0x1014, 12, 20⟩
def Fld.hostResBaseLoBaseLo (i : Nat) : Field := ⟨0x1020 + 16 * i, 12, 20⟩
def Fld.hostCmdBaseHiBaseHi : Field := ⟨0x100C, 0, 32⟩
def Fld.hostCplBaseHiBaseHi : Field := ⟨0x1018, 0, 32⟩
def Fld.hostResBaseHiBaseHi (i : Nat) : Field := ⟨0x1024 + 16 * i, 0, 32⟩
def Fld.hostCmdSizeEntries : Field := ⟨0x1010, 0, 13⟩
def Fld.hostCplSizeEntries : Field := ⟨0x101C, 0, 13⟩
def Fld.hostResSizeEntries (i : Nat) : Field := ⟨0x1028 + 16 * i, 0, 13⟩
def Fld.hostMsixMapCplVec : Field := ⟨0x1060, 0, 4⟩
def Fld.hostMsixMapRes0Vec : Field := ⟨0x1060, 4, 4⟩
def Fld.hostMsixMapRes1Vec : Field := ⟨0x1060, 8, 4⟩
def Fld.hostMsixMapRes2Vec : Field := ⟨0x1060, 12, 4⟩
def Fld.hostMsixMapRes3Vec : Field := ⟨0x1060, 16, 4⟩
def Fld.hostMsixMapFaultVec : Field := ⟨0x1060, 20, 4⟩
def Fld.hostMsixMapErrVec : Field := ⟨0x1060, 24, 4⟩
def Fld.hostCoalesceCount : Field := ⟨0x1064, 0, 8⟩
def Fld.hostCoalesceTimeUs : Field := ⟨0x1064, 8, 16⟩
def Fld.hostErrConfig : Field := ⟨0x1068, 0, 1⟩
def Fld.hostErrCmdDb : Field := ⟨0x1068, 1, 1⟩
def Fld.hostErrCplDb : Field := ⟨0x1068, 2, 1⟩
def Fld.hostErrResDb : Field := ⟨0x1068, 3, 1⟩
def Fld.hostErrRingDma : Field := ⟨0x1068, 4, 1⟩
def Fld.hostErrBufDma : Field := ⟨0x1068, 5, 1⟩
def Fld.hostErrResetSeen : Field := ⟨0x1068, 6, 1⟩
def Fld.thermCtrlNtcXcheckEn : Field := ⟨0x5000, 0, 1⟩
def Fld.thermCtrlDieXcheckEn : Field := ⟨0x5000, 1, 1⟩
def Fld.thermCtrlSlowRound : Field := ⟨0x5000, 2, 1⟩
def Fld.thermXcheckCfgSegDelta : Field := ⟨0x5010, 8, 8⟩
def Fld.thermXcheckCfgDieLimit : Field := ⟨0x5010, 16, 8⟩
def Fld.thermXcheckCfgPersist : Field := ⟨0x5010, 24, 4⟩
def Fld.thermModelCfgForceConservative : Field := ⟨0x5014, 2, 1⟩
def Fld.thermNvmWindowTMin : Field := ⟨0x5018, 0, 8⟩
def Fld.thermNvmWindowTMax : Field := ⟨0x5018, 8, 8⟩
def Fld.thermCellWindowChgMin : Field := ⟨0x501C, 0, 8⟩
def Fld.thermCellWindowChgMax : Field := ⟨0x501C, 8, 8⟩
def Fld.thermCellWindowDisMin : Field := ⟨0x501C, 16, 8⟩
def Fld.thermCellWindowDisMax : Field := ⟨0x501C, 24, 8⟩
def Fld.fltCtrlRepeatMode : Field := ⟨0x5800, 0, 1⟩
def Fld.fltCtrlEvtRec : Field := ⟨0x5800, 1, 1⟩
def Fld.fltCtrlFirstMinClass : Field := ⟨0x5800, 2, 2⟩
def Fld.fltCtrlFirstRearm : Field := ⟨0x5800, 4, 1⟩
def Fld.fltCtrlOvfClear : Field := ⟨0x5800, 5, 1⟩
def Fld.fltCtrlCountClear : Field := ⟨0x5800, 6, 1⟩
def Fld.fltClearId : Field := ⟨0x5808, 0, 16⟩
def Fld.fltPinCfgEn : Field := ⟨0x5840, 0, 1⟩
def Fld.fltPinCfgForceLow : Field := ⟨0x5840, 1, 1⟩
def Fld.fltReactionIrq (i : Nat) : Field := ⟨0x5900 + 4 * i, 0, 1⟩
def Fld.fltReactionTrap (i : Nat) : Field := ⟨0x5900 + 4 * i, 1, 1⟩
def Fld.fltReactionBlockReset (i : Nat) : Field := ⟨0x5900 + 4 * i, 2, 1⟩
def Fld.fltReactionModuleReset (i : Nat) : Field := ⟨0x5900 + 4 * i, 3, 1⟩
def Fld.fltReactionPin (i : Nat) : Field := ⟨0x5900 + 4 * i, 4, 1⟩
def Fld.bistCtrlPeriodicEn : Field := ⟨0x6000, 0, 1⟩
def Fld.bistPeriodPeriodUs : Field := ⟨0x6008, 0, 20⟩
def Fld.bistSliceMaxSelect : Field := ⟨0x600C, 0, 6⟩
def Fld.bistSliceEnable0En : Field := ⟨0x6010, 0, 32⟩
def Fld.bistSliceEnable1En3240 : Field := ⟨0x6014, 0, 9⟩
def Fld.bistSliceEnable1En4350 : Field := ⟨0x6014, 11, 8⟩
def Fld.bistSliceEnable1En5263 : Field := ⟨0x6014, 20, 12⟩
def Fld.chkCtrlStart (i : Nat) : Field := ⟨0x6800 + 64 * i, 0, 1⟩
def Fld.chkCtrlAbort (i : Nat) : Field := ⟨0x6800 + 64 * i, 1, 1⟩
def Fld.chkCtrlInit (i : Nat) : Field := ⟨0x6800 + 64 * i, 2, 1⟩
def Fld.chkCtrlFinal (i : Nat) : Field := ⟨0x6800 + 64 * i, 3, 1⟩
def Fld.chkAlgoAlgo (i : Nat) : Field := ⟨0x6804 + 64 * i, 0, 2⟩
def Fld.chkStartAddr (i : Nat) : Field := ⟨0x6808 + 64 * i, 2, 30⟩
def Fld.chkLengthLen (i : Nat) : Field := ⟨0x680C + 64 * i, 2, 23⟩
def Fld.chkRunLoRunLo (i : Nat) : Field := ⟨0x6814 + 64 * i, 0, 32⟩
def Fld.chkRunHiRunHi (i : Nat) : Field := ⟨0x6818 + 64 * i, 0, 32⟩
def Fld.chkDigestWord (c w : Nat) : Field := ⟨0x6820 + 0x40 * c + 4 * w, 0, 32⟩
def Fld.nvmCtrlWriteEn : Field := ⟨0x7000, 0, 1⟩
def Fld.nvmCtrlAllowDowngrade : Field := ⟨0x7000, 1, 1⟩
def Fld.nvmCtrlLogCopy : Field := ⟨0x7000, 2, 1⟩
def Fld.glbCtrlResetReq : Field := ⟨0x1C, 0, 1⟩
def Fld.glbCtrlConfirm : Field := ⟨0x1C, 8, 8⟩
def Fld.glbLockPwr : Field := ⟨0x24, 0, 1⟩
def Fld.glbLockHost : Field := ⟨0x24, 1, 1⟩
def Fld.glbLockLoop : Field := ⟨0x24, 2, 1⟩
def Fld.glbLockTime : Field := ⟨0x24, 3, 1⟩
def Fld.glbLockAcc : Field := ⟨0x24, 4, 1⟩
def Fld.glbLockPlay : Field := ⟨0x24, 5, 1⟩
def Fld.glbLockSpc : Field := ⟨0x24, 6, 1⟩
def Fld.glbLockStep : Field := ⟨0x24, 7, 1⟩
def Fld.glbLockMeas : Field := ⟨0x24, 8, 1⟩
def Fld.glbLockAna : Field := ⟨0x24, 9, 1⟩
def Fld.glbLockTherm : Field := ⟨0x24, 10, 1⟩
def Fld.glbLockFlt : Field := ⟨0x24, 11, 1⟩
def Fld.glbLockBist : Field := ⟨0x24, 12, 1⟩
def Fld.glbLockChk : Field := ⟨0x24, 13, 1⟩
def Fld.glbLockNvm : Field := ⟨0x24, 14, 1⟩
def Fld.glbLockSeg : Field := ⟨0x24, 15, 1⟩
def Fld.glbScratchData (i : Nat) : Field := ⟨0x30 + 4 * i, 0, 32⟩

end Sys2Proof.Machine
end

