-- ==== Sys2Proof/Machine/Sources.lean ====
section
/-!
DEFINITION. The fault sources of R385: ID, reaction bits after a power-on reset, class in force, and the block resets
of R394.
-/

namespace Sys2Proof.Machine

/-- Every source, in ascending ID. -/
def allSources : List Src :=
  ([.gate, .noPath, .ovPark, .uvPark, .clampPark, .contactPark, .keeperTrip, .ntcPark] : List Src) ++
  ([.stepNak, .stepDeadline, .budgetOverrun, .swapFailed, .derated, .vstring, .phFlt, .noPhase] : List Src) ++
  ([.peak, .phaseFailed, .xchkUnresolved, .xchkHalt, .deadlineMiss, .stepLinkLost, .takeover, .primaryReturn] : List Src) ++
  ([.stackMismatch, .noCrosscheck, .captureClash, .shuntMismatch, .noShunt, .ocvLow, .ocvHigh, .patrolContact] : List Src) ++
  ([.patrolTemp, .zeroStale, .kvalOver, .recordDrop, .linkLost, .carrierLost, .trainFailed, .segLost] : List Src) ++
  ([.portDown, .orphan, .parkAll, .positionMismatch, .hostError, .pcieLinkDown, .cmdTimeout, .holdover] : List Src) ++
  ([.holdoverLimit, .slew, .accordSplit, .accordPartial, .shutdown, .ntcBroken, .ntcReturn, .dieBroken] : List Src) ++
  ([.dieNoReading, .dieReturn, .sliceSegment, .sliceSpc, .sliceHub, .sliceOther, .imageDamaged, .imageFail] : List Src) ++
  ([.calFail, .housekeeping, .auxSag, .feedFault, .estop, .writeFailed, .writeAbandoned, .journalDiscard] : List Src) ++
  ([.fwSlotInvalid, .wear, .lockstep, .sramCorrected, .sramUncorrectable, .segSramUncorrectable, .plausibility, .watchdog] : List Src)

/-- Source ID (R383, R385). -/
def srcId : Src → Nat
  | .gate => 0x0100
  | .noPath => 0x0101
  | .ovPark => 0x0102
  | .uvPark => 0x0103
  | .clampPark => 0x0104
  | .contactPark => 0x0105
  | .keeperTrip => 0x0106
  | .ntcPark => 0x0107
  | .stepNak => 0x0200
  | .stepDeadline => 0x0201
  | .budgetOverrun => 0x0202
  | .swapFailed => 0x0203
  | .derated => 0x0204
  | .vstring => 0x0300
  | .phFlt => 0x0301
  | .noPhase => 0x0302
  | .peak => 0x0303
  | .phaseFailed => 0x0304
  | .xchkUnresolved => 0x0305
  | .xchkHalt => 0x0306
  | .deadlineMiss => 0x0307
  | .stepLinkLost => 0x0308
  | .takeover => 0x0400
  | .primaryReturn => 0x0401
  | .stackMismatch => 0x0402
  | .noCrosscheck => 0x0403
  | .captureClash => 0x0404
  | .shuntMismatch => 0x0405
  | .noShunt => 0x0406
  | .ocvLow => 0x0407
  | .ocvHigh => 0x0408
  | .patrolContact => 0x0409
  | .patrolTemp => 0x040A
  | .zeroStale => 0x0500
  | .kvalOver => 0x0501
  | .recordDrop => 0x0502
  | .linkLost => 0x0600
  | .carrierLost => 0x0601
  | .trainFailed => 0x0602
  | .segLost => 0x0603
  | .portDown => 0x0700
  | .orphan => 0x0701
  | .parkAll => 0x0702
  | .positionMismatch => 0x0703
  | .hostError => 0x0800
  | .pcieLinkDown => 0x0801
  | .cmdTimeout => 0x0802
  | .holdover => 0x0900
  | .holdoverLimit => 0x0901
  | .slew => 0x0902
  | .accordSplit => 0x0903
  | .accordPartial => 0x0904
  | .shutdown => 0x0A00
  | .ntcBroken => 0x0A01
  | .ntcReturn => 0x0A02
  | .dieBroken => 0x0A03
  | .dieNoReading => 0x0A04
  | .dieReturn => 0x0A05
  | .sliceSegment => 0x0B00
  | .sliceSpc => 0x0B01
  | .sliceHub => 0x0B02
  | .sliceOther => 0x0B03
  | .imageDamaged => 0x0C00
  | .imageFail => 0x0C01
  | .calFail => 0x0C02
  | .housekeeping => 0x0D00
  | .auxSag => 0x0D01
  | .feedFault => 0x0D02
  | .estop => 0x0D03
  | .writeFailed => 0x0E00
  | .writeAbandoned => 0x0E01
  | .journalDiscard => 0x0E02
  | .fwSlotInvalid => 0x0E03
  | .wear => 0x0E04
  | .lockstep => 0x0F00
  | .sramCorrected => 0x0F01
  | .sramUncorrectable => 0x0F02
  | .segSramUncorrectable => 0x0F03
  | .plausibility => 0x0F04
  | .watchdog => 0x0F05

/-- Reaction bits of FLT_REACTION after a power-on reset: 1 I, 2 T, 4 B, 8 M, 16 P (R385, R391). -/
def srcDefault : Src → Nat
  | .gate => 1
  | .noPath => 17
  | .ovPark => 1
  | .uvPark => 1
  | .clampPark => 1
  | .contactPark => 1
  | .keeperTrip => 1
  | .ntcPark => 1
  | .stepNak => 17
  | .stepDeadline => 17
  | .budgetOverrun => 17
  | .swapFailed => 1
  | .derated => 0
  | .vstring => 17
  | .phFlt => 17
  | .noPhase => 17
  | .peak => 17
  | .phaseFailed => 1
  | .xchkUnresolved => 1
  | .xchkHalt => 17
  | .deadlineMiss => 17
  | .stepLinkLost => 17
  | .takeover => 1
  | .primaryReturn => 0
  | .stackMismatch => 1
  | .noCrosscheck => 0
  | .captureClash => 0
  | .shuntMismatch => 1
  | .noShunt => 17
  | .ocvLow => 1
  | .ocvHigh => 1
  | .patrolContact => 1
  | .patrolTemp => 1
  | .zeroStale => 0
  | .kvalOver => 1
  | .recordDrop => 0
  | .linkLost => 1
  | .carrierLost => 1
  | .trainFailed => 1
  | .segLost => 1
  | .portDown => 1
  | .orphan => 17
  | .parkAll => 0
  | .positionMismatch => 0
  | .hostError => 1
  | .pcieLinkDown => 1
  | .cmdTimeout => 0
  | .holdover => 1
  | .holdoverLimit => 1
  | .slew => 1
  | .accordSplit => 1
  | .accordPartial => 1
  | .shutdown => 17
  | .ntcBroken => 1
  | .ntcReturn => 0
  | .dieBroken => 1
  | .dieNoReading => 17
  | .dieReturn => 0
  | .sliceSegment => 1
  | .sliceSpc => 17
  | .sliceHub => 17
  | .sliceOther => 1
  | .imageDamaged => 0
  | .imageFail => 1
  | .calFail => 1
  | .housekeeping => 1
  | .auxSag => 0
  | .feedFault => 1
  | .estop => 17
  | .writeFailed => 1
  | .writeAbandoned => 0
  | .journalDiscard => 0
  | .fwSlotInvalid => 1
  | .wear => 0
  | .lockstep => 19
  | .sramCorrected => 0
  | .sramUncorrectable => 19
  | .segSramUncorrectable => 5
  | .plausibility => 17
  | .watchdog => 1

/-- Class of a source that is not selected by the module state, and otherwise its class outside the state named
in R385. -/
def srcClass : Src → FaultClass
  | .gate => .degraded
  | .noPath => .halt
  | .ovPark => .degraded
  | .uvPark => .degraded
  | .clampPark => .degraded
  | .contactPark => .degraded
  | .keeperTrip => .degraded
  | .ntcPark => .degraded
  | .stepNak => .halt
  | .stepDeadline => .halt
  | .budgetOverrun => .halt
  | .swapFailed => .degraded
  | .derated => .notice
  | .vstring => .halt
  | .phFlt => .halt
  | .noPhase => .halt
  | .peak => .halt
  | .phaseFailed => .degraded
  | .xchkUnresolved => .degraded
  | .xchkHalt => .halt
  | .deadlineMiss => .halt
  | .stepLinkLost => .halt
  | .takeover => .degraded
  | .primaryReturn => .notice
  | .stackMismatch => .degraded
  | .noCrosscheck => .notice
  | .captureClash => .notice
  | .shuntMismatch => .degraded
  | .noShunt => .degraded
  | .ocvLow => .notice
  | .ocvHigh => .notice
  | .patrolContact => .notice
  | .patrolTemp => .notice
  | .zeroStale => .notice
  | .kvalOver => .notice
  | .recordDrop => .notice
  | .linkLost => .degraded
  | .carrierLost => .degraded
  | .trainFailed => .degraded
  | .segLost => .degraded
  | .portDown => .degraded
  | .orphan => .degraded
  | .parkAll => .notice
  | .positionMismatch => .notice
  | .hostError => .degraded
  | .pcieLinkDown => .degraded
  | .cmdTimeout => .notice
  | .holdover => .degraded
  | .holdoverLimit => .degraded
  | .slew => .degraded
  | .accordSplit => .degraded
  | .accordPartial => .degraded
  | .shutdown => .latched
  | .ntcBroken => .degraded
  | .ntcReturn => .notice
  | .dieBroken => .degraded
  | .dieNoReading => .halt
  | .dieReturn => .notice
  | .sliceSegment => .degraded
  | .sliceSpc => .halt
  | .sliceHub => .halt
  | .sliceOther => .degraded
  | .imageDamaged => .notice
  | .imageFail => .degraded
  | .calFail => .degraded
  | .housekeeping => .degraded
  | .auxSag => .notice
  | .feedFault => .degraded
  | .estop => .halt
  | .writeFailed => .degraded
  | .writeAbandoned => .notice
  | .journalDiscard => .notice
  | .fwSlotInvalid => .degraded
  | .wear => .notice
  | .lockstep => .halt
  | .sramCorrected => .notice
  | .sramUncorrectable => .halt
  | .segSramUncorrectable => .degraded
  | .plausibility => .halt
  | .watchdog => .notice

/-- Class in force (R384, R385): NO_SHUNT is of class HALT in RUN; three sources are in STARTUP_TEST. -/
def srcClassIn (inRun inTest : Bool) (x : Src) : FaultClass :=
  if x == .noShunt && inRun then .halt
  else if (x == .sliceSegment || x == .sliceOther || x == .housekeeping) && inTest then .halt
  else srcClass x

/-- Source number n (R383). -/
def srcNumber (x : Src) : Nat := 16 * (srcId x / 256 - 1) + srcId x % 256

/-- The source with a number or an ID. -/
def srcOfNumber (n : Nat) : Option Src := allSources.find? (fun x => srcNumber x == n)
def srcOfId (i : Nat) : Option Src := allSources.find? (fun x => srcId x == i)

/-- Class codes (R384). -/
def classCode : FaultClass → Nat
  | .notice => 0
  | .degraded => 1
  | .halt => 2
  | .latched => 3

/-- Segment sources of R394. -/
def srcOfSegment (x : Src) : Bool :=
  let i := srcId x
  decide (i / 256 = 1) || decide (0x400 ≤ i ∧ i ≤ 0x404) || decide (0x407 ≤ i ∧ i ≤ 0x40A) ||
    decide (i = 0xF01) || decide (i = 0xF03)

/-- Sources whose BLOCK_RESET bit can be written (R394). -/
def srcHasBlockReset (x : Src) : Bool :=
  let b := srcId x / 256
  srcOfSegment x || decide (b = 6) || decide (b = 7) || decide (b = 8) || decide (b = 0xC) || decide (b = 0xE)

/-- Status codes (R10). -/
def statusCode : Status → Nat
  | .ok => 0
  | .notReady => 1
  | .busy => 2
  | .rejected => 3
  | .noRoute => 4
  | .timeout => 5
  | .checkFail => 6
  | .checkValueDamaged => 7
  | .accordSplit => 8
  | .tempInhibit => 9
  | .capacity => 10
  | .aborted => 11
  | .unsupported => 12
  | .locked => 13
  | .budgetViolation => 14
  | .sequence => 15

/-- Status named by a code; UNSUPPORTED for a code that revision A1 does not return (R11). -/
def statusOfCode (n : Nat) : Status :=
  ([.ok, .notReady, .busy, .rejected, .noRoute, .timeout, .checkFail, .checkValueDamaged, .accordSplit,
    .tempInhibit, .capacity, .aborted, .unsupported, .locked, .budgetViolation, .sequence] : List Status).getD n .unsupported

/-- Only OK and CHECK_VALUE_DAMAGED report completion (R11). -/
def statusGood (st : Status) : Bool := st == .ok || st == .checkValueDamaged

end Sys2Proof.Machine
end

