-- ==== Sys2Proof/Machine/State.lean ====
section
/-!
DEFINITION. The state of the module as plain data: every register, buffer, counter, queue, mode and pin that the
spec gives it, grouped by the chapter that owns it, and the state right after reset.
-/

namespace Sys2Proof.Machine

/-- How a run can stop with a fault. No command of this block does (log 2): the type is closed and its one
constructor is raised by nobody; safe. -/
inductive Fault
  /-- Raised by no meaning; safe. -/
  | none
  deriving DecidableEq, Repr

/-- Why a command is refused. -/
inductive Refusal
  /-- Raised only by exec's arm of a command that has no meaning yet; safe. -/
  | notModelled (mnemonic : String)
  deriving DecidableEq, Repr

/-! ### Module, pins and resets (chapters 01, 15, 17) -/

/-- Module states of R23, coded as R481. -/
inductive ModState
  | off | boot | startupTest | ready | run | halt | orphan | drydown | dormant | shutdownLatched
  deriving DecidableEq, Repr

/-- How far start-up has come (R447): waiting for the reset to be released, the boot ROM's slot verified,
firmware up (feeds, links, images), or done. -/
inductive BootPhase
  | held | verified | firmware
  deriving DecidableEq, Repr

/-- GLB block and the AON latches behind it. -/
structure Glb where
  st : ModState
  prev : ModState
  recovery : Bool
  phase : BootPhase
  cause : Nat
  latchAtBoot : Bool
  resetCount : Nat
  headEn : Bool
  brBlock : Nat
  brUnit : Nat
  brCount : Nat
  /-- A reset of code 1 to 4 that waits for its 20 µs: apply time and code (R446). -/
  resetAt : Option (Nat × Nat)
  /-- A fault of class HALT held until it may be acted on (R384). -/
  heldHalt : Bool
  /-- End of the full test and of the slow round seen (R422). -/
  testEnded : Bool
  /-- AON trial bit (R451). -/
  trialBit : Bool
  /-- The latest ACTIVATE in recovery mode is followed by a reset at this time (R452). -/
  recoveryResetAt : Option Nat
  /-- Number of feeds enabled so far by start-up, and when the last was (R448). -/
  feedsOn : Nat
  feedAt : Nat
  /-- Tick at which the present state was entered (R25). -/
  enteredAt : Nat
  deriving DecidableEq, Repr

/-- States of the TAP controller of IEEE 1149.1 (R505). -/
inductive TapState
  | testLogicReset | runTestIdle | selectDr | captureDr | shiftDr | exit1Dr | pauseDr | exit2Dr | updateDr
  | selectIr | captureIr | shiftIr | exit1Ir | pauseIr | exit2Ir | updateIr
  deriving DecidableEq, Repr

/-- Instructions of the JTAG port (R505). -/
inductive TapInstr
  | bypass | idcode | sample | extest
  deriving DecidableEq, Repr

/-- The JTAG port (R505): the level of TRST_N (open: low), the levels of TMS and TDI at the edges of TCK that are still to
come, when the latest came, the TAP controller, the instruction in force, the two shift registers with the bit shifted
out first at the head, the levels that UPDATE-DR has latched for the pins by their number, and the level of TDO (none:
high impedance). -/
structure Jtag where
  trstN : Bool
  edges : List (Bool × Bool)
  lastEdge : Nat
  tap : TapState
  instr : TapInstr
  ir : List Bool
  dr : List Bool
  drive : List (Nat × Bool)
  tdo : Option Bool
  deriving DecidableEq, Repr

/-- Pins whose level is a matter of record. `phEnHigh`: PH_EN_N high (stage disabled). `wakeLow`: WAKE_N driven low. -/
structure Pins where
  estopN : Bool
  perstN : Bool
  phFltN : Bool
  phEnHigh : Bool
  wakeLow : Bool
  jtag : Jtag
  deriving DecidableEq, Repr

/-! ### Cell paths and keepers (chapter 02) -/

inductive PathState
  | isOpen | isIn | bypass | park | keep
  deriving DecidableEq, Repr

/-- Current class of R35. -/
inductive Class
  | low | pos | neg
  deriving DecidableEq, Repr

/-- The four switch halves of R28. -/
structure Gates where
  s1p : Bool
  s1n : Bool
  s2p : Bool
  s2n : Bool
  deriving DecidableEq, Repr

/-- Sequences of R36, R37, R42, R46, R50 and the undo of R48. -/
inductive SeqKind
  | four | two | gateFail | clamp | keeper | undo
  deriving DecidableEq, Repr

/-- A transition in progress. `cmds` and `confs` are the command and confirmation times of its steps, oldest first;
`v` is the monitor value when step 1 was commanded (R38); `pairSlot` the slot of its pair (R65). -/
structure Transition where
  kind : SeqKind
  cls : Class
  toIn : Bool
  target : PathState
  planned : Option Nat
  pairSlot : Nat
  late : Bool
  /-- Step 1 of the first sequence, where one replaced another on the way (R42, R48, R157). -/
  began : Nat
  cmds : List Nat
  confs : List Nat
  v : Int
  /-- For an undo: the steps still to undo, and the stamp at which carriage began (R48). For a gate failure or clamp
  sequence: 1 once NO_PATH has been reported (R42). -/
  undoLeft : Nat
  carriedFrom : Option Nat
  deriving DecidableEq, Repr

/-- Kinds of completed transition (R41). -/
inductive EdgeKind
  | inToBypass | bypassToIn | toPark | keeper | gateFailure
  deriving DecidableEq, Repr

/-- A completed-transition record (R41). -/
structure EdgeRec where
  cell : Cell
  planned : Option Nat
  kind : EdgeKind
  cls : Class
  confs : List Nat
  step1 : Nat
  tx : Nat
  lowV : Bool
  late : Bool
  pairSlot : Nat
  deriving DecidableEq, Repr

/-- A planned edge of the present cycle (R64): planned time, direction, slot of its pair, pair index. -/
structure Planned where
  tp : Nat
  toIn : Bool
  slot : Nat
  pair : Nat
  deriving DecidableEq, Repr

/-- A walk or sweep that a cell plays (R75, R198). -/
structure WalkState where
  walk : Nat
  freq : Nat
  pos : Nat
  rep : Nat
  base : Nat
  deriving DecidableEq, Repr

/-- The path of one cell. -/
structure CellPath where
  st : PathState
  /-- OPEN came from PARK (R31). -/
  fromPark : Bool
  keepHold : Bool
  gates : Gates
  tr : Option Transition
  /-- A scheduled edge that waits for the transition in progress (R40). -/
  waiting : Option Planned
  holdDone : Bool
  holdTemp : Bool
  holdInhibit : Bool
  holdExclude : Bool
  holdIdle : Bool
  /-- The cell resumes its schedule at the start of the next cycle (R30, R33). -/
  resume : Bool
  causes : BitVec 12
  first : Nat
  parkedAt : Nat
  rung : Nat
  nextRung : Nat
  plan : List Planned
  walk : Option WalkState
  /-- Start of the confirmed interval that is open, if the cell carries the string current (R16), and the latest 64
  closed intervals, newest first. -/
  inSince : Option Nat
  ivals : List (Nat × Nat)
  /-- Conduction of the clamp is ignored up to this time: 100 ns after the latest gap (R46). -/
  gapUntil : Nat
  /-- Times the clamps of the cell have conducted since the latest step of the bank model (R45). -/
  clampHits : Nat
  /-- When the cell last left OPEN (R155). -/
  openUntil : Nat
  deriving DecidableEq, Repr

/-- The keeper of one segment (R50, R61). -/
structure Keeper where
  holding : Bool
  tripped : Bool
  supplyOk : Bool
  heartbeat : Bool
  lastBeat : Nat
  tripCount : Nat
  deriving DecidableEq, Repr

/-! ### Measurement (chapter 05) -/

/-- A filter output or OCV sample as delivered (R151, R155, R158). -/
structure Sample where
  value : Int
  stamp : Nat
  disturbed : Bool
  isIn : Bool
  sat : Bool
  served : Bool
  deriving DecidableEq, Repr

/-- A capture burst with the slot conversions that EDGE-R needs (R166, R194). -/
structure Burst where
  edge : EdgeRec
  start : Nat
  samples : List Int
  disturbed : Bool
  pre : List Int
  post : List Int
  postOk : Bool
  deriving DecidableEq, Repr

/-- A sample of a boundary cell that waits for the cover of its neighbour (R159): whether it is an OCV sample, the
line times it rests on and the sample. -/
structure Held where
  ocv : Bool
  from_ : Nat
  upTo : Nat
  sample : Sample
  deriving DecidableEq, Repr

/-- The converters' view of one cell. -/
structure CellMeas where
  /-- The four latest slot conversions, newest first (R148). -/
  last4 : List Int
  /-- Stamp of the latest slot conversion. -/
  lastSlot : Nat
  /-- The latest 64 slot conversions with the start of their slots, newest first (R250). -/
  vHist : List (Nat × Int)
  /-- The same of the primary's own conversions, served or not (R163). -/
  pHist : List (Nat × Int)
  mon : Int
  visit : Int
  /-- Gated time, and the gated conversions of the running filter, newest first: end of the slot, value, SAT, IN
  (R151). -/
  g : Nat
  outs : Nat
  span : List (Nat × Int × Bool × Bool)
  /-- A restart that waits for its slot boundary: whether a disturbance is among its causes, and the latest time of a
  cause (R152); the boundary of the latest restart. -/
  restart : Option (Bool × Nat)
  restartedAt : Nat
  /-- The latest disturbance interval, merged with those it meets (R157). -/
  dist : Option (Nat × Nat)
  /-- End of the latest transition of the cell or a neighbour with its guard time, whatever the gate (R157, R160). -/
  touch : Nat
  distCount : Nat
  /-- The latest 64 disturbance intervals of the two neighbours' transitions, newest first (R199). -/
  nearDist : List (Nat × Nat)
  /-- The cell's latest 64 completed transitions, newest first. -/
  edgesDone : List EdgeRec
  /-- Bursts whose slot conversions after the edge are still to come (R194). -/
  caps : List Burst
  /-- Whether the cell was IN at the start of its previous PRIMARY window (R152). -/
  prevWinIn : Option Bool
  lastOut : Option Sample
  lastUsable : Option Sample
  /-- OCV window in progress: its start, sum, slots, and a saturated conversion among them (R155). -/
  ocvAcc : Option (Nat × Int × Nat × Bool)
  lastOcv : Option Sample
  served : Bool
  /-- When the latest time of verifier service ended. -/
  servedEnd : Option Nat
  slicePassed : Bool
  misses : Nat
  passes : Nat
  missRaised : Bool
  lastCheck : Nat
  noCheckRaised : Bool
  /-- Neighbour cover for a boundary cell (R159), and the samples that wait for it. -/
  cover : Nat
  coverLost : Bool
  heldOuts : List Held
  contP : Nat
  contN : Nat
  /-- Round of the cell's latest contact visit (R171). -/
  contRound : Option Nat
  /-- The patrol sample in formation: sum, conversions, a saturated one among them (R225). -/
  patAcc : Int × Nat × Bool
  deriving DecidableEq, Repr

/-! ### Temperature (chapter 12) -/

structure CellTemp where
  reading : Option Int
  stale : Bool
  broken : Bool
  misses : Nat
  goods : Nat
  inUse : Option Int
  subst : Bool
  usesLower : Bool
  usesUpper : Bool
  /-- When the latest substitution ended. -/
  substEnd : Option Nat
  substCount : Nat
  /-- The NTC has been judged since the last reset (R514). -/
  sampled : Bool
  deriving DecidableEq, Repr

structure DieTemp where
  temp : Int
  valid : Bool
  broken : Bool
  subst : Bool
  stale : Bool
  noReading : Bool
  misses : Nat
  goods : Nat
  deriving DecidableEq, Repr

/-- Thermal supervisor. -/
structure Therm where
  dies : Vec DieTemp 17
  /-- Poles of the bank models in 0.01 °C: 32 junctions and the substrate of each segment (R365). -/
  banks : Vec (List Int) 16
  lastModel : Nat
  near : Bool
  coolSince : Option Nat
  slowBusy : Option Nat
  calOk : Bool
  latched : Bool
  tripSource : Nat
  tripTemp : Int
  deriving DecidableEq, Repr

/-! ### Analysis (chapter 06) -/

/-- Parameters of EDGE-R in force for one record (R186): T1 and T2 in µs, log2 of the count, smallest |i| in µA. -/
structure EdgeParams where
  t1 : Nat
  t2 : Nat
  nLog2 : Nat
  iMin : Nat
  deriving DecidableEq, Repr

/-- Parameters of the kernels whose record span is the step (R186): KERNELS bits, TALLY period in 10 ms, TAPER_BAND in
µV, TAPER_N, DQDV bin in µV and SCALE_MIN. -/
structure Params where
  kernels : BitVec 7
  period : Nat
  band : Nat
  taperN : Nat
  bin : Nat
  scaleMin : Nat
  deriving DecidableEq, Repr

/-- One usable captured edge (R194): rp_t1 and rp_t2 in µΩ, i in µA, vpre in µV. -/
structure EdgeVal where
  rp1 : Int
  rp2 : Option Int
  i : Int
  vpre : Int
  tx : Nat
  pos : Bool
  deriving DecidableEq, Repr

/-- KVAL accumulators of R202; τ in ns, u in µV. -/
structure Kval where
  n : Nat
  st : Int
  stt : Int
  su : Int
  stu : Int
  suu : Int
  t0 : Nat
  v0 : Int
  temp0 : Int
  vLast : Int
  tLast : Nat
  excl : Nat
  srcOcv : Bool
  srcPatrol : Bool
  dist0 : Nat
  /-- The registers' kernel bit, KVAL_TC, T_BAND in 0.01 °C and MIN_N when the stretch began (R186). -/
  on : Bool
  tc : Int
  band : Nat
  minN : Nat
  deriving DecidableEq, Repr

/-- A sweep's integration for one cell (R199); sums in units of 2^-30. -/
structure SweepAcc where
  vi : Int
  vq : Int
  ii : Int
  iq : Int
  idc : Int
  slots : Nat
  excl : Nat
  /-- Start of the integration, and the end of the whole walk periods counted. -/
  t0 : Nat
  t1 : Nat
  incomplete : Bool
  dist0 : Nat
  deriving DecidableEq, Repr

/-- One slot's terms of R189 and R199 for a cell: start of the slot, I_t, overlap in ns, slot conversion. -/
structure SumTerm where
  slot : Nat
  i : Option Int
  o : Nat
  v : Int
  /-- A disturbance interval of a neighbour meets the slot. -/
  near : Bool
  deriving DecidableEq, Repr

/-- The pre-sums of a SUMS message (R250): of the slots of [from_, upTo), µA·ns, µA·µV·ns and ns, and the sums of the
integration that runs. -/
structure Sums where
  from_ : Nat
  upTo : Nat
  q : Int
  e : Int
  tIn : Nat
  sweep : Option SweepAcc
  deriving DecidableEq, Repr

structure CellAna where
  /-- Running totals of the step: µA·ns, µA·µV·ns, ns (R189). -/
  q : Int
  e : Int
  tIn : Nat
  edges : Nat
  late : Nat
  qCycle : Int
  taperRun : Nat
  /-- Cycle at whose start the cell takes hold DONE (R193). -/
  doneAt : Option Nat
  rIn : List EdgeVal
  rOut : List EdgeVal
  pIn : EdgeParams
  pOut : EdgeParams
  rDistIn : Nat
  rDistOut : Nat
  bursts : List Burst
  /-- Conversions of the burst that is arriving. -/
  burstRx : List Int
  kval : Kval
  /-- CONTACT summary (R204): evaluations, sums and maxima of both poles, sum of I. -/
  cN : Nat
  cSumP : Int
  cSumN : Int
  cMaxP : Int
  cMaxN : Int
  cSumI : Int
  cFrom : Nat
  /-- End of the latest visit of the summary (R207). -/
  cTo : Nat
  cDist0 : Nat
  /-- DQDV: lower edge of the open block in µV, twelve bins in µA·ns, TALLY charge at the previous usable output. -/
  dqStart : Option Int
  dqBins : List Int
  dqLast : Int
  dqFrom : Nat
  dqDist0 : Nat
  sweep : Option SweepAcc
  /-- The same up to the end of the latest whole walk period (R200). -/
  sweepKept : Option SweepAcc
  dist0 : Nat
  /-- Slots that start before this are in the totals (R250). -/
  sumTo : Nat
  deriving DecidableEq, Repr

/-- A result record: header fields of R207 and the 32 payload bytes. -/
structure Record where
  kind : Nat
  flags : BitVec 8
  gen : Nat
  cell : Nat
  dist : Nat
  time : Nat
  seq : Nat
  stepId : Nat
  sweepId : Nat
  origin : Nat
  stepIndex : Nat
  flaconId : Nat
  payload : List Byte
  deriving DecidableEq, Repr

/-- One slot of the result buffer (R206, R344): the record, its deliveries, whether it is placed (a head's own)
or covered by PLACED, retired, and when it was last sent. -/
structure Slot where
  record : Record
  reads : Nat
  placed : Bool
  retired : Bool
  sentAt : Nat
  deriving DecidableEq, Repr

structure Ana where
  slots : List (Nat × Slot)
  nextSeq : Nat
  drops : Nat
  /-- A first drop of an episode that RECORD_DROP is still to report (R206). -/
  dropDue : Bool
  fullEpisode : Bool
  /-- Zero estimates in µA, and the end of the 100 ms they rest on (R188). -/
  zeroB : Option Int
  zeroT : Option Int
  zeroAt : Option Nat
  zeroRaised : Bool
  quietFrom : Option Nat
  quietSumB : Int
  quietSumT : Int
  quietNB : Nat
  quietNT : Nat
  /-- Start of the entry cycle of the step in force, and a slot of the step without I_t (R190). -/
  stepFrom : Option Nat
  iGap : Bool
  params : Params
  lastTally : Nat
  lastSnap : Nat
  snapPending : Bool
  sweepId : Nat
  sweepPlan : Nat
  sweepAt : Option Nat
  sweepCells : BitVec 256
  sweepOn : Bool
  sweepRecords : Nat
  /-- EXCL_PERMIL and MIN_AMPL in µA in force for the sweep (R186). -/
  sweepExcl : Nat
  sweepAmpl : Nat
  qString : Int
  deriving DecidableEq, Repr

/-! ### Flacons and the schedule player (chapter 03) -/

/-- One flacon bank of the hub: its bytes (sparse, 0 where nothing was loaded), the bytes received, the declared
TOTAL and what the slot registers show (R90, R97, R98). -/
structure Bank where
  bytes : List Byte
  total : Nat
  complete : Bool
  source : Nat
  verify : Status
  verified : Bool
  deriving DecidableEq, Repr

/-- Player states of R93, in the order of their codes. -/
inductive PlayState
  | empty | armed | wait | hold | play | exit | stopping | halted
  deriving DecidableEq, Repr

/-- A Step Link frame the player has sent and waits for (R71). -/
structure PlayFrame where
  seq : Nat
  target : Int
  sentAt : Nat
  deadline : Nat
  zero : Bool
  deriving DecidableEq, Repr

/-- A FLACON_VERIFY that waits for the segments: its sender, the flash slot to store in, the status of checks 1 to 17
and the segments' answers so far. -/
structure VerifyJob where
  origin : Origin
  store : Option Nat
  status : Status
  answers : List (Nat × Status)
  deriving DecidableEq, Repr

structure Player where
  st : PlayState
  active : Bank
  staged : Bank
  bankNo : Bool
  ts : Nat
  cycleStart : Nat
  cycles : Nat
  step : Nat
  /-- STEP_ID of the latest step in force (R100). -/
  stepReg : Nat
  /-- When the step in force began, or when STOPPING was entered (R70, R74). -/
  since : Nat
  /-- The records of the step in force have been produced. -/
  recorded : Bool
  /-- END of the step's STEP_SUMMARY: 1 DONE, 2 TIME, 3 STOP, 4 RUN left otherwise (R207). -/
  endCode : Nat
  inExit : Bool
  pending : Option PlayFrame
  answeredAt : Option Nat
  derated : Bool
  deratedNs : Nat
  timeCount : Rat
  lowest : Option Int
  target : Int
  h : Option Nat
  overrun : Nat
  seq : Nat
  exitOver : Bool
  zeroAcked : Bool
  swapAt : Option Nat
  swapStaged : Bool
  checkRule : Nat
  checkWhere : Nat
  modPeak : Nat
  segPeak : Nat
  /-- |I_shunt| summed over the cycle's slots, µA, and their number (R73). -/
  cycAbs : Nat
  cycN : Nat
  /-- Slots of the latest scheduled transitions, newest first: of each segment, and of the module (R94). -/
  segSlots : Vec (List Nat) 16
  modSlots : List Nat
  loading : Option (Nat × Nat)
  /-- A FLACON_VERIFY whose shares the segments are checking (R89, R90). -/
  verify : Option VerifyJob
  stepDeratedFrom : Option Nat
  /-- When the latest time with DERATED set ended. -/
  deratedEnd : Option Nat
  /-- STEP_ID of the step in force; 0xFFFF outside RUN (R207). -/
  stepId : Nat
  deriving DecidableEq, Repr

/-! ### String power controller and Step Link (chapter 04) -/

inductive SpcState
  | disabled | standby | regulate | inhibited
  deriving DecidableEq, Repr

/-- Level of PH_PWMn (R102). -/
inductive Pwm
  | released | high | low
  deriving DecidableEq, Repr

structure PhaseSt where
  active : Bool
  failed : Bool
  fOpen : Bool
  fSense : Bool
  fXchk : Bool
  pwm : Pwm
  centre : Int
  width : Nat
  addedAt : Option Nat
  code : Nat
  /-- Start of the 10 µs in which the centre rises from 0 to the share, or falls to 0 (R120, R121, R123). -/
  handAt : Option Nat
  shedAt : Option Nat
  /-- Displacement of the window by interleaving, nA (R107). -/
  shift : Int
  /-- Latest switching of PH_PWMn with the sense code at it, latest turn-on, latest on-time and off-time in ns. -/
  switchedAt : Option Nat
  fromCode : Nat
  onAt : Option Nat
  onNs : Nat
  offNs : Nat
  /-- An interval of this period moved too little; periods in a row with one, intervals in a row that moved the wrong
  way (R122). -/
  stuckNow : Bool
  stuckRun : Nat
  wrongRun : Nat
  deriving DecidableEq, Repr

/-- A scheduled transition passed to the SPC (R108): cell, t_p, direction, the cell's voltage in mV; `used` once the
windows have been rescaled for it. -/
structure FeedEdge where
  cell : Cell
  tp : Nat
  toIn : Bool
  mv : Int
  used : Bool
  deriving DecidableEq, Repr

/-- A frame the SPC has accepted (R113, R115). -/
structure SpcFrame where
  raw : BitVec 64
  acceptedAt : Nat
  external : Bool
  deriving DecidableEq, Repr

/-- An answer of the SPC (R129). -/
structure Answer where
  ack : Bool
  seq : Nat
  unsol : Bool
  cause : Nat
  target : Int
  acceptedAt : Nat
  deriving DecidableEq, Repr

structure Spc where
  st : SpcState
  causes : BitVec 7
  phases : Vec PhaseSt 8
  target : Int
  delivered : Int
  setpoint : Int
  ramp : Nat
  ramping : Bool
  rampFrom : Option Nat
  iFast : Int
  iMilli : Int
  iMilliN : Nat
  pending : Option SpcFrame
  lastRaw : Option (BitVec 64)
  lastAnswer : Option Answer
  /-- When the frame in force was accepted. -/
  acceptedAt : Nat
  answered : Bool
  answeredAt : Nat
  unsolDue : Bool
  lastSeq : Nat
  answeredSeq : Nat
  sync : Bool
  crcErr : Nat
  nakCause : Nat
  nakSeq : Nat
  nakUnsol : Bool
  nakCount : Nat
  dwellFrom : Option Nat
  shedFrom : Option Nat
  dOverFrom : Option Nat
  toggle : Option Nat
  unresolved : Nat
  retryAt : Option Nat
  vOverFrom : Option Nat
  vUnderFrom : Option Nat
  link : Nat
  trainCount : Nat
  lastValid : Nat
  disabling : Bool
  orphanRamp : Bool
  /-- SEQ of the target in force (R117). -/
  forceSeq : Nat
  /-- Frames handed to the SPC by the player, and answers handed to the player. -/
  inbox : List (BitVec 64)
  answers : List Answer
  /-- The toggle test: the phases it releases in turn, Σ and number of the D of the hold in progress, D_m of the holds
  that are over (R123). -/
  toggleList : List Phase
  togSum : Int
  togN : Nat
  togD : List (Option Int)
  feed : List FeedEdge
  /-- The end of the frame that STEP_OUT transmits (R127). -/
  stepFreeAt : Nat
  deriving DecidableEq, Repr

/-- The two string shunts (R168 to R170) and streams (R174, R175). -/
structure Meas where
  exclB : Bool
  exclT : Bool
  bistB : Bool
  bistT : Bool
  iShunt : Option Int
  iT : Option Int
  iSlot : Nat
  iTs : List (Option Int)
  /-- I_t of the latest 4400 slots with their starts, newest first (R194: T2 is at most 4,000 µs). -/
  iHist : List (Nat × Option Int)
  /-- The same of I_shunt. -/
  shHist : List (Nat × Option Int)
  msStart : Nat
  msB : Int
  msT : Int
  msN : Nat
  mismatchRun : Nat
  mismatchRaised : Bool
  noShuntRaised : Bool
  distCount : Nat
  drops : Nat
  clashAt : Option Nat
  stackMiss : Vec Nat 16
  strSegs : BitVec 16
  strKinds : BitVec 8
  strCells : BitVec 256
  strOn : Bool
  strDropped : Vec Nat 16
  /-- Words sent by each segment in the millisecond that began at `strMs` (R175). -/
  strSent : Vec Nat 16
  strMs : Nat
  /-- Segments that have received the start of the stream. -/
  strLive : BitVec 16
  lastMark : Vec Nat 16
  /-- The shunt words in formation, bottom and top: sum, slots, and a slot beyond the range (R174). -/
  strB : Int × Nat × Bool
  strT : Int × Nat × Bool
  deriving DecidableEq, Repr

/-! ### Span links and segments (chapter 08) -/

inductive LinkState
  | down | training | up | single | patrol | lost
  deriving DecidableEq, Repr

inductive SegState
  | unpowered | boot | running | patrol | silent
  deriving DecidableEq, Repr

/-- Segment actions of a CMD message (R249). -/
inductive SegCmd
  | release (cells : BitVec 16)
  | sweepStart (cells : BitVec 16)
  | stream (on : Bool)
  | patrolEntry
  | reset
  /-- The reset of a segment that a reset of the module did not reach (R446). -/
  | moduleReset
  | applyAccord (t : Nat)
  | dropAccord
  deriving DecidableEq, Repr

/-- Down messages of R249. -/
inductive DownMsg
  | config (off : Nat) (value mask : Word) (staged : Bool) (origin : Origin)
  | read (off : Nat)
  | share (bank : Nat) (off : Nat) (data : List Byte) (isLast : Bool)
  | time (t : Nat) (latency : Nat)
  | islot (first : Nat) (vals : List (Option Int))
  | neighbour (j : Cell) (upTo : Nat) (edges : List EdgeRec)
  | cmd (c : SegCmd)
  deriving DecidableEq, Repr

/-- A segment's fault report (R249, R398). -/
structure Report where
  src : Src
  time : Nat
  seg : Option Seg
  cell : Option Cell
  arg0 : Word
  arg1 : Word
  arg2 : Word
  deriving DecidableEq, Repr

/-- A patrol anomaly (R226). -/
structure Anomaly where
  kind : Nat
  cell : Nat
  arg : Word
  deriving DecidableEq, Repr

/-- Up messages of R249. -/
inductive UpMsg
  | edge (e : EdgeRec)
  /-- Also whether its time has been rescaled (R251, R398). -/
  | fault (r : Report) (rescaled : Bool)
  | output (k : Cell) (src : Nat) (s : Sample)
  | sums (k : Cell) (x : Sums)
  /-- Capture conversions of a burst, and what completes it (R194, R248: a payload has at most 64 bytes). -/
  | burstPart (k : Cell) (vals : List Int)
  | burst (k : Cell) (b : Burst)
  | cmdRsp (status : Status)
  | rsp (off : Nat) (value : Word) (status : Status) (origin : Option Origin)
  | shareRsp (status : Status)
  | stream (words : List (BitVec 64))
  | report (confirm : Bool) (suspect : Bool) (found : List Anomaly)
  deriving DecidableEq, Repr

/-- What the latest valid uplink beacon carried beside ACK, and when it came (R246). -/
structure Uplink where
  vsum : Nat
  nIn : Nat
  parking : Bool
  onStack : Bool
  fault : Bool
  at_ : Nat
  deriving DecidableEq, Repr

/-- One direction of a span link (R248): messages not yet started, messages sent and not acknowledged with their
SEQ (oldest first), the next SEQ to send, the next SEQ the receiver expects, and when ACK last advanced. -/
structure Dir (α : Type) where
  queued : List α
  sent : List (Nat × α)
  next : Nat
  expect : Nat
  ackAt : Nat
  deriving DecidableEq, Repr

structure Link where
  st : LinkState
  c0 : Bool
  c1 : Bool
  latency : Nat
  retry : Nat
  losses : Nat
  down : Dir DownMsg
  up : Dir UpMsg
  trainFrom : Nat
  trainRaised : Bool
  everUp : Bool
  lastUplink : Nat
  lastDownlink : Nat
  report : Uplink
  /-- The beacon in flight: its 32 bits with their CRC (R245). -/
  beacon : Option (BitVec 32)
  /-- Park symbol in flight (true: cause ORPHAN) and repeats left (R247). -/
  parkSym : Option Bool
  parkLeft : Nat
  haltReq : Bool
  /-- The latest values that reads of the segment's window brought, for use while the link is not up (R471). -/
  seen : List (Nat × Word)
  /-- Messages that wait for the end of a slice of the segment (R418). -/
  waits : List DownMsg
  deriving DecidableEq, Repr

/-- A drydown log entry (R231). -/
structure LogEntry where
  confirm : Bool
  anomaly : Bool
  onStack : Bool
  uncorrected : Bool
  noFlacon : Bool
  /-- The hub has copied the entry into the journal (R450). -/
  copied : Bool
  patrol : Nat
  kinds : BitVec 5
  cells : BitVec 16
  time : Nat
  stack : Nat
  flaconId : Nat
  overwritten : Nat
  samples : List Word
  temps : List (BitVec 16)
  deriving DecidableEq, Repr

/-- The verifier of a segment (R161 to R164, R171): the next channel of the round (0 to 15 the cells, 16 the stack), the
end of the latest visit, whether a served cell's turn is next, the cell served last, the rounds completed and the cell
at which the rotation of contact visits goes on. -/
structure Verifier where
  next : Nat
  free : Nat
  turn : Bool
  served : Nat
  round : Nat
  contact : Nat
  deriving DecidableEq, Repr

/-- One segment die. -/
structure Segment where
  st : SegState
  onStack : Bool
  stackMv : Nat
  feedOk : Bool
  feedV : Nat
  stagedOk : Bool
  shareStatus : Status
  ignored : Nat
  resets : Nat
  keeper : Keeper
  /-- The segment's applied RW and RWS fields, and staged writes held for an accord, oldest first (R475). -/
  win : List (Nat × Word)
  staged : List (Nat × Word × Word)
  accordAt : Option Nat
  /-- The share being received and the two share banks (R89). -/
  shareRx : List Byte
  shareStaged : List Byte
  shareActive : List Byte
  imageIn : Bool
  timeSet : Bool
  cls : Class
  clsAt : Nat
  haltCause : Nat
  islots : List (Nat × Option Int)
  log : List LogEntry
  logOver : Nat
  patrols : Nat
  patrolAt : Option Nat
  periodS : Nat
  dormantPatrol : Bool
  smeas : Bool
  sdrv : Bool
  windowAt : Option Nat
  suspect : Option Nat
  /-- Kinds and cells that await the confirmation patrol (R226). -/
  suspects : List (Nat × Nat)
  confirming : Bool
  /-- The die was at 150 °C in DORMANT and has not been below 130 °C since (R369). -/
  hot : Bool
  counted : List (Nat × Nat)
  retention : Bool
  feedRestoreAt : Option Nat
  shadowOk : Bool
  verifier : Verifier
  /-- Cells that are to play a walk from the start of the sweep that is scheduled (R198). -/
  sweepCells : BitVec 16
  /-- The link has been trained since silence was last declared (R253). -/
  trained : Bool
  /-- Since when the segment's time runs from its low-power oscillator, and that oscillator's error in 10^-9 (R228,
  R251). -/
  timerFrom : Option Nat
  timerPpb : Int
  deriving DecidableEq, Repr

/-! ### Power (chapter 07) -/

inductive PowerState
  | active | idle | doze | drydown
  deriving DecidableEq, Repr

structure Pwr where
  st : PowerState
  changing : Bool
  going : Option PowerState
  exitFrom : Option Nat
  block : Nat
  hubOn : BitVec 8
  hubRet : BitVec 8
  lastCmd : Nat
  patrolNo : Nat
  tFirst : Nat
  reported : BitVec 16
  wakeCommand : Bool
  wakeSymbol : Bool
  wakeAnomaly : Bool
  wakeBudget : Bool
  anKind : Nat
  anSeg : Nat
  anCell : Nat
  anCount : Nat
  anomalies : List (Seg × Anomaly)
  wakeOrigins : List Origin
  auxMv : Nat
  inRange : Bool
  nvmOk : Bool
  sagCount : Nat
  deriving DecidableEq, Repr

/-! ### The loop (chapter 09) -/

/-- A frame of one transmitter: whether it is the module's own (not in transit), from when on it may start, the stamp of
its K27.7 at the port it came in by, in 0.125 ns (a TIME frame in transit, R280), the frame. -/
structure TxFrame where
  own : Bool
  since : Nat
  rx : Nat
  frame : Frame
  deriving DecidableEq, Repr

/-- The frame that a transmitter is sending (R273): when its K27.7 left, its header and payload bytes, whether it is a
priority frame, whether one already stands inside it, and when its last character ends. -/
structure TxNow where
  start : Nat
  bytes : Nat
  prio : Bool
  inside : Bool
  ends : Nat
  deriving DecidableEq, Repr

structure PortSt where
  st : Nat
  count : Nat
  /-- Start of the time without a valid frame that R263 judges, and when the latest valid frame came (R282). -/
  lastValid : Nat
  heard : Nat
  rxUp : Bool
  partner : Nat
  restricted : Bool
  lseqTx : Nat
  expect : Nat
  /-- LACK of the frames sent (R264, R265). -/
  lack : Nat
  /-- Sent sequenced frames that LACK does not cover, oldest first; those being resent that have not started again; and
  frames that wait for the transmitter. -/
  held : List TxFrame
  resend : List TxFrame
  queue : List TxFrame
  tx : Option TxNow
  ackAt : Nat
  retries : Nat
  crcErr : Nat
  retry : Nat
  discard : Nat
  downs : Nat
  /-- LAT and PINGS (R294); the measurement that runs: PINGs sent, pairs and their sum, PINGs without a PONG (R280). -/
  lat : Nat
  pings : Nat
  pingSent : Nat
  pingN : Nat
  pingSum : Nat
  pingOut : List (Nat × Nat)
  pongDue : Option (Nat × Nat)
  lastStart : Nat
  faultBeyond : Bool
  everUp : Bool
  deriving DecidableEq, Repr

structure Loop where
  a : PortSt
  b : PortSt
  silent : Bool
  wakeSeen : Bool
  brkUp : Nat
  brkDown : Nat
  position : Nat
  valid : Bool
  gen : Nat
  n : Nat
  rtt : Nat
  topo : Bool
  /-- Census in progress at a head: sender, GEN, start, positions heard, PROBE complete with n (R275). -/
  census : Option (Origin × Nat × Nat)
  censusSeen : List Nat
  censusN : Option Nat
  tentative : Nat
  tentGen : Nat
  seenBcast : List (Bool × Nat × Nat)
  parkIds : List (Nat × Nat)
  parkId : Nat
  inFlight : Nat
  lastRetire : Nat
  lastWakeFwd : Option Nat
  tseqA : Nat
  tseqB : Nat
  /-- Records of other modules that a head has placed and retired, by position and SEQ, and the MARKS figures for a
  position (R341); on a member, MARKS holds the PLACED and RETIRED figures that each head, by position, sent last. -/
  placed : List (Nat × Nat)
  retired : List (Nat × Nat)
  marks : List (Nat × Nat × Nat)
  lastSent : List (Nat × Nat × Nat)
  sweepEnds : List (Nat × Nat × Nat)
  sweepCount : List (Nat × Nat × Nat)
  /-- The park symbol of the orphan reaction has been sent (R282). -/
  orphanSent : Bool
  deriving DecidableEq, Repr

/-! ### Line time and accords (chapter 10) -/

structure TimeUnit where
  st : Nat
  src : Nat
  hops : Nat
  srcHoldover : Bool
  slewing : Bool
  stepped : Bool
  srcHead : Bool
  offset : Int
  trim : Int
  good : Nat
  bad : Nat
  /-- Latest TIME frame on each port: arrival, hops, holdover, head (R300). -/
  candA : Option (Nat × Nat × Bool × Bool)
  candB : Option (Nat × Nat × Bool × Bool)
  better : Nat
  lastSource : Nat
  holdFrom : Option Nat
  limitRaised : Bool
  /-- Line time at which the slew in progress has made up its offset (R302, R303). -/
  slewEnd : Option Nat
  ptmValid : Bool
  latchBar : Word
  latchLoop : Word
  hiWritten : Option Word
  steppedAt : Option Nat
  /-- Trims that stood in LOCKED with their durations in ns, newest first, and the time up to which they are counted
  (R301). -/
  trims : List (Nat × Int)
  lockMark : Option Nat
  deriving DecidableEq, Repr

inductive AccState
  | idle | isOpen | prepared | committed | rolledBack | split
  deriving DecidableEq, Repr

/-- A staged write of an accord: register offset, value and the bits it writes. -/
structure Staged where
  off : Nat
  value : Word
  mask : Word
  deriving DecidableEq, Repr

structure Accord where
  st : AccState
  id : Nat
  count : Nat
  failed : Nat
  commitSeen : Bool
  isPartial : Bool
  lastStatus : Status
  t : Nat
  grace : Nat
  staged : List Staged
  /-- Line time of the commit and the writes it applied (R313). -/
  applied : Option (Nat × List Staged)
  deriving DecidableEq, Repr

/-! ### Host port (chapter 11) -/

structure Outstanding where
  tag : Nat
  hostTag : Nat
  opcode : Nat
  position : Nat
  irq : Bool
  fence : Bool
  outMax : Nat
  sentAt : Option Nat
  deriving DecidableEq, Repr

/-- A completion entry before it is written (R333). -/
structure Cpl where
  tag : Nat
  hostTag : Nat
  opcode : Nat
  status : Status
  position : Nat
  dataLen : Nat
  flags : BitVec 8
  value : Word
  bcOk : Nat
  bcFail : Nat
  bcPos : Nat
  bcStatus : Nat
  irq : Bool
  deriving DecidableEq, Repr

/-- What a result ring entry stands for (R341). -/
inductive Placed
  | own (seq : Nat)
  | other (position seq : Nat)
  | plain
  deriving DecidableEq, Repr

structure Ring where
  size : Nat
  prod : Nat
  cons : Nat
  entries : List Placed
  unsignalled : Nat
  firstAt : Nat
  deriving DecidableEq, Repr

structure HostPort where
  st : Nat
  /-- RESET_RINGS has been written since ERROR was entered (R326). -/
  ringsReset : Bool
  linkUp : Bool
  /-- Since when the host link has been down or PERST_N low (R282). -/
  lostAt : Option Nat
  busMaster : Bool
  msixEn : Bool
  err : BitVec 10
  cmdSize : Nat
  cmdTail : Nat
  cmdHead : Nat
  cpl : Ring
  res : Vec Ring 4
  outstanding : List Outstanding
  closed : List (Nat × Nat)
  heldCpl : List Cpl
  waiting : List (Outstanding × List Byte)
  sentBcast : List (Nat × Nat)
  gaps : List (Nat × Nat × Nat)
  heldNotices : List (List Byte)
  /-- BAR0 reads of windows that wait for an acknowledgement, oldest first (R471). -/
  heldReads : List Nat
  /-- Loop writes at a tick at which a BAR0 access to the same register waits: tick, offset, what it read before,
  the write (R472). -/
  met : List (Nat × Nat × Word × Wr)
  deriving DecidableEq, Repr

/-! ### Faults (chapter 13) -/

/-- A sillage record (R398). -/
structure Sillage where
  src : Src
  cls : FaultClass
  flags : BitVec 8
  count : Nat
  seq : Nat
  time : Nat
  state : Nat
  seg : Nat
  cell : Nat
  arg0 : Word
  arg1 : Word
  arg2 : Word
  deriving DecidableEq, Repr

structure Flt where
  sticky : List Src
  counts : List (Src × Nat)
  classes : List (Src × FaultClass)
  log : List Sillage
  intake : List Sillage
  intakeAt : Nat
  first : Option Sillage
  nextSeq : Nat
  afterDrop : Bool
  logFull : Nat
  intakeFull : Nat
  lastClear : Status
  /-- Segment, port or die of each occurrence of a source whose hold is judged per unit (R386). -/
  units : List (Src × Nat)
  /-- Reports of the command in progress that the collector is still to enter, with their FLAGS. -/
  due : List (Report × BitVec 8)
  /-- The tick of the latest entry and the sources entered at it (R397); the tick at which the first fault was taken. -/
  tickOf : Nat
  tickSrcs : List Src
  firstAt : Nat
  /-- The occurrence of the latest tick that would be captured as the first fault, and its tick (R400, R404). -/
  tickBest : Option (Nat × Sillage)
  /-- Sources that a halt request has set and whose FAULT message is still to come (R388). -/
  awaited : List (Src × Seg)
  deriving DecidableEq, Repr

/-! ### Self-test and check unit (chapter 14) -/

inductive SliceResult
  | notRun | passed | failed | aborted
  deriving DecidableEq, Repr

structure SliceSt where
  result : SliceResult
  failed : Bool
  passedAt : Option Nat
  deriving DecidableEq, Repr

inductive BistMode
  | idle | periodic | full | command | release | rerun
  deriving DecidableEq, Repr

structure Bist where
  slices : Vec SliceSt 64
  running : Option (Slice × Nat)
  /-- On whose behalf the running slice runs. -/
  runKind : BistMode
  mode : BistMode
  current : Nat
  skips : Nat
  /-- Slices still to run in the present round, test, command or release, and reruns used. -/
  queue : List Slice
  /-- Failed slices that are rerun on the way from HALT to READY (R421). -/
  rerunQueue : List Slice
  reruns : Nat
  lastStart : Nat
  /-- Since when the queue, and the queue of a release, have waited for a start (R423, R515). -/
  waitFrom : Nat
  relFrom : Nat
  cmdOrigin : Option Origin
  cmdAll : Bool
  cmdPassed : Nat
  cmdFailed : Nat
  cmdAborted : Nat
  cmdFirst : Option Nat
  relOrigin : Option Origin
  relCells : BitVec 256
  relQueue : List Slice
  abortedLast : Option Slice
  roundQueue : List Slice
  lastFail : Nat
  lastFailValid : Bool
  lastFailOver : Bool
  lastFailSig : BitVec 16
  abortCount : Nat
  lastAbort : Nat
  rounds : Nat
  ends : Nat
  slowDue : Bool
  deriving DecidableEq, Repr

inductive ChkState
  | idle | running | done | aborted | waiting
  deriving DecidableEq, Repr

structure Chk where
  st : ChkState
  status : Status
  runLo : Word
  runHi : Word
  digest : Vec Word 8
  /-- What the accepted scan covers: start, length, algorithm, INIT, FINAL. -/
  start : Nat
  length : Nat
  algo : Nat
  init : Bool
  final : Bool
  origin : Option Origin
  deriving DecidableEq, Repr

/-! ### Non-volatile storage (chapter 15) -/

/-- One flash operation. -/
inductive FlashOp
  | program (addr : Nat) (data : List Byte)
  | eraseSector (addr : Nat)
  | eraseBlock (addr : Nat)
  deriving DecidableEq, Repr

/-- What a finished list of flash operations brings about. -/
inductive JobEnd
  | record
  | store (slot : Nat) (o : Origin) (status : Status)
  | eraseSlot (slot : Nat) (o : Origin)
  | fwBegin (slot : Nat) (o : Origin)
  | fwChunk (bytes : Nat) (o : Origin)
  | fwActivate (slot : Nat) (o : Origin)
  | configSet (bank gen : Nat) (o : Origin)
  /-- A damaged copy is repaired (true: trailer): the scratch sector is written, then the target (R444). -/
  | repairScratch (region : Nat) (copy : Bool)
  | repair (region : Nat) (copy : Bool)
  /-- Nothing is written: the command that the records before it end is answered. -/
  | answer (o : Origin) (op : Nat) (status : Status) (value : Nat)
  deriving DecidableEq, Repr

structure Job where
  region : Nat
  ops : List FlashOp
  fin : JobEnd
  deriving DecidableEq, Repr

structure FwUpdate where
  slot : Nat
  total : Nat
  version : Nat
  received : Nat
  deriving DecidableEq, Repr

structure Nvm where
  flash : List (Nat × Byte)
  jobs : List Job
  busy : Bool
  erasing : Bool
  lastStatus : Status
  flashOk : Bool
  repairs : List (Nat × Bool)
  head : Nat
  seq : Nat
  erases : List (Nat × Nat)
  lastRefused : Nat
  refused : Nat
  slotA : Nat
  slotB : Nat
  runningB : Bool
  trial : Bool
  reverted : Bool
  version : Nat
  slotValid : BitVec 8
  slotDamaged : BitVec 8
  slotWriting : BitVec 8
  slotTotal : List (Nat × Nat)
  fw : Option FwUpdate
  cfgBank : Nat
  cfgGen : Nat
  key : List Byte
  cal : List Byte
  calStatus : Status
  calCheck : Word
  calSerialOk : Bool
  calCorrected : Bool
  wearRaised : Bool
  deriving DecidableEq, Repr

/-! ### What leaves the module -/

/-- Control characters of the loop (R262) and the characters of a line. -/
inductive Ctl
  | k28_5 | k27_7 | k29_7 | k30_7 | k28_2 | k28_6 | k28_4
  deriving DecidableEq, Repr

inductive Sym
  | k (c : Ctl)
  | d (b : Byte)
  deriving DecidableEq, Repr

/-- Things the module sends; no rule reads them back (log 12). -/
inductive Output
  /-- A whole frame of a loop port, and a priority frame that is sent inside the frame in progress once `sent` of its
  header and payload bytes have left (R267, R272, R273). -/
  | frame (p : Port) (line : List Sym)
  | inside (p : Port) (sent : Nat) (line : List Sym)
  | wakeSymbol (p : Port) (line : List Sym)
  | stepOut (w : BitVec 64)
  | cplEntry (index : Nat) (bytes : List Byte)
  | resEntry (ring : Nat) (index : Nat) (bytes : List Byte)
  | dataBuffer (tag : Nat) (bytes : List Byte)
  | msix (vector : Nat)
  | readReply (offset : Nat) (value : Word)
  /-- A BAR0 access completed as Unsupported Request (R322). -/
  | unsupportedRequest (offset : Nat)
  deriving DecidableEq, Repr

/-- The module. `free` is the model's own counter of free values (log 3). -/
structure State where
  now : Nat
  glb : Glb
  pins : Pins
  /-- RW and RWS fields of hub registers and the hub's shadow of the segment windows, by offset, where they differ
  from their reset value; offsets rising. -/
  regs : List (Nat × Word)
  cells : Vec CellPath 256
  meas : Vec CellMeas 256
  temps : Vec CellTemp 256
  ana : Vec CellAna 256
  segs : Vec Segment 16
  links : Vec Link 16
  play : Player
  spc : Spc
  shunts : Meas
  results : Ana
  therm : Therm
  pwr : Pwr
  loop : Loop
  tu : TimeUnit
  acc : Accord
  host : HostPort
  flt : Flt
  bist : Bist
  chk : Vec Chk 4
  nvm : Nvm
  stopOrigin : Option Origin
  out : List Output
  free : Nat
  pending : List Instr
  deriving DecidableEq, Repr

/-! ### The state right after reset -/

def Gates.s2on : Gates := ⟨false, false, true, true⟩

def CellPath.reset : CellPath where
  st := .bypass
  fromPark := false
  keepHold := true
  gates := Gates.s2on
  tr := none
  waiting := none
  holdDone := false
  holdTemp := false
  holdInhibit := false
  holdExclude := false
  holdIdle := true
  resume := false
  causes := 0
  first := 0
  parkedAt := 0
  rung := 0
  nextRung := 0
  plan := []
  walk := none
  inSince := none
  ivals := []
  gapUntil := 0
  clampHits := 0
  openUntil := 0

def CellMeas.reset : CellMeas where
  last4 := []
  lastSlot := 0
  vHist := []
  pHist := []
  mon := 0
  visit := 0
  g := 0
  outs := 0
  span := []
  restart := none
  restartedAt := 0
  dist := none
  touch := 0
  distCount := 0
  nearDist := []
  edgesDone := []
  caps := []
  prevWinIn := none
  lastOut := none
  lastUsable := none
  ocvAcc := none
  lastOcv := none
  served := false
  servedEnd := none
  slicePassed := false
  misses := 0
  passes := 0
  missRaised := false
  lastCheck := 0
  noCheckRaised := false
  cover := 0
  coverLost := false
  heldOuts := []
  contP := 0
  contN := 0
  contRound := none
  patAcc := (0, 0, false)

def CellTemp.reset : CellTemp :=
  ⟨none, false, false, 0, 0, none, false, false, false, none, 0, false⟩

def Kval.reset : Kval := ⟨0, 0, 0, 0, 0, 0, 0, 0, 0, 0, 0, 0, false, false, 0, true, 0, 200, 8⟩

def CellAna.reset : CellAna where
  q := 0
  e := 0
  tIn := 0
  edges := 0
  late := 0
  qCycle := 0
  taperRun := 0
  doneAt := none
  rIn := []
  rOut := []
  pIn := ⟨10, 1000, 4, 1000000⟩
  pOut := ⟨10, 1000, 4, 1000000⟩
  rDistIn := 0
  rDistOut := 0
  bursts := []
  burstRx := []
  kval := Kval.reset
  cN := 0
  cSumP := 0
  cSumN := 0
  cMaxP := 0
  cMaxN := 0
  cSumI := 0
  cFrom := 0
  cTo := 0
  cDist0 := 0
  dqStart := none
  dqBins := []
  dqLast := 0
  dqFrom := 0
  dqDist0 := 0
  sweep := none
  sweepKept := none
  dist0 := 0
  sumTo := 0

def DieTemp.reset : DieTemp := ⟨0, false, false, false, false, false, 0, 0⟩

def Bank.reset : Bank := ⟨[], 0, false, 0xFF, .notReady, false⟩

def Player.reset : Player where
  st := .empty
  active := Bank.reset
  staged := Bank.reset
  bankNo := false
  ts := 0
  cycleStart := 0
  cycles := 0
  step := 0
  stepReg := 0
  since := 0
  recorded := true
  endCode := 4
  inExit := false
  pending := none
  answeredAt := none
  derated := false
  deratedNs := 0
  timeCount := 0
  lowest := none
  target := 0
  h := none
  overrun := 0
  seq := 0
  exitOver := false
  zeroAcked := false
  swapAt := none
  swapStaged := false
  checkRule := 0
  checkWhere := 0xFFFF
  modPeak := 0
  segPeak := 0
  cycAbs := 0
  cycN := 0
  segSlots := Vec.fill 16 []
  modSlots := []
  loading := none
  verify := none
  stepDeratedFrom := none
  deratedEnd := none
  stepId := 0xFFFF

def PhaseSt.reset : PhaseSt where
  active := false
  failed := false
  fOpen := false
  fSense := false
  fXchk := false
  pwm := .released
  centre := 0
  width := 0x10
  addedAt := none
  code := 0x800
  handAt := none
  shedAt := none
  shift := 0
  switchedAt := none
  fromCode := 0x800
  onAt := none
  onNs := 0
  offNs := 0
  stuckNow := false
  stuckRun := 0
  wrongRun := 0

def Spc.reset : Spc where
  st := .disabled
  causes := 0
  phases := Vec.fill 8 PhaseSt.reset
  target := 0
  delivered := 0
  setpoint := 0
  ramp := 0
  ramping := false
  rampFrom := none
  iFast := 0
  iMilli := 0
  iMilliN := 0
  pending := none
  lastRaw := none
  lastAnswer := none
  acceptedAt := 0
  answered := true
  answeredAt := 0
  unsolDue := false
  lastSeq := 0
  answeredSeq := 0
  sync := true
  crcErr := 0
  nakCause := 0
  nakSeq := 0
  nakUnsol := false
  nakCount := 0
  dwellFrom := none
  shedFrom := none
  dOverFrom := none
  toggle := none
  unresolved := 0
  retryAt := none
  vOverFrom := none
  vUnderFrom := none
  link := 0
  trainCount := 0
  lastValid := 0
  disabling := false
  orphanRamp := false
  forceSeq := 0
  inbox := []
  answers := []
  toggleList := []
  togSum := 0
  togN := 0
  togD := []
  feed := []
  stepFreeAt := 0

def Meas.reset : Meas where
  exclB := false
  exclT := false
  bistB := false
  bistT := false
  iShunt := none
  iT := none
  iSlot := 0
  iTs := []
  iHist := []
  shHist := []
  msStart := 0
  msB := 0
  msT := 0
  msN := 0
  mismatchRun := 0
  mismatchRaised := false
  noShuntRaised := false
  distCount := 0
  drops := 0
  clashAt := none
  stackMiss := Vec.fill 16 0
  strSegs := 0
  strKinds := 0
  strCells := 0
  strOn := false
  strDropped := Vec.fill 16 0
  strSent := Vec.fill 16 0
  strMs := 0
  strLive := 0
  lastMark := Vec.fill 16 0
  strB := (0, 0, false)
  strT := (0, 0, false)

def Ana.reset : Ana where
  slots := []
  nextSeq := 0
  drops := 0
  dropDue := false
  fullEpisode := false
  zeroB := none
  zeroT := none
  zeroAt := none
  zeroRaised := false
  quietFrom := none
  quietSumB := 0
  quietSumT := 0
  quietNB := 0
  quietNT := 0
  stepFrom := none
  iGap := false
  params := ⟨0x7F, 1000, 5000, 4, 5000, 0⟩
  lastTally := 0
  lastSnap := 0
  snapPending := false
  sweepId := 0
  sweepPlan := 0
  sweepAt := none
  sweepCells := 0
  sweepOn := false
  sweepRecords := 0
  sweepExcl := 10
  sweepAmpl := 100000
  qString := 0

def Therm.reset : Therm where
  dies := Vec.fill 17 DieTemp.reset
  banks := Vec.fill 16 (List.replicate 33 0)
  lastModel := 0
  near := false
  coolSince := none
  slowBusy := none
  calOk := false
  latched := false
  tripSource := 0
  tripTemp := 0

def Keeper.reset : Keeper := ⟨true, false, false, false, 0, 0⟩

def Dir.reset {α : Type} : Dir α := ⟨[], [], 0, 0, 0⟩

def Link.reset : Link where
  st := .down
  c0 := false
  c1 := false
  latency := 0
  retry := 0
  losses := 0
  down := Dir.reset
  up := Dir.reset
  trainFrom := 0
  trainRaised := false
  everUp := false
  lastUplink := 0
  lastDownlink := 0
  report := ⟨0, 0, false, false, false, 0⟩
  beacon := none
  parkSym := none
  parkLeft := 0
  haltReq := false
  seen := []
  waits := []

def Verifier.reset : Verifier := ⟨0, 0, false, 15, 0, 0⟩

def Segment.reset : Segment where
  st := .unpowered
  onStack := false
  stackMv := 0
  feedOk := false
  feedV := 0
  stagedOk := false
  shareStatus := .notReady
  ignored := 0
  resets := 0
  keeper := Keeper.reset
  win := []
  staged := []
  accordAt := none
  shareRx := []
  shareStaged := []
  shareActive := []
  imageIn := false
  timeSet := false
  cls := .low
  clsAt := 0
  haltCause := 0
  islots := []
  log := []
  logOver := 0
  patrols := 0
  patrolAt := none
  periodS := 3600
  dormantPatrol := true
  smeas := false
  sdrv := false
  windowAt := none
  suspect := none
  suspects := []
  confirming := false
  hot := false
  counted := []
  retention := false
  feedRestoreAt := none
  shadowOk := true
  verifier := Verifier.reset
  sweepCells := 0
  trained := false
  timerFrom := none
  timerPpb := 0

def Pwr.reset : Pwr where
  st := .active
  changing := false
  going := none
  exitFrom := none
  block := 0
  hubOn := 0x01
  hubRet := 0
  lastCmd := 0
  patrolNo := 0
  tFirst := 0
  reported := 0
  wakeCommand := false
  wakeSymbol := false
  wakeAnomaly := false
  wakeBudget := false
  anKind := 0
  anSeg := 0
  anCell := 0
  anCount := 0
  anomalies := []
  wakeOrigins := []
  auxMv := 0
  inRange := false
  nvmOk := false
  sagCount := 0

def PortSt.reset : PortSt where
  st := 0
  count := 0
  lastValid := 0
  heard := 0
  rxUp := false
  partner := 0
  restricted := false
  lseqTx := 0
  expect := 0
  lack := 0
  held := []
  resend := []
  queue := []
  tx := none
  ackAt := 0
  retries := 0
  crcErr := 0
  retry := 0
  discard := 0
  downs := 0
  lat := 0
  pings := 0
  pingSent := 0
  pingN := 0
  pingSum := 0
  pingOut := []
  pongDue := none
  lastStart := 0
  faultBeyond := false
  everUp := false

def Loop.reset : Loop where
  a := PortSt.reset
  b := PortSt.reset
  silent := false
  wakeSeen := false
  brkUp := 0
  brkDown := 0
  position := 0
  valid := false
  gen := 0
  n := 0
  rtt := 0
  topo := false
  census := none
  censusSeen := []
  censusN := none
  tentative := 0
  tentGen := 0
  seenBcast := []
  parkIds := []
  parkId := 0
  inFlight := 0
  lastRetire := 0
  lastWakeFwd := none
  tseqA := 0
  tseqB := 0
  placed := []
  retired := []
  marks := []
  lastSent := []
  sweepEnds := []
  sweepCount := []
  orphanSent := false

def TimeUnit.reset : TimeUnit where
  st := 0
  src := 0
  hops := 0
  srcHoldover := false
  slewing := false
  stepped := false
  srcHead := false
  offset := 0
  trim := 0
  good := 0
  bad := 0
  candA := none
  candB := none
  better := 0
  lastSource := 0
  holdFrom := none
  limitRaised := false
  slewEnd := none
  ptmValid := false
  latchBar := 0
  latchLoop := 0
  hiWritten := none
  steppedAt := none
  trims := []
  lockMark := none

def Accord.reset : Accord := ⟨.idle, 0, 0, 0, false, false, .ok, 0, 0, [], none⟩

def Ring.reset : Ring := ⟨0, 0, 0, [], 0, 0⟩

def HostPort.reset : HostPort where
  st := 0
  ringsReset := false
  linkUp := false
  lostAt := some 0
  busMaster := false
  msixEn := false
  err := 0
  cmdSize := 0
  cmdTail := 0
  cmdHead := 0
  cpl := Ring.reset
  res := Vec.fill 4 Ring.reset
  outstanding := []
  closed := []
  heldCpl := []
  waiting := []
  sentBcast := []
  gaps := []
  heldNotices := []
  heldReads := []
  met := []

def Flt.reset : Flt where
  sticky := []
  counts := []
  classes := []
  log := []
  intake := []
  intakeAt := 0
  first := none
  nextSeq := 0
  afterDrop := false
  logFull := 0
  intakeFull := 0
  lastClear := .ok
  units := []
  due := []
  tickOf := 0
  tickSrcs := []
  firstAt := 0
  tickBest := none
  awaited := []

def Bist.reset : Bist where
  slices := Vec.fill 64 ⟨.notRun, false, none⟩
  running := none
  runKind := .idle
  mode := .idle
  current := 0
  skips := 0
  queue := []
  rerunQueue := []
  reruns := 0
  lastStart := 0
  waitFrom := 0
  relFrom := 0
  cmdOrigin := none
  cmdAll := false
  cmdPassed := 0
  cmdFailed := 0
  cmdAborted := 0
  cmdFirst := none
  relOrigin := none
  relCells := 0
  relQueue := []
  abortedLast := none
  roundQueue := []
  lastFail := 0
  lastFailValid := false
  lastFailOver := false
  lastFailSig := 0
  abortCount := 0
  lastAbort := 0
  rounds := 0
  ends := 0
  slowDue := false

def Chk.reset : Chk where
  st := .idle
  status := .ok
  runLo := 0
  runHi := 0
  digest := Vec.fill 8 0
  start := 0
  length := 0
  algo := 0
  init := true
  final := true
  origin := none

def Nvm.reset : Nvm where
  flash := []
  jobs := []
  busy := false
  erasing := false
  lastStatus := .ok
  flashOk := false
  repairs := []
  head := 0
  seq := 0
  erases := []
  lastRefused := 0
  refused := 0
  slotA := 0
  slotB := 0
  runningB := false
  trial := false
  reverted := false
  version := 0
  slotValid := 0
  slotDamaged := 0
  slotWriting := 0
  slotTotal := []
  fw := none
  cfgBank := 0
  cfgGen := 0
  key := []
  cal := []
  calStatus := .notReady
  calCheck := 0
  calSerialOk := false
  calCorrected := false
  wearRaised := false

def Jtag.reset : Jtag := ⟨false, [], 0, .testLogicReset, .idcode, [], [], [], none⟩

def Glb.reset : Glb where
  st := .boot
  prev := .off
  recovery := false
  phase := .held
  cause := 0
  latchAtBoot := false
  resetCount := 0
  headEn := false
  brBlock := 0
  brUnit := 0xFF
  brCount := 0
  resetAt := none
  heldHalt := false
  testEnded := false
  trialBit := false
  recoveryResetAt := none
  feedsOn := 0
  feedAt := 0
  enteredAt := 0

/-- The module right after a power-on reset (R7, R477): state BOOT, registers at their Reset column, cells in the
keeper's power-up hold (R59), nothing in memory. Pin levels and what the spec gives no reset value are log 13. -/
def State.reset : State where
  now := 0
  glb := Glb.reset
  pins := ⟨true, true, true, true, false, Jtag.reset⟩
  regs := []
  cells := Vec.fill 256 CellPath.reset
  meas := Vec.fill 256 CellMeas.reset
  temps := Vec.fill 256 CellTemp.reset
  ana := Vec.fill 256 CellAna.reset
  segs := Vec.fill 16 Segment.reset
  links := Vec.fill 16 Link.reset
  play := Player.reset
  spc := Spc.reset
  shunts := Meas.reset
  results := Ana.reset
  therm := Therm.reset
  pwr := Pwr.reset
  loop := Loop.reset
  tu := TimeUnit.reset
  acc := Accord.reset
  host := HostPort.reset
  flt := Flt.reset
  bist := Bist.reset
  chk := Vec.fill 4 Chk.reset
  nvm := Nvm.reset
  stopOrigin := none
  out := []
  free := 0
  pending := []

end Sys2Proof.Machine
end

