-- ==== Sys2Proof/Machine/Ops.lean ====
section
/-!
DEFINITION. The named operations over the parts of the state: sparse memory in canonical form, register fields, one
cell, one segment, one link, the module state, free values.
-/

namespace Sys2Proof.Machine

/-! ### Sparse memory: (address, value) pairs, addresses rising, no entry equal to what an unlisted address reads as -/

/-- Value at an address; `d` is what an unlisted address reads as. -/
def Sparse.get {α : Type} (d : Nat → α) : List (Nat × α) → Nat → α
  | [], a => d a
  | (b, v) :: t, a => if b = a then v else Sparse.get d t a

/-- Memory with a value written. -/
def Sparse.put {α : Type} [DecidableEq α] (d : Nat → α) : List (Nat × α) → Nat → α → List (Nat × α)
  | [], a, v => if v = d a then [] else [(a, v)]
  | (b, w) :: t, a, v =>
    if a < b then (if v = d a then (b, w) :: t else (a, v) :: (b, w) :: t)
    else if a = b then (if v = d a then t else (a, v) :: t)
    else (b, w) :: Sparse.put d t a v

/-- Consecutive values written upwards from an address. -/
def Sparse.putAll {α : Type} [DecidableEq α] (d : Nat → α) (m : List (Nat × α)) (a : Nat) : List α → List (Nat × α)
  | [] => m
  | v :: t => Sparse.putAll d (Sparse.put d m a v) (a + 1) t

/-- Consecutive values read upwards from an address. -/
def Sparse.read {α : Type} (d : Nat → α) (m : List (Nat × α)) (a n : Nat) : List α :=
  (List.range n).map (fun i => Sparse.get d m (a + i))

/-- Every listed address is at least `lo`, addresses rise and no entry is the unlisted value. -/
def Sparse.wfFrom {α : Type} [DecidableEq α] (d : Nat → α) : Nat → List (Nat × α) → Bool
  | _, [] => true
  | lo, (b, v) :: t => decide (lo ≤ b) && decide (v ≠ d b) && Sparse.wfFrom d (b + 1) t

/-- The canonical form. -/
def Sparse.wf {α : Type} [DecidableEq α] (d : Nat → α) (m : List (Nat × α)) : Bool := Sparse.wfFrom d 0 m

/-- Flash that nothing has programmed reads as erased (R455). -/
def erased (_ : Nat) : Byte := 0xFF

/-! ### Registers -/

/-- Reset value of the RW and RWS bits of the register at an offset; FLT_REACTION from the source table (R412). -/
def resetOf (off : Nat) : Word :=
  if 0x5900 ≤ off ∧ off < 0x5D00 then
    match srcOfNumber ((off - 0x5900) / 4) with
    | some x => BitVec.ofNat 32 (srcDefault x)
    | none => 0
  else match regAt off with
    | some d => d.reset
    | none => 0

/-- RW and RWS bits of a hub register, or the hub's shadow of a window register. -/
def State.stored (s : State) (off : Nat) : Word := Sparse.get resetOf s.regs off

/-- The same with new contents. -/
def State.store (s : State) (off : Nat) (w : Word) : State := { s with regs := Sparse.put resetOf s.regs off w }

/-- Bits of a field in a register's contents. -/
def fieldOf (f : Field) (w : Word) : Nat := w.toNat / 2 ^ f.lo % 2 ^ f.width

/-- Register contents with a field replaced. -/
def withField (f : Field) (w : Word) (v : Nat) : Word :=
  BitVec.ofNat 32 (w.toNat - fieldOf f w * 2 ^ f.lo + v % 2 ^ f.width * 2 ^ f.lo)

/-- A field of the hub. -/
def State.fld (s : State) (f : Field) : Nat := fieldOf f (s.stored f.off)
def State.flag (s : State) (f : Field) : Bool := s.fld f == 1
/-- A field read as a signed number. -/
def State.sfld (s : State) (f : Field) : Int := signed f.width (s.fld f)
def State.setFld (s : State) (f : Field) (v : Nat) : State := s.store f.off (withField f (s.stored f.off) v)

/-- A field of a segment's own applied window (R471, R488). -/
def State.segFld (s : State) (g : Seg) (f : Field) : Nat := fieldOf f (Sparse.get resetOf (s.segs.get g).win f.off)
def State.segFlag (s : State) (g : Seg) (f : Field) : Bool := s.segFld g f == 1
/-- A per-cell field as the cell's segment has applied it. -/
def State.cellFld (s : State) (k : Cell) (f : Cell → Field) : Nat := s.segFld (segOf k) (f k)
def State.cellFlag (s : State) (k : Cell) (f : Cell → Field) : Bool := s.cellFld k f == 1

/-- Whether a field is 1 in a written value. -/
def Wr.has (w : Wr) (f : Field) : Bool := fieldOf f (w.value &&& w.mask) == 1

/-- An event of which p holds waits behind the command in hand. Line time moves on an empty queue only (log 15), so
what waits falls at the same tick (R25, R48). -/
def State.coming (s : State) (p : Instr → Bool) : Bool := s.pending.any p

/-- Line time advances by one tick (R5). -/
def State.tick (s : State) : State := { s with now := timeAdd s.now 4 }

/-! ### Parts of the state -/

def State.modCell (s : State) (k : Cell) (f : CellPath → CellPath) : State := { s with cells := s.cells.modify k f }
def State.modMeas (s : State) (k : Cell) (f : CellMeas → CellMeas) : State := { s with meas := s.meas.modify k f }
def State.modTemp (s : State) (k : Cell) (f : CellTemp → CellTemp) : State := { s with temps := s.temps.modify k f }
def State.modAna (s : State) (k : Cell) (f : CellAna → CellAna) : State := { s with ana := s.ana.modify k f }
def State.modSeg (s : State) (g : Seg) (f : Segment → Segment) : State := { s with segs := s.segs.modify g f }
def State.modLink (s : State) (g : Seg) (f : Link → Link) : State := { s with links := s.links.modify g f }
def State.modChk (s : State) (c : Fin 4) (f : Chk → Chk) : State := { s with chk := s.chk.modify c f }
def State.modPlay (s : State) (f : Player → Player) : State := { s with play := f s.play }
def State.modSpc (s : State) (f : Spc → Spc) : State := { s with spc := f s.spc }
def State.modGlb (s : State) (f : Glb → Glb) : State := { s with glb := f s.glb }
def State.modPwr (s : State) (f : Pwr → Pwr) : State := { s with pwr := f s.pwr }
def State.modLoop (s : State) (f : Loop → Loop) : State := { s with loop := f s.loop }
def State.modHost (s : State) (f : HostPort → HostPort) : State := { s with host := f s.host }
def State.modFlt (s : State) (f : Flt → Flt) : State := { s with flt := f s.flt }
def State.modBist (s : State) (f : Bist → Bist) : State := { s with bist := f s.bist }
def State.modNvm (s : State) (f : Nvm → Nvm) : State := { s with nvm := f s.nvm }
def State.modShunts (s : State) (f : Meas → Meas) : State := { s with shunts := f s.shunts }
def State.modRes (s : State) (f : Ana → Ana) : State := { s with results := f s.results }
def State.modTherm (s : State) (f : Therm → Therm) : State := { s with therm := f s.therm }
def State.modTu (s : State) (f : TimeUnit → TimeUnit) : State := { s with tu := f s.tu }
def State.modAcc (s : State) (f : Accord → Accord) : State := { s with acc := f s.acc }
def State.modPhase (s : State) (p : Phase) (f : PhaseSt → PhaseSt) : State :=
  s.modSpc (fun x => { x with phases := x.phases.modify p f })
def State.setPins (s : State) (x : Pins) : State := { s with pins := x }
def State.putCells (s : State) (v : Vec CellPath 256) : State := { s with cells := v }
def State.setMeas (s : State) (v : Vec CellMeas 256) : State := { s with meas := v }
def State.setTemps (s : State) (v : Vec CellTemp 256) : State := { s with temps := v }
def State.setAna (s : State) (v : Vec CellAna 256) : State := { s with ana := v }
def State.setSegs (s : State) (v : Vec Segment 16) : State := { s with segs := v }
def State.setLinks (s : State) (v : Vec Link 16) : State := { s with links := v }
def State.setRegs (s : State) (m : List (Nat × Word)) : State := { s with regs := m }
def State.setNow (s : State) (t : Nat) : State := { s with now := t }
def State.setStop (s : State) (o : Option Origin) : State := { s with stopOrigin := o }
def State.modPort (s : State) (p : Port) (f : PortSt → PortSt) : State :=
  s.modLoop (fun l => match p with
    | .a => { l with a := f l.a }
    | .b => { l with b := f l.b })
def State.port (s : State) (p : Port) : PortSt :=
  match p with
  | .a => s.loop.a
  | .b => s.loop.b
def otherPort : Port → Port
  | .a => .b
  | .b => .a
def portNo : Port → Nat
  | .a => 0
  | .b => 1

/-- Something leaves the module. -/
def State.emit (s : State) (o : Output) : State := { s with out := o :: s.out }

/-- The next free value, of at most 64 bits, and the state that has used it (log 3). -/
def State.freeBits (s : State) : BitVec 64 × State := (Config.freeValue s.free, { s with free := s.free + 1 })
def State.freeBool (s : State) : Bool × State := ((Config.freeValue s.free).getLsbD 0, { s with free := s.free + 1 })

/-! ### Module state -/

/-- Codes of R481. -/
def stateCode : ModState → Nat
  | .off => 0
  | .boot => 1
  | .startupTest => 2
  | .ready => 3
  | .run => 4
  | .halt => 5
  | .orphan => 6
  | .drydown => 7
  | .dormant => 8
  | .shutdownLatched => 9

def State.st (s : State) : ModState := s.glb.st
/-- The module enters a state; GLB_STATE.PREV takes the state before (R481). -/
def State.enter (s : State) (m : ModState) : State :=
  s.modGlb (fun g => { g with st := m, prev := g.st, enteredAt := s.now })
/-- States in which the hub is powered (R23). -/
def State.powered (s : State) : Bool := s.st != .off && s.st != .dormant
/-- The firmware is up: not in the boot ROM part of BOOT, nor unpowered. -/
def State.inRun (s : State) : Bool := s.st == .run

/-- A link counts as up in UP and SINGLE (R252). -/
def State.linkUp (s : State) (g : Seg) : Bool :=
  match (s.links.get g).st with
  | .up | .single => true
  | .down | .training | .patrol | .lost => false

/-- Words of a 256-bit cell set. -/
def inSet (b : BitVec 256) (k : Cell) : Bool := b.getLsbD k.val

/-- Applies f for every element in order. -/
def each {α : Type} (l : List α) (f : State → α → State) (s : State) : State := l.foldl f s

end Sys2Proof.Machine
end

