-- ==== Sys2Proof/Machine/Deliver.lean ====
section
/-!
DEFINITION. How things leave the module and reach the host: loop frames and their transmitters, ring entries and
completions of a head, interrupts, the result buffer, and the answer to a command.
-/

namespace Sys2Proof.Machine

/-- Zero bytes. -/
def zeros (n : Nat) : List Byte := List.replicate n 0

/-- A flag at bit n. -/
def flagAt (b : Bool) (n : Nat) : Nat := if b then 2 ^ n else 0

def State.isHead (s : State) : Bool := s.glb.headEn

/-! ### FAULT_N (R370, R396, R452) -/

def State.reaction (s : State) (x : Src) (f : Nat → Field) : Bool := s.flag (f (srcNumber x))

/-- FAULT_N driven low. -/
def State.faultLow (s : State) : Bool :=
  (s.flag Fld.fltPinCfgEn && s.flt.sticky.any (fun x => s.reaction x Fld.fltReactionPin)) ||
    s.flag Fld.fltPinCfgForceLow || s.st == .shutdownLatched || s.glb.recovery

/-! ### Loop frames (R263 to R273) -/

/-- Frame types that consume a link sequence number (R264). -/
def isSequenced (t : Nat) : Bool := t == 1 || t == 2 || t == 3 || t == 5 || t == 7

/-- Header and payload bytes of a frame (R267). -/
def frameBytes (f : Frame) : List Byte :=
  leBytes 8 (f.ftype % 16 + (if f.down then 16 else 0) + (if f.bcast then 32 else 0) + (if f.head then 64 else 0) +
    f.hop * 2 ^ 8 + f.dist * 2 ^ 18 + f.payload.length * 2 ^ 28 + f.lseq * 2 ^ 37 + f.lack * 2 ^ 45 +
    f.info * 2 ^ 53) ++ f.payload

/-- The frame on the line (R267): K27.7, header and payload, their CRC-32C with the least significant byte first, and
K29.7, or K30.7 for a copy that is aborted (R272). -/
def lineOf (f : Frame) (good : Bool) : List Sym :=
  let b := frameBytes f
  .k .k27_7 :: (b ++ leBytes 4 (crc32c b)).map Sym.d ++ [.k (if good then .k29_7 else .k30_7)]

/-- The loop wake symbol (R283). -/
def wakeLine : List Sym := List.replicate 4 (.k .k28_4)

/-- Time of one character at 50 characters per µs (R262), and of the frame with n payload bytes. -/
def charNs : Nat := 20
def frameNs (n : Nat) : Nat := charNs * (14 + n)

def isPriority (t : Nat) : Bool := t == 4 || t == 6

/-- The transmitter is free. -/
def PortSt.idleTx (x : PortSt) (now : Nat) : Bool :=
  match x.tx with
  | none => true
  | some t => decide (t.ends ≤ now)

/-- A TIME frame whose K27.7 leaves at t: its origin stamps T_ORIGIN (R298), a member in transit adds the residence time
from the K27.7 stamps at both ports to CORR (R280). -/
def TxFrame.leaving (x : TxFrame) (t : Nat) : Frame :=
  let f := x.frame
  if f.ftype ≠ 4 then f
  else if x.own then { f with payload := splice f.payload 0 (leBytes 8 t) }
  else
    let res : Int := divI (5 * ((8 * t : Nat) - (x.rx : Int))) 4
    { f with payload := splice f.payload 8 (leBytes 4 (((u f.payload 8 4 : Int) + res) % 2 ^ 32).toNat) }

/-- A frame starts on a port: it takes its LSEQ and LACK, and a sequenced frame is kept until LACK covers it
(R264, R265). -/
def State.startFrame (s : State) (p : Port) (x : TxFrame) : State :=
  let ps := s.port p
  let f := { x.leaving s.now with lseq := ps.lseqTx, lack := ps.lack }
  let s := s.emit (.frame p (lineOf f true))
  let tx : TxNow := ⟨s.now, 8 + f.payload.length, isPriority f.ftype, false, s.now + frameNs f.payload.length⟩
  s.modPort p (fun ps =>
    if isSequenced f.ftype then
      { ps with
        lastStart := s.now
        tx := some tx
        lseqTx := (ps.lseqTx + 1) % 256
        ackAt := if ps.held.isEmpty then s.now else ps.ackAt
        held := ps.held ++ [{ x with frame := f }] }
    else { ps with lastStart := s.now, tx := some tx })

/-- A held frame starts again with its LSEQ and the present LACK (R265). -/
def State.startAgain (s : State) (p : Port) (x : TxFrame) : State :=
  let f := { x.frame with lack := (s.port p).lack }
  (s.emit (.frame p (lineOf f true))).modPort p (fun ps => { ps with
    lastStart := s.now
    tx := some ⟨s.now, 8 + f.payload.length, false, false, s.now + frameNs f.payload.length⟩ })

/-- Where the frame in progress may be interrupted next (R273): the number of header and payload bytes sent, a non-zero
multiple of 32. -/
def TxNow.nextPoint (t : TxNow) (now : Nat) : Option Nat :=
  let sent := (now - t.start) / charNs - 1
  let n := 32 * Nat.max 1 ((sent + 31) / 32)
  if !t.prio && !t.inside && decide (n ≤ t.bytes) then some n else none

/-- A priority frame is sent inside the frame in progress after n of its bytes: K28.2, the frame, K28.6 (R273). -/
def State.sendInside (s : State) (p : Port) (x : TxFrame) (t : TxNow) (n : Nat) : State :=
  let at_ := t.start + charNs * (n + 2)
  let f := { x.leaving at_ with lseq := (s.port p).lseqTx, lack := (s.port p).lack }
  (s.emit (.inside p n (.k .k28_2 :: lineOf f true ++ [.k .k28_6]))).modPort p (fun ps => { ps with
    lastStart := Nat.max ps.lastStart at_
    tx := some { t with inside := true, ends := t.ends + frameNs f.payload.length + 2 * charNs } })

/-- Whether a port may start a frame of a type now: it is UP, it is not restricted to other types (R277), and
fewer than 64 frames are unacknowledged (R265). -/
def canStart (ps : PortSt) (t : Nat) : Bool :=
  ps.st == 2 && (!ps.restricted || t == 0 || t == 4 || t == 6 || t == 7) &&
    (!isSequenced t || decide (ps.held.length < 64))

/-- The priority frame that goes first: PARK_ALL before TIME (R287). -/
def firstPriority (q : List TxFrame) : Option TxFrame :=
  (q.find? (fun x => x.frame.ftype == 6)) <|> (q.find? (fun x => x.frame.ftype == 4))

/-- The next frame that a transmitter takes from those that wait and may start: an own frame that has waited 100 µs, else
the first in transit, else the first own frame (R270). -/
def nextOf (now : Nat) (q : List TxFrame) : Option TxFrame :=
  match q.find? (fun x => x.own && decide (x.since + 100000 ≤ now)) with
  | some x => some x
  | none =>
    match q.find? (fun x => !x.own) with
    | some x => some x
    | none => q.head?

/-- The frames of a queue that may start now. -/
def PortSt.ready (x : PortSt) (now : Nat) : List TxFrame :=
  x.queue.filter (fun t => canStart x t.frame.ftype && decide (t.since ≤ now))

/-- FAULT_BEYOND as sent out of a port (R285): a member's own FAULT_N or what the other port shows; a head's own only. -/
def State.faultFlag (s : State) (p : Port) : Bool :=
  s.faultLow || (!s.isHead && (s.port (otherPort p)).faultBeyond)

/-- An IDLE frame (R267): PING or PONG with its ID and TURN. -/
def State.idleFrame (s : State) (p : Port) (ping pong : Bool) (id turn : Nat) : Frame :=
  let x := s.port p
  let flags := flagAt (x.st == 2 || decide (32 ≤ x.count)) 0 + flagAt ping 1 + flagAt pong 2 + flagAt (s.st == .orphan) 3 +
    flagAt (s.faultFlag p) 4
  { ftype := 0, down := p == .a, bcast := false, head := false, hop := 0, dist := 0, lseq := 0, lack := 0, info := 0,
    payload := leBytes 1 flags ++ zeros 1 ++ leBytes 2 (if s.loop.valid then s.loop.position else 0) ++
      leBytes 2 id ++ leBytes 2 turn }

/-- A free transmitter starts the next frame: a PONG that is due (R280), else by the order of R270; one that sends a
frame takes a priority frame into it (R273). -/
def State.serve (s : State) (p : Port) : State :=
  let ps := s.port p
  let q := ps.ready s.now
  let take (x : TxFrame) (s : State) : State := s.modPort p (fun ps => { ps with queue := ps.queue.erase x })
  if ps.idleTx s.now then
    match ps.pongDue with
    | some (id, t) =>
      if ps.st = 0 then s
      else (s.modPort p (fun ps => { ps with pongDue := none })).startFrame p
        ⟨true, s.now, 0, s.idleFrame p false true id (Nat.min 0xFFFF (10 * (s.now - t)))⟩
    | none =>
      match firstPriority q, ps.resend, nextOf s.now q with
      | some x, _, _ => (take x s).startFrame p x
      | none, x :: l, _ => (s.modPort p (fun ps => { ps with resend := l })).startAgain p x
      | none, [], some x => (take x s).startFrame p x
      | none, [], none => s
  else
    match ps.tx, firstPriority q with
    | some t, some x =>
      match t.nextPoint s.now with
      | some n => (take x s).sendInside p x t n
      | none => s
    | _, _ => s

/-- A frame joins those that wait for the transmitter of its port. -/
def State.enqueue (s : State) (p : Port) (x : TxFrame) : State :=
  (s.modPort p (fun ps => { ps with queue := ps.queue ++ [x] })).serve p

/-- A frame is started, or waits for the transmitter of its port. -/
def State.sendFrame (s : State) (p : Port) (own : Bool) (f : Frame) : State := s.enqueue p ⟨own, s.now, 0, f⟩

/-- LACK of a received frame covers held copies up to it (R264, R265). -/
def State.ackPort (s : State) (p : Port) (lack : Nat) : State :=
  let h := (s.port p).held
  if h.any (fun x => x.frame.lseq == lack) then
    let rest := (h.dropWhile (fun x => x.frame.lseq != lack)).drop 1
    let s := s.modPort p (fun ps => { ps with
      held := rest, resend := ps.resend.filter (fun x => rest.contains x), ackAt := s.now, retries := 0 })
    s.serve p
  else s

/-- The way to a head that R278 gives; true is UP, port B. -/
def State.wayUp (s : State) : Bool :=
  let l := s.loop
  if !l.valid then l.a.st != 2
  else
    let up := if l.topo then l.n - l.position else l.n + 1 - l.position
    match s.fld Fld.loopCtrlResDir with
    | 1 => l.brkDown != 0
    | 2 => l.brkUp == 0
    | _ =>
      if l.brkDown == 0 && l.brkUp == 0 then decide (up < l.position - 1)
      else if l.brkDown == 0 then false
      else if l.brkUp == 0 then true
      else l.a.st != 2 && l.b.st == 2

/-- A frame bound for a head (R269): sent by the way of R278 with HOP 1023; `head` is the HEAD bit. -/
def State.toHead (s : State) (ftype : Nat) (head : Bool) (info : Nat) (payload : List Byte) : State :=
  let up := s.wayUp
  s.sendFrame (if up then .b else .a) true
    { ftype := ftype, down := !up, bcast := false, head := head, hop := 1023, dist := 0, lseq := 0, lack := 0,
      info := info, payload := payload }

/-! ### Interrupts and ring entries of a head (R324 to R327, R338, R345) -/

/-- An MSI-X message; none is sent while MSI-X is disabled (R345). -/
def State.msix (s : State) (v : Nat) : State := if s.host.msixEn then s.emit (.msix v) else s

/-- Held entries of a ring of counts (R324). -/
def Ring.held (r : Ring) : Nat := (r.prod + 65536 - r.cons) % 65536

/-- One more entry written: signalled when COUNT entries are unsignalled or no delay is set (R345, R351). -/
def countEntry (s : State) (r : Ring) : Ring × Bool :=
  let u := r.unsignalled + 1
  let first := if r.unsignalled = 0 then s.now else r.firstAt
  if decide (s.fld Fld.hostCoalesceCount ≤ u) || s.fld Fld.hostCoalesceTimeUs == 0 then
    ({ r with unsignalled := 0, firstAt := first }, true)
  else ({ r with unsignalled := u, firstAt := first }, false)

/-- Vector of a result ring (R350). -/
def State.resVector (s : State) (n : Fin 4) : Nat :=
  s.fld ⟨Fld.hostMsixMapRes0Vec.off, 4 + 4 * n.val, 4⟩

/-- A 64-byte entry is written to a result ring that has room; none where the ring is full or disabled, or the host
port is not RUNNING (R326, R339). -/
def State.placeEntry (s : State) (n : Fin 4) (bytes : List Byte) (what : Placed) : Option State :=
  let r := s.host.res.get n
  if s.host.st == 1 && r.size != 0 && decide (r.held < r.size) then
    let (r', sig) := countEntry s r
    let s := s.emit (.resEntry n.val (r.prod % r.size) bytes)
    let s := s.modHost (fun h => { h with
      res := h.res.set n { r' with prod := (r.prod + 1) % 65536, entries := r.entries ++ [what] } })
    some (if sig then s.msix (s.resVector n) else s)
  else none

/-- The result ring of a kind of record (R215). -/
def State.recordRing (s : State) (kind : Nat) : Fin 4 :=
  Fin.ofNat 4 (s.fld ⟨Fld.anaResultPolicyRingMap.off, 2 * kind + 10, 2⟩)

def State.headNo (s : State) : Bool := s.flag Fld.loopRoleHeadNo

/-- A notice (R340): subtype, position, and the content from offset 0x10 as 8 bytes, the 6 bytes from 0x1A and the
32 bytes from 0x20. -/
def State.noticeBytes (s : State) (subtype position : Nat) (c10 c1a c20 : List Byte) : List Byte :=
  leBytes 1 0x11 ++ leBytes 1 subtype ++ leBytes 2 0 ++ leBytes 2 position ++ leBytes 2 0 ++ leBytes 8 s.now ++
    (c10 ++ zeros (8 - c10.length)) ++ leBytes 2 (s.loop.position + 0x8000) ++ (c1a ++ zeros (6 - c1a.length)) ++
    (c20 ++ zeros (32 - c20.length))

/-- A notice is placed in ring NOTICE_RING, or dropped; a SWEEP_STATUS notice waits (R339). -/
def State.notice (s : State) (subtype position : Nat) (c10 c1a c20 : List Byte) : State :=
  let b := s.noticeBytes subtype position c10 c1a c20
  match s.placeEntry (Fin.ofNat 4 (s.fld Fld.hostCtrlNoticeRing)) b .plain with
  | some s => s
  | none => if subtype = 2 then s.modHost (fun h => { h with heldNotices := h.heldNotices ++ [b] }) else s

/-- SWEEP_STATUS (R340): COMPLETE when every named record of the position has been placed. -/
def State.sweepNotice (s : State) (id position records : Nat) (done_ : Bool) : State :=
  s.notice 2 position (leBytes 2 id ++ zeros 2 ++ leBytes 4 records) (leBytes 1 (if done_ then 1 else 0)) []

/-- SWEEP_Z records of a sweep that a head has placed from a position. -/
def State.sweepPlacedOf (s : State) (id position : Nat) : Nat :=
  match s.loop.sweepCount.find? (fun e => e.1 == id && e.2.1 == position) with
  | some e => e.2.2
  | none => 0

/-- A head has placed a SWEEP_Z record (R340). -/
def State.sweepPlaced (s : State) (id position : Nat) : State :=
  let n := s.sweepPlacedOf id position + 1
  let s := s.modLoop (fun l => { l with
    sweepCount := (id, position, n) :: l.sweepCount.filter (fun e => !(e.1 == id && e.2.1 == position)) })
  match s.loop.sweepEnds.find? (fun e => e.1 == id && e.2.1 == position) with
  | some e => if e.2.2 = n then s.sweepNotice id position n true else s
  | none => s

/-- A SWEEP_END has arrived at a head, or is its own (R281, R340). -/
def State.sweepEnded (s : State) (id position records : Nat) : State :=
  let s := s.modLoop (fun l => { l with sweepEnds := l.sweepEnds ++ [(id, position, records)] })
  s.sweepNotice id position records (decide (records ≤ s.sweepPlacedOf id position))

/-! ### Completions (R333, R334) -/

/-- The 32 bytes of a completion entry. -/
def State.cplBytes (s : State) (c : Cpl) : List Byte :=
  leBytes 2 c.hostTag ++ leBytes 1 c.opcode ++ leBytes 1 (statusCode c.status) ++ leBytes 2 c.position ++
    leBytes 1 c.dataLen ++ leBytes 1 c.flags.toNat ++ leBytes 4 c.value.toNat ++ leBytes 2 s.host.cmdHead ++
    leBytes 2 c.tag ++ leBytes 2 c.bcOk ++ leBytes 2 c.bcFail ++ leBytes 2 c.bcPos ++ leBytes 1 c.bcStatus ++
    leBytes 1 0 ++ leBytes 4 (s.now / 1000) ++ leBytes 4 1

/-- Whether a completion can be written now. -/
def State.cplRoom (s : State) : Bool :=
  s.host.st == 1 && s.host.cpl.size != 0 && decide (s.host.cpl.held < s.host.cpl.size)

/-- A completion entry is written; its command is no longer outstanding (R330). -/
def State.writeCpl (s : State) (c : Cpl) : State :=
  let r := s.host.cpl
  let (r', sig) := countEntry s r
  let s := s.emit (.cplEntry (r.prod % r.size) (s.cplBytes c))
  let s := s.modHost (fun h => { h with
    cpl := { r' with
      prod := (r.prod + 1) % 65536
      unsignalled := if c.irq then 0 else r'.unsignalled }
    outstanding := h.outstanding.filter (fun o => o.tag != c.tag) })
  if sig || c.irq then s.msix (s.fld Fld.hostMsixMapCplVec) else s

/-- A completion is written in order, or held while the ring is full or the port is not RUNNING (R334). -/
def State.putCpl (s : State) (c : Cpl) : State :=
  if s.cplRoom && s.host.heldCpl.isEmpty then s.writeCpl c
  else s.modHost (fun h => { h with heldCpl := h.heldCpl ++ [c] })

/-- Held completions are written while there is room; at most n. -/
def State.flushCpl : Nat → State → State
  | 0, s => s
  | n + 1, s =>
    match s.host.heldCpl with
    | [] => s
    | c :: t =>
      if s.cplRoom then State.flushCpl n ((s.modHost (fun h => { h with heldCpl := t })).writeCpl c) else s

/-- What a command answers. -/
structure Result where
  status : Status
  value : Nat
  data : List Byte
  deriving DecidableEq, Repr

def Result.of (st : Status) : Result := ⟨st, 0, []⟩
def Result.val (st : Status) (v : Nat) : Result := ⟨st, v, []⟩

/-- Broadcast figures of a CMD or RSP payload (R267). -/
structure BcFigures where
  ok : Nat
  fail : Nat
  pos : Nat
  status : Nat
  deriving DecidableEq, Repr

/-- STATUS of a broadcast (R333). -/
def BcFigures.result (b : BcFigures) (truncated : Bool) : Status :=
  if b.fail != 0 then statusOfCode b.status else if truncated then .noRoute else .ok

/-- The command with a tag completes (R333, R334): data is cut to OUT_MAX; a tag that is not outstanding or that
has a completion held completes nothing. -/
def State.completeTag (s : State) (tag position : Nat) (r : Result) (extra : BitVec 8) (bc : BcFigures) : State :=
  match s.host.outstanding.find? (fun o => o.tag == tag) with
  | none => s
  | some o =>
    if s.host.heldCpl.any (fun c => c.tag == tag) then s
    else
      let data := r.data.take o.outMax
      let cut := decide (o.outMax < r.data.length)
      let flags := extra ||| (if data.isEmpty then 0 else 0x04) ||| (if cut then 0x08 else 0)
      let s := if data.isEmpty then s else s.emit (.dataBuffer tag data)
      s.putCpl { tag := tag, hostTag := o.hostTag, opcode := o.opcode, status := r.status, position := position,
                 dataLen := data.length, flags := flags, value := BitVec.ofNat 32 r.value, bcOk := bc.ok,
                 bcFail := bc.fail, bcPos := bc.pos, bcStatus := bc.status, irq := o.irq }

/-- Whether a module's answer carries a VALUE (R331); in an RSP it stands before DATA (log 14). The round trip of
LOOP_PING and the PARK_ID of a broadcast HALT are the head's own. -/
def hasValue (op : Nat) : Bool :=
  [0x01, 0x10, 0x20, 0x21, 0x41, 0x53, 0x70, 0x71, 0x90, 0xA0].contains op

/-- DATA of an RSP. -/
def rspData (op : Nat) (r : Result) : List Byte := if hasValue op then leBytes 4 r.value ++ r.data else r.data

/-- RSP payload (R267). -/
def rspPayload (tag op position : Nat) (st : Status) (flags : Nat) (bc : BcFigures) (data : List Byte) : List Byte :=
  leBytes 2 tag ++ leBytes 1 op ++ leBytes 1 (statusCode st) ++ leBytes 2 position ++ leBytes 1 flags ++
    leBytes 1 0 ++ leBytes 2 bc.ok ++ leBytes 2 bc.fail ++ leBytes 2 bc.pos ++ leBytes 1 bc.status ++ leBytes 1 0 ++
    data

/-- A command is answered to whoever sent it. -/
def State.reply (s : State) (o : Origin) (op : Nat) (r : Result) : State :=
  match o with
  | .bar0 => s
  | .bcast => s
  | .ring tag => s.completeTag tag s.loop.position r 0 ⟨0, 0, 0, 0⟩
  | .loop tag head _ =>
    s.toHead 2 head 0 (rspPayload tag op s.loop.position r.status 0 ⟨0, 0, 0, 0⟩ (rspData op r))

/-- A command that was not answered when it was judged is answered now; it is no longer in flight (R269). -/
def State.replyLate (s : State) (o : Origin) (op : Nat) (r : Result) : State :=
  let s := match o with
    | .loop _ _ _ => s.modLoop (fun l => { l with inFlight := l.inFlight - 1 })
    | _ => s
  s.reply o op r

/-! ### The result buffer (R206, R207) -/

/-- Slots that hold unretired records. -/
def State.unretired (s : State) : Nat := (s.results.slots.filter (fun e => !e.2.retired)).length

/-- Lowest count of unretired records at which a kind of record is dropped (R206). -/
def State.dropLevel (s : State) (kind : Nat) : Nat :=
  if s.flag Fld.anaResultPolicyFullMode && (kind == 1 || kind == 7 || kind == 8) then 12288 else 16384

/-- Generation of a slot whose latest record is SEQ (R206). -/
def generation (seq : Nat) : Nat := seq / 16384 % 65535 + 1

/-- The 64 bytes of a record (R207), with READS and the owner bit of this delivery. -/
def recordBytes (r : Record) (reads : Nat) (owner : Bool) : List Byte :=
  leBytes 1 r.kind ++ leBytes 1 r.flags.toNat ++ leBytes 2 r.gen ++ leBytes 2 r.cell ++ leBytes 1 reads ++
    leBytes 1 r.dist ++ leBytes 8 r.time ++ leBytes 4 r.seq ++ leBytes 2 r.stepId ++ leBytes 2 r.sweepId ++
    leBytes 2 (r.origin + (if owner then 0x8000 else 0)) ++ leBytes 1 r.stepIndex ++ leBytes 1 1 ++
    leBytes 4 r.flaconId ++ r.payload

def State.modSlot (s : State) (i : Nat) (f : Slot → Slot) : State :=
  s.modRes (fun a => { a with slots := a.slots.map (fun e => if e.1 = i then (i, f e.2) else e) })

/-- Member: a record is sent in a RES frame of one record (R279); head: it is placed in its ring when the ring has
room and waits otherwise (R338, R339). Each delivery counts in READS (R344). -/
def State.deliverSlot (s : State) (i : Nat) : State :=
  match find? s.results.slots i with
  | none => s
  | some x =>
    if s.isHead then
      if x.placed then s
      else match s.placeEntry (s.recordRing x.record.kind) (recordBytes x.record x.reads true) (.own x.record.seq) with
        | none => s
        | some s =>
          let s := s.modSlot i (fun x => { x with placed := true, reads := satAdd 255 x.reads 1, sentAt := s.now })
          if x.record.kind = 4 then s.sweepPlaced x.record.sweepId x.record.origin else s
    else
      let s := s.toHead 3 false 0 (leBytes 2 s.loop.position ++ leBytes 1 0xFF ++ leBytes 1 1 ++ leBytes 4 0 ++
        recordBytes x.record x.reads false)
      s.modSlot i (fun x => { x with reads := satAdd 255 x.reads 1, sentAt := s.now })

/-- FLACON_ID of the active flacon; 0 when none (R207, R76). -/
def State.activeId (s : State) : Nat := if s.play.active.verified then u s.play.active.bytes 0x10 4 else 0

/-- A record is stored with the next SEQ, or dropped (R206). -/
def State.putRecord (s : State) (kind : Nat) (flags : BitVec 8) (cell dist time sweepId : Nat)
    (payload : List Byte) : State :=
  let a := s.results
  let i := a.nextSeq % 16384
  let busy := match find? a.slots i with
    | some x => !x.retired
    | none => false
  if decide (s.dropLevel kind ≤ s.unretired) || busy then
    s.modRes (fun a => { a with
      drops := satAdd 0xFFFF a.drops 1
      dropDue := a.dropDue || !a.fullEpisode
      fullEpisode := true })
  else
    let r : Record :=
      { kind := kind, flags := flags, gen := generation a.nextSeq, cell := cell, dist := Nat.min dist 255,
        time := time, seq := a.nextSeq, stepId := s.play.stepId, sweepId := sweepId, origin := s.loop.position,
        stepIndex := s.play.step, flaconId := s.activeId, payload := payload }
    let s := s.modRes (fun a => { a with
      nextSeq := (a.nextSeq + 1) % 2 ^ 32
      slots := assign a.slots i ⟨r, 0, false, false, s.now⟩ })
    s.deliverSlot i

/-- A full episode ends when the unretired records fall below the lowest level at which any kind is dropped (R206). -/
def State.endEpisode (s : State) : State :=
  if decide (s.unretired < (if s.flag Fld.anaResultPolicyFullMode then 12288 else 16384)) then
    s.modRes (fun a => { a with fullEpisode := false })
  else s

end Sys2Proof.Machine
end

