-- ==== Sys2Proof/Machine/Jtag.lean ====
section
/-!
DEFINITION. The JTAG port (R505), whose TAP controller is that of IEEE 1149.1, and what a tick of line time does.
-/

namespace Sys2Proof.Machine

/-! ### The TAP (R505) -/

/-- The next state of the TAP controller at a rising edge of TCK (IEEE 1149.1; PRESUMED, log 104). -/
def TapState.next (t : TapState) (tms : Bool) : TapState :=
  match t, tms with
  | .testLogicReset, true => .testLogicReset
  | .testLogicReset, false | .runTestIdle, false => .runTestIdle
  | .runTestIdle, true | .updateDr, true | .updateIr, true => .selectDr
  | .updateDr, false | .updateIr, false => .runTestIdle
  | .selectDr, true => .selectIr
  | .selectDr, false => .captureDr
  | .captureDr, true | .shiftDr, true => .exit1Dr
  | .captureDr, false | .shiftDr, false | .exit2Dr, false => .shiftDr
  | .exit1Dr, true | .exit2Dr, true => .updateDr
  | .exit1Dr, false | .pauseDr, false => .pauseDr
  | .pauseDr, true => .exit2Dr
  | .selectIr, true => .testLogicReset
  | .selectIr, false => .captureIr
  | .captureIr, true | .shiftIr, true => .exit1Ir
  | .captureIr, false | .shiftIr, false | .exit2Ir, false => .shiftIr
  | .exit1Ir, true | .exit2Ir, true => .updateIr
  | .exit1Ir, false | .pauseIr, false => .pauseIr
  | .pauseIr, true => .exit2Ir

/-- IDCODE: version 0xA, part 0x0256, manufacturer field 0x5A3. -/
def idcode : BitVec 32 := 0xA0256B47

/-- The pins whose boundary cells are observe-only: PH_EN_N and PH_PWM0 to PH_PWM7 (R499). -/
def observeOnly (pin : Nat) : Bool := pin == 15 || (decide (19 ≤ pin) && decide (pin ≤ 26))

/-- The instruction in effect: EXTEST acts as BYPASS outside BOOT. -/
def State.tapInstr (s : State) : TapInstr :=
  match s.pins.jtag.instr with
  | .extest => if s.st == .boot then .extest else .bypass
  | i => i

/-- The level that EXTEST drives on a pin; none where it drives none. -/
def State.pinDriven (s : State) (pin : Nat) : Option Bool :=
  if s.tapInstr == .extest && !observeOnly pin then find? s.pins.jtag.drive pin else none

/-- Level of a pin that the state holds (R499); none of the others. -/
def State.pinLevel (s : State) (pin : Nat) : Option Bool :=
  match pin with
  | 10 => some s.pins.estopN
  | 11 => some ((s.pinDriven 11).getD (!s.faultLow))
  | 12 => some ((s.pinDriven 12).getD (!s.pins.wakeLow))
  | 13 => some s.glb.headEn
  | 14 => some s.pins.phFltN
  | 15 => some s.pins.phEnHigh
  | 16 => some s.pins.perstN
  | 81 => some s.pins.jtag.trstN
  | _ =>
    if 19 ≤ pin ∧ pin ≤ 26 then
      match (s.spc.phases.get (Fin.ofNat 8 (pin - 19))).pwm with
      | .high => some true
      | .low => some false
      | .released => none
    else none

/-- What CAPTURE-DR loads into the boundary register; the level of a pin that the state does not hold is a free value. -/
def State.capturePins (s : State) : List Bool × State :=
  Config.scanPins.foldl (fun t pin => match t.2.pinLevel pin with
    | some b => (t.1 ++ [b], t.2)
    | none => let (b, u) := t.2.freeBool; (t.1 ++ [b], u)) ([], s)

/-- What CAPTURE-DR loads under an instruction. -/
def State.captureDr (s : State) : List Bool × State :=
  match s.tapInstr with
  | .bypass => ([false], s)
  | .idcode => ((List.range 32).map (fun i => idcode.getLsbD i), s)
  | .sample | .extest => s.capturePins

/-- The instruction of a code: all ones are BYPASS, and so is a code that names none (IEEE 1149.1). -/
def tapInstrOf (l : List Bool) : TapInstr :=
  if l.all id then .bypass
  else match Config.tapCode l with
    | some 1 => .idcode
    | some 2 => .sample
    | some 3 => .extest
    | _ => .bypass

def State.modJtag (s : State) (f : Jtag → Jtag) : State := s.setPins { s.pins with jtag := f s.pins.jtag }

/-- The bits of a shift register with one bit shifted in at the end away from TDO. -/
def shiftIn (l : List Bool) (tdi : Bool) : List Bool := l.drop 1 ++ [tdi]

/-- One rising edge of TCK with the levels of TMS and TDI, and the level of TDO after it. TRST_N low holds the TAP in
reset. -/
def State.tckEdge (s : State) (tms tdi : Bool) : State :=
  let j := s.pins.jtag
  if !j.trstN then s.modJtag (fun x => { x with tap := .testLogicReset, instr := .idcode, drive := [], tdo := none })
  else
    let now := j.tap.next tms
    let s := match j.tap with
      | .captureDr => let (l, s) := s.captureDr; s.modJtag (fun x => { x with dr := l })
      | .shiftDr => s.modJtag (fun x => { x with dr := shiftIn x.dr tdi })
      | .captureIr => s.modJtag (fun x => { x with ir := true :: List.replicate (Config.irLength - 1) false })
      | .shiftIr => s.modJtag (fun x => { x with ir := shiftIn x.ir tdi })
      | _ => s
    let s := match now with
      | .testLogicReset => s.modJtag (fun x => { x with instr := .idcode, drive := [] })
      | .updateIr => s.modJtag (fun x => { x with instr := tapInstrOf x.ir })
      | .updateDr =>
        if s.tapInstr == TapInstr.sample || s.tapInstr == TapInstr.extest then
          s.modJtag (fun x => { x with drive := Config.scanPins.zip x.dr })
        else s
      | _ => s
    s.modJtag (fun x => { x with
      tap := now
      tdo := match now with
        | .shiftDr => x.dr.head?
        | .shiftIr => x.ir.head?
        | _ => none })

/-- The next edge of TCK that waits, at most one in 50 ns (20 MHz). No row of the table brings an edge (log 104). -/
def State.jtagTick (s : State) : State :=
  let j := s.pins.jtag
  match j.edges with
  | [] => s
  | (tms, tdi) :: l =>
    if s.now < j.lastEdge + 50 then s
    else (s.modJtag (fun x => { x with edges := l, lastEdge := s.now })).tckEdge tms tdi

/-! ### A tick (log 15) -/

/-- One tick with no command waiting: line time advances, transmitters of the loop that have become free go on, and the
JTAG port takes an edge of TCK. -/
def State.idleTick (s : State) : State :=
  let s := s.tick
  if s.powered then ((s.serve .a).serve .b).jtagTick else s

end Sys2Proof.Machine
end

