-- ==== Sys2Proof/Machine/Image.lean ====
section
/-!
DEFINITION. The fields of a flacon image (R76 to R86), read from its bytes.
-/

namespace Sys2Proof.Machine

/-- One directory entry: type, version, offset, length, last four bytes (R78). -/
structure Section where
  ty : Nat
  version : Nat
  off : Nat
  len : Nat
  zero : Nat
  deriving DecidableEq, Repr

/-- Directory of an image. -/
def imgDir (l : List Byte) : List Section :=
  (List.range (u l 0x16 2)).map (fun i =>
    let a := 0x40 + 16 * i
    ⟨u l a 2, u l (a + 2) 2, u l (a + 4) 4, u l (a + 8) 4, u l (a + 12) 4⟩)

/-- Section of a type. -/
def imgSection (l : List Byte) (ty : Nat) : Option Section := (imgDir l).find? (fun e => e.ty == ty)
def secOff (l : List Byte) (ty : Nat) : Nat := match imgSection l ty with | some e => e.off | none => 0
def secLen (l : List Byte) (ty : Nat) : Nat := match imgSection l ty with | some e => e.len | none => 0

def imgTotal (l : List Byte) : Nat := u l 0x08 4
def imgSigned (l : List Byte) : Bool := u l 0x0C 4 % 2 == 1
def imgBuild (l : List Byte) : Nat := u l 0x14 2
/-- T_cyc in µs. -/
def imgCycleUs (l : List Byte) : Nat := u l 0x18 4
def imgLadders (l : List Byte) : Nat := u l 0x1C 1
def imgSteps (l : List Byte) : Nat := u l 0x1E 2

/-! ### OWNERSHIP and PATTERNS (R79, R80) -/

def ownCount (l : List Byte) (k : Nat) : Nat := u l (secOff l 1 + 8 * k + 4) 2
def ownLadder (l : List Byte) (k : Nat) : Nat := u l (secOff l 1 + 8 * k + 6) 1
def ownFine (l : List Byte) (k : Nat) : Nat := u l (secOff l 1 + 8 * k + 7) 1
def ownOffset (l : List Byte) (k : Nat) : Nat := u l (secOff l 1 + 8 * k) 4
/-- Pair i of a cell: slot and lane. -/
def ownPair (l : List Byte) (k i : Nat) : Nat × Nat :=
  let e := u l (secOff l 1 + ownOffset l k + 4 * i) 4
  (e % 2 ^ 22, e / 2 ^ 22 % 8)
def ownPairs (l : List Byte) (k : Nat) : List (Nat × Nat) := (List.range (ownCount l k)).map (ownPair l k)
/-- A cell that the flacon plays. -/
def imgPlays (l : List Byte) (k : Nat) : Bool := !l.isEmpty && ownLadder l k != 0xFF

def patOffset (l : List Byte) (k : Nat) : Nat := u l (secOff l 2 + 4 * k) 4
def patTable (l : List Byte) (k : Nat) : Nat := secOff l 2 + patOffset l k
def patEntry (l : List Byte) (k rung : Nat) : Nat := u l (patTable l k + 4 * rung) 4
/-- Edges of a rung: pair index and fine offset, in the order listed. -/
def patEdges (l : List Byte) (k rung : Nat) : List (Nat × Nat) :=
  let e := patEntry l k rung
  (List.range (e / 2 ^ 16 % 256)).map (fun i =>
    let v := u l (patTable l k + 2 * (e % 2 ^ 16) + 2 * i) 2
    (v % 256, v / 256))

/-! ### LADDERS, CURRENTS, STEPS (R81 to R83) -/

def ladBase (l : List Byte) (i : Nat) : Nat := secOff l 3 + 208 * i
def ladRungs (l : List Byte) (i : Nat) : Nat := u l (ladBase l i) 1
def ladStartIn (l : List Byte) (i : Nat) : Bool := u l (ladBase l i + 1) 1 == 1
def ladFraction (l : List Byte) (i r : Nat) : Nat := u l (ladBase l i + 4 + 2 * r) 2
def ladThr (l : List Byte) (i j : Nat) : Int := signed 32 (u l (ladBase l i + 0x84 + 4 * j) 4)
def ladMv (l : List Byte) (i j : Nat) : Int := signed 8 (u l (ladBase l i + 0xC0 + j) 1)

/-- Entry h of a current table, 50 µA units. -/
def curEntry (l : List Byte) (t h : Nat) : Int := signed 32 (u l (secOff l 4 + 256 * t + 4 * h) 4)
/-- Sign of a current table: 1, -1 or 0 when every entry is 0 (R68). -/
def curSign (l : List Byte) (t : Nat) : Int :=
  let e := (List.range 64).map (curEntry l t)
  if e.any (fun x => decide (0 < x)) then 1 else if e.any (fun x => decide (x < 0)) then -1 else 0

def stepBase (l : List Byte) (i : Nat) : Nat := secOff l 5 + 288 * i
def stepIdOf (l : List Byte) (i : Nat) : Nat := u l (stepBase l i) 2
def stepEnd (l : List Byte) (i : Nat) : Nat := u l (stepBase l i + 2) 2 % 4
def stepTable (l : List Byte) (i : Nat) : Nat := u l (stepBase l i + 4) 1
def stepRamp (l : List Byte) (i : Nat) : Nat := u l (stepBase l i + 8) 4
def stepDeadline (l : List Byte) (i : Nat) : Nat := u l (stepBase l i + 0xC) 4
def stepLimit (l : List Byte) (i : Nat) : Nat := u l (stepBase l i + 0x10) 4
def stepLad (l : List Byte) (i j : Nat) : Nat := stepBase l i + 0x20 + 16 * j
def stepVTarget (l : List Byte) (i j : Nat) : Int := signed 32 (u l (stepLad l i j) 4)
def stepQLimit (l : List Byte) (i j : Nat) : Nat := u l (stepLad l i j + 4) 4
def stepIEnd (l : List Byte) (i j : Nat) : Nat := u l (stepLad l i j + 8) 4
def stepStart (l : List Byte) (i j : Nat) : Nat := u l (stepLad l i j + 12) 1
/-- 0 FIXED, 1 TAPER, 2 OFF. -/
def stepMode (l : List Byte) (i j : Nat) : Nat := u l (stepLad l i j + 13) 1

/-! ### SAMPLING, LIMITS, WALKS (R84 to R86) -/

structure Window where
  cell : Nat
  kind : Nat
  start : Nat
  len : Nat
  deriving DecidableEq, Repr

def imgWindows (l : List Byte) : List Window :=
  (List.range (secLen l 6 / 16)).map (fun i =>
    let a := secOff l 6 + 16 * i
    ⟨u l a 1, u l (a + 1) 1, u l (a + 4) 4, u l (a + 8) 4⟩)
def imgWindowsOf (l : List Byte) (k : Nat) : List Window := (imgWindows l).filter (fun w => w.cell == k)

def limBase (l : List Byte) : Nat := secOff l 7
def limIMax (l : List Byte) : Nat := u l (limBase l) 4
def limVString (l : List Byte) : Nat := u l (limBase l + 4) 4
def limGuard (l : List Byte) : Nat := u l (limBase l + 8) 4
/-- CHG_T_MIN, CHG_T_MAX, DIS_T_MIN, DIS_T_MAX for i = 0 to 3, 0.01 °C. -/
def limTemp (l : List Byte) (i : Nat) : Int := signed 16 (u l (limBase l + 0x0C + 2 * i) 2)
def limOcvMin (l : List Byte) : Int := signed 32 (u l (limBase l + 0x14) 4)
def limOcvMax (l : List Byte) : Int := signed 32 (u l (limBase l + 0x18) 4)
def limKval (l : List Byte) : Nat := u l (limBase l + 0x1C) 4
def limPatrolMin (l : List Byte) : Int := signed 16 (u l (limBase l + 0x20) 2)
def limPatrolMax (l : List Byte) : Int := signed 16 (u l (limBase l + 0x22) 2)
def limContact (l : List Byte) : Nat := u l (limBase l + 0x24) 4
def limOv (l : List Byte) (k : Nat) : Nat := u l (limBase l + 0x40 + 4 * k) 2
def limUv (l : List Byte) (k : Nat) : Nat := u l (limBase l + 0x42 + 4 * k) 2

def walkCount (l : List Byte) : Nat := if (imgSection l 9).isSome then u l (secOff l 9) 2 else 0
def walkLen (l : List Byte) (i : Nat) : Nat := u l (secOff l 9 + 4 + 8 * i + 4) 2
def walkAt (l : List Byte) (i j : Nat) : Int :=
  signed 8 (u l (secOff l 9 + u l (secOff l 9 + 4 + 8 * i) 4 + j) 1)
def walkOffsets (l : List Byte) (i : Nat) : List Int := (List.range (walkLen l i)).map (walkAt l i)

/-! ### The active flacon -/

/-- Bytes of the active flacon; empty when none is active. -/
def State.active (s : State) : List Byte := if s.play.active.verified then s.play.active.bytes else []
def State.hasActive (s : State) : Bool := s.play.active.verified
/-- T_cyc in ns. -/
def State.tCyc (s : State) : Nat := 1000 * imgCycleUs s.active
/-- The cell is played by the active flacon (R79). -/
def State.played (s : State) (k : Cell) : Bool := imgPlays s.active k.val
def State.ladderOf (s : State) (k : Cell) : Nat := ownLadder s.active k.val

/-- OV_EFF and UV_EFF, as codes (R43). -/
def State.ovEff (s : State) (k : Cell) : Nat :=
  let r := s.cellFld k Fld.segOvLimitOvCode
  if s.hasActive && limOv s.active k.val != 0xFFFF then Nat.min r (limOv s.active k.val) else r
def State.uvEff (s : State) (k : Cell) : Nat :=
  let r := s.cellFld k Fld.segUvLimitUvCode
  if s.hasActive && limUv s.active k.val != 0xFFFF then Nat.max r (limUv s.active k.val) else r
/-- The limits in µV (R56, R57). -/
def State.ovMicro (s : State) (k : Cell) : Int := 4000000 + 5000 * (s.ovEff k : Int)
def State.uvMicro (s : State) (k : Cell) : Int := -500000 + 5000 * (s.uvEff k : Int)

end Sys2Proof.Machine
end

