-- ==== Sys2Proof/Machine/Span.lean ====
section
/-!
DEFINITION. Sending messages over a span link (R248, R249): numbering, the window of 64, priorities, and the fault
reports and halt requests of a segment (R388).
-/

namespace Sys2Proof.Machine

/-- Priority of a down message, 1 the highest (R249). -/
def downPriority : DownMsg → Nat
  | .time _ _ | .islot _ _ | .neighbour _ _ _ => 2
  | .config _ _ _ _ _ | .read _ | .cmd _ => 3
  | .share _ _ _ _ => 5

/-- Priority of an up message. -/
def upPriority : UpMsg → Nat
  | .edge _ | .fault _ _ | .report _ _ _ => 2
  | .output _ _ _ | .sums _ _ | .burstPart _ _ | .burst _ _ | .rsp _ _ _ _ | .shareRsp _ | .cmdRsp _ => 3
  | .stream _ => 4

/-- TYPE of a down message (R249). -/
def downType : DownMsg → Nat
  | .config _ _ _ _ _ => 0x01
  | .read _ => 0x02
  | .share _ _ _ _ => 0x03
  | .time _ _ => 0x04
  | .islot _ _ => 0x05
  | .neighbour _ _ _ => 0x06
  | .cmd _ => 0x07

/-- TYPE of an up message. -/
def upType : UpMsg → Nat
  | .edge _ => 0x81
  | .fault _ _ => 0x82
  | .output _ _ _ => 0x83
  | .sums _ _ => 0x84
  | .burstPart _ _ | .burst _ _ => 0x85
  | .rsp _ _ _ _ | .shareRsp _ | .cmdRsp _ => 0x86
  | .stream _ => 0x87
  | .report _ _ _ => 0x88

/-- The characters of a message between K27.7 and K29.7: TYPE, SEQ, LEN, the payload and its CRC-32C (R248). -/
def messageBytes (ty seq : Nat) (payload : List Byte) : List Byte :=
  let l := leBytes 1 ty ++ leBytes 1 seq ++ leBytes 2 payload.length ++ payload
  l ++ leBytes 4 (crc32c l)

/-- The first queued message of the highest priority, with the rest. -/
def takeFirst {α : Type} (prio : α → Nat) : List α → Option (α × List α)
  | [] => none
  | a :: t =>
    match takeFirst prio t with
    | none => some (a, [])
    | some (b, r) => if prio b < prio a then some (b, a :: r) else some (a, t)

/-- Queued messages are started while fewer than 64 are unacknowledged (R248); at most n. -/
def pumpDir {α : Type} (prio : α → Nat) (now : Nat) : Nat → Dir α → Dir α
  | 0, d => d
  | n + 1, d =>
    if d.sent.length < 64 then
      match takeFirst prio d.queued with
      | none => d
      | some (m, q) =>
        pumpDir prio now n { d with
          queued := q
          sent := d.sent ++ [(d.next, m)]
          next := (d.next + 1) % 256
          ackAt := if d.sent.isEmpty then now else d.ackAt }
    else d

/-- A message is queued. -/
def pushDir {α : Type} (prio : α → Nat) (now : Nat) (d : Dir α) (m : α) : Dir α :=
  pumpDir prio now 64 { d with queued := d.queued ++ [m] }

/-- ACK covers messages up to a SEQ (R248). -/
def ackDir {α : Type} (prio : α → Nat) (now : Nat) (d : Dir α) (ack : Nat) : Dir α :=
  if d.sent.any (fun e => e.1 == ack) then
    pumpDir prio now 64 { d with
      sent := (d.sent.dropWhile (fun e => e.1 != ack)).drop 1
      ackAt := now }
  else d

/-- Training sets both counts to 0; messages not acknowledged are sent again (R248, R404). -/
def retrainDir {α : Type} (prio : α → Nat) (now : Nat) (d : Dir α) : Dir α :=
  pumpDir prio now 64 { d with
    queued := d.sent.map Prod.snd ++ d.queued
    sent := []
    next := 0
    expect := 0
    ackAt := now }

/-- The message that carries the SEQ the receiver expects (R248). -/
def expected {α : Type} (d : Dir α) : Option α := find? d.sent d.expect

/-- The receiver has taken the expected message. -/
def accept {α : Type} (d : Dir α) : Dir α := { d with expect := (d.expect + 1) % 256 }

/-- Messages that the receiver has not taken. -/
def untaken {α : Type} (d : Dir α) : List α := (d.sent.dropWhile (fun e => e.1 != d.expect)).map Prod.snd ++ d.queued

/-- SEQ that the receiver's beacons acknowledge. -/
def ackOf {α : Type} (d : Dir α) : Nat := (d.expect + 255) % 256

def State.pushDown (s : State) (g : Seg) (m : DownMsg) : State :=
  s.modLink g (fun l => { l with down := pushDir downPriority s.now l.down m })

/-- A slice of a segment is running. -/
def State.segTested (s : State) (g : Seg) : Bool :=
  match s.bist.running with
  | some (n, _) => decide (n.val < 32) && n.val % 16 == g.val
  | none => false

/-- Requests for the normal service of a segment: window accesses and SHARE chunks (R418). -/
def waitsForSlice : DownMsg → Bool
  | .config _ _ _ _ _ | .read _ | .share _ _ _ _ => true
  | _ => false

/-- A message is sent to a segment; a request that meets a slice of the segment waits for its end (R418). -/
def State.sendDown (s : State) (g : Seg) (m : DownMsg) : State :=
  if s.segTested g && waitsForSlice m then s.modLink g (fun l => { l with waits := l.waits ++ [m] }) else s.pushDown g m

/-- Down messages that the segment has not taken. -/
def Link.onWay (l : Link) : List DownMsg := untaken l.down ++ l.waits

def State.sendUp (s : State) (g : Seg) (m : UpMsg) : State :=
  s.modLink g (fun l => { l with up := pushDir upPriority s.now l.up m })

/-- The time of a segment: line time, or its free-running timer's (R228, R251). -/
def State.segTime (s : State) (g : Seg) : Nat :=
  let x := s.segs.get g
  match x.timerFrom with
  | none => s.now
  | some t => ((s.now : Int) + x.timerPpb * ((s.now : Int) - t) / 1000000000).toNat

/-- A segment's time runs from its low-power oscillator from now on, within ±50 ppm: a free value (log 109). -/
def State.startTimer (s : State) (g : Seg) : State :=
  let (v, s) := s.freeBits
  s.modSeg g (fun x => { x with timerFrom := some s.now, timerPpb := (v.toNat % 100001 : Nat) - 50000 })

/-- Log stamps made on a free-running timer are rescaled between the two times at which it was compared (R228). -/
def rescaleStamp (from_ line timer t : Nat) : Nat :=
  if from_ < timer ∧ from_ ≤ t then from_ + (t - from_) * (line - from_) / (timer - from_) else t

/-- A fault report made on the free-running timer, its time rescaled and marked so (R251, R398). -/
def rescaleReport (from_ line timer : Nat) : UpMsg → UpMsg
  | .fault r b => if from_ < r.time then .fault { r with time := rescaleStamp from_ line timer r.time } true else .fault r b
  | m => m

/-- The hub compares a segment's timer with line time (R228, R251). -/
def State.compareTimer (s : State) (g : Seg) : State :=
  match (s.segs.get g).timerFrom with
  | none => s
  | some t =>
    let timer := s.segTime g
    let s := s.modLink g (fun l => { l with up := { l.up with
      sent := l.up.sent.map (fun e => (e.1, rescaleReport t s.now timer e.2))
      queued := l.up.queued.map (rescaleReport t s.now timer) } })
    s.modSeg g (fun x => { x with
      timerFrom := none
      log := x.log.map (fun e => if e.uncorrected then
        { e with uncorrected := false, time := rescaleStamp t s.now timer e.time } else e) })

/-- A segment reports a fault, dated in its own time; a source of class HALT also makes a halt request (R249, R388). -/
def State.segReport (s : State) (g : Seg) (r : Report) : State :=
  let s := s.sendUp g (.fault { r with time := if (s.segs.get g).timerFrom.isNone then r.time else s.segTime g } false)
  if srcClass r.src == .halt then s.modLink g (fun l => { l with haltReq := true }) else s

/-- A report of a cell (SEG and CELL named, R385). -/
def cellReport (now : Nat) (x : Src) (k : Cell) (a0 a1 a2 : Word) : Report :=
  ⟨x, now, some (segOf k), some k, a0, a1, a2⟩

end Sys2Proof.Machine
end

