-- ==== Sys2Proof/Machine/Disturb.lean ====
section
/-!
DEFINITION. Disturbances of a cell's measurement by transitions of the cell and its neighbours (R152, R156 to R160).
-/

namespace Sys2Proof.Machine

/-- g of R156, in ns. -/
def State.guardNs (s : State) : Nat :=
  let r := s.fld Fld.measGuardTimeGuard
  if s.hasActive then Nat.max r (limGuard s.active) else r

/-- Two intervals meet. -/
def meets (a b c d : Nat) : Bool := decide (a < d) && decide (c < b)

/-- Start and end of a window of the cycle that starts at a time (R84). -/
def State.windowSpan (s : State) (w : Window) (start : Nat) : Nat × Nat :=
  if w.kind = 3 then
    let j := (ownPair s.active w.cell w.start).1
    (start + 1000 * j - 4000, start + 1000 * j + 28000)
  else (start + 1000 * w.start, start + 1000 * (w.start + w.len))

/-- Windows of a kind of one cell. -/
def State.windowsOf (s : State) (k : Cell) (kind : Nat) : List Window :=
  (imgWindowsOf s.active k.val).filter (fun w => w.kind == kind)

/-- Cycles are being played: the windows of the sampling plan act (R62, R153). -/
def State.cycling (s : State) : Bool :=
  s.inRun && (match s.play.st with
    | .hold | .play | .exit | .stopping => true
    | .empty | .armed | .wait | .halted => false)

/-- Starts of the present cycle, the one before and the one after. -/
def State.cyclesNear (s : State) : List Nat := [s.play.cycleStart, s.play.cycleStart + s.tCyc, s.play.cycleStart - s.tCyc]

/-- The spans of the windows of a kind of one cell in those cycles; none while no cycle is played. -/
def State.spansOf (s : State) (k : Cell) (kind : Nat) : List (Nat × Nat) :=
  if s.cycling then ((s.windowsOf k kind).map (fun w => s.cyclesNear.map (s.windowSpan w))).flatten else []

/-- A cell's gate is open at some time of [a, b]: outside RUN always but in the drydown patrol, in RUN in its PRIMARY
windows (R153, R154). -/
def State.gateMeets (s : State) (k : Cell) (a b : Nat) : Bool :=
  if s.inRun then (s.spansOf k 0).any (fun p => meets a (b + 1) p.1 p.2) else (s.segs.get (segOf k)).st != .patrol

/-- A filter restart for a cause at a time; `d` tells a disturbance (R152). -/
def CellMeas.ask (m : CellMeas) (d : Bool) (t : Nat) : CellMeas :=
  { m with restart := some (match m.restart with
    | some r => (r.1 || d, Nat.max r.2 t)
    | none => (d, t)) }

/-- Every filter restarts, as the module enters or leaves RUN (R152). -/
def State.askRestart (s : State) : State := s.setMeas (s.meas.map (fun m => m.ask false s.now))

/-- A disturbance interval [a, b] meets the latest one and merges with it (R157). -/
def CellMeas.merges (m : CellMeas) (a b : Nat) : Bool :=
  match m.dist with
  | some d => decide (a ≤ d.2) && decide (d.1 ≤ b)
  | none => false

/-- A disturbance is counted, unless it merges with the latest, and asks for the restart at its end (R158). -/
def State.countDist (s : State) (k : Cell) (a b : Nat) : State :=
  let merged := (s.meas.get k).merges a b
  let s := s.modMeas k (fun m =>
    let m' := if merged && decide (b ≤ m.restartedAt) then m else m.ask true b
    { m' with
      distCount := if merged then m.distCount else m.distCount + 1
      dist := match m.dist with
        | some d => if merged then some (Nat.min d.1 a, Nat.max d.2 b) else if b < d.1 then some d else some (a, b)
        | none => some (a, b) })
  if merged then s else s.modShunts (fun m => { m with distCount := satAdd 0xFFFF m.distCount 1 })

/-- A disturbance interval [a, b] acts on a cell if it meets its open gate (R157, R158); what a boundary cell still
holds of the filter that it stops is not produced (R159). -/
def State.disturb (s : State) (k : Cell) (a b : Nat) : State :=
  let s := s.modMeas k (fun m => { m with touch := Nat.max m.touch b })
  if s.gateMeets k a b then
    let s := s.modMeas k (fun m => { m with heldOuts := m.heldOuts.filter (fun h =>
      h.ocv || decide (h.sample.stamp < a) || (decide (b ≤ m.restartedAt) && decide (m.restartedAt < h.sample.stamp))) })
    s.countDist k a b
  else s

/-- A neighbour's transition is kept for the sums of a sweep (R199). -/
def State.neighbourMoved (s : State) (k : Cell) (a b : Nat) : State :=
  s.modMeas k (fun m => { m with nearDist := ((a, b) :: m.nearDist).take 64 })

/-- Neighbours of a cell in its own segment, with the cell itself; those of another segment learn of it by NEIGHBOUR
messages (R159). -/
def nearOwn (k : Cell) : List Cell :=
  [k.val - 1, k.val, k.val + 1].eraseDups.filterMap (fun n =>
    if n < 256 ∧ n / 16 = k.val / 16 then some (cell n) else none)

/-- A transition disturbs the cell and its neighbours, from step 1 to g after its last confirmation. -/
def State.disturbNear (s : State) (k : Cell) (a b : Nat) : State :=
  each (nearOwn k) (fun s j => if j = k then s.disturb j a b else (s.neighbourMoved j a b).disturb j a b) s

/-- Entry to or exit from OPEN (R157). -/
def State.disturbOpen (s : State) (k : Cell) : State := s.disturbNear k s.now (s.now + s.guardNs)

/-- A transition of the cell or of a neighbour in its own segment is in progress. -/
def State.movingNear (s : State) (k : Cell) : Bool := (nearOwn k).any (fun j => (s.cells.get j).tr.isSome)

/-- A transition near the cell that began by a time t is in progress and has met the open gate up to e. -/
def State.disturbing (s : State) (k : Cell) (t e : Nat) : Bool :=
  (nearOwn k).any (fun j => match (s.cells.get j).tr with
    | some x => decide (x.began ≤ t) && s.gateMeets k x.began e
    | none => false)

end Sys2Proof.Machine
end

