-- ==== Sys2Proof/Machine/Spc.lean ====
section
/-!
DEFINITION. The string power controller and the Step Link (chapter 04): capacity, phases, answers, inhibits, frames.
Currents are in µA unless a name says otherwise.
-/

namespace Sys2Proof.Machine

/-- Inhibit causes, as bits of SPC_STATUS.INH_CAUSE (R133). -/
def inhEstop : Nat := 0
def inhHalt : Nat := 1
def inhPhFlt : Nat := 2
def inhLatched : Nat := 3
def inhVstring : Nat := 4
def inhNoPhase : Nat := 5
def inhPeak : Nat := 6

/-! ### Phases and capacity -/

def State.phaseEnabled (s : State) (p : Phase) : Bool := (s.fld Fld.spcPhaseEnableEn).testBit p.val
def State.phaseHealthy (s : State) (p : Phase) : Bool := s.phaseEnabled p && !(s.spc.phases.get p).failed
def State.healthy (s : State) : List Phase := allPhases.filter s.phaseHealthy
def State.activePhases (s : State) : List Phase := allPhases.filter (fun p => (s.spc.phases.get p).active)
def State.nHealthy (s : State) : Nat := s.healthy.length
def State.nActive (s : State) : Nat := s.activePhases.length
/-- SPC_PHASE_IMAX.IMAX in µA. -/
def State.imax (s : State) : Nat := 10000 * s.fld Fld.spcPhaseImaxImax
/-- IPEAK in µA; 0 stands for 1.5 × IMAX (R136). -/
def State.ipeak (s : State) : Nat :=
  if s.fld Fld.spcPhaseImaxIpeak = 0 then s.imax * 3 / 2 else 10000 * s.fld Fld.spcPhaseImaxIpeak

/-- C (R115); during a toggle test one phase less counts (R123). -/
def State.capacity (s : State) : Nat :=
  Nat.min 15000000 ((if s.spc.toggle.isSome then s.nHealthy - 1 else s.nHealthy) * s.imax)

/-- A magnitude limited, with the sign kept. -/
def limitMag (x : Int) (m : Nat) : Int := if x < 0 then -(Nat.min x.natAbs m : Int) else (Nat.min x.natAbs m : Int)

/-- The delivered target for the target in force (R115). -/
def State.deliverable (s : State) : Int := limitMag (s.spc.target * 50) s.capacity

/-- Each active phase's centre: the set-point divided by N_active, within ±IMAX (R105). -/
def State.share (s : State) : Int := limitMag (divI s.spc.setpoint (s.nActive : Int)) s.imax

/-- Tenths of its share that a phase carries: one being added or restored rises from 0 over 10 µs, one being shed falls
to 0 (R120, R121, R123). -/
def PhaseSt.tenths (x : PhaseSt) (now : Nat) : Nat :=
  match x.shedAt, x.handAt with
  | some t, _ => 10 - Nat.min 10 ((now - t) / 1000)
  | none, some t => Nat.min 10 ((now - t) / 1000)
  | none, none => 10

/-- The active phases whose centre is being handed over. -/
def State.moving (s : State) : List Phase :=
  s.activePhases.filter (fun p => decide ((s.spc.phases.get p).tenths s.now < 10))

/-- The centre of the phases that are not being handed over: what the others leave of the set-point. -/
def State.restShare (s : State) : Int :=
  let moved := sumInt (s.moving.map (fun p => divI (s.share * (s.spc.phases.get p).tenths s.now) 10))
  limitMag (divI (s.spc.setpoint - moved) ((s.nActive - s.moving.length : Nat) : Int)) s.imax

/-- Every phase takes its centre; the sum is the set-point (R105, R120, R121). -/
def State.recentre (s : State) : State :=
  let full := s.share
  let rest := s.restShare
  s.modSpc (fun x => { x with phases := x.phases.map (fun p => { p with
    centre := if !p.active then 0 else if p.tenths s.now < 10 then divI (full * p.tenths s.now) 10 else rest }) })

/-- A phase carries no commanded current: PH_PWMn at mid-level (R102). -/
def PhaseSt.idle (x : PhaseSt) : PhaseSt :=
  { x with
    active := false, pwm := .released, addedAt := none, handAt := none, shedAt := none, centre := 0, shift := 0
    switchedAt := none, onAt := none, onNs := 0, offNs := 0, stuckNow := false, stuckRun := 0, wrongRun := 0 }

/-- A phase is released. -/
def State.releasePhase (s : State) (p : Phase) : State := s.modPhase p PhaseSt.idle

/-- Phases needed (R120). -/
def State.phasesNeeded (s : State) : Nat :=
  let m := Nat.max s.spc.setpoint.natAbs s.spc.delivered.natAbs
  let d := s.fld Fld.spcShedCfgAddPct * s.imax
  let n := if d = 0 then 8 else (m * 100 + d - 1) / d
  Nat.min (Nat.max (s.fld Fld.spcShedCfgMinActive) n) s.nHealthy

/-- The lowest healthy phase that is not active, and that no toggle test holds released, is added (R120). -/
def State.addPhase (s : State) : State :=
  match s.healthy.find? (fun p => !(s.spc.phases.get p).active && !s.spc.toggleList.contains p) with
  | none => s
  | some p =>
    ((s.modPhase p (fun x => { x.idle with active := true, addedAt := some s.now, handAt := some s.now })).modSpc
      (fun x => { x with dwellFrom := none, shedFrom := none })).recentre

/-- Phases are added until enough are active; at most n. -/
def State.addPhases : Nat → State → State
  | 0, s => s
  | n + 1, s => if s.nActive < s.phasesNeeded then State.addPhases n s.addPhase else s

/-! ### Answers (R116 to R118, R129) -/

/-- The 64-bit frame that the SPC sends (R129); its CRC-8 covers bytes 0 to 6 (R127). -/
def State.answerFrame (s : State) (ty seq : Nat) (unsol : Bool) (cause : Nat) : BitVec 64 :=
  let low := ty + seq * 2 ^ 3 + (if unsol then 2 ^ 11 else 0) + cause * 2 ^ 12 + s.nHealthy * 2 ^ 16 +
    s.nActive * 2 ^ 20 + unsigned 20 (divI s.spc.iFast 50) * 2 ^ 24 + s.capacity / 10000 % 4096 * 2 ^ 44
  BitVec.ofNat 64 (low + crc8 (leBytes 7 low) * 2 ^ 56)

/-- Whether STEP_OUT transmits (R126, R141). -/
def State.stepOutOn (s : State) : Bool :=
  s.flag Fld.stepCtrlPinsEn && (s.flag Fld.stepCtrlSource || s.flag Fld.stepCtrlMirror)

/-- STEP_OUT takes up a frame, once it has ended the one in transmission; a frame takes 1.8 µs (R127). -/
def State.transmit (s : State) (f : BitVec 64) : State :=
  (s.modSpc (fun x => { x with stepFreeAt := Nat.max s.now x.stepFreeAt + 1800 })).emit (.stepOut f)

/-- With nothing else to send, STEP_OUT sends IDLE frames with live status (R127, R129). -/
def State.stepOutIdle (s : State) : State :=
  if s.stepOutOn && decide (s.spc.stepFreeAt ≤ s.now) then s.transmit (s.answerFrame 0 s.spc.lastSeq false 0) else s

/-- An answer leaves: to the player and, where STEP_OUT transmits, on the pins. -/
def State.sendAnswer (s : State) (a : Answer) : State :=
  let s := s.modSpc (fun x => { x with
    answers := x.answers ++ [a]
    answeredSeq := a.seq
    nakCause := if a.ack then x.nakCause else a.cause
    nakSeq := if a.ack then x.nakSeq else a.seq
    nakUnsol := if a.ack then x.nakUnsol else a.unsol
    nakCount := if a.ack then x.nakCount else satAdd 0xFFFF x.nakCount 1 })
  if s.stepOutOn then s.transmit (s.answerFrame (if a.ack then 2 else 3) a.seq a.unsol a.cause) else s

/-- The answer to the pending frame; it is kept for repeats while that frame is the last one (R114). -/
def State.answerLast (s : State) (ack : Bool) (cause : Nat) : State :=
  let a : Answer := ⟨ack, s.spc.forceSeq, false, cause, s.spc.target, s.spc.acceptedAt⟩
  (s.modSpc (fun x => { x with
    pending := none, lastAnswer := if x.lastSeq = x.forceSeq then some a else x.lastAnswer, answered := true,
    answeredAt := s.now })).sendAnswer a

/-- A pending frame is answered NAK INHIBIT (R118). -/
def State.nakPending (s : State) : State := if s.spc.pending.isSome then s.answerLast false 4 else s

/-- The target in force becomes t: the records of the sweeps that integrate are INCOMPLETE where it changes (R200). -/
def State.retarget (s : State) (t : Int) : State :=
  let mark (x : Option SweepAcc) : Option SweepAcc := x.map (fun a => { a with incomplete := true })
  if t = s.spc.target then s else s.setAna (s.ana.map (fun a => { a with sweep := mark a.sweep }))

/-! ### Inhibits (R111, R112) -/

def State.hasInh (s : State) (c : Nat) : Bool := s.spc.causes.getLsbD c

/-- Every phase is released and PH_EN_N goes high (R112). -/
def State.stageOff (s : State) : State :=
  let s := s.modSpc (fun x => { x with phases := x.phases.map PhaseSt.idle })
  s.setPins { s.pins with phEnHigh := true }

/-- An inhibit cause arises (R111). -/
def State.inhibit (s : State) (c : Nat) : State :=
  let s := s.modSpc (fun x => { x with causes := x.causes ||| ((1 : BitVec 7) <<< c) })
  match s.spc.st with
  | .disabled | .inhibited => s
  | .standby | .regulate =>
    let s := s.nakPending.retarget 0
    s.stageOff.modSpc (fun x => { x with
      st := .inhibited, target := 0, delivered := 0, setpoint := 0, ramping := false, toggle := none, toggleList := [],
      dwellFrom := none, shedFrom := none, dOverFrom := none, retryAt := none, unsolDue := false,
      disabling := false, orphanRamp := false })

/-- An inhibit cause ends; when none remains the SPC leaves INHIBITED with SYNC set (R111, R114). -/
def State.endInhibit (s : State) (c : Nat) : State :=
  let s := s.modSpc (fun x => { x with causes := x.causes &&& ~~~((1 : BitVec 7) <<< c) })
  if s.spc.st == .inhibited && s.spc.causes == 0 then
    s.modSpc (fun x => { x with st := if s.flag Fld.spcCtrlEn then .standby else .disabled, sync := true })
  else s

/-- NO_PHASE ends when a healthy phase exists or nothing is to be delivered (R111). -/
def State.settleNoPhase (s : State) : State :=
  if s.hasInh inhNoPhase && (s.nHealthy != 0 || (s.spc.target == 0 && s.spc.setpoint == 0)) then
    s.endInhibit inhNoPhase
  else s

/-- A change of capacity: the delivered target follows; a set-point that the phases can no longer deliver falls to the
capacity at once and ramps on from there, and a frame that has been answered is owed an unsolicited answer (R117,
R124). -/
def State.capacityChanged (s : State) : State :=
  let d := s.deliverable
  if d = s.spc.delivered || s.spc.st != .regulate then s
  else
    let sp := limitMag s.spc.setpoint s.capacity
    (s.modSpc (fun x => { x with
      delivered := d, setpoint := sp, ramping := decide (sp ≠ d), dwellFrom := none,
      unsolDue := x.unsolDue || x.pending.isNone })).recentre

/-- A toggle test ends: a phase that it holds released returns, rising over 10 µs (R123, R124). -/
def State.endToggle (s : State) : State :=
  let back (s : State) (p : Phase) : State :=
    if s.phaseHealthy p && !(s.spc.phases.get p).active then
      s.modPhase p (fun x => { x with active := true, handAt := some s.now })
    else s
  (each s.spc.toggleList back s).modSpc (fun x => { x with toggle := none, toggleList := [], togSum := 0, togN := 0, togD := [] })

/-- A shed in progress is completed (R121). -/
def State.finishShed (s : State) : State :=
  each (s.activePhases.filter (fun p => (s.spc.phases.get p).shedAt.isSome)) (fun s p => s.releasePhase p) s

/-! ### Frames (R113 to R115, R128) -/

def frTarget (f : BitVec 64) : Int := signed 20 (f.toNat / 2 ^ 12 % 2 ^ 20)
def frSeq (f : BitVec 64) : Nat := f.toNat / 8 % 256
def frPreempt (f : BitVec 64) : Bool := f.getLsbD 11
def frType (f : BitVec 64) : Nat := f.toNat % 8
/-- RAMP in µA/µs. -/
def frRamp (f : BitVec 64) : Nat := f.toNat / 2 ^ 32 % 256 * 2 ^ (f.toNat / 2 ^ 40 % 16)
/-- DEADLINE in µs. -/
def frDeadline (f : BitVec 64) : Nat := f.toNat / 2 ^ 44 % 256 * 2 ^ (f.toNat / 2 ^ 52 % 16) * 16
def frCrcOk (f : BitVec 64) : Bool := crc8 (leBytes 7 f.toNat) == f.toNat / 2 ^ 56

/-- Checks 2 to 4 of R113; 0 when they pass, else the NAK cause. -/
def State.frameCheck (s : State) (f : BitVec 64) : Nat :=
  if 300000 < (frTarget f).natAbs || f.toNat / 2 ^ 32 % 256 = 0 || f.toNat / 2 ^ 44 % 256 = 0 then 5
  else if s.fld Fld.spcRampLimitRate < frRamp f then 2
  else if frTarget f != 0 && (!s.inRun || s.spc.st == .inhibited || s.spc.st == .disabled) then 4
  else 0

/-- A frame that passed its checks becomes the target in force (R111, R115, R118, R120, R124). The second part tells
that no phase is healthy for a non-zero target. -/
def State.acceptFrame (s : State) (f : BitVec 64) (external : Bool) : State × Bool :=
  let t := frTarget f
  let s := s.retarget t
  let s := s.modSpc (fun x => { x with
    pending := some ⟨f, s.now, external⟩, acceptedAt := s.now, target := t, ramp := frRamp f, answered := false,
    forceSeq := frSeq f, lastAnswer := none,
    unsolDue := false, dwellFrom := none, shedFrom := none, orphanRamp := false })
  let s := (if frPreempt f then s.endToggle else s).finishShed
  match s.spc.st with
  | .disabled => (s.answerLast true 0, false)
  | .inhibited => (s, false)
  | .standby =>
    if t = 0 then (s.answerLast true 0, false)
    else if s.nHealthy = 0 then (s, true)
    else
      let s := s.setPins { s.pins with phEnHigh := false }
      let s := s.modSpc (fun x => { x with st := .regulate, delivered := s.deliverable })
      let s := s.modSpc (fun x => { x with ramping := decide (x.setpoint ≠ x.delivered) })
      (State.addPhases 8 s, false)
  | .regulate =>
    if t ≠ 0 ∧ s.nHealthy = 0 then (s, true)
    else
      let s := s.modSpc (fun x => { x with delivered := s.deliverable })
      let s := s.modSpc (fun x => { x with ramping := decide (x.setpoint ≠ x.delivered) })
      (State.addPhases 8 s, false)

/-- A SET frame with a correct CRC is judged (R113, R114); one that passes check 1 through SYNC abandons a pending frame
(R118). -/
def State.judgeFrame (s : State) (f : BitVec 64) (external : Bool) : State × Bool :=
  let q := frSeq f
  if !s.spc.sync && q == s.spc.lastSeq && s.spc.lastRaw.isSome then
    if s.spc.lastRaw = some f then
      match s.spc.lastAnswer with
      | some a => (s.sendAnswer a, false)
      | none => (s, false)
    else (s.sendAnswer ⟨false, q, false, 3, s.spc.target, s.spc.acceptedAt⟩, false)
  else if s.spc.sync || (q == (s.spc.lastSeq + 1) % 256 && (s.spc.pending.isNone || frPreempt f)) then
    let s := s.modSpc (fun x => { x with
      sync := false, lastSeq := q, lastRaw := some f, pending := if x.sync then none else x.pending })
    let c := s.frameCheck f
    if c = 0 then s.acceptFrame f external
    else
      let a : Answer := ⟨false, q, false, c, frTarget f, s.now⟩
      ((s.modSpc (fun x => { x with lastAnswer := some a })).sendAnswer a, false)
  else (s.sendAnswer ⟨false, q, false, 3, s.spc.target, s.spc.acceptedAt⟩, false)

/-- A valid frame counts towards training and keeping the link UP (R127, R128). -/
def State.stepValid (s : State) : State :=
  let n := s.spc.trainCount + 1
  let up := s.spc.link == 1 && decide (16 ≤ n)
  s.modSpc (fun x => { x with
    lastValid := s.now
    trainCount := if x.link == 1 then n else x.trainCount
    link := if up then 2 else x.link
    sync := x.sync || up })

/-! ### Sensing (R104) -/

/-- i_n in nA for a sense code. -/
def State.phaseNano (s : State) (p : Phase) (code : Nat) : Int :=
  let i := ((code : Int) - (s.fld (Fld.spcSenseOffsetOffset p.val) : Int)) * 732 *
    (s.fld (Fld.spcSenseGainGain p.val) : Int)
  if s.flag (Fld.spcSenseGainInvert p.val) then -i else i

/-- I_fast from the samples of the last microsecond, one list of eight codes for each sample (R104). -/
def State.fastCurrent (s : State) (codes : List (List Nat)) : Int :=
  let sums := codes.map (fun c => sumInt (s.activePhases.map (fun p => s.phaseNano p (c.getD p.val 0))))
  divI (sumInt sums) (1000 * (codes.length : Int))

/-- The current class (R35). -/
def State.currentClass (s : State) : Class :=
  let r := if s.spc.ramping then s.spc.ramp else 0
  if s.spc.iFast.natAbs < 200000 + 2 * r then .low else if 0 < s.spc.iFast then .pos else .neg

/-- The monitor value of a cell (R148). -/
def State.monitor (s : State) (k : Cell) : Int :=
  let m := s.meas.get k
  if m.served then m.visit else m.mon

/-- What a segment puts into its uplink beacon (R246): VSUM in 2 mV units, N_IN, PARKING, ON_STACK, FAULT. -/
def State.uplink (s : State) (g : Seg) : Uplink :=
  let l := cellsOf g
  let ins := l.filter (fun k => (s.cells.get k).st == .isIn)
  { vsum := Nat.min 0xFFFF (divI (sumInt (ins.map s.monitor)) 2000).toNat
    nIn := ins.length
    parking := l.any (fun k => match (s.cells.get k).tr with
      | some t => t.target == .park || t.target == .keep
      | none => false)
    onStack := (s.segs.get g).onStack
    fault := (s.links.get g).haltReq || (untaken (s.links.get g).up).any (fun m => match m with
      | .fault _ _ => true
      | _ => false)
    at_ := s.now }

/-- The fed-forward transitions that a segment's latest report does not cover yet, in mV (R109). -/
def State.fedSince (s : State) (g : Seg) : Int :=
  let new (e : FeedEdge) : Bool :=
    segOf e.cell == g && decide ((s.links.get g).report.at_ < e.tp) && decide (e.tp ≤ s.now)
  sumInt ((s.spc.feed.filter new).map (fun e => if e.toIn then e.mv else -e.mv))

/-- V_est in mV: the sum of the in-circuit voltages that the segments whose links are up have reported, corrected by the
fed-forward transitions (R109, R246, R254). -/
def State.vEst (s : State) : Nat :=
  let part (g : Seg) : Int := if s.linkUp g then 2 * ((s.links.get g).report.vsum : Int) + s.fedSince g else 0
  (sumInt (allSegs.map part)).toNat

/-- The effective string voltage limit in mV (R85, R109). -/
def State.vLimit (s : State) : Nat :=
  let r := 1000 * s.fld Fld.spcVstringLimitLimitV
  if s.hasActive then Nat.min r (limVString s.active) else r

end Sys2Proof.Machine
end

