-- ==== Sys2Proof/Machine/Cells.lean ====
section
/-!
DEFINITION. Cell path transitions (chapter 02): the gates of each sequence, how a transition starts, parks, holds,
keeper sequences, and what completes.
-/

namespace Sys2Proof.Machine

/-! ### Classes and gates -/

/-- The class a segment uses: LOW when its latest class is older than 2 µs (R35). -/
def State.classAt (s : State) (g : Seg) : Class :=
  let x := s.segs.get g
  if x.clsAt + 2000 < s.now then .low else x.cls

def allOff : Gates := ⟨false, false, false, false⟩
def s1on : Gates := ⟨true, true, false, false⟩
def s2on : Gates := ⟨false, false, true, true⟩

/-- The combinations that the gate driver's interlock refuses (R29). -/
def interlock (g : Gates) : Bool := !(g.s1n && g.s2p) && !(g.s1p && g.s2n)

/-- Gates with S1 and S2 exchanged. -/
def swapPairs (g : Gates) : Gates := ⟨g.s2p, g.s2n, g.s1p, g.s1n⟩
/-- Gates with P and N halves exchanged. -/
def swapHalves (g : Gates) : Gates := ⟨g.s1n, g.s1p, g.s2n, g.s2p⟩

/-- Step n of the four-step sequence from S1 to S2 for class POS (R36). -/
def stepPos (n : Nat) (g : Gates) : Gates :=
  match n with
  | 1 => { g with s1n := false }
  | 2 => { g with s2p := true }
  | 3 => { g with s1p := false }
  | 4 => { g with s2n := true }
  | _ => g

/-- Step n of the two-step sequence from S1 to S2 (R37). -/
def stepTwo (n : Nat) (g : Gates) : Gates :=
  match n with
  | 1 => { g with s1p := false, s1n := false }
  | 2 => { g with s2p := true, s2n := true }
  | _ => g

/-- Step n of a sequence: its kind, class and direction. -/
def stepGates (kind : SeqKind) (cls : Class) (toIn : Bool) (n : Nat) (g : Gates) : Gates :=
  let halves : Gates → Gates := if cls == .neg then swapHalves else id
  let pairs : Gates → Gates := if toIn then swapPairs else id
  match kind with
  | .four | .undo => halves (pairs (stepPos n (pairs (halves g))))
  | .two => pairs (stepTwo n (pairs g))
  | .gateFail | .clamp | .keeper => stepTwo n g

/-- Steps of a sequence. -/
def stepsOf : SeqKind → Nat
  | .four => 4
  | _ => 2

/-- The sequence for a class (R36, R37). -/
def seqOf (c : Class) : SeqKind := if c == .low then .two else .four

/-! ### Marks on a cell -/

/-- Any hold of R30. -/
def CellPath.held (c : CellPath) : Bool :=
  c.holdDone || c.holdTemp || c.holdInhibit || c.holdExclude || c.holdIdle

/-- HOLD of SEG_CELL_STATE: the highest code in force (R59). -/
def CellPath.holdCode (c : CellPath) : Nat :=
  if c.holdIdle then 5 else if c.holdExclude then 4 else if c.holdInhibit then 3
  else if c.holdTemp then 2 else if c.holdDone then 1 else 0

/-- STATE of SEG_CELL_STATE (R59): the keeper's power-up hold shows as 2. -/
def CellPath.stateCode (c : CellPath) : Nat :=
  match c.st with
  | .isOpen => 0
  | .isIn => 1
  | .bypass => 2
  | .park => 3
  | .keep => 4

/-- A park cause is added; FIRST_CAUSE keeps the earliest, and at one tick the lower code (R48). -/
def CellPath.addCause (c : CellPath) (code now : Nat) : CellPath :=
  { c with
    causes := c.causes ||| (1 <<< (code - 1))
    first := if c.causes = 0 then code else if c.parkedAt = now ∧ code < c.first then code else c.first
    parkedAt := if c.causes = 0 then now else c.parkedAt }

def CellPath.hasCause (c : CellPath) (code : Nat) : Bool := c.causes.getLsbD (code - 1)

/-! ### Starting a sequence -/

/-- A sequence starts: step 1 is commanded (R36, R37, R42, R46, R50). -/
def State.startSeq (s : State) (k : Cell) (kind : SeqKind) (toIn : Bool) (target : PathState)
    (planned : Option Nat) (pairSlot : Nat) (late : Bool) : State :=
  let cls := s.classAt (segOf k)
  let v := s.monitor k
  s.modCell k (fun c => { c with
    gates := stepGates kind cls toIn 1 c.gates
    waiting := none
    tr := some { kind := kind, cls := cls, toIn := toIn, target := target, planned := planned, pairSlot := pairSlot,
                 late := late, began := (match c.tr with
                   | some t => t.began
                   | none => s.now), cmds := [s.now], confs := [], v := v, undoLeft := 0, carriedFrom := none } })

/-- The commutation of the class in force (R34). -/
def State.commutate (s : State) (k : Cell) (toIn : Bool) (target : PathState) (planned : Option Nat)
    (pairSlot : Nat) (late : Bool) : State :=
  s.startSeq k (seqOf (s.classAt (segOf k))) toIn target planned pairSlot late

/-- Whether the transfer lies at step 2 or at the midpoint, so that the cell carries current from the confirmation
of step 2 (R38, R48). -/
def carriesFromTwo (t : Transition) : Bool :=
  match t.cls with
  | .low => true
  | .pos => if t.toIn then decide (t.v < 200000) else decide (-200000 < t.v)
  | .neg => if t.toIn then decide (-200000 < t.v) else decide (t.v < 200000)

/-- A BYPASS to IN transition is undone from the step reached (R48). The steps commanded so far are taken back in
reverse order, 75 ns apart. -/
def State.undo (s : State) (k : Cell) (t : Transition) : State :=
  s.modCell k (fun c => { c with
    waiting := none
    tr := some { t with
      kind := .undo
      target := .park
      undoLeft := t.cmds.length
      carriedFrom := if carriesFromTwo t then t.confs[1]? else none
      cmds := [s.now]
      confs := [] } })

/-- Step n of a BYPASS to IN sequence taken back. -/
def undoGates (cls : Class) (n : Nat) (g : Gates) : Gates :=
  match cls with
  | .low =>
    match n with
    | 1 => { g with s2p := true, s2n := true }
    | _ => { g with s1p := false, s1n := false }
  | .pos =>
    match n with
    | 1 => { g with s2n := true }
    | _ => { g with s1p := false }
  | .neg =>
    match n with
    | 1 => { g with s2p := true }
    | _ => { g with s1n := false }

/-- A park cause acts on a cell (R32, R48). CLAMP and GATE run their own sequence on an IN cell (R42, R46). -/
def State.park (s : State) (k : Cell) (code : Nat) : State :=
  let c := s.cells.get k
  match c.tr with
  | some t =>
    if t.kind == .keeper then s
    else
      let s := s.modCell k (fun c => { c.addCause code s.now with waiting := none })
      if t.kind == .gateFail || t.kind == .clamp || t.kind == .undo then s
      else if t.toIn then (if t.cmds.length < 3 then s.undo k t else s)
      else s.modCell k (fun c => { c with tr := some { t with target := .park } })
  | none =>
    match c.st with
    | .isOpen => (s.modCell k (fun c => { c.addCause code s.now with
        st := .park, fromPark := false, gates := s2on, openUntil := s.now })).disturbOpen k
    | .isIn =>
      let s := s.modCell k (fun c => c.addCause code s.now)
      if code = 3 then s.startSeq k .clamp false .park none 0 false
      else if code = 4 then s.startSeq k .gateFail false .park none 0 false
      else s.commutate k false .park none 0 false
    | .bypass => s.modCell k (fun c => { c.addCause code s.now with st := .park })
    | .park => s.modCell k (fun c => c.addCause code s.now)
    | .keep => s

/-- A gate failure: the sequence of R42 whatever is in progress, with cause GATE and a report of the step. -/
def State.gateFailure (s : State) (k : Cell) (step : Nat) : State :=
  let s := s.modCell k (fun c => c.addCause 4 s.now)
  let s := s.startSeq k .gateFail false .park none 0 false
  s.segReport (segOf k) (cellReport s.now .gate k (BitVec.ofNat 32 step) 0 0)

/-- A hold begins (R30): an IN cell is commutated out, unscheduled. `f` records the hold. -/
def State.beginHold (s : State) (k : Cell) (f : CellPath → CellPath) : State :=
  let s := s.modCell k f
  let c := s.cells.get k
  if c.tr.isNone && c.st == .isIn then s.commutate k false .bypass none 0 false else s

/-- A hold ends; when none remains the cell resumes at the start of the next cycle (R30). -/
def State.endHold (s : State) (k : Cell) (f : CellPath → CellPath) : State :=
  s.modCell k (fun c =>
    let c' := f c
    if c.held && !c'.held then { c' with resume := true } else c')

/-- Sets or ends a hold as its reason stands. -/
def State.setHold (s : State) (k : Cell) (on was : Bool) (f : Bool → CellPath → CellPath) : State :=
  if on && !was then s.beginHold k (f true) else if !on && was then s.endHold k (f false) else s

/-- Every cell of a segment parks with a cause (R49). -/
def State.parkSegment (s : State) (g : Seg) (code : Nat) : State := each (cellsOf g) (fun s k => s.park k code) s

/-- A cell leaves OPEN for BYPASS or PARK as remembered, with S2 on (R32). -/
def State.leaveOpen (s : State) (k : Cell) : State :=
  if (s.cells.get k).st == .isOpen then
    (s.modCell k (fun c => { c with
      st := if c.fromPark then .park else .bypass, fromPark := false, gates := s2on, openUntil := s.now })).disturbOpen k
  else s

/-- The module leaves READY or STARTUP_TEST other than to HALT: every OPEN cell leaves OPEN (R32). -/
def State.leaveOpenAll (s : State) : State := each allCells (fun s k => s.leaveOpen k) s

/-! ### Completing a transition -/

/-- t_x of a completed transition and whether the midpoint rule applied (R38); the sequences of R42, R46 and R50
transfer at their last confirmation. -/
def transfer (t : Transition) : Nat × Bool :=
  let c2 := t.confs.getD 1 0
  let c3 := t.confs.getD 2 0
  let mid := (c2 + c3) / 2 / 4 * 4
  match t.kind with
  | .four =>
    let natural := if (t.cls == .pos) == t.toIn then decide (t.v ≤ -200000) else decide (200000 ≤ t.v)
    let forced := if (t.cls == .pos) == t.toIn then decide (200000 ≤ t.v) else decide (t.v ≤ -200000)
    if natural then (c2, false) else if forced then (c3, false) else (mid, true)
  | .two => (c2, false)
  | .undo => (t.confs.headD 0, false)
  | _ => (t.confs.getLastD 0, false)

/-- Kind of a completed transition (R41). -/
def edgeKind (t : Transition) : EdgeKind :=
  match t.kind with
  | .keeper => .keeper
  | .gateFail => .gateFailure
  | .clamp => .toPark
  | .undo => .toPark
  | .four | .two => if t.toIn then .bypassToIn else if t.target == .park then .toPark else .inToBypass

/-- The record of a completed transition (R41). -/
def edgeRec (k : Cell) (t : Transition) : EdgeRec :=
  let x := transfer t
  { cell := k, planned := t.planned, kind := edgeKind t, cls := t.cls, confs := t.confs, step1 := t.began,
    tx := x.1, lowV := x.2, late := t.late, pairSlot := t.pairSlot }

/-- The two records of an undone transition that carried current: it began at the confirmation of step 2 and ended
when the undo of step 2 was confirmed (R48). -/
def undoRecs (k : Cell) (t : Transition) (first ended : Nat) : List EdgeRec :=
  let low := t.cls != .low && decide (-200000 < t.v) && decide (t.v < 200000)
  [{ cell := k, planned := t.planned, kind := .bypassToIn, cls := t.cls, confs := [first], step1 := t.began, tx := first,
     lowV := low, late := t.late, pairSlot := t.pairSlot },
   { cell := k, planned := none, kind := .toPark, cls := t.cls, confs := [ended], step1 := t.began, tx := ended,
     lowV := low, late := false, pairSlot := t.pairSlot }]

/-- The state and gates at the end of a sequence (R32). -/
def CellPath.finish (c : CellPath) (t : Transition) : CellPath :=
  { c with
    tr := none
    st := t.target
    gates := if t.target == .isIn then s1on else s2on
    inSince := if t.target == .isIn then some (transfer t).1 else none
    ivals := (match t.target, t.kind, c.inSince, t.carriedFrom with
      | .isIn, _, _, _ => c.ivals
      | _, .undo, _, some a => (a, (transfer t).1) :: c.ivals
      | _, _, some a, _ => (a, (transfer t).1) :: c.ivals
      | _, _, none, _ => c.ivals).take 64
    keepHold := c.keepHold || t.kind == .keeper }

/-- A sequence with a gap in which the path clamps carry the current (R45, R46). -/
def hasGap (k : SeqKind) : Bool := k == .two || k == .keeper || k == .gateFail

/-- The gap of a sequence has ended: its clamp conduction is counted, and ignored for another 100 ns (R45, R46). -/
def CellPath.endGap (c : CellPath) (kind : SeqKind) (now : Nat) : CellPath :=
  if hasGap kind || kind == .clamp then
    { c with
      gapUntil := if hasGap kind then now + 100 else c.gapUntil
      clampHits := c.clampHits + 1 }
  else c

/-- Clamp conduction is ignored now (R46). -/
def CellPath.inGap (c : CellPath) (now : Nat) : Bool :=
  decide (now ≤ c.gapUntil ∧ 0 < c.gapUntil) || (match c.tr with
    | some t => hasGap t.kind
    | none => false)

/-- What follows a completed transition: a park whose cause came too late to undo it, a hold that began meanwhile,
or the scheduled edge that waited, marked LATE (R30, R40, R48). -/
def State.afterTransition (s : State) (k : Cell) : State :=
  let c := s.cells.get k
  match c.st with
  | .isIn =>
    if c.causes != 0 then s.commutate k false .park none 0 false
    else if c.held then s.commutate k false .bypass none 0 false
    else match c.waiting with
      | some w =>
        if w.toIn then s.modCell k (fun c => { c with waiting := none })
        else s.commutate k false .bypass (some w.tp) w.slot true
      | none => s
  | .bypass =>
    if c.causes != 0 then s.modCell k (fun c => { c with st := .park, waiting := none })
    else match c.waiting with
      | some w =>
        if w.toIn && !c.held && !c.resume then s.commutate k true .isIn (some w.tp) w.slot true
        else s.modCell k (fun c => { c with waiting := none })
      | none => s
  | _ => s.modCell k (fun c => { c with waiting := none })

/-! ### The keeper (R50, R51) -/

/-- The keeper sequence starts on a cell, whatever is in progress (R48, R50). -/
def State.keeperSeq (s : State) (k : Cell) : State :=
  s.startSeq k .keeper false .keep none 0 false

/-- A trip: TRIPPED, the trip counter and the sequence on all sixteen cells (R50, R61). -/
def State.keeperTrips (s : State) (g : Seg) : State :=
  let s := s.modSeg g (fun x => { x with keeper := { x.keeper with
    holding := true, tripped := true, heartbeat := false, tripCount := satAdd 255 x.keeper.tripCount 1 } })
  each (cellsOf g) (fun s k => s.keeperSeq k) s

end Sys2Proof.Machine
end

