-- ==== Sys2Proof/Machine/Nvm.lean ====
section
/-!
DEFINITION. The flash and the journal (chapter 15): when a write may start, queued flash operations, journal records
and the sillage record they carry.
-/

namespace Sys2Proof.Machine

/-! ### Regions (R442) -/

def regionStart (r : Nat) : Nat :=
  match r with
  | 0 => 0
  | 1 => 0x040000
  | 2 => 0x240000
  | 3 => 0x440000
  | 12 => 0xC80000
  | 13 => 0xD00000
  | _ => 0x480000 + (r - 4) * 0x100000

def regionSize (r : Nat) : Nat :=
  match r with
  | 0 => 0x40000
  | 1 => 0x200000
  | 2 => 0x200000
  | 3 => 0x40000
  | 12 => 0x80000
  | 13 => 0x300000
  | _ => 0x100000

def journalBase : Nat := 0xD00000
def journalSize : Nat := 0x300000
def sectorSize : Nat := 4096

/-- Bytes of the flash. -/
def State.flashRead (s : State) (a n : Nat) : List Byte := Sparse.read erased s.nvm.flash a n

/-- Flash with a range erased. -/
def eraseRange (m : List (Nat × Byte)) (a n : Nat) : List (Nat × Byte) :=
  m.filter (fun e => decide (e.1 < a) || decide (a + n ≤ e.1))

/-- Flash with the erase of a range cut short: bits are set by v. -/
def cutRange (m : List (Nat × Byte)) (v : BitVec 64) (a n : Nat) : List (Nat × Byte) :=
  m.filterMap (fun e =>
    if decide (e.1 < a) || decide (a + n ≤ e.1) then some e
    else
      let b := e.2 ||| (v.rotateLeft (e.1 % 64)).setWidth 8
      if b == erased e.1 then none else some (e.1, b))

/-- Whether a range of the flash is erased. -/
def isErased (m : List (Nat × Byte)) (a n : Nat) : Bool :=
  m.all (fun e => decide (e.1 < a) || decide (a + n ≤ e.1))

/-! ### Write inhibits (R458, R368) -/

/-- The hub diode's reading in use lies outside THERM_NVM_WINDOW. -/
def State.nvmTooHot (s : State) : Bool :=
  let t := (s.therm.dies.get (Fin.ofNat 17 0)).temp
  decide (t < 100 * s.sfld Fld.thermNvmWindowTMin) || decide (100 * s.sfld Fld.thermNvmWindowTMax < t)

/-- Slice 56 stands failed. -/
def State.sliceFailed (s : State) (n : Nat) : Bool := (s.bist.slices.get (slice n)).failed

/-- NVMIF is on; it is off in DOZE and DRYDOWN (R458). -/
def State.nvmifOn (s : State) : Bool := s.st == .boot || s.pwr.hubOn.getLsbD 7

/-- NVM_WRITE_INHIBIT_CAUSE [5:0] (R463). -/
def State.inhibitCause (s : State) : BitVec 6 :=
  (if s.nvmTooHot then 1 else 0) ||| (if s.pwr.nvmOk then 0 else 2) |||
    (if s.st == .shutdownLatched then 4 else 0) ||| (if s.sliceFailed 56 then 8 else 0) |||
    (if s.flag Fld.nvmCtrlWriteEn then 0 else 0x10) ||| (if s.nvmifOn then 0 else 0x20)

/-- The status with which a write that may not start is refused: the first condition of R458 in order; with NVMIF
off alone the write is not made and REJECTED is shown (log 16). -/
def State.writeRefusal (s : State) : Option Status :=
  let c := s.inhibitCause
  if c &&& 7 != 0 then some .tempInhibit else if c != 0 then some .rejected else none

/-- A refused write is counted (R463). -/
def State.countRefusal (s : State) (st : Status) : State :=
  s.modNvm (fun n => { n with
    lastRefused := statusCode st, refused := satAdd 0xFFFF n.refused 1, lastStatus := st })

/-! ### Flash operations (R455) -/

/-- Page programs that write bytes from an address; no page of 256 bytes is crossed. At most n pages. -/
def pageOps : Nat → Nat → List Byte → List FlashOp
  | 0, _, _ => []
  | n + 1, a, l =>
    if l.isEmpty then []
    else
      let k := 256 - a % 256
      .program a (l.take k) :: pageOps n (a + k) (l.drop k)

/-- Page programs for any length. -/
def programOps (a : Nat) (l : List Byte) : List FlashOp := pageOps (l.length / 256 + 2) a l

/-- The contents after an operation. -/
def FlashOp.apply (m : List (Nat × Byte)) : FlashOp → List (Nat × Byte)
  | .program a l => Sparse.putAll erased m a l
  | .eraseSector a => eraseRange m a 0x1000
  | .eraseBlock a => eraseRange m a 0x10000

/-- The contents after an operation cut short (R459): a page being programmed and a range being erased may hold
arbitrary bits, given by v; a commit marker or an active-slot record is never left whole. -/
def FlashOp.cut (m : List (Nat × Byte)) (v : BitVec 64) : FlashOp → List (Nat × Byte)
  | .program a l =>
    let junk := l.mapIdx (fun i b => b ||| (v.rotateLeft (i % 64)).setWidth 8)
    let mark := u l 0 4 == 0x434A4D4C || u l 0 4 == 0x53414D4C
    Sparse.putAll erased m a (if mark then junk.modifyHead (· ||| 1) else junk)
  | .eraseSector a => cutRange m v a 0x1000
  | .eraseBlock a => cutRange m v a 0x10000

def FlashOp.addr : FlashOp → Nat
  | .program a _ => a
  | .eraseSector a => a
  | .eraseBlock a => a

def FlashOp.isErase : FlashOp → Bool
  | .program _ _ => false
  | .eraseSector _ | .eraseBlock _ => true

/-- The job whose operation runs next: journal records are written between the pages of other writes (R455). -/
def nextJob (l : List Job) : List Job :=
  match l.find? (fun j => j.fin == .record) with
  | some j => j :: l.erase j
  | none => l

/-- Busy and erasing as the first job stands. -/
def Nvm.settle (n : Nvm) : Nvm :=
  match n.jobs with
  | [] => { n with busy := false, erasing := false }
  | j :: _ =>
    match j.ops with
    | [] => { n with busy := true, erasing := false }
    | o :: _ => { n with busy := true, erasing := o.isErase }

/-- A BEGIN that did not complete leaves no update and an invalid slot (R453). -/
def Nvm.failBegin (n : Nvm) (j : Job) : Nvm :=
  match j.fin with
  | .fwBegin slot _ =>
    if slot = 0 then { n with fw := none, slotA := 0 } else { n with fw := none, slotB := 0 }
  | _ => n

/-- A repair goes ahead of any queued slot write (R444). -/
def State.pushRepair (s : State) (j : Job) : State :=
  s.modNvm (fun n => Nvm.settle { n with jobs := j :: n.jobs, lastStatus := .ok })

/-- A job is queued; a command's write counts as the latest write request. -/
def State.pushJob (s : State) (j : Job) : State :=
  s.modNvm (fun n => Nvm.settle { n with jobs := n.jobs ++ [j], lastStatus := .ok })

/-! ### The journal (R454, R455) -/

/-- A payload padded to a multiple of 16 bytes. -/
def padTo16 (l : List Byte) : List Byte := l ++ zeros ((16 - l.length % 16) % 16)

/-- Record and commit marker. -/
def journalBytes (kind seq time : Nat) (payload : List Byte) : List Byte × List Byte :=
  let p := padTo16 payload
  let h := leBytes 2 0xA55A ++ leBytes 1 kind ++ leBytes 1 0 ++ leBytes 4 seq ++ leBytes 8 time ++
    leBytes 2 p.length ++ leBytes 2 0
  let c := crc32c (h ++ p)
  (h ++ leBytes 4 c ++ zeros 8 ++ p, leBytes 4 0x434A4D4C ++ leBytes 4 seq ++ leBytes 4 c ++ zeros 4)

/-- TIME of a journal record: 0 while line time is FREE (R454). -/
def State.journalTime (s : State) : Nat := if s.tu.st = 0 then 0 else s.now

/-- Erase count of a journal sector, or of a region's slot under its key 1000 + region. -/
def State.eraseCount (s : State) (k : Nat) : Nat := (find? s.nvm.erases k).getD 0

/-- Erases of a flash sector that are queued. -/
def State.queuedErases (s : State) (a : Nat) : Nat :=
  (s.nvm.jobs.map (fun j => j.ops.countP (fun o => o == .eraseSector a))).sum

/-- A sector is erased, or will be before anything queued now is written. -/
def State.sectorReady (s : State) (a : Nat) : Bool :=
  isErased s.nvm.flash a sectorSize || decide (0 < s.queuedErases a)

/-- Erase count of a journal sector once what is queued is done. -/
def State.erasesDue (s : State) (sec : Nat) : Nat :=
  s.eraseCount sec + s.queuedErases (journalBase + sectorSize * sec)

/-- A record is placed at the write point: a SECTOR record first where a sector opens, and the next sector is erased
when it is not (R454, R455). -/
def State.appendRecord (s : State) (kind : Nat) (payload : List Byte) : State :=
  let len := 48 + (padTo16 payload).length
  let pos := s.nvm.head % sectorSize
  let fits := pos != 0 && decide (pos + len ≤ sectorSize)
  let start := if fits then s.nvm.head else (s.nvm.head + sectorSize - 1) / sectorSize * sectorSize % journalSize
  let sec := start / sectorSize
  let q := s.nvm.seq
  let ready := s.sectorReady (journalBase + start)
  let opening := journalBytes 1 q s.journalTime (leBytes 4 (s.erasesDue sec + (if ready then 0 else 1)))
  let openOps := if fits then [] else
    (if ready then [] else [.eraseSector (journalBase + start)]) ++
    programOps (journalBase + start) opening.1 ++ programOps (journalBase + start + opening.1.length) opening.2
  let at_ := if fits then start else start + opening.1.length + opening.2.length
  let q' := if fits then q else (q + 1) % 2 ^ 32
  let r := journalBytes kind q' s.journalTime payload
  let ahead := journalBase + (start + sectorSize) % journalSize
  let eraseOps := if fits || s.sectorReady ahead then [] else [.eraseSector ahead]
  let ops := openOps ++ programOps (journalBase + at_) r.1 ++ programOps (journalBase + at_ + r.1.length) r.2 ++ eraseOps
  (s.modNvm (fun n => { n with
    seq := (q' + 1) % 2 ^ 32
    head := (at_ + r.1.length + r.2.length) % journalSize })).pushJob ⟨13, ops, .record⟩

/-- A journal record is written, or refused by a write inhibit and never written (R401, R458). -/
def State.journal (s : State) (kind : Nat) (payload : List Byte) : State :=
  match s.writeRefusal with
  | some st => s.countRefusal st
  | none => s.appendRecord kind payload

/-! ### Sillage records (R398) -/

/-- The 32 bytes of a sillage record. -/
def sillageBytes (r : Sillage) : List Byte :=
  leBytes 2 (srcId r.src) ++ leBytes 1 (classCode r.cls) ++ leBytes 1 r.flags.toNat ++ leBytes 2 r.count ++
    leBytes 2 r.seq ++ leBytes 8 r.time ++ leBytes 1 r.state ++ leBytes 1 r.seg ++ leBytes 2 r.cell ++
    leBytes 4 r.arg0.toNat ++ leBytes 4 r.arg1.toNat ++ leBytes 4 r.arg2.toNat

end Sys2Proof.Machine
end

