-- ==== Sys2Proof/Machine/Records.lean ====
section
/-!
DEFINITION. Results of the kernels (chapter 06): parameters in force, totals of a step, and the records they end in.
-/

namespace Sys2Proof.Machine

/-! ### Reports to the fault collector -/

/-- A fault arises; the collector enters it before the command ends (R397). -/
def State.report (s : State) (r : Report) (flags : BitVec 8) : State :=
  s.modFlt (fun f => { f with due := f.due ++ [(r, flags)] })

/-- A fault of the hub arises now (R385). -/
def State.raise (s : State) (x : Src) (g : Option Seg) (k : Option Cell) (a0 a1 a2 : Word) : State :=
  s.report ⟨x, s.now, g, k, a0, a1, a2⟩ 0

def word (n : Nat) : Word := BitVec.ofNat 32 n
def wordI (x : Int) : Word := BitVec.ofInt 32 x

/-! ### Parameters (R186, R187) -/

/-- Offset of the ANALYSIS section of the active flacon; none without one. -/
def State.anaOff (s : State) : Option Nat := (imgSection s.active 8).map (fun e => e.off)

/-- A parameter of the ANALYSIS section, or the register's where the section leaves it. -/
def State.anaParam (s : State) (off size applies reg : Nat) : Nat :=
  match s.anaOff with
  | some b => let v := u s.active (b + off) size; if v = applies then reg else v
  | none => reg

/-- Kernels enabled by the register and the section (R185). -/
def State.kernelsNow (s : State) : BitVec 7 :=
  let r : BitVec 7 := BitVec.ofNat 7 (1 + 2 * s.fld Fld.anaKernelEnableKernels)
  match s.anaOff with
  | some b => r &&& BitVec.ofNat 7 (u s.active b 4)
  | none => r

def State.paramsNow (s : State) : Params :=
  { kernels := s.kernelsNow
    period := s.anaParam 4 4 0 (s.fld Fld.anaTallyCfgPeriod)
    band := 10 * s.anaParam 0x0C 2 0 (s.fld Fld.anaTaperCfgBand)
    taperN := s.anaParam 0x0E 1 0 (s.fld Fld.anaTaperCfgNConfirm)
    bin := s.anaParam 0x10 2 0 (s.fld Fld.anaDqdvCfgBinUv)
    scaleMin := s.fld Fld.anaDqdvCfgScaleMin }

def State.edgeParamsNow (s : State) : EdgeParams :=
  { t1 := s.anaParam 8 1 0 (s.fld Fld.anaEdgerCfgT1)
    t2 := s.anaParam 0x0A 2 0 (s.fld Fld.anaEdgerCfgT2)
    nLog2 := s.anaParam 9 1 0xFF (s.fld Fld.anaEdgerCfgNLog2)
    iMin := 100000 * s.fld Fld.anaEdgerCfgIMin }

/-- KVAL_TC in µV/°C over a stretch: the section's, or the register's as it stood when the stretch began. -/
def State.kvalTc (s : State) (v : Kval) : Int :=
  match s.anaOff with
  | some b =>
    let x := u s.active (b + 0x12) 2
    if x = 0x8000 then v.tc else signed 16 x
  | none => v.tc

/-- KVAL runs over a stretch (R185, R186). -/
def State.kvalRuns (s : State) (v : Kval) : Bool :=
  v.on && (match s.anaOff with
    | some b => (u s.active b 4).testBit 4
    | none => true)

/-- The accumulators at the start of a stretch, with the registers' parameters (R186). -/
def State.kvalStart (s : State) : Kval :=
  { Kval.reset with
    on := (s.fld Fld.anaKernelEnableKernels).testBit 3
    tc := s.sfld Fld.anaKvalCfgTc
    band := 10 * s.fld Fld.anaKvalCfgTBand
    minN := s.fld Fld.anaKvalCfgMinN }

/-- Kernel n runs in the step in force. -/
def State.kernelOn (s : State) (n : Nat) : Bool := s.results.params.kernels.getLsbD n

/-- DQDV runs on a cell. -/
def State.dqdvCell (s : State) (k : Cell) : Bool :=
  match s.anaOff with
  | some b => (u s.active (b + 0x20 + k.val / 8) 1).testBit (k.val % 8)
  | none => false

/-! Sweep plans -/

def State.planBase (s : State) (p : Nat) : Nat := s.anaOff.getD 0 + 0x40 + 136 * p
def State.sweepCount (s : State) : Nat :=
  match s.anaOff with
  | some b => u s.active (b + 0x0F) 1
  | none => 0
def State.freqCount (s : State) (p : Nat) : Nat := u s.active (s.planBase p) 1
def State.freqWalk (s : State) (p i : Nat) : Nat := u s.active (s.planBase p + 8 + 4 * i) 1
def State.freqSettle (s : State) (p i : Nat) : Nat := u s.active (s.planBase p + 9 + 4 * i) 1
def State.freqPeriods (s : State) (p i : Nat) : Nat := u s.active (s.planBase p + 10 + 4 * i) 2

/-! ### Totals of a step (R189) -/

/-- Time in common of two intervals. -/
def common (a b c d : Nat) : Nat := Nat.min b d - Nat.max a c

/-- Overlap in ns of [a, b) with the confirmed intervals of a cell. -/
def State.overlap (s : State) (k : Cell) (a b : Nat) : Nat :=
  let c := s.cells.get k
  sumNat (c.ivals.map (fun i => common a b i.1 i.2)) +
    (match c.inSince with
      | some t => common a b t b
      | none => 0)

/-- The conversion of the slot that starts at a time. -/
def State.slotValue (s : State) (k : Cell) (slot : Nat) : Int := (find? (s.meas.get k).vHist slot).getD 0

/-- A disturbance interval of a neighbour's transition meets the slot that starts at a time (R199). -/
def State.nearSlot (s : State) (k : Cell) (slot : Nat) : Bool :=
  (s.meas.get k).nearDist.any (fun d => decide (d.1 < slot + 1000) && decide (slot ≤ d.2))

/-- Totals with one slot's terms added; a slot without I_t contributes no charge and no energy (R190). -/
def addTerm (a : CellAna) (x : SumTerm) : CellAna :=
  match x.i with
  | some i => { a with
      q := a.q + i * x.o
      e := a.e + i * x.v * x.o
      tIn := a.tIn + x.o }
  | none => { a with tIn := a.tIn + x.o }

/-- The terms of the slots of [a, b) whose I_t is known, cut at both ends. -/
def State.termsOf (s : State) (k : Cell) (a b : Nat) : List SumTerm :=
  ((s.shunts.iHist.take 64).reverse.filter (fun e => decide (a < e.1 + 1000) && decide (e.1 < b))).map
    (fun e => ⟨e.1, e.2, s.overlap k (Nat.max a e.1) (Nat.min b (e.1 + 1000)), s.slotValue k e.1, s.nearSlot k e.1⟩)

/-- The totals of a cell at the end of a span: what SUMS has brought, and the sums that the segment answers the request
at the span's end with (R190, R250). A span that has not begun is empty. -/
def State.totals (s : State) (k : Cell) (until_ : Nat) : CellAna :=
  let a := s.ana.get k
  match s.results.stepFrom with
  | none => { a with q := 0, e := 0, tIn := 0, edges := 0, late := 0 }
  | some from_ => (s.termsOf k (Nat.max from_ a.sumTo) until_).foldl addTerm a

/-! ### Record fields -/

/-- A condition that held now or after a time. -/
def heldSince (active : Bool) (ended : Option Nat) (t0 : Nat) : Bool :=
  active || (match ended with
    | some t => decide (t0 < t)
    | none => false)

/-- DERATED of a record whose span began at a time (R72, R208). -/
def State.deratedFlag (s : State) (t0 : Nat) : BitVec 8 :=
  if heldSince s.play.derated s.play.deratedEnd t0 then 8 else 0

/-- VERIFIER_SERVED, SUBSTITUTED_TEMP and DERATED of a cell's record whose span began at a time (R208). -/
def State.spanFlags (s : State) (k : Cell) (t0 : Nat) : BitVec 8 :=
  let m := s.meas.get k
  let t := s.temps.get k
  (if heldSince m.served m.servedEnd t0 then 2 else 0) ||| (if heldSince t.subst t.substEnd t0 then 4 else 0) |||
    s.deratedFlag t0

/-- Results of a cell that fall due now are INCOMPLETE: it is kept, or its segment's link is LOST (R52, R254). -/
def State.cutOff (s : State) (k : Cell) : Bool :=
  (s.cells.get k).st == .keep || (s.links.get (segOf k)).st == .lost

/-- FLAGS of a cell's record whose span began at a time (R208). -/
def State.cellFlags (s : State) (k : Cell) (t0 : Nat) (disturbed incomplete : Bool) : BitVec 8 :=
  (if disturbed then 1 else 0) ||| s.spanFlags k t0 ||| (if incomplete || s.cutOff k then 0x10 else 0)

/-- Signed number of n bytes, saturated. -/
def i32 (x : Int) : List Byte := leBytes 4 (unsigned 32 (clampInt (-2147483647) 2147483647 x))
def i64 (x : Int) : List Byte := leBytes 8 (unsigned 64 x)
def i16 (x : Int) : List Byte := leBytes 2 (unsigned 16 x)
/-- A field without a valid value (R207). -/
def none32 : List Byte := leBytes 4 0x80000000
def none16 : List Byte := leBytes 2 0xFFFF
def opt32 : Option Int → List Byte
  | some x => i32 x
  | none => none32
def opt16 : Option Int → List Byte
  | some x => i16 x
  | none => leBytes 2 0x8000
/-- An output's value; 0x80_0000 where DISTURBED (R158, R207). -/
def sampleValue : Option Sample → Option Int
  | some x => some (if x.disturbed then -8388608 else x.value)
  | none => none

/-- µA·ns as nC, µA·µV·ns as µJ. -/
def nanoCoulomb (q : Int) : Int := divI q 1000000
def microJoule (e : Int) : Int := divI e 1000000000000000

/-- ZERO_AGE in minutes (R188). -/
def State.zeroAge (s : State) : Nat :=
  match s.results.zeroAt with
  | some t => Nat.min 0xFFFE ((s.now - t) / 60000000000)
  | none => 0xFFFF

/-- Time the step in force has lasted since its entry cycle. -/
def State.stepTime (s : State) (t : Nat) : Nat :=
  match s.results.stepFrom with
  | some a => t - a
  | none => 0

/-- Distances of the disturbance counter from a starting value. -/
def State.distFrom (s : State) (k : Cell) (d0 : Nat) : Nat := (s.meas.get k).distCount - d0

/-- Cells the active flacon plays. -/
def State.playedCells (s : State) : List Cell := allCells.filter s.played

/-! ### TALLY and STEP_SUMMARY -/

/-- A TALLY record (R190). -/
def State.tallyRecord (s : State) (k : Cell) (time : Nat) (incomplete : Bool) : State :=
  let a := s.totals k time
  s.putRecord 2 (s.cellFlags k (s.results.stepFrom.getD s.now) false (incomplete || s.results.iGap)) k.val
    (s.distFrom k a.dist0) time 0
    (i64 (nanoCoulomb a.q) ++ i64 (microJoule a.e) ++ leBytes 8 a.tIn ++ leBytes 4 a.edges ++ leBytes 2 a.late ++
      leBytes 2 s.zeroAge)

/-- The STEP_SUMMARY record (R190). -/
def State.stepSummary (s : State) (code time : Nat) (incomplete : Bool) : State :=
  let count (f : Cell → Bool) : Nat := (allCells.filter f).length
  let der := s.play.deratedNs + (match s.play.stepDeratedFrom with
    | some t => s.now - t
    | none => 0)
  let fl : BitVec 8 := (if decide (0 < der) || s.play.derated then 8 else 0) |||
    (if incomplete || s.results.iGap then 0x10 else 0)
  s.putRecord 9 fl 0xFFFF 0 time 0
    (leBytes 1 code ++ zeros 1 ++
      leBytes 2 (count (fun k => s.played k && (s.cells.get k).holdDone)) ++
      leBytes 2 (count (fun k => (s.cells.get k).st == .park)) ++
      leBytes 2 (count (fun k => (s.cells.get k).st == .keep)) ++
      leBytes 4 (der / 1000000) ++ leBytes 4 (s.play.timeCount * 256).floor.toNat ++
      leBytes 8 (s.stepTime time) ++ i64 (nanoCoulomb s.results.qString))

/-! ### EDGE_R (R195) -/

def meanOf (l : List Int) : Int := divI (sumInt l) (l.length : Int)

/-- The EDGE_R record of one direction; none without an edge. -/
def State.edgeRecord (s : State) (k : Cell) (out incomplete : Bool) : State :=
  let a := s.ana.get k
  let l := if out then a.rOut else a.rIn
  let p := if out then a.pOut else a.pIn
  match l.getLast? with
  | none => s
  | some x =>
    let t2 := l.filterMap (fun e => e.rp2)
    let s := s.putRecord 3 (s.cellFlags k ((l.headD x).tx) false incomplete) k.val (if out then a.rDistOut else a.rDistIn) x.tx 0
      (i32 (meanOf (l.map (fun e => e.rp1))) ++ (if t2.isEmpty then none32 else i32 (meanOf t2)) ++
        leBytes 4 (Config.spread (l.map (fun e => e.rp1))) ++ i32 (meanOf (l.map (fun e => e.i))) ++
        i32 (meanOf (l.map (fun e => e.vpre))) ++ leBytes 2 p.t1 ++ leBytes 2 p.t2 ++ leBytes 1 l.length ++
        leBytes 1 t2.length ++ leBytes 1 (if out then 1 else 0) ++ leBytes 1 (if x.pos then 1 else 2) ++ zeros 4)
    s.modAna k (fun a => if out then { a with rOut := [], rDistOut := 0 } else { a with rIn := [], rDistIn := 0 })

/-! ### SWEEP_Z (R199, R200) -/

/-- Largest n with n·n ≤ x, by bits from the highest. -/
def rootBits : Nat → Nat → Nat → Nat
  | 0, _, r => r
  | b + 1, x, r => let t := r + 2 ^ b; rootBits b x (if t * t ≤ x then t else r)

/-- Square root of a quotient as a whole number, rounded as log 5 says. -/
def rootDiv (x d : Nat) : Nat :=
  let q := if d = 0 then 0 else x / d
  let r := rootBits 64 q 0
  if r * r * d = x then r else if Config.roundsUp (x : Int) (d : Int) then r + 1 else r

/-- FREQ in mHz, rounded to nearest (R208). -/
def milliHertz (cycles cycleUs : Nat) : Nat :=
  let d := cycles * cycleUs
  if d = 0 then 0 else (2000000000 + d) / (2 * d)

/-- A SWEEP_Z record; TIME is the end of the integration, now where no walk period was completed. -/
def State.sweepRecord (s : State) (k : Cell) (w : WalkState) (a : SweepAcc) (periods : Nat) (incomplete : Bool) :
    State :=
  let p := s.results.sweepPlan
  let den := a.ii * a.ii + a.iq * a.iq
  let slots := a.slots
  let used := slots - a.excl
  let empty := decide (periods = 0) || decide (den = 0)
  let re := divI (10000000000 * (a.vi * a.ii + a.vq * a.iq)) den
  let im := divI (10000000000 * (a.vi * a.iq - a.vq * a.ii)) den
  let iAmpl := rootDiv (4 * den.toNat) ((used * 1000 * 2 ^ 30) * (used * 1000 * 2 ^ 30))
  let vAmpl := rootDiv (4 * 1000000 * (a.vi * a.vi + a.vq * a.vq).toNat) ((used * 2 ^ 30) * (used * 2 ^ 30))
  let permil := if slots = 0 then 0 else a.excl * 1000 / slots
  let time := if a.t1 = 0 then s.now else a.t1
  let dist := decide (s.results.sweepExcl * slots < a.excl * 1000)
  let low := decide (iAmpl < s.results.sweepAmpl)
  let s := s.putRecord 4 (s.cellFlags k a.t0 dist (incomplete || a.incomplete)) k.val (s.distFrom k a.dist0) time
    s.results.sweepId
    (leBytes 4 (milliHertz (walkLen s.active w.walk) (imgCycleUs s.active)) ++
      (if empty then none32 ++ none32 else i32 re ++ i32 im) ++ leBytes 4 iAmpl ++ leBytes 4 vAmpl ++
      i32 (divI a.idc (1000 * (used : Int))) ++ leBytes 1 w.freq ++ leBytes 1 (s.freqCount p) ++ leBytes 2 periods ++
      leBytes 2 permil ++ leBytes 1 (if low then 1 else 0) ++ leBytes 1 w.base)
  s.modRes (fun r => { r with sweepRecords := r.sweepRecords + 1 })

def SweepAcc.start (t d : Nat) : SweepAcc := ⟨0, 0, 0, 0, 0, 0, 0, t, 0, false, d⟩

/-- Sums of the same integration that a SUMS message brought are added; those of another are not. -/
def SweepAcc.add (a b : SweepAcc) : SweepAcc :=
  if a.t0 = b.t0 then { a with
    vi := a.vi + b.vi, vq := a.vq + b.vq, ii := a.ii + b.ii, iq := a.iq + b.iq, idc := a.idc + b.idc,
    slots := a.slots + b.slots, excl := a.excl + b.excl, incomplete := a.incomplete || b.incomplete }
  else a

/-- One slot's part of the four sums (R199); a slot that a neighbour's disturbance meets is left out. A slot whose
current is missing adds nothing to the current's sums and marks the record. -/
def State.sweepTerm (s : State) (w : WalkState) (a : SweepAcc) (x : SumTerm) : SweepAcc :=
  if x.slot < a.t0 then a
  else if x.near then { a with slots := a.slots + 1, excl := a.excl + 1 }
  else
    let len := walkLen s.active w.walk
    let t := x.slot + 500 - a.t0
    let c := Config.cosTurn len (imgCycleUs s.active) t
    let q := Config.sinTurn len (imgCycleUs s.active) t
    let i : Int := match x.i with
      | some i => i * x.o
      | none => 0
    { a with
      vi := a.vi + x.v * c, vq := a.vq + x.v * q, ii := a.ii + i * c, iq := a.iq + i * q, idc := a.idc + i,
      slots := a.slots + 1, incomplete := a.incomplete || (x.i.isNone && x.o != 0) }

/-- The sums up to a cycle boundary, with what the segment answers the request there with (R250). -/
def State.sweepNow (s : State) (k : Cell) (w : WalkState) (z : Nat) (a : SweepAcc) : SweepAcc :=
  { (s.termsOf k (Nat.max a.t0 (s.ana.get k).sumTo) z).foldl (s.sweepTerm w) a with t1 := z }

/-- Whole walk periods of the present frequency that are integrated. -/
def State.periodsDone (s : State) (w : WalkState) : Nat :=
  w.rep - s.freqSettle s.results.sweepPlan w.freq

/-- The sweep of a cell is cut short: one record over the whole periods completed (R200). -/
def State.cutSweep (s : State) (k : Cell) : State :=
  match (s.cells.get k).walk with
  | none => s
  | some w =>
    let a := ((s.ana.get k).sweepKept).getD (SweepAcc.start s.now (s.meas.get k).distCount)
    let s := s.sweepRecord k w a (s.periodsDone w) true
    (s.modCell k (fun c => { c with walk := none, rung := w.base })).modAna k (fun a => { a with
      sweep := none, sweepKept := none })

/-- The sweep has ended with its last cell: SWEEP_END leaves (R200, R281). -/
def State.endSweep (s : State) : State :=
  if s.results.sweepOn && allCells.all (fun k => (s.cells.get k).walk.isNone) then
    let item := leBytes 2 s.results.sweepId ++ leBytes 2 0 ++ leBytes 4 s.results.sweepRecords ++ zeros 8
    let s := if s.isHead then s.sweepEnded s.results.sweepId s.loop.position s.results.sweepRecords
      else s.toHead 3 false 2 (leBytes 2 s.loop.position ++ leBytes 1 0xFF ++ leBytes 1 1 ++ zeros 4 ++ item)
    s.modRes (fun r => { r with sweepOn := false, sweepAt := none })
  else s

/-! ### KVAL (R202, R203) -/

/-- n·Στu − Στ·Σu and n·Στ² − (Στ)². -/
def kvalNum (v : Kval) : Int := v.n * v.stu - v.st * v.su
def kvalDen (v : Kval) : Int := v.n * v.stt - v.st * v.st
/-- Rate in 0.01 µV/h; none where the fit has no slope. -/
def kvalRate (v : Kval) : Option Int :=
  if kvalDen v = 0 then none else some (divI (-(360000000000000 * kvalNum v)) (kvalDen v))

/-- Whether the rate is over KVAL_MAX (R203). -/
def State.kvalOver (s : State) (v : Kval) : Bool :=
  match kvalRate v with
  | some r => s.hasActive && limKval s.active != 0 && decide (100 * (limKval s.active : Int) < r)
  | none => false

/-- A KVAL record of a cell with enough samples. SE is 3600 times the root of the residual variance over
Στ² − (Στ)²/n, in 0.01 µV/h. -/
def State.kvalRecord (s : State) (k : Cell) : State :=
  let v := (s.ana.get k).kval
  if s.kvalRuns v && decide (v.minN ≤ v.n) && v.n != 0 then
    let isOver := s.kvalOver v
    let span := (v.tLast - v.t0) / 1000000000
    let var := Config.residualVariance v.n v.st v.stt v.stu v.su v.suu
    let se := if kvalDen v = 0 then none32
      else leBytes 4 (rootDiv (360000 * 360000 * 1000000 * v.n * var) (kvalDen v).toNat)
    let s := s.putRecord 6 (s.cellFlags k v.t0 false false) k.val (s.distFrom k v.dist0) v.tLast 0
      (opt32 (kvalRate v) ++ se ++ i32 v.v0 ++ i32 v.vLast ++
        leBytes 4 span ++ leBytes 2 (Nat.min 0xFFFF v.n) ++ leBytes 2 (Nat.min 0xFFFF v.excl) ++ i16 v.temp0 ++
        leBytes 1 (if isOver then 1 else 0) ++
        leBytes 1 ((if v.srcOcv then 1 else 0) + (if v.srcPatrol then 2 else 0)) ++ zeros 4)
    if isOver && s.st != .drydown then
      s.raise .kvalOver (some (segOf k)) (some k) (wordI ((kvalRate v).getD 0)) 0 0
    else s
  else s

/-- A cell's accumulators are reset, after their record (R203). -/
def State.kvalClear (s : State) (k : Cell) : State :=
  (s.kvalRecord k).modAna k (fun a => { a with kval := s.kvalStart })

/-- KVAL records of every cell in the present set. -/
def State.kvalAll (s : State) : State := each allCells (fun s k => s.kvalRecord k) s

/-- One sample enters a cell's accumulators (R202): value, temperature in use, stamp, whether from a patrol. -/
def State.kvalSample (s : State) (k : Cell) (v : Int) (temp : Option Int) (stamp : Nat) (patrol : Bool) : State :=
  let w := (s.ana.get k).kval
  match temp with
  | none => s
  | some t =>
    let w := if w.n = 0 then { w with
        t0 := stamp
        v0 := v
        temp0 := t
        dist0 := (s.meas.get k).distCount } else w
    if w.band < (t - w.temp0).natAbs then s.modAna k (fun a => { a with kval := { w with excl := w.excl + 1 } })
    else
      let v' := v - divI (s.kvalTc w * (t - w.temp0)) 100
      let τ : Int := (stamp - w.t0 : Nat)
      let x := v' - w.v0
      s.modAna k (fun a => { a with kval := { w with
        n := w.n + 1, st := w.st + τ, stt := w.stt + τ * τ, su := w.su + x, stu := w.stu + τ * x, suu := w.suu + x * x,
        vLast := v', tLast := stamp, srcOcv := w.srcOcv || !patrol, srcPatrol := w.srcPatrol || patrol } })

/-! ### CONTACT (R204) and DQDV (R205) -/

/-- A CONTACT record over the visits from t0 to the one that ended at t1; pole values in µΩ, none where saturated. -/
def State.contactRecord (s : State) (k : Cell) (mode : Nat) (cp cn : Option Int) (maxP maxN : Option Int)
    (i limit : Int) (n : Nat) (satP satN : Bool) (t0 t1 d0 : Nat) : State :=
  let m := s.meas.get k
  s.putRecord 7 (s.cellFlags k t0 false false) k.val (s.distFrom k d0) t1 0
    (opt32 cp ++ opt32 cn ++ opt32 maxP ++ opt32 maxN ++ i32 i ++ i32 limit ++ leBytes 2 n ++ leBytes 1 mode ++
      leBytes 1 ((if satP then 1 else 0) + (if satN then 2 else 0)) ++ leBytes 1 m.contP ++ leBytes 1 m.contN ++ zeros 2)

/-- The contact limit in force, µΩ (R172): the register's, or the flacon's if lower. -/
def State.contactLimit (s : State) : Nat :=
  let r := s.fld Fld.measContactLimitLimit
  if s.hasActive then Nat.min r (limContact s.active) else r

/-- The summary record over the evaluations since the last (mode 1). -/
def State.contactSummary (s : State) (k : Cell) : State :=
  let a := s.ana.get k
  if a.cN = 0 then s
  else
    let n : Int := a.cN
    let s := s.contactRecord k 1 (some (divI a.cSumP n)) (some (divI a.cSumN n)) (some a.cMaxP) (some a.cMaxN)
      (divI a.cSumI n) s.contactLimit a.cN false false a.cFrom a.cTo a.cDist0
    s.modAna k (fun a => { a with cN := 0, cSumP := 0, cSumN := 0, cMaxP := 0, cMaxN := 0, cSumI := 0 })

/-- A bin in units of 2^SCALE µAh, rounded to nearest; 1 µAh is 3 600 000 000 000 µA·ns. -/
def binUnits (q : Int) (sc : Nat) : Int :=
  let d : Int := 3600000000000 * 2 ^ sc
  if 0 ≤ q then (2 * q + d) / (2 * d) else -((2 * (-q) + d) / (2 * d))

/-- Smallest SCALE for which every bin fits 16 bits, searched upwards from a start. -/
def fitScale (bins : List Int) : Nat → Nat → Nat
  | 0, sc => sc
  | n + 1, sc =>
    if bins.all (fun q => decide (-32768 ≤ binUnits q sc) && decide (binUnits q sc ≤ 32767)) then sc
    else fitScale bins n (sc + 1)

/-- The open DQDV block of a cell is recorded and closed. -/
def State.dqdvRecord (s : State) (k : Cell) (time : Nat) (atStepEnd : Bool) : State :=
  let a := s.ana.get k
  match a.dqStart with
  | none => s
  | some v0 =>
    let sc := fitScale a.dqBins (15 - s.results.params.scaleMin) s.results.params.scaleMin
    let n := (a.dqBins.filter (fun q => decide (q ≠ 0))).length
    let s := s.putRecord 8 (s.cellFlags k a.dqFrom false (atStepEnd && decide (n < 12))) k.val
      (s.distFrom k a.dqDist0) time 0
      (i32 v0 ++ leBytes 2 s.results.params.bin ++ leBytes 1 n ++ leBytes 1 sc ++
        (a.dqBins.map (fun q => i16 (binUnits q sc))).flatten)
    s.modAna k (fun a => { a with dqStart := none, dqBins := [] })

/-- A usable filter output of an IN cell adds the charge since the previous one to the bin that holds its voltage
(R205). -/
def State.dqdvOutput (s : State) (k : Cell) (x : Sample) : State :=
  if s.kernelOn 6 && s.dqdvCell k && s.inRun && s.results.stepFrom.isSome then
    let bin : Int := s.results.params.bin
    let q := (s.totals k x.stamp).q
    let dq := q - (s.ana.get k).dqLast
    let block := x.value / (12 * bin) * (12 * bin)
    let away := match (s.ana.get k).dqStart with
      | some v0 => decide (x.value ≤ v0 - bin) || decide (v0 + 13 * bin ≤ x.value)
      | none => true
    let s := if away then
        (s.dqdvRecord k x.stamp false).modAna k (fun a => { a with
          dqStart := some block, dqBins := List.replicate 12 0, dqFrom := x.stamp,
          dqDist0 := (s.meas.get k).distCount })
      else s
    let v0 := (s.ana.get k).dqStart.getD block
    let i := (clampInt 0 11 ((x.value - v0) / bin)).toNat
    s.modAna k (fun a => { a with
      dqBins := a.dqBins.mapIdx (fun j y => if j = i then y + dq else y)
      dqLast := q })
  else s

/-! ### TAPER_END, CELL_SNAPSHOT, EVENT -/

/-- A TAPER_END record (R193) of the evaluation at z; TIME is the cycle boundary at which the hold begins. -/
def State.taperRecord (s : State) (k : Cell) (reason : Nat) (qCycle : Int) (z time : Nat) : State :=
  let a := s.totals k z
  let c := s.cells.get k
  s.putRecord 5 (s.cellFlags k (s.results.stepFrom.getD s.now) false false) k.val (s.distFrom k a.dist0) time 0
    (leBytes 1 reason ++ leBytes 1 c.rung ++ zeros 2 ++ opt32 (sampleValue (s.meas.get k).lastUsable) ++
      i32 (divI qCycle s.tCyc) ++ zeros 4 ++ i64 (nanoCoulomb a.q) ++ leBytes 8 (s.stepTime z))

/-- Effective corner code of a cell (R149). -/
def State.cornerOf (s : State) (k : Cell) : Nat :=
  if s.cellFlag k Fld.segCellCfgCornerOwn then s.cellFld k Fld.segCellCfgCorner else s.fld Fld.measDefaultCornerCorner

/-- A CELL_SNAPSHOT record. -/
def State.snapshotRecord (s : State) (k : Cell) (time : Nat) : State :=
  let c := s.cells.get k
  let m := s.meas.get k
  let dist := match m.lastOut with
    | some x => x.disturbed
    | none => false
  let nom := if s.inRun && s.played k then
      divI ((ladFraction s.active (s.ladderOf k) c.rung : Int) * s.spc.target * 50) 32768 else 0
  s.putRecord 1 (s.cellFlags k time dist false) k.val 0 time 0
    (opt32 (sampleValue m.lastOut) ++ i32 (s.monitor k) ++ opt32 (sampleValue m.lastOcv) ++
      opt16 (s.temps.get k).inUse ++ leBytes 1 c.stateCode ++ leBytes 1 c.holdCode ++ leBytes 1 c.rung ++
      leBytes 1 (s.cornerOf k) ++ leBytes 2 c.causes.toNat ++ i32 nom ++ i64 (nanoCoulomb (s.totals k time).q))

/-- An EVENT record of a sillage record (R392). -/
def State.eventRecord (s : State) (r : Sillage) : State :=
  s.putRecord 10 (if r.cell < 256 then s.spanFlags (cell r.cell) r.time else s.deratedFlag r.time) r.cell 0 r.time 0
    (leBytes 2 (srcId r.src) ++ leBytes 1 (classCode r.cls) ++ zeros 1 ++ leBytes 2 r.count ++ zeros 2 ++
      (sillageBytes r).drop 8)

/-! ### The end of a step (R190, R195, R203 to R205) -/

/-- Every record that the end of a step at a time brings, in ascending kind. `code` is END of STEP_SUMMARY. -/
def State.endStep (s : State) (t code : Nat) (incomplete : Bool) : State :=
  let empty := s.results.stepFrom.isNone
  let inc := incomplete || empty
  let cells := s.playedCells
  let s := each cells (fun s k => s.tallyRecord k t inc) s
  let s := each cells (fun s k => (s.edgeRecord k false true).edgeRecord k true true) s
  let s := each allCells (fun s k => s.cutSweep k) s
  let s := s.endSweep
  let s := s.kvalAll
  let s := each allCells (fun s k => s.contactSummary k) s
  let s := each cells (fun s k => s.dqdvRecord k t true) s
  s.stepSummary code t inc

/-- Totals of every cell start afresh for a new step; its span starts at its entry cycle. -/
def State.clearStep (s : State) : State :=
  let s := s.setAna (s.ana.mapIdx (fun i a => { a with
    q := 0, e := 0, tIn := 0, edges := 0, late := 0, qCycle := 0, taperRun := 0, doneAt := none,
    dqLast := 0, dist0 := (s.meas.get (cell i)).distCount }))
  (s.modRes (fun r => { r with stepFrom := none, iGap := false, qString := 0 })).modPlay (fun p => { p with
    recorded := true, deratedNs := 0, stepDeratedFrom := if p.derated then some s.now else none, timeCount := 0 })

end Sys2Proof.Machine
end

