-- ==== Sys2Proof/Machine/Links.lean ====
section
/-!
DEFINITION. What happens to a span link, a segment die and a loop port as a whole: training, resets, leaving and
entering UP (R252, R256, R263, R277).
-/

namespace Sys2Proof.Machine

/-! ### The segment window as read (R55 to R61, R258 to R261, R471, R488) -/

def segStateCode : SegState → Nat
  | .unpowered => 0
  | .boot => 1
  | .running => 2
  | .patrol => 3
  | .silent => 4

def linkStateCode : LinkState → Nat
  | .down => 0
  | .training => 1
  | .up => 2
  | .single => 3
  | .patrol => 4
  | .lost => 5

/-- SEG_CELL_STATE (R59). -/
def State.cellStateWord (s : State) (k : Cell) : Nat :=
  let c := s.cells.get k
  c.stateCode + flagAt c.tr.isSome 3 + c.holdCode * 2 ^ 4 + c.first * 2 ^ 8 + c.causes.toNat * 2 ^ 12 + c.rung * 2 ^ 24 +
    flagAt c.keepHold 30

/-- SEG_CELL_SUBST (R60). -/
def State.cellSubstWord (s : State) (k : Cell) : Nat :=
  let t := s.temps.get k
  let temp := if !t.sampled then 0 else match t.inUse with
    | some x => unsigned 16 x
    | none => 0x8000
  flagAt t.subst 0 + flagAt t.broken 1 + flagAt t.usesLower 2 + flagAt t.usesUpper 3 + t.substCount % 4096 * 2 ^ 4 +
    temp * 2 ^ 16

/-- A register of a window as the segment, or the hub for its own, holds it now; `rel` is the offset in the window. -/
def State.windowForm (s : State) (g : Seg) (rel stored : Nat) : Word :=
  let x := s.segs.get g
  let l := s.links.get g
  let off := 0x8000 + 0x400 * g.val + rel
  let k := cellOf g (rel % 0x40 / 4)
  if rel = 0 then s.stored off
  else if rel = 4 then
    word (segStateCode x.st + flagAt x.onStack 3 + flagAt x.stagedOk 4 + x.ignored * 2 ^ 8 +
      statusCode x.shareStatus * 2 ^ 16 + x.resets * 2 ^ 24)
  else if rel = 8 then
    word (linkStateCode l.st + flagAt l.c0 3 + flagAt l.c1 4 + Nat.min 255 l.latency * 2 ^ 8 + l.retry * 2 ^ 16 +
      l.losses * 2 ^ 24)
  else if rel = 0x0C then
    word (flagAt x.keeper.holding 0 + flagAt x.keeper.tripped 1 + flagAt x.keeper.supplyOk 2 +
      flagAt x.keeper.heartbeat 3 + x.keeper.tripCount * 2 ^ 8)
  else if rel = 0x10 then
    word (fieldOf (Fld.segFeedCtrlFeedEn g) (s.stored off) + flagAt x.feedOk 1 + flagAt (decide (20000 ≤ x.stackMv)) 2 +
      x.feedV * 2 ^ 8 + Nat.min 0xFFFF (x.stackMv / 10) * 2 ^ 16)
  else if rel < 0x40 then 0
  else if rel < 0x80 then word stored
  else if rel < 0xC0 then word (stored + s.ovEff k * 2 ^ 16)
  else if rel < 0x100 then word (stored + s.uvEff k * 2 ^ 16)
  else if rel < 0x140 then word stored
  else if rel < 0x180 then word (s.cellStateWord k)
  else if rel < 0x1C0 then word (s.cellSubstWord k)
  else 0

/-- A window register as its segment reports it. -/
def State.windowLive (s : State) (g : Seg) (rel : Nat) : Word :=
  s.windowForm g rel (Sparse.get resetOf (s.segs.get g).win (0x8000 + 0x400 * g.val + rel)).toNat

/-- Registers of a window that the hub holds itself. -/
def hubHeld (rel : Nat) : Bool := rel == 0 || rel == 8 || rel == 0x10

/-- Offsets of the registers whose RO fields the segment reports. -/
def reportedRegs : List Nat :=
  [4, 0x0C] ++ ([0x80, 0xC0, 0x140, 0x180].flatMap (fun b => (List.range 16).map (fun c => b + 4 * c)))

/-- The values that a segment has reported are kept for the time in which its link is not up (R256). -/
def State.captureWindow (s : State) (g : Seg) : State :=
  if s.linkUp g then
    s.modLink g (fun l => { l with seen := reportedRegs.map (fun r => (r, s.windowLive g r)) })
  else s

/-- What a window register shows before its segment has reported anything. -/
def windowReset (rel : Nat) : Word :=
  if rel = 4 then 0x00010000 else if rel = 0x0C then 1
  else if 0x80 ≤ rel ∧ rel < 0xC0 then 0x320032 else if 0xC0 ≤ rel ∧ rel < 0x100 then 0x3C003C
  else if 0x140 ≤ rel ∧ rel < 0x180 then 0x40000052 else 0

/-- A read of a window register (R256, R471): RW and RWS fields from the hub's shadow. -/
def State.windowRead (s : State) (g : Seg) (rel : Nat) : Word :=
  let off := 0x8000 + 0x400 * g.val + rel
  if hubHeld rel || s.linkUp g then s.windowForm g rel (s.stored off).toNat
  else if rel < 0x40 then
    let w := (find? (s.links.get g).seen rel).getD (windowReset rel)
    if rel = 4 then word (w.toNat % 2 ^ 24 + (s.segs.get g).resets * 2 ^ 24) else w
  else if rel < 0x80 ∨ (0x100 ≤ rel ∧ rel < 0x140) then s.stored off
  else if rel < 0x100 then
    word ((s.stored off).toNat + ((find? (s.links.get g).seen rel).getD (windowReset rel)).toNat / 2 ^ 16 * 2 ^ 16)
  else (find? (s.links.get g).seen rel).getD (windowReset rel)

/-! ### Span links (R252) -/

/-! ### Downlink beacons (R245) -/

/-- HALT of the downlink beacon (R245). -/
def State.haltBit (s : State) : Bool :=
  s.st == .halt || s.st == .shutdownLatched || (s.st == .orphan && s.loop.orphanSent)

def classNo : Class → Nat
  | .low => 0
  | .pos => 1
  | .neg => 2

/-- Current class of CLASS; code 3 is reserved (R245). -/
def classOfNo (n : Nat) : Option Class := ([.low, .pos, .neg] : List Class)[n]?

/-- A downlink beacon (R245): US, CLASS, HALT, RUN, PATROL, LATE, ACK and the CRC-8 of R127 over them. -/
def beaconWord (us : Nat) (c : Class) (halt run patrol late : Bool) (ack : Nat) : BitVec 32 :=
  let low := us % 1024 + classNo c * 2 ^ 10 + flagAt halt 12 + flagAt run 13 + flagAt patrol 14 + flagAt late 15 +
    ack % 256 * 2 ^ 16
  BitVec.ofNat 32 (low + crc8 (leBytes 3 low) * 2 ^ 24)

/-- The CRC of a beacon holds. -/
def beaconCrcOk (b : BitVec 32) : Bool := crc8 (leBytes 3 b.toNat) == b.toNat / 2 ^ 24

/-- The beacon that the hub sends a segment now. -/
def State.beaconFor (s : State) (g : Seg) (patrol late : Bool) : BitVec 32 :=
  beaconWord (s.now / 1000) s.currentClass s.haltBit s.inRun patrol late (ackOf (s.links.get g).up)

/-! ### Training (R252) -/

/-- Training starts or restarts (R252). -/
def State.trainLink (s : State) (g : Seg) : State :=
  (s.captureWindow g).modLink g (fun l => { l with st := .training, c0 := false, c1 := false, trainFrom := s.now, beacon := none })

/-- LINK_RETRAIN, or a segment's core powers up: training starts or restarts; LOST stays LOST while the hub trains, and
PATROL ignores it (R252, R256). -/
def State.retrainLink (s : State) (g : Seg) : State :=
  match (s.links.get g).st with
  | .patrol => s
  | .lost => s.modLink g (fun l => { l with trainFrom := s.now })
  | .down | .training | .up | .single => s.trainLink g

/-- The link goes DOWN. -/
def State.linkToDown (s : State) (g : Seg) : State :=
  (s.captureWindow g).modLink g (fun l => { l with
    st := .down, c0 := false, c1 := false, beacon := none, parkSym := none, parkLeft := 0, haltReq := false,
    trainRaised := false })

/-- The registers of a segment's window that lie outside the hub and that its shadow holds (R471, R488). -/
def State.shadowOf (s : State) (g : Seg) : List (Nat × Word) :=
  let b := 0x8000 + 0x400 * g.val
  s.regs.filter (fun e => decide (b + 0x40 ≤ e.1) && decide (e.1 < b + 0x400))

/-- A segment in patrol mode whose link has been trained leaves it: drivers on, and its sequencer takes the cells back
without commutation (R51, R220). -/
def State.segBack (s : State) (g : Seg) : State :=
  let x := s.segs.get g
  if x.st == .patrol then
    let s := s.modSeg g (fun y => { y with
      st := .running, smeas := true, sdrv := true, keeper := { y.keeper with holding := y.keeper.tripped } })
    if x.keeper.tripped then s else each (cellsOf g) (fun s k => s.modCell k (fun c => { c with keepHold := false })) s
  else s

/-- Training has passed on the carriers named: both sequence numbers start at 0, the segment's window is restored from
the shadow after a segment reset (R477), and a trip that was not released is reported (R51). -/
def State.linkTrained (s : State) (g : Seg) (c0 c1 : Bool) (latency : Nat) : State :=
  let again := (s.links.get g).everUp
  let s := s.modLink g (fun l => { l with
    st := if c0 && c1 then .up else .single
    c0 := c0
    c1 := c1
    latency := latency
    trainRaised := false
    everUp := true
    lastUplink := s.now
    lastDownlink := s.now
    down := retrainDir downPriority s.now l.down
    up := retrainDir upPriority s.now l.up })
  let s := if (s.segs.get g).shadowOk then s
    else s.modSeg g (fun x => { x with win := s.shadowOf g, shadowOk := true })
  let s := s.modSeg g (fun x => { x with trained := true })
  let s := s.segBack g
  let k := (s.segs.get g).keeper
  if again && k.tripped then s.raise .keeperTrip (some g) none (word k.tripCount) 0 0 else s

/-- The filter and conversions of a cell start afresh with G = 0 (R152, R220). -/
def CellMeas.fresh (m : CellMeas) : CellMeas :=
  { m with last4 := [], pHist := [], g := 0, outs := 0, span := [], restart := none, dist := none, ocvAcc := none,
           prevWinIn := none, heldOuts := [] }

/-- VERIFIED is cleared (R90). -/
def State.unverify (s : State) : State :=
  s.modPlay (fun p => { p with staged := { p.staged with verified := false } })

/-- A segment die is reset (R256, R446): its sequencer and heartbeat stop, its RAM but the drydown log is emptied, its
registers return to their reset values, VERIFIED is cleared and its link goes to training as its core powers up. In
a module reset the keeper enters its power-up hold first (R51, R446); otherwise it is left to trip (R50). -/
def State.segDieReset (s : State) (g : Seg) (moduleReset : Bool) : State :=
  let s := s.modSeg g (fun x => { x with
    st := .boot
    stagedOk := false
    shareStatus := .notReady
    ignored := 0
    resets := satAdd 255 x.resets 1
    keeper := if moduleReset then { x.keeper with holding := true, tripped := false, heartbeat := false }
      else { x.keeper with heartbeat := false }
    win := []
    staged := []
    accordAt := none
    shareRx := []
    shareStaged := []
    shareActive := []
    imageIn := false
    timeSet := false
    cls := .low
    clsAt := 0
    haltCause := 0
    islots := []
    patrols := 0
    patrolAt := none
    windowAt := none
    suspect := none
    suspects := []
    confirming := false
    shadowOk := moduleReset
    verifier := Verifier.reset
    sweepCells := 0
    trained := false
    timerFrom := none
    timerPpb := 0 })
  let s := each (cellsOf g) (fun s k =>
    let s := s.modMeas k CellMeas.fresh
    if moduleReset then s.modCell k (fun _ => CellPath.reset) else s) s
  let s := s.modLink g (fun l => { l with up := Dir.reset, down := if moduleReset then Dir.reset else l.down })
  (s.unverify.linkToDown g).trainLink g

/-- A segment reset asked for while the link is not up switches its feed off for 10 ms; it resets the segment if its
stack is below 20 V (R256). -/
def State.segFeedOff (s : State) (g : Seg) : State :=
  let x := s.segs.get g
  let on := s.flag (Fld.segFeedCtrlFeedEn g)
  let s := s.modSeg g (fun x => { x with
    feedOk := false, feedV := 0, onStack := decide (20000 ≤ x.stackMv)
    feedRestoreAt := if on then some (s.now + 10000000) else none })
  if x.stackMv < 20000 then
    let s := s.segDieReset g false
    (s.modSeg g (fun x => { x with st := .unpowered, smeas := false, sdrv := false })).linkToDown g
  else s

/-- A SEG_RESET (R256, R488): by a CMD message while the link is up, else by the feed. -/
def State.segResetAsked (s : State) (g : Seg) : State :=
  if s.linkUp g then s.sendDown g (.cmd .reset) else s.segFeedOff g

/-! ### Loop ports (R263, R277, R278, R280) -/

def State.portEnabled (s : State) (p : Port) : Bool :=
  match p with
  | .a => s.flag Fld.loopCtrlAEn
  | .b => s.flag Fld.loopCtrlBEn

/-- Training starts: both LSEQ counts and LACK counts of the link become 0 (R265). -/
def State.trainPort (s : State) (p : Port) : State :=
  s.modPort p (fun x => { x with
    st := 1, count := 0, lastValid := s.now, rxUp := false, lseqTx := 0, expect := 0, lack := 0, held := [],
    resend := [], retries := 0, pingOut := [], pongDue := none, restricted := false })

/-- Name of the link at a port of the module's own: the lower position, n for the link between n and the head of a
closed loop (R278). -/
def State.ownLink (s : State) (p : Port) : Nat :=
  let l := s.loop
  match p with
  | .a => if l.position ≤ 1 then (if l.topo then 0 else l.n) else l.position - 1
  | .b => l.position

/-- EVENT frame of KIND 1 or 2 about a port, out of the other port (R277). -/
def State.linkEvent (s : State) (p : Port) (kind : Nat) : State :=
  let q := otherPort p
  s.sendFrame q true
    { ftype := 5, down := q == .a, bcast := true, head := false, hop := 1022, dist := 0, lseq := 0, lack := 0,
      info := 0,
      payload := leBytes 2 s.loop.position ++ leBytes 1 kind ++ leBytes 1 (portNo p) ++ zeros 4 ++ zeros 32 }

/-- A census whose PROBE cannot complete ends with NO_ROUTE (R275). -/
def State.censusBroken (s : State) : State :=
  match s.loop.census, s.loop.censusN with
  | some (o, _, _), none => (s.modLoop (fun l => { l with census := none })).replyLate o 0x10 (Result.of .noRoute)
  | _, _ => s

/-- A frame as it leaves by another port than the one it waited for. -/
def TxFrame.turned (x : TxFrame) (p : Port) : TxFrame := { x with frame := { x.frame with down := p == .a } }

/-- A port leaves UP (R275, R277, R278). The caller sets its new state. -/
def State.leaveUp (s : State) (p : Port) : State :=
  let x := s.port p
  let frames := x.held ++ x.queue
  let own := frames.filter (fun t => t.own)
  let gone := (frames.filter (fun t => !t.own)).length
  let q := otherPort p
  let s := s.modPort p (fun x => { x with
    st := 0, held := [], resend := [], queue := [], tx := none, discard := satAdd 0xFF x.discard gone
    downs := satAdd 0xF x.downs 1, lat := 0, pings := 0, pingSent := 0, pingN := 0, pingSum := 0, pingOut := []
    pongDue := none, faultBeyond := false, rxUp := false })
  let link := s.ownLink p
  let s := s.modLoop (fun l => match p with
    | .a => { l with brkDown := link }
    | .b => { l with brkUp := link })
  let s := (s.modPort q (fun x => { x with queue := x.queue ++ own.map (fun t => t.turned q) })).serve q
  let s := s.raise .portDown none none (word (portNo p)) 0 0
  (s.linkEvent p 1).censusBroken

/-- A port is taken out of UP, or restarted, and trains again while it is enabled (R263). -/
def State.restartPort (s : State) (p : Port) : State :=
  let s := if (s.port p).st == 2 then s.leaveUp p else s
  if s.portEnabled p then s.trainPort p else s.modPort p (fun x => { x with st := 0, held := [], resend := [] })

/-- RETRAIN is written: the port trains, whatever its enable (R263). -/
def State.retrainPort (s : State) (p : Port) : State :=
  (if (s.port p).st == 2 then s.leaveUp p else s).trainPort p

/-- A port enters UP: latency is measured (R280), a break of its own is cleared, KIND 2 is sent on a return (R277),
and frames held for it, or at the other port while neither was UP, start (R278). -/
def State.enterUp (s : State) (p : Port) : State :=
  let again := (s.port p).everUp
  let s := s.modPort p (fun x => { x with
    st := 2, everUp := true, pings := 0, pingSent := 0, pingN := 0, pingSum := 0, pingOut := [], lat := 0
    lastStart := s.now, ackAt := s.now })
  let link := s.ownLink p
  let s := s.modLoop (fun l => match p with
    | .a => if l.brkDown = link then { l with brkDown := 0 } else l
    | .b => if l.brkUp = link then { l with brkUp := 0 } else l)
  let s := if again then s.linkEvent p 2 else s
  let q := otherPort p
  let s := if (s.port q).st = 2 then s
    else
      let own := (s.port q).queue.filter (fun t => t.own)
      (s.modPort q (fun x => { x with queue := x.queue.filter (fun t => !t.own) })).modPort p (fun x => { x with
        queue := x.queue ++ own.map (fun t => t.turned p) })
  s.serve p

/-! ### Resets of the host and NVM domains (R323, R342, R394, R459) -/

/-- RESET_RINGS (R342): every count 0, held completions discarded, ring-related error bits cleared, entries placed but
not retired taken as not placed, so that each PLACED figure falls to the RETIRED figure. -/
def State.resetRings (s : State) : State :=
  let owned := (s.host.res.toList.map (fun r => r.entries)).flatten
  let s := s.modRes (fun r => { r with slots := r.slots.map (fun e => (e.1, { e.2 with
    placed := e.2.placed && !(owned.contains (.own e.2.record.seq)) })) })
  let s := s.modLoop (fun l => { l with
    placed := l.placed.filter (fun e => !(owned.contains (.other e.1 e.2)))
    marks := l.marks.map (fun e => (e.1, e.2.2, e.2.2)) })
  s.modHost (fun h => { h with
    cmdTail := 0, cmdHead := 0
    cpl := { h.cpl with prod := 0, cons := 0, entries := [], unsignalled := 0 }
    res := h.res.map (fun r => { r with prod := 0, cons := 0, entries := [], unsignalled := 0 })
    heldCpl := []
    ringsReset := true
    err := h.err &&& ~~~(0x01E : BitVec 10) })

/-- Error bits of HOST_ERR are set: an interrupt on ERR_VEC and the fault HOST_ERROR (R345, R352, R385). -/
def State.hostErr (s : State) (bits : BitVec 10) : State :=
  let s := s.modHost (fun h => { h with err := h.err ||| bits })
  (s.msix (s.fld Fld.hostMsixMapErrVec)).raise .hostError none none (s.host.err.setWidth 32) 0 0

/-- Offsets of the HOST block (R490). -/
def hostBlock (off : Nat) : Bool := decide (0x1000 ≤ off) && decide (off < 0x1800)

/-- A reset of the HOST domain (R323, R477): EN 0, rings reset, commands outstanding forgotten, RESET_SEEN set;
HOST_ERR is otherwise retained (log 18). -/
def State.hostDomainReset (s : State) : State :=
  let err := s.host.err
  let s := s.resetRings
  let s := s.setRegs (s.regs.filter (fun e => !hostBlock e.1))
  let s := s.modHost (fun h => { h with
    st := 0, outstanding := [], closed := [], waiting := [], sentBcast := [], heldReads := [], cmdSize := 0
    cpl := { h.cpl with size := 0 }
    res := h.res.map (fun r => { r with size := 0 })
    err := err })
  if s.isHead then s.hostErr 0x040 else s

/-- Writes in progress are abandoned (R459): the command whose write it was is answered, the page or range may hold
arbitrary bits, and nothing else of the jobs is written; an update whose BEGIN did not complete has not begun. -/
def State.abandonWrites (s : State) (st : Option Status) : State :=
  let jobs := s.nvm.jobs
  let s := match jobs with
    | j :: _ =>
      match j.ops with
      | op :: _ =>
        let (v, s) := s.freeBits
        s.modNvm (fun n => { n with flash := op.cut n.flash v })
      | [] => s
    | [] => s
  let s := each jobs (fun s j =>
    let origin := match j.fin with
      | .store _ o _ | .eraseSlot _ o | .fwBegin _ o | .fwChunk _ o | .fwActivate _ o | .configSet _ _ o
      | .answer o _ _ _ => some o
      | .record | .repair _ _ | .repairScratch _ _ => none
    let op := match j.fin with
      | .store _ _ _ => 0x21
      | .eraseSlot _ _ => 0x22
      | .answer _ n _ _ => n
      | _ => 0xA0
    match origin, st with
    | some o, some x => s.replyLate o op (Result.of x)
    | _, _ => s) s
  s.modNvm (fun n => Nvm.settle { (jobs.foldl Nvm.failBegin n) with
    jobs := [], lastStatus := if jobs.isEmpty then n.lastStatus else st.getD n.lastStatus, slotWriting := 0 })

end Sys2Proof.Machine
end

