-- ==== Sys2Proof/Machine/Bist.lean ====
section
/-!
DEFINITION. Blotter slices (chapter 14): lengths and groups, starting, aborting and judging one, safe states, and the
queue of the full test, a BIST_RUN, a release or a rerun.
-/

namespace Sys2Proof.Machine

/-! ### The slice table (R414) -/

/-- Planned length in µs. -/
def slicePlanned (n : Nat) : Nat :=
  if n < 16 then 18 else if n < 32 then 10 else if n < 40 then 8
  else match n with
    | 40 => 12
    | 41 => 32
    | 42 => 32
    | 43 => 50
    | 44 => 50
    | 45 => 50
    | 46 => 50
    | 47 => 25
    | 48 => 16
    | 49 => 16
    | 50 => 20
    | 51 => 12
    | 52 => 25
    | 53 => 20
    | 54 => 20
    | 55 => 32
    | 56 => 40
    | 61 => 16
    | 62 => 16
    | 63 => 12
    | _ => 25

/-- Declared maximum in µs. -/
def sliceMax (n : Nat) : Nat :=
  if n < 16 then 20 else if n < 32 then 12 else if n < 40 then 10
  else match n with
    | 40 => 15
    | 41 => 40
    | 42 => 40
    | 43 => 60
    | 44 => 60
    | 45 => 60
    | 46 => 60
    | 47 => 30
    | 48 => 20
    | 49 => 20
    | 50 => 25
    | 51 => 15
    | 52 => 30
    | 53 => 25
    | 54 => 25
    | 55 => 40
    | 56 => 50
    | 61 => 20
    | 62 => 20
    | 63 => 15
    | _ => 30

/-- The segment of a segment slice. -/
def sliceSeg (n : Nat) : Option Seg := if n < 32 then some (seg (n % 16)) else none

/-- Fault source of a slice's group (R420). -/
def sliceSrc (n : Nat) : Src :=
  if n < 32 then .sliceSegment else if n < 41 then .sliceSpc else if n < 53 then .sliceHub else .sliceOther

/-- A slice of the round (R436). -/
def State.sliceEnabled (s : State) (n : Nat) : Bool :=
  if n < 32 then (s.fld Fld.bistSliceEnable0En).testBit n
  else if n < 41 then (s.fld Fld.bistSliceEnable1En3240).testBit (n - 32)
  else if n < 43 || n = 51 then true
  else if n < 51 then (s.fld Fld.bistSliceEnable1En4350).testBit (n - 43)
  else (s.fld Fld.bistSliceEnable1En5263).testBit (n - 52)

def State.enabledSlices (s : State) : List Slice := allSlices.filter (fun n => s.sliceEnabled n.val)
def State.failedSlices (s : State) : List Slice := allSlices.filter (fun n => s.sliceFailed n.val)

/-! ### Starting (R417) -/

/-- A measurement slice would meet a CAPTURE or VERIFY window of its segment. -/
def State.windowNear (s : State) (g : Seg) (len : Nat) : Bool :=
  s.inRun && (imgWindows s.active).any (fun w =>
    let a := if w.kind = 3 then 1000 * (ownPair s.active w.cell w.start).1 else 1000 * w.start + 4000
    let d := if w.kind = 3 then 32000 else 1000 * w.len
    let meets (c : Nat) : Bool := decide (c + a < s.now + len + 4000) && decide (s.now + 4000 < c + a + d)
    (w.kind == 2 || w.kind == 3) && w.cell / 16 == g.val && (meets s.play.cycleStart || meets (s.play.cycleStart + s.tCyc)))

/-- The conditions of R417 let a slice start now. -/
def State.canStartSlice (s : State) (n : Nat) : Bool :=
  let len := 1000 * sliceMax n
  let past (t : Nat) : Bool := decide (s.now ≤ t) && decide (t ≤ s.now + len)
  !(s.acc.st == .prepared && past s.acc.t) &&
    !(match s.results.sweepAt with
      | some t => past t
      | none => false) &&
    !(s.play.st == .wait && past s.play.ts) &&
    (match sliceSeg n with
      | some g => s.linkUp g && !(decide (n < 16) && s.windowNear g len)
      | none => true) &&
    !(decide (32 ≤ n) && decide (n ≤ 40) && s.spc.toggle.isSome)

/-- A slice starts. -/
def State.startSlice (s : State) (n : Slice) (kind : BistMode) : State :=
  s.modBist (fun b => { b with
    running := some (n, s.now), runKind := kind, current := n.val, lastStart := s.now, waitFrom := s.now
    relFrom := s.now })

/-- The next slice that can start, starts: reruns first, then the queue, then those of a release; the others wait, and
all wait in DOZE (R218, R421 to R423, R515). -/
def State.nextSlice (s : State) : State :=
  if s.bist.running.isSome || (s.st == .ready && s.pwr.st == .doze) then s
  else match s.bist.rerunQueue.find? (fun n => s.canStartSlice n.val) with
  | some n => (s.modBist (fun b => { b with rerunQueue := b.rerunQueue.erase n })).startSlice n .rerun
  | none =>
    match s.bist.queue.find? (fun n => s.canStartSlice n.val) with
    | some n => (s.modBist (fun b => { b with queue := b.queue.erase n })).startSlice n s.bist.mode
    | none =>
      match s.bist.relQueue.find? (fun n => s.canStartSlice n.val) with
      | some n => (s.modBist (fun b => { b with relQueue := b.relQueue.erase n })).startSlice n .release
      | none => s

/-! ### Outcomes (R415, R419, R420) -/

def State.setSlice (s : State) (n : Slice) (f : SliceSt → SliceSt) : State :=
  s.modBist (fun b => { b with slices := b.slices.modify n f })

/-- The shunt of a measurement slice 0 or 15 is out of use, or returns (R168, R420). -/
def State.bistShunt (s : State) (n : Nat) (off : Bool) : State :=
  if n = 0 then s.modShunts (fun m => { m with bistB := off })
  else if n = 15 then s.modShunts (fun m => { m with bistT := off })
  else s

/-- Host port in ERROR (R326). -/
def State.hostError (s : State) : State := s.modHost (fun h => { h with st := 2, ringsReset := false })

/-- Safe state of a failed slice (R420). HALT of the SPC and hub core groups comes with the fault's class. -/
def State.safeState (s : State) (n : Nat) : State :=
  match sliceSeg n with
  | some g => (s.parkSegment g 11).bistShunt n true
  | none =>
    if n = 53 then s.restartPort .a
    else if n = 54 then s.restartPort .b
    else if n = 55 then s.hostError
    else if n = 63 then s.modSpc (fun x => { x with link := 0, trainCount := 0 })
    else s

/-- A slice has ended or is preempted: its block returns to service, and requests to a segment that waited are served
(R418, R419). -/
def State.freeBlock (s : State) (n : Slice) : State :=
  let s := s.modBist (fun b => { b with running := none, ends := b.ends + 1 })
  match sliceSeg n.val with
  | some g =>
    let l := (s.links.get g).waits
    each l (fun s m => s.pushDown g m) (s.modLink g (fun x => { x with waits := [] }))
  | none => s

/-- A slice passes: its safe state is lifted (R420). -/
def State.passSlice (s : State) (n : Slice) : State :=
  let s := s.setSlice n (fun _ => ⟨.passed, false, some s.now⟩)
  let s := s.bistShunt n.val false
  let s := if n.val < 16 then
      each (cellsOf (seg n.val)) (fun s k => s.modMeas k (fun m => { m with slicePassed := m.slicePassed || m.served })) s
    else s
  if n.val = 63 ∧ s.flag Fld.stepCtrlPinsEn then
    s.modSpc (fun x => { x with link := if x.link = 0 then 1 else x.link })
  else s

/-- A slice fails: its source is raised and its block goes to its safe state (R420). -/
def State.failSlice (s : State) (n : Slice) (hung : Bool) : State :=
  let s := s.setSlice n (fun x => { x with result := .failed, failed := true })
  let s := s.modBist (fun b => { b with
    lastFail := n.val, lastFailValid := true, lastFailOver := hung,
    lastFailSig := Config.sliceSignature n.val b.ends })
  let s := s.safeState n.val
  s.raise (sliceSrc n.val) (sliceSeg n.val) none (word n.val) 0 0

/-- BIST_RUN completes (R423). -/
def State.finishBistRun (s : State) : State :=
  match s.bist.cmdOrigin with
  | none => s
  | some o =>
    let b := s.bist
    let st : Status := if 0 < b.cmdFailed then .checkFail else if 0 < b.cmdAborted then .aborted else .ok
    let v := b.cmdFirst.getD 0xFF + b.cmdPassed % 256 * 2 ^ 8 + b.cmdFailed % 256 * 2 ^ 16 + b.cmdAborted % 256 * 2 ^ 24
    (s.modBist (fun b => { b with cmdOrigin := none, cmdAll := false, mode := .idle })).replyLate o 0x70 (Result.val st v)

/-- The queue of a BIST_RUN has run out: the slow round follows, or the command completes. -/
def State.endOfQueue (s : State) : State :=
  if s.bist.mode == .command && s.bist.queue.isEmpty && s.bist.running.isNone then
    if s.bist.cmdAll then s.modBist (fun b => { b with slowDue := true }) else s.finishBistRun
  else s

/-- The running slice is preempted (R419); in the full test, a BIST_RUN or a release it is rerun at once, up to 3 times
(R422, R423, R515), and after that stays aborted, which in the full test counts as failed. -/
def State.abortSlice (s : State) : State :=
  match s.bist.running with
  | none => s
  | some (n, _) =>
    let s := (s.freeBlock n).setSlice n (fun x => { x with result := .aborted })
    let s := s.modBist (fun b => { b with abortCount := satAdd 0xFFFF b.abortCount 1, lastAbort := n.val })
    let k := s.bist.runKind
    if k == .periodic || k == .idle then s.modBist (fun b => { b with abortedLast := some n })
    else if k == .rerun then s.modBist (fun b => { b with rerunQueue := n :: b.rerunQueue })
    else if s.bist.reruns < 3 then
      (s.modBist (fun b => { b with
        queue := if k == .release then b.queue else n :: b.queue
        relQueue := if k == .release then n :: b.relQueue else b.relQueue
        reruns := b.reruns + 1 })).nextSlice
    else
      let s := s.modBist (fun b => { b with
        reruns := 0, cmdAborted := if k == .command then b.cmdAborted + 1 else b.cmdAborted })
      (if k == .full then s.failSlice n false else s).nextSlice.endOfQueue

/-- The running slice is aborted if it tests a segment (R419). -/
def State.abortSegSlice (s : State) (g : Seg) : State :=
  match s.bist.running with
  | some (n, _) => if sliceSeg n.val = some g then s.abortSlice else s
  | none => s

/-- The running slice is aborted if it tests a block that is reset (R419, R394). -/
def State.abortBlockSlice (s : State) (block : Nat) (unit : Nat) : State :=
  match s.bist.running with
  | some (n, _) =>
    let hit := (block == 7 && n.val == 53 + unit) || (block == 8 && n.val == 55) || (block == 0x0E && n.val == 56) ||
      (block == 0x0C && n.val == 57 + unit)
    if hit then s.abortSlice else s
  | none => s

/-! ### The status of a check context (R425, R440) -/

def chkStateCode : ChkState → Nat
  | .idle => 0
  | .running => 1
  | .done => 2
  | .aborted => 3
  | .waiting => 4

/-- A context is reserved for firmware: context 3, and context 2 while slice 60 stands failed. -/
def State.chkLocked (s : State) (c : Fin 4) : Bool := c.val == 3 || (c.val == 2 && s.sliceFailed 60)

/-- The slice of a context is running, so that a scan waits (R418). -/
def State.chkUnderTest (s : State) (c : Fin 4) : Bool :=
  match s.bist.running with
  | some (n, _) => n.val == 57 + c.val
  | none => false

/-- CHK_STATUS; a scan that waited is RUNNING once the slice has ended. -/
def State.chkStatus (s : State) (c : Fin 4) : Word :=
  let x := s.chk.get c
  let st := if x.st == .waiting && !s.chkUnderTest c then ChkState.running else x.st
  BitVec.ofNat 32 (chkStateCode st + statusCode x.status * 2 ^ 8 + (if s.chkLocked c then 2 ^ 16 else 0))

end Sys2Proof.Machine
end

