-- ==== Sys2Proof/Machine/Flags.lean ====
section
/-!
DEFINITION. The fault collector (chapter 13): sticky bits, counters, the sillage log's intake, the first-fault record,
the effect of a class, the reactions; and the halt path with what leaving RUN brings (R23, R74, R93, R387).
-/

namespace Sys2Proof.Machine

/-! ### Held sources (R386) -/

/-- A shunt is out of use for a reason other than USE (R168). Its segment is 0 or 15. -/
def State.shuntLost (s : State) (top : Bool) : Bool :=
  let g : Seg := if top then 15 else 0
  !s.linkUp g || (cellsOf g).all (fun k => (s.cells.get k).st == .keep) ||
    (if top then s.shunts.bistT else s.shunts.bistB)

/-- Neither a blotter slice, nor R169, nor USE puts a shunt out of use (R168). -/
def State.shuntChosen (s : State) (top : Bool) : Bool :=
  !(if top then s.shunts.bistT else s.shunts.bistB) && !(if top then s.shunts.exclT else s.shunts.exclB) &&
    s.fld Fld.measShuntCfgUse != (if top then 1 else 2)

/-- A shunt is in use (R168). -/
def State.shuntInUse (s : State) (top : Bool) : Bool := !s.shuntLost top && s.shuntChosen top

/-- A shunt is in use for a slot (R168): a mean that reached the hub before its link entered LOST still serves. -/
def State.shuntServes (s : State) (top arrived : Bool) : Bool :=
  s.shuntInUse top || (arrived && (s.links.get (if top then 15 else 0)).st == .lost && s.shuntChosen top)

/-- A source is held (R386). -/
def State.heldSource (s : State) (x : Src) : Bool :=
  let units := (s.flt.units.filter (fun e => e.1 == x)).map Prod.snd
  match x with
  | .phFlt => !s.pins.phFltN
  | .stepLinkLost => s.spc.link != 2 && s.flag Fld.stepCtrlSource
  | .noShunt => !s.shuntInUse false && !s.shuntInUse true
  | .linkLost => units.any (fun g => !s.linkUp (seg g))
  | .portDown => units.any (fun p => (s.port (if p = 0 then .a else .b)).st != 2)
  | .orphan => s.st == .orphan
  | .pcieLinkDown => !s.host.linkUp
  | .holdover => s.tu.st == 3
  | .accordSplit => s.acc.st == .split
  | .shutdown => true
  | .dieNoReading => units.any (fun d => (s.therm.dies.get (Fin.ofNat 17 d)).noReading)
  | .feedFault => units.any (fun g => !(s.segs.get (seg g)).feedOk && s.flag (Fld.segFeedCtrlFeedEn (seg g)))
  | .estop => !s.pins.estopN
  | _ => false

/-- The unit of an occurrence: its segment, port or die. -/
def reportUnit (r : Report) : Nat :=
  match r.seg with
  | some g => g.val
  | none => r.arg0.toNat

def State.isSticky (s : State) (x : Src) : Bool := s.flt.sticky.contains x

/-- Class of the latest occurrence of a source. -/
def State.classOf (s : State) (x : Src) : FaultClass := (find? s.flt.classes x).getD .notice

/-- An uncleared fault of class HALT or LATCHED (R23, R384). -/
def State.haltUncleared (s : State) : Bool :=
  s.flt.sticky.any (fun x => s.classOf x == .halt || s.classOf x == .latched)

/-! ### Clearing (R403) -/

/-- One sticky bit is cleared; an occurrence of this tick sets it again (R404). -/
def State.unstick (s : State) (x : Src) : State :=
  if s.flt.tickOf = s.now ∧ s.flt.tickSrcs.contains x then s
  else s.modFlt (fun f => { f with
    sticky := f.sticky.filter (fun y => y != x)
    units := f.units.filter (fun e => e.1 != x)
    awaited := f.awaited.filter (fun e => e.1 != x) })

/-- FAULT_CLEAR and FLT_CLEAR: the status, and the state with the bits cleared. -/
def State.clearFaults (s : State) (id : Nat) : Status × State :=
  if id = 0xFFFF then
    let gone := s.flt.sticky.filter (fun x => !s.heldSource x)
    let st : Status := if s.flt.sticky.all (fun x => !s.heldSource x) then .ok else .rejected
    (st, each gone (fun s x => s.unstick x) s)
  else match srcOfId id with
    | none => (.rejected, s)
    | some x => if s.heldSource x then (.rejected, s) else (.ok, s.unstick x)

/-- A clear of a source falls at this tick: it acts before an occurrence (R404). -/
def State.clearComing (s : State) (x : Src) : Bool :=
  let names (id : BitVec 16) : Bool := id == 0xFFFF || id.toNat == srcId x
  (s.st == .ready || s.st == .run || s.st == .halt || s.st == .orphan) && !s.heldSource x && s.coming (fun i => match i with
    | .faultClear _ id => names id
    | .fltClear w => names ((w.value &&& w.mask).setWidth 16)
    | _ => false)

/-! ### The park symbol (R247) -/

/-- The hub sends a park symbol on every link and repeats it for 8 frames; `orphan` is its cause. -/
def State.parkSymbol (s : State) (orphan : Bool) : State :=
  s.setLinks (s.links.map (fun l => { l with parkSym := some orphan, parkLeft := 8 }))

/-! ### Leaving RUN (R23, R74, R93, R152, R190) -/

/-- The cells no longer follow a schedule: no plan, walk or waiting edge, hold IDLE; no current sign stands, so INHIBIT
and TEMP end (R30). -/
def State.unplan (s : State) : State :=
  s.putCells (s.cells.map (fun c => { c with
      plan := [], walk := none, waiting := none, holdIdle := true, holdDone := false, holdInhibit := false,
      holdTemp := false, resume := false }))

/-- A step has begun and its records are still to come. -/
def State.stepBegun (s : State) : Bool :=
  match s.play.st with
  | .hold | .play | .exit | .stopping => !s.play.recorded
  | .empty | .armed | .wait | .halted => false

/-- A sweep that is scheduled and has not begun is dropped as RUN is left (log 20). -/
def State.dropSweep (s : State) : State :=
  (s.modRes (fun r => { r with sweepAt := none })).setSegs (s.segs.map (fun x => { x with sweepCells := 0 }))

/-- RUN is left by HALT, ORPHAN or SHUTDOWN_LATCHED: the records of the step in progress, the player in HALTED, a STOP
in progress ABORTED. -/
def State.leaveRun (s : State) : State :=
  let s := if s.stepBegun then (s.endStep s.now 4 true).clearStep else s
  let s := s.unplan.askRestart
  let s := match s.stopOrigin with
    | some o => s.replyLate o 0x51 (Result.of .aborted)
    | none => s
  let s := (s.setStop none).dropSweep
  s.modPlay (fun p => { p with
    st := .halted, pending := none, stepId := 0xFFFF, inExit := false,
    exitOver := false, zeroAcked := false, h := none })

/-! ### Leaving DRYDOWN (R220, R221, R232) -/

/-- Hub domains that ACTIVE has on: HOST on heads only (R216). -/
def State.allDomains (s : State) : BitVec 8 := if s.isHead then 0xFF else 0xDF

/-- The exit from DRYDOWN begins at a segment: a patrol in progress is abandoned, its converters are on, afresh where
they were off, and its link trains (R220, R221, R252). Its sequencer takes the cells back once the link is up. -/
def State.segRouse (s : State) (g : Seg) : State :=
  let was := (s.segs.get g).smeas
  let on := (s.segs.get g).st != .unpowered
  let s := s.modSeg g (fun x => { x with
    windowAt := none, suspect := none, suspects := [], confirming := false, patrolAt := none, counted := []
    smeas := on })
  let s := each (cellsOf g) (fun s k =>
    s.modMeas k (fun m => { (if was then m else m.fresh) with lastCheck := s.now, noCheckRaised := false })) s
  let isReport (m : UpMsg) : Bool := match m with
    | .report _ _ _ => true
    | _ => false
  let s := s.modLink g (fun l => { l with up := { l.up with queued := l.up.queued.filter (fun m => !isReport m) } })
  match (s.links.get g).st with
  | .patrol | .down => s.trainLink g
  | .training | .up | .single | .lost => s

/-- The fault of one counted anomaly, which occurs at a tick of its own (R226, R232, R397). -/
def State.raiseAnomaly (s : State) (at_ : Nat) (g : Seg) (a : Anomaly) : State :=
  let k := cellOf g a.cell
  let put (x : Src) (c : Option Cell) (w : Word) : State := s.report ⟨x, at_, some g, c, w, 0, 0⟩ 0
  match a.kind with
  | 1 => put .ocvLow (some k) a.arg
  | 2 => put .ocvHigh (some k) a.arg
  | 3 => put .kvalOver (some k) a.arg
  | 4 => put .patrolContact (some k) 0
  | 5 => put .patrolTemp (some k) a.arg
  | _ => put .segLost none 0

/-- DRYDOWN has been left: domains on, segments and links back, KVAL records, one fault for each counted anomaly. The
caller enters the new module state first. -/
def State.drydownLeft (s : State) : State :=
  let s := if s.pwr.exitFrom.isSome then s else each allSegs (fun s g => s.segRouse g) s
  let s := s.modPwr (fun p => { p with st := .active, hubOn := s.allDomains, hubRet := 0, exitFrom := none, reported := 0 })
  let s := s.kvalAll
  let found := s.pwr.anomalies
  let s := each found.zipIdx (fun s e => s.raiseAnomaly (s.now + 4 * e.2) e.1.1 e.1.2) s
  s.modPwr (fun p => { p with anomalies := [] })

/-! ### The halt path (R23, R25, R387) -/

/-- WAKE commands that wait for READY are answered (R219). -/
def State.answerWakes (s : State) (st : Status) : State :=
  let l := s.pwr.wakeOrigins
  each l (fun s o => s.replyLate o 0x81 (Result.of st)) (s.modPwr (fun p => { p with wakeOrigins := [] }))

/-- The power state of a module state other than READY, DRYDOWN and DORMANT (R216, R221). READY is not reached: a WAKE
that waits for it is ABORTED. -/
def State.powerActive (s : State) : State :=
  let s := s.answerWakes .aborted
  s.modPwr (fun p => { p with
    st := .active, changing := false, going := none, exitFrom := none, hubOn := s.allDomains, hubRet := 0 })

/-- Enabled loop ports that are still DOWN start to train (R263, R447 step 8). -/
def State.trainPorts (s : State) : State :=
  each ([.a, .b] : List Port) (fun s p =>
    if (s.port p).st == 0 && s.portEnabled p then s.trainPort p else s) s

/-- STARTUP_TEST is left: what the test still had to run is not run, and the loop ports train (R422, R447; log 27). -/
def State.endTest (s : State) : State :=
  if s.st == .startupTest then
    (s.modBist (fun b => { b with queue := [], mode := .idle, runKind := .idle })).trainPorts
  else s

/-- The module enters HALT, or SHUTDOWN_LATCHED: stage disabled, park symbol sent. The cause HALT ends as HALT is left
(R111); OPEN is left with READY or STARTUP_TEST other than to HALT (R32). -/
def State.haltTo (s : State) (m : ModState) (cause : Nat) : State :=
  let old := s.st
  let s := (s.inhibit cause).stageOff
  let s := if m == .halt then s else
    let s := s.endInhibit inhHalt
    if old == .ready || old == .startupTest then s.leaveOpenAll else s
  let s := if old == .run then s.leaveRun else s
  let s := s.endTest.abortSlice.modBist (fun b => { b with rerunQueue := [] })
  let s := s.enter m
  let s := if old == .drydown then s.drydownLeft else s
  s.powerActive.parkSymbol false

/-- The event "HALT command, fault of class HALT, or ESTOP_N low" of R23; in BOOT it is held (R384). -/
def State.haltNow (s : State) : State :=
  match s.st with
  | .ready | .run | .drydown | .orphan | .startupTest => s.haltTo .halt inhHalt
  | .boot => s.modGlb (fun g => { g with heldHalt := true })
  | .off | .halt | .dormant | .shutdownLatched => s

/-- A rolled-back accord: staged writes discarded in the hub and in the segments, SWAP_STAGED clear (R310). -/
def State.rollBack (s : State) (st : AccState) : State :=
  let touched (g : Seg) : Bool := s.acc.staged.any (fun w => decide (w.off / 0x400 = 0x20 + g.val))
  let s := each (allSegs.filter touched) (fun s g => s.sendDown g (.cmd .dropAccord)) s
  (s.modAcc (fun a => { a with st := st, staged := [] })).modPlay (fun p => { p with swapStaged := false })

/-- The accord as the module enters SHUTDOWN_LATCHED (R310). -/
def State.accordShutdown (s : State) : State :=
  match s.acc.st with
  | .isOpen => s.rollBack .rolledBack
  | .prepared => (s.rollBack .split).raise .accordSplit none none (word s.acc.id) 0 0
  | .idle | .committed | .rolledBack | .split => s

/-- A FLACON_VERIFY in progress ends ABORTED as its bank is emptied or the module latches. -/
def State.abortVerify (s : State) : State :=
  match s.play.verify with
  | none => s
  | some v => (s.modPlay (fun p => { p with verify := none })).replyLate v.origin 0x21 (Result.of .aborted)

/-- The 150 °C event (R369, R310, R459). -/
def State.shutdownNow (s : State) (sensor : Nat) (temp : Int) : State :=
  match s.st with
  | .off | .dormant | .shutdownLatched => s
  | .boot | .startupTest | .ready | .run | .halt | .orphan | .drydown =>
    let s := s.haltTo .shutdownLatched inhLatched
    let s := s.abandonWrites (some .tempInhibit)
    let s := s.modTherm (fun t => { t with latched := true, tripSource := sensor, tripTemp := temp })
    let s := s.modGlb (fun g => { g with heldHalt := false, resetAt := none })
    let s := s.accordShutdown.abortVerify
    s.raise .shutdown none none (word sensor) (wordI temp) 0

/-- A reset of code 1 to 4 is requested: the actions of the halt path now, the reset 20 µs later (R446). Ignored in
SHUTDOWN_LATCHED (R23); an earlier request stands. -/
def State.requestReset (s : State) (code : Nat) : State :=
  match s.st with
  | .off | .dormant | .shutdownLatched => s
  | .boot | .startupTest | .ready | .run | .halt | .orphan | .drydown =>
    match s.glb.resetAt with
    | some _ => s
    | none => (s.abortSlice.stageOff.parkSymbol false).modGlb (fun g => { g with resetAt := some (s.now + 20000, code) })

/-- Sources whose HALT in STARTUP_TEST waits for the end of the test (R384). -/
def srcHeldInTest (x : Src) : Bool :=
  x == .sliceSegment || x == .sliceSpc || x == .sliceHub || x == .sliceOther || x == .housekeeping

/-- Effect of a class on the module's state (R384). In ORPHAN only ESTOP leads to HALT (log 19). -/
def State.classEffect (s : State) (x : Src) (c : FaultClass) : State :=
  match c with
  | .notice | .degraded | .latched => s
  | .halt =>
    if s.st == .startupTest && srcHeldInTest x then s.modGlb (fun g => { g with heldHalt := true })
    else if s.st == .orphan && x != .estop then s
    else s.haltNow

/-! ### Reactions (R391 to R396) -/

/-- IRQ: the fast copy, and the stored copy (R392). -/
def State.irqReaction (s : State) (r : Sillage) : State :=
  let b := sillageBytes r
  let s := if s.isHead then
      (s.notice 6 s.loop.position [] [] b).msix (s.fld Fld.hostMsixMapFaultVec)
    else s.toHead 5 false 0 (leBytes 2 s.loop.position ++ leBytes 1 0 ++ leBytes 1 0 ++ zeros 4 ++ b)
  if s.flag Fld.fltCtrlEvtRec then s.eventRecord r else s

/-- A block reset is recorded (R485), and a slice that tests the block is aborted. -/
def State.noteBlockReset (s : State) (block unit : Nat) : State :=
  (s.modGlb (fun g => { g with brBlock := block, brUnit := unit, brCount := satAdd 0xFFFF g.brCount 1 })).abortBlockSlice
    block unit

/-- The check unit context that firmware uses (R425). -/
def State.firmwareContext (s : State) : Fin 4 := if s.sliceFailed 60 then 2 else 3

/-- A scan in progress ends ABORTED; its running value is then undefined, 320 free bits (R429). -/
def State.abortScan (s : State) (c : Fin 4) : State :=
  let x := s.chk.get c
  if x.st == .running || x.st == .waiting then
    let (v, s) := s.freeBits
    let (ws, s) := (List.range 4).foldl (fun (t : List (BitVec 64) × State) _ =>
      let (w, s) := t.2.freeBits
      (w :: t.1, s)) ([], s)
    let words : List Word := ws.flatMap (fun (w : BitVec 64) => [w.setWidth 32, (w >>> 32).setWidth 32])
    let s := s.modChk c (fun x => { x with
      st := .aborted, status := .aborted, origin := none, runLo := v.setWidth 32, runHi := (v >>> 32).setWidth 32
      digest := x.digest.mapIdx (fun i _ => words.getD i 0) })
    match x.origin with
    | some o => s.replyLate o 0x71 (Result.val .aborted (s.chkStatus c).toNat)
    | none => s
  else s

/-- A check context returns to idle (R394); a scan in progress ends ABORTED. -/
def State.idleContext (s : State) (c : Fin 4) : State :=
  let x := s.chk.get c
  if x.st == .running || x.st == .waiting then s.abortScan c else s.modChk c (fun x => { x with st := .idle })

/-- BLOCK_RESET (R394). -/
def State.blockReaction (s : State) (r : Report) : State :=
  let block := srcId r.src / 256
  if srcOfSegment r.src then
    match r.seg with
    | some g => (s.noteBlockReset block g.val).segResetAsked g
    | none => s
  else if block = 6 then
    match r.seg with
    | some g => (s.noteBlockReset block g.val).retrainLink g
    | none => s
  else if block = 7 then
    if r.src == .portDown || r.src == .positionMismatch then
      (s.noteBlockReset block r.arg0.toNat).retrainPort (if r.arg0 = 0 then .a else .b)
    else s
  else if block = 8 then (s.noteBlockReset block 0xFF).hostDomainReset
  else if block = 0x0C then
    (s.noteBlockReset block s.firmwareContext.val).idleContext s.firmwareContext
  else if block = 0x0E then (s.noteBlockReset block 0xFF).abandonWrites (some .aborted)
  else s

/-! ### Entry (R397 to R401) -/

/-- Insertion by TIME, then ID (R399). -/
def intakeInsert (r : Sillage) : List Sillage → List Sillage
  | [] => [r]
  | a :: t =>
    if r.time < a.time ∨ (r.time = a.time ∧ srcId r.src < srcId a.src) then r :: a :: t else a :: intakeInsert r t

/-- The record enters the intake, or finds it full. Tells whether it was dropped. -/
def State.toIntake (s : State) (r : Sillage) : State × Bool :=
  if s.flt.intake.length < 16 then
    (s.modFlt (fun f => { f with intake := intakeInsert r f.intake }), false)
  else (s.modFlt (fun f => { f with intakeFull := satAdd 0xFFFF f.intakeFull 1, afterDrop := true }), true)

/-- SEQ that a record of the intake takes if all before it move (R400); the record's place is where it was put. -/
def State.seqAhead (s : State) (r : Sillage) : Nat :=
  (s.flt.nextSeq + (s.flt.intake.takeWhile (fun a => a != r)).length) % 65536

/-- SEQ that a record takes, 0xFFFF if it is dropped (R400). -/
def State.withSeq (s : State) (r : Sillage) (dropped : Bool) : Sillage :=
  { r with seq := if dropped then 0xFFFF else s.seqAhead r }

/-- At one tick the higher class is captured, then the lower ID (R400). -/
def outranks (r a : Sillage) : Bool :=
  decide (classCode a.cls < classCode r.cls) || (decide (classCode a.cls = classCode r.cls) && decide (srcId r.src < srcId a.src))

/-- First-fault capture (R400): `r` has its SEQ. The best of the tick is kept for a FIRST_REARM of the same tick (R404). -/
def State.captureFirst (s : State) (r : Sillage) : State :=
  if classCode r.cls < s.fld Fld.fltCtrlFirstMinClass then s
  else
    let best := match s.flt.tickBest with
      | some (t, a) => if t = s.now ∧ !outranks r a then a else r
      | none => r
    let take := match s.flt.first with
      | none => true
      | some a => s.flt.firstAt == s.now && outranks r a
    s.modFlt (fun f => { f with
      tickBest := some (s.now, best), first := if take then some r else f.first, firstAt := if take then s.now else f.firstAt })

/-- The sillage record of an occurrence (R398). -/
def State.formRecord (s : State) (r : Report) (flags : BitVec 8) (c : FaultClass) (was : Bool) (count : Nat) : Sillage :=
  { src := r.src, cls := c, flags := flags ||| (if was then 2 else 0), count := count, seq := 0, time := r.time,
    state := stateCode s.st
    seg := match r.seg with
      | some g => g.val
      | none => 0xFF
    cell := match r.cell with
      | some k => k.val
      | none => 0xFFFF
    arg0 := r.arg0, arg1 := r.arg1, arg2 := r.arg2 }

/-- Sticky bit, counter and class of an occurrence (R397); several of one source at one tick count as one. -/
def State.markSticky (s : State) (x : Src) (c : FaultClass) (unit tick : Nat) : State :=
  s.modFlt (fun f => { f with
    sticky := if f.sticky.contains x then f.sticky else x :: f.sticky
    counts := assign f.counts x (satAdd 0xFFFF ((find? f.counts x).getD 0) 1)
    classes := assign f.classes x c
    units := if f.units.contains (x, unit) then f.units else (x, unit) :: f.units
    tickOf := tick
    tickSrcs := if f.tickOf = tick then x :: f.tickSrcs else [x] })

/-- The class in force for a source (R384). -/
def State.classNow (s : State) (x : Src) : FaultClass := srcClassIn s.inRun (s.st == .startupTest) x

/-- The record of an occurrence whose sticky bit is set: intake, first fault, journal, the reactions in order (R391,
R398 to R401). -/
def State.recordAndReact (s : State) (r : Report) (flags : BitVec 8) (c : FaultClass) (was : Bool) : State :=
  let x := r.src
  let rec_ := s.formRecord r flags c was ((find? s.flt.counts x).getD 0)
  let irq := s.reaction x Fld.fltReactionIrq
  let trap := s.reaction x Fld.fltReactionTrap
  let block := s.reaction x Fld.fltReactionBlockReset
  let module := s.reaction x Fld.fltReactionModuleReset
  let pin := s.reaction x Fld.fltReactionPin
  let formed := !(s.flag Fld.fltCtrlRepeatMode && was)
  let t := if formed then s.toIntake rec_ else (s, true)
  let rec_ := t.1.withSeq rec_ t.2
  let s := t.1.captureFirst rec_
  let grave := c == .halt || c == .latched
  let s := if grave || irq || trap || block || module || pin then s.abortSlice else s
  let s := if formed && (grave || trap) then s.journal 2 (sillageBytes rec_) else s
  let s := s.classEffect x c
  let s := if irq then s.irqReaction rec_ else s
  let s := match trap, s.flt.first with
    | true, some a => if s.flt.firstAt = s.now then s else s.journal 3 (sillageBytes a)
    | _, _ => s
  let s := if block && s.st != .shutdownLatched then s.blockReaction r else s
  if module then s.requestReset 3 else s

/-- The collector takes an occurrence (R397). -/
def State.enterFault (s : State) (r : Report) (flags : BitVec 8) : State :=
  let x := r.src
  let tick := Nat.max s.now r.time
  if s.flt.tickOf = tick ∧ s.flt.tickSrcs.contains x then
    s.modFlt (fun f => { f with
      sticky := if f.sticky.contains x then f.sticky else x :: f.sticky
      units := if f.units.contains (x, reportUnit r) then f.units else (x, reportUnit r) :: f.units })
  else
    let c := s.classNow x
    let s := if s.clearComing x then s.unstick x else s
    let was := s.isSticky x
    (s.markSticky x c (reportUnit r) tick).recordAndReact r flags c was

/-- Occurrences of the command in progress are entered in order; at most n. A first drop of a full episode is raised
last (R206). -/
def State.settleN : Nat → State → State
  | 0, s => s
  | n + 1, s =>
    match s.flt.due with
    | (r, fl) :: t => State.settleN n ((s.modFlt (fun f => { f with due := t })).enterFault r fl)
    | [] =>
      if s.results.dropDue then
        State.settleN n ((s.modRes (fun a => { a with dropDue := false })).raise .recordDrop none none
          (word s.results.drops) 0 0)
      else s

/-- A cell that plays a sweep and is held, parked or kept plays no further frequency (R200). -/
def State.reviewSweeps (s : State) : State :=
  if s.results.sweepOn then
    let cut (c : CellPath) : Bool := c.walk.isSome && (c.held || c.keepHold || (c.st != .isIn && c.st != .bypass) ||
      c.causes != 0 || (match c.tr with
        | some t => t.kind == .keeper
        | none => false))
    (each allCells (fun s k => if cut (s.cells.get k) then s.cutSweep k else s) s).endSweep
  else s

/-- A first-fault record captured by the command is journaled (R401). -/
def State.settle (s : State) : State :=
  let t := State.settleN 4096 s.reviewSweeps
  match t.flt.first with
  | some a => if t.flt.first = s.flt.first then t else t.journal 3 (sillageBytes a)
  | none => t

/-- The end of every command: what it raised is entered. -/
def State.done (s : State) : Host.Outcome State Fault Refusal := .next s.settle

end Sys2Proof.Machine
end

