-- ==== Sys2Proof/Machine/Faults.lean ====
section
/-!
DEFINITION. The commands and events of the fault collector (chapter 13) and of the pins that feed it.
-/

namespace Sys2Proof.Machine

/-! ### Registers of the collector (R406 to R413) -/

/-- One bit for a condition, at a place. -/
def bitAt (b : Bool) (n : Nat) : Nat := if b then 2 ^ n else 0

def State.fltSummary (s : State) : Word :=
  let f := s.flt
  let has (c : FaultClass) : Bool := f.sticky.any (fun x => s.classOf x == c)
  word (bitAt (has .notice) 0 + bitAt (has .degraded) 1 + bitAt (has .halt) 2 + bitAt (has .latched) 3 +
    bitAt s.faultLow 4 + Nat.min 255 f.sticky.length * 2 ^ 8 + statusCode f.lastClear * 2 ^ 16 + bitAt f.first.isSome 24)

def State.fltSillageStatus (s : State) : Word :=
  let f := s.flt
  word (f.log.length + bitAt (decide (64 ≤ f.log.length)) 7 + f.intake.length * 2 ^ 8 + f.nextSeq * 2 ^ 16)

def State.fltOverflow (s : State) : Word := word (s.flt.logFull + s.flt.intakeFull * 2 ^ 16)

/-- FLT_STICKY[i]: bit b stands for source 32i + b (R413). -/
def State.fltSticky (s : State) (i : Nat) : Word :=
  word (sumNat (s.flt.sticky.map (fun x => if srcNumber x / 32 = i then 2 ^ (srcNumber x % 32) else 0)))

def firstBytes (f : Option Sillage) : List Byte :=
  match f with
  | some r => sillageBytes r
  | none => zeros 32

/-! ### FAULT_READ (R402) -/

/-- Up to seven records of the log, oldest first. -/
def State.peekLog (s : State) : List Byte := ((s.flt.log.take 7).map sillageBytes).flatten

/-- Occurrence counter of source number n. -/
def State.counter (s : State) (n : Nat) : Nat :=
  match srcOfNumber n with
  | some x => (find? s.flt.counts x).getD 0
  | none => 0

def State.faultRead (s : State) (what from_ : Nat) : Result × State :=
  let no : Result × State := (Result.of .rejected, s)
  let yes (l : List Byte) (s : State) : Result × State := (⟨.ok, 0, l⟩, s)
  match what with
  | 0 => if from_ ≠ 0 then no else
    yes (leBytes 4 s.fltSummary.toNat ++ leBytes 4 s.fltSillageStatus.toNat ++ leBytes 4 s.fltOverflow.toNat ++ zeros 4 ++
      ((List.range 8).map (fun i => leBytes 4 (s.fltSticky i).toNat)).flatten) s
  | 1 => if from_ ≠ 0 then no else yes s.peekLog s
  | 2 =>
    let gone (r : Sillage) : Bool :=
      let d := (from_ + 65536 - r.seq) % 65536
      decide (1 ≤ d) && decide (d ≤ 64)
    let s := s.modFlt (fun f => { f with log := f.log.filter (fun r => !gone r) })
    yes s.peekLog s
  | 3 => if from_ ≠ 0 then no else yes (firstBytes s.flt.first) s
  | 4 => if 136 < from_ then no else
    yes (((List.range 120).map (fun i => leBytes 2 (s.counter (from_ + i)))).flatten) s
  | _ => no

/-! ### Events of the collector -/

/-- SEG_REPORT of FLAGS for an occurrence that the environment names (R398). -/
def entryFlags (x : Src) (g : Option Seg) : BitVec 8 :=
  if g.isSome && (x == .sramCorrected || x == .segSramUncorrectable) then 1 else 0

/-- FAULT_ENTRY (R397): the collector takes an occurrence of a source; an uncorrectable SRAM error within the range of a
scan ends it ABORTED (R429). -/
def execFaultEntry (x : Src) (g : Option Seg) (k : Option Cell) (a0 a1 a2 : Word) (s : State) :
    Host.Outcome State Fault Refusal :=
  let met (s : State) (c : Fin 4) : State :=
    let y := s.chk.get c
    if x == .sramUncorrectable && y.st == .running && decide (y.start ≤ a0.toNat) && decide (a0.toNat < y.start + y.length)
    then s.abortScan c else s
  ((each [0, 1, 2, 3] met s).report ⟨x, s.now, g, k, a0, a1, a2⟩ (entryFlags x g)).done

/-- Whether a stored record is the one that was captured as the first fault. -/
def sameRecord (a b : Sillage) : Bool := a.src == b.src && a.time == b.time && a.count == b.count

/-- The captured record takes the SEQ and FLAGS that its record took (R400). -/
def Flt.fixFirst (f : Flt) (r : Sillage) : Flt :=
  match f.first with
  | some a => if sameRecord a r then { f with first := some { a with seq := r.seq, flags := r.flags } } else f
  | none => f

/-- The record at the head of the intake is moved into the log, or dropped (R399). -/
def Flt.move (f : Flt) : Flt :=
  match f.intake with
  | [] => f
  | r :: t =>
    if f.log.length < 64 then
      let r := { r with seq := f.nextSeq, flags := r.flags ||| (if f.afterDrop then 4 else 0) }
      Flt.fixFirst { f with
        intake := t, log := f.log ++ [r], nextSeq := (f.nextSeq + 1) % 65536, afterDrop := false } r
    else
      Flt.fixFirst { f with intake := t, logFull := satAdd 0xFFFF f.logFull 1, afterDrop := true } { r with seq := 0xFFFF }

/-- INTAKE_MOVE (R399): at most one record every 200 ns. -/
def execIntakeMove (s : State) : Host.Outcome State Fault Refusal :=
  if s.flt.intake.isEmpty || decide (s.now < s.flt.intakeAt + 200) then s.done
  else (s.modFlt (fun f => { f.move with intakeAt := s.now })).done

/-! ### The halt path -/

/-- HALT_DECISION (R387): the hub resolves to enter HALT; in BOOT nothing is resolved. -/
def execHaltDecision (s : State) : Host.Outcome State Fault Refusal :=
  if s.st == .boot then s.done else s.haltNow.done

/-- The first report of class HALT that a segment's link still carries. -/
def State.pendingHalt (s : State) (g : Seg) : Option Report :=
  let d := (s.links.get g).up
  (d.sent.map Prod.snd ++ d.queued).findSome? (fun m =>
    match m with
    | .fault r _ => if srcClass r.src == .halt then some r else none
    | _ => none)

/-- HALT_REQUEST (R388): a hub hardware detection; the sticky bit is set now, the record follows from the message. -/
def execHaltRequest (g : Seg) (s : State) : Host.Outcome State Fault Refusal :=
  if s.linkUp g && (s.links.get g).haltReq && s.powered then
    let s := (s.modLink g (fun l => { l with haltReq := false })).abortSlice
    let s := match s.pendingHalt g with
      | some r =>
        let s := s.markSticky r.src .halt (reportUnit r) s.now
        s.modFlt (fun f => { f with awaited := (r.src, g) :: f.awaited })
      | none => s
    s.haltNow.done
  else s.done

/-- ESTOP_N_LOW (R389): 20 ns or less is ignored, 50 ns or more always acts, between them either. -/
def execEstopNLow (lowNs : Nat) (s : State) : Host.Outcome State Fault Refusal :=
  let (b, s') := if 20 < lowNs ∧ lowNs < 50 then s.freeBool else (decide (50 ≤ lowNs), s)
  let s := s'
  if b && s.powered then
    let s := s.setPins { s.pins with estopN := false }
    ((s.inhibit inhEstop).stageOff.raise .estop none none 0 0 0).done
  else s.done

/-- ESTOP_N_HIGH (R111, R386). -/
def execEstopNHigh (s : State) : Host.Outcome State Fault Refusal :=
  ((s.setPins { s.pins with estopN := true }).endInhibit inhEstop).done

/-- PH_FLT_N_LOW (R111, R387, R506): a low of 20 ns or less is ignored, one of 50 ns or more is taken. -/
def execPhFltNLow (lowNs : Nat) (s : State) : Host.Outcome State Fault Refusal :=
  let (b, s') := if 20 < lowNs ∧ lowNs < 50 then s.freeBool else (decide (50 ≤ lowNs), s)
  let s := s'
  if b && s.powered then
    let s := s.setPins { s.pins with phFltN := false }
    ((s.inhibit inhPhFlt).stageOff.raise .phFlt none none 0 0 0).done
  else s.done

/-- PH_FLT_N_HIGH (R111, R386). -/
def execPhFltNHigh (s : State) : Host.Outcome State Fault Refusal :=
  ((s.setPins { s.pins with phFltN := true }).endInhibit inhPhFlt).done

/-! ### Writes of the collector's registers (R403, R405, R407) -/

/-- A write to FLT_CLEAR; without effect in BOOT, STARTUP_TEST, SHUTDOWN_LATCHED and DRYDOWN (R403). -/
def State.wroteFltClear (s : State) (id : Nat) : State :=
  match s.st with
  | .ready | .run | .halt | .orphan =>
    let (st, s) := s.clearFaults id
    s.modFlt (fun f => { f with lastClear := st })
  | .off | .boot | .startupTest | .drydown | .dormant | .shutdownLatched => s

/-- The write-one bits of FLT_CTRL; an occurrence at the tick of FIRST_REARM is captured (R404). -/
def State.wroteFltCtrl (s : State) (v : Word) : State :=
  s.modFlt (fun f => { f with
    first := if fieldOf Fld.fltCtrlFirstRearm v = 1 then (match f.tickBest with
      | some (t, a) => if t = s.now then some a else none
      | none => none) else f.first
    logFull := if fieldOf Fld.fltCtrlOvfClear v = 1 then 0 else f.logFull
    intakeFull := if fieldOf Fld.fltCtrlOvfClear v = 1 then 0 else f.intakeFull
    counts := if fieldOf Fld.fltCtrlCountClear v = 1 then [] else f.counts })

end Sys2Proof.Machine
end

