-- ==== Sys2Proof/Machine/Thermal.lean ====
section
/-!
DEFINITION. Temperature and thermal protection (chapter 12). Temperatures are in 0.01 °C, NTC resistances in 0.1 Ω.
-/

namespace Sys2Proof.Machine

/-! ### Holds of R30 that follow a setting or a temperature -/

/-- Sign of the set-point in force (R30, R367): 1, -1 or 0. -/
def State.setSign (s : State) : Int := if !s.inRun then 0 else if 0 < s.spc.target then 1 else if s.spc.target < 0 then -1 else 0

def State.excluded (s : State) (k : Cell) : Bool := s.cellFlag k Fld.segCellCfgExclude

/-- Hold INHIBIT is due (R30, R55). -/
def State.inhibitDue (s : State) (k : Cell) : Bool :=
  (decide (s.setSign = 1) && s.cellFlag k Fld.segCellCfgChgInhibit) ||
    (decide (s.setSign = -1) && s.cellFlag k Fld.segCellCfgDisInhibit)

/-- The effective range for a sign: lower and upper limit (R367). -/
def State.tempRange (s : State) (sign : Int) : Int × Int :=
  if sign = 1 then
    let lo := max 0 (100 * s.sfld Fld.thermCellWindowChgMin)
    let hi := min 6000 (100 * s.sfld Fld.thermCellWindowChgMax)
    if s.hasActive then (max lo (limTemp s.active 0), min hi (limTemp s.active 1)) else (lo, hi)
  else
    let lo := max (-2000) (100 * s.sfld Fld.thermCellWindowDisMin)
    let hi := min 6500 (100 * s.sfld Fld.thermCellWindowDisMax)
    if s.hasActive then (max lo (limTemp s.active 2), min hi (limTemp s.active 3)) else (lo, hi)

/-- Hold TEMP is due: it begins outside the range and ends 1.00 °C inside (R367); a cell not sampled yet counts as
outside (R514), and one without a temperature in use is parked instead. -/
def State.tempDue (s : State) (k : Cell) : Bool :=
  let t := s.temps.get k
  if s.setSign = 0 || s.excluded k then false
  else
    let (lo, hi) := s.tempRange s.setSign
    if hi < lo then true
    else match t.inUse with
      | none => !t.sampled
      | some x =>
        if (s.cells.get k).holdTemp then decide (x < lo + 100) || decide (hi - 100 < x)
        else decide (x < lo) || decide (hi < x)

/-- The holds INHIBIT, EXCLUDE and TEMP of a cell as their reasons stand (R30). -/
def State.reviewHolds (s : State) (k : Cell) : State :=
  let s := s.setHold k (s.inhibitDue k) (s.cells.get k).holdInhibit (fun b c => { c with holdInhibit := b })
  let s := s.setHold k (s.excluded k) (s.cells.get k).holdExclude (fun b c => { c with holdExclude := b })
  s.setHold k (s.tempDue k) (s.cells.get k).holdTemp (fun b c => { c with holdTemp := b })

/-- The holds of every cell as their reasons stand. -/
def State.reviewAll (s : State) : State := each allCells (fun s k => s.reviewHolds k) s

/-- What follows a change of the set-point in force, whose sign was `old`: INHIBIT and TEMP are judged anew where the
sign changes (R30). -/
def State.signFrom (s : State) (old : Int) : State := if s.setSign = old then s else s.reviewAll

/-! ### NTCs (R355 to R362, R514) -/

/-- Temperature of an NTC resistance with T_OFFSET (R355). -/
def State.ntcTemp (s : State) (k : Cell) (r : Nat) : Int :=
  let l := Config.lnRatio r
  divI (100 * 5963 * 3435 * 1000000000) (20 * 3435 * 1000000000 + 5963 * l) - 27315 +
    5 * signed 8 (s.cellFld k Fld.segNtcCfgTOffset)

/-- An electrical fault: below −30 °C or above +100 °C by the resistance alone (R356). -/
def ntcElectrical (r : Nat) : Bool := decide (1355000 < r) || decide (r < 9870)

/-- The neighbour pair of a cell (R360). -/
def ntcPair (k : Cell) : Cell × Cell :=
  if k.val = 0 then (cell 1, cell 2)
  else if k.val = 255 then (cell 253, cell 254)
  else (cell (k.val - 1), cell (k.val + 1))

/-- The cell's NTC is measured now: enabled, not excluded, its segment running with its link up (R357, R514). -/
def State.ntcMeasured (s : State) (k : Cell) : Bool :=
  s.cellFlag k Fld.segNtcCfgNtcEn && !s.excluded k

def State.ntcReachable (s : State) (k : Cell) : Bool :=
  s.linkUp (segOf k) && (s.segs.get (segOf k)).st == .running

/-- Readings of this sample: fresh where the segment is reached, held and stale otherwise; an electrical fault breaks
the NTC at once. -/
def State.ntcFresh (s : State) (rs : List Nat) (i : Nat) (t : CellTemp) : CellTemp :=
  let k := cell i
  if !s.ntcReachable k then { t with stale := true }
  else
    let t := { t with stale := false, sampled := true }
    if !s.ntcMeasured k then { t with reading := none }
    else
      let r := rs.getD i 0
      { t with reading := some (s.ntcTemp k r), broken := t.broken || ntcElectrical r,
               goods := if ntcElectrical r then 0 else t.goods }

/-- A cell whose temperature in use is its own fresh reading: valid as a neighbour and a reference (R360). -/
def State.ntcValid (s : State) (ts : Vec CellTemp 256) (k : Cell) : Bool :=
  let t := ts.get k
  s.ntcMeasured k && !t.broken && !t.stale && t.reading.isSome

/-- References of a cell: valid neighbours, and the segment's diode less SEG_DELTA (R360). -/
def State.ntcRefs (s : State) (ts : Vec CellTemp 256) (k : Cell) : List Int :=
  let p := ntcPair k
  let own (j : Cell) : List Int := if s.ntcValid ts j then (ts.get j).reading.toList else []
  let d := s.therm.dies.get (Fin.ofNat 17 (1 + (segOf k).val))
  own p.1 ++ own p.2 ++
    (if d.valid && !d.stale && !d.noReading then [d.temp - 10 * (s.fld Fld.thermXcheckCfgSegDelta : Int)] else [])

/-- The judgements of R360 and R362 on a fresh reading. -/
def State.ntcJudge (s : State) (ts : Vec CellTemp 256) (rs : List Nat) (i : Nat) (t : CellTemp) : CellTemp :=
  let k := cell i
  if !s.ntcMeasured k || t.stale then t
  else match t.reading with
    | none => t
    | some x =>
      let refs := s.ntcRefs ts k
      let two := decide (2 ≤ refs.length)
      let far := two && refs.all (fun r => decide (800 < (x - r).natAbs))
      let near := two && refs.all (fun r => decide ((x - r).natAbs ≤ 400)) && !ntcElectrical (rs.getD i 0)
      if t.broken then
        let g := if near then t.goods + 1 else 0
        if 100 ≤ g then { t with broken := false, goods := 0, misses := 0 } else { t with goods := g }
      else if s.flag Fld.thermCtrlNtcXcheckEn && far && decide (x ≤ 6000) then
        let m := t.misses + 1
        if s.fld Fld.thermXcheckCfgPersist ≤ m then { t with broken := true, misses := 0, goods := 0 }
        else { t with misses := m }
      else { t with misses := 0 }

/-- The temperature in use (R357, R361). -/
def State.ntcUse (s : State) (ts : Vec CellTemp 256) (i : Nat) (t : CellTemp) : CellTemp :=
  let k := cell i
  let none_ (t : CellTemp) : CellTemp :=
    { t with inUse := none, subst := false, usesLower := false, usesUpper := false,
             substEnd := if t.subst then some s.now else t.substEnd }
  if s.excluded k || !t.sampled then none_ t
  else if s.cellFlag k Fld.segNtcCfgNtcEn && !t.broken then { none_ t with inUse := t.reading }
  else
    let p := ntcPair k
    match s.cellFlag k Fld.segNtcCfgSubstEn && s.ntcValid ts p.1 && s.ntcValid ts p.2, (ts.get p.1).reading,
      (ts.get p.2).reading with
    | true, some a, some b =>
      { t with inUse := some (divI (a + b) 2), subst := true
               usesLower := decide (p.1 < k) || decide (p.2 < k), usesUpper := decide (k < p.1) || decide (k < p.2)
               substCount := if t.subst then t.substCount else satAdd 0xFFF t.substCount 1 }
    | _, _, _ => none_ t

/-- Faults and the park of one cell after a sample (R360 to R362). -/
def State.ntcAct (s : State) (old : Vec CellTemp 256) (rs : List Nat) (k : Cell) : State :=
  let a := old.get k
  let t := s.temps.get k
  let r := rs.getD k.val 0
  let s := if t.broken && !a.broken then
      s.raise .ntcBroken (some (segOf k)) (some k) (wordI (t.reading.getD 0)) (if ntcElectrical r then 1 else 0) 0
    else if a.broken && !t.broken then s.raise .ntcReturn (some (segOf k)) (some k) 0 0 0
    else s
  let c := s.cells.get k
  let keep := c.st == .keep || (match c.tr with
    | some x => x.kind == .keeper
    | none => false)
  if t.sampled && t.inUse.isNone && !s.excluded k && s.linkUp (segOf k) && !c.hasCause 5 && !keep then
    (s.park k 5).raise .ntcPark (some (segOf k)) (some k) 0 0 0
  else s

/-- NTC_SAMPLE (R360): judged wherever the hub supervises cells, outside the patrols of DRYDOWN. -/
def execNtcSample (rs : List Nat) (s : State) : Host.Outcome State Fault Refusal :=
  if s.powered && s.st != .drydown then
    let old := s.temps
    let t0 := old.mapIdx (s.ntcFresh rs)
    let t1 := t0.mapIdx (s.ntcJudge t0 rs)
    let s := s.setTemps (t1.mapIdx (s.ntcUse t1))
    let s := each allCells (fun s k => s.ntcAct old rs k) s
    s.reviewAll.done
  else s.done

/-! ### Die diodes (R358, R364) -/

/-- The two dies that a die is compared with (R364). -/
def diePair (i : Nat) : Nat × Nat :=
  if i = 0 then (8, 9) else if i = 1 then (2, 3) else if i = 16 then (14, 15) else (i - 1, i + 1)

def die (i : Nat) : Die := Fin.ofNat 17 i

/-- Whether a die's diode is read now: the hub's always, a segment's while its link is up. -/
def State.dieReachable (s : State) (i : Nat) : Bool := if i = 0 then true else s.linkUp (seg (i - 1))

/-- This sample's readings; one outside −40 °C to +160 °C breaks the diode. -/
def State.dieFresh (s : State) (rs : List Int) (i : Nat) (d : DieTemp) : DieTemp :=
  if !s.dieReachable i then { d with stale := d.valid }
  else
    let x := rs.getD i 0
    let bad := decide (x < -4000) || decide (16000 < x)
    { d with stale := false, valid := true, broken := d.broken || bad, goods := if bad then 0 else d.goods
             temp := if d.broken || bad then d.temp else x }

/-- A die whose reading in use is its own fresh reading. -/
def dieValid (ds : Vec DieTemp 17) (i : Nat) : Bool :=
  let d := ds.get (die i)
  d.valid && !d.broken && !d.stale

/-- Distance of a reading from what an adjacent die leads one to expect. -/
def dieOff (ds : Vec DieTemp 17) (now : Nat) (x : Int) (i j : Nat) : Nat :=
  (x - (ds.get (die j)).temp - Config.dieGradient i j now).natAbs

/-- Mismatch and return of a diode (R364). -/
def State.dieJudge (s : State) (ds : Vec DieTemp 17) (rs : List Int) (i : Nat) (d : DieTemp) : DieTemp :=
  if d.stale || !d.valid then d
  else
    let x := rs.getD i 0
    let p := diePair i
    let both := dieValid ds p.1 && dieValid ds p.2
    let lim := 10 * s.fld Fld.thermXcheckCfgDieLimit
    let inside := decide (-4000 ≤ x) && decide (x ≤ 16000)
    if d.broken then
      let g := if both && inside && decide (dieOff ds s.now x i p.1 ≤ lim / 2) && decide (dieOff ds s.now x i p.2 ≤ lim / 2) then
        d.goods + 1 else 0
      if 100 ≤ g then { d with broken := false, goods := 0, misses := 0, temp := x } else { d with goods := g }
    else if s.flag Fld.thermCtrlDieXcheckEn && both && decide (x < 13500) && decide (lim < dieOff ds s.now x i p.1) &&
        decide (lim < dieOff ds s.now x i p.2) then
      let m := d.misses + 1
      if s.fld Fld.thermXcheckCfgPersist ≤ m then { d with broken := true, misses := 0, goods := 0 }
      else { d with misses := m }
    else { d with misses := 0 }

/-- The reading in use of a broken diode: the mean over its valid adjacent dies, corrected (R364). -/
def dieUse (ds : Vec DieTemp 17) (now : Nat) (i : Nat) (d : DieTemp) : DieTemp :=
  if !d.broken || d.stale then { d with subst := d.subst && d.broken, noReading := d.noReading && d.broken }
  else
    let p := diePair i
    let l := [p.1, p.2].filterMap (fun j =>
      if dieValid ds j then some ((ds.get (die j)).temp + Config.dieGradient i j now) else none)
    if l.isEmpty then { d with subst := false, noReading := true }
    else { d with subst := true, noReading := false, temp := divI (sumInt l) (l.length : Int) }

/-- Output of a bank model: its hottest junction (R365). -/
def bankTop (l : List Int) : Int :=
  match l.take 32 with
  | [] => 0
  | a :: t => t.foldl max a

/-- Temperature of a sensor by the index of R354. -/
def State.sensorTemp (s : State) (i : Nat) : Int :=
  if i < 17 then (s.therm.dies.get (die i)).temp else bankTop (s.therm.banks.get (seg (i - 17)))

/-- Sensors with a reading in use. -/
def State.sensors (s : State) : List Nat :=
  (List.range 33).filter (fun i => decide (17 ≤ i) || ((s.therm.dies.get (die i)).valid && !(s.therm.dies.get (die i)).noReading))

/-- The near-limit rate begins at 135 °C and ends after 1 s at or below 130 °C (R358). -/
def State.nearCheck (s : State) : State :=
  let t := s.sensors.map s.sensorTemp
  if t.any (fun x => decide (13500 ≤ x)) then s.modTherm (fun h => { h with near := true, coolSince := none })
  else if t.all (fun x => decide (x ≤ 13000)) then
    s.modTherm (fun h =>
      let from_ := h.coolSince.getD s.now
      { h with coolSince := some from_, near := h.near && decide (s.now < from_ + 1000000000) })
  else s.modTherm (fun h => { h with coolSince := none })

/-- Faults of one die after a sample. -/
def State.dieAct (s : State) (old : Vec DieTemp 17) (i : Nat) : State :=
  let a := old.get (die i)
  let d := s.therm.dies.get (die i)
  let s := if d.broken && !a.broken then s.raise .dieBroken none none (word i) 0 0
    else if a.broken && !d.broken then s.raise .dieReturn none none (word i) 0 0
    else s
  if d.noReading && !a.noReading then s.raise .dieNoReading none none (word i) 0 0 else s

/-- THERMAL_SAMPLE (R358, R364): the AON supervisor samples in every state with the hub powered. -/
def execThermalSample (rs : List Int) (s : State) : Host.Outcome State Fault Refusal :=
  if s.powered then
    let old := s.therm.dies
    let d0 := old.mapIdx (s.dieFresh rs)
    let d1 := d0.mapIdx (s.dieJudge d0 rs)
    let s := s.modTherm (fun h => { h with dies := d1.mapIdx (dieUse d1 s.now) })
    (each (List.range 17) (fun s i => s.dieAct old i) s).nearCheck.done
  else s.done

/-! ### Switch-bank models (R365, R366) -/

/-- CONSERVATIVE of THERM_MODEL_CFG (R379). -/
def State.conservative (s : State) : Bool := !s.therm.calOk || s.flag Fld.thermModelCfgForceConservative

/-- Current of the slot that starts at a time: I_t, or I_fast while there is none. -/
def State.slotCurrent (s : State) (t : Nat) : Int :=
  match find? s.shunts.iHist t with
  | some (some i) => i
  | _ => s.spc.iFast

/-- Sum of i²·t of a cell's two pairs over the ten slots before a time: S1, then S2. -/
def State.pairSums (s : State) (k : Cell) (t : Nat) : List Nat :=
  let slots := (List.range 10).map (fun j => t - 10000 + 1000 * j)
  let sq (n : Nat) : Nat := (s.slotCurrent n).natAbs * (s.slotCurrent n).natAbs
  [sumNat (slots.map (fun n => sq n * s.overlap k n (n + 1000))),
   sumNat (slots.map (fun n => sq n * (1000 - s.overlap k n (n + 1000))))]

/-- One step of a bank's model. -/
def State.bankNext (s : State) (g : Seg) (l : List Int) : List Int :=
  let d := (s.therm.dies.get (die (1 + g.val))).temp
  let clamps := (cellsOf g).map (fun k => (s.cells.get k).clampHits)
  if s.linkUp g then
    Config.bankStep g.val l d (((cellsOf g).map (fun k => s.pairSums k s.now)).flatten) clamps
      (if s.conservative then 1 else 0)
  else
    let slots := (List.range 10).map (fun j => s.now - 10000 + 1000 * j)
    let all := sumNat (slots.map (fun n => (s.slotCurrent n).natAbs * (s.slotCurrent n).natAbs * 1000))
    Config.bankStep g.val l (d + 1000) (List.replicate 32 all) clamps
      (if s.conservative then 3 else 2)

/-- MODEL_STEP (R365). -/
def execModelStep (s : State) : Host.Outcome State Fault Refusal :=
  if s.powered then
    let b := s.therm.banks.mapIdx (fun i l => s.bankNext (seg i) l)
    let s := s.putCells (s.cells.map (fun c => { c with clampHits := 0 }))
    (s.modTherm (fun h => { h with banks := b, lastModel := s.now })).nearCheck.done
  else s.done

/-! ### The 150 °C event (R369) -/

/-- A sensor whose reading in use, not stale, is at or above 150.00 °C. -/
def State.at150 (s : State) (i : Nat) : Bool :=
  decide (15000 ≤ s.sensorTemp i) && s.sensors.contains i && (decide (17 ≤ i) || !(s.therm.dies.get (die i)).stale)

/-- Aux leaves its operating range at this tick: that is acted on first, and the latch is not set (R25, R372). -/
def State.auxComing (s : State) : Bool := s.coming (fun i => match i with
  | .auxOutOfRange mv => decide (mv < 16000) || decide (34000 < mv)
  | _ => false)

/-- SHUTDOWN (R369). -/
def execShutdown (i : Fin 33) (s : State) : Host.Outcome State Fault Refusal :=
  if s.at150 i.val && !s.auxComing then (s.shutdownNow i.val (s.sensorTemp i.val)).done else s.done

/-! ### Slow rounds (R359) -/

/-- A slow round starts, unless one is running. -/
def State.startSlow (s : State) : State :=
  (s.modTherm (fun h => { h with slowBusy := h.slowBusy.orElse (fun _ => some s.now) })).modBist
    (fun b => { b with slowDue := false })

end Sys2Proof.Machine
end

