-- ==== Sys2Proof/Machine/CellRows.lean ====
section
/-!
DEFINITION. The events of a cell path and of the keeper (chapter 02).
-/

namespace Sys2Proof.Machine

/-! ### Protection events (R43, R44, R46, R48, R50, R253) -/

/-- A cell whose sequencer can park it: its drivers are on and the keeper does not hold it. -/
def State.parkable (s : State) (k : Cell) : Bool :=
  (s.segs.get (segOf k)).sdrv && (s.cells.get k).st != .keep

/-- The Kelvin voltage in µV is above OV_EFF of a cell whose comparator acts (R43). -/
def State.ovActs (s : State) (k : Cell) (v : Int) : Bool :=
  s.parkable k && s.cellFlag k Fld.segCellCfgOvEn && !s.excluded k && decide (s.ovMicro k < v)

/-- The Kelvin voltage in µV is below UV_EFF of a cell whose comparator acts. -/
def State.uvActs (s : State) (k : Cell) (v : Int) : Bool :=
  s.parkable k && s.cellFlag k Fld.segCellCfgUvEn && !s.excluded k && decide (v < s.uvMicro k)

/-- A report of the clamp detector while the cell is IN and conduction is not ignored (R46). -/
def State.clampActs (s : State) (k : Cell) : Bool :=
  s.parkable k && (s.cells.get k).st == .isIn && !(s.cells.get k).inGap s.now

/-- The keeper of a segment trips when its heartbeat or its supply is gone; in its power-up hold it does not. -/
def State.keeperActs (s : State) (g : Seg) : Bool :=
  let x := s.segs.get g
  !(x.keeper.tripped || (x.keeper.holding && x.st != .patrol))

/-- A segment receives the park symbol that is on its link (R247). -/
def State.symbolActs (s : State) (g : Seg) : Bool :=
  (s.links.get g).parkSym.isSome && s.linkUp g && (s.segs.get g).st != .unpowered

/-- A segment out of patrol mode has heard neither beacon nor park symbol for 20 µs (R253). -/
def State.silenceActs (s : State) (g : Seg) : Bool :=
  ((s.segs.get g).st == .running || (s.segs.get g).st == .boot) &&
    decide ((s.links.get g).lastDownlink + 20000 ≤ s.now)

/-- An event takes a cell to PARK or KEEP, if it is taken in this state (R48). -/
def State.protects (s : State) (k : Cell) (i : Instr) : Bool :=
  match i with
  | .ovTrip j v => j == k && s.ovActs k v
  | .uvTrip j v => j == k && s.uvActs k v
  | .clampDetect j => j == k && s.clampActs k
  | .parkReq j _ => j == k && s.linkUp (segOf k)
  | .keeperTrip g _ => g == segOf k && s.keeperActs g
  | .parkSymbolReceived g => g == segOf k && s.symbolActs g
  | .linkSilence g => g == segOf k && s.silenceActs g
  | _ => false

/-- A protection event of the cell falls at the present tick and is still to be taken. -/
def State.protectedNow (s : State) (k : Cell) : Bool := s.coming (s.protects k)

/-! ### The edge budget monitor (R94) -/

/-- Index in its cycle of the slot that starts at a time. -/
def State.slotIndex (s : State) (t : Nat) : Nat := if s.tCyc = 0 then 0 else (t - s.play.ts) % s.tCyc / 1000

/-- A scheduled transition is counted in its slot by its segment; the third of a slot trips the monitor (R94). -/
def State.countSeg (s : State) (g : Seg) (slot : Nat) : State :=
  let l := slot :: (s.play.segSlots.get g)
  let n := (l.filter (fun x => x == slot)).length
  let s := s.modPlay (fun p => { p with segSlots := p.segSlots.set g (l.take 64) })
  if n = 3 then
    (s.modPlay (fun p => { p with overrun := satAdd 0xFF p.overrun 1 })).segReport g
      ⟨.budgetOverrun, s.now, some g, none, word (s.slotIndex slot), word n, 0⟩
  else s

/-- The same for the module, from the edge records; the ninth of a slot trips the monitor. -/
def State.countMod (s : State) (slot : Nat) : State :=
  let l := slot :: s.play.modSlots
  let n := (l.filter (fun x => x == slot)).length
  let s := s.modPlay (fun p => { p with modSlots := l.take 256 })
  if n = 9 then
    (s.modPlay (fun p => { p with overrun := satAdd 0xFF p.overrun 1 })).raise .budgetOverrun none none
      (word (s.slotIndex slot)) (word n) 0
  else s

/-! ### Commutation (R36 to R42, R46, R50) -/

/-- SCHEDULED_EDGE (R64, R32, R40): the cell's next planned edge. A protection event at the same tick wins (R48). -/
def execScheduledEdge (k : Cell) (s : State) : Host.Outcome State Fault Refusal :=
  match (s.cells.get k).plan with
  | [] => s.done
  | p :: rest =>
    if s.now < p.tp then s.done
    else
      let s := s.modCell k (fun c => { c with plan := rest })
      if !s.inRun || s.protectedNow k then s.done
      else
        let s := s.reviewHolds k
        let c := s.cells.get k
        match c.tr with
        | some t =>
          if t.kind == .four || t.kind == .two then (s.modCell k (fun c => { c with waiting := some p })).done else s.done
        | none =>
          match c.st, p.toIn with
          | .isIn, true =>
            (s.modSeg (segOf k) (fun x => { x with ignored := satAdd 255 x.ignored 1 })).done
          | .isIn, false => ((s.commutate k false .bypass (some p.tp) p.slot false).countSeg (segOf k) p.slot).done
          | .bypass, true =>
            if c.held || c.keepHold || c.resume then s.done
            else ((s.commutate k true .isIn (some p.tp) p.slot false).countSeg (segOf k) p.slot).done
          | .bypass, false | .isOpen, _ | .park, _ | .keep, _ => s.done

/-- The next step of a transition may be commanded now (R36, R37, R39, R42, R48). -/
def State.stepDue (s : State) (t : Transition) : Bool :=
  let n := t.cmds.length
  let last := t.cmds.getLastD 0
  match t.kind with
  | .four => decide (n < 4) && t.confs.length == n && decide (last + 72 ≤ s.now)
  | .two => n == 1 && t.confs.length == 1 && decide (t.confs.getLastD 0 + 48 ≤ s.now)
  | .gateFail | .clamp | .keeper => n == 1 && decide (last + 48 ≤ s.now)
  | .undo => decide (0 < t.undoLeft) && t.confs.length + 1 == n && (n == 1 || decide (last + 72 ≤ s.now))

/-- COMMUTATION_STEP: the next step is commanded, unless the interlock refuses it (R29). -/
def execCommutationStep (k : Cell) (s : State) : Host.Outcome State Fault Refusal :=
  let c := s.cells.get k
  match c.tr with
  | none => s.done
  | some t =>
    if s.stepDue t then
      let n := t.cmds.length + 1
      let g := if t.kind == .undo then undoGates t.cls t.undoLeft c.gates else stepGates t.kind t.cls t.toIn n c.gates
      if interlock g then
        (s.modCell k (fun c => { c with
          gates := g
          tr := some { t with cmds := t.cmds ++ [s.now], undoLeft := if t.kind == .undo then t.undoLeft - 1 else t.undoLeft }
          })).done
      else (s.gateFailure k n).done
    else s.done

/-- Commands of a transition that a confirmation can answer: of the sequences that turn S1 off and S2 on, the second
alone; of an undo, those after its start. -/
def answerable (t : Transition) : Nat :=
  match t.kind with
  | .four | .two => t.cmds.length
  | .gateFail | .clamp | .keeper => if t.cmds.length = 2 then 1 else 0
  | .undo => t.cmds.length - 1

/-- Longest time from a step's command to its confirmation (R39). A four-step, two-step or undone sequence gives way
to R42 then; of the S2 step of the other sequences, which nothing replaces, a later confirmation still counts. -/
def confMax (t : Transition) : Nat :=
  match t.kind with
  | .four => 112
  | .undo => if t.cls == .low then 80 else 112
  | .two => if t.cmds.length = 1 then 60 else 80
  | .gateFail | .clamp | .keeper => 150

/-- A confirmation after the maximum completes the sequence all the same (R42, R50). -/
def lateCounts : SeqKind → Bool
  | .gateFail | .clamp | .keeper => true
  | .four | .two | .undo => false

/-- Every step of the transition is confirmed. -/
def complete (t : Transition) : Bool :=
  match t.kind with
  | .four => t.confs.length == 4
  | .two => t.confs.length == 2
  | .gateFail | .clamp | .keeper => t.confs.length == 1
  | .undo => t.undoLeft == 0 && t.confs.length + 1 == t.cmds.length

/-- Records of a completed transition (R41, R48). -/
def transitionRecs (k : Cell) (t : Transition) : List EdgeRec :=
  match t.kind, t.carriedFrom with
  | .undo, some a => undoRecs k t a (transfer t).1
  | .undo, none => []
  | _, _ => [edgeRec k t]

/-- A transition completes: state, records to the hub, disturbances, KVAL, and what follows on the cell. -/
def State.completeTransition (s : State) (k : Cell) (t : Transition) : State :=
  let s := s.modCell k (fun c => (c.finish t).endGap t.kind s.now)
  let s := s.modMeas k (fun m => { m with edgesDone := ((transitionRecs k t).reverse ++ m.edgesDone).take 64 })
  let s := each (transitionRecs k t) (fun s r => s.sendUp (segOf k) (.edge r)) s
  let s := s.disturbNear k t.began (s.now + s.guardNs)
  let s := if t.target == .isIn || t.carriedFrom.isSome then s.kvalClear k else s
  let s := s.afterTransition k
  match (s.cells.get k).tr with
  | some t' => if t'.late then s.countSeg (segOf k) t'.pairSlot else s
  | none => s

/-- STEP_CONFIRMED (R41). -/
def execStepConfirmed (k : Cell) (s : State) : Host.Outcome State Fault Refusal :=
  match (s.cells.get k).tr with
  | none => s.done
  | some t =>
    if t.confs.length < answerable t ∧ (s.now ≤ t.cmds.getLastD 0 + confMax t ∨ lateCounts t.kind) then
      let t := { t with confs := t.confs ++ [s.now] }
      if complete t then (s.completeTransition k t).done
      else (s.modCell k (fun c => { c with tr := some t })).done
    else s.done

/-- STEP_UNCONFIRMED (R42): of a four-step, two-step or undone sequence. -/
def execStepUnconfirmed (k : Cell) (s : State) : Host.Outcome State Fault Refusal :=
  match (s.cells.get k).tr with
  | none => s.done
  | some t =>
    match t.kind with
    | .four | .two | .undo =>
      if t.confs.length < answerable t ∧ t.cmds.getLastD 0 + confMax t < s.now then
        (s.gateFailure k t.cmds.length).done
      else s.done
    | .gateFail | .clamp | .keeper => s.done

/-- NO_PATH (R42): S2 not confirmed within 150 ns; reported once. -/
def execNoPath (k : Cell) (s : State) : Host.Outcome State Fault Refusal :=
  match (s.cells.get k).tr with
  | none => s.done
  | some t =>
    if (t.kind == .gateFail || t.kind == .clamp) && t.cmds.length == 2 && t.confs.isEmpty && t.undoLeft == 0 &&
        decide (t.cmds.getLastD 0 + 150 ≤ s.now) then
      let s := s.modCell k (fun c => { c with tr := some { t with undoLeft := 1 } })
      (s.segReport (segOf k) (cellReport s.now .noPath k 0 0 0)).done
    else s.done

/-! ### Comparators and the clamp detector (R43, R44, R46) -/

/-- OV_TRIP: the Kelvin voltage in µV is above OV_EFF. -/
def execOvTrip (k : Cell) (v : Int) (s : State) : Host.Outcome State Fault Refusal :=
  if s.ovActs k v then
    ((s.park k 1).segReport (segOf k) (cellReport s.now .ovPark k (word (s.ovEff k)) 0 0)).done
  else s.done

/-- UV_TRIP: the Kelvin voltage in µV is below UV_EFF. -/
def execUvTrip (k : Cell) (v : Int) (s : State) : Host.Outcome State Fault Refusal :=
  if s.uvActs k v then
    ((s.park k 2).segReport (segOf k) (cellReport s.now .uvPark k (word (s.uvEff k)) 0 0)).done
  else s.done

/-- CLAMP_DETECT: a report while the cell is IN, outside the gaps in which conduction is ignored. -/
def execClampDetect (k : Cell) (s : State) : Host.Outcome State Fault Refusal :=
  if s.clampActs k then
    ((s.park k 3).segReport (segOf k) (cellReport s.now .clampPark k 0 0 0)).done
  else s.done

/-! ### The keeper (R50, R51) -/

/-- KEEPER_TRIP: the heartbeat has been absent for the trip time, or the die supply fails. In its power-up hold the
keeper does not trip. -/
def execKeeperTrip (g : Seg) (supplyFailed : Bool) (s : State) : Host.Outcome State Fault Refusal :=
  if s.keeperActs g then
    let s := s.keeperTrips g
    if supplyFailed then (s.modSeg g (fun x => { x with st := .unpowered })).done else s.done
  else s.done

/-- KEEPER_HOLD_EXPIRY: the hold supply has run down after the loss of both supplies; S2 is no longer held on. -/
def execKeeperHoldExpiry (g : Seg) (s : State) : Host.Outcome State Fault Refusal :=
  let x := s.segs.get g
  if x.feedOk || x.onStack || !x.keeper.holding then s.done
  else
    let s := s.modSeg g (fun x => { x with keeper := { x.keeper with supplyOk := false, holding := false } })
    (each (cellsOf g) (fun s k => s.modCell k (fun c => { c with gates := allOff, keepHold := false })) s).done

/-- A release of a tripped keeper is accepted while the heartbeat is present: the cells enter PARK with cause KEEPER. -/
def State.releaseKeeper (s : State) (g : Seg) : State :=
  let k := (s.segs.get g).keeper
  if k.tripped && k.heartbeat then
    let s := s.modSeg g (fun x => { x with keeper := { x.keeper with tripped := false, holding := false } })
    each (cellsOf g) (fun s k => s.modCell k (fun c =>
      { c.addCause 10 s.now with st := .park, keepHold := false, tr := none, waiting := none, gates := s2on })) s
  else s

/-! ### OPEN (R31, R32) and what a written SEG_CELL_CFG does -/

/-- OPEN_REQ set: a BYPASS or PARK cell enters OPEN in READY or STARTUP_TEST. -/
def State.openCell (s : State) (k : Cell) : State :=
  let c := s.cells.get k
  if (s.st == .ready || s.st == .startupTest) && c.tr.isNone && !c.keepHold && (c.st == .bypass || c.st == .park) &&
      !s.protectedNow k then
    (s.modCell k (fun c => { c with st := .isOpen, fromPark := c.st == .park, gates := allOff })).disturbOpen k
  else s

/-- OPEN_REQ cleared. -/
def State.closeCell (s : State) (k : Cell) : State := s.leaveOpen k

/-- What the segment does at a write of SEG_CELL_CFG, whose bits `mask` were written with `v`; `old` is the register
before (R55, R149). -/
def State.wroteCellCfg (s : State) (k : Cell) (old v mask : Word) (corner : Nat) : State :=
  let bit (f : Cell → Field) (w : Word) : Bool := fieldOf (f k) w == 1
  let s := if s.cornerOf k ≠ corner then s.modMeas k (fun m => m.ask false s.now) else s
  let s := s.reviewHolds k
  let s := if bit Fld.segCellCfgParkReq (v &&& mask) then s.park k 12 else s
  if bit Fld.segCellCfgOpenReq mask then
    if bit Fld.segCellCfgOpenReq v then s.openCell k else if bit Fld.segCellCfgOpenReq old then s.closeCell k else s
  else s

/-! ### RELEASE_PARK (R33, R421, R515) -/

/-- A park cause has cleared (R33). -/
def State.causeCleared (s : State) (k : Cell) (code : Nat) : Bool :=
  let c := s.cells.get k
  let v := s.monitor k
  let passedSince (n : Nat) : Bool := match (s.bist.slices.get (slice n)).passedAt with
    | some t => decide (c.parkedAt ≤ t) && !(s.bist.slices.get (slice n)).failed
    | none => false
  let g := segOf k
  match code with
  | 1 => decide (v ≤ s.ovMicro k - 50000)
  | 2 => decide (s.uvMicro k + 50000 ≤ v)
  | 4 => passedSince (16 + g.val)
  | 5 => (s.temps.get k).inUse.isSome
  | 7 => s.st != .halt
  | 8 => s.st != .orphan
  | 9 => s.linkUp g
  | 11 => !s.sliceFailed g.val && !s.sliceFailed (16 + g.val)
  | _ => true

/-- Every cause of a cell has cleared; one that comes at the same tick has not (R48). -/
def State.allCleared (s : State) (k : Cell) : Bool :=
  !s.protectedNow k && (List.range 12).all (fun n => !(s.cells.get k).hasCause (n + 1) || s.causeCleared k (n + 1))

/-- A cell in PARK that a release frees: its causes have cleared, and its segment can be told (R13, R33). -/
def State.releasable (s : State) (k : Cell) : Bool :=
  (s.cells.get k).st == .park && s.allCleared k && s.linkUp (segOf k)

/-- The cell counts as still parked (R33). -/
def State.stillParked (s : State) (k : Cell) : Bool :=
  let c := s.cells.get k
  if c.st == .park then !s.releasable k else c.causes != 0

/-- A cell in PARK whose causes have cleared enters BYPASS; in RUN it resumes with the next cycle. -/
def State.releaseCell (s : State) (k : Cell) : State :=
  if (s.cells.get k).st == .park && s.allCleared k then
    s.modCell k (fun c => { c with st := .bypass, causes := 0, first := 0, resume := s.inRun && !c.held })
  else s

/-- The local indices of the cells of a segment for which p holds, as a set of 16. -/
def localSet (g : Seg) (p : Cell → Bool) : BitVec 16 :=
  BitVec.ofNat 16 (sumNat ((List.range 16).map (fun c => if p (cellOf g c) then 2 ^ c else 0)))

/-- The release of the requested cells is judged: the number still parked, and the state in which the segments of the
others are told to release them (R13, R33, R249). -/
def State.judgeRelease (s : State) (cells : BitVec 256) : Nat × State :=
  let l := allCells.filter (fun k => inSet cells k)
  let n := (l.filter (fun k => s.stillParked k)).length
  let tell (t : State) (g : Seg) : State :=
    let m := localSet g (fun k => inSet cells k && s.releasable k)
    if m = 0 then t else t.sendDown g (.cmd (.release m))
  (n, each allSegs tell s)

/-- Slices that a release runs first: those that stand failed for cells with cause BIST, the drive slice for cells
with cause GATE unless it has passed since the park (R421). -/
def State.releaseSlices (s : State) (cells : BitVec 256) : List Slice :=
  let l := allCells.filter (fun k => inSet cells k && (s.cells.get k).st == .park)
  let needs (n : Nat) : Bool := l.any (fun k =>
    let c := s.cells.get k
    let g := (segOf k).val
    (c.hasCause 11 && (n == g || n == 16 + g) && s.sliceFailed n) ||
      (c.hasCause 4 && n == 16 + g && !s.causeCleared k 4))
  allSlices.filter (fun n => needs n.val)

end Sys2Proof.Machine
end

