-- ==== Sys2Proof/Machine/Player.lean ====
section
/-!
DEFINITION. The schedule player (chapter 03): frames, step points, cycles, rungs, trims, walks, STOP and the swap of
banks. Targets are in units of 50 µA.
-/

namespace Sys2Proof.Machine

/-! ### Frames of the player (R130) -/

/-- Smallest exponent from e on for which a mantissa has 8 bits. -/
def expFor (f : Nat → Nat) : Nat → Nat → Nat
  | 0, e => e
  | n + 1, e => if f e ≤ 255 then e else expFor f n (e + 1)

/-- RAMP field: mantissa and exponent of the largest rate not above r. -/
def rampField (r : Nat) : Nat × Nat :=
  let e := expFor (fun e => r / 2 ^ e) 15 0
  (Nat.min 255 (r / 2 ^ e), e)

/-- DEADLINE field: mantissa and exponent of the smallest time not below d µs. -/
def deadlineField (d : Nat) : Nat × Nat :=
  let f (e : Nat) : Nat := (d + 16 * 2 ^ e - 1) / (16 * 2 ^ e)
  let e := expFor f 15 0
  (Nat.min 255 (f e), e)

/-- A SET frame (R128). -/
def setFrameWord (seq : Nat) (preempt : Bool) (target : Int) (ramp deadline : Nat) : BitVec 64 :=
  let r := rampField ramp
  let d := deadlineField deadline
  let low := 1 + seq % 256 * 2 ^ 3 + (if preempt then 2 ^ 11 else 0) + unsigned 20 target * 2 ^ 12 + r.1 * 2 ^ 32 +
    r.2 * 2 ^ 40 + d.1 * 2 ^ 44 + d.2 * 2 ^ 52
  BitVec.ofNat 64 (low + crc8 (leBytes 7 low) * 2 ^ 56)

/-- Index of the step in force. -/
def State.stepNo (s : State) : Nat := s.play.step

/-- DEADLINE_US of the step, or STEP_TIMEOUT (R72). -/
def State.stepDeadlineUs (s : State) : Nat :=
  let d := stepDeadline s.active s.stepNo
  if d = 0 then s.fld Fld.stepTimeoutTimeoutUs else d

def State.externalSource (s : State) : Bool := s.flag Fld.stepCtrlSource

/-- The player hands a frame to the SPC; none with SOURCE = EXTERNAL (R126). The zero frame of R74 is preemptive and
takes the step's ramp, limited by SPC_RAMP_LIMIT. -/
def State.sendTarget (s : State) (target : Int) (zero : Bool) : State :=
  if s.externalSource then s
  else
    let r := stepRamp s.active s.stepNo
    let ramp := if zero then Nat.min r (s.fld Fld.spcRampLimitRate) else r
    let q := s.play.seq
    let s := s.modSpc (fun x => { x with inbox := x.inbox ++ [setFrameWord q zero target ramp s.stepDeadlineUs] })
    s.modPlay (fun p => { p with
      pending := some ⟨q, target, s.now, s.now + 1000 * s.stepDeadlineUs, zero⟩
      seq := (q + 1) % 256
      target := target
      lowest := some target })

/-! ### Conditions of cells (R68, R69, R73) -/

def State.modeOf (s : State) (k : Cell) : Nat := stepMode s.active s.stepNo (s.ladderOf k)

/-- The cell is IN, or BYPASS with hold SCHEDULE (R68). -/
def CellPath.inService (c : CellPath) : Bool :=
  c.st == .isIn || (c.st == .bypass && !c.held && !c.keepHold)

/-- The conditions of R69: mode TAPER or FIXED and in service; a walk counts. -/
def State.inUse (s : State) (k : Cell) : Bool :=
  s.played k && s.modeOf k != 2 && (s.cells.get k).inService

/-- The highest rung in use (R69). -/
def State.highestRung (s : State) : Option Nat :=
  (allCells.filter s.inUse).foldl (fun (h : Option Nat) k =>
    let c := s.cells.get k
    let r := match c.walk with
      | some w => w.base
      | none => c.rung
    match h with
    | some x => some (Nat.max x r)
    | none => some r) none

/-- h0: the highest START_RUNG of the cells in use (R70). -/
def State.highestStart (s : State) : Option Nat :=
  (allCells.filter s.inUse).foldl (fun (h : Option Nat) k =>
    let r := stepStart s.active s.stepNo (s.ladderOf k)
    match h with
    | some x => some (Nat.max x r)
    | none => some r) none

/-- The step's current for a highest rung. -/
def State.currentFor (s : State) (h : Option Nat) : Int :=
  match h with
  | some h => curEntry s.active (stepTable s.active s.stepNo) h
  | none => 0

/-- The target required, under the ratchet of R69. -/
def State.requiredTarget (s : State) (h : Option Nat) : Int :=
  let t := s.currentFor h
  match s.play.lowest with
  | some m => limitMag t m.natAbs
  | none => t

/-- Every cell in use, or that would be but for DONE, holds DONE (R73). -/
def State.allDone (s : State) : Bool :=
  allCells.all (fun k =>
    let c := s.cells.get k
    !(s.played k && s.modeOf k != 2) || c.holdDone || !c.inService)

/-! ### Plans of a cycle (R64, R67, R70) -/

/-- An edge in a pair of a cell, in the present cycle. -/
def State.planned (s : State) (k : Cell) (pair fine : Nat) (toIn : Bool) : Planned :=
  let t := s.play.cycleStart + 1000 * (ownPair s.active k.val pair).1
  ⟨t + 4 * fine, toIn, t, pair⟩

def State.startIn (s : State) (k : Cell) : Bool := ladStartIn s.active (s.ladderOf k)

/-- The edge in the entry pair. -/
def State.entryEdge (s : State) (k : Cell) (toIn : Bool) : List Planned :=
  if s.startIn k then [s.planned k 0 (ownFine s.active k.val) toIn] else []

/-- The pattern of a rung: its edges alternate from the ladder's start state (R66). -/
def State.patternOf (s : State) (k : Cell) (rung : Nat) : List Planned :=
  (patEdges s.active k.val rung).mapIdx (fun i e => s.planned k e.1 e.2 ((i % 2 == 1) == s.startIn k))

/-- The plan of one cell at the start of a cycle: its pattern, after the entry edge where it comes from out of circuit
(R67); in an exit cycle the out-edge of a START_IN cell alone (R70). -/
def State.planCell (s : State) (entry exit_ : Bool) (k : Cell) (c : CellPath) : CellPath :=
  if !s.played k then { c with plan := [], resume := false }
  else if exit_ then { c with plan := s.entryEdge k false }
  else if c.held then { c with plan := [] }
  else
    let enters := (entry || c.resume) && c.st == .bypass
    { c with
      resume := false
      plan := (if enters then s.entryEdge k true else []) ++ s.patternOf k c.rung }

/-- The scheduled transitions of a cell that the hub passes to the SPC (R108). -/
def State.feedOf (s : State) (k : Cell) : List FeedEdge :=
  let c := s.cells.get k
  if c.st == .isIn || c.st == .bypass then
    c.plan.map (fun p => ⟨k, p.tp, p.toIn, divI (s.monitor k) 1000, false⟩)
  else []

/-- With FF_EN the cycle's transitions are passed to the SPC as they are planned; those of 5 µs ago no longer count. -/
def State.feedPlans (s : State) : State :=
  if s.flag Fld.spcCtrlFfEn then
    s.modSpc (fun x => { x with
      feed := x.feed.filter (fun e => decide (s.now ≤ e.tp + 5000)) ++ allCells.flatMap s.feedOf })
  else s.modSpc (fun x => { x with feed := [] })

def State.planAll (s : State) (entry exit_ : Bool) : State :=
  (s.putCells (s.cells.mapIdx (fun i c => s.planCell entry exit_ (cell i) c))).feedPlans

/-! ### Steps (R70) -/

/-- A step begins: DONE holds end, cells of mode OFF are held, the step's frame is sent, the player holds. -/
def State.beginStep (s : State) (i : Nat) : State :=
  let s := s.clearStep
  let id := stepIdOf s.active i
  let s := s.modPlay (fun p => { p with
    st := .hold, step := i, stepReg := id, stepId := id, since := s.now, recorded := false, endCode := 4,
    inExit := false, exitOver := false, lowest := none, answeredAt := none })
  let s := each allCells (fun s k => s.setHold k false (s.cells.get k).holdDone (fun b c => { c with holdDone := b })) s
  let s := each allCells (fun s k => if s.played k && s.modeOf k == 2 then
      s.beginHold k (fun c => { c with holdDone := true }) else s) s
  let h := s.highestStart
  (s.modPlay (fun p => { p with h := h })).sendTarget (s.currentFor h) false

/-- RUN_START (R93): T_s is reached. -/
def execRunStart (s : State) : Host.Outcome State Fault Refusal :=
  if s.inRun && s.play.st == .wait && decide (s.play.ts ≤ s.now) then
    ((s.modPlay (fun p => { p with cycleStart := p.ts, cycles := 1, cycAbs := 0, cycN := 0 })).beginStep 0).done
  else s.done

/-- The entry cycle: every played cell takes its START_RUNG (R70 step 4), and the spans of the step begin (R186,
R190). -/
def State.entryCycle (s : State) : State :=
  let s := s.putCells (s.cells.mapIdx (fun i c =>
    let k := cell i
    if s.played k then
      let r := stepStart s.active s.stepNo (s.ladderOf k)
      { c with rung := r, nextRung := r }
    else c))
  let s := s.modPlay (fun p => { p with st := .play })
  let s := s.modRes (fun r => { r with
    iGap := false, stepFrom := some s.play.cycleStart, params := s.paramsNow, lastTally := s.play.cycleStart })
  let s := s.setAna (s.ana.mapIdx (fun i a => { a with
    sumTo := s.play.cycleStart, dist0 := (s.meas.get (cell i)).distCount, edges := 0, late := 0 }))
  s.planAll true false

/-! ### DERATED (R72) -/

def State.setDerated (s : State) : State :=
  if s.play.derated then s
  else (s.modPlay (fun p => { p with derated := true, stepDeratedFrom := some s.now })).raise .derated none none
    (wordI s.spc.target) (word (s.capacity / 50)) 0

def State.clearDerated (s : State) : State :=
  if s.play.derated then
    s.modPlay (fun p => { p with
      derated := false
      deratedEnd := some s.now
      deratedNs := p.deratedNs + (match p.stepDeratedFrom with
        | some t => s.now - t
        | none => 0)
      stepDeratedFrom := none })
  else s

/-- The step's time count at the end of a cycle (R73). -/
def State.countTime (s : State) : State :=
  let p := s.play
  let der := p.derated || (match p.deratedEnd with
    | some t => decide (p.cycleStart < t)
    | none => false)
  let target := s.spc.target.natAbs * 50
  let inc : Rat :=
    if !der then 1
    else if p.cycN = 0 || target = 0 then 1
    else
      let r : Rat := (p.cycAbs : Rat) / ((p.cycN * target : Nat) : Rat)
      if r < 1 then r else 1
  s.modPlay (fun p => { p with timeCount := p.timeCount + inc, cycAbs := 0, cycN := 0 })

/-! ### TAPER and the DONE hold (R192, R193) -/

/-- s of R68: the sign of the step's current table. -/
def State.tableSign (s : State) : Int := curSign s.active (stepTable s.active s.stepNo)

/-- The cell's latest filter output of [a, b) that is not DISTURBED (R68, R192). -/
def State.cycleOutput (s : State) (k : Cell) (a b : Nat) : Option Sample :=
  match (s.meas.get k).lastUsable with
  | some x => if a ≤ x.stamp ∧ x.stamp < b then some x else none
  | none => none

/-- The voltage error e of R68, in µV. -/
def State.tapErr (s : State) (k : Cell) (x : Sample) : Int :=
  s.tableSign * (stepVTarget s.active s.stepNo (s.ladderOf k) - x.value)

/-- The evaluation of one cell for the cycle that ended at z; `m` is the index of the cycle that begins, `walking` that
the cell played a walk in it. A criterion met gives the reason: 1 charge limit, 2 end current (R207). A cycle that is
not evaluated restarts the count. -/
def State.evaluateDone (s : State) (m z : Nat) (walking : Bool) (k : Cell) : State :=
  let c := s.cells.get k
  let a := s.ana.get k
  let j := s.ladderOf k
  let i := s.stepNo
  let q := (s.totals k z).q
  let qCycle := q - a.qCycle
  let s := s.modAna k (fun a => { a with qCycle := q })
  if !(s.inUse k) || walking || a.doneAt.isSome || c.holdDone || s.tableSign = 0 then
    s.modAna k (fun a => { a with taperRun := 0 })
  else
    let limit := stepQLimit s.active i j
    let iEnd := stepIEnd s.active i j
    let voltage := match s.cycleOutput k (z - s.tCyc) (z + 1) with
      | some x => decide ((s.tapErr k x).natAbs ≤ s.results.params.band)
      | none => false
    let current := decide (qCycle.natAbs ≤ iEnd * s.tCyc)
    let run := if voltage && current then a.taperRun + 1 else 0
    let s := s.modAna k (fun a => { a with taperRun := run })
    let byCharge := limit ≠ 0 ∧ (limit : Int) * 3600000000000 ≤ s.tableSign * q
    let byEnd := s.kernelOn 3 && s.modeOf k == 1 && iEnd != 0 && decide (s.results.params.taperN ≤ run)
    if byCharge then (s.modAna k (fun a => { a with doneAt := some (m + 1) })).taperRecord k 1 qCycle z (z + s.tCyc)
    else if byEnd then (s.modAna k (fun a => { a with doneAt := some (m + 1) })).taperRecord k 2 qCycle z (z + s.tCyc)
    else s

/-- Every played cell with whether it plays a walk. -/
def State.walkers (s : State) : List (Cell × Bool) := s.playedCells.map (fun k => (k, (s.cells.get k).walk.isSome))

/-- The evaluations of a cycle that ended at z (R192); SWEEP_Z records of that tick come before (R206). -/
def State.evaluateAll (s : State) (m z : Nat) (l : List (Cell × Bool)) : State :=
  each l (fun s x => s.evaluateDone m z x.2 x.1) s

/-- A cell found DONE takes its hold at the start of its cycle (R193). -/
def State.takeDone (s : State) (m : Nat) (k : Cell) : State :=
  match (s.ana.get k).doneAt with
  | some d =>
    if d ≤ m then (s.modAna k (fun a => { a with doneAt := none })).beginHold k (fun c => { c with holdDone := true })
    else s
  | none => s

/-! ### Walks (R75, R198 to R200) -/

/-- Rung of a walking cell: base and offset, clamped to the ladder. -/
def State.walkRung (s : State) (k : Cell) (w : WalkState) : Nat :=
  (clampInt 0 ((ladRungs s.active (s.ladderOf k) : Int) - 1) ((w.base : Int) + walkAt s.active w.walk w.pos)).toNat

/-- The walk of frequency i of the sweep in force begins. -/
def State.startWalk (s : State) (k : Cell) (freq base : Nat) : State :=
  let p := s.results.sweepPlan
  let w : WalkState := ⟨s.freqWalk p freq, freq, 0, 0, base⟩
  let s := s.modCell k (fun c => { c with walk := some w, rung := s.walkRung k w })
  let acc := if s.freqSettle p freq = 0 then some (SweepAcc.start s.play.cycleStart (s.meas.get k).distCount) else none
  s.modAna k (fun a => { a with sweep := acc, sweepKept := none })

/-- A walking cell at a cycle boundary, at which a cycle has just begun: the next offset, the next repetition, the next
frequency, or its end. With `more` false the step ends there and no frequency follows (R200). -/
def State.advanceWalk (s : State) (more : Bool) (k : Cell) : State :=
  match (s.cells.get k).walk with
  | none => s
  | some w =>
    let p := s.results.sweepPlan
    let settle := s.freqSettle p w.freq
    let periods := s.freqPeriods p w.freq
    if w.pos + 1 < walkLen s.active w.walk then
      let w := { w with pos := w.pos + 1 }
      s.modCell k (fun c => { c with walk := some w, rung := s.walkRung k w })
    else
      let rep := w.rep + 1
      let kept := ((s.ana.get k).sweep).map (s.sweepNow k w s.play.cycleStart)
      let s := s.modAna k (fun a => { a with sweepKept := kept })
      if rep < settle + periods then
        let w := { w with pos := 0, rep := rep }
        let s := s.modCell k (fun c => { c with walk := some w, rung := s.walkRung k w })
        if rep = settle then
          s.modAna k (fun a => { a with sweep := some (SweepAcc.start s.play.cycleStart (s.meas.get k).distCount) })
        else s
      else
        let acc := kept.getD (SweepAcc.start s.play.cycleStart (s.meas.get k).distCount)
        let s := s.sweepRecord k w acc periods false
        if more && decide (w.freq + 1 < s.freqCount p) then s.startWalk k (w.freq + 1) w.base
        else
          (s.modCell k (fun c => { c with walk := none, rung := w.base, nextRung := w.base })).modAna k
            (fun a => { a with sweep := none, sweepKept := none })

/-- SWEEP_START (R197, R198): the named cells begin to play the plan's walks, where the CMD message that says so has
reached their segment (R249). -/
def execSweepStart (s : State) : Host.Outcome State Fault Refusal :=
  match s.results.sweepAt with
  | none => s.done
  | some t =>
    if s.results.sweepOn || s.play.st == .wait || !s.cycling || decide (s.play.cycleStart < t) ||
        decide (s.play.cycleStart + 1000 ≤ s.now) then s.done
    else
      let s := s.modRes (fun r => { r with
        sweepOn := true, sweepRecords := 0
        sweepExcl := s.fld Fld.anaSweepzCfgExclPermil
        sweepAmpl := 10000 * s.fld Fld.anaSweepzCfgMinAmpl })
      let told (k : Cell) : Bool := (s.segs.get (segOf k)).sweepCells.getLsbD (localOf k)
      let s := each (allCells.filter (fun k => inSet s.results.sweepCells k)) (fun s k =>
        let c := s.cells.get k
        if s.play.st == .play && s.inUse k && told k then
          let s := s.startWalk k 0 c.rung
          s.putCells (s.cells.modify k (fun c => s.planCell false false k c))
        else
          let w : WalkState := ⟨s.freqWalk s.results.sweepPlan 0, 0, 0, 0, c.rung⟩
          s.sweepRecord k w (SweepAcc.start s.now (s.meas.get k).distCount) 0 true) s
      s.endSweep.done

/-! ### STOP and the end of a run (R74) -/

/-- Holds and marks of cells outside RUN: hold IDLE, which takes an IN cell out of circuit (R30). -/
def State.idleCells (s : State) : State :=
  each allCells (fun s k =>
    (s.modCell k (fun c => { c with plan := [], walk := none, waiting := none, holdDone := false, resume := false })).beginHold
      k (fun c => { c with holdIdle := true })) s

/-- The STOP that ended the run is answered (R74). -/
def State.answerStop (s : State) : State :=
  match s.stopOrigin with
  | some o => (s.setStop none).replyLate o 0x51 (Result.of .ok)
  | none => s

/-- RUN is left for READY: the player is ARMED and a STOP in progress completes OK. -/
def State.finishRun (s : State) : State :=
  let s := if s.play.recorded then s else s.endStep s.now s.play.endCode (s.play.endCode == 3)
  let s := s.clearStep
  let s := s.enter .ready
  let s := s.modPlay (fun p => { p with
    st := .armed, pending := none, stepId := 0xFFFF, inExit := false,
    exitOver := false, zeroAcked := false, h := none })
  let s := s.idleCells.askRestart.abortSlice.dropSweep
  s.reviewAll.answerStop

/-- The run ends once the exit cycle is over and the zero frame has been acknowledged (R74 step 4). -/
def State.tryFinish (s : State) : State :=
  if s.play.st == .stopping && s.play.exitOver && s.play.zeroAcked then s.finishRun else s

/-- STOPPING is entered, with the zero frame. With SOURCE = EXTERNAL the master's frame is awaited, unless the target
in force is already 0 and answered. -/
def State.beginStopping (s : State) (code : Nat) (inExit : Bool) : State :=
  let s := each allCells (fun s k => s.cutSweep k) s
  let s := s.endSweep
  let s := s.modPlay (fun p => { p with
    st := .stopping, since := s.now, endCode := code, inExit := inExit, exitOver := false
    zeroAcked := s.externalSource && s.spc.target == 0 && s.spc.answered })
  s.sendTarget 0 true

/-- A STOP in RUN (R74, R93): the answer, or none where it comes when READY is reached. -/
def State.stopRun (s : State) (o : Origin) : State × Option Result :=
  match s.play.st with
  | .wait => (s.finishRun, some (Result.of .ok))
  | .hold | .play | .exit =>
    ((s.setStop (some o)).beginStopping 3 false, none)
  | .stopping => (s, some (Result.of .busy))
  | .empty | .armed | .halted => (s, some (Result.of .rejected))

/-- The records of the step in force, at the end of its exit cycle (R190): a cycle begins there. -/
def State.closeStep (s : State) : State :=
  if s.play.recorded then s
  else (s.endStep s.play.cycleStart s.play.endCode (s.play.endCode == 3)).clearStep

/-! ### Cycle boundaries (R68, R71, R73, R93) -/

/-- The end condition of the step: 1 DONE, 2 TIME, 0 not met. -/
def State.stepEndTest (s : State) : Nat :=
  let e := stepEnd s.active s.stepNo
  if e != 1 && s.allDone then 1
  else if e != 0 && decide ((stepLimit s.active s.stepNo : Rat) ≤ s.play.timeCount) then 2
  else 0

/-- A boundary inside the run of a step. -/
def State.playBoundary (s : State) (m : Nat) : State :=
  let s := s.countTime
  let s := each allCells (fun s k => s.takeDone m k) s
  match s.stepEndTest with
  | 0 =>
    let l := s.walkers
    let s := s.modPlay (fun p => { p with cycleStart := p.cycleStart + s.tCyc })
    let s := (each allCells (fun s k => s.advanceWalk true k) s).endSweep
    let s := s.evaluateAll m s.play.cycleStart l
    let s := s.putCells (s.cells.map (fun c => if c.walk.isSome then c else { c with rung := c.nextRung }))
    let h := s.highestRung
    let s := s.modPlay (fun p => { p with h := h })
    let t := s.requiredTarget h
    let s := if t ≠ s.play.target ∧ s.play.pending.isNone then s.sendTarget t false else s
    s.planAll false false
  | code =>
    let l := s.walkers
    let s := s.modPlay (fun p => { p with cycleStart := p.cycleStart + s.tCyc, endCode := code })
    let s := each allCells (fun s k => (s.advanceWalk false k).cutSweep k) s
    let s := s.endSweep.evaluateAll m s.play.cycleStart l
    let s :=
      if s.stepNo + 1 < imgSteps s.active then
        s.modPlay (fun p => { p with st := .exit, inExit := true, exitOver := false })
      else s.beginStopping code true
    s.planAll false true

/-- CYCLE_BOUNDARY (R73, R93). -/
def execCycleBoundary (s : State) : Host.Outcome State Fault Refusal :=
  if !s.cycling || decide (s.now < s.play.cycleStart + s.tCyc) then s.done
  else
    let m := s.play.cycles
    let s := s.modPlay (fun p => { p with cycles := (p.cycles + 1) % 2 ^ 32 })
    let next (s : State) : State := s.modPlay (fun p => { p with cycleStart := p.cycleStart + s.tCyc })
    match s.play.st with
    | .play => (s.playBoundary m).done
    | .hold =>
      let s := next s
      let ready := match s.play.answeredAt with
        | some t => decide (t + 20000 ≤ s.play.cycleStart)
        | none => false
      if ready && s.play.pending.isNone then s.entryCycle.done else s.done
    | .exit =>
      let s := (next s).closeStep
      let s := s.modPlay (fun p => { p with exitOver := true, inExit := false })
      if s.play.pending.isNone then (s.beginStep (s.stepNo + 1)).done else s.done
    | .stopping =>
      let s := next s
      if s.play.exitOver then s.done
      else if s.play.inExit then
        let s := if s.results.stepFrom.isSome then s.closeStep else s
        (s.modPlay (fun p => { p with exitOver := true, inExit := false })).tryFinish.done
      else ((s.modPlay (fun p => { p with inExit := true })).planAll false true).done
    | .empty | .armed | .wait | .halted => s.done

/-! ### Rung moves (R68) -/

/-- Steps of the move table passed by an error; the thresholds rise (R66, R68). -/
def moveIndex (l : List Byte) (ladder : Nat) (e : Int) : Nat → Nat → Nat
  | 0, i => i
  | n + 1, i => if ladThr l ladder i ≤ e then moveIndex l ladder e n (i + 1) else i

/-- Whether every move is 0 now: frozen, a frame pending, or too soon after an answer (R68, R71, R74). -/
def State.movesFrozen (s : State) : Bool :=
  s.flag Fld.playCtrlRungFreeze || s.play.pending.isSome || (s.externalSource && s.spc.pending.isSome) ||
    s.play.st != .play || s.tableSign == 0 ||
    (match s.play.answeredAt with
      | some t => decide (s.play.cycleStart < t + 20000)
      | none => false)

/-- The decision for one cell. -/
def State.moveCell (s : State) (k : Cell) : State :=
  let c := s.cells.get k
  if !(s.played k && s.modeOf k == 1 && c.inService && c.walk.isNone) then s
  else
    let move := if s.movesFrozen then 0
      else match s.cycleOutput k s.play.cycleStart (s.play.cycleStart + s.tCyc - 1000) with
        | some x => ladMv s.active (s.ladderOf k) (moveIndex s.active (s.ladderOf k) (s.tapErr k x) 15 0)
        | none => 0
    let r := (clampInt 0 ((ladRungs s.active (s.ladderOf k) : Int) - 1) ((c.rung : Int) + move)).toNat
    s.modCell k (fun c => { c with nextRung := r })

/-- RUNG_MOVE (R68): at the start of the last slot of a cycle a segment decides the moves of its cells. -/
def execRungMove (g : Seg) (s : State) : Host.Outcome State Fault Refusal :=
  let a := s.play.cycleStart + s.tCyc
  if s.cycling && s.play.st == .play && decide (a - 1000 ≤ s.now) && decide (s.now < a) then
    (each (cellsOf g) (fun s k => s.moveCell k) s).done
  else s.done

/-! ### Answers (R72) -/

/-- An answer reaches the player with SOURCE = INTERNAL. -/
def State.takeAnswer (s : State) (a : Answer) : State :=
  let mine := match s.play.pending with
    | some p => p.seq == a.seq && !a.unsol
    | none => false
  let zero := match s.play.pending with
    | some p => p.zero
    | none => false
  let close (s : State) : State := if mine then
      s.modPlay (fun p => { p with pending := none, answeredAt := some s.now }) else s
  if a.ack then (close s.clearDerated).modPlay (fun p => { p with zeroAcked := p.zeroAcked || (mine && zero) })
  else if a.cause = 1 then close s.setDerated
  else s.raise .stepNak none none (word a.seq) (word a.cause) (word s.stepNo)

/-- The same with SOURCE = EXTERNAL: the player sends no frames and takes note of the master's (R74, R126). -/
def State.noteAnswer (s : State) (a : Answer) : State :=
  let fresh := decide (s.play.since ≤ a.acceptedAt) && !a.unsol
  let note (s : State) : State := if s.play.st == .play || fresh then
      s.modPlay (fun p => { p with answeredAt := some s.now }) else s
  if a.ack then
    (note s.clearDerated).modPlay (fun p => { p with
      zeroAcked := p.zeroAcked || (p.st == .stopping && fresh && a.target == 0) })
  else if a.cause = 1 then note s.setDerated
  else s

/-- FRAME_ANSWER (R72): the next answer of the SPC reaches the player. -/
def execFrameAnswer (s : State) : Host.Outcome State Fault Refusal :=
  match s.spc.answers with
  | [] => s.done
  | a :: rest =>
    let s := s.modSpc (fun x => { x with answers := rest })
    if !s.cycling then s.done
    else
      let s := if s.externalSource then s.noteAnswer a else s.takeAnswer a
      if s.play.st == .exit && s.play.exitOver && s.play.pending.isNone then (s.beginStep (s.stepNo + 1)).done
      else s.tryFinish.done

/-- FRAME_DEADLINE (R72): no answer by the deadline. -/
def execFrameDeadline (s : State) : Host.Outcome State Fault Refusal :=
  match s.play.pending with
  | some p =>
    if s.cycling && decide (p.deadline ≤ s.now) then
      (s.raise .stepDeadline none none (word p.seq) 0 (word s.stepNo)).done
    else s.done
  | none => s.done

/-! ### RUN (R23, R31, R63, R126) -/

/-- T_s of a start time: the next multiple of 1000 ns (R62). -/
def startTime (t : Nat) : Nat := (t + 999) / 1000 * 1000

/-- A RUN is judged in READY. -/
def State.runCmd (s : State) (t : Nat) : Status × State :=
  let ts := startTime t
  if !s.hasActive || s.play.st != .armed || allCells.any (fun k => (s.cells.get k).st == .isOpen) ||
      decide (ts < s.now + 100000) || decide (s.now + 2 ^ 40 < ts) ||
      (s.externalSource && s.spc.link != 2) then (.rejected, s)
  else
    let s := s.enter .run
    let s := s.powerActive
    let s := s.modPlay (fun p => { p with
      st := .wait, ts := ts, cycles := 0, pending := none, answeredAt := none, recorded := true,
      zeroAcked := false, exitOver := false, inExit := false })
    let s := s.askRestart.abortSlice.modShunts (fun m => { m with noShuntRaised := false })
    let s := s.putCells (s.cells.map (fun c => { c with holdIdle := false, resume := false, plan := [] }))
    (.ok, s.reviewAll)

/-! ### The swap (R91) -/

/-- The active and staged banks are exchanged in the hub and every segment; the player has a flacon. -/
def State.swapBanks (s : State) : State :=
  let s := s.setSegs (s.segs.map (fun x => { x with shareActive := x.shareStaged, shareStaged := x.shareActive }))
  let s := s.modPlay (fun p => { p with
    active := p.staged, staged := p.active, bankNo := !p.bankNo, st := .armed, swapAt := none, swapStaged := false })
  s.reviewAll

/-- Whether a swap may take place: the staged bank VERIFIED, the player EMPTY or ARMED. -/
def State.canSwap (s : State) : Bool :=
  s.play.staged.verified && (s.play.st == .empty || s.play.st == .armed)

/-- A direct write of 1 to PLAY_CTRL.SWAP: accepted in READY, applied 100 µs later. -/
def State.directSwap (s : State) : Option State :=
  if s.st == .ready && s.canSwap then some (s.modPlay (fun p => { p with swapAt := some (s.now + 100000) })) else none

/-- SWAP_APPLIED: the time of a direct swap has come. -/
def execSwapApplied (s : State) : Host.Outcome State Fault Refusal :=
  match s.play.swapAt with
  | some t =>
    if s.now < t then s.done
    else if s.canSwap && s.st == .ready then s.swapBanks.done
    else (s.modPlay (fun p => { p with swapAt := none })).done
  | none => s.done

end Sys2Proof.Machine
end

