-- ==== Sys2Proof/Machine/SpcRows.lean ====
section
/-!
DEFINITION. The commands and events of the string power controller and the Step Link (chapter 04).
-/

namespace Sys2Proof.Machine

/-! ### Frames (R113, R126 to R128) -/

/-- The SPC's domain is on (R222). -/
def State.spcOn (s : State) : Bool := s.pwr.hubOn.getLsbD 3

/-- STEP_IN is read: pins enabled, frames taken from it (R126). -/
def State.stepInOn (s : State) : Bool :=
  s.spcOn && s.flag Fld.stepCtrlPinsEn && s.externalSource && s.spc.link != 0

/-- A frame is dropped and counted; it breaks a run of valid frames (R113, R127). -/
def State.dropFrame (s : State) : State :=
  s.modSpc (fun x => { x with crcErr := satAdd 0xFFFF x.crcErr 1, trainCount := if x.link = 1 then 0 else x.trainCount })

/-- The SPC judges a SET frame; holds follow a change of its sign (R30), and one with a non-zero target and no healthy
phase inhibits (R111, R113). -/
def State.takeFrame (s : State) (f : BitVec 64) (external : Bool) : State :=
  let old := s.setSign
  let r := s.judgeFrame f external
  let s := r.1.signFrom old
  if r.2 then (s.inhibit inhNoPhase).raise .noPhase none none 0 0 0 else s

/-- A frame arrives on STEP_IN: one with a wrong CRC or an unknown TYPE is dropped; any other is valid, and a SET frame
is judged when the link was UP before it. -/
def State.stepFrame (s : State) (f : BitVec 64) : State :=
  if !s.stepInOn then s
  else if !frCrcOk f || decide (1 < frType f) then s.dropFrame
  else
    let up := s.spc.link == 2
    let s := s.stepValid
    if up && frType f == 1 then s.takeFrame f true else s

/-- SET_FRAME (R113): the player's next frame, or one from STEP_IN. -/
def execSetFrame (ext : Option (BitVec 64)) (s : State) : Host.Outcome State Fault Refusal :=
  match ext with
  | some f => if frType f = 1 then (s.stepFrame f).done else s.done
  | none =>
    match s.spc.inbox with
    | [] => s.done
    | f :: rest =>
      let s := s.modSpc (fun x => { x with inbox := rest })
      if s.externalSource || !s.spcOn then s.done else (s.takeFrame f false).done

/-- STEP_IDLE (R128): a valid IDLE frame. -/
def execStepIdle (f : BitVec 64) (s : State) : Host.Outcome State Fault Refusal :=
  if frType f = 0 ∧ frCrcOk f then (s.stepFrame f).done else s.done

/-- STEP_FRAME_DROPPED (R113). -/
def execStepFrameDropped (f : BitVec 64) (s : State) : Host.Outcome State Fault Refusal :=
  if !frCrcOk f || decide (1 < frType f) then (s.stepFrame f).done else s.done

/-- The link has left UP: with SOURCE = EXTERNAL in RUN a pending frame is NAKed and the fault raised (R127). -/
def State.stepDown (s : State) : State :=
  if s.externalSource && s.inRun then s.nakPending.raise .stepLinkLost none none 0 0 0 else s

/-- STEP_LINK_LOST (R127): no valid frame for 8 µs. -/
def execStepLinkLost (s : State) : Host.Outcome State Fault Refusal :=
  if s.spc.link == 2 && decide (s.spc.lastValid + 8000 ≤ s.now) then
    (s.modSpc (fun x => { x with link := 1, trainCount := 0 })).stepDown.done
  else s.done

/-! ### Phases (R120 to R124) -/

/-- The target or the set-point is not zero while no phase is healthy (R111). -/
def State.checkNoPhase (s : State) : State :=
  if s.nHealthy = 0 && s.spc.st == .regulate && (s.spc.target != 0 || s.spc.setpoint != 0) then
    (s.inhibit inhNoPhase).raise .noPhase none none 0 0 0
  else s

/-- The set of healthy phases has changed: phases out of service are released, the capacity counts afresh, phases are
added as needed (R117, R120, R122); the dwell restarts where a phase has been released (R116). -/
def State.phasesChanged (s : State) : State :=
  let gone := s.activePhases.filter (fun p => !s.phaseHealthy p)
  let s := each gone (fun s p => s.releasePhase p) s
  let s := if gone.isEmpty then s else s.modSpc (fun x => { x with dwellFrom := none })
  let s := s.checkNoPhase.capacityChanged
  let s := if s.spc.st == .regulate then State.addPhases 8 s else s
  s.recentre.settleNoPhase

def causeBit : PhaseCause → Nat
  | .isOpen => 1
  | .sense => 2
  | .xchk => 4

/-- A phase is declared failed (R122); a toggle test is abandoned (R124). -/
def State.failPhase (s : State) (p : Phase) (c : PhaseCause) : State :=
  let s := s.modPhase p (fun x => { x with
    failed := true, fOpen := x.fOpen || c == .isOpen, fSense := x.fSense || c == .sense, fXchk := x.fXchk || c == .xchk })
  let s := s.endToggle.modSpc (fun x => { x with dOverFrom := none, dwellFrom := none })
  s.phasesChanged.raise .phaseFailed none none (word p.val) (word (causeBit c)) 0

/-- Current of a phase from its latest sense code, in µA. -/
def State.phaseMicro (s : State) (p : Phase) : Int := divI (s.phaseNano p (s.spc.phases.get p).code) 1000

/-- Within 10 % of its share (R120). -/
def State.atShare (s : State) (p : Phase) : Bool :=
  decide (10 * (s.phaseMicro p - (s.spc.phases.get p).centre).natAbs ≤ (s.spc.phases.get p).centre.natAbs)

/-- ADD_TIMEOUT (R120). -/
def execAddTimeout (p : Phase) (s : State) : Host.Outcome State Fault Refusal :=
  match (s.spc.phases.get p).addedAt with
  | some t => if t + 50000 ≤ s.now ∧ !s.atShare p then (s.failPhase p .isOpen).done else s.done
  | none => s.done

/-- A criterion of R122 is met: PH_PWMn high for longer than SPC_TON_MAX, or an addition timed out; too little movement
in two periods in a row, or movement against PH_PWMn in two intervals in a row. XCHK is named by TOGGLE_TEST_END alone. -/
def State.failureShown (s : State) (p : Phase) (c : PhaseCause) : Bool :=
  let x := s.spc.phases.get p
  match c with
  | .isOpen =>
    (x.pwm == .high && (match x.switchedAt with
      | some t => decide (t + 10 * s.fld Fld.spcTonMaxTonMax < s.now)
      | none => false)) ||
    (match x.addedAt with
      | some t => decide (t + 50000 ≤ s.now) && !s.atShare p
      | none => false)
  | .sense => decide (2 ≤ x.stuckRun) || decide (2 ≤ x.wrongRun)
  | .xchk => false

/-- PHASE_FAILED (R122) for an active phase. -/
def execPhaseFailed (p : Phase) (c : PhaseCause) (s : State) : Host.Outcome State Fault Refusal :=
  if (s.spc.phases.get p).active && s.failureShown p c then (s.failPhase p c).done else s.done

/-- A write of 1 to FAILED[n] (R134): the phase returns to service through R120. -/
def State.clearFailed (s : State) (bits : Nat) : State :=
  let s := each (allPhases.filter (fun p => bits.testBit p.val && (s.spc.phases.get p).failed)) (fun s p =>
    s.modPhase p (fun x => { x with failed := false, fOpen := false, fSense := false, fXchk := false })) s
  s.phasesChanged

/-- PHASE_SHED (R121): the active phase with the highest index begins to hand over its share, which takes 10 µs. -/
def execPhaseShed (s : State) : Host.Outcome State Fault Refusal :=
  let dwell := 10000 * s.fld Fld.spcShedCfgShedDwell
  match s.spc.shedFrom, s.activePhases.getLast? with
  | some t, some p =>
    if s.spc.st == .regulate && s.spc.pending.isNone && s.spc.answered && s.spc.toggle.isNone &&
        decide (Nat.max t s.spc.answeredAt + dwell ≤ s.now) && decide (s.fld Fld.spcShedCfgMinActive < s.nActive) &&
        decide (s.fld Fld.spcShedCfgShedPct < s.fld Fld.spcShedCfgAddPct) && s.moving.isEmpty then
      ((s.modPhase p (fun x => { x with shedAt := some s.now, handAt := none })).modSpc
        (fun x => { x with shedFrom := none })).recentre.done
    else s.done
  | _, _ => s.done

/-- PHASES_RELEASED (R111): a zero target has been acknowledged and SHED_DWELL has passed. -/
def execPhasesReleased (s : State) : Host.Outcome State Fault Refusal :=
  if s.spc.st == .regulate && s.spc.target == 0 && s.spc.setpoint == 0 && s.spc.answered && s.spc.pending.isNone &&
      !s.spc.disabling && decide (s.spc.answeredAt + 10000 * s.fld Fld.spcShedCfgShedDwell ≤ s.now) then
    (s.stageOff.modSpc (fun x => { x with st := .standby, shedFrom := none, dwellFrom := none, dOverFrom := none })).done
  else s.done

/-! ### Windows (R105 to R108) -/

/-- A window width between W_MIN and 4095 codes. -/
def State.clampWidth (s : State) (w : Int) : Nat :=
  let lo := s.fld Fld.spcFswTargetWMin
  (clampInt lo (Nat.max lo 4095) w).toNat

/-- Every width lies within its bounds (R106). -/
def State.clampWidths (s : State) : State :=
  s.modSpc (fun x => { x with phases := x.phases.map (fun p => { p with width := s.clampWidth p.width }) })

/-- The target period, in ns. -/
def State.targetPeriod (s : State) : Nat := 1000000 / Nat.max 1 (s.fld Fld.spcFswTargetFswKhz)

/-- One adjustment after a period: at most a sixteenth, towards the target period; its size is a free value. -/
def State.adaptWidth (s : State) (p : Phase) (periodNs : Nat) : State :=
  if periodNs = 0 ∨ periodNs = s.targetPeriod then s
  else
    let (v, s) := s.freeBits
    let w := (s.spc.phases.get p).width
    let d : Int := ((v.toNat % (w / 16 + 1) : Nat) : Int)
    let w' := s.clampWidth (if s.targetPeriod < periodNs then (w : Int) - d else (w : Int) + d)
    s.modPhase p (fun x => { x with width := w' })

/-- nA per code of a phase (R104, R139). -/
def State.codeNano (s : State) (p : Phase) : Int := 732 * (s.fld (Fld.spcSenseGainGain p.val) : Int)

/-- The 12-bit code at which a phase's sense shows a current in nA (R104, R105). -/
def State.codeOf (s : State) (p : Phase) (nano : Int) : Nat :=
  let d := divI nano (s.codeNano p)
  (clampInt 0 4095 ((s.fld (Fld.spcSenseOffsetOffset p.val) : Int) + (if s.flag (Fld.spcSenseGainInvert p.val) then -d else d))).toNat

/-- The lowest active phase is the leader of interleaving (R107). -/
def State.isLeader (s : State) (p : Phase) : Bool := s.activePhases.head? == some p

/-- How far interleaving moves a phase's window, in nA: the leader's makes the sum of all 0, so that the sum of the
centres is unchanged (R107). -/
def State.shiftOf (s : State) (p : Phase) : Int :=
  if !s.flag Fld.spcCtrlIlvEn then 0
  else if s.isLeader p then
    -(sumInt ((s.activePhases.filter (fun q => q != p)).map (fun q => (s.spc.phases.get q).shift)))
  else (s.spc.phases.get p).shift

/-- The centre of a phase's window in nA, within ±IMAX (R105). -/
def State.windowCentre (s : State) (p : Phase) : Int :=
  clampInt (-(1000 * (s.imax : Int))) (1000 * s.imax) (1000 * (s.spc.phases.get p).centre + s.shiftOf p)

/-- The two DAC thresholds of a phase: the codes of c_n - w_n/2 and c_n + w_n/2 (R105). -/
def State.thresholds (s : State) (p : Phase) : Nat × Nat :=
  let half := s.codeNano p * (s.spc.phases.get p).width / 2
  (s.codeOf p (s.windowCentre p - half), s.codeOf p (s.windowCentre p + half))

/-- The sensed current has fallen to a threshold; with INVERT the code rises as the current falls. -/
def State.fallenTo (s : State) (p : Phase) (code thr : Nat) : Bool :=
  if s.flag (Fld.spcSenseGainInvert p.val) then decide (thr ≤ code) else decide (code ≤ thr)

/-- The sensed current has risen to a threshold. -/
def State.risenTo (s : State) (p : Phase) (code thr : Nat) : Bool :=
  if s.flag (Fld.spcSenseGainInvert p.val) then decide (code ≤ thr) else decide (thr ≤ code)

/-- An interval of PH_PWMn ends at a code: its length, whether the sense moved by less than w_n/8 over it, whether it
moved the wrong way (R122). `rising` tells an on-interval of a sense that is not inverted. -/
def PhaseSt.interval (x : PhaseSt) (code now : Nat) (rising : Bool) : Nat × Bool × Bool :=
  match x.switchedAt with
  | none => (0, false, false)
  | some t =>
    let moved := ((code : Int) - x.fromCode).natAbs
    (now - t, decide (8 * moved < x.width), if rising then decide (code < x.fromCode) else decide (x.fromCode < code))

/-- PH_PWMn goes low: the on-interval ends. -/
def PhaseSt.turnOff (x : PhaseSt) (code now : Nat) (inverted : Bool) : PhaseSt :=
  let i := x.interval code now (!inverted)
  { x with
    pwm := .low, switchedAt := some now, fromCode := code, onNs := i.1, stuckNow := i.2.1
    wrongRun := if i.2.2 then x.wrongRun + 1 else 0 }

/-- PH_PWMn goes high: the off-interval and the period end. -/
def PhaseSt.turnOn (x : PhaseSt) (code now : Nat) (inverted : Bool) : PhaseSt :=
  let i := x.interval code now inverted
  { x with
    pwm := .high, switchedAt := some now, fromCode := code, onAt := some now, offNs := i.1, stuckNow := false
    stuckRun := if x.stuckNow || i.2.1 then x.stuckRun + 1 else 0
    wrongRun := if i.2.2 then x.wrongRun + 1 else 0 }

/-- How late a phase has turned on against its place in the leader's period, in ns (R107); early is negative. -/
def State.turnOnError (s : State) (p : Phase) : Option Int :=
  match s.activePhases.head?, s.activePhases.findIdx? (fun q => q == p) with
  | some l, some m =>
    let x := s.spc.phases.get l
    let t := x.onNs + x.offNs
    match x.onAt with
    | some a =>
      if t = 0 then none
      else
        let e := (((s.now : Int) - a) - ((m * t / s.nActive : Nat) : Int)) % (t : Int)
        some (if (t : Int) < 2 * e then e - t else e)
    | none => none
  | _, _ => none

/-- Interleaving steers the turn-on of a phase that is not the leader by moving its window by up to an eighth of its
width, up where it turned on late and down where early; how far is a free value (R107). -/
def State.interleave (s : State) (p : Phase) : State :=
  if !s.flag Fld.spcCtrlIlvEn || s.isLeader p then s
  else match s.turnOnError p with
    | none => s
    | some e =>
      let (v, s) := s.freeBits
      let most := (s.codeNano p * ((s.spc.phases.get p).width / 8 : Nat)).toNat
      let d : Int := ((v.toNat % (most + 1) : Nat) : Int)
      s.modPhase p (fun x => { x with shift := if 0 < e then d else if e < 0 then -d else 0 })

/-- PHASE_SWITCH (R105): the sense of a phase reaches a threshold of its window. -/
def execPhaseSwitch (p : Phase) (code : Nat) (s : State) : Host.Outcome State Fault Refusal :=
  let x := s.spc.phases.get p
  if !x.active || s.spc.st != .regulate then s.done
  else
    let thr := s.thresholds p
    let inv := s.flag (Fld.spcSenseGainInvert p.val)
    let s := s.modPhase p (fun x => { x with code := code })
    if s.fallenTo p code thr.1 then
      if x.pwm == .high then s.done
      else
        let s := s.modPhase p (fun x => x.turnOn code s.now inv)
        let y := s.spc.phases.get p
        ((s.adaptWidth p (if y.onNs = 0 then 0 else y.onNs + y.offNs)).interleave p).done
    else if s.risenTo p code thr.2 then
      (if x.pwm == .low then s else s.modPhase p (fun x => x.turnOff code s.now inv)).done
    else s.done

/-- The fed-forward transitions whose rescale is due; a kept cell's no longer counts (R52, R108). -/
def State.feedDue (s : State) : List FeedEdge :=
  s.spc.feed.filter (fun e => !e.used && decide (e.tp + 300 ≤ s.now) && (s.cells.get e.cell).st != .keep)

/-- WINDOW_RESCALE (R108): 300 ns after t_p every active phase takes the width predicted for the target period at the
new string voltage, within the limits of R106. -/
def execWindowRescale (s : State) : Host.Outcome State Fault Refusal :=
  let due := s.feedDue
  if s.flag Fld.spcCtrlFfEn && s.spc.st == .regulate && s.inRun && !due.isEmpty then
    let new : Int := s.vEst
    let old := new - sumInt (due.map (fun e => if e.toIn then e.mv else -e.mv))
    let s := each s.activePhases (fun s p =>
      let x := s.spc.phases.get p
      let w := s.clampWidth (Config.rescaledWidth x.onNs x.offNs old new s.targetPeriod x.width : Nat)
      s.modPhase p (fun x => { x with width := w })) s
    (s.modSpc (fun x => { x with feed := x.feed.map (fun e =>
      if e.tp + 300 ≤ s.now then { e with used := true } else e) })).done
  else s.done

/-! ### V_est (R109) -/

/-- The times for which V_est has been above, or at or below, its limit. -/
def State.watchV (s : State) : State :=
  let high := decide (s.vLimit < s.vEst)
  let s := s.modSpc (fun x => { x with
    vOverFrom := if high then some (x.vOverFrom.getD s.now) else none
    vUnderFrom := if high then none else some (x.vUnderFrom.getD s.now) })
  match s.spc.vUnderFrom with
  | some t => if s.hasInh inhVstring && decide (t + 10000 ≤ s.now) then s.endInhibit inhVstring else s
  | none => s

/-- VSTRING (R109). -/
def execVstring (s : State) : Host.Outcome State Fault Refusal :=
  match s.spc.vOverFrom with
  | some t =>
    if t + 10000 ≤ s.now ∧ s.vLimit < s.vEst ∧ !s.hasInh inhVstring then
      ((s.inhibit inhVstring).raise .vstring none none (word s.vEst) 0 0).done
    else s.done
  | none => s.done

/-! ### The set-point, each microsecond (R104, R115, R116, R120, R121, R123) -/

/-- D = I_fast - I_shunt, in µA (R123); none while no shunt is in use. -/
def State.crossD (s : State) : Option Int :=
  if s.shuntInUse false || s.shuntInUse true then s.shunts.iShunt.map (fun i => s.spc.iFast - i) else none

/-- |D| above LIMIT. -/
def State.dOver (s : State) : Bool :=
  match s.crossD with
  | some d => decide (10000 * s.fld Fld.spcXcheckCfgLimit < d.natAbs)
  | none => false

/-- Sense samples of the last microsecond are taken. -/
def State.takeCodes (s : State) (codes : List (List Nat)) : State :=
  match codes.getLast? with
  | none => s
  | some last =>
    let i := s.fastCurrent codes
    s.modSpc (fun x => { x with
      iFast := i, iMilli := x.iMilli + i, iMilliN := x.iMilliN + 1
      phases := x.phases.mapIdx (fun n p => { p with code := last.getD n p.code }) })

/-- Hand-overs that have lasted 10 µs end: the phase carries its share, or is released and the dwell restarts (R120,
R121). -/
def State.settleHand (s : State) : State :=
  let s := each allPhases (fun s p =>
    match (s.spc.phases.get p).handAt with
    | some t => if t + 10000 ≤ s.now then s.modPhase p (fun x => { x with handAt := none }) else s
    | none => s) s
  each allPhases (fun s p =>
    match (s.spc.phases.get p).shedAt with
    | some t =>
      if t + 10000 ≤ s.now then (s.releasePhase p).modSpc (fun x => { x with shedFrom := none, dwellFrom := none }) else s
    | none => s) s

/-- The toggle test (R123): each phase in turn is released for 100 µs, D is taken over the last 50 µs of that, the phase
returns over 10 µs and 40 µs of recovery follow. -/
def State.toggleStep (s : State) : State :=
  match s.spc.toggle with
  | none => s
  | some t =>
    let e := s.now - t
    let r := e % 150000
    match s.spc.toggleList[e / 150000]? with
    | none => s
    | some p =>
      let out := !(s.spc.phases.get p).active
      if r < 100000 then
        let s := if out then s else s.modPhase p PhaseSt.idle
        match decide (50000 ≤ r), s.crossD with
        | true, some d => s.modSpc (fun x => { x with togSum := x.togSum + d, togN := x.togN + 1 })
        | _, _ => s
      else if out then
        let s := s.modPhase p (fun x => { x with active := true, handAt := some s.now })
        s.modSpc (fun x => { x with
          togD := x.togD ++ [if x.togN = 0 then none else some (divI x.togSum x.togN)], togSum := 0, togN := 0 })
      else s

/-- A phase that has reached its share is no longer being added. -/
def State.settleAdded (s : State) : State :=
  each allPhases (fun s p =>
    match (s.spc.phases.get p).addedAt with
    | some t => if t + 10000 ≤ s.now ∧ s.atShare p then s.modPhase p (fun x => { x with addedAt := none }) else s
    | none => s) s

/-- The ramp waits for phases being added, and for a toggle test (R120, R124). -/
def State.rampHeld (s : State) : Bool :=
  s.spc.toggle.isSome || allPhases.any (fun p => (s.spc.phases.get p).addedAt.isSome)

/-- One ramp step of one ramp rate × 1 µs. -/
def State.rampOne (s : State) : State :=
  if !s.spc.ramping || s.rampHeld then s
  else
    let d := s.spc.delivered - s.spc.setpoint
    let sp := if d.natAbs ≤ s.spc.ramp then s.spc.delivered
      else if 0 < d then s.spc.setpoint + s.spc.ramp else s.spc.setpoint - s.spc.ramp
    s.modSpc (fun x => { x with setpoint := sp, ramping := decide (sp ≠ x.delivered) })

/-- I_fast lies within STEP_ACK_WINDOW of the delivered target. -/
def State.inWindow (s : State) : Bool :=
  decide ((s.spc.iFast - s.spc.delivered).natAbs ≤ 50 * s.fld Fld.stepAckWindowWindow)

/-- The timers of the dwell, of shedding and of the cross-check. -/
def State.spcTimers (s : State) : State :=
  let settled := s.spc.setpoint == s.spc.delivered && s.inWindow && s.spc.st == .regulate
  let n := s.nActive
  let shed := s.spc.st == .regulate && s.spc.pending.isNone && s.spc.answered && decide (1 < n) &&
    decide (100 * s.spc.setpoint.natAbs < s.fld Fld.spcShedCfgShedPct * s.imax * (n - 1))
  let cross := s.spc.st == .regulate && s.flag Fld.spcCtrlXcheckEn && s.spc.toggle.isNone && s.dOver
  s.modSpc (fun x => { x with
    dwellFrom := if settled then some (x.dwellFrom.getD s.now) else none
    shedFrom := if shed then some (x.shedFrom.getD s.now) else none
    dOverFrom := if cross then some (x.dOverFrom.getD s.now) else none })

/-- RAMP_STEP (R115): at most one each microsecond; `codes` are the samples of the last microsecond. -/
def execRampStep (codes : List (List Nat)) (s : State) : Host.Outcome State Fault Refusal :=
  let early := match s.spc.rampFrom with
    | some t => decide (s.now < t + 1000)
    | none => false
  if early || !s.spcOn then s.done
  else
    let s := s.modSpc (fun x => { x with rampFrom := some s.now })
    let s := (s.takeCodes codes).settleAdded.stepOutIdle
    match s.spc.st with
    | .regulate =>
      let s := s.toggleStep.settleHand.rampOne.recentre
      let s := if s.spc.pending.isNone && !s.spc.ramping && s.nActive != 0 && s.spc.toggle.isNone &&
          decide (s.fld Fld.spcShedCfgAddPct * s.imax * s.nActive < 100 * s.spc.setpoint.natAbs) then s.addPhase else s
      let s := s.spcTimers
      if s.spc.disabling && s.spc.setpoint == 0 then
        (s.stageOff.modSpc (fun x => { x with st := .disabled, disabling := false, toggle := none })).watchV.done
      else s.watchV.done
    | .inhibited =>
      let s := if s.spc.pending.isSome && s.inWindow then s.answerLast true 0 else s
      s.settleNoPhase.watchV.done
    | .disabled | .standby => s.watchV.done

/-- DWELL_COMPLETE (R116, R117). -/
def execDwellComplete (s : State) : Host.Outcome State Fault Refusal :=
  match s.spc.dwellFrom with
  | some t =>
    if s.spc.st == .regulate && s.spc.setpoint == s.spc.delivered && s.spc.toggle.isNone &&
        decide (t + 1000 * s.fld Fld.stepAckDwellDwellUs ≤ s.now) then
      let full := s.spc.delivered == s.spc.target * 50
      let cause := if full then 0 else 1
      if s.spc.pending.isSome then (s.answerLast full cause).done
      else if s.spc.unsolDue then
        ((s.modSpc (fun x => { x with unsolDue := false })).sendAnswer
          ⟨full, s.spc.forceSeq, true, cause, s.spc.target, s.spc.acceptedAt⟩).done
      else s.done
    else s.done
  | none => s.done

/-- DEADLINE_MISS (R119): a frame from STEP_IN is still pending at its deadline. -/
def execDeadlineMiss (s : State) : Host.Outcome State Fault Refusal :=
  match s.spc.pending with
  | some f =>
    if f.external && decide (f.acceptedAt + 1000 * frDeadline f.raw ≤ s.now) then
      ((s.modSpc (fun x => { x with pending := none })).raise .deadlineMiss none none (word (frSeq f.raw)) 0 0).done
    else s.done
  | none => s.done

/-! ### The toggle test (R123, R124) -/

/-- An unresolved test: a fault, of class HALT at the third in a row, and a retry later. -/
def State.unresolvedTest (s : State) (d : Int) : State :=
  let n := s.spc.unresolved + 1
  let s := s.modSpc (fun x => { x with
    unresolved := if 3 ≤ n then 0 else n, retryAt := some (s.now + 1000000 * s.fld Fld.spcXcheckCfgRetryMs) })
  s.raise (if 3 ≤ n then .xchkHalt else .xchkUnresolved) none none (wordI d) 0 0

/-- A toggle test starts; with one active phase another is added first, and without one to add the test is
unresolved. -/
def State.startToggle (s : State) : State :=
  let s := s.modSpc (fun x => { x with dOverFrom := none, retryAt := none })
  let s := if s.nActive < 2 then s.addPhase else s
  if s.nActive < 2 then s.unresolvedTest (s.crossD.getD 0)
  else (s.modSpc (fun x => { x with
    toggle := some s.now, toggleList := s.activePhases, togSum := 0, togN := 0, togD := [] })).capacityChanged

/-- Conditions of the cross-check. -/
def State.crossReady (s : State) : Bool :=
  s.spc.st == .regulate && s.flag Fld.spcCtrlXcheckEn && s.spc.toggle.isNone && s.dOver

/-- TOGGLE_TEST (R123): |D| above LIMIT for 20 µs. -/
def execToggleTest (s : State) : Host.Outcome State Fault Refusal :=
  match s.spc.dOverFrom with
  | some t =>
    if s.crossReady && s.spc.retryAt.isNone && decide (t + 20000 ≤ s.now) then s.startToggle.done else s.done
  | none => s.done

/-- The phases whose D_m is within LIMIT / 2 (R123). -/
def State.named (s : State) : List Phase :=
  let lim := 10000 * s.fld Fld.spcXcheckCfgLimit
  ((s.spc.toggleList.zip s.spc.togD).filter (fun e => match e.2 with
    | some d => decide (2 * d.natAbs ≤ lim)
    | none => false)).map Prod.fst

/-- TOGGLE_TEST_END (R123): exactly one phase named is failed, otherwise the test is unresolved. -/
def execToggleTestEnd (s : State) : Host.Outcome State Fault Refusal :=
  match s.spc.toggle with
  | none => s.done
  | some t =>
    if s.now < t + 150000 * s.spc.toggleList.length then s.done
    else
      let named := s.named
      let s := s.endToggle.modSpc (fun x => { x with dwellFrom := none })
      match named with
      | [p] => ((s.modSpc (fun x => { x with unresolved := 0 })).failPhase p .xchk).done
      | _ => (s.capacityChanged.unresolvedTest (s.crossD.getD 0)).done

/-- TOGGLE_RETRY (R123). -/
def execToggleRetry (s : State) : Host.Outcome State Fault Refusal :=
  match s.spc.retryAt with
  | some t =>
    if s.now < t then s.done
    else if s.crossReady then s.startToggle.done
    else (s.modSpc (fun x => { x with retryAt := none })).done
  | none => s.done

/-! ### Peak (R111, R136) -/

/-- A sense code beyond ±IPEAK. -/
def State.peakOver (s : State) (p : Phase) (code : Nat) : Bool := decide (1000 * s.ipeak < (s.phaseNano p code).natAbs)

/-- PEAK: an inhibit, and a fault when the cause arises. -/
def execPeak (p : Phase) (code : Nat) (s : State) : Host.Outcome State Fault Refusal :=
  if s.spcOn && s.phaseEnabled p && s.peakOver p code then
    let s := s.modPhase p (fun x => { x with code := code })
    if s.hasInh inhPeak then s.done
    else
      ((s.inhibit inhPeak).raise .peak none none (word p.val) (wordI (divI (s.phaseNano p code) 10000000)) 0).done
  else s.done

/-- PEAK_CLEAR: every phase sense is within ±IPEAK. -/
def execPeakClear (codes : List Nat) (s : State) : Host.Outcome State Fault Refusal :=
  if allPhases.all (fun p => !s.phaseEnabled p || !s.peakOver p (codes.getD p.val 0)) then
    ((s.modSpc (fun x => { x with phases := x.phases.mapIdx (fun n p => { p with code := codes.getD n p.code }) })).endInhibit
      inhPeak).done
  else s.done

/-! ### Writes (R111, R126, R134) -/

/-- SPC_CTRL.EN changes. -/
def State.wroteSpcEn (s : State) (was now : Bool) : State :=
  match s.spc.st, was, now with
  | .disabled, false, true =>
    if s.spc.causes = 0 then s.modSpc (fun x => { x with st := .standby })
    else s.stageOff.modSpc (fun x => { x with st := .inhibited, target := 0, delivered := 0, setpoint := 0 })
  | .regulate, false, true => s.modSpc (fun x => { x with disabling := false })
  | .standby, true, false => s.modSpc (fun x => { x with st := .disabled })
  | .regulate, true, false =>
    ((s.nakPending.endToggle.retarget 0).modSpc (fun x => { x with
      target := 0, delivered := 0, ramp := s.fld Fld.spcRampLimitRate, ramping := decide (x.setpoint ≠ 0)
      disabling := true, unsolDue := false })).signFrom s.setSign
  | _, _, _ => s

/-- SPC_PHASE_ENABLE, IMAX or SHED_CFG have been written: the capacity counts afresh. -/
def State.wroteCapacity (s : State) : State := s.phasesChanged

/-- STEP_CTRL has been written: a change of SOURCE sets SYNC, PINS_EN starts or ends the link (R114, R127). -/
def State.wroteStepCtrl (s : State) (sourceChanged : Bool) : State :=
  let pins := s.flag Fld.stepCtrlPinsEn && !s.sliceFailed 63
  let lost := s.spc.link == 2 && !pins
  let s := s.modSpc (fun x => { x with
    sync := x.sync || sourceChanged
    link := if !pins then 0 else if x.link = 0 then 1 else x.link
    trainCount := if !pins || x.link = 0 then 0 else x.trainCount
    lastValid := if x.link = 0 then s.now else x.lastValid })
  if lost then s.stepDown else s

/-- The orphan ramp (R111, R282): an internal zero target at the orphan rate; a pending frame is NAKed. -/
def State.orphanRamp (s : State) (rate : Nat) : State :=
  match s.spc.st with
  | .regulate =>
    (s.nakPending.endToggle.retarget 0).modSpc (fun x => { x with
      target := 0, delivered := 0, ramp := rate, ramping := decide (x.setpoint ≠ 0), answered := false
      orphanRamp := true, unsolDue := false, dwellFrom := none, shedFrom := none })
  | .disabled | .standby | .inhibited => s

end Sys2Proof.Machine
end

