-- ==== Sys2Proof/Machine/Measure.lean ====
section
/-!
DEFINITION. Cell and string measurement (chapter 05): slot conversions, filters, windows, the verifier, bursts, the
shunts and the streams. Voltages are in µV, currents in µA.
-/

namespace Sys2Proof.Machine

/-! ### Streams (R174, R175) -/

/-- A stream word. -/
def streamWord (value : Int) (source stamp : Nat) (dist served isIn sat half : Bool) : BitVec 64 :=
  BitVec.ofNat 64 (unsigned 24 value + source * 2 ^ 24 + (if dist then 2 ^ 32 else 0) + (if served then 2 ^ 33 else 0) +
    (if isIn then 2 ^ 34 else 0) + (if sat then 2 ^ 35 else 0) + (if half then 2 ^ 36 else 0) +
    stamp / 1000 % 2 ^ 24 * 2 ^ 40)

/-- The limit of 40 Mbit/s: words in one millisecond. -/
def streamLimit : Nat := 625

/-- A segment streams a kind of sample. -/
def State.streams (s : State) (g : Seg) (kind : Nat) : Bool :=
  s.shunts.strOn && s.shunts.strLive.getLsbD g.val && s.shunts.strKinds.getLsbD kind

/-- A word leaves a segment's stream, or is dropped over the limit; a gap word comes first when sending resumes. -/
def State.streamOut (s : State) (g : Seg) (w : BitVec 64) : State :=
  let ms := s.now / 1000000
  let s := if ms = s.shunts.strMs then s
    else s.modShunts (fun m => { m with strMs := ms, strSent := m.strSent.map (fun _ => 0) })
  let gap := s.shunts.strDropped.get g
  let need := if gap = 0 then 1 else 2
  if s.shunts.strSent.get g + need ≤ streamLimit then
    let ws := if gap = 0 then [w] else
      [streamWord (Nat.min gap 0x7FFFFF) 0xFE s.now false false false false false, w]
    (s.modShunts (fun m => { m with
      strSent := m.strSent.modify g (· + need), strDropped := m.strDropped.set g 0 })).sendUp g (.stream ws)
  else s.modShunts (fun m => { m with
    strDropped := m.strDropped.modify g (· + 1), drops := satAdd 0xFFFF m.drops 1 })

/-- A cell's sample enters its segment's stream. -/
def State.streamCell (s : State) (k : Cell) (kind source : Nat) (x : Sample) (value : Int) : State :=
  if s.streams (segOf k) kind && inSet s.shunts.strCells k then
    s.streamOut (segOf k) (streamWord value (source + localOf k) x.stamp x.disturbed x.served x.isIn x.sat false)
  else s

/-! ### Outputs (R151, R158, R159) -/

/-- The value that marks a DISTURBED output. -/
def disturbedValue : Int := -8388608

/-- An output reaches the rung decision, the hub and the stream. -/
def State.release (s : State) (k : Cell) (x : Sample) : State :=
  let s := s.modMeas k (fun m => { m with lastOut := some x, lastUsable := if x.disturbed then m.lastUsable else some x })
  let s := s.sendUp (segOf k) (.output k 0 x)
  s.streamCell k 0 0 x x.value

/-- An OCV sample reaches the hub and the stream. -/
def State.releaseOcv (s : State) (k : Cell) (x : Sample) : State :=
  let s := s.modMeas k (fun m => { m with lastOcv := some x })
  (s.sendUp (segOf k) (.output k 1 x)).streamCell k 1 0x10 x x.value

/-- The neighbour of a boundary cell in another segment (R159). -/
def farNeighbour (k : Cell) : Option Cell :=
  if localOf k = 0 then (if k.val = 0 then none else some (cell (k.val - 1)))
  else if localOf k = 15 then (if k.val = 255 then none else some (cell (k.val + 1)))
  else none

/-- The sample is delivered with DISTURBED set. -/
def asDisturbed (x : Sample) : Sample := { x with value := disturbedValue, disturbed := true }

/-- A held sample is delivered, valid or not. -/
def State.releaseAs (s : State) (k : Cell) (h : Held) (valid : Bool) : State :=
  let x := if valid then h.sample else asDisturbed h.sample
  if h.ocv then s.releaseOcv k x else s.release k x

/-- A boundary cell's sample waits for the cover of its neighbour; within a time without cover it is DISTURBED. -/
def State.hold (s : State) (k : Cell) (h : Held) : State :=
  let m := s.meas.get k
  if (farNeighbour k).isNone || h.sample.disturbed || decide (h.upTo ≤ m.cover) then s.releaseAs k h true
  else if m.coverLost then s.releaseAs k h false
  else s.modMeas k (fun m => { m with heldOuts := m.heldOuts ++ [h] })

/-- An output of the filter. -/
def State.output (s : State) (k : Cell) (x : Sample) : State := s.hold k ⟨false, x.stamp, x.stamp, x⟩

/-- A time without cover begins: one disturbance from the latest instant covered, if the gate is open (R159). -/
def State.loseCover (s : State) (k : Cell) : State :=
  let m := s.meas.get k
  if m.coverLost then s
  else
    let s := s.modMeas k (fun m => { m with coverLost := true, touch := Nat.max m.touch s.now })
    if s.gateMeets k m.cover s.now then s.countDist k m.cover s.now else s

/-- COVER_TIMEOUT (R159): 20 µs after its stamp, or at once when the neighbouring segment's link is lost. -/
def execCoverTimeout (k : Cell) (s : State) : Host.Outcome State Fault Refusal :=
  match (s.meas.get k).heldOuts with
  | [] => s.done
  | h :: rest =>
    let lost := match farNeighbour k with
      | some j => !s.linkUp (segOf j)
      | none => false
    if lost || decide (h.upTo + 20000 ≤ s.now) then
      (((s.modMeas k (fun m => { m with heldOuts := rest })).loseCover k).releaseAs k h false).done
    else s.done

/-- The cover of a boundary cell is received again from a time t on: the time without it ends. -/
def State.resumeCover (s : State) (k : Cell) (t : Nat) : State :=
  let m := s.meas.get k
  if m.coverLost then
    let s := if s.gateMeets k m.cover t then s.countDist k m.cover t else s
    s.modMeas k (fun m => { m with coverLost := false, touch := Nat.max m.touch t })
  else s

/-- Cover of a boundary cell has reached a time: samples up to it are delivered, those of a time without cover
DISTURBED, and so is an OCV sample that a neighbour's disturbance touches (R155, R159). -/
def State.coverTo (s : State) (k : Cell) (t : Nat) : State :=
  let m := s.meas.get k
  let s := s.resumeCover k t
  let s := s.modMeas k (fun m => { m with
    cover := Nat.max m.cover t, heldOuts := m.heldOuts.filter (fun h => decide (t < h.upTo)) })
  let touched (h : Held) : Bool := h.ocv && m.nearDist.any (fun d => meets d.1 d.2 h.from_ h.upTo)
  each (m.heldOuts.filter (fun h => decide (h.upTo ≤ t))) (fun s h =>
    s.releaseAs k h (!m.coverLost && !touched h)) s

/-! ### The filter (R150 to R154) -/

/-- Outputs per 10^5 µs of a corner: the output period P is 10^5 µs divided by this (R150). -/
def rateOf (corner : Nat) : Nat := if corner = 7 then 8192 else 4 ^ corner

/-- G at which output j is due: ceil(j × P). -/
def outputAt (corner j : Nat) : Nat := (j * 100000 + rateOf corner - 1) / rateOf corner

/-- Six times the part of the weight of a third-order sinc with the span 3P that lies before x, in units of P³; x and P
in the same unit (R150). -/
def sincBefore (p x : Nat) : Int :=
  ((x ^ 3 : Nat) : Int) - 3 * (((x - p) ^ 3 : Nat) : Int) + 3 * (((x - 2 * p) ^ 3 : Nat) : Int) - (((x - 3 * p) ^ 3 : Nat) : Int)

/-- Output j of the third-order sinc decimator of a corner: its weights on the slot conversions of the span, oldest
first, whose G counts on from ceil((j − 3) × P) (R150, R151; log 4). -/
def sincOutput (corner j : Nat) (l : List Int) : Int :=
  let d := rateOf corner
  let p := 100000
  let from_ := (j - 3) * p
  let at_ (g : Nat) : Int := if g = outputAt corner (j - 3) then 0 else sincBefore p (d * g - from_)
  let g0 := outputAt corner (j - 3)
  divI (sumInt (l.zipIdx.map (fun e => e.1 * (at_ (g0 + e.2 + 1) - at_ (g0 + e.2))))) (6 * (p : Int) ^ 3)

/-- Corner of the filter; a served cell's is at most 3 (R164). -/
def State.filterCorner (s : State) (k : Cell) : Nat :=
  if (s.meas.get k).served then Nat.min 3 (s.cornerOf k) else s.cornerOf k

/-- The window of a kind that covers the slot that starts at a time: its start and end. -/
def State.windowAt (s : State) (k : Cell) (kind a : Nat) : Option (Nat × Nat) :=
  (s.spansOf k kind).find? (fun p => decide (p.1 ≤ a) && decide (a + 1000 ≤ p.2))

/-- The gate of a cell during the slot that starts at a time (R153, R154). -/
def State.gateOpen (s : State) (k : Cell) (a : Nat) : Bool :=
  if s.inRun then (s.windowAt k 0 a).isSome else (s.segs.get (segOf k)).st != .patrol

/-- An output stamped e falls into a disturbance, or upon the restart after one (R152, R158). -/
def State.blocked (s : State) (k : Cell) (e : Nat) : Bool :=
  s.disturbing k e e || (match (s.meas.get k).dist with
    | some d => decide (d.1 ≤ e) && decide (e < d.2 + 1000)
    | none => false)

/-- One gated conversion: G advances, and an output that is due is produced unless a disturbance stands against it. -/
def State.gateSlot (s : State) (k : Cell) (e : Nat) (v : Int) (sat : Bool) : State :=
  let m := s.meas.get k
  if e ≤ m.restartedAt then s
  else
    let c := s.filterCorner k
    let g := m.g + 1
    let j := m.outs + 1
    let isIn := s.overlap k (e - 1000) e == 1000
    let span := ((e, v, sat, isIn) :: m.span).take (outputAt c 3 + 1)
    let due := decide (outputAt c j ≤ g)
    let s := s.modMeas k (fun m => { m with g := g, span := span, outs := if due then j else m.outs })
    if due && decide (3 ≤ j) && (m.coverLost || !s.blocked k e) then
      let l := (span.take (outputAt c j - outputAt c (j - 3))).map Prod.snd
      s.output k ⟨sincOutput c j (l.reverse.map (fun x => x.1)), e, false, l.all (fun x => x.2.2),
        l.any (fun x => x.2.1), m.served⟩
    else s

/-- The slot boundary at which a restart that waits takes effect: the first at or after its cause, or after the end of
the disturbance that the cause lies in (R152, R160). -/
def CellMeas.restartTime (m : CellMeas) (t : Nat) : Nat :=
  let t := match m.dist with
    | some d => if d.1 ≤ t ∧ t ≤ d.2 then d.2 else t
    | none => t
  (t + 999) / 1000 * 1000

/-- The filter begins again at a slot boundary e, with the conversions gated since. -/
def CellMeas.startAt (m : CellMeas) (corner e : Nat) : CellMeas :=
  let l := m.span.filter (fun x => decide (e < x.1))
  { m with g := l.length, outs := l.length * rateOf corner / 100000, span := l, restartedAt := e }

/-- A restart that waits takes effect once its slot boundary has come and no disturbance stands in its way; with a
disturbance among its causes a DISTURBED output is stamped at it (R152, R158, R160). -/
def State.restartFilter (s : State) (k : Cell) (e : Nat) : State :=
  let m := s.meas.get k
  match m.restart with
  | none => s
  | some (d, t) =>
    let b := m.restartTime t
    if m.coverLost || decide (e < b) || s.disturbing k t e then s
    else
      let c := s.filterCorner k
      let s := s.modMeas k (fun m =>
        let m := { m with restart := none }
        if m.restartedAt < b then m.startAt c b else m)
      if d && b != m.restartedAt then s.output k ⟨disturbedValue, b, true, false, false, m.served⟩ else s

/-- A PRIMARY window starts at a slot boundary: the filter restarts if the cell's place in the string is not that at
the start of its previous window (R152). -/
def State.windowStart (s : State) (k : Cell) (e : Nat) : State :=
  if (s.spansOf k 0).any (fun p => p.1 == e) then
    let isIn := (s.cells.get k).st == .isIn
    s.modMeas k (fun m =>
      let m := if m.prevWinIn == some (!isIn) then { m with g := 0, outs := 0, span := [], restartedAt := e } else m
      { m with prevWinIn := some isIn })
  else s

/-! ### OCV windows (R155) -/

/-- A conversion of the slot that ended at e: one of an OCV window is added to its sample. -/
def State.ocvSlot (s : State) (k : Cell) (e : Nat) (v : Int) (sat : Bool) : State :=
  match s.windowAt k 1 (e - 1000) with
  | none => s
  | some p => s.modMeas k (fun m => { m with ocvAcc := some (match m.ocvAcc with
      | some (a, sum, n, b) => if a = p.1 then (a, sum + v, n + 1, b || sat) else (p.1, v, 1, sat)
      | none => (p.1, v, 1, sat)) })

/-- An OCV window ends: the sample of a cell that was out of circuit and not OPEN throughout it. A served cell's rests
on the slots that the verifier's visits cover (R164). -/
def State.ocvEnd (s : State) (k : Cell) (e : Nat) : State :=
  match (s.spansOf k 1).find? (fun p => p.2 == e), (s.meas.get k).ocvAcc with
  | some p, some (a, sum, n, sat) =>
    let m := s.meas.get k
    let c := s.cells.get k
    let s := s.modMeas k (fun m => { m with ocvAcc := none })
    let isIn := decide (0 < s.overlap k p.1 e) || c.st == .isIn
    let wasOpen := c.st == .isOpen || decide (p.1 < c.openUntil)
    if a ≠ p.1 ∨ isIn ∨ wasOpen ∨ (!m.served ∧ n * 1000 ≠ p.2 - p.1) then s
    else
      let x : Sample := ⟨divI sum n, (p.1 + p.2) / 2 / 1000 * 1000, false, false, sat, m.served⟩
      let dist := s.movingNear k || decide (p.1 < m.touch)
      s.hold k ⟨true, p.1, p.2, if dist then asDisturbed x else x⟩
  | _, _ => s

/-! ### Bursts (R166, R194) -/

/-- End of the four slots that give vt2: the first slot boundary at or after t_x + T2. -/
def burstEnd (b : Burst) (t2 : Nat) : Nat := (b.edge.tx + 1000 * t2 + 999) / 1000 * 1000

/-- Parameters of EDGE-R for a burst: those of the record it may join (R186). -/
def State.burstParams (s : State) (k : Cell) (out : Bool) : EdgeParams :=
  let a := s.ana.get k
  if out then (if a.rOut.isEmpty then s.edgeParamsNow else a.pOut)
  else if a.rIn.isEmpty then s.edgeParamsNow else a.pIn

def outward (e : EdgeRec) : Bool := e.kind != .bypassToIn

/-- The burst's marks at its end: a disturbance of the cell in the burst, and whether vt2 is valid (R166, R194). -/
def State.markBurst (s : State) (k : Cell) (b : Burst) (ended : Nat) : Burst :=
  let m := s.meas.get k
  let g := s.guardNs
  let own := m.edgesDone.filter (fun e => e.step1 != b.edge.step1)
  let hit (a z : Nat) : Bool :=
    own.any (fun e => meets e.step1 (e.confs.getLastD e.step1 + g) a z) || m.nearDist.any (fun d => meets d.1 d.2 a z)
  { b with
    disturbed := hit b.start (b.start + 32000) || ((farNeighbour k).isSome && decide (m.cover < b.start + 32000))
    postOk := b.post.length == 4 && b.pre.length == 8 &&
      !(own.any (fun e => decide (b.edge.step1 < e.step1) && decide (e.step1 < ended))) &&
      !(m.nearDist.any (fun d => meets d.1 d.2 b.edge.step1 ended)) && !s.movingNear k }

/-- A burst goes to the hub, and its conversions to the stream (R174). -/
def State.sendBurst (s : State) (k : Cell) (b : Burst) : State :=
  let g := segOf k
  let s := each [b.samples.take 28, (b.samples.drop 28).take 28] (fun s l => s.sendUp g (.burstPart k l)) s
  let s := s.sendUp g (.burst k { b with samples := b.samples.drop 56 })
  if s.streams g 5 && inSet s.shunts.strCells k then
    let isIn := s.overlap k b.start (b.start + 32000) == 32000
    each b.samples.zipIdx (fun s v =>
      s.streamOut g (streamWord (divI v.1 200) (0x40 + localOf k) (b.start + 500 * v.2) b.disturbed (s.meas.get k).served
        isIn (decide (v.1 ≤ -1000000) || decide (5500000 ≤ v.1)) (v.2 % 2 == 1))) s
  else s

/-- A slot conversion for the bursts of a cell; a burst is sent once its last slot is in, and a boundary cell's once it
is known whether its neighbour disturbed it. -/
def State.burstSlot (s : State) (k : Cell) (e : Nat) (v : Int) : State :=
  let add (b : Burst) : Burst :=
    let z := burstEnd b (s.burstParams k (outward b.edge)).t2
    if z < e + 4000 ∧ e ≤ z then { b with post := b.post ++ [v] } else b
  let known (b : Burst) : Bool := (farNeighbour k).isNone || decide (b.start + 32000 ≤ (s.meas.get k).cover) ||
    decide (b.start + 52000 ≤ e)
  let over_ (b : Burst) : Bool := decide (burstEnd b (s.burstParams k (outward b.edge)).t2 ≤ e) && known b
  let l := (s.meas.get k).caps.map add
  if l.isEmpty then s
  else
    let s := s.modMeas k (fun m => { m with caps := l.filter (fun b => !over_ b) })
    each (l.filter over_) (fun s b => s.sendBurst k (s.markBurst k b e)) s

/-! ### SLOT_CONVERSION (R144, R147, R148) -/

/-- Mean of up to four conversions. -/
def monitorOf (l : List Int) : Int := divI (sumInt l) (l.length : Int)

/-- A signed word of the calibration loaded into the hub, by its offset in the image (R449, R489). -/
def State.calParam (s : State) (off : Nat) : Int := signed 32 (u s.nvm.cal off 4)

/-- A reading with the gain and the offset at an address of the calibration applied; as it is without a calibration
(R144, R449; log 107). -/
def State.calibrated (s : State) (v : Int) (gain offset : Nat) : Int :=
  if s.therm.calOk then Config.corrected v (s.calParam gain) (s.calParam offset) else v

/-- The primary's conversion of cell k, calibrated, in µV. -/
def State.primary (s : State) (k : Cell) (v : Int) : Int :=
  let a := 0x100 + 0x100 * (segOf k).val + 8 * localOf k
  s.calibrated v (a + 4) a

/-- SLOT_CONVERSION: the slot that has ended; at most one a slot. -/
def execSlotConversion (k : Cell) (uv : Int) (s : State) : Host.Outcome State Fault Refusal :=
  let e := s.now / 1000 * 1000
  let m := s.meas.get k
  let g := s.segs.get (segOf k)
  if !g.smeas || g.st == .unpowered || decide (e ≤ m.lastSlot) then s.done
  else
    let raw := s.primary k uv
    let sat := decide (raw < -1000000) || decide (5500000 < raw)
    let v := clampInt (-1000000) 5500000 raw
    let last := (v :: m.last4).take 4
    let used := if m.served then m.visit else v
    let s := s.modMeas k (fun m => { m with
      last4 := last, mon := monitorOf last, lastSlot := e
      pHist := ((e - 1000, v) :: m.pHist).take 64
      vHist := ((e - 1000, used) :: m.vHist).take 64
      patAcc := match g.windowAt with
        | some w => if w < s.segTime (segOf k) ∧ s.segTime (segOf k) < w + 32001000 then
            (m.patAcc.1 + v, m.patAcc.2.1 + 1, m.patAcc.2.2 || sat) else m.patAcc
        | none => m.patAcc })
    let s := if m.served then s
      else (if s.gateOpen k (e - 1000) then s.gateSlot k e v sat else s).ocvSlot k e v sat
    let s := s.restartFilter k e
    let s := s.windowStart k e
    let s := s.ocvEnd k e
    (s.burstSlot k e used).done

/-! ### The verifier (R161 to R165) -/

/-- A transition of the cell or a neighbour started since a time. -/
def State.movedSince (s : State) (k : Cell) (t : Nat) : Bool :=
  s.movingNear k || (s.meas.get k).edgesDone.any (fun e => decide (t ≤ e.step1)) ||
    (s.meas.get k).nearDist.any (fun d => decide (t ≤ d.1))

/-- The cell and its neighbours. -/
def nearAll (k : Cell) : List Cell :=
  [k.val - 1, k.val, k.val + 1].eraseDups.filterMap (fun n => if n < 256 then some (cell n) else none)

/-- A transition of one of these cells is scheduled to start in [a, b] (R162, R171). -/
def State.scheduled (s : State) (l : List Cell) (a b : Nat) : Bool :=
  l.any (fun j =>
    let c := s.cells.get j
    c.plan.any (fun p => decide (a ≤ p.tp) && decide (p.tp ≤ b)) ||
      (match c.tr with
        | some t => t.planned.isSome && decide (a ≤ t.began)
        | none => false) ||
      (s.meas.get j).edgesDone.any (fun e => e.planned.isSome && decide (a ≤ e.step1) && decide (e.step1 ≤ b)))

/-- Slots of a cell's CAPTURE pairs in which a scheduled transition of the cell started: its edges. -/
def State.captured (s : State) (k : Cell) : List EdgeRec :=
  let slots := (s.spansOf k 3).map (fun p => p.1 + 4000)
  (s.meas.get k).edgesDone.filter (fun e => e.planned.isSome && slots.contains e.pairSlot)

/-- A capture burst of a segment's verifier meets [a, b) (R162, R166). -/
def State.capturing (s : State) (g : Seg) (a b : Nat) : Bool :=
  (cellsOf g).any (fun k => (s.captured k).any (fun e => meets (e.pairSlot - 4000) (e.pairSlot + 28000) a b))

/-- The visit of cell k that ends at z, as a VERIFY window starts it: its start. A window shorter than 18 µs ends it
early; with fewer than 4 conversions it is not made (R162). -/
def State.verifyStart (s : State) (k : Cell) (z : Nat) : Option Nat :=
  ((s.spansOf k 2).find? (fun p =>
    let z' := Nat.min p.2 (p.1 + 18000)
    z' == z && decide (p.1 + 4000 ≤ z'))).map Prod.fst

/-- A VERIFY window of the segment starts within (a, b) and takes the verifier from the round. -/
def State.verifyWithin (s : State) (g : Seg) (a b : Nat) : Bool :=
  (cellsOf g).any (fun k => (s.spansOf k 2).any (fun p => decide (a < p.1) && decide (p.1 < b)))

/-- Channels of a round from the next one on: 0 to 15 the cells, 16 the stack. -/
def roundFrom (n : Nat) : List Nat := (List.range 17).map (fun i => (n + i) % 17)

/-- The round passes over a channel at a visit [a, z] (R161, R162). -/
def State.skips (s : State) (g : Seg) (a z n : Nat) : Bool :=
  if n = 16 then !s.flag Fld.measCtrlStackEn
  else
    let k := cellOf g n
    s.excluded k || s.scheduled (nearAll k) a (z + s.guardNs)

/-- The served cell whose turn is next, if it can be visited in [a, z] (R164). -/
def State.nextServed (s : State) (g : Seg) (a z : Nat) : Option Nat :=
  ((List.range 16).map (fun i => ((s.segs.get g).verifier.served + 1 + i) % 16)).find? (fun n =>
    (s.meas.get (cellOf g n)).served && !s.skips g a z n)

/-- The channel that the verifier visits in [a, z] apart from windows: a served cell at every other visit, otherwise the
next of the round; and the verifier after it. -/
def State.turnOf (s : State) (g : Seg) (a z : Nat) : Option (Nat × Verifier) :=
  let v := { (s.segs.get g).verifier with free := z }
  let round : Option (Nat × Verifier) :=
    if s.flag Fld.measCtrlVerifyEn then
      ((roundFrom v.next).find? (fun n => !s.skips g a z n)).map (fun n =>
        (n, { v with next := (n + 1) % 17, turn := true, round := if n < v.next ∨ n = 16 then v.round + 1 else v.round }))
    else none
  match s.nextServed g a z with
  | some n => if v.turn || !s.flag Fld.measCtrlVerifyEn then some (n, { v with turn := false, served := n }) else round
  | none => round

/-- Mean of the primary's conversions over the slots of [a, b); none where one is missing. -/
def State.primaryMean (s : State) (k : Cell) (a b : Nat) : Option Int :=
  let l := (s.meas.get k).pHist.filter (fun h => decide (a ≤ h.1) && decide (h.1 < b))
  if l.length * 1000 = b - a ∧ l ≠ [] then some (divI (sumInt (l.map Prod.snd)) (l.length : Int)) else none

/-- A visit value stands in for the conversions of the slots of [a, b) (R164). -/
def State.servedSlots (s : State) (k : Cell) (v : Int) (a b : Nat) : State :=
  each ((List.range ((b - a) / 1000)).map (fun i => a + 1000 * (i + 1))) (fun s t =>
    (if s.gateOpen k (t - 1000) then s.gateSlot k t v false else s).ocvSlot k t v false) s

/-- Service of a cell by its verifier begins (R163). -/
def State.takeOver (s : State) (k : Cell) : State :=
  (s.modMeas k (fun m => { m.ask false s.now with served := true, slicePassed := false, passes := 0 })).segReport (segOf k)
    (cellReport s.now .takeover k 0 0 0)

/-- The cell returns to its primary (R164). -/
def State.giveBack (s : State) (k : Cell) : State :=
  (s.modMeas k (fun m => { m.ask false s.now with
    served := false, servedEnd := some s.now, misses := 0, passes := 0, slicePassed := false })).segReport (segOf k)
    (cellReport s.now .primaryReturn k 0 0 0)

/-- One cross-check (R163). -/
def State.crossCheck (s : State) (k : Cell) (miss : Bool) : State :=
  let m := s.meas.get k
  let lim := s.fld Fld.measXcheckLimitMissN
  let n := if miss then m.misses + 1 else m.misses - 1
  let s := s.modMeas k (fun m => { m with
    misses := Nat.min n lim, lastCheck := s.now, noCheckRaised := false
    missRaised := m.missRaised && decide (lim ≤ n)
    passes := if miss || !m.slicePassed then 0 else m.passes + 1 })
  if m.served then (if 16 ≤ (s.meas.get k).passes then s.giveBack k else s)
  else if lim ≤ n then
    if s.flag Fld.measCtrlTakeoverEn then s.takeOver k
    else if m.missRaised then s
    else (s.modMeas k (fun m => { m with missRaised := true })).segReport (segOf k) (cellReport s.now .takeover k 0 0 0)
  else s

/-- A verifier reading in the unit of its channel, calibrated, within the channel's range (R161). -/
def State.verified (s : State) (g : Seg) (v lo hi : Int) : Int :=
  clampInt lo hi (s.calibrated v (0x184 + 0x100 * g.val) (0x180 + 0x100 * g.val))

/-- The visit [a, z] of a cell is completed: cross-check, value to the hub and the stream, service. -/
def State.cellVisit (s : State) (k : Cell) (raw : Int) (a z : Nat) : State :=
  let m := s.meas.get k
  let r := s.verified (segOf k) raw (-5000) 27500
  let v := 200 * r
  let x : Sample := ⟨v, z, false, decide (s.overlap k a z = z - a), decide (raw < -5000) || decide (27500 < raw), m.served⟩
  let s := s.modMeas k (fun m => { m with visit := v })
  let s := s.sendUp (segOf k) (.output k 2 x)
  let s := s.streamCell k 2 0x20 x r
  let s := if m.served then s.servedSlots k v (a + 2000) z else s
  match s.primaryMean k (a + 2000) z with
  | some p => s.crossCheck k (decide (10 * s.fld Fld.measXcheckLimitLimit < (v - p).natAbs))
  | none => s

/-- The visit [a, z] of the stack is completed (R165). -/
def State.stackVisit (s : State) (g : Seg) (raw : Int) (a z : Nat) : State :=
  let r := s.verified g raw 0 65535
  let s := s.modSeg g (fun x => { x with stackMv := (3 * r / 2).toNat })
  let s := if s.streams g 3 then
      s.streamOut g (streamWord r 0x30 z false false false (decide (raw < 0) || decide (65535 < raw)) false) else s
  let means := (cellsOf g).map (fun k => s.primaryMean k (a + 2000) z)
  if s.classAt g != .low || means.any (fun p => p.isNone) then s
  else
    let sum := sumInt (means.map (fun p => p.getD 0))
    let far := decide (10000 * s.fld Fld.measXcheckLimitStackLimit < (1500 * r - sum).natAbs)
    let was := s.shunts.stackMiss.get g
    let n := if far then Nat.min 3 (was + 1) else 0
    let s := s.modShunts (fun m => { m with stackMiss := m.stackMiss.set g n })
    if n = 3 ∧ was < 3 then
      s.segReport g ⟨.stackMismatch, s.now, some g, none, wordI (divI (3 * r) 2), wordI (divI sum 1000), 0⟩
    else s

/-- VERIFIER_VISIT: a visit ends at the present slot boundary; `value` is the mean of its conversions in the unit of the
channel (200 µV, 1.5 mV). It is the visit of a VERIFY window or the verifier's turn; a capture burst or a VERIFY window
takes the verifier from it, and a transition near the cell discards it (R161 to R165). -/
def execVerifierVisit (ch : Channel) (value : Int) (s : State) : Host.Outcome State Fault Refusal :=
  let z := s.now / 1000 * 1000
  let (g, n) : Seg × Nat := match ch with
    | .cell k => (segOf k, localOf k)
    | .stack g => (g, 16)
  let x := s.segs.get g
  let window : Option Nat := match ch with
    | .cell k => s.verifyStart k z
    | .stack _ => none
  let a := window.getD (z - 18000)
  if !x.smeas || x.st == .unpowered || decide (a < x.verifier.free) || s.capturing g a z then s.done
  else
    let turn : Option Verifier := match window with
      | some _ => if s.flag Fld.measCtrlVerifyEn && !s.skips g a z n then some { x.verifier with free := z } else none
      | none => if s.verifyWithin g a z then none
        else match s.turnOf g a z with
          | some (i, v) => if i = n then some v else none
          | none => none
    match turn with
    | none => s.done
    | some v =>
      let s := s.modSeg g (fun x => { x with verifier := v })
      match ch with
      | .cell k => if s.movedSince k a then s.done else (s.cellVisit k value a z).done
      | .stack g => (s.stackVisit g value a z).done

/-- NO_CROSSCHECK (R165): once in each episode. -/
def execNoCrosscheck (k : Cell) (s : State) : Host.Outcome State Fault Refusal :=
  let m := s.meas.get k
  let g := s.segs.get (segOf k)
  if g.smeas && g.st == .running && !s.excluded k && !m.noCheckRaised && decide (m.lastCheck + 1000000000 ≤ s.now) then
    ((s.modMeas k (fun m => { m with noCheckRaised := true })).segReport (segOf k)
      (cellReport s.now .noCrosscheck k 0 0 0)).done
  else s.done

/-! ### CAPTURE (R166) -/

/-- CAPTURE: a burst of 64 conversions around the captured edge, in units of 200 µV. Of two windows of a segment that
overlap, the later, or the higher cell, gives no burst. -/
def execCapture (k : Cell) (samples : List Int) (s : State) : Host.Outcome State Fault Refusal :=
  let g := segOf k
  let x := s.segs.get g
  if !s.cycling || !x.smeas || x.st == .unpowered then s.done
  else
    let fresh := (s.captured k).filter (fun e => decide (s.now < e.pairSlot + 4000 + s.tCyc) &&
      decide (e.pairSlot + 27500 ≤ s.now) && !((s.meas.get k).caps.any (fun b => b.edge.pairSlot == e.pairSlot)))
    match fresh.head? with
    | none => s.done
    | some e =>
      let start := e.pairSlot - 4000
      let before (j : Cell) : Bool := (s.captured j).any (fun f =>
        let b := f.pairSlot - 4000
        decide (b < start + 32000) && decide (start < b + 32000) && (decide (b < start) || (b == start && decide (j < k))))
      if (cellsOf g).any (fun j => j != k && before j) then
        if s.shunts.clashAt = some s.play.cycleStart then s.done
        else ((s.modShunts (fun m => { m with clashAt := some s.play.cycleStart })).segReport g
          (cellReport s.now .captureClash k 0 0 0)).done
      else
        let ended := e.step1 / 1000 * 1000
        let pre := ((s.meas.get k).vHist.filter (fun h => decide (h.1 + 1000 ≤ ended) && decide (ended ≤ h.1 + 8000))).map Prod.snd
        let b : Burst := ⟨e, start, (samples.take 64).map (fun v => 200 * s.verified g v (-5000) 27500), false, pre, [], false⟩
        (s.modMeas k (fun m => { m with caps := m.caps ++ [b] })).done

/-! ### Contact resistance (R171 to R173, R204) -/

/-- Mean of I_shunt over the slots of [a, b); none where a slot is missing. -/
def State.meanShunt (s : State) (a b : Nat) : Option Int :=
  let l := s.shunts.shHist.filter (fun e => decide (a ≤ e.1) && decide (e.1 < b))
  if l.length * 1000 ≠ b - a ∨ l.any (fun e => e.2.isNone) then none
  else some (divI (sumInt (l.filterMap Prod.snd)) (l.length : Int))

/-- Every I_shunt of the slots of [a, b) is 1 A or more in magnitude. -/
def State.shuntHigh (s : State) (a b : Nat) : Bool :=
  let l := s.shunts.shHist.filter (fun e => decide (a ≤ e.1) && decide (e.1 < b))
  l.length * 1000 == b - a && l.all (fun e => match e.2 with
    | some i => decide (1000000 ≤ i.natAbs)
    | none => false)

/-- One counter of R172: consecutive evaluations above the limit. -/
def countAbove (above : Bool) (n count : Nat) : Nat := if above then Nat.min count (n + 1) else 0

/-- An evaluation of an IN cell, from a visit that ended at z. -/
def State.contactUnder (s : State) (k : Cell) (rp rn i : Int) (satP satN : Bool) (z : Nat) : State :=
  let lim : Int := s.contactLimit
  let count := s.fld Fld.measContactLimitCount
  let abP := satP || decide (lim < rp)
  let abN := satN || decide (lim < rn)
  let m := s.meas.get k
  let np := countAbove abP m.contP count
  let nn := countAbove abN m.contN count
  let park := (count ≤ np || count ≤ nn)
  let s := s.modMeas k (fun m => { m with contP := np, contN := nn })
  let s := if s.kernelsNow.getLsbD 5 then
      let s := if abP || abN then
          s.contactRecord k 0 (if satP then none else some rp) (if satN then none else some rn) none none i lim 1 satP
            satN z z (s.meas.get k).distCount
        else s
      let s := s.modAna k (fun a => { a with
        cFrom := if a.cN = 0 then z else a.cFrom
        cTo := z
        cDist0 := if a.cN = 0 then (s.meas.get k).distCount else a.cDist0
        cMaxP := if a.cN = 0 then rp else max a.cMaxP rp
        cMaxN := if a.cN = 0 then rn else max a.cMaxN rn
        cN := a.cN + 1, cSumP := a.cSumP + rp, cSumN := a.cSumN + rn, cSumI := a.cSumI + i })
      if 256 ≤ (s.ana.get k).cN then s.contactSummary k else s
    else s
  if park then
    let s := s.modMeas k (fun m => { m with
      contP := if count ≤ np then count - 1 else np, contN := if count ≤ nn then count - 1 else nn })
    (s.park k 6).raise .contactPark (some (segOf k)) (some k) (wordI rp) (wordI rn) 0
  else s

/-- A continuity test of an OPEN cell (R173): 10 mA through each pole; the visit ended at z. -/
def State.contactOpen (s : State) (k : Cell) (pos neg : Int) (satP satN : Bool) (z : Nat) : State :=
  let rp := 100 * pos
  let rn := 100 * neg
  let lim : Int := 10000 * s.fld Fld.measContactLimitOpenLimit
  let s := s.disturb k (z - 16000) (z + s.guardNs)
  let s := if s.kernelsNow.getLsbD 5 then
      s.contactRecord k 2 (if satP then none else some rp) (if satN then none else some rn) none none 10000 lim 1 satP satN
        z z (s.meas.get k).distCount
    else s
  if satP || satN || decide (lim < rp) || decide (lim < rn) then
    (s.park k 6).raise .contactPark (some (segOf k)) (some k) (wordI rp) (wordI rn) 0
  else s

/-- The end of the contact visit that is judged now: the latest slot boundary for which the guard time after the visit
has passed and, while slot means come, the hub has formed I_shunt (R168, R171, R176). -/
def State.contactEnd (s : State) : Nat :=
  let z := (s.now - s.guardNs) / 1000 * 1000
  if s.shunts.iSlot + 64000 < s.now then z else Nat.min z s.shunts.iSlot

/-- A contact visit [a, z] of a cell is eligible: OPEN with the continuity test on, or IN throughout with 1 A or more,
with no transition of the cell in it or within g of it (R171, R173); and no visit in the 15 rounds before. -/
def State.contactEligible (s : State) (k : Cell) (z : Nat) : Bool :=
  let a := z - 18000
  let c := s.cells.get k
  let round := (s.segs.get (segOf k)).verifier.round
  let rested := match (s.meas.get k).contRound with
    | some r => decide (r + 16 ≤ round)
    | none => true
  let quiet := c.tr.isNone && !((s.meas.get k).edgesDone.any (fun e => decide (a ≤ e.step1 + s.guardNs))) &&
    !s.scheduled [k] s.now (z + s.guardNs)
  rested && !s.excluded k && quiet && (match c.st with
    | .isIn => s.flag Fld.measCtrlContactEn && s.overlap k a z == 18000 && s.shuntHigh a z
    | .isOpen => s.flag Fld.measCtrlOpenTestEn
    | .bypass | .park | .keep => false)

/-- The cell that the rotation of contact visits visits next (R171). -/
def State.nextContact (s : State) (g : Seg) (z : Nat) : Option Cell :=
  ((List.range 16).map (fun i => cellOf g ((s.segs.get g).verifier.contact + i))).find? (fun k => s.contactEligible k z)

/-- The two words of a contact visit. -/
def State.streamContact (s : State) (k : Cell) (pos neg : Int) (satP satN : Bool) (z : Nat) : State :=
  let g := segOf k
  if s.streams g 6 && inSet s.shunts.strCells k then
    let w (v : Int) (src : Nat) (sat : Bool) : BitVec 64 :=
      streamWord (divI v 16) (src + localOf k) z false (s.meas.get k).served ((s.cells.get k).st == .isIn) sat false
    (s.streamOut g (w pos 0x50 satP)).streamOut g (w neg 0x60 satN)
  else s

/-- CONTACT_VISIT: mean differences of the poles in µV, and whether they were saturated, as the visit of the next
eligible cell of the rotation brings them to the hub (R171 to R173). -/
def execContactVisit (k : Cell) (pos neg : Int) (satP satN : Bool) (s : State) : Host.Outcome State Fault Refusal :=
  let g := segOf k
  let x := s.segs.get g
  let z := s.contactEnd
  let a := z - 18000
  if !x.smeas || x.st == .unpowered || !s.linkUp g || !s.flag Fld.measCtrlVerifyEn || s.capturing g a z ||
      s.nextContact g z != some k then s.done
  else
    let s := s.modSeg g (fun x => { x with verifier := { x.verifier with contact := (localOf k + 1) % 16 } })
    let s := s.modMeas k (fun m => { m with contRound := some x.verifier.round })
    let isIn := (s.cells.get k).st == .isIn
    let visit (v : Int) (sat : Bool) : Sample := ⟨v, z, false, isIn, sat, (s.meas.get k).served⟩
    let s := ((s.sendUp g (.output k 3 (visit pos satP))).sendUp g (.output k 4 (visit neg satN))).streamContact k pos neg
      satP satN z
    match (s.cells.get k).st, s.meanShunt (z - 16000) (z - 8000), s.meanShunt (z - 8000) z with
    | .isIn, some ip, some in_ =>
      (s.contactUnder k (divI (1000000 * pos) ip) (divI (1000000 * neg) in_) (divI (ip + in_) 2) satP satN z).done
    | .isOpen, _, _ => (s.contactOpen k pos neg satP satN z).done
    | _, _, _ => s.done

/-! ### The shunts (R167 to R170, R188) -/

/-- NO_SHUNT is judged outside BOOT and STARTUP_TEST, once in each episode (R170). -/
def State.checkShunts (s : State) : State :=
  if s.shuntInUse false || s.shuntInUse true then s.modShunts (fun m => { m with noShuntRaised := false })
  else match s.st with
    | .ready | .run | .halt | .orphan | .drydown | .shutdownLatched =>
      if s.shunts.noShuntRaised then s
      else (s.modShunts (fun m => { m with noShuntRaised := true })).raise .noShunt none none 0 0 0
    | .off | .boot | .startupTest | .dormant => s

/-- The string current of a slot from the shunts in use (R168). -/
def combine (useB useT : Bool) (b t : Option Int) : Option Int :=
  match useB, useT, b, t with
  | true, true, some x, some y => some (divI (x + y) 2)
  | true, false, some x, _ => some x
  | false, true, _, some y => some y
  | _, _, _, _ => none

/-- The SPC was DISABLED, or STANDBY with PH_EN_N high (R188). -/
def State.quiet (s : State) : Bool := s.spc.st == .disabled || (s.spc.st == .standby && s.pins.phEnHigh)

/-- The slot counts for the zero estimate of its aligned 100 ms. -/
def State.quietSlot (s : State) (slot : Nat) (b t : Option Int) : State :=
  if !s.quiet then s.modRes (fun r => { r with quietFrom := none })
  else
    let r := s.results
    let begin_ := slot % 100000000 == 0
    if begin_ || r.quietFrom.isSome then
      s.modRes (fun r => { r with
        quietFrom := if begin_ then some slot else r.quietFrom
        quietSumB := (if begin_ then 0 else r.quietSumB) + b.getD 0
        quietSumT := (if begin_ then 0 else r.quietSumT) + t.getD 0
        quietNB := (if begin_ then 0 else r.quietNB) + (if b.isSome then 1 else 0)
        quietNT := (if begin_ then 0 else r.quietNT) + (if t.isSome then 1 else 0) })
    else s

/-- A slot mean is added to the mean that a shunt's stream word carries; a slot that begins a span of n slots begins it
anew (R174). -/
def addSlot (n slot : Nat) (v : Int) (sat : Bool) (x : Int × Nat × Bool) : Int × Nat × Bool :=
  if slot / 1000 % n = 0 then (v, 1, sat) else (x.1 + v, x.2.1 + 1, x.2.2 || sat)

/-- A shunt's stream word over 2^n slots (R174): one each time a whole span of 2^n slots has ended. -/
def State.streamShunt (s : State) (g : Seg) (slot : Nat) (x : Int × Nat × Bool) : State :=
  let n := 2 ^ s.fld Fld.measStreamCfgShuntDecim
  if s.streams g 4 && (slot / 1000 + 1) % n == 0 && x.2.1 == n then
    s.streamOut g (streamWord (divI x.1 (2 * (n : Int))) 0x31 (slot + 1000) false false false x.2.2 false)
  else s

/-- A shunt's slot mean, calibrated and within the converter's range, in µA (R167). -/
def State.shuntMean (s : State) (top : Bool) (v : Option Int) : Option Int :=
  let a := if top then 0x50 else 0x48
  v.map (fun x => clampInt (-16000000) 16000000 (s.calibrated x a (a + 4)))

/-- The slot means enter the stream words of segments 0 and 15. -/
def State.streamSlots (s : State) (slot : Nat) (b t : Option Int) : State :=
  let n := 2 ^ s.fld Fld.measStreamCfgShuntDecim
  let add (v : Option Int) (x : Int × Nat × Bool) : Int × Nat × Bool := match v with
    | some i => addSlot n slot i (decide (16000000 ≤ i.natAbs)) x
    | none => (0, 0, false)
  let s := s.modShunts (fun m => { m with strB := add b m.strB, strT := add t m.strT })
  (s.streamShunt 0 slot s.shunts.strB).streamShunt 15 slot s.shunts.strT

/-- I_t goes to the segments, eight slots to a message (R249, R250). -/
def State.sendSlots (s : State) (slot : Nat) (it : Option Int) : State :=
  let l := s.shunts.iTs ++ [it]
  if l.length < 8 then s.modShunts (fun m => { m with iTs := l })
  else
    let s := s.modShunts (fun m => { m with iTs := [] })
    each (allSegs.filter s.linkUp) (fun s g => s.sendDown g (.islot (slot - 7000) l)) s

/-- SHUNT_SLOT_MEAN: slot means of the next slot, bottom and top; none where no mean has arrived. -/
def execShuntSlotMean (bottomRaw topRaw : Option Int) (s : State) : Host.Outcome State Fault Refusal :=
  let m := s.shunts
  let bottom := s.shuntMean false bottomRaw
  let top := s.shuntMean true topRaw
  let slot := if m.iSlot = 0 ∨ m.iSlot + 64000 < s.now then s.now / 1000 * 1000 - 1000 else m.iSlot
  let useB := s.shuntServes false bottom.isSome
  let useT := s.shuntServes true top.isSome
  if s.now < slot + 1000 ∨ !s.powered ∨ (useB && bottom.isNone) ∨ (useT && top.isNone) then s.done
  else
    let i := combine useB useT bottom top
    let z := s.results
    let it := combine useB useT (bottom.map (fun x => x - z.zeroB.getD 0)) (top.map (fun x => x - z.zeroT.getD 0))
    let s := s.modShunts (fun m => { m with
      iShunt := i, iT := it, iSlot := slot + 1000
      iHist := ((slot, it) :: m.iHist).take 4400
      shHist := ((slot, i) :: m.shHist).take 64
      msB := m.msB + (if top.isSome then bottom.getD 0 else 0)
      msT := m.msT + (if bottom.isSome then top.getD 0 else 0)
      msN := m.msN + (if bottom.isSome && top.isSome then 1 else 0) })
    let s := s.quietSlot slot bottom top
    let s := if s.cycling then s.modPlay (fun p => { p with
        cycAbs := p.cycAbs + (i.getD 0).natAbs, cycN := p.cycN + 1 }) else s
    let s := match s.results.stepFrom with
      | some t => if t ≤ slot then s.modRes (fun r => { r with
          qString := r.qString + 1000 * it.getD 0, iGap := r.iGap || it.isNone }) else s
      | none => s
    let s := s.streamSlots slot bottom top
    (s.sendSlots slot it).checkShunts.done

/-- The shunt farther from the SPC's mean current is excluded (R169): 0 none, 1 bottom, 2 top. -/
def State.farther (s : State) (b t : Int) : Nat :=
  if s.flag Fld.measShuntCfgAutoExclude && s.spc.iMilliN != 0 then
    let f := divI s.spc.iMilli (s.spc.iMilliN : Int)
    let db := (b - f).natAbs
    let dt := (t - f).natAbs
    let half := 5 * s.fld Fld.measShuntXcheckLimit
    if half < db - dt then 1 else if half < dt - db then 2 else 0
  else 0

/-- SHUNT_COMPARE (R169): the whole millisecond that has ended. -/
def execShuntCompare (s : State) : Host.Outcome State Fault Refusal :=
  let m := s.shunts
  if s.now < m.msStart + 1000000 then s.done
  else
    let fresh (s : State) : State := (s.modShunts (fun m => { m with
      msStart := s.now / 1000000 * 1000000, msB := 0, msT := 0, msN := 0 })).modSpc (fun x => { x with iMilli := 0, iMilliN := 0 })
    if m.msN = 0 || !(s.shuntInUse false && s.shuntInUse true) then
      (fresh (s.modShunts (fun m => { m with mismatchRun := 0 }))).done
    else
      let b := divI m.msB (m.msN : Int)
      let t := divI m.msT (m.msN : Int)
      if (b - t).natAbs ≤ 10 * s.fld Fld.measShuntXcheckLimit then
        (fresh (s.modShunts (fun m => { m with mismatchRun := 0, mismatchRaised := false }))).done
      else
        let n := m.mismatchRun + 1
        let s := s.modShunts (fun m => { m with mismatchRun := n })
        if s.fld Fld.measShuntXcheckDwellMs ≤ n && !m.mismatchRaised then
          let x := s.farther b t
          let s := s.modShunts (fun m => { m with
            mismatchRaised := true, exclB := m.exclB || x == 1, exclT := m.exclT || x == 2 })
          (fresh (s.raise .shuntMismatch none none (wordI b) (wordI t) (word x))).done
        else (fresh s).done

/-- Writes of 1 to EXCLUDED (R180): bit 0 the bottom shunt, bit 1 the top. -/
def State.readmit (s : State) (bits : Nat) : State :=
  (s.modShunts (fun m => { m with
    exclB := m.exclB && !(bits.testBit 0), exclT := m.exclT && !(bits.testBit 1) })).checkShunts

/-! ### STREAM_START and STREAM_STOP (R175, R331) -/

/-- Output rate of a corner, per second (R150). -/
def outputRate (c : Nat) : Nat := if c = 7 then 81920 else 10 * 4 ^ c

/-- Worst-case rate of a segment's stream in words per second (R175). -/
def State.streamRate (s : State) (g : Seg) (kinds : BitVec 8) (cells : BitVec 256) : Rat :=
  let l := (cellsOf g).filter (fun k => inSet cells k)
  let per (n : Nat) : Rat := if s.tCyc = 0 then 0 else ((n * 1000000000 : Nat) : Rat) / (s.tCyc : Rat)
  let count (kind : Nat) : Nat := sumNat (l.map (fun k => (s.windowsOf k kind).length))
  (if kinds.getLsbD 0 then ((sumNat (l.map (fun k => outputRate (s.filterCorner k))) : Nat) : Rat) else 0) +
    (if kinds.getLsbD 1 then per (count 1) else 0) +
    (if (kinds.getLsbD 2 && !l.isEmpty) || kinds.getLsbD 3 || (kinds.getLsbD 6 && !l.isEmpty) then 1000000 / 18 else 0) +
    (if kinds.getLsbD 4 && (g.val == 0 || g.val == 15) then 1000000 / (2 ^ s.fld Fld.measStreamCfgShuntDecim : Nat) else 0) +
    (if kinds.getLsbD 5 then 64 * per (count 3) else 0) + 1000 / (s.fld Fld.measStreamCfgMarkMs : Nat)

/-- STREAM_START: the status, and the state with the selection in force. -/
def State.streamStart (s : State) (segs : BitVec 16) (kinds : BitVec 8) (cells : BitVec 256) : Status × State :=
  if kinds.getLsbD 7 then (.rejected, s)
  else if allSegs.any (fun g => segs.getLsbD g.val && decide (625000 < s.streamRate g kinds cells)) then (.capacity, s)
  else
    let s := s.modShunts (fun m => { m with
      strOn := true, strSegs := segs, strKinds := kinds, strCells := cells, strLive := 0, drops := 0
      strDropped := m.strDropped.map (fun _ => 0), strSent := m.strSent.map (fun _ => 0)
      lastMark := m.lastMark.map (fun _ => s.now) })
    (.ok, each (allSegs.filter (fun g => segs.getLsbD g.val)) (fun s g => s.sendDown g (.cmd (.stream true))) s)

/-- STREAM_STOP. -/
def State.streamStop (s : State) : State :=
  let old := s.shunts.strSegs
  let s := s.modShunts (fun m => { m with strOn := false, strSegs := 0, strKinds := 0, strCells := 0, strLive := 0 })
  each (allSegs.filter (fun g => old.getLsbD g.val)) (fun s g => s.sendDown g (.cmd (.stream false))) s

/-- STREAM_MARK (R174): every MARK_MS. -/
def execStreamMark (g : Seg) (s : State) : Host.Outcome State Fault Refusal :=
  let t := s.shunts.lastMark.get g
  if s.shunts.strOn && s.shunts.strLive.getLsbD g.val &&
      decide (t + 1000000 * s.fld Fld.measStreamCfgMarkMs ≤ s.now) then
    let us := s.now / 1000
    let s := s.modShunts (fun m => { m with lastMark := m.lastMark.set g s.now })
    (s.streamOut g (streamWord (us / 2 ^ 24 % 2 ^ 24 : Nat) 0xFF s.now false false false false false)).done
  else s.done

end Sys2Proof.Machine
end

