-- ==== Sys2Proof/Machine/Analysis.lean ====
section
/-!
DEFINITION. Events and commands of the analysis engines (chapter 06): zero estimates, TALLY and snapshot records,
EDGE-R, the SWEEP command and the write bits of ANA_CTRL.
-/

namespace Sys2Proof.Machine

/-- The ANA domain is on (R218, R222). -/
def State.anaOn (s : State) : Bool := s.powered && s.pwr.hubOn.getLsbD 2

/-! ### The zero estimate (R188) -/

/-- Length of the quiet time in ns. -/
def quietLen : Nat := 100000000

/-- ZERO_ESTIMATE: the slot means of a whole aligned quiet 100 ms are in. A shunt without any keeps its estimate. -/
def execZeroEstimate (s : State) : Host.Outcome State Fault Refusal :=
  let r := s.results
  match r.quietFrom with
  | none => s.done
  | some t =>
    if s.anaOn && s.quiet && decide (t + quietLen ≤ s.now) && decide (t + quietLen ≤ s.shunts.iSlot) then
      (s.modRes (fun r => { r with
        zeroB := if r.quietNB = 0 then r.zeroB else some (divI r.quietSumB (r.quietNB : Int))
        zeroT := if r.quietNT = 0 then r.zeroT else some (divI r.quietSumT (r.quietNT : Int))
        zeroAt := some (t + quietLen), zeroRaised := false
        quietFrom := none, quietSumB := 0, quietSumT := 0, quietNB := 0, quietNT := 0 })).done
    else s.done

/-- The zero age exceeds ZERO_MAX_H. -/
def State.zeroTooOld (s : State) : Bool :=
  match s.results.zeroAt with
  | some t => decide (t + 3600000000000 * s.fld Fld.anaTallyCfgZeroMaxH < s.now)
  | none => false

/-- ZERO_STALE: once in each episode. -/
def execZeroStale (s : State) : Host.Outcome State Fault Refusal :=
  if s.anaOn && s.zeroTooOld && !s.results.zeroRaised then
    ((s.modRes (fun r => { r with zeroRaised := true })).raise .zeroStale none none (word s.zeroAge) 0 0).done
  else s.done

/-! ### TALLY and CELL_SNAPSHOT (R190, R209, R211) -/

/-- TALLY: the period that has ended. -/
def execTally (s : State) : Host.Outcome State Fault Refusal :=
  let t := s.results.lastTally + 10000000 * s.results.params.period
  if s.inRun && s.results.stepFrom.isSome && s.results.params.period != 0 && decide (t ≤ s.now) then
    (each s.playedCells (fun s k => s.tallyRecord k t false) (s.modRes (fun r => { r with lastTally := t }))).done
  else s.done

/-- Every cell's snapshot at a slot boundary. -/
def State.snapshots (s : State) (t : Nat) : State := each allCells (fun s k => s.snapshotRecord k t) s

/-- CELL_SNAPSHOT: a period has ended, or SNAP_NOW waits for this slot boundary. -/
def execCellSnapshot (s : State) : Host.Outcome State Fault Refusal :=
  let p := 100000000 * s.fld Fld.anaTallyCfgSnapPeriod
  let t := s.now / 1000 * 1000
  let due := p != 0 && decide (s.results.lastSnap + p ≤ s.now)
  if s.anaOn && (due || s.results.snapPending) then
    let s := s.snapshots t
    (s.modRes (fun r => { r with
      lastSnap := if due then t else r.lastSnap, snapPending := false })).done
  else s.done

/-- The write-one bits of ANA_CTRL (R209). -/
def State.wroteAnaCtrl (s : State) (v : Word) : State :=
  let s := if fieldOf Fld.anaCtrlSnapNow v = 1 then s.modRes (fun r => { r with snapPending := true }) else s
  let s := if fieldOf Fld.anaCtrlKvalSnap v = 1 then s.kvalAll else s
  if fieldOf Fld.anaCtrlKvalReset v = 1 then each allCells (fun s k => s.kvalClear k) s else s

/-! ### EDGE-R (R194, R195) -/

/-- I_t of the slots that cover an interval of line time; none where one is missing. -/
def State.currentOver (s : State) (a b : Nat) : Option (List Int) :=
  let first := a / 1000 * 1000
  let n := b / 1000 - a / 1000 + 1
  (List.range n).mapM (fun i => match find? s.shunts.iHist (first + 1000 * i) with
    | some (some x) => some x
    | _ => none)

/-- The sample stamped nearest to a time among samples with their stamps; the earlier at a tie. -/
def nearest (t : Nat) : List (Nat × Int) → Option (Nat × Int)
  | [] => none
  | x :: l =>
    match nearest t l with
    | none => some x
    | some y =>
      let dx := (x.1 - t) + (t - x.1)
      let dy := (y.1 - t) + (t - y.1)
      if dx ≤ dy then some x else some y

/-- The n samples nearest to a time. -/
def nearestN (t : Nat) : Nat → List (Nat × Int) → List (Nat × Int)
  | 0, _ => []
  | n + 1, l =>
    match nearest t l with
    | none => []
    | some x => x :: nearestN t n (l.erase x)

/-- The capture samples with their stamps, 500 ns apart (R166). -/
def stamped (b : Burst) : List (Nat × Int) := b.samples.mapIdx (fun i v => (b.start + 500 * i, v))

/-- The 8 latest samples at least 100 ns before step 1. -/
def preSamples (b : Burst) : List Int :=
  let l := (stamped b).filter (fun x => decide (x.1 + 100 ≤ b.edge.step1))
  (l.drop (l.length - 8)).map Prod.snd

/-- The 4 samples nearest to t_x + T1. -/
def postSamples (b : Burst) (t1 : Nat) : List Int :=
  (nearestN (b.edge.tx + 1000 * t1) 4 (stamped b)).map Prod.snd

/-- rp in µΩ from the means after and before, over the mean current. -/
def pulseOhm (sgn : Int) (after before i : List Int) : Int :=
  let a : Int := after.length
  let b : Int := before.length
  let n : Int := i.length
  divI (sgn * (sumInt after * b - sumInt before * a) * 1000000 * n) (a * b * sumInt i)

/-- The values of one usable edge. -/
def edgeVal (b : Burst) (t1 : Nat) (i : List Int) : EdgeVal :=
  let sgn : Int := if outward b.edge then -1 else 1
  let pre := preSamples b
  { rp1 := pulseOhm sgn (postSamples b t1) pre i
    rp2 := if b.postOk then some (pulseOhm sgn b.post b.pre i) else none
    i := divI (sumInt i) (i.length : Int)
    vpre := divI (sumInt pre) (pre.length : Int)
    tx := b.edge.tx
    pos := b.edge.cls == .pos }

/-- EDGE-R runs on a cell and direction: the record that is begun goes on, another begins where the kernel runs now
(R186). -/
def State.edgeRuns (s : State) (k : Cell) (out : Bool) : Bool :=
  let a := s.ana.get k
  !(if out then a.rOut else a.rIn).isEmpty || s.kernelsNow.getLsbD 1

/-- EDGE_R: the oldest burst of a cell whose slot conversions are in. -/
def execEdgeR (k : Cell) (s : State) : Host.Outcome State Fault Refusal :=
  match (s.ana.get k).bursts with
  | [] => s.done
  | b :: rest =>
    let s := s.modAna k (fun a => { a with bursts := rest })
    let out := outward b.edge
    let p := s.burstParams k out
    if !s.inRun || !s.edgeRuns k out || !s.anaOn || !s.played k || b.edge.cls == .low then s.done
    else if b.disturbed then
      (s.modAna k (fun a => if out then { a with rDistOut := a.rDistOut + 1 } else { a with rDistIn := a.rDistIn + 1 })).done
    else
      match s.currentOver b.edge.tx (b.edge.tx + 1000 * p.t1) with
      | none => s.done
      | some i =>
        if sumInt (i.map (fun x => (x.natAbs : Int))) < (p.iMin : Int) * i.length || sumInt i == 0 then s.done
        else
          let v := edgeVal b p.t1 i
          let s := s.modAna k (fun a =>
            if out then { a with rOut := a.rOut ++ [v], pOut := p } else { a with rIn := a.rIn ++ [v], pIn := p })
          let n := if out then (s.ana.get k).rOut.length else (s.ana.get k).rIn.length
          (if 2 ^ p.nLog2 ≤ n then s.edgeRecord k out false else s).done

/-! ### The SWEEP command (R197) -/

/-- Cells of a set in ascending order. -/
def setCells (b : BitVec 256) : List Cell := allCells.filter (inSet b)

/-- SWEEP-Z runs in a sweep that begins: its span is the sweep (R186). -/
def State.sweepRuns (s : State) : Bool := s.kernelsNow.getLsbD 2

/-- A SWEEP is judged; a scheduled sweep counts as running. -/
def State.sweepCmd (s : State) (id plan t : Nat) (cells : BitVec 256) : Status × State :=
  let l := setCells cells
  if s.results.sweepAt.isSome || s.results.sweepOn then (.busy, s)
  else if !s.inRun || !s.sweepRuns || decide (s.sweepCount ≤ plan) || l.isEmpty || decide (32 < l.length) ||
      l.any (fun k => k.val + 1 < 256 && inSet cells (cell (k.val + 1))) || l.any (fun k => !s.played k) ||
      decide (t < s.now) then (.rejected, s)
  else
    let s := s.modRes (fun r => { r with sweepAt := some t, sweepPlan := plan, sweepId := id, sweepCells := cells })
    let tell (s : State) (g : Seg) : State :=
      let m := localSet g (inSet cells)
      if m = 0 || !s.linkUp g then s else s.sendDown g (.cmd (.sweepStart m))
    (.ok, each allSegs tell s)

end Sys2Proof.Machine
end

