-- ==== Sys2Proof/Machine/FlaconCheck.lean ====
section
/-!
DEFINITION. The checks 1 to 17 on a flacon image (R76 to R88, R184 to R196, R430, R513) and the shares of the segments
(R89). A check answers the item at fault of its first failure.
-/

namespace Sys2Proof.Machine

/-- What the checks answer: status, number of the first failed check (0: none), WHERE, and the peaks of R100. -/
structure Verdict where
  status : Status
  rule : Nat
  place : Nat
  modPeak : Nat
  segPeak : Nat
  deriving DecidableEq, Repr

/-- The place of the first item at fault. -/
def firstBad : List (Nat × Bool) → Option Nat
  | [] => none
  | (w, b) :: t => if b then some w else firstBad t

/-- WHERE that names no item. -/
def noWhere : Nat := 0xFFFF

/-- One condition without an item. -/
def badIf (b : Bool) : Option Nat := if b then some noWhere else none

/-- The smallest of a list. -/
def least (l : List Nat) : Option Nat :=
  l.foldl (fun m x => match m with
    | none => some x
    | some y => some (Nat.min x y)) none

def allZero (l : List Byte) (a n : Nat) : Bool := ((l.drop a).take n).all (fun b => b == 0)

/-! ### Checks 1 to 7 (R76, R77, R430) -/

/-- End of the covered range and start of the trailer. -/
def trailerAt (l : List Byte) : Nat := imgTotal l - 128

/-- The covered range with CHECK_HDR taken as 0. -/
def covered (l : List Byte) : List Byte := splice (l.take (trailerAt l)) 0x3C (zeros 4)

def check1 (magic magicEnd : Nat) (maxLen loaded : Nat) (l : List Byte) : Bool :=
  u l 0 4 == magic && u l 6 2 == 0x40 && imgTotal l == loaded && l.length == loaded && imgTotal l % 8 == 0 &&
    decide (imgTotal l ≤ maxLen) && decide (0x40 + 128 ≤ imgTotal l) && u l (trailerAt l) 4 == magicEnd

/-- The duplicate check-value rule (R430) over an image's CHECK_HDR and CHECK_TRL. -/
def duplicateCheck (l : List Byte) : Status :=
  let c := crc32c (covered l)
  match u l 0x3C 4 == c, u l (trailerAt l + 4) 4 == c with
  | true, true => .ok
  | false, false => .checkFail
  | _, _ => .checkValueDamaged

def digestOk (l : List Byte) : Bool := sha256 (covered l) == (l.drop (trailerAt l + 8)).take 32

/-- SIGNATURE over DIGEST with a key. -/
def signatureOk (key : Nat × Nat) (l : List Byte) : Bool :=
  let t := trailerAt l
  ecdsaOk key ((l.drop (t + 8)).take 32) (beNat ((l.drop (t + 0x28)).take 32)) (beNat ((l.drop (t + 0x48)).take 32))

/-- The flacon key of the configuration image; no key is all zero bytes (R443). -/
def State.flaconKey (s : State) : Option (Nat × Nat) :=
  if s.nvm.key.all (fun b => b == 0) then none
  else some (beNat (s.nvm.key.take 32), beNat ((s.nvm.key.drop 32).take 32))

/-- "LMFL" and "LMFE". -/
def flaconMagic : Nat := 0x4C464D4C
def flaconMagicEnd : Nat := 0x45464D4C

/-- The first failed check of 1 to 7, and whether one check value is damaged. -/
def State.checks1to7 (s : State) (loaded : Nat) (l : List Byte) : Option (Nat × Status) × Bool :=
  let dup := duplicateCheck l
  if !check1 flaconMagic flaconMagicEnd 1048576 loaded l then (some (1, .checkFail), false)
  else if u l 4 2 != 1 then (some (2, .unsupported), false)
  else if dup == .checkFail then (some (3, .checkFail), false)
  else
    let damaged := dup == .checkValueDamaged
    if !digestOk l then (some (4, .checkFail), damaged)
    else if !imgSigned l && s.flag Fld.playFlaconPolicyRequireSig then (some (5, .rejected), damaged)
    else if imgSigned l && !(match s.flaconKey with
        | some k => signatureOk k l
        | none => false) then (some (6, .checkFail), damaged)
    else if imgBuild l < s.fld Fld.playFlaconPolicyMinBuild then (some (7, .rejected), damaged)
    else (none, damaged)

/-! ### Checks 8 and 9 (R78) -/

/-- Directory entries that lie before the trailer. -/
def dirFit (l : List Byte) : List Section := (imgDir l).take ((trailerAt l - 0x40) / 16)

def knownType (t : Nat) : Bool := decide (1 ≤ t) && decide (t ≤ 9)

def check8 (l : List Byte) : Option Nat := least (((dirFit l).map Section.ty).filter (fun t => !knownType t))

/-- A directory entry breaks R78 by itself. -/
def sectionBad (l : List Byte) (e : Section) : Bool :=
  e.version != 1 || e.zero != 0 || e.off % 8 != 0 || decide (e.off < 0x40 + 16 * u l 0x16 2) ||
    decide (trailerAt l < e.off + e.len)

/-- Two directory entries overlap or are of one type. -/
def sectionsClash (a b : Section) : Bool :=
  a.ty == b.ty || (decide (a.off < b.off + b.len) && decide (b.off < a.off + a.len))

def check9 (l : List Byte) : Option Nat :=
  if trailerAt l < 0x40 + 16 * u l 0x16 2 then some noWhere
  else
    let d := dirFit l
    let clash (i : Nat) (a : Section) : Bool :=
      (d.zipIdx).any (fun e => e.2 != i && sectionsClash a e.1)
    let bad := (d.zipIdx).filter (fun e => sectionBad l e.1 || clash e.2 e.1)
    let missing := [1, 2, 3, 4, 5, 6, 7].filter (fun t => !d.any (fun e => e.ty == t))
    least (bad.map (fun e => e.1.ty) ++ missing)

/-! ### Check 10 (R76, R79 to R86, R187, R196) -/

def headerBad (l : List Byte) : Bool :=
  let t := trailerAt l
  let within (a b x : Nat) : Bool := decide (a ≤ x) && decide (x ≤ b)
  !(within 7 9 (u l 0x16 2) && within 50 4194304 (imgCycleUs l) && within 1 16 (imgLadders l) &&
    within 1 256 (imgSteps l) && decide (u l 0x0C 4 < 2) && u l 0x1D 1 == 0 && allZero l 0x28 20 &&
    allZero l (t + 0x68) 24 && (imgSigned l || allZero l (t + 0x28) 64))

/-- Strictly ascending. -/
def ascending : List Nat → Bool
  | a :: b :: t => decide (a < b) && ascending (b :: t)
  | _ => true

def ascendingInt : List Int → Bool
  | a :: b :: t => decide (a < b) && ascendingInt (b :: t)
  | _ => true

/-- OWNERSHIP: a cell entry with its pair entries. -/
def ownBad (l : List Byte) (k : Nat) : Bool :=
  let lad := ownLadder l k
  let n := ownCount l k
  let off := ownOffset l k
  let raw := (List.range n).map (fun i => u l (secOff l 1 + off + 4 * i) 4)
  decide (249 < ownFine l k) ||
    (if lad = 0xFF then n != 0 || off != 0
     else decide (imgLadders l ≤ lad) || decide (256 < n) || (n == 0 && (off != 0 || ladStartIn l lad)) ||
      (n != 0 && (decide (off < 2048) || decide (secLen l 1 < off + 4 * n))) ||
      raw.any (fun e => decide (2 ^ 25 ≤ e) || decide (imgCycleUs l ≤ e % 2 ^ 22)) ||
      !ascending (raw.map (fun e => e % 2 ^ 22 * 8 + e / 2 ^ 22 % 8)))

/-- PATTERNS: an offset, the rung table and the edge entries it names. -/
def patBad (l : List Byte) (k : Nat) : Bool :=
  let off := patOffset l k
  if ownLadder l k = 0xFF then off != 0
  else
    let n := ladRungs l (ownLadder l k)
    off % 4 != 0 || decide (off < 1024) || decide (secLen l 2 < off + 4 * n) ||
      (List.range n).any (fun r =>
        let e := patEntry l k r
        let c := e / 2 ^ 16 % 256
        decide (2 ^ 24 ≤ e) || decide (16 < c) ||
          (c != 0 && decide (secLen l 2 < off + 2 * (e % 2 ^ 16) + 2 * c)) ||
          (patEdges l k r).any (fun p => decide (249 < p.2)))

def ladBad (l : List Byte) (i : Nat) : Bool :=
  let r := ladRungs l i
  r == 0 || decide (64 < r) || decide (1 < u l (ladBase l i + 1) 1) || !allZero l (ladBase l i + 2) 2 ||
    (List.range 64).any (fun j => decide (32768 < ladFraction l i j)) ||
    !ascendingInt ((List.range 15).map (ladThr l i)) ||
    (List.range 16).any (fun j => decide (2 < absI (ladMv l i j)))

/-- Number of current tables. -/
def curTables (l : List Byte) : Nat := secLen l 4 / 256

def curBad (l : List Byte) (t : Nat) : Bool :=
  let e := (List.range 64).map (curEntry l t)
  e.any (fun x => decide (300000 < absI x)) || (e.any (fun x => decide (x < 0)) && e.any (fun x => decide (0 < x)))

def stepBad (l : List Byte) (i : Nat) : Bool :=
  let b := stepBase l i
  let flags := u l (b + 2) 2
  decide (3 ≤ flags) || decide (curTables l ≤ stepTable l i) || !allZero l (b + 5) 3 || stepRamp l i == 0 ||
    (stepLimit l i == 0 && stepEnd l i != 0) || !allZero l (b + 0x14) 12 ||
    (List.range 16).any (fun j =>
      if imgLadders l ≤ j then !allZero l (stepLad l i j) 16
      else decide (ladRungs l j ≤ stepStart l i j) || decide (2 < stepMode l i j) || !allZero l (stepLad l i j + 14) 2)

/-- SAMPLING: window i, the earlier windows of its cell counted. -/
def windowBad (l : List Byte) (ws : List Window) (i : Nat) (w : Window) : Bool :=
  let a := secOff l 6 + 16 * i
  decide (16 ≤ ((ws.take i).filter (fun x => x.cell == w.cell)).length) || decide (3 < w.kind) || !allZero l (a + 2) 2 ||
    !allZero l (a + 12) 4 ||
    (if w.kind = 3 then decide (ownCount l w.cell ≤ w.start)
     else w.len == 0 || decide (imgCycleUs l < w.start + w.len))

def limBad (l : List Byte) (k : Nat) : Bool :=
  (decide (300 < limOv l k) && limOv l k != 0xFFFF) || (decide (700 < limUv l k) && limUv l k != 0xFFFF)

/-- ANALYSIS fields at offsets 0x00 to 0x3F. -/
def anaBad (l : List Byte) : Bool :=
  let a := secOff l 8
  let k := u l a 4
  let t1 := u l (a + 8) 1
  let n := u l (a + 9) 1
  let t2 := u l (a + 0x0A) 2
  let bin := u l (a + 0x10) 2
  let tc := signed 16 (u l (a + 0x12) 2)
  k % 2 == 0 || decide (128 ≤ k) || (t1 != 0 && (decide (t1 < 2) || decide (24 < t1))) ||
    (decide (6 < n) && n != 0xFF) || (t2 != 0 && (decide (t2 < 50) || decide (4000 < t2))) ||
    decide (16 < u l (a + 0x0F) 1) || (decide (0 < bin) && decide (bin < 1000)) ||
    (tc != -32768 && decide (2047 < absI tc)) || !allZero l (a + 0x14) 12

/-- Frequency i of plan p lies in 0.1 Hz to 1 kHz (R196). -/
def freqOk (l : List Byte) (w : Nat) : Bool :=
  let n := walkLen l w
  decide (w < walkCount l) && decide (4 ≤ n) && decide (1000 ≤ n * imgCycleUs l) &&
    decide (n * imgCycleUs l ≤ 10000000)

def planAt (l : List Byte) (p : Nat) : Nat := secOff l 8 + 0x40 + 136 * p
def planWalk (l : List Byte) (p i : Nat) : Nat := u l (planAt l p + 8 + 4 * i) 1

def planBad (l : List Byte) (p : Nat) : Bool :=
  let a := planAt l p
  let n := u l a 1
  n == 0 || decide (32 < n) || !allZero l (a + 1) 7 ||
    (List.range 32).any (fun i =>
      if i < n then u l (a + 10 + 4 * i) 2 == 0 || !freqOk l (planWalk l p i) else !allZero l (a + 8 + 4 * i) 4)

def anaPlans (l : List Byte) : Nat := if (imgSection l 8).isSome then u l (secOff l 8 + 0x0F) 1 else 0

def walkBad (l : List Byte) (i : Nat) : Bool :=
  let a := secOff l 9 + 4 + 8 * i
  let n := walkLen l i
  n == 0 || decide (4096 < n) || u l (a + 6) 2 != 0 || decide (secLen l 9 < u l a 4 + n)

/-- The items of check 10 in the order of R513. -/
def check10 (l : List Byte) : Option Nat :=
  let cells := List.range 256
  let ws := imgWindows l
  let lim := limBase l
  badIf (headerBad l) <|> badIf (decide (secLen l 1 < 2048)) <|> firstBad (cells.map (fun k => (k, ownBad l k))) <|>
  badIf (decide (secLen l 2 < 1024)) <|> firstBad (cells.map (fun k => (k, patBad l k))) <|>
  badIf (secLen l 3 != 208 * imgLadders l) <|>
  firstBad ((List.range (imgLadders l)).map (fun i => (i, ladBad l i))) <|>
  badIf (secLen l 4 % 256 != 0 || decide (64 < curTables l)) <|>
  firstBad ((List.range (curTables l)).map (fun t => (t, curBad l t))) <|>
  badIf (secLen l 5 != 288 * imgSteps l) <|>
  firstBad ((List.range (imgSteps l)).map (fun i => (i, stepBad l i))) <|>
  badIf (secLen l 6 % 16 != 0 || decide (4096 < ws.length)) <|>
  firstBad (ws.mapIdx (fun i w => (w.cell, windowBad l ws i w))) <|>
  badIf (secLen l 7 != 1088 || !allZero l (lim + 0x28) 24) <|> firstBad (cells.map (fun k => (k, limBad l k))) <|>
  (if (imgSection l 8).isSome then
    badIf (decide (secLen l 8 < 0x40) || secLen l 8 != 0x40 + 136 * anaPlans l || anaBad l) <|>
    firstBad ((List.range (anaPlans l)).map (fun p => (p, planBad l p)))
   else none) <|>
  (if (imgSection l 9).isSome then
    badIf (decide (secLen l 9 < 4) || walkCount l == 0 || decide (64 < walkCount l) || u l (secOff l 9 + 2) 2 != 0 ||
      decide (secLen l 9 < 4 + 8 * walkCount l)) <|>
    firstBad ((List.range (walkCount l)).map (fun i => (i, walkBad l i)))
   else none)

/-! ### Check 11 -/

/-- Steps that use a current table. -/
def tableUsers (l : List Byte) (t : Nat) : List Nat := (List.range (imgSteps l)).filter (fun i => stepTable l i == t)

def tableOver (l : List Byte) (t : Nat) : Bool :=
  let e := (List.range 64).map (fun h => absI (curEntry l t h))
  e.any (fun x => decide (limIMax l < x)) ||
    (e.any (fun x => decide (200000 < x)) && (tableUsers l t).any (fun i =>
      stepEnd l i != 1 || decide (10000000 < stepLimit l i * imgCycleUs l)))

def check11 (l : List Byte) : Option Nat :=
  match (List.range (curTables l)).find? (tableOver l) with
  | some t => some ((tableUsers l t).head?.getD noWhere)
  | none => none

/-! ### Checks 12 and 13, and the peaks (R100) -/

/-- Two ascending lists merged; at most n elements. -/
def mergeAsc : Nat → List Nat → List Nat → List Nat
  | 0, _, _ => []
  | _, [], b => b
  | _, a, [] => a
  | n + 1, x :: a, y :: b => if x ≤ y then x :: mergeAsc n a (y :: b) else y :: mergeAsc n (x :: a) b

/-- Every pair that a list of cells owns as slot, lane and cell in one ascending number. -/
def keysOf (l : List Byte) (cells : List Nat) : List Nat :=
  cells.foldl (fun acc k =>
    let own := (ownPairs l k).map (fun p => (p.1 * 8 + p.2) * 256 + k)
    mergeAsc (acc.length + own.length) acc own) []

def ownedKeys (l : List Byte) : List Nat := keysOf l (List.range 256)

/-- The owned pairs slot by slot. -/
def bySlot (keys : List Nat) : List (List Nat) := keys.splitBy (fun a b => a / 2048 == b / 2048)

/-- Pairs of a slot that a segment owns, at most. -/
def segMost (slot : List Nat) : Nat :=
  ((List.range 16).map (fun g => (slot.filter (fun x => x % 256 / 16 == g)).length)).foldl Nat.max 0

/-- A pair that two cells own. -/
def sharedPair : List Nat → Option Nat
  | a :: b :: t => if a / 256 = b / 256 then some (a / 2048) else sharedPair (b :: t)
  | _ => none

def check12 (keys : List Nat) : Option Nat := (sharedPair keys).map (fun n => n % 65536)

def check13 (keys : List Nat) : Option Nat :=
  ((bySlot keys).find? (fun g => decide (2 < segMost g))).map (fun g => g.headD 0 / 2048 % 65536)

def modPeakOf (keys : List Nat) : Nat := ((bySlot keys).map List.length).foldl Nat.max 0
def segPeakOf (keys : List Nat) : Nat := ((bySlot keys).map segMost).foldl Nat.max 0

/-! ### Checks 14 to 17 -/

/-- t_p of an edge from the start of the cycle (R64). -/
def edgeTime (l : List Byte) (k : Nat) (e : Nat × Nat) : Nat := 1000 * (ownPair l k e.1).1 + 4 * e.2

/-- Distance of two times on the cycle. -/
def cyclic (period a b : Nat) : Nat :=
  let d := (a + period - b % period) % period
  Nat.min d (period - d)

/-- Times at least 500 ns apart, ascending. -/
def spaced : List Nat → Bool
  | a :: b :: t => decide (a + 500 ≤ b) && spaced (b :: t)
  | _ => true

def edgesBad (l : List Byte) (k : Nat) : Bool :=
  if ownLadder l k = 0xFF then false
  else
    let lad := ownLadder l k
    let inStart := ladStartIn l lad
    let period := 1000 * imgCycleUs l
    let entry := edgeTime l k (0, ownFine l k)
    let rungs := (List.range (ladRungs l lad)).map (patEdges l k)
    let times := rungs.map (fun r => r.map (edgeTime l k))
    let firsts := times.filterMap List.head?
    let lasts := times.filterMap List.getLast?
    rungs.any (fun r => r.length % 2 == 1 || r.any (fun e => decide (ownCount l k ≤ e.1) || (inStart && e.1 == 0))) ||
      times.any (fun t => !spaced t || (inStart && t.any (fun x => decide (cyclic period x entry < 500)))) ||
      (match least firsts with
        | some a => decide (a + period < lasts.foldl Nat.max 0 + 500)
        | none => false)

/-- Consecutive offsets differ by at most 2. -/
def smooth : List Int → Bool
  | a :: b :: t => decide (absI (b - a) ≤ 2) && smooth (b :: t)
  | _ => true

/-- R75, and R196 for a walk that a sweep plan repeats. -/
def walkJumps (l : List Byte) (i : Nat) : Bool :=
  let o := walkOffsets l i
  let a := o.headD 0
  let z := o.getLastD 0
  let repeated := (List.range (anaPlans l)).any (fun p => (List.range (u l (planAt l p) 1)).any (fun j => planWalk l p j == i))
  decide (2 < absI a) || decide (2 < absI z) || !smooth o || (repeated && decide (2 < absI (z - a)))

/-- A pair occupies a time within a window, on the cycle (R88); times in ns, the window already widened. -/
def pairMeets (period from_ len slot : Nat) : Bool :=
  decide (period ≤ len) || decide ((1000 * slot + period - from_ % period) % period < len) ||
    decide ((from_ + period - 1000 * slot % period) % period < 1450)

/-- A window is broken (R88); g is the larger guard time. -/
def quietBroken (l : List Byte) (g : Nat) (w : Window) : Bool :=
  let period := 1000 * imgCycleUs l
  let a := if w.kind = 3 then 1000 * (ownPair l w.cell w.start).1 + period - 4000 else 1000 * w.start
  let d := if w.kind = 3 then 32000 else 1000 * w.len
  let from_ := a + (g / period + 1) * period - g
  let meets (k skip : Nat) : Bool :=
    (ownPairs l k).zipIdx.any (fun p => !(w.kind == 3 && p.2 == skip && k == w.cell) && pairMeets period from_ (d + 2 * g) p.1.1)
  meets w.cell w.start || (decide (0 < w.cell) && meets (w.cell - 1) w.start) ||
    (decide (w.cell < 255) && meets (w.cell + 1) w.start)

def check16 (l : List Byte) (g : Nat) : Option Nat := least (((imgWindows l).filter (quietBroken l g)).map Window.cell)

def slot (l : List Byte) (a n : Nat) : List Byte := (l.drop a).take n

/-- Edge entries that a cell's rungs name, each once, from the rung table. -/
def edgeEntries (l : List Byte) (k : Nat) : List Nat :=
  ((List.range (ladRungs l (ownLadder l k))).flatMap (fun r =>
    let e := patEntry l k r
    (List.range (e / 2 ^ 16 % 256)).map (fun i => e % 2 ^ 16 + i))).eraseDups

/-- The cells of a segment, and the same with the two neighbours of its outer cells where they exist. -/
def ownCells (g : Nat) : List Nat := (List.range 16).map (fun c => 16 * g + c)
def nearCells (g : Nat) : List Nat := (List.range 256).filter (fun k => decide (16 * g ≤ k + 1) && decide (k ≤ 16 * g + 16))

/-- The share of a segment without its CRC (R89). -/
def shareBody (l : List Byte) (g : Nat) : List Byte :=
  let near := nearCells g
  let own := ownCells g
  near.flatMap (fun k => slot l (secOff l 1 + 8 * k) 8 ++ slot l (secOff l 1 + ownOffset l k) (4 * ownCount l k)) ++
    own.flatMap (fun k => if ownLadder l k = 0xFF then [] else
      slot l (patTable l k) (4 * ladRungs l (ownLadder l k)) ++
        (edgeEntries l k).flatMap (fun i => slot l (patTable l k + 2 * i) 2)) ++
    slot l (secOff l 3) (secLen l 3) ++ slot l (secOff l 9) (secLen l 9) ++
    (imgWindows l).zipIdx.flatMap (fun w => if near.contains w.1.cell then slot l (secOff l 6 + 16 * w.2) 16 else []) ++
    slot l (limBase l) 64 ++ slot l (limBase l + 0x40 + 64 * g) 64

/-- The share with the hub's CRC-32C. -/
def shareOf (l : List Byte) (g : Nat) : List Byte :=
  let b := shareBody l g
  b ++ leBytes 4 (crc32c b)

/-- Checks 12 to 14 and 16 as a segment repeats them for its own cells (R89), on the entries that its share holds; `g` is
its number, `guard` the larger guard time. -/
def ownChecks (l : List Byte) (g guard : Nat) : Status :=
  let own := keysOf l (ownCells g)
  if (check12 (keysOf l (nearCells g))).isSome || (check13 own).isSome || (ownCells g).any (edgesBad l) ||
      (imgWindows l).any (fun w => (ownCells g).contains w.cell && quietBroken l guard w) then .budgetViolation
  else .ok

/-- What a segment reports of a share whose CRC agrees (log 22): its own checks on the entries of the image that the
share was cut from. -/
def shareVerdict (l share : List Byte) (g guard : Nat) : Status :=
  if share == shareOf l g then ownChecks l g guard else .checkFail

def check17 (l : List Byte) : Option Nat := (List.range 16).find? (fun g => decide (49152 < (shareOf l g).length))

/-! ### The order of the checks (R87) -/

/-- The larger of GUARD_NS and MEAS_GUARD_TIME (R88). -/
def State.guardFor (s : State) (l : List Byte) : Nat := Nat.max (limGuard l) (s.fld Fld.measGuardTimeGuard)

/-- Checks 8 to 17 in order: the first that fails. -/
def State.checks8to17 (s : State) (l : List Byte) : Option (Nat × Status × Nat) :=
  let at_ (n : Nat) (st : Status) (o : Option Nat) : Option (Nat × Status × Nat) := o.map (fun w => (n, st, w))
  at_ 8 .unsupported (check8 l) <|> at_ 9 .rejected (check9 l) <|> at_ 10 .rejected (check10 l) <|>
  at_ 11 .rejected (check11 l) <|> at_ 12 .budgetViolation (check12 (ownedKeys l)) <|>
  at_ 13 .budgetViolation (check13 (ownedKeys l)) <|>
  at_ 14 .budgetViolation ((List.range 256).find? (edgesBad l)) <|>
  at_ 15 .budgetViolation ((List.range (walkCount l)).find? (walkJumps l)) <|>
  at_ 16 .budgetViolation (check16 l (s.guardFor l)) <|>
  at_ 17 .capacity (check17 l)

/-- Checks 1 to 7 of a load (R90). -/
def State.judgeLoad (s : State) (loaded : Nat) (l : List Byte) : Verdict :=
  match s.checks1to7 loaded l with
  | (some (n, st), _) => ⟨st, n, noWhere, 0, 0⟩
  | (none, damaged) => ⟨if damaged then .checkValueDamaged else .ok, 0, noWhere, 0, 0⟩

/-- Checks 1 to 17 of FLACON_VERIFY; the peaks are formed once check 12 has passed (R100). -/
def State.judgeVerify (s : State) (loaded : Nat) (l : List Byte) : Verdict :=
  let v := s.judgeLoad loaded l
  if v.rule ≠ 0 then v
  else
    let keys := ownedKeys l
    let peak (f : List Nat → Nat) : Nat := Nat.min 15 (f keys)
    match s.checks8to17 l with
    | none => { v with modPeak := peak modPeakOf, segPeak := peak segPeakOf }
    | some (n, st, w) =>
      if n ≤ 12 then ⟨st, n, w % 65536, 0, 0⟩ else ⟨st, n, w % 65536, peak modPeakOf, peak segPeakOf⟩

/-- PLAY_EDGE_BUDGET and PLAY_STAGED_SLOT.VERIFY report the latest check (R98, R100). -/
def State.noteVerdict (s : State) (v : Verdict) : State :=
  s.modPlay (fun p => { p with
    checkRule := v.rule, checkWhere := v.place, modPeak := v.modPeak, segPeak := v.segPeak
    staged := { p.staged with verify := v.status } })

end Sys2Proof.Machine
end

