-- ==== Sys2Proof/Machine/NvmOps.lean ====
section
/-!
DEFINITION. What the flash is used for (chapters 03 and 15): reading the journal, flacon slots, configuration banks,
repairs, firmware slots; FLACON_LOAD, FLACON_VERIFY, FLACON_ERASE and FW_UPDATE; and the end of a flash operation.
-/

namespace Sys2Proof.Machine

/-! ### Reading the journal (R454, R457) -/

/-- A valid journal record: place in the region, kind, SEQ, time, payload. -/
structure JRec where
  pos : Nat
  kind : Nat
  seq : Nat
  time : Nat
  payload : List Byte
  deriving DecidableEq, Repr

/-- Bytes of a record with its marker. -/
def JRec.size (r : JRec) : Nat := 48 + r.payload.length

/-- The valid record at a place (R455). -/
def jrecAt (m : List (Nat × Byte)) (pos : Nat) : Option JRec :=
  let h := Sparse.read erased m (journalBase + pos) 0x20
  let len := u h 0x10 2
  let p := Sparse.read erased m (journalBase + pos + 0x20) len
  let c := Sparse.read erased m (journalBase + pos + 0x20 + len) 16
  let crc := crc32c (h.take 0x14 ++ p)
  if u h 0 2 = 0xA55A ∧ len % 16 = 0 ∧ 16 ≤ len ∧ len ≤ 128 ∧ u h 0x14 4 = crc ∧ u c 0 4 = 0x434A4D4C ∧
      u c 4 4 = u h 4 4 ∧ u c 8 4 = crc then
    some ⟨pos, u h 2 1, u h 4 4, u h 8 8, p⟩
  else none

/-- Valid records from a place on, none beyond the sector; at most n. -/
def jwalk (m : List (Nat × Byte)) (stop : Nat) : Nat → Nat → List JRec
  | 0, _ => []
  | n + 1, pos =>
    if stop ≤ pos then []
    else match jrecAt m pos with
      | none => []
      | some r => r :: jwalk m stop n (pos + r.size)

/-- Records of a sector that opens with a SECTOR record. -/
def jsector (m : List (Nat × Byte)) (i : Nat) : List JRec :=
  match jwalk m ((i + 1) * sectorSize) 64 (i * sectorSize) with
  | r :: t => if r.kind = 1 then r :: t else []
  | [] => []

/-- Insertion by SEQ. -/
def jinsert (r : JRec) : List JRec → List JRec
  | [] => [r]
  | a :: t => if r.seq < a.seq then r :: a :: t else a :: jinsert r t

/-- The valid records, oldest first. -/
def journalOf (m : List (Nat × Byte)) : List JRec :=
  ((List.range (journalSize / sectorSize)).flatMap (jsector m)).foldl (fun l r => jinsert r l) []

/-- The latest record of the kinds named about a region. -/
def latestOf (l : List JRec) (kinds : List Nat) (region : Nat) : Option JRec :=
  l.reverse.find? (fun r => kinds.contains r.kind && u r.payload 0 1 == region)

/-! ### Wear (R466) -/

/-- Highest erase count with the region of that count. -/
def Nvm.maxErases (n : Nvm) : Nat × Nat :=
  n.erases.foldl (fun m e => if m.1 < e.2 then (e.2, if e.1 < 1000 then 13 else e.1 - 1000) else m) (0, 0)

/-- NVM_WEAR. -/
def State.wearWord (s : State) : Word :=
  let m := s.nvm.maxErases
  word (Nat.min 0x1FFFF m.1 + m.2 * 2 ^ 17 + (if 80000 ≤ m.1 then 2 ^ 21 else 0))

/-- One more erase of a journal sector or, under 1000 + region, of a slot; WEAR as BEYOND becomes 1. -/
def State.countErase (s : State) (key : Nat) : State :=
  let s := s.modNvm (fun n => { n with erases := assign n.erases key (satAdd 0x1FFFF (s.eraseCount key) 1) })
  if 80000 ≤ s.nvm.maxErases.1 ∧ !s.nvm.wearRaised then
    (s.modNvm (fun n => { n with wearRaised := true })).raise .wear none none s.wearWord 0 0
  else s

/-! ### Commands that hold the flash (R90, R453) -/

/-- A flash command runs. -/
def State.flashCommand (s : State) : Bool :=
  s.nvm.jobs.any (fun j => match j.fin with
    | .record | .repair _ _ | .repairScratch _ _ => false
    | .store _ _ _ | .eraseSlot _ _ | .fwBegin _ _ | .fwChunk _ _ | .fwActivate _ _ | .configSet _ _ _
    | .answer _ _ _ _ => true)

/-- A flacon command is answered BUSY. -/
def State.flaconBusy (s : State) : Bool := s.play.verify.isSome || s.flashCommand || s.play.swapStaged

/-- Region of flacon slot i. -/
def slotRegion (i : Nat) : Nat := 4 + i

def setBit8 (b : BitVec 8) (i : Nat) (v : Bool) : BitVec 8 :=
  if v then b ||| (1 <<< i) else b &&& ~~~((1 : BitVec 8) <<< i)

/-! ### Repairs (R444) -/

/-- A damaged copy of a stored image awaits its repair, and IMAGE_DAMAGED is raised (R430). -/
def State.imageDamaged (s : State) (region : Nat) (trailer : Bool) : State :=
  let s := s.modNvm (fun n => { n with
    repairs := if n.repairs.contains (region, trailer) then n.repairs else n.repairs ++ [(region, trailer)]
    slotDamaged := if 4 ≤ region ∧ region < 12 then setBit8 n.slotDamaged (region - 4) true else n.slotDamaged })
  s.raise .imageDamaged none none (word region) 0 0

/-- The comparison of an image read from flash with its copies (R430): what it raises. -/
def State.judgedFromFlash (s : State) (region : Nat) (l : List Byte) : State :=
  match duplicateCheck l with
  | .checkValueDamaged => s.imageDamaged region (u l 0x3C 4 == crc32c (covered l))
  | .checkFail => s.raise .imageFail none none (word region) 0 0
  | _ => if 4 ≤ region ∧ region < 12 then
      s.modNvm (fun n => { n with slotDamaged := setBit8 n.slotDamaged (region - 4) false })
    else s

/-- Start of the stored image of a region; the configuration bank in use for region 12. -/
def State.imageBase (s : State) (region : Nat) : Nat :=
  if region = 12 then 0xC90000 + 0x10000 * s.nvm.cfgBank else regionStart region

/-- The stored image of a region by its own TOTAL_LEN. -/
def State.storedImage (s : State) (region : Nat) : List Byte :=
  let b := s.imageBase region
  let n := u (s.flashRead b 12) 8 4
  s.flashRead b (Nat.min n (regionSize region))

/-- Address of a check copy. -/
def State.copyAddr (s : State) (region : Nat) (trailer : Bool) : Nat :=
  s.imageBase region + (if trailer then (s.storedImage region).length - 124 else 0x3C)

/-- The configuration image with a key and correction entries (R443). -/
def configImage (gen : Nat) (key corrections : List Byte) : List Byte :=
  let body := (key ++ zeros (64 - key.length)).take 64 ++ corrections
  let total := 0x40 + body.length + 128
  let head (c : Nat) : List Byte := leBytes 4 0x4F434D4C ++ leBytes 2 1 ++ leBytes 2 0x40 ++ leBytes 4 total ++ zeros 4 ++
    leBytes 4 gen ++ zeros 40 ++ leBytes 4 c
  let cov := head 0 ++ body
  let c := crc32c cov
  head c ++ body ++ leBytes 4 0x454F4D4C ++ leBytes 4 c ++ sha256 cov ++ zeros 88

/-- Correction entries of the configuration bank in use. -/
def State.corrections (s : State) : List Byte :=
  let l := s.storedImage 12
  if u l 0 4 ≠ 0x4F434D4C ∨ u l 8 4 ≠ l.length then [] else
  if l.length < 0x40 + 64 + 128 then [] else (l.drop 0x80).take (l.length - 128 - 0x80)

/-- A new configuration bank is written with GEN one higher and then committed by CONFIG_SET (R456). -/
def State.writeConfig (s : State) (key corrections : List Byte) (o : Origin) : State :=
  let bank := 1 - s.nvm.cfgBank
  let gen := (s.nvm.cfgGen + 1) % 2 ^ 32
  let a := 0xC90000 + 0x10000 * bank
  s.pushJob ⟨12, .eraseBlock a :: programOps a (configImage gen key corrections), .configSet bank gen o⟩

/-- The 64 bytes of an active-slot record (R451). -/
def slotRecord (seq slot : Nat) (trial : Bool) (version : Nat) : List Byte :=
  let b := leBytes 4 0x53414D4C ++ leBytes 4 seq ++ leBytes 1 slot ++ leBytes 1 (if trial then 1 else 0) ++ zeros 2 ++
    leBytes 4 version ++ zeros 40
  b ++ leBytes 4 (crc32c b) ++ leBytes 4 (crc32c b)

/-- An active-slot record as read: SEQ, SLOT, TRIAL, VERSION and the outcome of R430. -/
structure SlotRec where
  seq : Nat
  slot : Nat
  trial : Bool
  version : Nat
  status : Status
  deriving DecidableEq, Repr

def State.slotRecAt (s : State) (sector : Nat) : SlotRec :=
  let l := s.flashRead (sector * sectorSize) 64
  let c := crc32c (l.take 0x38)
  let st : Status := if u l 0 4 ≠ 0x53414D4C then .checkFail
    else match u l 0x38 4 == c, u l 0x3C 4 == c with
      | true, true => .ok
      | false, false => .checkFail
      | _, _ => .checkValueDamaged
  ⟨u l 4 4, u l 8 1, u l 9 1 % 2 == 1, u l 0x0C 4, st⟩

/-- Sector and contents of the newest record that is not CHECK_FAIL. -/
def State.newestSlotRec (s : State) : Option (Nat × SlotRec) :=
  let a := s.slotRecAt 0
  let b := s.slotRecAt 1
  match a.status == .checkFail, b.status == .checkFail with
  | true, true => none
  | false, true => some (0, a)
  | true, false => some (1, b)
  | false, false => if a.seq < b.seq then some (1, b) else some (0, a)

/-- Flash operations that write an active-slot record with the next SEQ into the sector that does not hold the newest. -/
def State.slotRecOps (s : State) (slot : Nat) (trial : Bool) (version : Nat) : List FlashOp :=
  let (sector, seq) := match s.newestSlotRec with
    | some (i, r) => (1 - i, (r.seq + 1) % 2 ^ 32)
    | none => (0, 1)
  let a := sector * sectorSize
  .eraseSector a :: programOps a (slotRecord seq slot trial version)

/-- A repair starts, ahead of any queued slot write, when writes are permitted and nothing is being written. -/
def State.startRepair (s : State) : State :=
  match s.nvm.repairs, s.nvm.jobs.isEmpty && s.writeRefusal.isNone with
  | (region, trailer) :: rest, true =>
    if region = 0 then
      let s := s.modNvm (fun n => { n with repairs := rest })
      match s.newestSlotRec with
      | some (_, r) => s.pushJob ⟨0, s.slotRecOps r.slot r.trial r.version, .record⟩
      | none => s
    else if region = 3 then
      let s := s.modNvm (fun n => { n with repairs := rest })
      let entry := leBytes 1 (if trailer then 1 else 0) ++ zeros 3 ++ leBytes 4 s.nvm.calCheck.toNat
      s.writeConfig s.nvm.key ((s.corrections ++ entry).take 64) .bar0
    else
      let image := s.storedImage region
      let at_ := s.copyAddr region trailer
      let sector := at_ / sectorSize * sectorSize
      let fixed := splice (s.flashRead sector sectorSize) (at_ - sector) (leBytes 4 (crc32c (covered image)))
      s.pushJob ⟨12, .eraseSector 0xC80000 :: programOps 0xC80000 fixed, .repairScratch region trailer⟩
  | _, _ => s

/-- REPAIR_BEGIN and REPAIR_DONE payload. -/
def repairBytes (region : Nat) (trailer : Bool) (sector crc : Nat) : List Byte :=
  leBytes 1 region ++ leBytes 1 (if trailer then 1 else 0) ++ zeros 2 ++ leBytes 4 sector ++ leBytes 4 crc

/-- Steps 3 and 4 of a repair: the target sector is written from the scratch sector. -/
def State.repairTarget (s : State) (region : Nat) (trailer : Bool) (sector : Nat) : State :=
  s.pushRepair ⟨region, .eraseSector sector :: programOps sector (s.flashRead 0xC80000 sectorSize), .repair region trailer⟩

/-! ### Flacon slots (R90, R456) -/

/-- Payload of SLOT_BEGIN. -/
def slotBytes (region total id : Nat) : List Byte := leBytes 1 region ++ zeros 3 ++ leBytes 4 total ++ leBytes 4 id

/-- Erasures of n blocks from an address. -/
def eraseBlocks (a n : Nat) : List FlashOp := (List.range n).map (fun i => .eraseBlock (a + 0x10000 * i))

/-- The image as stored: both check copies correct (R430). -/
def fixedImage (l : List Byte) : List Byte :=
  let c := leBytes 4 (crc32c (covered l))
  splice (splice l 0x3C c) (trailerAt l + 4) c

/-- A store of the staged flacon begins, or is refused. -/
def State.beginStore (s : State) (i : Nat) (o : Origin) (st : Status) : State × Option Result :=
  match s.writeRefusal with
  | some r => (s.countRefusal r, some (Result.val st (statusCode r)))
  | none =>
    let l := s.play.staged.bytes
    let s := s.appendRecord 5 (slotBytes (slotRegion i) l.length (u l 0x10 4))
    let s := s.modNvm (fun n => { n with
      slotValid := setBit8 n.slotValid i false, slotWriting := setBit8 n.slotWriting i true })
    let a := regionStart (slotRegion i)
    (s.pushJob ⟨slotRegion i, eraseBlocks a 16 ++ programOps a (fixedImage l), .store i o st⟩, none)

/-- Empties the staged bank; nothing has been loaded into it. -/
def State.emptyStaged (s : State) (source : Nat) : State :=
  s.modPlay (fun p => { p with staged := { Bank.reset with source := source }, loading := none })

/-- FLACON_LOAD (R90, R332). -/
def State.flaconLoad (s : State) (slot : Option (Fin 8)) (offset total : Nat) (data : List Byte) : Result × State :=
  if s.st != .ready && !s.inRun then (Result.of .rejected, s)
  else if s.flaconBusy then (Result.of .busy, s)
  else match slot with
    | none =>
      let stop := offset + data.length
      if data.length % 4 ≠ 0 ∨ total < stop ∨ (offset ≠ 0 ∧ s.play.loading ≠ some (total, offset)) then
        (Result.of .sequence, s)
      else if 1048576 < total then (Result.of .capacity, s)
      else
        let s := if offset = 0 then s.emptyStaged 0xFE else s
        let s := s.modPlay (fun p => { p with
          staged := { p.staged with bytes := p.staged.bytes ++ data, total := total }
          loading := some (total, stop) })
        if stop < total then (Result.val .ok stop, s)
        else
          let v := s.judgeLoad total s.play.staged.bytes
          let s := s.modPlay (fun p => { p with loading := none, staged := { p.staged with complete := true } })
          (Result.val v.status stop, s.noteVerdict v)
    | some i =>
      let n := if s.nvm.slotValid.getLsbD i.val then (find? s.nvm.slotTotal i.val).getD 0 else 0
      let l := s.flashRead (regionStart (slotRegion i.val)) n
      let s := s.emptyStaged i.val
      let s := s.modPlay (fun p => { p with staged := { p.staged with bytes := l, total := n, complete := true } })
      let v := s.judgeLoad n l
      let s := s.noteVerdict v
      let s := if v.rule = 1 ∨ v.rule = 2 then s else s.judgedFromFlash (slotRegion i.val) l
      (Result.val v.status n, s.startRepair)

/-- The bytes in chunks of up to 56 with their offsets; the last one is marked; at most n. -/
def shareChunks : Nat → Nat → List Byte → List (Nat × List Byte × Bool)
  | 0, _, _ => []
  | n + 1, a, l =>
    if l.length ≤ 56 then [(a, l, true)] else (a, l.take 56, false) :: shareChunks n (a + 56) (l.drop 56)

/-- A share or image is sent to a segment in SHARE messages (R249): bank 0 active, 1 staged, 2 segment image. -/
def State.sendShare (s : State) (g : Seg) (bank : Nat) (l : List Byte) : State :=
  each (shareChunks (l.length / 56 + 1) 0 l) (fun s c => s.sendDown g (.share bank c.1 c.2.1 c.2.2)) s

/-- Every segment has answered: check 18, VERIFIED, and the store (R87, R89, R90). What is answered now comes with its
sender; a store in progress answers later. -/
def State.concludeVerify (s : State) : State × Option (Origin × Result) :=
  match s.play.verify with
  | none => (s, none)
  | some v =>
    let answer (g : Seg) : Option Status := find? v.answers g.val
    if allSegs.any (fun g => (answer g).isNone) then (s, none)
    else
      let s := s.modPlay (fun p => { p with verify := none })
      match allSegs.find? (fun g => answer g != some .ok) with
      | some g =>
        let st := (answer g).getD .timeout
        let s := s.modPlay (fun p => { p with
          checkRule := 18, checkWhere := g.val, staged := { p.staged with verify := st, verified := false } })
        (s, some (v.origin, Result.of st))
      | none =>
        let s := s.modPlay (fun p => { p with staged := { p.staged with verified := true } })
        match v.store with
        | none => (s, some (v.origin, Result.of v.status))
        | some i =>
          let (s, r) := s.beginStore i v.origin v.status
          (s, r.map (fun x => (v.origin, x)))

/-- A segment's answer about its share. -/
def State.verifyAnswer (s : State) (g : Seg) (st : Status) : State :=
  match s.play.verify with
  | none => s
  | some v =>
    if (find? v.answers g.val).isSome then s
    else
      let s := s.modPlay (fun p => { p with verify := some { v with answers := v.answers ++ [(g.val, st)] } })
      match s.concludeVerify with
      | (s, some (o, r)) => s.replyLate o 0x21 r
      | (s, none) => s

/-- FLACON_VERIFY (R90): answered now, or when segments and store are done. -/
def State.flaconVerify (s : State) (o : Origin) (store : Option (Fin 8)) : Option Result × State :=
  if s.st != .ready && !s.inRun then (some (Result.of .rejected), s)
  else if s.flaconBusy then (some (Result.of .busy), s)
  else if !s.play.staged.complete then (some (Result.of .notReady), s)
  else
    let l := s.play.staged.bytes
    let v := s.judgeVerify s.play.staged.total l
    let s := s.unverify.noteVerdict v
    if v.rule ≠ 0 then (some (Result.of v.status), s)
    else
      let absent := (allSegs.filter (fun g => !s.linkUp g)).map (fun g => (g.val, Status.timeout))
      let s := each (allSegs.filter (fun g => s.linkUp g)) (fun s g => s.sendShare g 1 (shareOf l g.val)) s
      let s := s.modPlay (fun p => { p with verify := some ⟨o, store.map Fin.val, v.status, absent⟩ })
      match s.concludeVerify with
      | (s, some (_, r)) => (some r, s)
      | (s, none) => (none, s)

/-- FLACON_ERASE (R90, R456). -/
def State.flaconErase (s : State) (o : Origin) (target : Nat) : Option Result × State :=
  if s.st != .ready && !s.inRun then (some (Result.of .rejected), s)
  else if 8 ≤ target ∧ target ≠ 0xFE then (some (Result.of .rejected), s)
  else if s.flaconBusy then (some (Result.of .busy), s)
  else if target = 0xFE then (some (Result.of .ok), s.emptyStaged 0xFF)
  else match s.writeRefusal with
    | some r => (some (Result.of r), s.countRefusal r)
    | none =>
      let r := slotRegion target
      let s := s.appendRecord 7 (leBytes 1 r ++ zeros 3 ++ leBytes 4 (s.eraseCount (1000 + r) + 1))
      let s := s.modNvm (fun n => { n with
        slotValid := setBit8 n.slotValid target false, slotWriting := setBit8 n.slotWriting target true })
      (none, s.pushJob ⟨r, eraseBlocks (regionStart r) 16, .eraseSlot target o⟩)

/-! ### Firmware update (R453) -/

/-- The slot that is not running; 0 A, 1 B. -/
def State.idleSlot (s : State) : Nat := if s.nvm.runningB then 0 else 1

/-- State code of a firmware slot (R464). -/
def State.setFwState (s : State) (slot code : Nat) : State :=
  s.modNvm (fun n => if slot = 0 then { n with slotA := code } else { n with slotB := code })
def State.fwState (s : State) (slot : Nat) : Nat := if slot = 0 then s.nvm.slotA else s.nvm.slotB

/-- READY, RUN or recovery. -/
def State.fwAccepted (s : State) : Bool := s.st == .ready || s.inRun || s.glb.recovery

def fwMagic : Nat := 0x57464D4C
def fwMagicEnd : Nat := 0x45574D4C

/-- Step 3 of R451 on a slot: OK, CHECK_VALUE_DAMAGED or CHECK_FAIL. -/
def State.checkSlot (s : State) (slot : Nat) (total : Nat) : Status :=
  let l := s.flashRead (regionStart (1 + slot)) total
  if !check1 fwMagic fwMagicEnd 0x200000 total l || u l 4 2 != 1 then .checkFail
  else if duplicateCheck l == .checkFail || !digestOk l || !signatureOk Config.firmwareKey l then .checkFail
  else duplicateCheck l

/-- The same by the slot's own TOTAL_LEN. -/
def State.checkStoredSlot (s : State) (slot : Nat) : Status :=
  s.checkSlot slot (Nat.min 0x200000 (u (s.flashRead (regionStart (1 + slot)) 12) 8 4))

/-- VERSION of the image in a slot. -/
def State.slotVersion (s : State) (slot : Nat) : Nat := u (s.flashRead (regionStart (1 + slot) + 0x10) 4) 0 4

/-- A write that a phase needs, refused or made. -/
def State.orRefused (s : State) (k : State → Option Result × State) : Option Result × State :=
  match s.writeRefusal with
  | some r => (some (Result.of r), s.countRefusal r)
  | none => k s

/-- Phase BEGIN. -/
def State.fwBegin (s : State) (o : Origin) (total version : Nat) : Option Result × State :=
  if !s.fwAccepted then (some (Result.of .rejected), s)
  else if s.flashCommand then (some (Result.of .busy), s)
  else if 0x200000 < total then (some (Result.of .capacity), s)
  else s.orRefused (fun s =>
    let slot := s.idleSlot
    let s := s.appendRecord 5 (slotBytes (1 + slot) total version)
    let s := (s.setFwState slot 2).modNvm (fun n => { n with fw := some ⟨slot, total, version, 0⟩ })
    (none, s.pushJob ⟨1 + slot, eraseBlocks (regionStart (1 + slot)) ((total + 0xFFFF) / 0x10000), .fwBegin slot o⟩))

/-- Phase CHUNK. -/
def State.fwChunk (s : State) (o : Origin) (offset : Nat) (data : List Byte) : Option Result × State :=
  if !s.fwAccepted then (some (Result.of .rejected), s)
  else if s.flashCommand then (some (Result.of .busy), s)
  else match s.nvm.fw with
    | none => (some (Result.of .sequence), s)
    | some f =>
      if offset ≠ f.received ∨ data.length % 4 ≠ 0 ∨ data.length = 0 ∨ f.total < offset + data.length then
        (some (Result.of .sequence), s)
      else s.orRefused (fun s =>
        (none, s.pushJob ⟨1 + f.slot, programOps (regionStart (1 + f.slot) + offset) data,
          .fwChunk (offset + data.length) o⟩))

/-- Phase VERIFY. -/
def State.fwVerify (s : State) (o : Origin) : Option Result × State :=
  if !s.fwAccepted then (some (Result.of .rejected), s)
  else if s.flashCommand then (some (Result.of .busy), s)
  else match s.nvm.fw with
    | none => (some (Result.of .sequence), s)
    | some f =>
      if f.received < f.total then (some (Result.of .sequence), s)
      else
        let l := s.flashRead (regionStart (1 + f.slot)) f.total
        let st := s.checkSlot f.slot f.total
        let version := s.slotVersion f.slot
        let s := if check1 fwMagic fwMagicEnd 0x200000 f.total l then s.judgedFromFlash (1 + f.slot) l else s
        if st == .checkFail then (some (Result.val st version), s)
        else if version < s.nvm.version ∧ !s.flag Fld.nvmCtrlAllowDowngrade then (some (Result.val .rejected version), s)
        else s.orRefused (fun s =>
          let r := 1 + f.slot
          let s := s.appendRecord 6 (slotBytes r f.total f.version ++ leBytes 4 (s.eraseCount (1000 + r)))
          let s := (s.setFwState f.slot 3).modNvm (fun n => { n with fw := none })
          (none, s.pushJob ⟨r, [], .answer o 0xA0 st version⟩))

/-- Phase ACTIVATE. -/
def State.fwActivate (s : State) (o : Origin) : Option Result × State :=
  if s.st != .ready && !s.glb.recovery then (some (Result.of .rejected), s)
  else if s.flashCommand then (some (Result.of .busy), s)
  else
    let slot := s.idleSlot
    if s.fwState slot ≠ 3 then (some (Result.of .sequence), s)
    else s.orRefused (fun s =>
      (none, s.pushJob ⟨0, s.slotRecOps slot true (s.slotVersion slot), .fwActivate slot o⟩))

/-- Phase ABORT. -/
def State.fwAbort (s : State) : Option Result × State :=
  if !s.fwAccepted then (some (Result.of .rejected), s)
  else match s.nvm.fw with
    | none => (some (Result.of .ok), s)
    | some f => (some (Result.of .ok), (s.setFwState f.slot 0).modNvm (fun n => { n with fw := none }))

/-- Phase FLACON_KEY. -/
def State.fwKey (s : State) (o : Origin) (key : List Byte) : Option Result × State :=
  if s.st != .ready then (some (Result.of .rejected), s)
  else if s.flag Fld.playFlaconPolicyLock then (some (Result.of .locked), s)
  else if s.flashCommand then (some (Result.of .busy), s)
  else s.orRefused (fun s => (none, s.writeConfig key s.corrections o))

/-! ### The end of a flash operation (R455) -/

/-- A record that ends a command is journaled, or the command fails with the refusal. -/
def State.endRecord (s : State) (kind : Nat) (payload : List Byte) (region : Nat) (o : Origin) (op : Nat) (r : Result)
    (k : State → State) : State :=
  match s.writeRefusal with
  | some st => (s.countRefusal st).replyLate o op (if op = 0x21 then Result.val r.status (statusCode st) else Result.of st)
  | none => ((k s).appendRecord kind payload).pushJob ⟨region, [], .answer o op r.status r.value⟩

/-- What the end of a job brings about. -/
def State.endJob (s : State) (j : Job) : State :=
  match j.fin with
  | .record => s
  | .answer o op st v => s.replyLate o op (Result.val st v)
  | .store i o st =>
    let r := slotRegion i
    let s := s.countErase (1000 + r)
    let s := s.modNvm (fun n => { n with slotWriting := setBit8 n.slotWriting i false })
    let l := s.flashRead (regionStart r) 12
    let total := u l 8 4
    let id := u (s.flashRead (regionStart r + 0x10) 4) 0 4
    s.endRecord 6 (slotBytes r total id ++ leBytes 4 (s.eraseCount (1000 + r))) r o 0x21 (Result.of st) (fun s =>
      s.modNvm (fun n => { n with
        slotValid := setBit8 n.slotValid i true, slotDamaged := setBit8 n.slotDamaged i false
        slotTotal := assign n.slotTotal i total }))
  | .eraseSlot i o =>
    let s := s.countErase (1000 + slotRegion i)
    (s.modNvm (fun n => { n with slotWriting := setBit8 n.slotWriting i false })).replyLate o 0x22 (Result.of .ok)
  | .fwBegin slot o => (s.countErase (1001 + slot)).replyLate o 0xA0 (Result.val .ok slot)
  | .fwChunk n o =>
    (s.modNvm (fun x => { x with fw := x.fw.map (fun f => { f with received := n }) })).replyLate o 0xA0 (Result.val .ok n)
  | .fwActivate slot o =>
    let s := s.setFwState slot 1
    let s := if s.glb.recovery then s.modGlb (fun g => { g with recoveryResetAt := some (s.now + 10000000) }) else s
    s.replyLate o 0xA0 (Result.val .ok slot)
  | .configSet bank gen o =>
    let key := s.flashRead (0xC90000 + 0x10000 * bank + 0x40) 64
    s.endRecord 0x0A (leBytes 1 bank ++ zeros 3 ++ leBytes 4 gen) 12 o 0xA0 (Result.of .ok) (fun s =>
      s.modNvm (fun n => { n with cfgBank := bank, cfgGen := gen, key := key }))
  | .repairScratch region trailer =>
    let sector := s.copyAddr region trailer / sectorSize * sectorSize
    let crc := crc32c (s.flashRead 0xC80000 sectorSize)
    match s.writeRefusal with
    | some st => s.countRefusal st
    | none => (s.appendRecord 8 (repairBytes region trailer sector crc)).repairTarget region trailer sector
  | .repair region trailer =>
    let sector := s.copyAddr region trailer / sectorSize * sectorSize
    let crc := crc32c (s.flashRead 0xC80000 sectorSize)
    let s := s.journal 9 (repairBytes region trailer sector crc)
    s.modNvm (fun n => { n with
      repairs := n.repairs.filter (fun e => e != (region, trailer))
      slotDamaged := if 4 ≤ region ∧ region < 12 ∧ !n.repairs.contains (region, !trailer) then
        setBit8 n.slotDamaged (region - 4) false else n.slotDamaged })

/-- Finished jobs at the head of the queue end; at most n. -/
def State.endJobs : Nat → State → State
  | 0, s => s
  | n + 1, s =>
    match nextJob s.nvm.jobs with
    | [] => s.startRepair
    | j :: t =>
      if j.ops.isEmpty then State.endJobs n ((s.modNvm (fun x => Nvm.settle { x with jobs := t })).endJob j)
      else s.modNvm (fun x => Nvm.settle { x with jobs := j :: t })

/-- The origin that a failed or abandoned job answers, and its opcode. -/
def jobOrigin (j : Job) : Option (Origin × Nat) :=
  match j.fin with
  | .store _ o _ => some (o, 0x21)
  | .eraseSlot _ o => some (o, 0x22)
  | .answer o op _ _ => some (o, op)
  | .fwBegin _ o | .fwChunk _ o | .fwActivate _ o | .configSet _ _ o => some (o, 0xA0)
  | .record | .repair _ _ | .repairScratch _ _ => none

/-- The status numbered n among those that say that the request did not complete (R11). -/
def failedStatus (n : Nat) : Status :=
  ([.notReady, .busy, .rejected, .noRoute, .timeout, .checkFail, .accordSplit, .tempInhibit, .capacity, .aborted,
    .unsupported, .locked, .budgetViolation, .sequence] : List Status).getD (n % 14) .aborted

/-- How the command of a failed job completes: a FLACON_VERIFY keeps the status of its verification and reports the
store's in VALUE (R90). -/
def failedResult (j : Job) (st : Status) : Result :=
  match j.fin with
  | .store _ _ v => Result.val v (statusCode st)
  | .answer _ op v _ => if op = 0x21 then Result.val v (statusCode st) else Result.of st
  | _ => Result.of st

/-- A flash program or erase failed: WRITE_FAILED, and the rest of its job is dropped; which failure its command
reports is a free value. -/
def State.failOp (s : State) (j : Job) (op : FlashOp) (rest : List Job) : State :=
  let s := s.modNvm (fun n => { (n.failBegin j) with
    jobs := rest
    slotWriting := if 4 ≤ j.region ∧ j.region < 12 then setBit8 n.slotWriting (j.region - 4) false else n.slotWriting
    repairs := match j.fin with
      | .repair r c | .repairScratch r c => n.repairs.filter (fun e => e != (r, c))
      | _ => n.repairs })
  let s := s.raise .writeFailed none none (word j.region) (word op.addr) 0
  let (v, s) := s.freeBits
  let st := failedStatus v.toNat
  let s := s.modNvm (fun n => { n with lastStatus := st })
  let s := match jobOrigin j with
    | some (o, code) => s.replyLate o code (failedResult j st)
    | none => s
  s.endJobs 16

/-- Slice 56 is running: NVM operations wait for its end (R418). -/
def State.nvmTested (s : State) : Bool :=
  match s.bist.running with
  | some (n, _) => n.val == 56
  | none => false

/-- The operation in progress ends. -/
def State.endOp (s : State) (erase ok : Bool) : State :=
  if s.nvmTested then s
  else match s.nvm.jobs with
  | [] => s
  | j :: rest =>
    match j.ops with
    | [] => s
    | op :: ops =>
      if op.isErase != erase then s
      else if !ok then s.failOp j op rest
      else
        let s := s.modNvm (fun n => { n with flash := op.apply n.flash, jobs := { j with ops := ops } :: rest })
        let s := if j.region = 13 ∧ erase then s.countErase ((op.addr - journalBase) / sectorSize) else s
        s.endJobs 16

/-- PAGE_PROGRAMMED (R455). -/
def execPageProgrammed (ok : Bool) (s : State) : Host.Outcome State Fault Refusal := (s.endOp false ok).done

/-- ERASE_DONE (R455). -/
def execEraseDone (ok : Bool) (s : State) : Host.Outcome State Fault Refusal := (s.endOp true ok).done

/-! ### The drydown logs (R231, R450) -/

/-- The 128 bytes of a drydown log entry. -/
def logBytes (g : Seg) (e : LogEntry) : List Byte :=
  let flags := (if e.anomaly then 1 else 0) + (if e.onStack then 2 else 0) + (if e.uncorrected then 4 else 0) +
    (if e.noFlacon then 8 else 0)
  leBytes 1 (if e.confirm then 2 else 1) ++ leBytes 1 flags ++ leBytes 2 e.patrol ++ leBytes 1 g.val ++
    leBytes 1 e.kinds.toNat ++ leBytes 2 e.cells.toNat ++ leBytes 8 e.time ++ leBytes 4 e.stack ++ leBytes 4 e.flaconId ++
    leBytes 2 e.overwritten ++ zeros 6 ++ (e.samples.map (fun w => leBytes 4 w.toNat)).flatten ++
    (e.temps.map (fun t => leBytes 2 t.toNat)).flatten

/-- The hub collects a segment's log over its link: stamps rescaled, entries not yet journaled copied while writes are
permitted (R450). -/
def State.collectLog (s : State) (g : Seg) : State :=
  if s.linkUp g then
    let s := (s.compareTimer g).modSeg g (fun x => { x with log := x.log.map (fun e => { e with uncorrected := false }) })
    if s.writeRefusal.isSome then s
    else
      let s := each ((s.segs.get g).log.filter (fun e => !e.copied)) (fun s e => s.appendRecord 4 (logBytes g e)) s
      s.modSeg g (fun x => { x with log := x.log.map (fun e => { e with copied := true }) })
  else s

def State.collectLogs (s : State) : State := each allSegs (fun s g => s.collectLog g) s

/-- NVM_LOG_READ (R331, R462): INDEX 0 is the newest. -/
def State.logRead (s : State) (source index : Nat) : Result :=
  if source < 16 then
    let l := (s.segs.get (seg source)).log
    if !s.linkUp (seg source) then Result.of .timeout
    else match l.reverse[index]? with
      | some e => ⟨.ok, l.length, logBytes (seg source) e⟩
      | none => Result.val .notReady l.length
  else if source = 0x10 then
    let l := journalOf s.nvm.flash
    match l.reverse[index]? with
    | some r => ⟨.ok, l.length, Sparse.read erased s.nvm.flash (journalBase + r.pos) (r.size - 16)⟩
    | none => Result.val .notReady l.length
  else Result.of .rejected

end Sys2Proof.Machine
end

