-- ==== Sys2Proof/Machine/Power.lean ====
section
/-!
DEFINITION. Power states, DRYDOWN and the drydown patrol (chapter 07).
-/

namespace Sys2Proof.Machine

/-! ### Domains (R222, R223) -/

/-- Hub domains forced on; HOST cannot be forced on a member. -/
def State.hubForce (s : State) : BitVec 8 :=
  BitVec.ofNat 8 (2 * s.fld Fld.pwrDomainForceHubForce) &&& s.allDomains

/-- SMEAS and SDRV of a segment forced on. -/
def State.segForce (s : State) (g : Seg) : Bool := (s.fld Fld.pwrDomainForceSegForce).testBit g.val

/-- Hub domains on in a power state, and in retention. -/
def State.domainsIn (s : State) (p : PowerState) : BitVec 8 × BitVec 8 :=
  match p with
  | .active | .idle => (s.allDomains, 0)
  | .doze => ((0x33 &&& s.allDomains) ||| s.hubForce, 0x40 &&& ~~~s.hubForce)
  | .drydown => (0x11 ||| s.hubForce, 0x42 &&& ~~~s.hubForce)

/-- The power manager enters a state; a change preempts a running slice (R419). -/
def State.setPower (s : State) (p : PowerState) : State :=
  let s := if s.pwr.st == p then s else s.abortSlice
  let d := s.domainsIn p
  s.modPwr (fun x => { x with st := p, hubOn := d.1, hubRet := d.2 })

/-! ### The choice (R217) -/

def depth : PowerState → Nat
  | .active => 0
  | .idle => 1
  | .doze => 2
  | .drydown => 3

/-- Exit latency in µs (R216). -/
def exitLatency : PowerState → Nat
  | .active => 0
  | .idle => 5
  | .doze => 200
  | .drydown => 20000

/-- A command or write of condition 7 is in progress; a FLACON_LOAD and an FW_UPDATE from their first part to their
last. -/
def State.workInProgress (s : State) : Bool :=
  s.play.verify.isSome || s.chk.toList.any (fun c => c.st == .running || c.st == .waiting) || s.bist.cmdOrigin.isSome ||
    !s.nvm.jobs.isEmpty || s.play.loading.isSome || s.nvm.fw.isSome

/-- Condition n of R217 holds for a state. -/
def State.condition (s : State) (p : PowerState) (n : Nat) : Bool :=
  let deep := p == .doze || p == .drydown
  let last := p == .drydown
  match n with
  | 1 => decide (exitLatency p ≤ s.fld Fld.pwrLatencyBudgetBudgetUs)
  | 2 => s.st == .ready
  | 3 => !last || !s.isHead
  | 4 => !deep || s.quiet
  | 5 => !deep || allCells.all (fun k => (s.cells.get k).st != .isOpen)
  | 6 => !deep || !s.shunts.strOn
  | 7 => !deep || !s.workInProgress
  | 8 => !deep || (s.acc.st != .isOpen && s.acc.st != .prepared)
  | 9 => !deep || decide (s.pwr.lastCmd + (if last then 1000000000 * s.fld Fld.pwrDrydownCfgEntryDelayS else 10000000) ≤ s.now)
  | 10 => !last || s.flag Fld.pwrDrydownCfgEn
  | 11 => !last || !s.pwr.wakeAnomaly
  | _ => true

/-- The first condition that fails for a state; 0 when all hold. -/
def State.blockOf (s : State) (p : PowerState) : Nat :=
  ((List.range 11).find? (fun i => !s.condition p (i + 1))).elim 0 (· + 1)

/-- The deepest permitted state. -/
def State.deepest (s : State) : PowerState :=
  if s.blockOf .drydown = 0 then .drydown else if s.blockOf .doze = 0 then .doze
  else if s.blockOf .idle = 0 then .idle else .active

/-- BLOCK for a state: what keeps the module out of the next deeper one. -/
def State.blockAt (s : State) (p : PowerState) : Nat :=
  match p with
  | .active => s.blockOf .idle
  | .idle => s.blockOf .doze
  | .doze => s.blockOf .drydown
  | .drydown => 0

/-- An entry to DRYDOWN stops at the step it has reached, and the exit begins from there (R221). -/
def State.stopEntry (s : State) : State :=
  if s.pwr.going == some .drydown then s.modPwr (fun p => { p with going := none, exitFrom := some s.now }) else s

/-- The power manager's choice is made afresh. -/
def State.evaluatePower (s : State) : State :=
  let p := s.deepest
  let s := s.modPwr (fun x => { x with block := s.blockAt p })
  if s.st != .ready || s.pwr.exitFrom.isSome then s
  else match p with
    | .drydown => if s.pwr.going == some .drydown then s
        else
          let s := each (allSegs.filter s.linkUp) (fun s g => s.sendDown g (.cmd .patrolEntry)) s
          s.abortSlice.modPwr (fun x => { x with changing := true, going := some .drydown })
    | .doze => if s.pwr.going.isSome then s.stopEntry else s.abortSlice.setPower .doze
    | .idle | .active => if s.pwr.going.isSome then s.stopEntry else s.setPower p

/-- POWER_EVALUATE (R217). -/
def execPowerEvaluate (s : State) : Host.Outcome State Fault Refusal :=
  if s.powered && s.st != .drydown then s.evaluatePower.done else s.done

/-- DOZE is left: ACTIVE, and slices that wait may start (R218). -/
def State.leaveDoze (s : State) : State := (s.stopEntry.setPower .active).nextSlice

/-- A command addressed to the module arrives (R217 condition 9, R218, R221): DOZE is left, an entry to DRYDOWN
stops. -/
def State.noteCommand (s : State) : State :=
  let s := s.modPwr (fun p => { p with lastCmd := s.now })
  if s.st != .ready then s
  else if s.pwr.st == .doze then s.leaveDoze
  else s.stopEntry

/-- DOZE_EXIT (R218): a command or a doorbell arrives in DOZE. -/
def execDozeExit (s : State) : Host.Outcome State Fault Refusal :=
  if s.st == .ready && s.pwr.st == .doze then s.leaveDoze.done else s.done

/-! ### Entering and leaving DRYDOWN (R220, R221, R224, R239) -/

/-- First whole second at least one second after a time. -/
def firstSecond (t : Nat) : Nat := (t + 1999999999) / 1000000000 * 1000000000

/-- PERIOD_S and DORMANT_PATROL are copied to every segment that the hub reaches (R239). -/
def State.copyDrydown (s : State) : State :=
  each (allSegs.filter s.linkUp) (fun s g => s.modSeg g (fun x => { x with
    periodS := s.fld Fld.pwrDrydownPeriodPeriodS, dormantPatrol := s.flag Fld.pwrDrydownCfgDormantPatrol })) s

/-- A segment goes to patrol mode: drivers and converters off unless forced, the keeper holds the gates. -/
def State.segToPatrol (s : State) (g : Seg) (first : Nat) : State :=
  let up := s.linkUp g
  let s := (s.captureWindow g).modLink g (fun l => { l with
    st := match l.st with
      | .up | .single => .patrol
      | .training | .lost | .down => .down
      | .patrol => .patrol
    beacon := none })
  if up then
    let f := s.segForce g
    let s := s.modSeg g (fun x => { x with
      st := .patrol, smeas := f, sdrv := f, patrolAt := some first, windowAt := none, suspect := none, suspects := []
      confirming := false, counted := [], keeper := { x.keeper with holding := x.keeper.holding || !f } })
    let s := s.startTimer g
    if f then s
    else each (cellsOf g) (fun s k => s.modCell k (fun c => { c with keepHold := true, gates := s2on })) s
  else s

/-- DRYDOWN_ENTERED. -/
def execDrydownEntered (s : State) : Host.Outcome State Fault Refusal :=
  if s.st != .ready || s.pwr.going != some .drydown then s.done
  else if s.blockOf .drydown != 0 then s.stopEntry.done
  else
    let first := firstSecond s.now
    let s := (s.abortSlice.stageOff.enter .drydown).setPower .drydown
    let s := s.modPwr (fun p => { p with
      changing := false, going := none, block := 0, tFirst := first, patrolNo := 0, reported := 0, anomalies := []
      anCount := 0 })
    (each allSegs (fun s g => s.segToPatrol g first) s.copyDrydown).done

/-- A segment in DORMANT follows its patrol schedule from its stack, or retains its log (R229, R230). -/
def State.dormantPatrol (s : State) (g : Seg) : State :=
  s.modSeg g (fun x => { x with st := .patrol, smeas := false, sdrv := false, trained := false, retention := !x.dormantPatrol })

/-- The exit starts (R221): a patrol in progress is abandoned, and the steps of the entry are taken back, the links and
converters first (R220). -/
def State.startExit (s : State) : State :=
  if s.st != .drydown || s.pwr.exitFrom.isSome then s
  else
    each allSegs (fun s g => s.segRouse g) (s.modPwr (fun p => { p with changing := true, exitFrom := some s.now }))

/-- The exit from DRYDOWN can end: every segment that has a supply is back on its link, or has failed to train. -/
def State.exitReady (s : State) : Bool :=
  s.st != .drydown || allSegs.all (fun g =>
    s.linkUp g || (s.segs.get g).st == .unpowered || (s.links.get g).trainRaised)

/-- DRYDOWN_EXIT (R220, R221): the steps are taken back, or those that a stopped entry had reached. -/
def execDrydownExit (s : State) : Host.Outcome State Fault Refusal :=
  if s.pwr.exitFrom.isNone || !s.exitReady then s.done
  else
    let s := s.modPwr (fun p => { p with changing := false })
    let off (s : State) : State := s.modPwr (fun p => { p with exitFrom := none })
    match s.st with
    | .drydown =>
      let s := (s.enter .ready).drydownLeft.modBist (fun b => { b with slowDue := true })
      (s.answerWakes .ok).done
    | .ready => (((off s).setPower .active).answerWakes .ok).done
    | .off | .boot | .startupTest | .run | .halt | .orphan | .dormant | .shutdownLatched => (off s).done

/-! ### WAKE, POWER_BUDGET, wake symbols (R219, R221, R233, R236) -/

/-- A WAKE is judged: none where it completes as READY is reached. -/
def State.wakeCmd (s : State) (o : Origin) : State × Option Result :=
  if s.st == .drydown then
    (s.startExit.modPwr (fun p => { p with wakeCommand := true, wakeOrigins := p.wakeOrigins ++ [o] }), none)
  else if s.st == .ready && s.pwr.exitFrom.isSome then
    (s.modPwr (fun p => { p with wakeOrigins := p.wakeOrigins ++ [o] }), none)
  else (s, some (Result.of .rejected))

/-- BUDGET_US has been written: the choice is made afresh, or DRYDOWN is left. -/
def State.budgetWritten (s : State) : State :=
  match s.st with
  | .drydown =>
    if s.fld Fld.pwrLatencyBudgetBudgetUs < 20000 then s.startExit.modPwr (fun p => { p with wakeBudget := true }) else s
  | .ready => s.evaluatePower
  | .off | .boot | .startupTest | .run | .halt | .orphan | .dormant | .shutdownLatched => s

/-- POWER_BUDGET writes the field. -/
def State.powerBudgetCmd (s : State) (us : Word) : State :=
  (s.setFld Fld.pwrLatencyBudgetBudgetUs us.toNat).budgetWritten

/-- The effect of a received wake symbol on the power state (R233). -/
def State.wokenBySymbol (s : State) : State :=
  if !s.flag Fld.pwrWakeCfgLoopWakeRx then s
  else match s.st with
    | .drydown => s.startExit.modPwr (fun p => { p with wakeSymbol := true })
    | .ready => if s.pwr.st == .doze then s.leaveDoze else if s.pwr.going.isSome then s.stopEntry.setPower .active else s
    | .off | .boot | .startupTest | .run | .halt | .orphan | .dormant | .shutdownLatched => s

/-- W1C bits of PWR_WAKE_CAUSE (R241). -/
def State.wroteWakeCause (s : State) (v : Word) : State :=
  let s := s.modPwr (fun p => { p with
    wakeCommand := p.wakeCommand && !v.getLsbD 0
    wakeSymbol := p.wakeSymbol && !v.getLsbD 1
    wakeBudget := p.wakeBudget && !v.getLsbD 3 })
  if v.getLsbD 2 then
    (s.setPins { s.pins with wakeLow := false }).modPwr (fun p => { p with
      wakeAnomaly := false, anKind := 0, anSeg := 0, anCell := 0, anCount := 0 })
  else s

/-! ### The patrol (R224, R225, R230) -/

/-- The segment follows its patrol schedule now: in DRYDOWN while the hub stays, in DORMANT from its stack. -/
def State.patrols (s : State) (g : Seg) : Bool :=
  let x := s.segs.get g
  x.st == .patrol && !x.retention &&
    ((s.st == .drydown && s.pwr.exitFrom.isNone) ||
      (s.st == .dormant && x.onStack && x.dormantPatrol && decide (20000 ≤ x.stackMv)))

/-- A patrol of a segment begins: its converters are on, afresh where they were off (R220, R223), and its samples
empty. -/
def State.beginPatrol (s : State) (g : Seg) (f : Segment → Segment) : State :=
  let was := (s.segs.get g).smeas
  let s := s.modSeg g (fun x => { f x with smeas := true })
  each (cellsOf g) (fun s k => s.modMeas k (fun m =>
    { (if was then m else m.fresh) with patAcc := (0, 0, false) })) s

/-- The one beacon that the hub sends a segment at the start of a patrol in DRYDOWN (R227, R245). -/
def State.patrolBeacon (s : State) (g : Seg) : State :=
  if s.st == .drydown && (s.links.get g).st == .patrol then
    s.modLink g (fun l => { l with beacon := some (s.beaconFor g true false) })
  else s

/-- PATROL: the patrol time of a segment has come on its timer (R224, R228). -/
def execPatrol (g : Seg) (s : State) : Host.Outcome State Fault Refusal :=
  let x := s.segs.get g
  match x.patrolAt with
  | none => s.done
  | some t =>
    if s.patrols g && decide (t ≤ s.segTime g) then
      ((s.beginPatrol g (fun x => { x with
        windowAt := some (t + 8000000), confirming := false, patrols := (x.patrols + 1) % 65536
        patrolAt := some (t + 1000000000 * x.periodS) })).patrolBeacon g).done
    else s.done

/-- CONFIRMATION_PATROL (R226). -/
def execConfirmationPatrol (g : Seg) (s : State) : Host.Outcome State Fault Refusal :=
  match (s.segs.get g).suspect with
  | none => s.done
  | some t =>
    if s.patrols g && decide (t ≤ s.segTime g) then
      (s.beginPatrol g (fun x => { x with windowAt := some (t + 8000000), confirming := true, suspect := none })).done
    else s.done

/-- What a patrol has of one cell (R225): the sample with SAT, and what the window measured beside it. -/
structure Patrolled where
  sample : Int
  sat    : Bool
  ntc    : Nat
  contP  : Option Int
  contN  : Option Int
  deriving DecidableEq, Repr

/-- The patrol samples of a segment: the mean of the conversions of the window for each cell (R225). -/
def State.patrolled (s : State) (g : Seg) (cells : List PatrolCell) : List Patrolled :=
  cells.mapIdx (fun c x =>
    let a := (s.meas.get (cellOf g c)).patAcc
    ⟨if a.2.1 = 0 then 0 else divI a.1 (a.2.1 : Int), a.2.2, x.ntc, x.contP, x.contN⟩)

/-! Temperatures of a patrol (R363) -/

/-- Neighbour pair within the segment, by local index. -/
def patrolPair (c : Nat) : Nat × Nat := if c = 0 then (1, 2) else if c = 15 then (13, 14) else (c - 1, c + 1)

/-- The NTC's own reading in a patrol; none where it is not measured. -/
def State.patrolReading (s : State) (g : Seg) (l : List Patrolled) (c : Nat) : Option Int :=
  let k := cellOf g c
  if s.ntcMeasured k then (l[c]?).map (fun x => s.ntcTemp k x.ntc) else none

def patrolElectrical (l : List Patrolled) (c : Nat) : Bool :=
  match l[c]? with
  | some x => ntcElectrical x.ntc
  | none => true

/-- The NTC is broken within this patrol: an electrical fault, or one mismatch (R356, R360 with PERSIST 1). -/
def State.patrolBroken (s : State) (g : Seg) (die : Int) (l : List Patrolled) (c : Nat) : Bool :=
  match s.patrolReading g l c with
  | none => true
  | some x =>
    let p := patrolPair c
    let own (j : Nat) : List Int := if patrolElectrical l j then [] else (s.patrolReading g l j).toList
    let refs := own p.1 ++ own p.2 ++ [die - 10 * (s.fld Fld.thermXcheckCfgSegDelta : Int)]
    patrolElectrical l c ||
      (s.flag Fld.thermCtrlNtcXcheckEn && decide (2 ≤ refs.length) && decide (x ≤ 6000) &&
        refs.all (fun r => decide (800 < (x - r).natAbs)))

/-- The temperature in use of a cell in a patrol, and whether it is a substitute (R361). -/
def State.patrolTemp (s : State) (g : Seg) (die : Int) (l : List Patrolled) (c : Nat) : Option Int × Bool :=
  let k := cellOf g c
  if s.excluded k then (none, false)
  else if !s.patrolBroken g die l c then (s.patrolReading g l c, false)
  else
    let p := patrolPair c
    if s.cellFlag k Fld.segNtcCfgSubstEn && !s.patrolBroken g die l p.1 && !s.patrolBroken g die l p.2 then
      match s.patrolReading g l p.1, s.patrolReading g l p.2 with
      | some a, some b => (some (divI (a + b) 2), true)
      | _, _ => (none, false)
    else (none, false)

/-! Anomalies (R226) -/

/-- The segment holds a share of the active flacon. -/
def State.segActive (s : State) (g : Seg) : Bool := s.hasActive && !(s.segs.get g).shareActive.isEmpty

/-- A cell is measured and logged, but not judged. -/
def State.notJudged (s : State) (k : Cell) : Bool := s.excluded k || (s.segActive (segOf k) && !s.played k)

/-- Contact channels beyond ±20 mV or saturated, or the sample saturated. -/
def contactOpened (x : Patrolled) : Bool :=
  let far (v : Option Int) : Bool := match v with
    | some u => decide (20000 < u.natAbs)
    | none => true
  far x.contP || far x.contN || x.sat

/-- Anomalies of one cell; `dist` tells a DISTURBED sample. -/
def State.cellAnomalies (s : State) (k : Cell) (x : Patrolled) (dist : Bool) (t : Option Int) : List Anomaly :=
  let c := localOf k
  let lim := s.segActive (segOf k)
  let usable := !x.sat && !dist
  let v := (s.ana.get k).kval
  if s.notJudged k then []
  else
    (if lim && usable && decide (x.sample < limOcvMin s.active) then [⟨1, c, wordI x.sample⟩] else []) ++
    (if lim && usable && decide (limOcvMax s.active < x.sample) then [⟨2, c, wordI x.sample⟩] else []) ++
    (if lim && decide (v.minN ≤ v.n) && v.n != 0 && s.kvalOver v then [⟨3, c, wordI ((kvalRate v).getD 0)⟩] else []) ++
    (if contactOpened x then [⟨4, c, 0⟩] else []) ++
    (match t with
      | none => [⟨5, c, 0x80000000⟩]
      | some y => if lim && (decide (y < limPatrolMin s.active) || decide (limPatrolMax s.active < y)) then [⟨5, c, wordI y⟩]
          else [])

/-- Only KVAL_OVER stands without a confirmation. -/
def Anomaly.confirmed (a : Anomaly) : Bool := a.kind == 3

/-! The log (R231) -/

/-- A drydown log entry is written; the oldest of 128 is overwritten. -/
def State.writeLog (s : State) (g : Seg) (e : LogEntry) : State :=
  s.modSeg g (fun x =>
    if x.log.length < 128 then { x with log := x.log ++ [{ e with overwritten := x.logOver }] }
    else
      let n := satAdd 0xFFFF x.logOver 1
      { x with log := x.log.drop 1 ++ [{ e with overwritten := n }], logOver := n })

/-- SAMPLE[c] of an entry. -/
def sampleWord (x : Patrolled) (dist subst unjudged : Bool) : Word :=
  BitVec.ofNat 32 (unsigned 24 x.sample + (if x.sat then 2 ^ 24 else 0) + (if dist then 2 ^ 25 else 0) +
    (if subst then 2 ^ 26 else 0) + (if unjudged then 2 ^ 27 else 0) + (if contactOpened x then 2 ^ 28 else 0))

def Patrolled.none : Patrolled := ⟨0, false, 0, some 0, some 0⟩

/-- A transition of the cell or a neighbour meets the window that began at w on the segment's timer (R225). -/
def State.patrolTouched (s : State) (k : Cell) (w : Nat) : Bool :=
  decide (w + s.now < (s.meas.get k).touch + s.segTime (segOf k))

/-- What the samples of a window bring to KVAL (R202, R225). -/
def State.patrolKval (s : State) (g : Seg) (w : Nat) (dieTemp : Int) (cells : List Patrolled) : State :=
  let temp (c : Nat) : Option Int × Bool := s.patrolTemp g dieTemp cells c
  let s := each (List.range 16) (fun s c => if (temp c).2 then
      s.modTemp (cellOf g c) (fun t => { t with substEnd := some s.now }) else s) s
  if (s.segs.get g).confirming then s
  else each (List.range 16) (fun s c =>
    let x := (cells[c]?).getD Patrolled.none
    if x.sat || s.patrolTouched (cellOf g c) w || !s.kvalRuns (s.ana.get (cellOf g c)).kval then s
    else s.kvalSample (cellOf g c) x.sample (temp c).1 ((w + 16000000) / 1000 * 1000) true) s

/-- The segment logs what a patrol found and reports it (R225, R226, R231); `x` is the segment as it was
while the window was open. -/
def State.patrolFindings (s : State) (g : Seg) (x : Segment) (w stackMv : Nat) (dieTemp : Int) (cells : List Patrolled) :
    State :=
  let dormant := s.st == .dormant
  let at_ (c : Nat) : Patrolled := (cells[c]?).getD Patrolled.none
  let dist (c : Nat) : Bool := s.patrolTouched (cellOf g c) w
  let temp (c : Nat) : Option Int × Bool := s.patrolTemp g dieTemp cells c
  let all := ((List.range 16).map (fun c => s.cellAnomalies (cellOf g c) (at_ c) (dist c) (temp c).1)).flatten
  let known (a : Anomaly) : Bool := x.suspects.contains (a.kind, a.cell)
  let stands := all.filter (fun a => a.confirmed || (x.confirming && known a))
  let fresh := stands.filter (fun a => !(x.counted.contains (a.kind, a.cell)))
  let waiting := if x.confirming then [] else (all.filter (fun a => !a.confirmed)).map (fun a => (a.kind, a.cell))
  let every := s.fld Fld.pwrDrydownCfgLogEvery
  let due := !all.isEmpty || (!x.confirming && every != 0 && x.patrols % every == 0)
  let entry : LogEntry :=
    { confirm := x.confirming, anomaly := !all.isEmpty, onStack := x.onStack, uncorrected := dormant
      noFlacon := !s.segActive g, copied := false, patrol := x.patrols
      kinds := all.foldl (fun b a => b ||| (1 <<< (a.kind - 1))) 0
      cells := all.foldl (fun b a => b ||| (1 <<< a.cell)) 0
      time := w - 8000000, stack := stackMv
      flaconId := if s.segActive g then s.activeId else 0, overwritten := 0
      samples := (List.range 16).map (fun c => sampleWord (at_ c) (dist c) (temp c).2 (s.notJudged (cellOf g c)))
      temps := (List.range 16).map (fun c => BitVec.ofInt 16 ((temp c).1.getD (-32768))) }
  let s := if due then s.writeLog g entry else s
  let s := s.modSeg g (fun x => { x with
    counted := x.counted ++ fresh.map (fun a => (a.kind, a.cell))
    suspects := waiting
    suspect := if waiting.isEmpty then Option.none else some (s.segTime g + 100000000) })
  if dormant || x.keeper.tripped then s
  else s.modLink g (fun l => { l with up := { l.up with
    queued := l.up.queued ++ [.report x.confirming (!waiting.isEmpty) fresh] } })

/-- A patrol window closes (R225, R369): in DORMANT a die at 150 °C stops the patrol there. -/
def State.closeWindow (s : State) (g : Seg) (w stackMv : Nat) (dieTemp : Int) (cells : List Patrolled) : State :=
  let x := s.segs.get g
  let hot := s.st == .dormant && (decide (15000 ≤ dieTemp) || (x.hot && decide (13000 ≤ dieTemp)))
  let s := s.modSeg g (fun x => { x with
    stackMv := stackMv, windowAt := Option.none, smeas := s.segForce g, hot := hot })
  if hot then s.modSeg g (fun x => { x with confirming := false, suspects := [] })
  else
    let s := if s.st == .dormant then s else s.modTherm (fun h => { h with dies := h.dies.modify (die (1 + g.val)) (fun d =>
      if d.broken then d else { d with temp := dieTemp, valid := true, stale := false }) })
    ((s.patrolKval g w dieTemp cells).modSeg g (fun x => { x with confirming := false })).patrolFindings g x w stackMv
      dieTemp cells

/-- PATROL_WINDOW_END (R225): samples, KVAL, anomalies, the log, the report. -/
def execPatrolWindowEnd (g : Seg) (stackMv : Nat) (dieTemp : Int) (cells : List PatrolCell) (s : State) :
    Host.Outcome State Fault Refusal :=
  match (s.segs.get g).windowAt with
  | Option.none => s.done
  | some w =>
    if !s.patrols g || decide (s.segTime g < w + 32000000) then s.done
    else (s.closeWindow g w stackMv dieTemp (s.patrolled g cells)).done

/-! ### The hub's part (R226, R227, R232) -/

/-- Wake symbols leave both ports. -/
def State.sendWake (s : State) : State := (s.emit (.wakeSymbol .a wakeLine)).emit (.wakeSymbol .b wakeLine)

/-- An anomaly that stands is counted, once for each cell and kind of the stay; one whose wake bit is set wakes. -/
def State.countAnomaly (s : State) (g : Seg) (a : Anomaly) : State :=
  if s.pwr.anomalies.any (fun e => e.1 == g && e.2.kind == a.kind && e.2.cell == a.cell) then s
  else
    let s := s.modPwr (fun p => { p with
      anomalies := p.anomalies ++ [(g, a)], anCount := satAdd 0xFF p.anCount 1 })
    if (s.fld Fld.pwrWakeCfgAnomWake).testBit (a.kind - 1) then
      if s.pwr.wakeAnomaly then s.startExit
      else
        let s := s.modPwr (fun p => { p with wakeAnomaly := true, anKind := a.kind, anSeg := g.val, anCell := a.cell })
        let s := if s.flag Fld.pwrWakeCfgWakeNEn then s.setPins { s.pins with wakeLow := true } else s
        (if s.flag Fld.pwrWakeCfgLoopWakeTx then s.sendWake else s).startExit
    else s

/-- The first report of a list, and the rest. -/
def takeReport : List UpMsg → Option ((Bool × Bool × List Anomaly) × List UpMsg)
  | [] => none
  | m :: l =>
    match m with
    | .report c u f => some ((c, u, f), l)
    | _ => (takeReport l).map (fun x => (x.1, m :: x.2))

/-- Number of the patrol in progress at the hub. -/
def State.patrolIndex (s : State) : Nat := (s.now - s.pwr.tFirst) / (1000000000 * s.fld Fld.pwrDrydownPeriodPeriodS)

/-- PATROL_REPORT (R227). -/
def execPatrolReport (g : Seg) (s : State) : Host.Outcome State Fault Refusal :=
  if s.st != .drydown then s.done
  else match takeReport (s.links.get g).up.queued with
    | none => s.done
    | some (r, rest) =>
      let s := s.modLink g (fun l => { l with up := { l.up with queued := rest } })
      let n := s.patrolIndex
      let s := if r.1 then s else s.modPwr (fun p => { p with
        patrolNo := n
        reported := (if p.patrolNo = n then p.reported else 0) ||| (1 <<< g.val) })
      (each r.2.2 (fun s a => s.countAnomaly g a) s).done

/-- SEG_LOST (R226): no report within 60 ms of the patrol time. -/
def execSegLost (g : Seg) (s : State) : Host.Outcome State Fault Refusal :=
  let n := s.patrolIndex
  let at_ := s.pwr.tFirst + 1000000000 * s.fld Fld.pwrDrydownPeriodPeriodS * n
  let heard := s.pwr.patrolNo == n && s.pwr.reported.getLsbD g.val
  if s.st == .drydown && s.pwr.exitFrom.isNone && decide (s.pwr.tFirst ≤ s.now) && decide (at_ + 60000000 ≤ s.now) && !heard then
    (s.countAnomaly g ⟨6, 0, 0⟩).done
  else s.done

/-- STACK_LOW (R230): in DORMANT a stack has fallen below 20 V; with every stack below 20 V the module is OFF (R23). -/
def execStackLow (g : Seg) (mv : Nat) (s : State) : Host.Outcome State Fault Refusal :=
  if s.st == .dormant && decide (mv < 20000) then
    let s := s.modSeg g (fun x => { x with
      stackMv := mv, retention := true, windowAt := none, suspect := none, suspects := [], confirming := false
      patrolAt := none, smeas := false })
    (if s.segs.toList.all (fun x => decide (x.stackMv < 20000)) then s.enter .off else s).done
  else s.done

end Sys2Proof.Machine
end

