-- ==== Sys2Proof/Machine/LinkRows.lean ====
section
/-!
DEFINITION. The span links (chapter 08): beacons, park symbols, silence, training, and the messages both ways, each
taken in order of SEQ by its receiver.
-/

namespace Sys2Proof.Machine

/-! ### Beacons (R244 to R246) -/

/-- The hub sends beacons: it is powered, and out of DRYDOWN or on the way out. -/
def State.beaconing (s : State) : Bool := s.powered && (s.st != .drydown || s.pwr.exitFrom.isSome)

/-- BEACON_TX (R244, R245, R247, R249): at each whole microsecond on every link that is up; the park symbol is repeated
for 8 frames, whose beacons it displaces; a TIME message every 1 ms. -/
def execBeaconTx (s : State) : Host.Outcome State Fault Refusal :=
  if s.now % 1000 ≠ 0 || !s.beaconing then s.done
  else
    let send (s : State) (g : Seg) : State :=
      if s.linkUp g then
        let s := s.modLink g (fun l => { l with
          beacon := some (s.beaconFor g false (l.parkLeft != 0))
          parkSym := if l.parkLeft = 0 then none else l.parkSym
          parkLeft := l.parkLeft - 1 })
        if s.now % 1000000 = 0 then s.sendDown g (.time s.now (s.links.get g).latency) else s
      else s
    (each allSegs send s).done

/-- The IN cells of a segment park (R49). -/
def State.parkIn (s : State) (g : Seg) (code : Nat) : State :=
  each (cellsOf g) (fun s k => if (s.cells.get k).st == .isIn then s.park k code else s) s

/-- Cause of the park that a beacon with HALT = 1 brings (R245). -/
def haltCauseOf (n : Nat) : Nat := if n = 0 then 7 else n

/-- The segment's end of a link hears beacons: on a link that is up, and in the drydown patrol (R227). -/
def State.hears (s : State) (g : Seg) : Bool :=
  (s.segs.get g).st != .unpowered && (s.linkUp g || ((s.links.get g).st == .patrol && (s.segs.get g).st == .patrol))

/-- What a segment takes from a valid beacon (R35, R227, R228, R245, R248, R251, R253). -/
def State.takeBeacon (s : State) (g : Seg) (c : Class) (halt patrol : Bool) : State :=
  let s := s.modLink g (fun l => { l with lastDownlink := s.now, up := ackDir upPriority s.now l.up (ackOf l.up) })
  let s := s.modSeg g (fun x => { x with
    cls := c, clsAt := s.now, st := if x.st == .silent && x.trained then .running else x.st
    haltCause := if halt then x.haltCause else 0 })
  if patrol then s.startTimer g else s

/-- The cause of the park that a beacon with HALT = 1 brings: of a park symbol in the same frame, of the latest one, or
HALT (R245, R255). -/
def State.haltCode (s : State) (g : Seg) : Nat :=
  match (s.links.get g).parkSym with
  | some orphan => if orphan then 8 else 7
  | none => haltCauseOf (s.segs.get g).haltCause

/-- DOWNLINK_BEACON (R245): valid when its CRC holds and US is the segment's own count. -/
def execDownlinkBeacon (g : Seg) (crcOk : Bool) (s : State) : Host.Outcome State Fault Refusal :=
  match (s.links.get g).beacon with
  | none => s.done
  | some b =>
    let x := s.segs.get g
    let n := b.toNat
    let s := s.modLink g (fun l => { l with beacon := none })
    match classOfNo (n / 2 ^ 10 % 4) with
    | none => s.done
    | some c =>
      if !crcOk || !beaconCrcOk b || !s.hears g || (x.timeSet && n % 1024 != s.now / 1000 % 1024) then s.done
      else
        let s := s.takeBeacon g c (n.testBit 12) (n.testBit 14)
        (if n.testBit 12 then s.parkIn g (s.haltCode g) else s).done

/-! ### Cover of boundary cells (R159) -/

/-- The time up to which the reports of a cell that have reached the hub cover it. -/
def State.coveredTo (s : State) (j : Cell) : Nat :=
  let d := (s.links.get (segOf j)).up
  let waiting := (d.sent.filter (fun e => decide ((e.1 + 256 - d.expect) % 256 < 64))).map Prod.snd ++ d.queued
  let starts := waiting.filterMap (fun m => match m with
    | .edge e => if e.cell = j then some e.step1 else none
    | _ => none)
  let now := match (s.cells.get j).tr with
    | some t => Nat.min s.now t.began
    | none => s.now
  starts.foldl Nat.min now

/-- The cells of other segments that a boundary cell neighbours, and the boundary cells of a segment. -/
def boundaryCells (g : Seg) : List Cell := [cellOf g 0, cellOf g 15]

/-- The neighbouring segment of a boundary cell is told of it. -/
def State.tellNeighbour (s : State) (j : Cell) (l : List EdgeRec) : State :=
  match farNeighbour j with
  | none => s
  | some k =>
    let g := segOf k
    let told := (s.links.get g).down.queued.any (fun m => match m with
      | .neighbour i _ _ => i == j
      | _ => false)
    if !s.linkUp g || (told && l.isEmpty) then s else s.sendDown g (.neighbour j (s.coveredTo j) l)

/-- Frame of 1 µs in which an uplink beacon that is received at a time left: 500 ns into it (R244). -/
def upFrame (t : Nat) : Nat := (t + 500) / 1000

/-- UPLINK_BEACON (R244, R246): one in each frame; the hub takes what it carries, acknowledges, watches V_est, and passes
on how far the boundary cells are covered. -/
def execUplinkBeacon (g : Seg) (crcOk : Bool) (s : State) : Host.Outcome State Fault Refusal :=
  if !crcOk || !s.linkUp g || !s.powered || (s.segs.get g).st == .unpowered ||
      upFrame s.now ≤ upFrame (s.links.get g).lastUplink then s.done
  else
    let s := s.modLink g (fun l => { l with
      report := s.uplink g, lastUplink := s.now, down := ackDir downPriority s.now l.down (ackOf l.down) })
    (each (boundaryCells g) (fun s j => s.tellNeighbour j []) s.watchV).done

/-! ### Park symbol and silence (R247, R253) -/

/-- PARK_SYMBOL_RECEIVED (R49, R247). -/
def execParkSymbolReceived (g : Seg) (s : State) : Host.Outcome State Fault Refusal :=
  match (s.links.get g).parkSym with
  | some orphan =>
    if s.symbolActs g then
      let code := if orphan then 8 else 7
      let s := s.modSeg g (fun x => { x with haltCause := code })
      let s := s.modLink g (fun l => { l with lastDownlink := s.now })
      (s.parkSegment g code).done
    else s.done
  | none => s.done

/-- LINK_SILENCE (R253): neither beacon nor park symbol for 20 µs, out of patrol mode. In DORMANT the segment goes to
its patrol schedule once its cells park (R230). -/
def execLinkSilence (g : Seg) (s : State) : Host.Outcome State Fault Refusal :=
  let x := s.segs.get g
  if s.silenceActs g then
    let s := if x.st == .running then s.parkSegment g 9 else s
    let s := if x.timerFrom.isNone then s.startTimer g else s
    (if s.st == .dormant && x.onStack then s.dormantPatrol g
     else s.modSeg g (fun x => { x with trained := false, st := if x.st == .running then .silent else x.st })).done
  else s.done

/-! ### Training and loss (R252, R254) -/

/-- Carriers in use (R258): with both off, both are used. -/
def State.carriers (s : State) (g : Seg) : Bool × Bool :=
  let a := s.flag (Fld.segCtrlC0En g)
  let b := s.flag (Fld.segCtrlC1En g)
  if a || b then (a, b) else (true, true)

/-- The link is being trained by the hub. -/
def State.isTraining (s : State) (g : Seg) : Bool :=
  s.powered && (s.segs.get g).st != .unpowered &&
    ((s.links.get g).st == .training || (s.links.get g).st == .lost)

/-- One-way latency from round trips to the K28.1 echo, in ns: half their mean less the turnaround of 100 ns (R251). -/
def latencyOf (trips : List Nat) : Nat := (sumNat trips / trips.length - 100) / 2

/-- SPAN_TRAINED: 64 valid beacons each way on both carriers, and 16 round trips measured. -/
def execSpanTrained (g : Seg) (trips : List Nat) (s : State) : Host.Outcome State Fault Refusal :=
  if s.isTraining g then
    let c := s.carriers g
    let s := (s.linkTrained g c.1 c.2 (latencyOf trips)).checkShunts.nextSlice
    (if s.st == .boot && (s.segs.get g).st != .boot then s.sendDown g (.cmd .moduleReset) else s).done
  else s.done

/-- CARRIER_LOST: four consecutive beacons of one carrier invalid or missing. -/
def execCarrierLost (g : Seg) (carrier : Bool) (s : State) : Host.Outcome State Fault Refusal :=
  if (s.links.get g).st == .up then
    let s := s.modLink g (fun l => { l with st := .single, c0 := carrier, c1 := !carrier })
    (s.raise .carrierLost (some g) none (if carrier then 1 else 0) 0 0).done
  else s.done

/-- BACKGROUND_TRAINING: the failed carrier is tried every 100 ms. -/
def execBackgroundTraining (g : Seg) (passed : Bool) (s : State) : Host.Outcome State Fault Refusal :=
  let c := s.carriers g
  if (s.links.get g).st == .single && passed && c.1 && c.2 then
    (s.modLink g (fun l => { l with st := .up, c0 := true, c1 := true })).done
  else s.done

/-- The link of a boundary cell's neighbour is lost: a time without cover begins, and what the cell holds is delivered
DISTURBED (R159). -/
def State.releaseHeld (s : State) (k : Cell) : State :=
  let l := (s.meas.get k).heldOuts
  each l (fun s h => s.releaseAs k h false) ((s.modMeas k (fun m => { m with heldOuts := [] })).loseCover k)

/-- Entry to LOST (R254, R255). -/
def State.loseLink (s : State) (g : Seg) : State :=
  let s := ((s.abortSegSlice g).captureWindow g).modLink g (fun l => { l with
    st := .lost, c0 := false, c1 := false, losses := satAdd 0xFF l.losses 1, trainFrom := s.now, beacon := none })
  let s := s.raise .linkLost (some g) none 0 0 0
  let s := s.checkShunts
  let s := each (boundaryCells g) (fun s j => match farNeighbour j with
    | some k => s.releaseHeld k
    | none => s) s
  s.verifyAnswer g .timeout

/-- LINK_LOST: no valid uplink beacon on either carrier for 20 µs. -/
def execLinkLost (g : Seg) (s : State) : Host.Outcome State Fault Refusal :=
  if s.linkUp g && s.powered && decide ((s.links.get g).lastUplink + 20000 ≤ s.now) then (s.loseLink g).done
  else s.done

/-- SPAN_RESEND (R248): ACK has not advanced for 4 µs; every unacknowledged message is sent again. -/
def execSpanResend (g : Seg) (up : Bool) (s : State) : Host.Outcome State Fault Refusal :=
  let l := s.links.get g
  let n := if up then l.up.sent.length else l.down.sent.length
  let since := if up then l.up.ackAt else l.down.ackAt
  if s.linkUp g && n != 0 && decide (since + 4000 ≤ s.now) then
    (s.modLink g (fun l =>
      if up then { l with up := { l.up with ackAt := s.now }, retry := satAdd 0xFF l.retry n }
      else { l with down := { l.down with ackAt := s.now }, retry := satAdd 0xFF l.retry n })).done
  else s.done

/-! ### Down messages (R249) -/

/-- The down message that a segment takes next, if it is of the kind asked for. -/
def State.nextDown {α : Type} (s : State) (g : Seg) (pick : DownMsg → Option α) : Option α :=
  if s.linkUp g && (s.segs.get g).st != .unpowered then (expected (s.links.get g).down).bind pick else none

def State.takeDown (s : State) (g : Seg) : State := s.modLink g (fun l => { l with down := accept l.down })

/-- The up message that the hub takes next, if it is of the kind asked for. -/
def State.nextUp {α : Type} (s : State) (g : Seg) (pick : UpMsg → Option α) : Option α :=
  if s.linkUp g && s.powered then (expected (s.links.get g).up).bind pick else none

def State.takeUp (s : State) (g : Seg) : State := s.modLink g (fun l => { l with up := accept l.up })

/-- What a written RW or RWS register of a window stores: the limits' codes at most 300 and 700 (R56, R57). -/
def windowStored (rel : Nat) (w : Nat) : Nat :=
  if 0x80 ≤ rel ∧ rel < 0xC0 then Nat.min 300 (w % 512)
  else if 0xC0 ≤ rel ∧ rel < 0x100 then Nat.min 700 (w % 1024)
  else if rel < 0x80 then w % 0x800 &&& 0x5FF
  else w &&& 0xFF03

/-- A segment applies a write to its window. -/
def State.applyWindow (s : State) (g : Seg) (off : Nat) (v mask : Word) : State :=
  let rel := off % 0x400
  if rel = 0x0C then (if (v &&& mask).getLsbD 1 then s.releaseKeeper g else s)
  else if 0x40 ≤ rel ∧ rel < 0x140 then
    let k := cellOf g (rel % 0x40 / 4)
    let old := Sparse.get resetOf (s.segs.get g).win off
    let corner := s.cornerOf k
    let w := word (windowStored rel ((old &&& ~~~mask) ||| (v &&& mask)).toNat)
    let s := s.modSeg g (fun x => { x with win := Sparse.put resetOf x.win off w })
    if rel < 0x80 then s.wroteCellCfg k old v mask corner else s
  else s

/-- CONFIG (R249, R475): a direct write acts; a staged one is held for the accord; the segment acknowledges. -/
def execConfig (g : Seg) (s : State) : Host.Outcome State Fault Refusal :=
  match s.nextDown g (fun m => match m with
    | .config off v mask staged o => some (off, v, mask, staged, o)
    | _ => none) with
  | none => s.done
  | some (off, v, mask, staged, o) =>
    let s := s.takeDown g
    let s := if staged then s.modSeg g (fun x => { x with staged := x.staged ++ [(off, v, mask)] })
      else s.applyWindow g off v mask
    (s.sendUp g (.rsp off (Sparse.get resetOf (s.segs.get g).win off) .ok (some o))).done

/-- READ (R249). -/
def execRead (g : Seg) (s : State) : Host.Outcome State Fault Refusal :=
  match s.nextDown g (fun m => match m with
    | .read off => some off
    | _ => none) with
  | none => s.done
  | some off => ((s.takeDown g).sendUp g (.rsp off (s.windowLive g (off % 0x400)) .ok none)).done

/-- The CRC-32C at the end of a share holds. -/
def shareCrcOk (l : List Byte) : Bool :=
  decide (4 ≤ l.length) && crc32c (l.take (l.length - 4)) == u l (l.length - 4) 4

/-- SHARE (R89): a chunk is stored; after the last one the segment checks its staged share and reports, or holds its
image. -/
def execShare (g : Seg) (s : State) : Host.Outcome State Fault Refusal :=
  match s.nextDown g (fun m => match m with
    | .share bank off data isLast => some (bank, off, data, isLast)
    | _ => none) with
  | none => s.done
  | some (bank, off, data, isLast) =>
    let s := (s.takeDown g).modSeg g (fun x => { x with
      shareRx := if off = 0 then data else x.shareRx ++ data
      stagedOk := x.stagedOk && bank != 1 })
    if !isLast then s.done
    else if bank = 2 then (s.modSeg g (fun x => { x with imageIn := true, shareRx := [] })).done
    else
      let l := s.play.staged.bytes
      let st := if shareCrcOk (s.segs.get g).shareRx then shareVerdict l (s.segs.get g).shareRx g.val (s.guardFor l)
        else .checkFail
      let s := s.modSeg g (fun x => { x with
        stagedOk := st == .ok, shareStatus := st, shareRx := []
        shareStaged := if st == .ok then x.shareRx else x.shareStaged })
      (s.sendUp g (.shareRsp st)).done

/-- TIME_MESSAGE (R228, R251): the segment's count is set, its timer is compared with line time, and the echo that it
returns after `trip` ns gives the latency anew. -/
def execTimeMessage (g : Seg) (trip : Nat) (s : State) : Host.Outcome State Fault Refusal :=
  match s.nextDown g (fun m => match m with
    | .time t l => some (t, l)
    | _ => none) with
  | none => s.done
  | some _ =>
    let s := ((s.takeDown g).compareTimer g).modSeg g (fun x => { x with timeSet := true })
    (s.modLink g (fun l => { l with latency := latencyOf [trip] })).done

/-- The terms of a cell over the slots of an ISLOT message (R250). -/
def State.slotTerms (s : State) (k : Cell) (l : List (Nat × Option Int)) : List SumTerm :=
  l.map (fun e => ⟨e.1, e.2, s.overlap k e.1 (e.1 + 1000), s.slotValue k e.1, s.nearSlot k e.1⟩)

/-- The pre-sums that a segment forms over the slots of a message for one of its cells: those of the step in force and of
the integration that runs (R250). -/
def State.sumsOf (s : State) (k : Cell) (l : List (Nat × Option Int)) : Sums :=
  let a := s.ana.get k
  let from_ := match s.results.stepFrom with
    | some t => t
    | none => s.now
  let t := (s.slotTerms k l).filter (fun x => decide (from_ ≤ x.slot))
  let x := t.foldl addTerm { a with q := 0, e := 0, tIn := 0 }
  { from_ := (t.head?.map SumTerm.slot).getD 0
    upTo := t.foldl (fun n (x : SumTerm) => Nat.max n (x.slot + 1000)) 0
    q := x.q
    e := x.e
    tIn := x.tIn
    sweep := match (s.cells.get k).walk, a.sweep with
      | some w, some y => some (t.foldl (s.sweepTerm w) (SweepAcc.start y.t0 y.dist0))
      | _, _ => none }

/-- ISLOT (R250): the segment forms its pre-sums and sends those of the cells that carried current or play a walk. -/
def execIslot (g : Seg) (s : State) : Host.Outcome State Fault Refusal :=
  match s.nextDown g (fun m => match m with
    | .islot first vals => some (first, vals)
    | _ => none) with
  | none => s.done
  | some (first, vals) =>
    let l := vals.mapIdx (fun i v => (first + 1000 * i, v))
    let s := (s.takeDown g).modSeg g (fun x => { x with islots := l })
    let send (s : State) (k : Cell) : State :=
      let x := s.sumsOf k l
      if x.upTo != 0 && (x.tIn != 0 || x.sweep.isSome) then s.sendUp g (.sums k x) else s
    (each (cellsOf g) send s).done

/-- NEIGHBOUR (R159): forwarded transitions act under R158, and the boundary cell is covered. -/
def execNeighbour (g : Seg) (s : State) : Host.Outcome State Fault Refusal :=
  match s.nextDown g (fun m => match m with
    | .neighbour j t l => some (j, t, l)
    | _ => none) with
  | none => s.done
  | some (j, t, l) =>
    let s := s.takeDown g
    match farNeighbour j with
    | none => s.done
    | some k =>
      let moved (s : State) (e : EdgeRec) : State :=
        let b := e.confs.getLastD e.step1 + s.guardNs
        (s.neighbourMoved k e.step1 b).disturb k e.step1 b
      ((each l moved s).coverTo k t).done

/-- A segment action (R249). The start of patrol mode carries no more than the row DRYDOWN_ENTERED brings about as a
whole. -/
def State.segmentAction (s : State) (g : Seg) (c : SegCmd) : State :=
  match c with
  | .release cells => each (cellsOf g) (fun s k => if cells.getLsbD (localOf k) then s.releaseCell k else s) s
  | .sweepStart cells => s.modSeg g (fun x => { x with sweepCells := cells })
  | .stream on => s.modShunts (fun m => { m with
      strLive := if on && m.strOn && m.strSegs.getLsbD g.val then m.strLive ||| (1 <<< g.val)
        else m.strLive &&& ~~~((1 : BitVec 16) <<< g.val) })
  | .patrolEntry => s
  | .reset => (s.abortSegSlice g).segDieReset g false
  | .moduleReset => (s.abortSegSlice g).segDieReset g true
  | .applyAccord t => s.modSeg g (fun x => { x with accordAt := some t })
  | .dropAccord => s.modSeg g (fun x => { x with staged := [], accordAt := none })

/-- SEGMENT_CMD (R249). -/
def execSegmentCmd (g : Seg) (s : State) : Host.Outcome State Fault Refusal :=
  match s.nextDown g (fun m => match m with
    | .cmd c => some c
    | _ => none) with
  | none => s.done
  | some c =>
    let s := (s.takeDown g).segmentAction g c
    (match c with
      | .reset | .moduleReset => s
      | _ => s.sendUp g (.cmdRsp .ok)).done

/-! ### Up messages (R249) -/

/-- EDGE (R41): the hub counts a planned edge, forwards one of a boundary cell, and counts it for TALLY. -/
def execEdge (g : Seg) (s : State) : Host.Outcome State Fault Refusal :=
  match s.nextUp g (fun m => match m with
    | .edge e => some e
    | _ => none) with
  | none => s.done
  | some e =>
    let s := s.takeUp g
    let s := if e.planned.isSome then s.countMod e.pairSlot else s
    let s := s.modAna e.cell (fun a => { a with edges := a.edges + 1, late := if e.late then a.late + 1 else a.late })
    (s.tellNeighbour e.cell [e]).done

/-- FAULT_MESSAGE (R388, R397): one whose halt request has already set the sticky bit fills the record only. -/
def execFaultMessage (g : Seg) (s : State) : Host.Outcome State Fault Refusal :=
  match s.nextUp g (fun m => match m with
    | .fault r b => some (r, b)
    | _ => none) with
  | none => s.done
  | some (r, rescaled) =>
    let s := s.takeUp g
    let flags : BitVec 8 := if rescaled then 9 else 1
    if s.flt.awaited.contains (r.src, g) then
      let s := s.modFlt (fun f => { f with awaited := f.awaited.erase (r.src, g) })
      (s.recordAndReact r flags (s.classOf r.src) false).done
    else
      let s := if srcClass r.src == .halt then s.modLink g (fun l => { l with haltReq := false }) else s
      (s.report r flags).done

/-- OUTPUT (R249): filter outputs feed DQDV, OCV samples KVAL. -/
def execOutput (g : Seg) (s : State) : Host.Outcome State Fault Refusal :=
  match s.nextUp g (fun m => match m with
    | .output k n x => some (k, n, x)
    | _ => none) with
  | none => s.done
  | some (k, n, x) =>
    let s := s.takeUp g
    if n = 0 ∧ !x.disturbed ∧ x.isIn then (s.dqdvOutput k x).done
    else if n = 1 ∧ !x.disturbed ∧ !x.sat ∧ s.kvalRuns (s.ana.get k).kval then
      (s.kvalSample k x.value (s.temps.get k).inUse x.stamp false).done
    else s.done

/-- Sums that are new to the hub are added to the totals of the step in force and to the integration they belong to
(R189, R199, R250). -/
def State.addSums (s : State) (k : Cell) (x : Sums) : State :=
  if s.results.stepFrom.isSome && decide ((s.ana.get k).sumTo ≤ x.from_) then
    s.modAna k (fun a => { a with
      q := a.q + x.q
      e := a.e + x.e
      tIn := a.tIn + x.tIn
      sweep := match a.sweep, x.sweep with
        | some y, some z => some (y.add z)
        | y, _ => y
      sumTo := Nat.max a.sumTo x.upTo })
  else s

/-- SUMS (R250). -/
def execSums (g : Seg) (s : State) : Host.Outcome State Fault Refusal :=
  match s.nextUp g (fun m => match m with
    | .sums k l => some (k, l)
    | _ => none) with
  | none => s.done
  | some (k, l) => ((s.takeUp g).addSums k l).done

/-- BURST (R194): its conversions are collected, and the whole is held for EDGE-R. -/
def execBurst (g : Seg) (s : State) : Host.Outcome State Fault Refusal :=
  match s.nextUp g (fun m => match m with
    | .burstPart k l => some (k, l, none)
    | .burst k b => some (k, b.samples, some b)
    | _ => none) with
  | none => s.done
  | some (k, l, b) => ((s.takeUp g).modAna k (fun a => match b with
      | none => { a with burstRx := a.burstRx ++ l }
      | some b => { a with burstRx := [], bursts := a.bursts ++ [{ b with samples := a.burstRx ++ l }] })).done

/-! ### Stream words on their way to the host (R175, R338, R339) -/

/-- Words in groups of n at most; at most k groups. -/
def groupsOf {α : Type} (n : Nat) : Nat → List α → List (List α)
  | 0, _ => []
  | k + 1, l => if l.isEmpty then [] else l.take n :: groupsOf n k (l.drop n)

/-- A stream entry. -/
def streamEntry (position g : Nat) (ws : List (BitVec 64)) : List Byte :=
  let b := (ws.map (fun w => leBytes 8 w.toNat)).flatten ++ zeros (48 - 8 * ws.length)
  leBytes 1 0x10 ++ leBytes 1 ws.length ++ zeros 2 ++ leBytes 1 g ++ zeros 3 ++ b.take 16 ++
    leBytes 2 (position + 0x8000) ++ zeros 6 ++ b.drop 16

/-- Words of one frame are placed by a head; those that find no room are dropped and counted for a gap word. -/
def State.placeStream (s : State) (position g : Nat) (ws : List (BitVec 64)) : State :=
  let gap := match s.host.gaps.find? (fun e => e.1 == position && e.2.1 == g) with
    | some e => e.2.2
    | none => 0
  let all := if gap = 0 then ws
    else streamWord (Nat.min gap 0x7FFFFF) 0xFE s.now false false false false false :: ws
  let setGap (s : State) (n : Nat) : State := s.modHost (fun h => { h with
    gaps := (if n = 0 then [] else [(position, g, n)]) ++ h.gaps.filter (fun e => !(e.1 == position && e.2.1 == g)) })
  let put (t : State × Nat × Bool) (grp : List (BitVec 64)) : State × Nat × Bool :=
    if t.2.2 then (t.1, t.2.1 + grp.length, true)
    else match t.1.placeEntry (Fin.ofNat 4 (t.1.fld Fld.hostCtrlStreamRing)) (streamEntry position g grp) .plain with
      | some s' => (s', t.2.1, false)
      | none => (t.1, t.2.1 + grp.length, true)
  let t := (groupsOf 6 (all.length / 6 + 1) all).foldl put (s, 0, false)
  let lost := if gap ≠ 0 ∧ t.2.1 = all.length then gap + ws.length else t.2.1
  setGap t.1 lost

/-- STREAM (R175): a head places the words; a member sends them on in RES STREAM frames. -/
def execStream (g : Seg) (s : State) : Host.Outcome State Fault Refusal :=
  match s.nextUp g (fun m => match m with
    | .stream ws => some ws
    | _ => none) with
  | none => s.done
  | some ws =>
    let s := s.takeUp g
    if s.isHead then (s.placeStream s.loop.position g.val ws).done
    else
      let send (s : State) (l : List (BitVec 64)) : State :=
        s.toHead 3 false 1 (leBytes 2 s.loop.position ++ leBytes 1 g.val ++ leBytes 1 l.length ++ zeros 4 ++
          (l.map (fun w => leBytes 8 w.toNat)).flatten)
      (each (groupsOf 31 (ws.length / 31 + 1) ws) send s).done

/-- SEGMENT_RSP (R89, R471): the shadow takes the applied value and its writer is answered; a share's status goes to
FLACON_VERIFY. -/
def execSegmentRsp (g : Seg) (s : State) : Host.Outcome State Fault Refusal :=
  match s.nextUp g (fun m => match m with
    | .rsp _ _ _ _ | .shareRsp _ | .cmdRsp _ => some m
    | _ => none) with
  | some (.rsp off v st (some o)) =>
    let s := s.takeUp g
    let s := if st == .ok && 0x40 ≤ off % 0x400 then s.store off v else s
    (s.replyLate o 0x02 (Result.of st)).done
  | some (.rsp off v _ none) => ((s.takeUp g).modLink g (fun l => { l with seen := assign l.seen (off % 0x400) v })).done
  | some (.shareRsp st) => ((s.takeUp g).verifyAnswer g st).done
  | some (.cmdRsp _) => (s.takeUp g).done
  | _ => s.done

/-! ### Segment start and supplies (R50, R51, R230, R256, R385, R447) -/

/-- The segment image within the firmware image of the running slot (R447). -/
def State.segmentImage (s : State) : List Byte :=
  let slot := if s.nvm.runningB then 1 else 0
  let base := regionStart (1 + slot)
  let h := s.flashRead base 0x20
  s.flashRead (base + u h 0x14 4) (Nat.min (u h 0x18 4) (regionSize (1 + slot)))

/-- SEGMENT_IMAGE_PUSH (R447): the image of the running slot is sent to a segment in BOOT whose link is up. -/
def execSegmentImagePush (g : Seg) (s : State) : Host.Outcome State Fault Refusal :=
  let x := s.segs.get g
  if s.linkUp g && s.powered && x.st == .boot && !x.imageIn then (s.sendShare g 2 s.segmentImage).done
  else s.done

/-- LOG_RETENTION_END (R230): in log retention the stack falls below 6 V, in DORMANT or with the module OFF. -/
def execLogRetentionEnd (g : Seg) (mv : Nat) (s : State) : Host.Outcome State Fault Refusal :=
  let x := s.segs.get g
  if (s.st == .dormant || s.st == .off) && x.retention && decide (mv < 6000) then
    (s.modSeg g (fun x => { x with stackMv := mv, retention := false, log := [], logOver := 0, st := .unpowered })).done
  else s.done

/-- FEED_LOSS (R385). -/
def execFeedLoss (g : Seg) (s : State) : Host.Outcome State Fault Refusal :=
  if s.powered && (s.segs.get g).feedOk && s.flag (Fld.segFeedCtrlFeedEn g) then
    let s := s.modSeg g (fun x => { x with feedOk := false, feedV := 0, onStack := decide (20000 ≤ x.stackMv) })
    let s := s.raise .feedFault (some g) none 0 0 0
    (if (s.segs.get g).stackMv < 20000 then
      (((s.abortSegSlice g).segDieReset g false).modSeg g (fun x => { x with st := .unpowered, smeas := false, sdrv := false })).linkToDown g
     else s).done
  else s.done

/-- SEG_FEED_RESTORE (R256, R261): 10 ms after the feed was switched off, or 6 ms after FEED_EN was written to 1, the
feed is in range at `volts` in 100 mV, if it is still enabled. -/
def execSegFeedRestore (g : Seg) (volts : Nat) (s : State) : Host.Outcome State Fault Refusal :=
  match (s.segs.get g).feedRestoreAt with
  | some t =>
    if t ≤ s.now then
      let dead := (s.segs.get g).st == .unpowered
      let s := s.modSeg g (fun x => { x with feedRestoreAt := none })
      if !s.flag (Fld.segFeedCtrlFeedEn g) then s.done
      else
        let s := s.modSeg g (fun x => { x with
          feedOk := true, feedV := volts % 256, onStack := false, st := if dead then .boot else x.st })
        (if dead && s.powered then s.retrainLink g else s).done
    else s.done
  | none => s.done

end Sys2Proof.Machine
end

