-- ==== Sys2Proof/Machine/LoopPorts.lean ====
section
/-!
DEFINITION. How a loop port takes a frame, what a member passes on (R262 to R273), and the entry to READY (R447,
R451).
-/

namespace Sys2Proof.Machine

/-! ### Entry to READY (R447, R451) -/

/-- On the first READY after a trial boot the firmware confirms the trial; after a revert it names the slot it runs. -/
def State.confirmSlot (s : State) : State :=
  let slot := if s.nvm.runningB then 1 else 0
  if s.writeRefusal.isSome then s
  else if s.nvm.trial then
    let s := s.journal 0x0B (leBytes 1 slot ++ zeros 3 ++ leBytes 4 s.nvm.version)
    let s := s.pushJob ⟨0, s.slotRecOps slot false s.nvm.version, .record⟩
    (s.modNvm (fun n => { n with trial := false })).modGlb (fun g => { g with trialBit := false })
  else if s.nvm.reverted && s.newestSlotRec.any (fun r => r.2.slot != slot) then
    s.pushJob ⟨0, s.slotRecOps slot false s.nvm.version, .record⟩
  else s

/-- STARTUP_TEST ends in READY (R447 step 9): the test passed, a position adopted, and on a head the host link up. -/
def State.tryReady (s : State) : State :=
  if s.st == .startupTest && s.glb.testEnded && s.loop.valid && (!s.isHead || s.host.linkUp) then
    (s.abortSlice.enter .ready).confirmSlot
  else s

/-! ### Receiving (R263 to R265, R277, R282) -/

/-- A port in TRAINING has 32 consecutive valid frames and a partner that shows RX_UP. -/
def State.tryUp (s : State) (p : Port) : State :=
  let x := s.port p
  if x.st == 1 && decide (32 ≤ x.count) && x.rxUp then s.enterUp p else s

/-- A valid frame has been received: training counts it, silence ends, LACK releases copies. -/
def State.noteValid (s : State) (p : Port) (lack : Nat) : State :=
  let s := s.modPort p (fun x => { x with
    lastValid := s.now, heard := s.now, count := if x.st = 1 then x.count + 1 else x.count })
  let s := s.modLoop (fun l => { l with silent := false })
  (s.ackPort p lack).tryUp p

/-- A port that R277 restricts carries IDLE, TIME, PARK_ALL and CENSUS frames only. -/
def carries (x : PortSt) (t : Nat) : Bool := !x.restricted || t == 0 || t == 4 || t == 6 || t == 7

/-- A valid frame of a type arrives and is taken by k: a sequenced frame only with the LSEQ expected (R264). -/
def State.arrive (s : State) (p : Port) (t : Nat) (f : Frame) (k : State → State) : State :=
  if !s.powered || (s.port p).st == 0 || f.ftype != t then s
  else
    let s := s.noteValid p f.lack
    if !isSequenced t then k s
    else if f.lseq = (s.port p).expect then
      let s := s.modPort p (fun x => { x with expect := (x.expect + 1) % 256, lack := x.expect })
      if carries (s.port p) t then k s else s
    else s.modPort p (fun x => { x with crcErr := satAdd 0xFFF x.crcErr 1 })

/-! ### Passing on (R268 to R271, R276) -/

/-- A frame in transit leaves by the other port with a new HOP; where that port is not UP it is discarded and counted
(R277). `rx` is the stamp of its K27.7 where the frame is a TIME frame. -/
def State.relay (s : State) (p : Port) (f : Frame) (hop rx : Nat) : State :=
  let q := otherPort p
  if (s.port q).st == 2 then s.enqueue q ⟨false, s.now, rx, { f with hop := hop, dist := f.dist + 1 }⟩
  else s.modPort q (fun x => { x with discard := satAdd 0xFF x.discard 1 })

def State.forward (s : State) (p : Port) (f : Frame) (hop : Nat) : State := s.relay p f hop 0

/-- A frame bound for a head leaves by the port on which its cause arrived. -/
def State.sendBack (s : State) (p : Port) (ftype : Nat) (head : Bool) (info : Nat) (payload : List Byte) : State :=
  s.sendFrame p true
    { ftype := ftype, down := p == .a, bcast := false, head := head, hop := 1023, dist := 0, lseq := 0, lack := 0,
      info := info, payload := payload }

/-- An addressed CMD met a port that is not UP (R276). -/
def State.noRouteBack (s : State) (p : Port) (f : Frame) : State :=
  let op := u f.payload 2 1
  s.sendBack p 2 f.head 0 (rspPayload (u f.payload 0 2) op s.loop.position .noRoute 0 ⟨0, 0, 0, 0⟩
    (rspData op (Result.of .noRoute)))

/-- A member's handling of an addressed sequenced frame (R268): `k` where the module is the target. -/
def State.transit (s : State) (p : Port) (f : Frame) (k : State → State) : State :=
  if f.hop = 1023 then s.forward p f 1023
  else if f.hop ≤ 1 then k s
  else if (s.port (otherPort p)).st != 2 && f.ftype == 1 then s.noRouteBack p f
  else s.forward p f (f.hop - 1)

/-- A member passes a broadcast that is not a CMD on while HOP lasts and the onward port is UP. -/
def State.passOn (s : State) (p : Port) (f : Frame) : State :=
  if 1 < f.hop ∧ (s.port (otherPort p)).st = 2 then s.forward p f (f.hop - 1) else s

/-! ### Known breaks (R276, R278) -/

/-- Distance from the module to link q on a way (true: UP), in links; none known where it has no position. -/
def State.breakDistance (s : State) (up : Bool) (q : Nat) : Nat :=
  let l := s.loop
  if up then (if l.position ≤ q then q - l.position else q + l.n - l.position)
  else if q < l.position then l.position - 1 - q else l.position - 1 + l.n - q

/-- An EVENT of KIND 1 that arrived on port p names link q. -/
def State.noteBreak (s : State) (p : Port) (q : Nat) : State :=
  let up := p == .b
  let old := if up then s.loop.brkUp else s.loop.brkDown
  if old = 0 ∨ s.breakDistance up q < s.breakDistance up old then
    s.modLoop (fun l => if up then { l with brkUp := q } else { l with brkDown := q })
  else s

/-- KIND 2 clears the break it names. -/
def State.clearBreak (s : State) (q : Nat) : State :=
  s.modLoop (fun l => { l with
    brkUp := if l.brkUp = q then 0 else l.brkUp
    brkDown := if l.brkDown = q then 0 else l.brkDown })

/-- The link that an EVENT of KIND 1 or 2 names: its lower position; n for the link between n and the head. -/
def State.eventLink (s : State) (position port : Nat) : Nat :=
  if port = 1 then position else if position ≤ 1 then s.loop.n else position - 1

end Sys2Proof.Machine
end

