-- ==== Sys2Proof/Machine/LoopRows.lean ====
section
/-!
DEFINITION. The loop (chapter 09): heartbeat, training, resends, frames bound for a head, events, PARK_ALL, the census,
retirement, silence and wake symbols.
-/

namespace Sys2Proof.Machine

/-! ### IDLE frames (R263, R266, R277, R280, R285) -/

/-- A PONG that matches a PING: one pair of the 16 at most; LAT is the mean over the pairs so far (R280, R294). -/
def State.takePong (s : State) (p : Port) (id turn : Nat) : State :=
  match (s.port p).pingOut.find? (fun e => e.1 == id) with
  | none => s
  | some (_, t0) => s.modPort p (fun x =>
      let n := x.pingN + 1
      let sum := x.pingSum + (10 * (s.now - t0) - turn)
      { x with
        pingOut := x.pingOut.filter (fun e => e.1 != id), pingN := n, pingSum := sum
        pings := n, lat := Nat.min 0xFFFF (divI sum (2 * n)).toNat })

/-- Neighbour expected on a port (R277). -/
def State.expectedPartner (s : State) (p : Port) : Nat :=
  let l := s.loop
  match p with
  | .a => if l.position = 1 then (if l.topo then 0 else l.n) else l.position - 1
  | .b => if l.position = l.n then (if l.topo then 0 else 1) else l.position + 1

/-- A partner that reports a wrong position restricts the port until the next census (R277). -/
def State.checkPartner (s : State) (p : Port) (pos : Nat) : State :=
  if s.loop.valid && pos != 0 && pos != s.expectedPartner p && !(s.port p).restricted then
    (s.modPort p (fun x => { x with restricted := true })).raise .positionMismatch none none (word (portNo p)) (word pos) 0
  else s

/-- What an IDLE frame carries. -/
def State.takeIdle (s : State) (p : Port) (l : List Byte) : State :=
  let flags := u l 0 1
  let id := u l 4 2
  let s := s.modPort p (fun x => { x with
    rxUp := flags.testBit 0, partner := u l 2 2, faultBeyond := flags.testBit 4
    pongDue := if flags.testBit 1 then some (id, s.now) else x.pongDue })
  let s := if flags.testBit 2 then s.takePong p id (u l 6 2) else s
  (s.checkPartner p (u l 2 2)).tryUp p

/-- IDLE (R263). -/
def execIdle (p : Port) (f : Frame) (s : State) : Host.Outcome State Fault Refusal :=
  (s.arrive p 0 f (fun s => s.takeIdle p f.payload)).done

/-- IDLE_SEND (R266): a transmitter has started no frame for 1 µs. Each of the 16 frames of a measurement carries PING
(R280). -/
def execIdleSend (p : Port) (s : State) : Host.Outcome State Fault Refusal :=
  let x := s.port p
  if !s.powered || x.st == 0 || decide (s.now < x.lastStart + 1000) || !x.idleTx s.now then s.done
  else if x.pongDue.isSome || !x.resend.isEmpty || !(x.ready s.now).isEmpty then (s.serve p).done
  else
    let ping := x.st == 2 && decide (x.pingSent < 16)
    let id := if ping then x.pingSent + 1 else 0
    let f := s.idleFrame p ping false id 0
    let s := if ping then s.modPort p (fun x => { x with pingSent := id, pingOut := x.pingOut ++ [(id, s.now)] }) else s
    (s.startFrame p ⟨true, s.now, 0, f⟩).done

/-! ### The link layer (R263 to R265, R272, R277) -/

/-- PORT_DOWN (R263, R277): 40 µs without a valid frame, or 16 consecutive retransmissions. -/
def execPortDown (p : Port) (s : State) : Host.Outcome State Fault Refusal :=
  let x := s.port p
  if s.powered && x.st == 2 && (decide (x.lastValid + 40000 ≤ s.now) || decide (16 ≤ x.retries)) then
    (s.restartPort p).done
  else s.done

/-- PORT_TRAINING_TIMEOUT (R263): training restarts. -/
def execPortTrainingTimeout (p : Port) (s : State) : Host.Outcome State Fault Refusal :=
  let x := s.port p
  if s.powered && x.st == 1 && decide (x.lastValid + 40000 ≤ s.now) then (s.trainPort p).done else s.done

/-- RETRANSMIT (R265): every held frame again, in order, that the port may carry (R277). -/
def execRetransmit (p : Port) (s : State) : Host.Outcome State Fault Refusal :=
  let x := s.port p
  if s.powered && x.st == 2 && !x.held.isEmpty && decide (x.ackAt + 4000 ≤ s.now) then
    let l := x.held.filter (fun t => carries x t.frame.ftype)
    ((s.modPort p (fun x => { x with
      retry := satAdd 0xFF x.retry 1, retries := x.retries + 1, ackAt := s.now, resend := l })).serve p).done
  else s.done

/-- A frame that a member passes on while it is still arriving (R268, R270, R271). -/
def State.cutsThrough (s : State) (p : Port) (f : Frame) : Bool :=
  let whole := f.bcast && (f.ftype == 1 || (f.ftype == 7 && f.info % 4 == 0))
  !s.isHead && (f.ftype == 4 || f.ftype == 6 ||
    (isSequenced f.ftype && f.lseq == (s.port p).expect && decide (2 ≤ f.hop) && !whole))

/-- The CRC of a frame that is being passed on fails: its copy ends with K30.7 and takes no LSEQ (R272). -/
def State.abortCopy (s : State) (p : Port) (f : Frame) : State :=
  let q := otherPort p
  let x := s.port q
  if s.cutsThrough p f && canStart x f.ftype && x.idleTx s.now && (x.ready s.now).isEmpty then
    let hop := if isSequenced f.ftype && f.hop != 1023 then f.hop - 1 else f.hop
    let f := { f with hop := hop, dist := f.dist + 1, lseq := x.lseqTx, lack := x.lack }
    (s.emit (.frame q (lineOf f false))).modPort q (fun x => { x with
      lastStart := s.now
      tx := some ⟨s.now, 8 + f.payload.length, isPriority f.ftype, false, s.now + frameNs f.payload.length⟩ })
  else s

/-- LOOP_FRAME_ERROR (R264, R272): the frame, as far as it was received, is discarded and counted, but one ended by K30.7
is not counted. -/
def execLoopFrameError (p : Port) (e : FrameError) (f : Option Frame) (s : State) : Host.Outcome State Fault Refusal :=
  if !s.powered || (s.port p).st == 0 then s.done
  else
    let n := match e with
      | .crc | .coding | .unknownType => 1
      | .aborted => 0
    let s := match e, f with
      | .crc, some f => s.abortCopy p f
      | _, _ => s
    (s.modPort p (fun x => { x with count := 0, crcErr := satAdd 0xFFF x.crcErr n })).done

/-! ### RSP and EVENT frames (R268, R269, R277, R278, R333, R337, R340) -/

/-- A head takes an RSP: the completion of its own command, or a notice of the other head's. -/
def State.headRsp (s : State) (f : Frame) : State :=
  let l := f.payload
  let tag := u l 0 2 % 1024
  let op := u l 2 1
  let st := u l 3 1
  let flags := u l 6 1
  let data := l.drop 16
  if f.head != s.headNo then
    s.notice 5 (u l 4 2) (leBytes 2 tag ++ leBytes 1 op ++ leBytes 1 st) (leBytes 1 (flags / 2 % 2)) (data.take 32)
  else
    let bc : BcFigures := ⟨u l 8 2, u l 10 2, u l 12 2, u l 14 1⟩
    let summary := flags.testBit 0
    let ping := match s.host.outstanding.find? (fun o => o.tag == tag) with
      | some o => Nat.min 0xFFFFFFFF (s.now - o.sentAt.getD s.now)
      | none => 0
    let value := if op = 0x11 then ping else if summary || !hasValue op then 0 else u data 0 4
    let rest := if summary then [] else if hasValue op then data.drop 4 else data
    s.completeTag tag (if summary then 0 else u l 4 2)
      ⟨if summary then bc.result (flags.testBit 1) else statusOfCode st, value, rest⟩ (BitVec.ofNat 8 (flags % 4)) bc

/-- RSP (R269). -/
def execRsp (p : Port) (f : Frame) (s : State) : Host.Outcome State Fault Refusal :=
  (s.arrive p 2 f (fun s => if s.isHead then s.headRsp f else s.transit p f id)).done

/-- EVENT of KIND 1 or 2 at any module. -/
def State.takeLinkEvent (s : State) (p : Port) (l : List Byte) : State :=
  let q := s.eventLink (u l 0 2) (u l 3 1)
  if u l 2 1 = 1 then (s.noteBreak p q).censusBroken else if u l 2 1 = 2 then s.clearBreak q else s

/-- EVENT (R278). -/
def execEvent (p : Port) (f : Frame) (s : State) : Host.Outcome State Fault Refusal :=
  let l := f.payload
  let kind := u l 2 1
  (s.arrive p 5 f (fun s =>
    if s.isHead then
      if kind = 0 then s.notice 6 (u l 0 2) [] [] ((l.drop 8).take 32)
      else (s.takeLinkEvent p l).notice 4 (u l 0 2) (leBytes 1 (u l 3 1) ++ leBytes 1 (if kind = 2 then 1 else 0)) [] []
    else if f.bcast then (s.takeLinkEvent p l).passOn p f
    else s.transit p f id)).done

/-! ### Results (R279, R281, R339, R341) -/

/-- SEQ a lies below SEQ b; the count wraps (R206). -/
def seqBelow (a b : Nat) : Bool :=
  let d := (b + 2 ^ 32 - a) % 2 ^ 32
  decide (d ≠ 0) && decide (d ≤ 2 ^ 31)

/-- Highest SEQ below which every record is in the list, from a base; at most n steps. -/
def figureFrom (l : List Nat) : Nat → Nat → Nat
  | 0, base => base
  | n + 1, base => if l.contains base then figureFrom l n ((base + 1) % 2 ^ 32) else base

/-- The PLACED and RETIRED figures of a head for a position (R341). -/
def State.figures (s : State) (pos : Nat) : Nat × Nat :=
  let of_ (l : List (Nat × Nat)) : List Nat := (l.filter (fun e => e.1 == pos)).map Prod.snd
  let m := (find? s.loop.marks pos).getD (0, 0)
  let a := of_ s.loop.placed
  let b := of_ s.loop.retired
  (figureFrom a a.length m.1, figureFrom b b.length m.2)

/-- A head takes one record of another module (R279, R339). -/
def State.takeRecord (s : State) (r : List Byte) : State :=
  let pos := u r 0x18 2 % 1024
  let seq := u r 0x10 4
  if s.loop.placed.contains (pos, seq) then s
  else
    let kind := u r 0 1
    match s.placeEntry (s.recordRing kind) (splice r 0x18 (leBytes 2 (pos + 0x8000))) (.other pos seq) with
    | none => s
    | some s =>
      let s := s.modLoop (fun l => { l with placed := (pos, seq) :: l.placed })
      if kind = 4 then s.sweepPlaced (u r 0x16 2) pos else s

/-- A head takes a RES frame. -/
def State.headRes (s : State) (f : Frame) : State :=
  let l := f.payload
  let pos := u l 0 2
  let items (n : Nat) : List (List Byte) := (List.range (u l 3 1)).map (fun i => (l.drop (8 + n * i)).take n)
  match f.info % 4 with
  | 0 => each (items 64) (fun s r => s.takeRecord r) s
  | 1 => s.placeStream pos (u l 2 1) ((items 8).map (fun b => BitVec.ofNat 64 (leNat b)))
  | 2 => s.sweepEnded (u l 8 2) pos (u l 12 4)
  | _ => s

/-- A member takes the figures that a head has sent for it: placed records are not sent again, retired ones free their
slots. In a dual-head loop the higher figures count. -/
def State.takeFigures (s : State) (headPos placed retired : Nat) : State :=
  let s := s.modLoop (fun l => { l with marks := assign l.marks headPos (placed, retired) })
  let figs := s.loop.marks.map Prod.snd
  let s := s.modRes (fun a => { a with slots := a.slots.map (fun e => (e.1, { e.2 with
    placed := figs.any (fun m => seqBelow e.2.record.seq m.1)
    retired := e.2.retired || figs.any (fun m => seqBelow e.2.record.seq m.2) })) })
  s.endEpisode

/-- A member takes a RETIRE notice. -/
def State.takeRetire (s : State) (l : List Byte) : State :=
  each (List.range (u l 3 1)) (fun s i =>
    let a := 8 + 12 * i
    if s.loop.valid && u l a 2 == s.loop.position then s.takeFigures (u l 0 2) (u l (a + 4) 4) (u l (a + 8) 4) else s) s

/-- RES (R279). -/
def execRes (p : Port) (f : Frame) (s : State) : Host.Outcome State Fault Refusal :=
  (s.arrive p 3 f (fun s =>
    if s.isHead then s.headRes f
    else if f.bcast then (if f.info % 4 = 3 then s.takeRetire f.payload else s).passOn p f
    else s.transit p f id)).done

/-- Hops that a broadcast notice may take on a way: the open reach, or the whole loop (R279). -/
def State.openReach (s : State) (p : Port) : Nat :=
  let l := s.loop
  match p with
  | .b => if l.brkUp = 0 then 1022 else l.brkUp - l.position
  | .a => if l.brkDown = 0 then 1022 else if l.position ≤ 1 then l.n - l.brkDown else l.position - 1 - l.brkDown

/-- One RETIRE notice out of every UP port. -/
def State.sendRetire (s : State) (items : List (Nat × Nat × Nat)) : State :=
  let payload := leBytes 2 s.loop.position ++ leBytes 1 0xFF ++ leBytes 1 items.length ++ zeros 4 ++
    (items.map (fun e => leBytes 2 e.1 ++ zeros 2 ++ leBytes 4 e.2.1 ++ leBytes 4 e.2.2)).flatten
  each ([.a, .b] : List Port) (fun s p =>
    if (s.port p).st == 2 && s.openReach p != 0 then
      s.sendFrame p true
        { ftype := 3, down := p == .a, bcast := true, head := s.headNo, hop := s.openReach p, dist := 0, lseq := 0,
          lack := 0, info := 3, payload := payload }
    else s) s

/-- RETIRE_NOTICE (R279): every 10 ms, the figures that have changed. -/
def execRetireNotice (s : State) : Host.Outcome State Fault Refusal :=
  if s.powered && s.isHead && decide (s.loop.lastRetire + 10000000 ≤ s.now) then
    let known := ((s.loop.placed.map Prod.fst) ++ (s.loop.marks.map Prod.fst) ++ (s.loop.lastSent.map Prod.fst)).dedup
    let items := (known.map (fun p => (p, s.figures p))).filter (fun e =>
      (find? s.loop.lastSent e.1).getD (0, 0) != e.2)
    let s := s.modLoop (fun l => { l with
      lastRetire := s.now
      lastSent := items ++ l.lastSent.filter (fun e => !(items.any (fun i => i.1 == e.1))) })
    (each (groupsOf 20 (items.length / 20 + 1) items) (fun s g => s.sendRetire g) s).done
  else s.done

/-- RECORD_RESEND (R279): a member sends records again that no PLACED figure covers 100 ms after they were sent. -/
def execRecordResend (s : State) : Host.Outcome State Fault Refusal :=
  if s.powered && !s.isHead then
    let due := s.results.slots.filter (fun e => !e.2.placed && !e.2.retired && decide (e.2.sentAt + 100000000 ≤ s.now))
    (each (due.map Prod.fst).reverse (fun s i => s.deliverSlot i) s).done
  else s.done

/-! ### PARK_ALL (R271, R284) -/

/-- A member acts on the first copy of a PARK_ID within 10 ms. -/
def State.takeParkAll (s : State) (id : Nat) : State :=
  let fresh := s.loop.parkIds.filter (fun e => decide (s.now < e.2 + 10000000))
  if fresh.any (fun e => e.1 == id) then s
  else
    let s := s.modLoop (fun l => { l with parkIds := (id, s.now) :: fresh })
    s.abortSlice.haltNow.raise .parkAll none none (word id) 0 0

/-- PARK_ALL (R284): a head consumes the frame. -/
def execParkAll (p : Port) (f : Frame) (s : State) : Host.Outcome State Fault Refusal :=
  (s.arrive p 6 f (fun s =>
    if s.isHead then s else (s.takeParkAll (u f.payload 0 2)).forward p f f.hop)).done

/-! ### The census (R275, R280) -/

/-- The latency of every UP port is measured afresh (R280). -/
def State.measureLatency (s : State) : State :=
  each ([.a, .b] : List Port) (fun s p => s.modPort p (fun x =>
    if x.st = 2 then { x with pingSent := 0, pingN := 0, pingSum := 0, pingOut := [] } else x)) s

/-- Header of a CENSUS broadcast out of port B. -/
def censusFrame (info : Nat) (payload : List Byte) : Frame :=
  { ftype := 7, down := false, bcast := true, head := false, hop := 1022, dist := 0, lseq := 0, lack := 0, info := info,
    payload := payload }

/-- CENSUS is judged (R275); none where it completes later. With a break known on its way the PROBE meets it, and the
census completes NO_ROUTE (R287). -/
def State.censusCmd (s : State) (o : Origin) : State × Option Result :=
  let ok := s.st == .ready || s.inRun || s.st == .startupTest
  if !s.isHead || s.headNo || !ok then (s, some (Result.of .rejected))
  else if s.loop.census.isSome then (s, some (Result.of .busy))
  else if s.loop.b.st != 2 then (s, some (Result.of .noRoute))
  else
    let (v, s) := s.freeBits
    let gen := (s.loop.gen + 1 + v.toNat % 255) % 256
    let broken := s.loop.brkUp != 0
    let s := s.modLoop (fun l => { l with
      census := if broken then none else some (o, gen, s.now), censusSeen := [], censusN := none })
    let s := s.measureLatency.sendFrame .b true (censusFrame 0 (leBytes 1 gen ++ zeros 7))
    (s, if broken then some (Result.of .noRoute) else none)

/-- A module takes the position, n and TOPO of a census (R275, R277, R291). -/
def State.adopt (s : State) (gen position n : Nat) (topo : Bool) : State :=
  let s := s.modLoop (fun l => { l with
    position := position, valid := true, gen := gen, n := n, topo := topo
    a := { l.a with restricted := false }, b := { l.b with restricted := false } })
  ((s.serve .a).serve .b).tryReady

/-- With the PROBE complete and every reply in, the head broadcasts ASSIGN and the CENSUS completes. -/
def State.tryAssign (s : State) : State :=
  match s.loop.census, s.loop.censusN with
  | some (o, gen, start), some n =>
    let all := (List.range (n - 1)).all (fun i => s.loop.censusSeen.contains (i + 2))
    if all && decide (s.now ≤ start + 1000000 * s.fld Fld.loopTimeoutTimeoutMs) then
      let topo := s.loop.topo
      let s := s.modLoop (fun l => { l with census := none })
      let s := s.sendFrame .b true (censusFrame 2 (leBytes 1 gen ++ leBytes 1 (if topo then 1 else 0) ++ leBytes 2 n ++
        zeros 4))
      (s.adopt gen 1 n topo).replyLate o 0x10 (Result.val .ok n)
    else s
  | _, _ => s

/-- The 32 bytes of a REPLY. -/
def State.replyBytes (s : State) (gen : Nat) : List Byte :=
  let e := s.isHead && s.headNo
  leBytes 1 gen ++ leBytes 1 (flagAt s.isHead 0 + flagAt e 1) ++ zeros 2 ++ leBytes 2 s.loop.tentative ++ zeros 2 ++
    leBytes 4 0x48010256 ++ leBytes 4 (0xA1A1 + flagAt Config.orderingCode 16) ++ leBytes 8 Config.serial.toNat ++
    leBytes 1 (stateCode s.st) ++ zeros 3 ++ leBytes 2 s.loop.a.lat ++ leBytes 2 s.loop.b.lat

/-- A module takes a PROBE (R275): head 1 its own, any other module a tentative position. -/
def State.takeProbe (s : State) (p : Port) (f : Frame) : State :=
  let gen := u f.payload 0 1
  let dist := f.dist + 1
  if s.isHead && !s.headNo then
    match s.loop.census with
    | some (_, g, _) =>
      if g = gen ∧ p = .a then (s.modLoop (fun l => { l with censusN := some dist })).tryAssign else s
    | none => s
  else
    let s := s.modLoop (fun l => { l with tentative := dist + 1, tentGen := gen })
    let payload := s.replyBytes gen
    let s := s.measureLatency
    let q : Port := if s.loop.a.st = 2 then .a else .b
    let s := s.sendFrame q true
      { ftype := 7, down := q == .a, bcast := false, head := false, hop := 1023, dist := 0, lseq := 0, lack := 0, info := 1,
        payload := payload }
    if s.isHead then s else s.passOn p f

/-- PROBE (R275). -/
def execProbe (p : Port) (f : Frame) (s : State) : Host.Outcome State Fault Refusal :=
  (s.arrive p 7 f (fun s => if f.info % 4 = 0 then s.takeProbe p f else s)).done

/-- A head takes a REPLY (R275, R293, R340). -/
def State.takeReply (s : State) (l : List Byte) : State :=
  let pos := u l 4 2
  let s := s.notice 1 pos [] [] (l.take 32)
  match s.loop.census with
  | none => s
  | some (_, gen, start) =>
    if gen ≠ u l 0 1 then s
    else
      let fin := (u l 1 1).testBit 1
      (s.modLoop (fun x => { x with
        censusSeen := if x.censusSeen.contains pos then x.censusSeen else x.censusSeen ++ [pos]
        censusN := if fin then some pos else x.censusN
        rtt := Nat.min 0xFFFF ((s.now - start) / 1000) })).tryAssign

/-- REPLY (R275). -/
def execReply (p : Port) (f : Frame) (s : State) : Host.Outcome State Fault Refusal :=
  (s.arrive p 7 f (fun s =>
    if f.info % 4 ≠ 1 then s else if s.isHead then s.takeReply f.payload else s.transit p f id)).done

/-- A module takes ASSIGN: its GEN must be that of its PROBE. -/
def State.takeAssign (s : State) (p : Port) (f : Frame) : State :=
  let l := f.payload
  let gen := u l 0 1
  let first := s.isHead && !s.headNo
  let s := if !first && s.loop.tentative != 0 && s.loop.tentGen == gen then
      s.adopt gen s.loop.tentative (u l 2 2) ((u l 1 1).testBit 0)
    else s
  if s.isHead then s else s.passOn p f

/-- ASSIGN (R275). -/
def execAssign (p : Port) (f : Frame) (s : State) : Host.Outcome State Fault Refusal :=
  (s.arrive p 7 f (fun s => if f.info % 4 = 2 then s.takeAssign p f else s)).done

/-- CENSUS_TIMEOUT (R275): the replies are not complete, or the PROBE has not completed. -/
def execCensusTimeout (s : State) : Host.Outcome State Fault Refusal :=
  match s.loop.census with
  | some (o, _, start) =>
    if start + 1000000 * s.fld Fld.loopTimeoutTimeoutMs < s.now then
      let st : Status := if s.loop.censusN.isSome then .timeout else .noRoute
      ((s.modLoop (fun l => { l with census := none })).replyLate o 0x10 (Result.of st)).done
    else s.done
  | none => s.done

/-! ### Silence (R24, R282) -/

/-- Neither port has received a valid frame for LOOP_TIMEOUT, and on a head the host has been away as long. -/
def State.loopSilent (s : State) : Bool :=
  let t := 1000000 * s.fld Fld.loopTimeoutTimeoutMs
  let past (a : Nat) : Bool := decide (a + t ≤ s.now)
  (s.loop.a.everUp || s.loop.b.everUp) && past s.loop.a.heard && past s.loop.b.heard &&
    (!s.isHead || (match s.host.lostAt with
      | some a => past a
      | none => false))

/-- HALT is entered at this tick by an event that goes before the loop timeout (R25): it has been taken, or waits. -/
def State.haltMeets (s : State) : Bool :=
  (s.st == .halt && s.glb.enteredAt == s.now && (s.glb.prev == .ready || s.glb.prev == .run)) ||
    ((s.st == .ready || s.inRun) && s.coming (fun i => match i with
      | .estopNLow ns => decide (50 ≤ ns)
      | .halt _ => true
      | _ => false))

/-- ORPHAN (R282). Supervision is suspended in DRYDOWN and before a port was UP. Where HALT is entered at the same tick
the loop loss is recorded as a fault (R25). -/
def execOrphan (s : State) : Host.Outcome State Fault Refusal :=
  if !s.powered || s.st == .drydown || !s.loopSilent then s.done
  else
    let meets := s.haltMeets
    let s := s.modLoop (fun l => { l with silent := true })
    if meets then (s.raise .orphan none none 0 0 0).done
    else if s.st == .ready || s.inRun then
      let s := if s.inRun then s.leaveRun else s.leaveOpenAll
      let s := (s.orphanRamp (Nat.min (s.fld Fld.loopOrphanCfgRamp) (s.fld Fld.spcRampLimitRate))).abortSlice
      let s := (s.enter .orphan).powerActive
      ((s.modLoop (fun l => { l with orphanSent := false })).raise .orphan none none 0 0 0).done
    else s.done

/-- ORPHAN_PARK (R247, R282): the ramp has ended. -/
def execOrphanPark (s : State) : Host.Outcome State Fault Refusal :=
  if s.st == .orphan && !s.loop.orphanSent && !(s.spc.orphanRamp && s.spc.ramping) then
    ((s.modLoop (fun l => { l with orphanSent := true })).parkSymbol true).done
  else s.done

/-! ### Wake symbols (R233, R283) -/

/-- WAKE_SYMBOL (R283). -/
def execWakeSymbol (p : Port) (s : State) : Host.Outcome State Fault Refusal :=
  if !s.powered then s.done
  else
    let s := if s.isHead then (s.modLoop (fun l => { l with wakeSeen := true })).notice 3 0 [] [] []
      else match s.loop.lastWakeFwd with
        | some t =>
          if s.now < t + 1000000 then s
          else (s.modLoop (fun l => { l with lastWakeFwd := some s.now })).emit (.wakeSymbol (otherPort p) wakeLine)
        | none => (s.modLoop (fun l => { l with lastWakeFwd := some s.now })).emit (.wakeSymbol (otherPort p) wakeLine)
    s.wokenBySymbol.done

end Sys2Proof.Machine
end

