-- ==== Sys2Proof/Machine/TimeRows.lean ====
section
/-!
DEFINITION. Line time at heads and members (chapter 10, R297 to R303): sources, the servo, steps and slews, holdover.
-/

namespace Sys2Proof.Machine

/-! ### Steps (R302) -/

/-- Time stamps of timers that run in the module's own time, moved by a step of line time so that the step ends no
timer early or late (log 25). -/
def shift (d : Int) (t : Nat) : Nat := ((t : Int) + d).toNat

def PortSt.shifted (x : PortSt) (d : Int) : PortSt :=
  { x with
    lastValid := shift d x.lastValid, heard := shift d x.heard, ackAt := shift d x.ackAt, lastStart := shift d x.lastStart
    tx := x.tx.map (fun t => { t with start := shift d t.start, ends := shift d t.ends })
    pingOut := x.pingOut.map (fun e => (e.1, shift d e.2)), pongDue := x.pongDue.map (fun e => (e.1, shift d e.2))
    resend := x.resend.map (fun (h : TxFrame) => { h with since := shift d h.since })
    held := x.held.map (fun (h : TxFrame) => { h with since := shift d h.since })
    queue := x.queue.map (fun (h : TxFrame) => { h with since := shift d h.since, rx := shift (8 * d) h.rx }) }

def Dir.shifted {α : Type} (x : Dir α) (d : Int) : Dir α := { x with ackAt := shift d x.ackAt }

def State.shiftTimers (s : State) (d : Int) : State :=
  let two (e : Nat × Nat) : Nat × Nat := (e.1, shift d e.2)
  let s := s.modLoop (fun l => { l with
    a := l.a.shifted d, b := l.b.shifted d, parkIds := l.parkIds.map two
    seenBcast := l.seenBcast.map (fun e => (e.1, e.2.1, shift d e.2.2)), lastRetire := shift d l.lastRetire
    lastWakeFwd := l.lastWakeFwd.map (shift d), census := l.census.map (fun e => (e.1, e.2.1, shift d e.2.2)) })
  let s := s.setLinks (s.links.map (fun l => { l with
    down := l.down.shifted d, up := l.up.shifted d, trainFrom := shift d l.trainFrom
    lastUplink := shift d l.lastUplink, lastDownlink := shift d l.lastDownlink }))
  let s := s.setSegs (s.segs.map (fun x => { x with
    keeper := { x.keeper with lastBeat := shift d x.keeper.lastBeat }, feedRestoreAt := x.feedRestoreAt.map (shift d) }))
  let s := s.modHost (fun h => { h with
    lostAt := h.lostAt.map (shift d), closed := h.closed.map two, sentBcast := h.sentBcast.map two
    outstanding := h.outstanding.map (fun o => { o with sentAt := o.sentAt.map (shift d) })
    cpl := { h.cpl with firstAt := shift d h.cpl.firstAt }
    res := h.res.map (fun r => { r with firstAt := shift d r.firstAt }) })
  let s := s.modGlb (fun g => { g with
    resetAt := g.resetAt.map (fun e => (shift d e.1, e.2)), feedAt := shift d g.feedAt
    recoveryResetAt := g.recoveryResetAt.map (shift d) })
  let s := s.modPwr (fun p => { p with lastCmd := shift d p.lastCmd, exitFrom := p.exitFrom.map (shift d) })
  let s := s.modTu (fun t => { t with
    candA := t.candA.map (fun e => (shift d e.1, e.2)), candB := t.candB.map (fun e => (shift d e.1, e.2))
    lastSource := shift d t.lastSource, slewEnd := t.slewEnd.map (shift d), holdFrom := t.holdFrom.map (shift d), lockMark := t.lockMark.map (shift d) })
  let s := s.modSpc (fun x => { x with
    lastValid := shift d x.lastValid, acceptedAt := shift d x.acceptedAt, answeredAt := shift d x.answeredAt
    rampFrom := x.rampFrom.map (shift d), dwellFrom := x.dwellFrom.map (shift d), shedFrom := x.shedFrom.map (shift d)
    dOverFrom := x.dOverFrom.map (shift d), toggle := x.toggle.map (shift d), retryAt := x.retryAt.map (shift d)
    vOverFrom := x.vOverFrom.map (shift d), vUnderFrom := x.vUnderFrom.map (shift d)
    stepFreeAt := shift d x.stepFreeAt
    phases := x.phases.map (fun p => { p with
      addedAt := p.addedAt.map (shift d), handAt := p.handAt.map (shift d), shedAt := p.shedAt.map (shift d)
      switchedAt := p.switchedAt.map (shift d), onAt := p.onAt.map (shift d) }) })
  let s := s.modTherm (fun h => { h with
    lastModel := shift d h.lastModel, coolSince := h.coolSince.map (shift d), slowBusy := h.slowBusy.map (shift d) })
  let s := s.modBist (fun b => { b with
    lastStart := shift d b.lastStart, waitFrom := shift d b.waitFrom, relFrom := shift d b.relFrom
    running := b.running.map (fun e => (e.1, shift d e.2)) })
  let s := s.setMeas (s.meas.map (fun m => { m with lastCheck := shift d m.lastCheck }))
  let s := s.modFlt (fun f => { f with intakeAt := shift d f.intakeAt })
  s.modRes (fun a => { a with slots := a.slots.map (fun e => (e.1, { e.2 with sentAt := shift d e.2.sentAt })) })

/-- A step is permitted, apart from its threshold. -/
def State.stepPermitted (s : State) : Bool :=
  s.flag Fld.timeCtrlStepEn && !s.inRun && s.acc.st != .prepared

/-- Line time of the ticks: the first multiple of 4 at or after a time (R5, R6; log 106). -/
def onGrid (t : Nat) : Nat := (t + 3) / 4 * 4 % 2 ^ 64

/-- Line time is set at one tick, on the grid of the ticks. -/
def State.setTime (s : State) (t : Nat) : State :=
  let t := onGrid t
  let s := s.shiftTimers ((t : Int) - s.now)
  (s.setNow t).modTu (fun x => { x with stepped := true, steppedAt := some t })

/-- A slew is in progress. -/
def TimeUnit.slews (t : TimeUnit) (now : Nat) : Bool :=
  t.slewing && (match t.slewEnd with
    | some e => decide (now < e)
    | none => true)

/-- A slew by `off` (0.1 ns) in place of a step: the fault is raised as it begins, and at SLEW_PPM it takes
|off| / SLEW_PPM. -/
def State.beginSlew (s : State) (off : Int) : State :=
  let ppm := s.fld Fld.timeCtrlSlewPpm
  let go (s : State) : State := s.modTu (fun t => { t with
    slewing := true, slewEnd := if ppm = 0 then none else some (s.now + off.natAbs * 100000 / ppm) })
  if s.tu.slews s.now then go s else (go s).raise .slew none none (wordI (satSigned 32 off)) 0 0

/-! ### The servo (R301) -/

/-- Largest trim that SLEW_PPM permits, in ppb. -/
def State.slewLimit (s : State) : Int := 1000 * s.fld Fld.timeCtrlSlewPpm

/-- The trim in force in LOCKED is counted up to now. -/
def TimeUnit.countTrim (t : TimeUnit) (now : Nat) : TimeUnit :=
  match t.lockMark with
  | some a => { t with trims := (now - a, t.trim) :: t.trims, lockMark := some now }
  | none => t

/-- Mean of the last 10 s in LOCKED; the trim itself if the unit was never LOCKED. -/
def meanTrim (trim : Int) (l : List (Nat × Int)) : Int :=
  let add (t : Nat × Int × Nat) (e : Nat × Int) : Nat × Int × Nat :=
    let d := Nat.min e.1 (10000000000 - t.1)
    (t.1 + d, t.2.1 + d * e.2, t.2.2 + 1)
  let r := l.foldl add (0, 0, 0)
  if r.1 = 0 then trim else divI r.2.1 r.1

/-- Lock state after an offset in 0.1 ns. -/
def State.judgeLock (s : State) (off : Int) (fresh : Bool) : State :=
  let small := decide (off.natAbs ≤ 200)
  let large := decide (1000 < off.natAbs)
  s.modTu (fun t =>
    let t := t.countTrim s.now
    let t := { t with good := if small then t.good + 1 else 0, bad := if large then t.bad + 1 else 0 }
    if fresh then
      { t with st := 1, good := if small then 1 else 0, bad := 0, lockMark := none, holdFrom := none
               limitRaised := false }
    else if t.st = 1 ∧ 16 ≤ t.good then { t with st := 2, bad := 0, lockMark := some s.now }
    else if t.st = 2 ∧ 4 ≤ t.bad then { t with st := 1, good := 0, lockMark := none }
    else t)

/-- An offset of the followed source, in 0.1 ns (R301, R302). -/
def State.takeOffset (s : State) (off : Int) : State :=
  let fresh := s.tu.st == 0 || s.tu.st == 3
  let s := s.modTu (fun t => { t with offset := satSigned 32 off })
  let far := decide (10000 * s.fld Fld.timeCtrlStepUs < off.natAbs)
  let lim := s.slewLimit
  if far && s.stepPermitted then
    let s := s.judgeLock 10000 fresh
    let s := s.modTu (fun t => { t with slewing := false, good := 0, bad := 0 })
    s.setTime (((s.now : Int) + divI off 10) % 2 ^ 64).toNat
  else
    let s := s.judgeLock off fresh
    if far then
      (s.beginSlew off).modTu (fun t => { t with trim := if 0 < off then lim else -lim })
    else
      s.modTu (fun t => { t with slewing := false, trim := clampInt (-lim) lim (Config.servoTrim t.trim off) })

/-! ### Sources of a member (R299, R300) -/

/-- SRC_SEL lets a port be a candidate. -/
def State.portAllowed (s : State) (p : Port) : Bool :=
  match s.fld Fld.timeCtrlSrcSel with
  | 1 => p == .a
  | 2 => p == .b
  | _ => true

def TimeUnit.cand (t : TimeUnit) : Port → Option (Nat × Nat × Bool × Bool)
  | .a => t.candA
  | .b => t.candB

def TimeUnit.setCand (t : TimeUnit) (p : Port) (c : Option (Nat × Nat × Bool × Bool)) : TimeUnit :=
  match p with
  | .a => { t with candA := c }
  | .b => { t with candB := c }

/-- A port is a candidate source now. -/
def State.candidate (s : State) (p : Port) : Option (Nat × Nat × Bool × Bool) :=
  match s.tu.cand p with
  | some c => if s.portAllowed p && decide (s.now < c.1 + 3000000) then some c else none
  | none => none

/-- The candidate at p is better than the other one. -/
def State.betterSource (s : State) (p : Port) : Bool :=
  match s.candidate p, s.candidate (otherPort p) with
  | some (_, h, hold, _), some (_, h', hold', _) =>
    if hold != hold' then hold' else if h = h' then p == .a else decide (h < h')
  | some _, none => true
  | none, _ => false

def srcCode (p : Port) : Nat := portNo p + 1

/-- The source that a member follows, after a frame on port p. -/
def State.chooseSource (s : State) (p : Port) : State :=
  let here := srcCode p
  let set (s : State) : State := s.modTu (fun t => { t with src := here, better := 0 })
  if s.tu.src = here then s.modTu (fun t => { t with better := if s.betterSource p then 0 else t.better })
  else
    let q := otherPort p
    let present := s.tu.src == srcCode q && (s.candidate q).isSome
    if !present then set s
    else if s.betterSource p then
      if 16 ≤ s.tu.better + 1 then set s else s.modTu (fun t => { t with better := t.better + 1 })
    else s.modTu (fun t => { t with better := 0 })

/-- A member takes a TIME frame whose K27.7 was stamped at `rx` in units of 0.125 ns (R299, R300). -/
def State.takeTime (s : State) (p : Port) (f : Frame) (rx : Nat) : State :=
  let l := f.payload
  let lat := (s.port p).lat
  let off : Int := 10 * (u l 0 8 : Int) + (u l 8 4 : Int) + lat - divI (10 * (rx : Int)) 8
  let hold := (u l 14 2).testBit 0
  let s := s.modTu (fun t => t.setCand p (some (s.now, f.dist + 1, hold, f.head)))
  if !s.flag Fld.timeCtrlFollow || !s.portAllowed p then s
  else
    let s := (s.modTu (fun t => { t with lastSource := s.now })).chooseSource p
    if s.tu.src ≠ srcCode p then s
    else
      (s.modTu (fun t => { t with hops := f.dist + 1, srcHoldover := hold, srcHead := f.head })).takeOffset off

/-- A member passes a TIME frame on: CORR grows by the incoming link's latency here, and by the residence time when its
K27.7 leaves (R280). -/
def State.passTime (s : State) (p : Port) (f : Frame) (rx : Nat) : State :=
  let corr := (u f.payload 8 4 + (s.port p).lat) % 2 ^ 32
  s.relay p { f with payload := splice f.payload 8 (leBytes 4 corr) } f.hop rx

/-- TIME (R299): a head consumes the frame unread. -/
def execTime (p : Port) (f : Frame) (rx : Nat) (s : State) : Host.Outcome State Fault Refusal :=
  (s.arrive p 4 f (fun s => if s.isHead then s else (s.passTime p f rx).takeTime p f rx)).done

/-- The followed source is gone: the other candidate, or none. -/
def State.dropSource (s : State) (p : Port) : State :=
  let s := s.modTu (fun t => t.setCand p none)
  if s.tu.src ≠ srcCode p then s
  else
    let q := otherPort p
    match s.candidate q with
    | some (_, h, hold, head) => s.modTu (fun t => { t with
        src := srcCode q, better := 0, hops := h, srcHoldover := hold, srcHead := head })
    | none => s.modTu (fun t => { t with src := 0, better := 0 })

/-- SOURCE_LOST (R300): 3 ms without a TIME frame on a port. -/
def execSourceLost (p : Port) (s : State) : Host.Outcome State Fault Refusal :=
  match s.tu.cand p with
  | some c => if s.powered && !s.isHead && decide (c.1 + 3000000 ≤ s.now) then (s.dropSource p).done else s.done
  | none => s.done

/-! ### A head (R297, R298) -/

/-- The head follows PTM. -/
def State.followsPtm (s : State) : Bool := s.isHead && s.flag Fld.timePtmCfgPtmEn && s.flag Fld.timeCtrlFollow

/-- PTM_DIALOGUE (R297): `master` is the master time referred to the tick at which the request left. -/
def execPtmDialogue (ok : Bool) (master : Nat) (s : State) : Host.Outcome State Fault Refusal :=
  if !s.powered || !s.followsPtm then s.done
  else if !ok then (s.modTu (fun t => { t with ptmValid := false })).done
  else
    let s := s.modTu (fun t => { t with
      ptmValid := true, lastSource := s.now, src := 3, hops := 0, srcHoldover := false, srcHead := false })
    (s.takeOffset (10 * ((master : Int) - s.now))).done

/-- TIME_FRAME_TX (R298): at a whole millisecond, a TIME frame out of each UP port of a head. -/
def execTimeFrameTx (s : State) : Host.Outcome State Fault Refusal :=
  if !s.powered || !s.isHead || !s.flag Fld.timeCtrlTxEn || s.now % 1000000 != 0 then s.done
  else
    let flags := flagAt (s.tu.st == 0 || s.tu.st == 3) 0 + flagAt (match s.tu.steppedAt with
      | some t => decide (s.now < t + 1000000000)
      | none => false) 1
    let send (s : State) (p : Port) : State :=
      if (s.port p).st != 2 then s
      else
        let n := (match p with
          | .a => s.loop.tseqA
          | .b => s.loop.tseqB) + 1
        let s := s.modLoop (fun l => match p with
          | .a => { l with tseqA := n % 65536 }
          | .b => { l with tseqB := n % 65536 })
        s.sendFrame p true
          { ftype := 4, down := p == .a, bcast := false, head := s.headNo, hop := 0, dist := 0, lseq := 0, lack := 0,
            info := 0, payload := leBytes 8 s.now ++ leBytes 4 0 ++ leBytes 2 n ++ leBytes 2 flags }
    (each ([.a, .b] : List Port) send s).done

/-! ### Holdover (R301) -/

/-- Time without a source after which HOLDOVER is entered. -/
def State.sourceTimeout (s : State) : Nat :=
  if s.isHead then 1000000 * s.fld Fld.timePtmCfgLossMs else 5000000

/-- HOLDOVER (R301). -/
def execHoldover (s : State) : Host.Outcome State Fault Refusal :=
  let follows := if s.isHead then s.followsPtm else s.flag Fld.timeCtrlFollow
  if s.powered && follows && (s.tu.st == 1 || s.tu.st == 2) && decide (s.tu.lastSource + s.sourceTimeout ≤ s.now) then
    let s := s.modTu (fun t =>
      let t := t.countTrim s.now
      { t with st := 3, src := 0, holdFrom := some s.now, limitRaised := false, lockMark := none, slewing := false
               trim := meanTrim t.trim t.trims })
    (s.raise .holdover none none 0 0 0).done
  else s.done

/-- HOLDOVER_LIMIT (R301): once per episode. -/
def execHoldoverLimit (s : State) : Host.Outcome State Fault Refusal :=
  match s.tu.holdFrom with
  | some t =>
    if s.powered && s.tu.st == 3 && !s.tu.limitRaised && decide (t + 1000000000 * s.fld Fld.timeHoldoverLimitS < s.now) then
      ((s.modTu (fun x => { x with limitRaised := true })).raise .holdoverLimit none none
        (word (Nat.min 0xFFFF ((s.now - t) / 1000000000))) 0 0).done
    else s.done
  | none => s.done

/-- FOLLOW is written 0: FREE (R301). -/
def State.followOff (s : State) : State :=
  s.modTu (fun t => { t with
    st := 0, src := 0, slewing := false, holdFrom := none, limitRaised := false, lockMark := none, good := 0, bad := 0
    better := 0 })

end Sys2Proof.Machine
end

