-- ==== Sys2Proof/Machine/HostRows.lean ====
section
/-!
DEFINITION. The host port of a head (chapter 11): enabling, doorbells, retirement, timeouts, interrupts, resets and
the PCI Express link; and reading a result directly (R343, R344).
-/

namespace Sys2Proof.Machine

/-! ### Placing what waits (R339, R342) -/

/-- Notices that wait are placed, with the time of their placing (R340), while their ring has room; at most n. -/
def State.flushNotices : Nat → State → State
  | 0, s => s
  | n + 1, s =>
    match s.host.heldNotices with
    | [] => s
    | b :: t =>
      match s.placeEntry (Fin.ofNat 4 (s.fld Fld.hostCtrlNoticeRing)) (splice b 8 (leBytes 8 s.now)) .plain with
      | some s => State.flushNotices n (s.modHost (fun h => { h with heldNotices := t }))
      | none => s

/-- A head's own records that are not placed, and waiting notices, are placed where rings have room. -/
def State.placeWaiting (s : State) : State :=
  if !s.isHead then s
  else
    let own := (s.results.slots.filter (fun e => !e.2.placed && !e.2.retired)).map Prod.fst
    let s := each own.reverse (fun s i => s.deliverSlot i) s
    State.flushNotices s.host.heldNotices.length s

/-! ### Enabling (R325, R346, R347) -/

/-- A power of two from 64 to 4096. -/
def ringSizeOk (n : Nat) : Bool := [64, 128, 256, 512, 1024, 2048, 4096].contains n

def State.resSizeReg (s : State) (n : Nat) : Nat := s.fld (Fld.hostResSizeEntries n)

/-- ERROR is left: RESET_RINGS has been written and HOST_ERR cleared (R326). -/
def HostPort.cleared (h : HostPort) : Bool := h.st != 2 || (h.ringsReset && h.err &&& 0x07F == 0)

/-- EN is written 1 while it is 0: bases and sizes are latched, or the write is refused. Bases cannot be misaligned,
since bits [11:0] of HOST_*_BASE_LO are read-only zeros. -/
def State.enableHost (s : State) : State :=
  let cmd := s.fld Fld.hostCmdSizeEntries
  let cpl := s.fld Fld.hostCplSizeEntries
  let sizes := (List.range 4).map s.resSizeReg
  if ringSizeOk cmd && ringSizeOk cpl && sizes.all (fun n => n == 0 || ringSizeOk n) && s.host.busMaster then
    let s := s.setFld Fld.hostCtrlEn 1
    (s.modHost (fun h => { h with
      st := if h.cleared then 1 else 2, cmdSize := cmd, cpl := { h.cpl with size := cpl }
      res := h.res.mapIdx (fun n r => { r with size := (sizes[n]?).getD 0 }) })).placeWaiting
  else (s.setFld Fld.hostCtrlEn 0).hostErr 0x001

/-- EN is written 0: fetching and placing stop; ERROR stands until it is left by the whole sequence of R326. -/
def State.disableHost (s : State) : State :=
  (s.setFld Fld.hostCtrlEn 0).modHost (fun h => { h with st := if h.st = 2 then 2 else 0 })

/-! ### Doorbells (R326, R341, R346) -/

/-- A doorbell wakes a head from DOZE (R218, R346). -/
def State.doorbell (s : State) : State :=
  if s.st == .ready && s.pwr.st == .doze then s.stopEntry.setPower .active else s

/-- A failed check: the error bit and state ERROR. -/
def State.doorbellError (s : State) (bits : BitVec 10) : State := (s.hostErr bits).hostError

def State.hostPowered (s : State) : Bool := s.powered && s.isHead

/-- Counts are free-running 16-bit numbers. -/
def ahead (a b : Nat) : Nat := (a + 65536 - b) % 65536

/-- DB_CMD_TAIL (R326). -/
def execDbCmdTail (value : BitVec 16) (s : State) : Host.Outcome State Fault Refusal :=
  if !s.hostPowered then s.done
  else
    let s := s.doorbell
    let h := s.host
    if ahead value.toNat h.cmdTail ≤ h.cmdSize ∧ ahead value.toNat h.cmdHead ≤ h.cmdSize then
      (s.modHost (fun h => { h with cmdTail := value.toNat })).done
    else (s.doorbellError 0x002).done

/-- DB_CPL_HEAD (R326). -/
def execDbCplHead (value : BitVec 16) (s : State) : Host.Outcome State Fault Refusal :=
  if !s.hostPowered then s.done
  else
    let s := s.doorbell
    let r := s.host.cpl
    if ahead value.toNat r.cons ≤ r.held then
      (s.modHost (fun h => { h with cpl := { h.cpl with cons := value.toNat } })).done
    else (s.doorbellError 0x004).done

/-- An entry that the host has passed is retired (R341). -/
def State.retire (s : State) (e : Placed) : State :=
  match e with
  | .own seq => s.modRes (fun a => { a with
      slots := a.slots.map (fun x => (x.1, if x.2.record.seq = seq then { x.2 with retired := true } else x.2)) })
  | .other p seq => s.modLoop (fun l => { l with retired := (p, seq) :: l.retired })
  | .plain => s

/-- DB_RES_HEAD (R326, R341). -/
def execDbResHead (ring : Fin 4) (value : BitVec 16) (s : State) : Host.Outcome State Fault Refusal :=
  if !s.hostPowered then s.done
  else
    let s := s.doorbell
    let r := s.host.res.get ring
    let n := ahead value.toNat r.cons
    if n ≤ r.held then
      let s := each (r.entries.take n) State.retire s
      let s := s.modHost (fun h => { h with
        res := h.res.modify ring (fun r => { r with cons := value.toNat, entries := r.entries.drop n }) })
      s.endEpisode.placeWaiting.done
    else
      let s := s.modHost (fun h => { h with err := (h.err &&& 0x0FF) ||| BitVec.ofNat 10 (256 * ring.val) })
      (s.doorbellError 0x008).done

/-! ### Timeouts and interrupts (R336, R345) -/

/-- The RSP of a tag arrives at this tick: the completion wins over the timeout (R346). -/
def State.rspComing (s : State) (tag : Nat) : Bool := s.coming (fun i => match i with
  | .rsp _ f => u f.payload 0 2 % 1024 == tag && f.head == s.headNo
  | _ => false)

/-- CMD_TIMEOUT (R336). -/
def execCmdTimeout (tag : Nat) (s : State) : Host.Outcome State Fault Refusal :=
  match s.host.outstanding.find? (fun o => o.tag == tag) with
  | none => s.done
  | some o =>
    match o.sentAt with
    | none => s.done
    | some t =>
      if s.hostPowered && decide (t + 1000000 * s.fld Fld.hostCtrlCmdTimeoutMs ≤ s.now) &&
          !s.host.heldCpl.any (fun c => c.tag == tag) && !s.rspComing tag then
        let s := s.completeTag tag o.position (Result.of .timeout) 0x10 ⟨0, 0, 0, 0⟩
        let s := s.modHost (fun h => { h with closed := (tag, s.now) :: h.closed })
        (s.raise .cmdTimeout none none (word tag) (word o.position) 0).done
      else s.done

/-- COALESCE_TIMEOUT (R345): rings 0 to 3 are the result rings, 4 the completion ring. -/
def execCoalesceTimeout (ring : Fin 5) (s : State) : Host.Outcome State Fault Refusal :=
  let us := s.fld Fld.hostCoalesceTimeUs
  let due (r : Ring) : Bool := s.hostPowered && r.unsignalled != 0 && us != 0 && decide (r.firstAt + 1000 * us ≤ s.now)
  if ring.val = 4 then
    if due s.host.cpl then
      ((s.modHost (fun h => { h with cpl := { h.cpl with unsignalled := 0 } })).msix (s.fld Fld.hostMsixMapCplVec)).done
    else s.done
  else
    let n : Fin 4 := Fin.ofNat 4 ring.val
    if due (s.host.res.get n) then
      ((s.modHost (fun h => { h with res := h.res.modify n (fun r => { r with unsignalled := 0 }) })).msix
        (s.resVector n)).done
    else s.done

/-! ### Resets and the PCI Express link (R323, R348, R385) -/

/-- The host link is away since now (R282). -/
def State.hostAway (s : State) : State :=
  s.modHost (fun h => { h with lostAt := h.lostAt.orElse (fun _ => some s.now) })

/-- HOST_RESET (R323): PERST_N low, or a function level reset; the function is to be enumerated again (log 26). -/
def execHostReset (flr : Bool) (s : State) : Host.Outcome State Fault Refusal :=
  if !s.hostPowered then s.done
  else
    let up := s.host.linkUp
    let s := s.hostDomainReset.modHost (fun h => { h with busMaster := false, msixEn := false })
    if flr then s.done
    else
      let s := ((s.setPins { s.pins with perstN := false }).modHost (fun h => { h with linkUp := false })).hostAway
      (if up then s.raise .pcieLinkDown none none 0 0 0 else s).done

/-- PCIE_LINK_DOWN (R385). -/
def execPcieLinkDown (s : State) : Host.Outcome State Fault Refusal :=
  if s.hostPowered && s.host.linkUp then
    ((s.modHost (fun h => { h with linkUp := false })).hostAway.raise .pcieLinkDown none none 0 0 0).done
  else s.done

/-- PCIE_LINK_UP (R282, R348, R447): the host has brought the link up with PERST_N high and enumerated the function,
bus mastering and MSI-X enabled (log 26). -/
def execPcieLinkUp (s : State) : Host.Outcome State Fault Refusal :=
  if !s.hostPowered then s.done
  else
    let s := s.modHost (fun h => { h with linkUp := true, lostAt := none, busMaster := true, msixEn := true })
    let s := s.setPins { s.pins with perstN := true }
    (s.modLoop (fun l => { l with silent := false })).tryReady.done

/-! ### RESULT_FETCH (R343, R344) -/

/-- Mode FETCH. -/
def State.fetchResult (s : State) (slot gen : Nat) : Result × State :=
  match find? s.results.slots slot with
  | none => (Result.val (if gen ≤ 1 then .notReady else .rejected) 0, s)
  | some x =>
    let g := x.record.gen
    if gen = g ∨ gen = 0 then
      (⟨.ok, g, recordBytes x.record x.reads false⟩, s.modSlot slot (fun x => { x with reads := satAdd 255 x.reads 1 }))
    else if gen = g % 65535 + 1 then (Result.val .notReady g, s)
    else (Result.val .rejected g, s)

/-- Mode MARKS: only at a head, with POSITION 0. -/
def State.takeMarks (s : State) (o : Origin) (items : List (Nat × Nat × Nat)) : Result × State :=
  let here := match o with
    | .ring tag => match s.host.outstanding.find? (fun x => x.tag == tag) with
      | some x => x.position == 0
      | none => true
    | .loop _ _ _ | .bar0 | .bcast => false
  if s.isHead && here then
    (Result.of .ok, each items (fun s e => s.modLoop (fun l => { l with marks := assign l.marks e.1 e.2 })) s)
  else (Result.of .rejected, s)

end Sys2Proof.Machine
end

