-- ==== Sys2Proof/Machine/SelfTest.lean ====
section
/-!
DEFINITION. The test engine's rounds, BIST_RUN, releases, the start-up full test, the slow round (R359, R415 to R423,
R515), and the scans of the check unit (R425 to R429).
-/

namespace Sys2Proof.Machine

/-! ### Events of the same tick (R25) -/

/-- A sensor at 150 °C is reported at this tick. -/
def State.shutdownComing (s : State) : Bool := s.coming (fun i => match i with
  | .shutdown n => s.at150 n.val
  | _ => false)

/-- A reset is applied at this tick. -/
def State.resetComing (s : State) : Bool := s.coming (fun i => match i with
  | .resetApply => (match s.glb.resetAt with
    | some t => decide (t.1 ≤ s.now)
    | none => false)
  | _ => false)

/-- HALT is entered, ESTOP_N or PH_FLT_N goes low, or a fault of class HALT is raised, at this tick. -/
def State.haltComing (s : State) : Bool := s.coming (fun i => match i with
  | .estopNLow ns | .phFltNLow ns => decide (50 ≤ ns)
  | .halt _ | .haltDecision => true
  | .haltRequest g => s.linkUp g && (s.links.get g).haltReq
  | .faultEntry x _ _ _ _ _ => s.classNow x == .halt
  | _ => false)

/-- An event that goes before a STOP, a RUN or staged writes of the same tick (R25, R313): the status with which the
state that it leads to answers commands (R23). -/
def State.overtaken (s : State) : Option Status :=
  if s.shutdownComing then some .tempInhibit
  else if s.resetComing then some .busy
  else if s.haltComing || s.coming (fun i => i == .orphan && s.loopSilent && (s.st == .ready || s.inRun)) then
    some .rejected
  else none

/-! ### Slow rounds (R359) -/

/-- A slow round is due and no rerun comes before it (R421). -/
def State.slowRoundDue (s : State) : Bool :=
  s.bist.slowDue && s.bist.rerunQueue.isEmpty && s.bist.runKind != .rerun

/-- The slow round judges each channel; while slice 62 stands failed every channel is out of limits (R420). -/
def State.endSlow (s : State) (channels : List HouseChannel) : State :=
  let s := s.modTherm (fun h => { h with slowBusy := none })
  let all := s.sliceFailed 62
  let s := each (channels.filter (fun c => all || decide (2 ≤ c.outside))) (fun s c =>
    s.raise .housekeeping none none (word c.channel) c.mean 0) s
  if s.bist.cmdAll && s.bist.queue.isEmpty && !s.bist.slowDue then s.finishBistRun else s

/-- SLOW_ROUND_END (R359). -/
def execSlowRoundEnd (channels : List HouseChannel) (s : State) : Host.Outcome State Fault Refusal :=
  match s.therm.slowBusy with
  | some t => if t + 1000000000 ≤ s.now then (s.endSlow channels).done else s.done
  | none => s.done

/-! ### BIST_RUN and releases (R421, R423, R515) -/

/-- BIST_RUN is judged; it completes when its slices have run. -/
def State.bistCmd (s : State) (o : Origin) (n : Option Slice) : State × Option Result :=
  match s.st with
  | .ready | .run | .halt | .orphan =>
    if s.bist.cmdOrigin.isSome then (s, some (Result.of .busy))
    else
      let l := match n with
        | some n => [n]
        | none => s.enabledSlices
      let s := s.modBist (fun b => { b with
        cmdOrigin := some o, cmdAll := n.isNone, cmdPassed := 0, cmdFailed := 0, cmdAborted := 0, cmdFirst := none
        queue := l, mode := .command, reruns := 0, waitFrom := s.now })
      (s.nextSlice, none)
  | .off | .boot | .startupTest | .drydown | .dormant | .shutdownLatched => (s, some (Result.of .rejected))

/-- A release is judged (R33) and RELEASE_PARK completes. -/
def State.finishRelease (s : State) : State :=
  match s.bist.relOrigin with
  | none => s
  | some o =>
    let (n, s) := s.judgeRelease s.bist.relCells
    let s := s.modBist (fun b => { b with relOrigin := none, relCells := 0, relQueue := [] })
    s.replyLate o 0x53 (Result.val (if n = 0 then .ok else .rejected) n)

/-- RELEASE_PARK: it first runs the slices of R421. -/
def State.releaseCmd (s : State) (o : Origin) (cells : BitVec 256) : State × Option Result :=
  if s.st != .ready && !s.inRun then (s, some (Result.of .rejected))
  else if s.bist.relOrigin.isSome then (s, some (Result.of .busy))
  else
    let l := s.releaseSlices cells
    if l.isEmpty then
      let (n, s) := s.judgeRelease cells
      (s, some (Result.val (if n = 0 then .ok else .rejected) n))
    else
      let s := s.modBist (fun b => { b with
        relOrigin := some o, relCells := cells, relQueue := l, relFrom := s.now, reruns := 0 })
      (s.nextSlice, none)

/-- A slice of the release is still running. -/
def State.releaseRuns (s : State) : Bool := s.bist.running.isSome && s.bist.runKind == .release

/-- RELEASE_JUDGED (R515): the slices have ended, or one could not be started within 1 s. -/
def execReleaseJudged (s : State) : Host.Outcome State Fault Refusal :=
  if s.bist.relOrigin.isSome && !s.releaseRuns &&
      (s.bist.relQueue.isEmpty || decide (s.bist.relFrom + 1000000000 ≤ s.now)) then s.finishRelease.done
  else s.done

/-! ### Outcomes (R415, R420, R422, R424) -/

/-- Slices that the round in progress still has to run: enabled ones, and those that stand failed (R416). -/
def State.roundLeft (s : State) : List Slice :=
  s.bist.roundQueue.filter (fun n => s.sliceEnabled n.val || s.sliceFailed n.val)

/-- What follows the end of a slice, by what it ran for. -/
def State.afterSlice (s : State) (n : Slice) (kind : BistMode) (passed : Bool) : State :=
  let s := s.modBist (fun b => { b with reruns := 0 })
  match kind with
  | .periodic | .idle =>
    let s := s.modBist (fun b => { b with abortedLast := if b.abortedLast = some n then none else b.abortedLast })
    let s := if s.roundLeft.isEmpty && s.bist.abortedLast.isNone then
        s.modBist (fun b => { b with rounds := (b.rounds + 1) % 2 ^ 32 })
      else s
    s.nextSlice
  | .command =>
    (s.modBist (fun b => { b with
      cmdPassed := if passed then b.cmdPassed + 1 else b.cmdPassed
      cmdFailed := if passed then b.cmdFailed else b.cmdFailed + 1
      cmdFirst := if passed then b.cmdFirst else b.cmdFirst.orElse (fun _ => some n.val) })).nextSlice.endOfQueue
  | .full | .release | .rerun => s.nextSlice

/-- An event of the same tick preempts the running slice (R419, R424). -/
def State.preempted (s : State) : Bool :=
  s.overtaken.isSome || s.coming (fun i => match i with
    | .parkAll _ _ => true
    | _ => false)

/-- SLICE_END (R415): `steps` in the µs of R414's table. A slice ends when its counter has reached the planned length
or its declared maximum has expired. -/
def execSliceEnd (steps : Nat) (sigOk : Bool) (s : State) : Host.Outcome State Fault Refusal :=
  match s.bist.running with
  | none => s.done
  | some (n, t0) =>
    let late := decide (t0 + 1000 * sliceMax n.val < s.now)
    let expired := decide (t0 + 1000 * sliceMax n.val ≤ s.now)
    let reached := decide (slicePlanned n.val ≤ steps)
    if !reached && !expired then s.done
    else if s.preempted then s.abortSlice.done
    else
      let kind := s.bist.runKind
      let s := s.freeBlock n
      let hung := !reached || late
      let passed := !hung && sigOk
      let s := if passed then s.passSlice n else s.failSlice n hung
      (s.afterSlice n kind passed).done

/-! ### Periodic slices (R416, R417) -/

/-- Module states in which the engine starts periodic slices. -/
def State.periodicState (s : State) : Bool :=
  match s.st with
  | .ready => s.pwr.st == .active || s.pwr.st == .idle
  | .run | .halt | .orphan => true
  | .off | .boot | .startupTest | .drydown | .dormant | .shutdownLatched => false

/-- A slice is skipped for the round (R417). -/
def State.skipSlice (s : State) : State :=
  let s := s.modBist (fun b => { b with skips := satAdd 0xFF b.skips 1, abortedLast := none })
  if s.roundLeft.isEmpty then s.modBist (fun b => { b with rounds := (b.rounds + 1) % 2 ^ 32 }) else s

/-- Start a slice of the round, or skip it. -/
def State.startOrSkip (s : State) (n : Slice) : State :=
  if s.canStartSlice n.val then s.startSlice n .periodic else s.skipSlice

/-- Slices of a new round: those that stand failed first, then the other enabled ones, each in ascending number. -/
def State.newRound (s : State) : List Slice :=
  s.failedSlices ++ s.enabledSlices.filter (fun n => !s.sliceFailed n.val)

/-- The engine's choice for a period. -/
def State.periodicChoice (s : State) : State :=
  match s.bist.abortedLast with
  | some n => s.startOrSkip n
  | none =>
    match (if s.roundLeft.isEmpty then s.newRound else s.roundLeft) with
    | [] => s
    | n :: t => (s.modBist (fun b => { b with roundQueue := t })).startOrSkip n

/-- Slices of a BIST_RUN that could not be started within 1 s count as aborted (R423). -/
def State.abortWaiting (s : State) : State :=
  if s.bist.mode == .command && decide (s.bist.waitFrom + 1000000000 ≤ s.now) then
    (s.modBist (fun b => { b with cmdAborted := b.cmdAborted + b.queue.length, queue := [] })).endOfQueue
  else s

/-- PERIODIC_SLICE (R416): slices that a rerun, a command or the full test still waits for come first; none starts
while a slice or a BIST_RUN runs. -/
def execPeriodicSlice (s : State) : Host.Outcome State Fault Refusal :=
  if !s.powered || s.bist.running.isSome then s.done
  else
    let s := s.nextSlice
    if s.bist.running.isSome then s.done
    else if !s.bist.rerunQueue.isEmpty then
      (s.modBist (fun b => { b with skips := satAdd 0xFF b.skips b.rerunQueue.length, rerunQueue := [] })).done
    else if !s.bist.queue.isEmpty then s.abortWaiting.done
    else if s.bist.cmdOrigin.isSome || !s.periodicState || !s.flag Fld.bistCtrlPeriodicEn ||
        decide (s.now < s.bist.lastStart + 1000 * s.fld Fld.bistPeriodPeriodUs) then s.done
    else s.periodicChoice.done

/-! ### STARTUP_TEST (R422, R447, R448) -/

/-- The slices of the full test in their order. -/
def fullTestOrder : List Slice :=
  ((List.range 12).map (· + 41) ++ (List.range 11).map (· + 53) ++ (List.range 9).map (· + 32) ++
    (List.range 16).flatMap (fun g => [16 + g, g])).map slice

/-- STARTUP_TEST is entered; a fault of class HALT held in BOOT is acted on at once (R384). -/
def State.enterTest (s : State) : State :=
  let s := s.enter .startupTest
  if s.glb.heldHalt then (s.modGlb (fun g => { g with heldHalt := false })).haltNow
  else
    let s := s.modBist (fun b => { b with
      queue := fullTestOrder, mode := .full, runKind := .full, reruns := 0, slowDue := true, waitFrom := s.now })
    s.nextSlice

/-- The last feed is not OK: FEED_FAULT, once (R448). -/
def State.judgeLastFeed (s : State) : State :=
  if s.glb.feedsOn = 16 then
    let s := s.modGlb (fun g => { g with feedsOn := 17 })
    if (s.segs.get 15).feedOk then s else s.raise .feedFault (some 15) none 0 0 0
  else s

/-- STARTUP_TEST_END (R422): slices that could not be started count as failed; with a failure held the module goes to
HALT, and else to READY once it has a position. -/
def execStartupTestEnd (s : State) : Host.Outcome State Fault Refusal :=
  let left := s.bist.queue
  if s.st != .startupTest || s.glb.testEnded || s.bist.running.isSome || s.bist.slowDue || s.therm.slowBusy.isSome ||
      left.any (fun n => s.canStartSlice n.val) then s.done
  else
    let s := s.judgeLastFeed
    let s := each left (fun s n => s.failSlice n false) s
    let s := (s.modBist (fun b => { b with queue := [], mode := .idle, runKind := .idle })).settle
    let s := (s.modGlb (fun g => { g with testEnded := true })).trainPorts
    if s.glb.heldHalt then ((s.modGlb (fun g => { g with heldHalt := false })).haltNow).done
    else s.tryReady.done

/-! ### Scans (R425 to R429) -/

/-- The range of a scan lies within one region of the scan address space. -/
def scanRangeOk (start len : Nat) : Bool :=
  decide (4 ≤ len) && (decide (start + len ≤ 0x400000) || (decide (0x10000000 ≤ start) && decide (start + len ≤ 0x11000000)))

def chkField (c : Fin 4) (f : Field) : Field := { f with off := f.off + 0x40 * c.val }

/-- Registers of a context that a scan takes. -/
def State.scanRequest (s : State) (c : Fin 4) : Chk :=
  let x := s.chk.get c
  let base := 0x6800 + 0x40 * c.val
  { x with
    start := 4 * fieldOf ⟨base + 8, 2, 30⟩ (s.stored (base + 8))
    length := 4 * fieldOf ⟨base + 0xC, 2, 23⟩ (s.stored (base + 0xC))
    algo := fieldOf ⟨base + 4, 0, 2⟩ (s.stored (base + 4))
    init := fieldOf ⟨base, 2, 1⟩ (s.stored base) == 1
    final := fieldOf ⟨base, 3, 1⟩ (s.stored base) == 1 }

/-- A start is judged at once (R429). -/
def State.judgeScan (s : State) (c : Fin 4) : Status :=
  let x := s.scanRequest c
  if x.st == .running || x.st == .waiting then .busy
  else if !scanRangeOk x.start x.length || x.algo == 3 || s.sliceFailed (57 + c.val) ||
      (x.algo == 2 && !x.final && x.length % 64 != 0) then .rejected
  else .ok

/-- A start: the scan runs, or waits for the slice under test (R418), or is turned away. -/
def State.startScan (s : State) (c : Fin 4) (o : Option Origin) : Status × State :=
  match s.judgeScan c with
  | .ok =>
    let x := s.scanRequest c
    (.ok, s.modChk c (fun _ => { x with
      st := if s.chkUnderTest c then .waiting else .running, status := .ok, origin := o }))
  | st => (st, s.modChk c (fun x => { x with status := st }))

/-- CHECK_SCAN is judged; an accepted one completes as the scan ends. -/
def State.checkCmd (s : State) (o : Origin) (c : Fin 4) : State × Option Result :=
  if s.chkLocked c then (s, some (Result.val .locked (s.chkStatus c).toNat))
  else match s.startScan c (some o) with
    | (.ok, s) => (s, none)
    | (st, s) => (s, some (Result.val st (s.chkStatus c).toNat))

/-- The bytes that a scan reads: flash, or hub SRAM, whose contents the set-up space does not show (log 28). -/
def State.scanBytes (s : State) (start len : Nat) : List Byte × State :=
  if 0x10000000 ≤ start then (s.flashRead (start - 0x10000000) len, s)
  else (List.range len).foldl (fun (t : List Byte × State) _ =>
    let (v, s) := t.2.freeBits
    (v.setWidth 8 :: t.1, s)) ([], s)

/-- Running value and result of a scan (R427, R428). -/
def Chk.finish (x : Chk) (l : List Byte) : Chk :=
  let put (d : Vec Word 8) (ws : List Word) : Vec Word 8 := d.mapIdx (fun i w => ws.getD i w)
  match x.algo with
  | 0 =>
    let v := crc32cUpdate (if x.init then 0xFFFFFFFF else x.runLo.toNat) l
    { x with
      runLo := BitVec.ofNat 32 v, runHi := 0
      digest := if x.final then put x.digest [BitVec.ofNat 32 (v ^^^ 0xFFFFFFFF)] else x.digest }
  | 1 =>
    let v := crc64Update (if x.init then 0 else x.runLo.toNat + 2 ^ 32 * x.runHi.toNat) l
    let lo := BitVec.ofNat 32 v
    let hi := BitVec.ofNat 32 (v / 2 ^ 32)
    { x with runLo := lo, runHi := hi, digest := if x.final then put x.digest [lo, hi] else x.digest }
  | _ =>
    let h := if x.init then shaInit else x.digest.toList
    let before := if x.init then 0 else x.runLo.toNat + 2 ^ 32 * x.runHi.toNat
    let h' := if x.final then shaFinish h before l else shaBlocks (l.length / 64) h l
    let n := before + l.length
    { x with runLo := BitVec.ofNat 32 n, runHi := BitVec.ofNat 32 (n / 2 ^ 32), digest := put x.digest h' }

/-- SCAN_DONE (R428, R429). -/
def execScanDone (c : Fin 4) (s : State) : Host.Outcome State Fault Refusal :=
  let x := s.chk.get c
  if (x.st == .running || x.st == .waiting) && !s.chkUnderTest c then
    let (l, s) := s.scanBytes x.start x.length
    let s := s.modChk c (fun x => { x.finish l with st := .done, status := .ok, origin := none })
    (match x.origin with
      | some o => s.replyLate o 0x71 (Result.val .ok (s.chkStatus c).toNat)
      | none => s).done
  else s.done

end Sys2Proof.Machine
end

