-- ==== Sys2Proof/Machine/Startup.lean ====
section
/-!
DEFINITION. From aux to STARTUP_TEST and the resets (chapters 15 and 17): aux entering and leaving its range, the
boot ROM's choice of a firmware slot, calibration, recovery of the journal, feeds, sequencer start, resets of code 1
to 4.
-/

namespace Sys2Proof.Machine

/-! ### Aux (R23, R230, R242, R371, R459, R502) -/

/-- A segment die at a power-on reset: only its drydown log is kept (R446); its stack stays what it is. -/
def Segment.powerOn (x : Segment) : Segment :=
  { Segment.reset with log := x.log, logOver := x.logOver, stackMv := x.stackMv }

/-- The power-on reset: every field at its reset value but the shutdown latch with THERM_SHUTDOWN, the segments'
drydown logs and what lies outside the hub: flash, pin levels, what the module has sent and what waits (R446, R477). -/
def State.powerOn (s : State) : State :=
  { State.reset with
    glb := { Glb.reset with prev := s.st }
    pins := { s.pins with phEnHigh := true, wakeLow := false }
    segs := s.segs.map Segment.powerOn
    therm := { Therm.reset with
      latched := s.therm.latched, tripSource := s.therm.tripSource, tripTemp := s.therm.tripTemp }
    nvm := { Nvm.reset with flash := s.nvm.flash }
    out := s.out
    free := s.free
    pending := s.pending }

/-- AUX_IN_RANGE (R502). -/
def execAuxInRange (mv : Nat) (s : State) : Host.Outcome State Fault Refusal :=
  if !s.powered && decide (17000 ≤ mv) && decide (mv ≤ 33000) then
    s.powerOn.done
  else s.done

/-- A segment as the feeds fall with aux: from 20 V of stack on it runs on and follows its patrol schedule, from 6 V
on it keeps its log, below it has nothing (R230, R239). -/
def State.segAuxLost (s : State) (g : Seg) : State :=
  let x := s.segs.get g
  let s := s.captureWindow g
  let s := s.modLink g (fun l => { l with st := .down, beacon := none, parkSym := none, parkLeft := 0, haltReq := false })
  if 20000 ≤ x.stackMv then
    let s := s.modSeg g (fun x => { x with
      feedOk := false, feedV := 0, onStack := true, feedRestoreAt := none
      patrolAt := if x.patrolAt.isSome then x.patrolAt else some (firstSecond s.now)
      retention := x.st == .patrol && !x.dormantPatrol })
    if x.st == .silent then s.dormantPatrol g else s
  else
    s.modSeg g (fun x => { x with
      feedOk := false, feedV := 0, onStack := false, feedRestoreAt := none, st := .unpowered, patrolAt := none, windowAt := none
      smeas := false, sdrv := false, keeper := { x.keeper with heartbeat := false }
      retention := decide (6000 ≤ x.stackMv), log := if 6000 ≤ x.stackMv then x.log else [] })

/-- AUX_OUT_OF_RANGE (R23, R459, R502): the hub stops. -/
def execAuxOutOfRange (mv : Nat) (s : State) : Host.Outcome State Fault Refusal :=
  if s.powered && (decide (mv < 16000) || decide (34000 < mv)) then
    let s := s.stageOff.abandonWrites none
    let s := if s.st == .ready || s.st == .startupTest then s.leaveOpenAll else s
    let s := each allSegs (fun s g => s.segAuxLost g) s
    let s := s.modPwr (fun p => { p with
      inRange := false, nvmOk := false, hubOn := 0, hubRet := 0, auxMv := Nat.min 0xFFFF mv, exitFrom := none, going := none })
    let s := s.setPins { s.pins with wakeLow := false }
    let s := s.modGlb (fun g => { g with resetAt := none, recoveryResetAt := none, recovery := false, heldHalt := false })
    (s.enter (if s.segs.toList.any (fun x => decide (20000 ≤ x.stackMv)) then .dormant else .off)).done
  else s.done

/-- SHUTDOWN_LATCH_CLEAR (R371): for certain from 2.5 s below 6 V on, never before 2 s, in between a free value. -/
def execShutdownLatchClear (belowMs : Nat) (s : State) : Host.Outcome State Fault Refusal :=
  if s.powered || decide (belowMs < 2000) then s.done
  else
    let (b, s) := s.freeBool
    if decide (2500 ≤ belowMs) || b then
      (s.modTherm (fun t => { t with latched := false, tripSource := 0, tripTemp := 0 })).done
    else s.done

/-- AUX_MONITOR_UPDATE (R242): the hub is powered, so aux is within its range; a repair that waited may start. -/
def execAuxMonitorUpdate (mv : Nat) (s : State) : Host.Outcome State Fault Refusal :=
  if s.powered then
    let ok := decide (20000 ≤ mv)
    let sag := s.pwr.nvmOk && !ok
    let s := s.modPwr (fun p => { p with
      inRange := true, auxMv := Nat.min 0xFFFF mv, nvmOk := ok, sagCount := if sag then satAdd 0xFF p.sagCount 1 else p.sagCount })
    let s := if sag then s.raise .auxSag none none (word mv) 0 0 else s
    s.startRepair.done
  else s.done

/-! ### The boot ROM (R451, R452) -/

/-- A slot is verified (R451 step 3); the boot ROM reads its image from flash (R430). -/
def State.trySlot (s : State) (slot : Nat) : Bool × State :=
  let base := regionStart (1 + slot)
  let total := Nat.min 0x200000 (u (s.flashRead base 12) 8 4)
  let l := s.flashRead base total
  let s := if check1 fwMagic fwMagicEnd 0x200000 total l then s.judgedFromFlash (1 + slot) l else s
  if s.checkSlot slot total == .checkFail then (false, s.raise .fwSlotInvalid none none (word slot) 0 0) else (true, s)

/-- Slots are tried in order; the first that passes. -/
def State.trySlots (s : State) : List Nat → Option Nat × State
  | [] => (none, s)
  | a :: t =>
    let r := s.trySlot a
    if r.1 then (some a, r.2) else State.trySlots r.2 t

/-- The slots to try in order, and whether the boot reverts from a trial (R451 steps 1 and 2). -/
def State.slotOrder (s : State) : List Nat × State :=
  match s.newestSlotRec with
  | none => (if s.slotVersion 0 < s.slotVersion 1 then [1, 0] else [0, 1], s)
  | some (_, r) =>
    let named := Nat.min 1 r.slot
    let s := if r.status == .checkValueDamaged then s.imageDamaged 0 false else s
    if r.trial && s.glb.trialBit then
      ([1 - named], (s.modNvm (fun n => { n with reverted := true })).raise .fwSlotInvalid none none (word named) 0 0)
    else
      let s := if r.trial then s.modGlb (fun g => { g with trialBit := true }) else s
      ([named, 1 - named], s)

/-- A named slot is on trial: the newest record says so. -/
def State.onTrial (s : State) (slot : Nat) : Bool :=
  match s.newestSlotRec with
  | some (_, r) => r.trial && r.slot == slot
  | none => false

/-! ### Recovery of the journal (R457) -/

/-- Records of the sector whose SECTOR record has the highest SEQ, with the sector's number. -/
def newestSector (m : List (Nat × Byte)) : Option (Nat × List JRec) :=
  (List.range (journalSize / sectorSize)).foldl (fun best i =>
    match jsector m i, best with
    | [], b => b
    | r :: t, none => some (i, r :: t)
    | r :: t, some (j, l) =>
      match l with
      | a :: _ => if a.seq < r.seq then some (i, r :: t) else some (j, l)
      | [] => some (i, r :: t)) none

/-- The write point and the next SEQ; a record that started to be programmed is discarded (R457). -/
def State.findWritePoint (s : State) : State :=
  match newestSector s.nvm.flash with
  | none => s.modNvm (fun n => { n with head := 0, seq := 0 })
  | some (i, l) =>
    let stop := match l.getLast? with
      | some r => r.pos + r.size
      | none => i * sectorSize
    let seq := match l.getLast? with
      | some r => (r.seq + 1) % 2 ^ 32
      | none => 0
    let after := (i + 1) * sectorSize
    if isErased s.nvm.flash (journalBase + stop) (after - stop) then
      s.modNvm (fun n => { n with head := stop % journalSize, seq := seq })
    else
      (s.modNvm (fun n => { n with head := after % journalSize, seq := seq })).raise .journalDiscard none none
        (word (journalBase + stop)) 0 0

/-- Regions that hold slots. -/
def slotRegions : List Nat := [1, 2] ++ (List.range 8).map (· + 4)

/-- Flacon slot i as the journal has it: valid, its TOTAL; what was begun and not done is abandoned. -/
def State.recoverSlot (l : List JRec) (s : State) (region : Nat) : State :=
  let s := match latestOf l [6, 7] region with
    | some r => s.modNvm (fun n => { n with
        erases := assign n.erases (1000 + region) (if r.kind = 6 then u r.payload 12 4 else u r.payload 4 4) })
    | none => s
  match latestOf l [5, 6, 7] region with
  | none => s
  | some r =>
    if r.kind = 6 then
      if region < 4 then s
      else s.modNvm (fun n => { n with
        slotValid := setBit8 n.slotValid (region - 4) true
        slotTotal := assign n.slotTotal (region - 4) (u r.payload 4 4) })
    else s.raise .writeAbandoned none none (word region) 0 0

/-- A repair begun and not done is redone from the scratch sector, if that is whole and a write is permitted. -/
def State.recoverRepair (l : List JRec) (s : State) (r : JRec) : State :=
  let region := u r.payload 0 1
  let copy := u r.payload 1 1
  let done_ := l.any (fun e => e.kind == 9 && decide (r.seq < e.seq) && u e.payload 0 2 == u r.payload 0 2)
  if done_ || s.writeRefusal.isSome || crc32c (s.flashRead 0xC80000 sectorSize) != u r.payload 8 4 then s
  else s.repairTarget region (copy == 1) (u r.payload 4 4)

/-- State of a firmware slot at boot (R464, R456; log 40). -/
def State.bootFwState (l : List JRec) (s : State) (slot : Nat) : Nat :=
  if (if s.nvm.runningB then 1 else 0) = slot then 1
  else match latestOf l [5, 6] (1 + slot) with
    | some r => if r.kind = 6 then 3 else 0
    | none => if s.checkStoredSlot slot == .checkFail then 0 else 1

/-- The journal is recovered. -/
def State.recoverJournal (s : State) : State :=
  let l := journalOf s.nvm.flash
  let s := s.findWritePoint
  let s := s.modNvm (fun n => { n with
    erases := (l.filter (fun r => r.kind == 1)).foldl (fun e r => assign e (r.pos / sectorSize) (u r.payload 0 4)) n.erases })
  let s := each slotRegions (State.recoverSlot l) s
  let s := each (l.filter (fun r => r.kind == 8)) (State.recoverRepair l) s
  let s := (s.setFwState 0 (s.bootFwState l 0))
  let s := (s.setFwState 1 (s.bootFwState l 1))
  if 80000 ≤ s.nvm.maxErases.1 then
    (s.modNvm (fun n => { n with wearRaised := true })).raise .wear none none s.wearWord 0 0
  else s

/-- The configuration bank that the newest CONFIG_SET names (R456, R457). -/
def State.loadConfig (s : State) : State :=
  match (journalOf s.nvm.flash).reverse.find? (fun r => r.kind == 0x0A) with
  | none => s
  | some r =>
    let s := s.modNvm (fun n => { n with cfgBank := u r.payload 0 1 % 2, cfgGen := u r.payload 4 4 })
    let l := s.storedImage 12
    if check1 0x4F434D4C 0x454F4D4C 0x10000 (imgTotal l) l && u l 4 2 == 1 && duplicateCheck l != .checkFail then
      (s.judgedFromFlash 12 l).modNvm (fun n => { n with key := (l.drop 0x40).take 64 })
    else s.raise .imageFail none none 12 0 0

/-! ### Calibration (R365, R443, R444, R449) -/

/-- VALUE of the latest correction entry for a copy. -/
def correction (l : List Byte) (trailer : Bool) : Option Nat :=
  ((List.range (l.length / 8)).reverse.find? (fun i => u l (8 * i) 1 == (if trailer then 1 else 0))).map (fun i => u l (8 * i + 4) 4)

/-- Calibration is loaded and judged. -/
def State.loadCalibration (s : State) : State :=
  let base := regionStart 3
  let l := s.flashRead base (Nat.min 0x40000 (u (s.flashRead base 12) 8 4))
  let c := crc32c (covered l)
  let fixes := s.corrections
  let header := (correction fixes false).getD (u l 0x3C 4)
  let trailer := (correction fixes true).getD (u l (trailerAt l + 4) 4)
  let st : Status :=
    if !check1 0x41434D4C 0x45414D4C 0x40000 (imgTotal l) l || u l 4 2 != 1 then .checkFail
    else match header == c, trailer == c with
      | true, true => .ok
      | false, false => .checkFail
      | _, _ => .checkValueDamaged
  let same := u l 0x14 8 == Config.serial.toNat
  let s := s.modNvm (fun n => { n with
    cal := if st == .checkFail then [] else l
    calStatus := st
    calCheck := word c
    calSerialOk := same
    calCorrected := (correction fixes false).isSome || (correction fixes true).isSome })
  let s := if st == .checkValueDamaged then s.imageDamaged 3 (header == c) else s
  if st == .checkFail || !same then s.raise .calFail none none 0 0 0
  else s.modTherm (fun t => { t with calOk := true })

/-! ### Boot (R447, R451, R452) -/

/-- The boot ROM runs: the firmware of the slot that passes starts next, or the module stays in recovery mode, in
which the write point is found for FW_UPDATE (log 41). -/
def State.bootRom (s : State) : State :=
  let s := s.modPwr (fun p => { p with hubOn := s.allDomains })
  let s := s.modNvm (fun n => { n with flashOk := true })
  let (order, s) := s.slotOrder
  match s.trySlots order with
  | (some slot, s) =>
    let s := s.modNvm (fun n => { n with
      runningB := slot == 1, trial := s.onTrial slot, version := s.slotVersion slot })
    s.modGlb (fun g => { g with phase := .verified })
  | (none, s) =>
    (s.findWritePoint.modGlb (fun g => { g with recovery := true })).trainPorts

/-- POWER_ON_RESET (R371, R447): HEAD_EN is sampled; a latch that is still set counts as the 150 °C event. -/
def execPowerOnReset (headEn : Bool) (s : State) : Host.Outcome State Fault Refusal :=
  if s.st == .boot && s.glb.phase == .held && !s.glb.recovery && s.glb.cause == 0 then
    let s := s.modGlb (fun g => { g with headEn := headEn, latchAtBoot := s.therm.latched })
    if s.therm.latched then
      let s := s.modPwr (fun p => { p with hubOn := s.allDomains })
      (s.shutdownNow s.therm.tripSource s.therm.tripTemp).done
    else s.bootRom.done
  else s.done

/-- FIRMWARE_START (R447 step 3). -/
def execFirmwareStart (s : State) : Host.Outcome State Fault Refusal :=
  if s.st == .boot && s.glb.phase == .verified then
    let s := s.recoverJournal.loadConfig.loadCalibration
    (s.modGlb (fun g => { g with phase := .firmware, feedsOn := 0 })).startRepair.done
  else s.done

/-- A segment has nothing more to do before STARTUP_TEST: it runs, or has no supply, or its link does not train. -/
def State.segSettled (s : State) (g : Seg) : Bool :=
  let x := s.segs.get g
  x.st == .running || x.st == .unpowered || (!s.linkUp g && (s.links.get g).trainRaised)

/-- BOOT ends once the feeds are on and every segment that can be loaded runs (R23, R447). -/
def State.tryTest (s : State) : State :=
  if s.st == .boot && s.glb.phase == .firmware && decide (17 ≤ s.glb.feedsOn) && allSegs.all s.segSettled then s.enterTest
  else s

/-- What a feed switched on before has come to: output, stack; its segment's core powers up from either (R448). -/
def State.judgeFeed (s : State) (g : Seg) (ok : Bool) (volts stackMv : Nat) : State :=
  let powered := ok || decide (20000 ≤ stackMv)
  let s := s.modSeg g (fun x => { x with
    feedOk := ok, feedV := volts % 256, stackMv := stackMv, onStack := !ok && decide (20000 ≤ stackMv)
    st := if powered then (if x.st == .unpowered then .boot else x.st) else .unpowered })
  let s := if powered && (s.links.get g).st == .down then s.trainLink g else s
  if ok then s else s.raise .feedFault (some g) none 0 0 0

/-- FEED_ENABLE (R448): the next feed, once the one before is in range or 6 ms have passed; the feed before is judged.
With all on, the last is judged. -/
def execFeedEnable (prevOk : Bool) (prevVolts prevStack : Nat) (s : State) : Host.Outcome State Fault Refusal :=
  let n := s.glb.feedsOn
  if s.st != .boot || s.glb.phase != .firmware || decide (17 ≤ n) then s.tryTest.done
  else if n = 0 then
    (((s.setFld (Fld.segFeedCtrlFeedEn 0) 1).modGlb (fun g => { g with feedsOn := 1, feedAt := s.now }))).done
  else if !prevOk && decide (s.now < s.glb.feedAt + 6000000) then s.done
  else
    let s := s.judgeFeed (seg (n - 1)) prevOk prevVolts prevStack
    let s := if n < 16 then s.setFld (Fld.segFeedCtrlFeedEn (seg n)) 1 else s
    (s.modGlb (fun g => { g with feedsOn := n + 1, feedAt := s.now })).tryTest.done

/-- SEQUENCER_START (R51, R447 step 6): without commutation, the cells of a tripped keeper excepted. -/
def execSequencerStart (g : Seg) (s : State) : Host.Outcome State Fault Refusal :=
  let x := s.segs.get g
  if x.st == .boot && x.imageIn then
    let tripped := x.keeper.tripped
    let s := s.modSeg g (fun x => { x with
      st := .running, smeas := true, sdrv := true
      keeper := { x.keeper with heartbeat := true, supplyOk := true, lastBeat := s.now, holding := tripped } })
    let s := each (cellsOf g) (fun s k =>
      let s := s.modMeas k (fun m => { m with lastCheck := s.now, noCheckRaised := false })
      if tripped then s else s.modCell k (fun c => { c with keepHold := false })) s
    s.nextSlice.tryTest.done
  else s.done

/-- TRAINING_TIMEOUT (R252): 2 ms elapsed with one carrier trained, or none. -/
def execTrainingTimeout (g : Seg) (c0 c1 : Bool) (trips : List Nat) (s : State) : Host.Outcome State Fault Refusal :=
  let l := s.links.get g
  let c := s.carriers g
  let a := c0 && c.1
  let b := c1 && c.2
  if !s.isTraining g || decide (s.now < l.trainFrom + 2000000) || (a && b) then s.done
  else if a || b then
    let s := (s.linkTrained g a b (latencyOf trips)).checkShunts.nextSlice
    let s := if s.st == .boot && (s.segs.get g).st != .boot then s.sendDown g (.cmd .moduleReset) else s
    (if l.st == .training then s.raise .carrierLost (some g) none (if a then 1 else 0) 0 0 else s).done
  else
    let s := s.modLink g (fun l => { l with trainFrom := s.now, trainRaised := true })
    (if l.st == .training && !l.trainRaised then s.raise .trainFailed (some g) none 0 0 0 else s).tryTest.done

/-- DRYDOWN_LOG_COLLECT (R450). -/
def execDrydownLogCollect (s : State) : Host.Outcome State Fault Refusal :=
  if s.powered && s.glb.phase == .firmware && s.st != .drydown && s.st != .shutdownLatched then s.collectLogs.done
  else s.done

/-! ### Resets of code 1 to 4 (R445, R446, R477) -/

/-- Registers kept through a reset of code 1 to 4: GLB_LOCK, the scratch registers, PLAY_FLACON_POLICY, FLT. -/
def keptReg (off : Nat) : Bool :=
  off == 0x24 || (decide (0x30 ≤ off) && decide (off < 0x40)) || off == 0x281C ||
    (decide (0x5800 ≤ off) && decide (off < 0x6000))

/-- A segment through a reset of code 1 to 4: over its link by a message that puts its keeper in the power-up hold
first; without a link a segment with a stack runs on until its link trains. Its feed is off until it is enabled
again. -/
def State.segModuleReset (s : State) (g : Seg) : State :=
  let x := s.segs.get g
  let s := if s.linkUp g then (s.abortSegSlice g).segDieReset g true
    else if x.stackMv < 20000 then
      each (cellsOf g) (fun s k => s.modCell k (fun _ => CellPath.reset)) (s.modSeg g (fun x =>
        { Segment.powerOn x with
          resets := x.resets, periodS := x.periodS, dormantPatrol := x.dormantPatrol
          keeper := { Keeper.reset with tripCount := x.keeper.tripCount } }))
    else s
  let s := s.modSeg g (fun x => { x with
    feedOk := false, feedRestoreAt := none, onStack := decide (20000 ≤ x.stackMv)
    st := if x.stackMv < 20000 then .unpowered else x.st })
  s.modLink g (fun _ => { Link.reset with st := if x.stackMv < 20000 then .down else .training })

/-- The flash operation that has started ends; the hub forgets the rest (R458; log 42). -/
def Nvm.resetNow (n : Nvm) : Nvm :=
  { Nvm.reset with
    flash := match n.jobs with
      | j :: _ =>
        match j.ops with
        | o :: _ => o.apply n.flash
        | [] => n.flash
      | [] => n.flash }

/-- What a reset of code 1 to 4 leaves. -/
def State.resetTo (s : State) (code : Nat) : State :=
  let s := s.shiftTimers (-(s.now : Int))
  let s := each allSegs (fun s g => s.segModuleReset g) (s.setNow 0)
  { State.reset with
    glb := { Glb.reset with
      prev := s.st, cause := code, resetCount := satAdd 0xFF s.glb.resetCount 1, headEn := s.glb.headEn
      brBlock := s.glb.brBlock, brUnit := s.glb.brUnit, brCount := s.glb.brCount, trialBit := s.glb.trialBit }
    pins := { s.pins with phEnHigh := true, wakeLow := false }
    regs := s.regs.filter (fun e => keptReg e.1)
    cells := s.cells
    meas := s.meas.map CellMeas.fresh
    segs := s.segs
    links := s.links
    therm := { Therm.reset with tripSource := s.therm.tripSource, tripTemp := s.therm.tripTemp }
    pwr := { Pwr.reset with sagCount := s.pwr.sagCount }
    -- No fault has been taken at the first tick of the new line time.
    flt := { s.flt with awaited := [], tickSrcs := [], firstAt := 2 ^ 64 }
    nvm := s.nvm.resetNow
    out := s.out
    free := s.free
    pending := s.pending }

/-- GLB_RESET_CAUSE (R482). -/
def State.resetCauseWord (s : State) : Word :=
  word (s.glb.cause + flagAt s.glb.latchAtBoot 3 + s.glb.resetCount * 2 ^ 8)

/-- RESET_APPLY (R446): 20 µs after the request; the boot ROM starts. -/
def execResetApply (s : State) : Host.Outcome State Fault Refusal :=
  match s.glb.resetAt with
  | some (t, code) =>
    if s.powered && s.st != .shutdownLatched && decide (t ≤ s.now) then
      let s := s.resetTo code
      let s := if code = 2 then s.raise .watchdog none none s.resetCauseWord 0 0 else s
      s.bootRom.done
    else s.done
  | none => s.done

/-- RESET_N (R445): 1 µs or more resets, 100 ns or less is ignored, in between a free value. -/
def execResetN (lowNs : Nat) (s : State) : Host.Outcome State Fault Refusal :=
  if lowNs ≤ 100 then s.done
  else
    let (b, s) := s.freeBool
    if decide (1000 ≤ lowNs) || b then (s.requestReset 1).done else s.done

/-- WATCHDOG (R445): firmware has not served its watchdog for 100 ms. -/
def execWatchdog (s : State) : Host.Outcome State Fault Refusal :=
  if s.glb.phase == .firmware then (s.requestReset 2).done else s.done

/-- RECOVERY_RESET (R452): 10 ms after an ACTIVATE in recovery mode. -/
def execRecoveryReset (s : State) : Host.Outcome State Fault Refusal :=
  match s.glb.recoveryResetAt with
  | some t =>
    if s.glb.recovery && decide (t ≤ s.now) then
      ((s.modGlb (fun g => { g with recoveryResetAt := none })).requestReset 4).done
    else s.done
  | none => s.done

end Sys2Proof.Machine
end

