-- ==== Sys2Proof/Machine/RegRead.lean ====
section
/-!
DEFINITION. What every register of the set-up space reads as (chapter 16 and the register sections of the other
chapters): the stored RW and RWS bits together with the fields that the module forms, and the calibration view.
-/

namespace Sys2Proof.Machine

/-! ### Read-only fields by block -/

def boolNat (b : Bool) : Nat := if b then 1 else 0

/-- Bits of a set of segments. -/
def segBits (f : Seg → Bool) : Nat := sumNat (allSegs.map (fun g => bitAt (f g) g.val))

/-- Bits of a set of phases. -/
def phaseBits (f : Phase → Bool) : Nat := sumNat (allPhases.map (fun p => bitAt (f p) p.val))

/-- GLB (R478 to R487). -/
def State.glbWord (s : State) (off : Nat) : Nat :=
  let g := s.glb
  match off with
  | 0x00 => 0x48010256
  | 0x04 => 0xA1A1 + boolNat Config.orderingCode * 2 ^ 16
  | 0x08 => Config.serial.toNat % 2 ^ 32
  | 0x0C => Config.serial.toNat / 2 ^ 32
  | 0x10 => stateCode g.st + bitAt g.recovery 4 + stateCode g.prev * 2 ^ 8
  | 0x14 => s.resetCauseWord.toNat
  | 0x18 => boolNat g.headEn + bitAt s.pins.estopN 16 + bitAt (g.headEn && s.pins.perstN) 17 +
      bitAt ((s.pinLevel 11).getD true) 18 + bitAt ((s.pinLevel 12).getD true) 19 + bitAt s.pins.phFltN 20
  | 0x20 => g.brBlock + g.brUnit * 2 ^ 8 + g.brCount * 2 ^ 16
  | 0x40 => 0x01081F10
  | _ => 0

/-- PWR (R234 to R242). -/
def State.pwrWord (s : State) (off : Nat) : Nat :=
  let p := s.pwr
  match off with
  | 0x0800 => segBits (fun g => (s.segs.get g).smeas && (s.segs.get g).st != .unpowered) +
      segBits (fun g => (s.segs.get g).sdrv && (s.segs.get g).st != .unpowered) * 2 ^ 16
  | 0x080C => depth p.st + bitAt p.changing 3 + p.block * 2 ^ 4 + p.hubOn.toNat * 2 ^ 8 + p.hubRet.toNat * 2 ^ 16
  | 0x081C => boolNat p.wakeCommand + bitAt p.wakeSymbol 1 + bitAt p.wakeAnomaly 2 + bitAt p.wakeBudget 3 + p.anKind * 2 ^ 5 +
      p.anSeg * 2 ^ 8 + p.anCell * 2 ^ 12 + p.anCount * 2 ^ 16
  | 0x0820 => p.auxMv + bitAt p.inRange 16 + bitAt p.nvmOk 17 + p.sagCount * 2 ^ 24
  | _ => 0

/-- HOST (R348, R352). -/
def State.hostWord (s : State) (off : Nat) : Nat :=
  let h := s.host
  match off with
  | 0x1004 => h.st + bitAt h.linkUp 2 + bitAt h.busMaster 3 + bitAt h.msixEn 4 + h.outstanding.length * 2 ^ 16
  | 0x1068 => h.err.toNat
  | _ => 0

def PortSt.latWord (x : PortSt) : Nat := Nat.min 0xFFFF x.lat + Nat.min 16 x.pings * 2 ^ 16
def PortSt.errWord (x : PortSt) : Nat := x.crcErr + x.retry * 2 ^ 12 + x.discard * 2 ^ 20 + x.downs * 2 ^ 28

/-- LOOP (R290 to R295). -/
def State.loopWord (s : State) (off : Nat) : Nat :=
  let l := s.loop
  match off with
  | 0x1804 => l.a.st + l.b.st * 4 + bitAt l.silent 4 + bitAt (s.isHead && l.wakeSeen) 5 +
      bitAt (s.isHead && (l.a.faultBeyond || l.b.faultBeyond)) 6 + bitAt (l.a.restricted || l.b.restricted) 7 +
      l.brkUp * 2 ^ 8 + l.brkDown * 2 ^ 18
  | 0x1808 => boolNat s.isHead + bitAt l.topo 1
  | 0x1810 => l.position + bitAt l.valid 16 + l.gen * 2 ^ 24
  | 0x1814 => l.n + Nat.min 0xFFFF l.rtt * 2 ^ 16
  | 0x1818 => l.a.latWord
  | 0x181C => l.b.latWord
  | 0x1820 => l.a.errWord
  | 0x1824 => l.b.errWord
  | _ => 0

/-- TIME but TIME_NOW (R316 to R318). -/
def State.timeWord (s : State) (off : Nat) : Nat :=
  let t := s.tu
  match off with
  | 0x200C => t.st + t.src * 4 + t.hops % 1024 * 2 ^ 4 + bitAt t.srcHoldover 14 + bitAt (t.slews s.now) 15 + bitAt t.stepped 16 +
      bitAt t.srcHead 17
  | 0x2010 => unsigned 32 t.offset
  | 0x2014 => unsigned 24 t.trim
  | 0x2018 => bitAt t.ptmValid 1
  | 0x201C => match t.holdFrom with
    | some a => if t.st = 3 then Nat.min 0xFFFF ((s.now - a) / 1000000000) else 0
    | none => 0
  | _ => 0

/-- Codes of R310. -/
def accCode : AccState → Nat
  | .idle => 0
  | .isOpen => 1
  | .prepared => 2
  | .committed => 3
  | .rolledBack => 4
  | .split => 5

/-- ACC (R319, R320). -/
def State.accWord (s : State) (off : Nat) : Nat :=
  let a := s.acc
  match off with
  | 0x2400 => a.id
  | 0x2404 => accCode a.st + bitAt a.commitSeen 3 + bitAt a.isPartial 4 + statusCode a.lastStatus * 2 ^ 8
  | 0x2408 => a.count + a.failed * 2 ^ 16
  | 0x240C => a.t % 2 ^ 32
  | 0x2410 => a.t / 2 ^ 32
  | _ => 0

/-- Codes of R93. -/
def playCode : PlayState → Nat
  | .empty => 0
  | .armed => 1
  | .wait => 2
  | .hold => 3
  | .play => 4
  | .exit => 5
  | .stopping => 6
  | .halted => 7

/-- PLAY (R96 to R100). -/
def State.playWord (s : State) (off : Nat) : Nat :=
  let p := s.play
  match off with
  | 0x2804 => playCode p.st + bitAt p.derated 3 + bitAt p.pending.isSome 4 +
      bitAt (s.cells.toList.any (fun c => c.walk.isSome)) 5 + bitAt p.bankNo 6 + p.h.getD 0 % 64 * 2 ^ 8 + bitAt p.h.isNone 14 +
      p.overrun * 2 ^ 16
  | 0x2808 => p.active.source + (if p.active.source = 0xFF then 0 else statusCode p.active.verify) * 2 ^ 8 +
      u p.active.bytes 0x10 2 * 2 ^ 16
  | 0x280C => p.staged.source + statusCode p.staged.verify * 2 ^ 8 + bitAt p.staged.verified 16 + bitAt p.swapStaged 17
  | 0x2810 => p.cycles % 2 ^ 32
  | 0x2814 => p.modPeak + p.segPeak * 2 ^ 4 + p.checkRule * 2 ^ 8 + p.checkWhere * 2 ^ 16
  | 0x2818 => p.step % 256 + p.stepReg % 65536 * 2 ^ 16
  | _ => 0

def spcCode : SpcState → Nat
  | .disabled => 0
  | .standby => 1
  | .regulate => 2
  | .inhibited => 3

/-- SPC (R133, R134). -/
def State.spcWord (s : State) (off : Nat) : Nat :=
  let x := s.spc
  match off with
  | 0x3004 => spcCode x.st + bitAt x.ramping 2 + bitAt (decide (x.delivered.natAbs < (x.target * 50).natAbs)) 3 + s.nActive * 2 ^ 4 +
      s.nHealthy * 2 ^ 8 + x.causes.toNat * 2 ^ 12 + bitAt x.toggle.isSome 19 + Nat.min 0xFFF (s.capacity / 10000) * 2 ^ 20
  | 0x300C => phaseBits (fun p => (x.phases.get p).failed) + phaseBits (fun p => (x.phases.get p).fOpen) * 2 ^ 8 +
      phaseBits (fun p => (x.phases.get p).fSense) * 2 ^ 16 + phaseBits (fun p => (x.phases.get p).fXchk) * 2 ^ 24
  | _ => 0

/-- STEP (R141, R143). -/
def State.stepWord (s : State) (off : Nat) : Nat :=
  let x := s.spc
  match off with
  | 0x3804 => x.link + bitAt x.pending.isSome 2 + bitAt x.sync 3 + (match x.pending with
      | some f => frSeq f.raw
      | none => 0) * 2 ^ 4 + unsigned 20 x.target * 2 ^ 12
  | 0x3814 => x.lastSeq + x.answeredSeq * 2 ^ 8 + x.crcErr * 2 ^ 16
  | 0x3818 => x.nakCause + x.nakSeq * 2 ^ 4 + bitAt x.nakUnsol 12 + x.nakCount * 2 ^ 16
  | _ => 0

/-- LOST of MEAS_SHUNT_CFG: 0 until start-up has trained the shunt's link once (R170, R180). -/
def State.shuntShown (s : State) (top : Bool) : Bool :=
  s.shuntLost top && (s.st != .boot || (s.links.get (if top then 15 else 0)).everUp)

/-- MEAS (R179 to R183). -/
def State.measWord (s : State) (off : Nat) : Nat :=
  match off with
  | 0x4008 => Nat.min 255 (s.meas.toList.filter (fun m => m.served)).length * 2 ^ 16
  | 0x400C => bitAt s.shunts.exclB 4 + bitAt s.shunts.exclT 5 + bitAt (s.shuntShown false) 8 + bitAt (s.shuntShown true) 9
  | 0x4014 => s.shunts.distCount * 2 ^ 16
  | 0x4018 => s.shunts.drops * 2 ^ 16
  | _ => 0

/-- ANA (R209, R210, R213). -/
def State.anaWord (s : State) (off : Nat) : Nat :=
  match off with
  | 0x4800 => Nat.min 255 (s.unretired / 64) * 2 ^ 8 + s.results.drops * 2 ^ 16
  | 0x4804 => 1
  | 0x4810 => 0x20 * 2 ^ 16
  | _ => 0

/-- The hottest diode or model (R375): the first of the hottest. -/
def State.hotSensor (s : State) : Nat × Int :=
  match s.sensors with
  | [] => (0, 0)
  | a :: t => t.foldl (fun m i => if m.2 < s.sensorTemp i then (i, s.sensorTemp i) else m) (a, s.sensorTemp a)

/-- THERM (R375 to R382). -/
def State.thermWord (s : State) (off : Nat) : Nat :=
  let t := s.therm
  match off with
  | 0x5004 => boolNat t.near + bitAt s.nvmTooHot 2 + bitAt (t.dies.toList.any (fun d => d.broken)) 3 + bitAt t.slowBusy.isSome 4 +
      s.hotSensor.1 * 2 ^ 5 + unsigned 16 s.hotSensor.2 * 2 ^ 16
  | 0x5008 => boolNat t.latched + t.tripSource * 2 + unsigned 16 t.tripTemp * 2 ^ 16
  | 0x500C => 0x14 + 0x7D0 * 2 ^ 8 + 0xF * 2 ^ 20 + 0x0A * 2 ^ 24
  | 0x5010 => 0x50
  | 0x5014 => boolNat t.calOk + bitAt s.conservative 1 + 0x0A * 2 ^ 8
  | 0x5018 => bitAt s.nvmTooHot 16
  | _ =>
    if 0x5020 ≤ off ∧ off ≤ 0x5060 then
      let d := t.dies.get (die ((off - 0x5020) / 4))
      unsigned 16 d.temp + bitAt d.valid 16 + bitAt d.broken 17 + bitAt d.subst 18 + bitAt d.stale 19
    else 0

/-- Bytes i to i + 3 of the first-fault record (R409). -/
def State.firstWord (s : State) (i : Nat) : Nat := u (firstBytes s.flt.first) i 4

/-- FLT (R406 to R413). -/
def State.fltWord (s : State) (off : Nat) : Nat :=
  match off with
  | 0x5804 => s.fltSummary.toNat
  | 0x580C => s.fltSillageStatus.toNat
  | 0x5830 => s.fltOverflow.toNat
  | 0x5840 => bitAt s.faultLow 2
  | _ =>
    if 0x5810 ≤ off ∧ off < 0x5830 then s.firstWord (off - 0x5810)
    else if 0x5900 ≤ off ∧ off < 0x5D00 then
      match srcOfNumber ((off - 0x5900) / 4) with
      | some x => classCode ((find? s.flt.classes x).getD (srcClassIn true false x)) * 2 ^ 8 + 2 ^ 10 +
          bitAt (s.isSticky x && s.heldSource x) 11 + (find? s.flt.counts x).getD 0 * 2 ^ 16
      | none => 0
    else if 0x5D00 ≤ off ∧ off < 0x5D20 then (s.fltSticky ((off - 0x5D00) / 4)).toNat
    else 0

def resultCode : SliceResult → Nat
  | .notRun => 0
  | .passed => 1
  | .failed => 2
  | .aborted => 3

/-- BIST_STATUS.MODE (R433). -/
def State.bistModeCode (s : State) : Nat :=
  if s.st == .startupTest then 2
  else if s.bist.cmdOrigin.isSome then 3
  else if s.bist.running.isSome && s.bist.runKind == .periodic then 1
  else 0

/-- BIST (R433 to R437). -/
def State.bistWord (s : State) (off : Nat) : Nat :=
  let b := s.bist
  match off with
  | 0x6004 => s.bistModeCode + bitAt b.running.isSome 2 + b.current * 2 ^ 3 + s.failedSlices.length * 2 ^ 16 + b.skips * 2 ^ 24
  | 0x600C =>
    let n := s.fld Fld.bistSliceMaxSelect
    resultCode (b.slices.get (slice n)).result * 2 ^ 6 + sliceMax n * 2 ^ 8 + slicePlanned n * 2 ^ 20
  | 0x6014 => 2 ^ 9 + 2 ^ 10 + 2 ^ 19
  | 0x6018 => b.lastFail + bitAt b.lastFailValid 6 + bitAt b.lastFailOver 7 + b.lastFailSig.toNat * 2 ^ 16
  | 0x601C => b.abortCount + b.lastAbort * 2 ^ 16
  | 0x6020 => b.rounds % 2 ^ 32
  | _ => 0

/-- The check context of an offset, and the place of the register in it. -/
def chkOf (off : Nat) : Fin 4 × Nat := (Fin.ofNat 4 ((off - 0x6800) / 0x40), (off - 0x6800) % 0x40)

/-- CHK_STATUS, the running value and the digest (R440, R441). -/
def State.chkWord (s : State) (off : Nat) : Nat :=
  let (c, r) := chkOf off
  let x := s.chk.get c
  if r = 0x10 then (s.chkStatus c).toNat
  else if r = 0x14 then x.runLo.toNat
  else if r = 0x18 then x.runHi.toNat
  else if 0x20 ≤ r then (x.digest.get (Fin.ofNat 8 ((r - 0x20) / 4))).toNat
  else 0

/-- NVM (R461 to R466). -/
def State.nvmWord (s : State) (off : Nat) : Nat :=
  let n := s.nvm
  match off with
  | 0x7004 => (if s.st == .boot && s.glb.phase == .verified then 3 else if n.erasing then 2 else boolNat n.busy) + bitAt n.flashOk 2 +
      statusCode n.lastStatus * 2 ^ 8 + Nat.min 15 n.repairs.length * 2 ^ 16
  | 0x7008 => n.head
  | 0x700C => s.inhibitCause.toNat + n.lastRefused * 2 ^ 8 + n.refused * 2 ^ 16
  | 0x7010 => n.slotA + n.slotB * 4 + bitAt n.runningB 4 + bitAt n.trial 5 + bitAt n.reverted 6 + bitAt s.glb.recovery 7 +
      n.version % 65536 * 2 ^ 16
  | 0x7014 => n.slotValid.toNat + n.slotDamaged.toNat * 2 ^ 8 + n.slotWriting.toNat * 2 ^ 16
  | 0x7018 => s.wearWord.toNat
  | _ => 0

/-! ### The calibration view (R489) -/

/-- A word of the view that the table lists. -/
def calListed (a : Nat) : Bool :=
  (decide (0x40 ≤ a) && decide (a < 0x5C)) || (decide (0x100 ≤ a) && decide (a < 0x1100) && decide (a % 0x100 < 0x94)) ||
    (decide (0x1100 ≤ a) && decide (a < 0x1300)) || (decide (0x1300 ≤ a) && decide (a < 0x1344))

/-- The calibration view: the loaded image at its own offsets (log 23). -/
def State.calWord (s : State) (off : Nat) : Nat :=
  let a := off - 0xC000
  let n := s.nvm
  if a = 0 then statusCode n.calStatus + bitAt n.calSerialOk 8 + bitAt n.calCorrected 9
  else if a = 8 then n.calCheck.toNat
  else if n.cal.isEmpty then 0
  else if a = 4 then imgTotal n.cal
  else if a = 0x10 ∨ a = 0x14 then u n.cal (a + 4) 4
  else if calListed a then u n.cal a 4
  else 0

/-! ### Reads (R469 to R472) -/

/-- RW bits that are not stored with the others but read from the part they belong to: TOPO, TRIM, TIME_NOW, the
check unit's running value and digest. -/
def keptElsewhere (off : Nat) : Word :=
  if off = 0x1808 then 2
  else if off = 0x2014 then 0x00FFFFFF
  else if off = 0x2000 ∨ off = 0x2004 then 0xFFFFFFFF
  else if 0x6800 ≤ off ∧ off < 0x6900 ∧ 0x14 ≤ (off - 0x6800) % 0x40 then 0xFFFFFFFF
  else 0

/-- Bits that read 0 on a module that is not a head: PTM_EN, the force bit of HOST (R223, R318). -/
def State.headOnly (s : State) (off : Nat) : Word :=
  if s.isHead then 0
  else if off = 0x2018 then 1
  else if off = 0x0804 then 0x20
  else 0

/-- Read-only and write-one-to-clear fields of a hub register. -/
def State.formedWord (s : State) (off : Nat) : Nat :=
  match off / 0x400 with
  | 0 | 1 => s.glbWord off
  | 2 | 3 => s.pwrWord off
  | 4 | 5 => s.hostWord off
  | 6 | 7 => s.loopWord off
  | 8 => s.timeWord off
  | 9 => s.accWord off
  | 10 | 11 => s.playWord off
  | 12 | 13 => s.spcWord off
  | 14 | 15 => s.stepWord off
  | 16 | 17 => s.measWord off
  | 18 | 19 => s.anaWord off
  | 20 | 21 => s.thermWord off
  | 22 | 23 => s.fltWord off
  | 24 | 25 => s.bistWord off
  | 26 | 27 => s.chkWord off
  | 28 | 29 => s.nvmWord off
  | _ => 0

/-- RW and RWS bits of a hub register as they read. -/
def State.heldBits (s : State) (off : Nat) : Word :=
  match regAt off with
  | none => 0
  | some d => s.stored off &&& (d.rw ||| d.rws) &&& ~~~keptElsewhere off &&& ~~~s.headOnly off

/-- The HOST block of a module that is not a head (R323, R469). -/
def State.hostAbsent (s : State) (off : Nat) : Bool := !s.isHead && hostBlock off

/-- What a register reads as, TIME_NOW apart; a hole reads 0 (R469). -/
def State.regWord (s : State) (off : Nat) : Word :=
  if 0xC000 ≤ off then (if off < 0xE000 then word (s.calWord off) else 0)
  else if 0x8000 ≤ off then s.windowRead (seg ((off - 0x8000) / 0x400)) (off % 0x400)
  else if s.hostAbsent off then 0
  else match regAt off with
    | none => 0
    | some _ => s.heldBits off ||| word (s.formedWord off)

/-- A read over BAR0 or over the loop: TIME_NOW_LO latches the upper half of line time for its own path (R314,
R472). -/
def State.readAt (s : State) (off : Nat) (bar : Bool) : Word × State :=
  if off = 0x2000 then
    let hi := BitVec.ofNat 32 (s.now / 2 ^ 32)
    (BitVec.ofNat 32 s.now, s.modTu (fun t => if bar then { t with latchBar := hi } else { t with latchLoop := hi }))
  else if off = 0x2004 then (if bar then s.tu.latchBar else s.tu.latchLoop, s)
  else (s.regWord off, s)

/-- Registers read in order. -/
def State.readMany (s : State) (off : Nat) : Nat → List Word × State
  | 0 => ([], s)
  | n + 1 =>
    let (w, s) := s.readAt off false
    let (l, s) := State.readMany s (off + 4) n
    (w :: l, s)

end Sys2Proof.Machine
end

