-- ==== Sys2Proof/Machine/RegWrite.lean ====
section
/-!
DEFINITION. Register writes (chapter 16, R468 to R476, R307): how a write is judged, what each register stores of it
and what its bits bring about.
-/

namespace Sys2Proof.Machine

/-! ### What a register stores of a written value -/

/-- A field limited to a range. -/
def limit (f : Field) (lo hi : Nat) (w : Word) : Word := withField f w (Nat.max lo (Nat.min hi (fieldOf f w)))

/-- A signed field limited to a range. -/
def limitS (f : Field) (lo hi : Int) (w : Word) : Word :=
  withField f w (unsigned f.width (clampInt lo hi (signed f.width (fieldOf f w))))

/-- A value that is stored as 0 when written 3. -/
def noThree (f : Field) (w : Word) : Word := if fieldOf f w = 3 then withField f w 0 else w

/-- GUARD rounds up to a multiple of 4 within its field (R182). -/
def guardUp (n : Nat) : Nat := Nat.min 0xFFFC ((n + 3) / 4 * 4)

/-- T_MIN at most T_MAX (R380). -/
def orderNvm (w : Word) : Word :=
  let lo := Fld.thermNvmWindowTMin
  let hi := Fld.thermNvmWindowTMax
  if signed 8 (fieldOf hi w) < signed 8 (fieldOf lo w) then withField lo w (fieldOf hi w) else w

/-- What the hub register at an offset stores when its RW and RWS bits are written `w`. -/
def hubStored (off : Nat) (w : Word) : Word :=
  match off with
  | 0x0810 => limit Fld.pwrDrydownPeriodPeriodS 1 86400 w
  | 0x1000 => limit Fld.hostCtrlCmdTimeoutMs 1 0xFFFF w
  | 0x1064 => limit Fld.hostCoalesceCount 1 0xFF w
  | 0x1800 => noThree Fld.loopCtrlResDir w
  | 0x180C => limit Fld.loopTimeoutTimeoutMs 1 60000 w
  | 0x1828 => limit Fld.loopOrphanCfgRamp 1 0xFFFFF w
  | 0x2008 => noThree Fld.timeCtrlSrcSel w
  | 0x2014 => limitS Fld.timeFreqTrimTrim (-100000) 100000 w
  | 0x2018 => limit Fld.timePtmCfgLossMs 1 0xFF (limit Fld.timePtmCfgIntervalMs 1 0xFF w)
  | 0x2414 => limit Fld.accGraceGraceUs 1000 0xFFFFFF w
  | 0x3010 => limit Fld.spcFswTargetFswKhz 50 400 w
  | 0x3014 => limit Fld.spcPhaseImaxImax 0 1500 w
  | 0x3018 => limit Fld.spcShedCfgMinActive 1 8 w
  | 0x301C => limit Fld.spcTonMaxTonMax 100 0xFFFF w
  | 0x3064 => limit Fld.spcVstringLimitLimitV 0 1400 w
  | 0x3068 => limit Fld.spcRampLimitRate 1 0xFFFFFF w
  | 0x380C => limit Fld.stepAckDwellDwellUs 1 0xFFFF w
  | 0x4008 => limit Fld.measXcheckLimitMissN 1 0xF w
  | 0x400C => noThree Fld.measShuntCfgUse w
  | 0x4010 => limit Fld.measShuntXcheckDwellMs 1 0xFF w
  | 0x4014 => withField Fld.measGuardTimeGuard w (guardUp (fieldOf Fld.measGuardTimeGuard w))
  | 0x4018 => limit Fld.measStreamCfgShuntDecim 4 10 (limit Fld.measStreamCfgMarkMs 1 0xFF w)
  | 0x401C => limit Fld.measContactLimitCount 1 0xF w
  | 0x4808 => limit Fld.anaTallyCfgZeroMaxH 1 0xFF w
  | 0x480C => limit Fld.anaEdgerCfgT1 2 24 (limit Fld.anaEdgerCfgT2 50 4000 (limit Fld.anaEdgerCfgNLog2 0 6 w))
  | 0x4814 => limit Fld.anaTaperCfgNConfirm 1 0xFF w
  | 0x4818 => limit Fld.anaKvalCfgMinN 3 0xFF w
  | 0x481C => limit Fld.anaDqdvCfgBinUv 1000 0xFFFF w
  | 0x5010 => limit Fld.thermXcheckCfgPersist 1 0xF (limit Fld.thermXcheckCfgDieLimit 0x14 0xFF w)
  | 0x5018 => orderNvm (limitS Fld.thermNvmWindowTMin (-20) 105 (limitS Fld.thermNvmWindowTMax (-20) 105 w))
  | 0x501C =>
    limitS Fld.thermCellWindowChgMin 0 60 (limitS Fld.thermCellWindowChgMax 0 60
      (limitS Fld.thermCellWindowDisMin (-20) 65 (limitS Fld.thermCellWindowDisMax (-20) 65 w)))
  | 0x6008 => limit Fld.bistPeriodPeriodUs 100 1000000 w
  | _ => w

/-- FLT_REACTION stores nothing for a reserved number, and BLOCK_RESET only where a block reset exists (R394, R412). -/
def reactionStored (n : Nat) (w : Word) : Word :=
  match srcOfNumber n with
  | none => 0
  | some x => if srcHasBlockReset x then w else withField (Fld.fltReactionBlockReset n) w 0

/-- What a register stores when its RW and RWS bits are written `w`. -/
def stores (off : Nat) (w : Word) : Word :=
  if 0x8000 ≤ off then (if 0x40 ≤ off % 0x400 then word (windowStored (off % 0x400) w.toNat) else w)
  else if 0x5900 ≤ off ∧ off < 0x5D00 then reactionStored ((off - 0x5900) / 4) w
  else if 0x6800 ≤ off ∧ off < 0x6900 ∧ off % 0x40 = 4 then noThree ⟨off, 0, 2⟩ w
  else hubStored off w

/-- RW and RWS bits of a register as they stand: applied values (R7). -/
def State.standing (s : State) (off : Nat) (d : RegDef) : Word :=
  let m := d.rw ||| d.rws
  if 0x8000 ≤ off then s.stored off &&& m
  else if off = 0x2000 then BitVec.ofNat 32 s.now
  else if off = 0x2004 then BitVec.ofNat 32 (s.now / 2 ^ 32)
  else s.regWord off &&& m

/-- RW and RWS bits as a write leaves them: bits outside MASK keep their value (R468). -/
def written (off : Nat) (d : RegDef) (old : Word) (w : Wr) (kinds : Word) : Word :=
  let m := w.mask &&& kinds
  stores off ((old &&& ~~~m) ||| (w.value &&& m)) &&& (d.rw ||| d.rws)

/-! ### How a write is judged (R473, R474) -/

/-- Over BAR0 a write is direct and writes every bit (R322, R468). -/
def Wr.direct (w : Wr) : Wr :=
  match w.origin with
  | .bar0 => { w with mask := 0xFFFFFFFF, accord := 0 }
  | .ring _ | .loop _ _ _ | .bcast => w

/-- BAR0 writes that act in BOOT. -/
def bootWrites (off : Nat) : Bool :=
  off == 0x1C || off == 0x24 || (decide (0x30 ≤ off) && decide (off < 0x40)) || hostBlock off

/-- Check 2: the status with which the module state refuses a write. -/
def State.writeRefusedIn (s : State) (off : Nat) (bar : Bool) : Option Status :=
  match s.st with
  | .off | .dormant => some .busy
  | .boot => if bar && bootWrites off then none else some .busy
  | .startupTest =>
    if bar && (bootWrites off || (decide (0x1800 ≤ off) && decide (off < 0x2400))) then none else some .busy
  | .ready | .run | .halt | .orphan => none
  | .drydown => some .rejected
  | .shutdownLatched => some .tempInhibit

/-- GLB_LOCK locks the register's block (R476). -/
def State.blockLocked (s : State) (d : RegDef) : Bool := decide (d.block < 16) && (s.stored 0x24).getLsbD d.block

/-- Segment of a window offset. -/
def windowSeg (off : Nat) : Seg := seg ((off - 0x8000) / 0x400)

/-- Check 8: a window register outside the hub needs its link up and its shadow restored (R256, R477). -/
def State.windowOpen (s : State) (off : Nat) : Bool :=
  !(decide (0x8000 ≤ off)) || hubHeld (off % 0x400) ||
    (s.linkUp (windowSeg off) && (s.segs.get (windowSeg off)).shadowOk)

/-- Limits that single fields put on a direct write: GLB_CTRL (R484), STEP_CTRL.SOURCE (R126), PLAY_CTRL.SWAP (R91). -/
def State.fieldAllows (s : State) (off : Nat) (old new v : Word) : Bool :=
  if off = 0x1C then !v.getLsbD 0 || fieldOf Fld.glbCtrlConfirm v == 0xA5
  else if off = 0x3800 then old.getLsbD 0 == new.getLsbD 0 || s.st == .ready
  else if off = 0x2800 then !v.getLsbD 0 || s.directSwap.isSome
  else true

/-- The status of a write: .ok when it passes every check. -/
def State.judgeWrite (s : State) (off : Nat) (w : Wr) : Status :=
  if off % 4 ≠ 0 ∨ 0x10000 ≤ off then .rejected
  else match s.writeRefusedIn off (w.origin == .bar0) with
    | some st => st
    | none =>
      if s.hostAbsent off && decide (off ≤ 0x1068) && w.accord == 0 then .ok
      else match regAt off with
        | none => .rejected
        | some d =>
          let old := s.standing off d
          let staged := w.accord != 0
          let new := written off d old w (if staged then d.rws else d.rw ||| d.rws)
          if d.rw ||| d.rws ||| d.w1c ||| d.wo = 0 then .rejected
          else if staged && w.accord.toNat != s.acc.id then .rejected
          else if s.blockLocked d && new != old then .locked
          else if staged && s.acc.st != .isOpen then .sequence
          else if staged && d.rws == 0 then .rejected
          else if staged && decide (256 ≤ s.acc.count) then .capacity
          else if !staged && s.inRun && (new &&& d.rws) != (old &&& d.rws) then .rejected
          else if !staged && !s.fieldAllows off old new (w.value &&& w.mask) then .rejected
          else if !s.windowOpen off then .busy
          else .ok

/-! ### What a write brings about -/

/-- PWR (R223, R236 to R241). -/
def State.writePwr (s : State) (off : Nat) (new v : Word) : State :=
  match off with
  | 0x0804 =>
    let s := s.store off (new &&& ~~~s.headOnly off)
    if s.st == .ready then s.setPower s.pwr.st else s
  | 0x0808 => (s.store off new).budgetWritten
  | 0x0810 | 0x0814 => (s.store off new).copyDrydown
  | 0x081C => s.wroteWakeCause v
  | _ => s.store off new

/-- HOST of a head (R325, R342, R347 to R352). -/
def State.writeHost (s : State) (off : Nat) (new v : Word) : State :=
  let en := s.flag Fld.hostCtrlEn
  match off with
  | 0x1000 =>
    if en then
      let s := s.setFld Fld.hostCtrlCmdTimeoutMs (fieldOf Fld.hostCtrlCmdTimeoutMs new)
      if new.getLsbD 0 then s else s.disableHost
    else
      let s := if v.getLsbD 1 then s.resetRings else s
      let s := s.store off (new &&& ~~~1)
      if new.getLsbD 0 then s.enableHost else s
  | 0x1060 | 0x1064 => s.store off new
  | 0x1068 => s.modHost (fun h => { h with err := h.err &&& ~~~((v &&& 0x7F).setWidth 10) })
  | _ => if en then s else s.store off new

/-- LOOP (R263, R289 to R296). -/
def State.writeLoop (s : State) (off : Nat) (old new v : Word) : State :=
  match off with
  | 0x1800 =>
    let s := s.store off new
    let act (s : State) (p : Port) (bit retrain : Nat) : State :=
      let s := if old.getLsbD bit != new.getLsbD bit then s.restartPort p else s
      if v.getLsbD retrain then s.retrainPort p else s
    act (act s .a 0 2) .b 1 3
  | 0x1804 => if v.getLsbD 5 then s.modLoop (fun l => { l with wakeSeen := false }) else s
  | 0x1808 =>
    if s.isHead then (s.store off (new &&& 4)).modLoop (fun l => { l with topo := new.getLsbD 1 }) else s
  | _ => s.store off new

/-- TIME (R301 to R303, R315 to R318). -/
def State.writeTime (s : State) (off : Nat) (new v : Word) : State :=
  let follow := s.flag Fld.timeCtrlFollow
  match off with
  | 0x2000 =>
    match s.tu.hiWritten with
    | some hi =>
      let s := s.modTu (fun t => { t with hiWritten := none })
      let t := hi.toNat * 2 ^ 32 + new.toNat
      if follow then s else if s.stepPermitted then s.setTime t else s.beginSlew (10 * ((t : Int) - s.now))
    | none => s
  | 0x2004 => if follow then s else s.modTu (fun t => { t with hiWritten := some new })
  | 0x2008 =>
    let s := (s.store off new).modTu (fun t => { t with hiWritten := if new.getLsbD 0 then none else t.hiWritten })
    if follow && !new.getLsbD 0 then s.followOff else s
  | 0x200C => if v.getLsbD 16 then s.modTu (fun t => { t with stepped := false }) else s
  | 0x2014 => if follow then s else s.modTu (fun t => { t with trim := signed 24 (new.toNat % 2 ^ 24) })
  | 0x2018 => if s.isHead then s.store off new else s
  | _ => s.store off new

/-- PLAY (R90, R91, R101): a direct SWAP, RUNG_FREEZE, and the policy until its LOCK. -/
def State.writePlay (s : State) (off : Nat) (new v : Word) : State :=
  match off with
  | 0x2800 =>
    let s := if v.getLsbD 0 then s.directSwap.getD s else s
    s.store off (new &&& ~~~1)
  | 0x281C => if s.flag Fld.playFlaconPolicyLock then s else (s.store off new).unverify
  | _ => s.store off new

/-- SPC and STEP (R111, R114, R127, R134 to R142). -/
def State.writeSpc (s : State) (off : Nat) (old new v : Word) : State :=
  match off with
  | 0x3000 => (s.store off new).wroteSpcEn (old.getLsbD 0) (new.getLsbD 0)
  | 0x3008 | 0x3014 | 0x3018 => (s.store off new).wroteCapacity
  | 0x300C => s.clearFailed (v.toNat % 256)
  | 0x3010 => (s.store off new).clampWidths
  | 0x3800 => (s.store off new).wroteStepCtrl (old.getLsbD 0 != new.getLsbD 0)
  | _ => s.store off new

/-- MEAS (R149, R152, R180, R182): a changed corner restarts the filters that use it. -/
def State.writeMeas (s : State) (off : Nat) (old new v : Word) : State :=
  match off with
  | 0x4004 =>
    let t := s.store off new
    each (allCells.filter (fun k => s.cornerOf k != t.cornerOf k)) (fun s k => s.modMeas k (fun m => m.ask false s.now)) t
  | 0x400C => (s.store off new).readmit (fieldOf Fld.measShuntCfgExcluded v)
  | 0x4014 => if new = old then s else (s.store off new).unverify
  | _ => s.store off new

/-- ANA (R204, R205, R209). -/
def State.writeAna (s : State) (off : Nat) (new v : Word) : State :=
  if off = 0x4800 then s.wroteAnaCtrl v else s.store off new

/-- THERM (R359, R376). -/
def State.writeTherm (s : State) (off : Nat) (new v : Word) : State :=
  let s := s.store off new
  if off = 0x5000 && v.getLsbD 2 then s.startSlow else s

/-- FLT (R403, R405 to R412). -/
def State.writeFlt (s : State) (off : Nat) (new v : Word) : State :=
  match off with
  | 0x5800 => (s.store off new).wroteFltCtrl v
  | 0x5808 => s.wroteFltClear (v.toNat % 2 ^ 16)
  | _ => s.store off new

/-- CHK (R425, R429, R438 to R441): a locked context ignores the write, and the running value and digest of a scan in
progress are not written. -/
def State.writeChk (s : State) (off : Nat) (new v : Word) : State :=
  let (c, r) := chkOf off
  let x := s.chk.get c
  if s.chkLocked c then s
  else if r = 0 then
    let s := s.store off new
    let s := if v.getLsbD 1 then s.abortScan c else s
    if v.getLsbD 0 then (s.startScan c none).2 else s
  else if r < 0x14 then s.store off new
  else if x.st == .running || x.st == .waiting then s
  else if r = 0x14 then s.modChk c (fun x => { x with runLo := new })
  else if r = 0x18 then s.modChk c (fun x => { x with runHi := new })
  else s.modChk c (fun x => { x with digest := x.digest.set (Fin.ofNat 8 ((r - 0x20) / 4)) new })

/-- NVM (R444, R450, R461). -/
def State.writeNvm (s : State) (off : Nat) (new v : Word) : State :=
  let s := (s.store off new).startRepair
  if off = 0x7000 && v.getLsbD 2 then s.collectLogs else s

/-- The feed of a segment is switched off: the segment goes on from its stack, or is unpowered (R256, R261). -/
def State.feedOff (s : State) (g : Seg) : State :=
  ((s.abortSegSlice g).segFeedOff g).modSeg g (fun x => { x with feedRestoreAt := none })

/-- Window registers that the hub holds itself (R256, R258, R261): SEG_RESET, LINK_RETRAIN, the carriers, the feed. A
feed that is switched on is in range after 6 ms (R448). -/
def State.writeSegHub (s : State) (off : Nat) (old new v : Word) : State :=
  let g := windowSeg off
  if off % 0x400 = 0 then
    let s := s.store off new
    let s := if v.getLsbD 0 then s.segResetAsked g else s
    if v.getLsbD 1 then s.retrainLink g else s
  else
    match old.getLsbD 0, new.getLsbD 0 with
    | true, false => if s.st == .ready || s.st == .boot then (s.store off new).feedOff g else s
    | false, true => (s.store off new).modSeg g (fun x => { x with feedRestoreAt := some (s.now + 6000000) })
    | _, _ => s

/-- A write that passed its checks acts on a register of the hub: `new` its RW and RWS bits, `v` the bits written
with 1 under MASK. -/
def State.writeHub (s : State) (off : Nat) (old new v : Word) : State :=
  if 0x8000 ≤ off then s.writeSegHub off old new v
  else match off / 0x400 with
    | 0 | 1 =>
      if off = 0x1C then (if v.getLsbD 0 then s.requestReset 4 else s)
      else if off = 0x24 then s.store off (old ||| new)
      else s.store off new
    | 2 | 3 => s.writePwr off new v
    | 4 | 5 => s.writeHost off new v
    | 6 | 7 => s.writeLoop off old new v
    | 8 => s.writeTime off new v
    | 10 | 11 => s.writePlay off new v
    | 12 | 13 | 14 | 15 => s.writeSpc off old new v
    | 16 | 17 => s.writeMeas off old new v
    | 18 | 19 => s.writeAna off new v
    | 20 | 21 => s.writeTherm off new v
    | 22 | 23 => s.writeFlt off new v
    | 26 | 27 => s.writeChk off new v
    | 28 | 29 => s.writeNvm off new v
    | _ => s.store off new

/-- Hub domain in which the block of an offset works (R222). -/
def domainOf (off : Nat) : Nat :=
  if 0x3000 ≤ off ∧ off < 0x4000 then 3
  else if 0x4800 ≤ off ∧ off < 0x5000 then 2
  else if 0x7000 ≤ off ∧ off < 0x8000 then 7
  else 1

/-- A write to a block whose domain is off returns the module to ACTIVE (R218, R470). -/
def State.wakeBlock (s : State) (off : Nat) : State :=
  if s.st == .ready && s.pwr.st == .doze && !s.pwr.hubOn.getLsbD (domainOf off) then s.stopEntry.setPower .active else s

/-- A write of CHK_CTRL.START completes BUSY or REJECTED where the start is turned away (R429); an ABORT in the same
write acts first. -/
def State.startAnswer (s : State) (off : Nat) (v : Word) : Status :=
  let (c, r) := chkOf off
  if 0x6800 ≤ off ∧ off < 0x6900 ∧ r = 0 ∧ v.getLsbD 0 = true ∧ s.chkLocked c = false then
    ((if v.getLsbD 1 then s.abortScan c else s).startScan c none).1
  else .ok

/-- A staged write that was applied at this tick stands over a direct write to the same field (R313). -/
def State.stagedLast (s : State) (off : Nat) (d : RegDef) : State :=
  match s.acc.applied with
  | some (t, l) =>
    if t = s.now ∧ off ≠ 0x2800 then
      each (l.filter (fun w => w.off == off)) (fun s w =>
        let old := s.standing off d
        s.writeHub off old (written off d old ⟨.bar0, w.value, w.mask, 0⟩ d.rws) 0) s
    else s
  | none => s

/-- A loop write to the same register at this tick stands over a BAR0 write taken after it: BAR0 acts first (R472). -/
def State.loopLast (s : State) (off : Nat) (d : RegDef) (o : Origin) : State :=
  if o == .bar0 then
    each (s.host.met.filter (fun m => m.1 == s.now && m.2.1 == off)) (fun s m =>
      let old := s.standing off d
      s.writeHub off old (written off d old m.2.2.2 (d.rw ||| d.rws)) 0) s
  else s

/-- A direct write acts: a window register outside the hub is written by a CONFIG message and answered when the
segment acknowledges it (R249, R471). -/
def State.directWrite (s : State) (off : Nat) (d : RegDef) (w : Wr) : State × Option Result :=
  let v := w.value &&& w.mask
  if 0x8000 ≤ off ∧ !hubHeld (off % 0x400) then
    (s.sendDown (windowSeg off) (.config off w.value (w.mask &&& (d.rw ||| d.rws ||| d.w1c ||| d.wo)) false w.origin), none)
  else
    let old := s.standing off d
    let t := s.writeHub off old (written off d old w (d.rw ||| d.rws)) v
    ((t.stagedLast off d).loopLast off d w.origin, some (Result.of (s.startAnswer off v)))

/-- A staged write (R307, R475): counted, kept for T, and held in the segment if it is for a window. -/
def State.stageWrite (s : State) (off : Nat) (d : RegDef) (w : Wr) : State × Option Result :=
  let m := w.mask &&& d.rws
  let s := s.modAcc (fun a => { a with count := a.count + 1, staged := a.staged ++ [⟨off, w.value, m⟩] })
  let s := if off = 0x2800 && m.getLsbD 0 then s.modPlay (fun p => { p with swapStaged := w.value.getLsbD 0 }) else s
  if 0x8000 ≤ off then (s.sendDown (windowSeg off) (.config off w.value m true w.origin), none)
  else (s, some (Result.of .ok))

/-- A register write: its status, none where a segment still has to acknowledge it, and the state after it. A write
that fails a check changes nothing (R474). -/
def State.writeReg (s : State) (off : Nat) (w : Wr) : State × Option Result :=
  let w := Wr.direct w
  match s.judgeWrite off w with
  | .ok =>
    match (if s.hostAbsent off then none else regAt off) with
    | none => (s, some (Result.of .ok))
    | some d =>
      let s := s.wakeBlock off
      if w.accord = 0 then s.directWrite off d w else s.stageWrite off d w
  | st => (s, some (Result.of st))

end Sys2Proof.Machine
end

