-- ==== Sys2Proof/Machine/AccordOps.lean ====
section
/-!
DEFINITION. Accords (chapter 10, R306 to R313): the four commands, the staged writes at T, and the end of the grace
time.
-/

namespace Sys2Proof.Machine

/-- The four commands judge an operand ID (R310): it names the accord only if it is not 0. -/
def State.sameAccord (s : State) (id : BitVec 16) : Bool := id != 0 && id.toNat == s.acc.id

/-- The status of an accord command is kept (R319). -/
def State.accordAnswer (s : State) (st : Status) : State × Status := (s.modAcc (fun a => { a with lastStatus := st }), st)

/-- Segments for which the accord has staged writes. -/
def State.stagedSegs (s : State) : List Seg :=
  allSegs.filter (fun g => s.acc.staged.any (fun w => decide (w.off / 0x400 = 0x20 + g.val)))

/-- ACCORD_BEGIN (R310). -/
def State.accordBegin (s : State) (id : BitVec 16) : State × Status :=
  match s.acc.st with
  | .split => s.accordAnswer .accordSplit
  | .isOpen | .prepared =>
    if id = 0 then s.accordAnswer .rejected
    else if s.sameAccord id then s.accordAnswer .ok
    else s.accordAnswer .busy
  | .idle | .committed | .rolledBack =>
    if id = 0 || s.sameAccord id then s.accordAnswer .rejected
    else (s.modAcc (fun a => { a with
      st := .isOpen, id := id.toNat, count := 0, failed := 0, commitSeen := false, isPartial := false, t := 0
      staged := [] })).accordAnswer .ok

/-- The time unit is good enough for PREPARE (R308): LOCKED, or HOLDOVER for no longer than LIMIT_S. -/
def State.timeGood (s : State) : Bool :=
  s.tu.st == 2 || (s.tu.st == 3 && (match s.tu.holdFrom with
    | some a => decide (s.now - a ≤ 1000000000 * s.fld Fld.timeHoldoverLimitS)
    | none => false))

/-- Staged writes on their way to a segment: check 6 of PREPARE waits for them (R308, the accord timing table). -/
def State.stagedAway (s : State) (g : Seg) : Nat :=
  ((s.links.get g).onWay.filter (fun m => match m with
    | .config _ _ _ b _ => b
    | _ => false)).length

/-- A segment's link is up and the segment holds, or is about to hold, every write staged for it. -/
def State.holdsStaged (s : State) (g : Seg) : Bool :=
  s.linkUp g && decide ((s.segs.get g).staged.length + s.stagedAway g =
    (s.acc.staged.filter (fun w => decide (w.off / 0x400 = 0x20 + g.val))).length)

/-- Checks 2 to 6 of PREPARE. -/
def State.judgePrepare (s : State) (count t : Nat) : Status :=
  if count ≠ s.acc.count then .sequence
  else if t < s.now + 1000000 ∨ s.now + 2 ^ 40 < t then .rejected
  else if !s.timeGood then .rejected
  else if s.play.swapStaged && !(s.play.staged.verified && s.st == .ready) then .rejected
  else if !(s.stagedSegs.all s.holdsStaged) then .timeout
  else .ok

/-- ACCORD_PREPARE (R308, R310). -/
def State.accordPrepare (s : State) (id : BitVec 16) (count t : Nat) : State × Status :=
  if s.acc.st == .split then s.accordAnswer .accordSplit
  else if !s.sameAccord id then s.accordAnswer .rejected
  else match s.acc.st with
    | .isOpen =>
      match s.judgePrepare count t with
      | .ok => (s.modAcc (fun a => { a with
          st := .prepared, t := t, grace := 1000 * s.fld Fld.accGraceGraceUs })).accordAnswer .ok
      | st => s.accordAnswer st
    | .prepared => s.accordAnswer (if t = s.acc.t then .ok else .rejected)
    | .idle | .committed | .rolledBack | .split => s.accordAnswer .sequence

/-- The split fault (R310). -/
def State.splitNow (s : State) : State := (s.rollBack .split).raise .accordSplit none none (word s.acc.id) 0 0

/-- ACCORD_COMMIT (R309, R310). -/
def State.accordCommit (s : State) (id : BitVec 16) (t : Nat) : State × Status :=
  if s.acc.st == .split then s.accordAnswer .accordSplit
  else if !s.sameAccord id then s.accordAnswer .rejected
  else match s.acc.st with
    | .idle | .isOpen | .split => s.accordAnswer .sequence
    | .rolledBack => s.accordAnswer .rejected
    | .committed => s.accordAnswer (if t = s.acc.t then .ok else .rejected)
    | .prepared =>
      if t ≠ s.acc.t then s.accordAnswer .rejected
      else if s.acc.commitSeen then s.accordAnswer .ok
      else if s.now + 50000 ≤ t then
        let s := s.modAcc (fun a => { a with commitSeen := true })
        (each (s.stagedSegs.filter s.linkUp) (fun s g => s.sendDown g (.cmd (.applyAccord t))) s).accordAnswer .ok
      else s.splitNow.accordAnswer .accordSplit

/-- ACCORD_ABORT (R310, R312). -/
def State.accordAbort (s : State) (id : BitVec 16) : State × Status :=
  if s.acc.st == .split then
    if s.sameAccord id then (s.modAcc (fun a => { a with st := .idle, id := 0, t := 0 })).accordAnswer .ok
    else s.accordAnswer .accordSplit
  else if !s.sameAccord id then s.accordAnswer .rejected
  else match s.acc.st with
    | .isOpen | .prepared => (s.rollBack .rolledBack).accordAnswer .ok
    | .rolledBack => s.accordAnswer .ok
    | .idle | .committed | .split => s.accordAnswer .rejected

/-! ### At T (R311) -/

/-- A staged write that cannot take effect. -/
def State.stagedFails (s : State) : State := s.modAcc (fun a => { a with failed := a.failed + 1 })

/-- The staged swap: the banks are exchanged if the staged bank is VERIFIED and the module in READY, with the player
EMPTY or ARMED (R91, R92), and no event of the same tick leads out of READY (R313). -/
def State.stagedSwap (s : State) : State :=
  if s.canSwap && s.st == .ready && s.overtaken.isNone then s.swapBanks
  else s.stagedFails.raise .swapFailed none none (word s.acc.id) 0 0

/-- A staged write carries SWAP. -/
def stagesSwap (w : Staged) : Bool := w.off == 0x2800 && w.mask.getLsbD 0

/-- One staged write takes effect; `last` tells that no later one carries SWAP. -/
def State.applyOne (s : State) (w : Staged) (last : Bool) : State :=
  if 0x8000 ≤ w.off then
    let g := windowSeg w.off
    if (s.segs.get g).accordAt = some s.acc.t ∧ s.acc.t ≠ 0 then
      let s := s.applyWindow g w.off w.value w.mask
      s.store w.off (Sparse.get resetOf (s.segs.get g).win w.off)
    else s.stagedFails
  else match regAt w.off with
    | none => s
    | some d =>
      let old := s.standing w.off d
      let new := written w.off d old ⟨.bar0, w.value, w.mask, 0⟩ d.rws
      let s := s.writeHub w.off old new (w.value &&& w.mask &&& (if w.off = 0x2800 then ~~~1 else ~~~0))
      if stagesSwap w && last && w.value.getLsbD 0 then s.stagedSwap else s

/-- The staged writes in staging order. -/
def State.applyStaged : List Staged → State → State
  | [], s => s
  | w :: t, s => State.applyStaged t (s.applyOne w (!t.any stagesSwap))

/-- The accord commits: writes applied, segments free of it, PARTIAL and its fault where a write failed. -/
def State.commitNow (s : State) : State :=
  let gs := s.stagedSegs
  let s := State.applyStaged s.acc.staged s
  let clear (s : State) (g : Seg) : State :=
    if (s.segs.get g).accordAt = some s.acc.t then s.modSeg g (fun x => { x with staged := [], accordAt := none })
    else s.sendDown g (.cmd .dropAccord)
  let s := each gs clear s
  let s := (s.modAcc (fun a => { a with
    st := .committed, staged := [], isPartial := decide (a.failed ≠ 0), applied := some (s.now, a.staged) })).modPlay
    (fun p => { p with swapStaged := false })
  if s.acc.failed = 0 then s
  else s.raise .accordPartial none none (word s.acc.id) (word s.acc.failed) 0

/-- ACCORD_APPLY (R311): the tick of T, with COMMIT_SEEN. A reset or a 150 °C event of the same tick goes first and ends
the accord (R310, R313). -/
def execAccordApply (s : State) : Host.Outcome State Fault Refusal :=
  if s.powered && s.acc.st == .prepared && s.acc.commitSeen && decide (s.acc.t ≤ s.now) && !s.shutdownComing &&
      !s.resetComing then s.commitNow.done
  else s.done

/-- GRACE_EXPIRY (R310): T + grace without COMMIT_SEEN. -/
def execGraceExpiry (s : State) : Host.Outcome State Fault Refusal :=
  if s.powered && s.acc.st == .prepared && !s.acc.commitSeen && decide (s.acc.t + s.acc.grace ≤ s.now) then s.splitNow.done
  else s.done

end Sys2Proof.Machine
end

