-- ==== Sys2Proof/Machine/Commands.lean ====
section
/-!
DEFINITION. The command opcodes (R331): which module states refuse them (R23, R219, R370, R452, R473), what each does,
and how a CMD frame's or a descriptor's operand bytes are taken.
-/

namespace Sys2Proof.Machine

/-! ### Refusals by module state -/

/-- Opcodes answered in SHUTDOWN_LATCHED (R370); `mild` tells mode FETCH of RESULT_FETCH. -/
def latchedAnswers (op : Nat) (mild : Bool) : Bool := op == 1 || op == 3 || op == 0x60 || op == 0x11 || (op == 0x41 && mild)

/-- The status with which the module state refuses an opcode; none where the opcode is judged by its own rule. `mild`:
a REG_READ of GLB or PWR, or a RESULT_FETCH in mode FETCH. REG_WRITE is judged under R473. -/
def State.refusal (s : State) (op : Nat) (mild : Bool) : Option Status :=
  match s.st with
  | .off | .dormant => some .busy
  | .boot =>
    if op = 1 || op = 2 || (op = 3 && !s.glb.recovery) || (op = 0xA0 && s.glb.recovery) then none else some .busy
  | .startupTest => if op = 1 || op = 2 || op = 3 || op = 0x52 || op = 0x10 then none else some .busy
  | .ready | .run | .halt | .orphan => none
  | .drydown => if op = 0x81 || op = 0x80 || op = 0x52 || op = 2 || (op = 1 && mild) then none else some .rejected
  | .shutdownLatched => if op = 2 || latchedAnswers op mild then none else some .tempInhibit

/-- A command is taken: it counts for the power manager unless it is a broadcast or a BAR0 access (R217, R218), and is
refused by the module state or judged by k. -/
def State.gated (s : State) (o : Origin) (op : Nat) (mild : Bool) (k : State → State × Option Result) :
    State × Option Result :=
  let s := match o with
    | .ring _ | .loop _ _ _ => s.noteCommand
    | .bar0 | .bcast => s
  match s.refusal op mild with
  | some st => (s, some (Result.of st))
  | none => k s

/-- A result that the command has at once. -/
def State.now_ (s : State) (r : Result) : State × Option Result := (s, some r)

/-- A status that the command has at once. -/
def State.ends (s : State) (st : Status) : State × Option Result := (s, some (Result.of st))

/-- The module is in one of the states named. -/
def State.among (s : State) (l : List ModState) : Bool := l.any (fun m => m == s.st)

/-! ### Registers (R468 to R475) -/

def badOffset (off : Nat) : Bool := off % 4 != 0 || decide (0x10000 ≤ off)

/-- The register writes that a row makes: offset and write. -/
def writesOf : Instr → List (Nat × Wr)
  | .resetReq w => [(0x1C, w)]
  | .fltClear w => [(0x5808, w)]
  | .firstRearm w | .ovfClear w | .countClear w => [(0x5800, w)]
  | .slowRound (some w) => [(0x5000, w)]
  | .swap w => [(0x2800, w)]
  | .phaseReturn w => [(0x300C, w)]
  | .spcCtrlEn w => [(0x3000, w)]
  | .stepCtrlSource w => [(0x3800, w)]
  | .shuntReadmit w => [(0x400C, w)]
  | .guardWrite w => [(0x4014, w)]
  | .snapNow w | .kvalSnap w | .kvalReset w => [(0x4800, w)]
  | .anomalyClear w => [(0x081C, w)]
  | .drydownCfgCopy cfg w => [(if cfg then 0x0814 else 0x0810, w)]
  | .linkRetrain g w | .segReset g w => [(0x8000 + 0x400 * g.val, w)]
  | .portEnable w | .retrain w => [(0x1800, w)]
  | .timeNowWrite hi lo => [(0x2004, hi), (0x2000, lo)]
  | .followOff w => [(0x2008, w)]
  | .regWrite off w => [(off, w)]
  | .flaconPolicyWrite w => [(0x281C, w)]
  | .logCopy w => [(0x7000, w)]
  | .hostEnable w | .resetRings w => [(0x1000, w)]
  | .scanStart c w | .scanAbort c w => [(0x6800 + 0x40 * c.val, w)]
  | _ => []

/-- BAR0 writes to a register of the hub that wait for this tick. -/
def State.barWrites (s : State) (off : Nat) : List Wr :=
  if s.hostPowered && decide (off < 0x8000) then
    ((s.pending.flatMap writesOf).filter (fun a => a.1 == off && a.2.origin == .bar0)).map (·.2)
  else []

/-- A BAR0 access to a register of the hub waits for this tick. -/
def State.barComing (s : State) (off : Nat) : Bool :=
  !(s.barWrites off).isEmpty || (s.hostPowered && s.coming (fun i => match i with
    | .regRead .bar0 o => o == off
    | _ => false))

/-- The state in which a loop access reads: BAR0 writes to the register at the same tick act before it (R472). -/
def State.afterBar (s : State) (off : Nat) (o : Origin) : State :=
  if o == .bar0 then s else each (s.barWrites off) (fun s w => (s.writeReg off w).1) s

def State.doRegRead (s : State) (o : Origin) (off : Nat) : State × Option Result :=
  s.gated o 0x01 (decide (off < 0x1000)) (fun s =>
    if badOffset off then s.ends .rejected
    else if o != .bar0 && !(s.barWrites off).isEmpty then
      s.now_ (Result.val .ok ((s.afterBar off o).readAt off false).1.toNat)
    else
      let (w, s) := s.readAt off (match o with
        | .bar0 => true
        | .ring _ | .loop _ _ _ | .bcast => false)
      s.now_ (Result.val .ok w.toNat))

def State.doReadBlock (s : State) (o : Origin) (off count : Nat) : State × Option Result :=
  s.gated o 0x03 false (fun s =>
    if off % 4 ≠ 0 ∨ count = 0 ∨ 60 < count ∨ 0x10000 < off + 4 * count then s.ends .rejected
    else
      let (l, s) := s.readMany off count
      s.now_ ⟨.ok, 0, (l.map (fun (w : Word) => leBytes 4 w.toNat)).flatten⟩)

def State.doRegWrite (s : State) (off : Nat) (w : Wr) : State × Option Result :=
  s.gated w.origin 0x02 false (fun s =>
    if w.origin != .bar0 && w.accord == 0 && s.judgeWrite off w == .ok && s.barComing off then
      let was := s.regWord off
      ((s.modHost (fun h => { h with met := h.met.filter (fun m => m.1 == s.now) ++ [(s.now, off, was, w)] })).writeReg off w)
    else s.writeReg off w)

/-! ### Loop, flacons, accords, results -/

def State.doCensus (s : State) (o : Origin) : State × Option Result := s.gated o 0x10 false (fun s => s.censusCmd o)

/-- LOOP_PING: the round trip is the head's to add. -/
def State.doPing (s : State) (o : Origin) : State × Option Result :=
  s.gated o 0x11 false (fun s =>
    s.now_ ⟨.ok, 0, leBytes 8 s.now ++ leBytes 4 (s.glbWord 0x10) ++ leBytes 4 (s.loopWord 0x1804)⟩)

/-- A pair in the other order. -/
def swapPair {α β : Type} (x : α × β) : β × α := (x.2, x.1)

def State.doLoad (s : State) (o : Origin) (slot : Option (Fin 8)) (offset total : Nat) (data : List Byte) :
    State × Option Result :=
  s.gated o 0x20 false (fun s =>
    let r := s.flaconLoad slot offset total data
    r.2.now_ r.1)

def State.doVerify (s : State) (o : Origin) (store : Option (Fin 8)) : State × Option Result :=
  s.gated o 0x21 false (fun s => swapPair (s.flaconVerify o store))

def State.doErase (s : State) (o : Origin) (target : Nat) : State × Option Result :=
  s.gated o 0x22 false (fun s => swapPair (s.flaconErase o target))

/-- An accord command, accepted in READY and RUN (R306); its status is kept, whatever it is (R319). -/
def State.doAccord (s : State) (o : Origin) (op : Nat) (k : State → State × Status) : State × Option Result :=
  match s.gated o op false (fun s =>
    if s.among [.ready, .run] then
      let r := k s
      r.1.ends r.2
    else s.ends .rejected) with
  | (s, some r) => (s.modAcc (fun a => { a with lastStatus := r.status }), some r)
  | (s, none) => (s, none)

def State.doSweep (s : State) (o : Origin) (id plan t : Nat) (cells : BitVec 256) : State × Option Result :=
  s.gated o 0x40 false (fun s =>
    if id = 0 then s.ends .rejected
    else
      let r := s.sweepCmd id plan t cells
      r.2.ends r.1)

def State.doFetch (s : State) (o : Origin) (slot gen : Nat) : State × Option Result :=
  s.gated o 0x41 true (fun s =>
    if 16384 ≤ slot then s.ends .rejected
    else
      let r := s.fetchResult slot gen
      r.2.now_ r.1)

def State.doMarks (s : State) (o : Origin) (items : List (Nat × Nat × Nat)) : State × Option Result :=
  s.gated o 0x41 false (fun s =>
    let r := s.takeMarks o items
    r.2.now_ r.1)

/-- States in which streams run: those in which the segments measure. -/
def State.doStreamStart (s : State) (o : Origin) (segs : BitVec 16) (kinds : BitVec 8) (cells : BitVec 256) :
    State × Option Result :=
  s.gated o 0x42 false (fun s =>
    let r := s.streamStart segs kinds cells
    r.2.ends r.1)

def State.doStreamStop (s : State) (o : Origin) : State × Option Result :=
  s.gated o 0x43 false (fun s => s.streamStop.ends .ok)

/-! ### RUN, STOP, HALT, RELEASE_PARK (R23, R25, R33, R74, R93) -/

def State.doRun (s : State) (o : Origin) (t : Nat) : State × Option Result :=
  s.gated o 0x50 false (fun s =>
    match s.overtaken with
    | some st => s.ends st
    | none => if s.st == .ready then
      let r := s.runCmd t
      r.2.ends r.1
    else s.ends .rejected)

/-- READY is reached from HALT or ORPHAN: cells stay in PARK, the player is ARMED, park symbols that wait for a link
are dropped (log 21). -/
def State.toReady (s : State) : State :=
  let s := (s.enter .ready).modPlay (fun p => { p with st := if p.st == .halted then .armed else p.st })
  s.setLinks (s.links.map (fun l => { l with parkSym := none, parkLeft := 0 }))

/-- STOP in HALT (R23, R359, R421): failed slices are rerun, then comes a slow round. -/
def State.leaveHalt (s : State) : State :=
  let failed := s.failedSlices
  let s := (s.abortSlice.toReady.endInhibit inhHalt).modBist (fun b => { b with
    rerunQueue := failed, reruns := 0, slowDue := true, waitFrom := s.now })
  s.nextSlice.confirmSlot

/-- The orphan ramp or the parking after it still runs. -/
def State.orphanBusy (s : State) : Bool :=
  !s.loop.orphanSent || allCells.any (fun k =>
    let c := s.cells.get k
    s.linkUp (segOf k) && (c.st == .isIn || c.tr.isSome))

def State.doStop (s : State) (o : Origin) : State × Option Result :=
  s.gated o 0x51 false (fun s =>
    match s.overtaken with
    | some st => s.ends st
    | none => match s.st with
    | .run => s.stopRun o
    | .halt => if s.haltUncleared || !s.pins.estopN then s.ends .rejected else s.leaveHalt.ends .ok
    | .orphan =>
      if s.loop.silent then s.ends .rejected
      else if s.orphanBusy then s.ends .busy
      else (s.abortSlice.toReady.modSpc (fun x => { x with orphanRamp := false })).ends .ok
    | .off | .boot | .startupTest | .ready | .drydown | .dormant | .shutdownLatched => s.ends .rejected)

def State.doHalt (s : State) (o : Origin) : State × Option Result :=
  s.gated o 0x52 false (fun s =>
    if s.shutdownComing then s.ends .tempInhibit
    else if s.resetComing then s.ends .busy
    else s.abortSlice.haltNow.ends .ok)

def State.doRelease (s : State) (o : Origin) (cells : BitVec 256) : State × Option Result :=
  s.gated o 0x53 false (fun s => s.releaseCmd o cells)

/-! ### Faults, self-test, power, storage -/

def State.doFaultRead (s : State) (o : Origin) (what from_ : Nat) : State × Option Result :=
  s.gated o 0x60 false (fun s =>
    let r := s.faultRead what from_
    r.2.now_ r.1)

def State.doFaultClear (s : State) (o : Origin) (id : Nat) : State × Option Result :=
  s.gated o 0x61 false (fun s =>
    let r := s.clearFaults id
    (r.2.modFlt (fun f => { f with lastClear := r.1 })).ends r.1)

def State.doBist (s : State) (o : Origin) (n : Option Slice) : State × Option Result :=
  s.gated o 0x70 false (fun s => s.bistCmd o n)

def State.doScan (s : State) (o : Origin) (c : Fin 4) : State × Option Result :=
  s.gated o 0x71 false (fun s => s.checkCmd o c)

def State.doBudget (s : State) (o : Origin) (us : Word) : State × Option Result :=
  s.gated o 0x80 false (fun s => (s.powerBudgetCmd us).ends .ok)

def State.doWake (s : State) (o : Origin) : State × Option Result := s.gated o 0x81 false (fun s => s.wakeCmd o)

def State.doLogRead (s : State) (o : Origin) (source index : Nat) : State × Option Result :=
  s.gated o 0x90 false (fun s => s.now_ (s.logRead source index))

def State.doFw (s : State) (o : Origin) (k : State → Option Result × State) : State × Option Result :=
  s.gated o 0xA0 false (fun s => swapPair (k s))

/-! ### Operand bytes (R329, R331) -/

/-- Length that an opcode's operands have; none for an unknown opcode or mode. -/
def operandLength (op : Nat) (l : List Byte) : Option Nat :=
  match op with
  | 0x01 => some 4
  | 0x02 => some 16
  | 0x03 => some 8
  | 0x10 | 0x11 | 0x43 | 0x51 | 0x52 | 0x81 => some 0
  | 0x20 => match u l 0 1 with
    | 0 => if 12 < l.length ∧ l.length ≤ 240 ∧ l.length % 4 = 0 then some l.length else none
    | 1 => some 12
    | _ => none
  | 0x21 | 0x22 | 0x30 | 0x33 | 0x60 | 0x61 | 0x70 | 0x71 | 0x80 | 0x90 => some 4
  | 0x31 | 0x32 => some 16
  | 0x40 => some 44
  | 0x41 => match u l 0 1 with
    | 0 => some 8
    | 1 => if 1 ≤ u l 1 1 ∧ u l 1 1 ≤ 19 then some (4 + 12 * u l 1 1) else none
    | _ => none
  | 0x42 => some 36
  | 0x50 => some 8
  | 0x53 => some 32
  | 0xA0 => match u l 0 1 with
    | 0 => some 16
    | 1 => if 12 ≤ l.length ∧ l.length ≤ 240 ∧ l.length % 4 = 0 then some l.length else none
    | 2 | 3 | 4 => some 8
    | 0x10 => some 72
    | _ => none
  | _ => none

/-- Opcodes of R331. -/
def knownOpcode (op : Nat) : Bool :=
  [0x01, 0x02, 0x03, 0x10, 0x11, 0x20, 0x21, 0x22, 0x30, 0x31, 0x32, 0x33, 0x40, 0x41, 0x42, 0x43, 0x50, 0x51, 0x52, 0x53,
    0x60, 0x61, 0x70, 0x71, 0x80, 0x81, 0x90, 0xA0].contains op

/-- Opcodes that may be broadcast (R271). -/
def mayBroadcast (op : Nat) : Bool :=
  [0x02, 0x30, 0x31, 0x32, 0x33, 0x40, 0x50, 0x51, 0x52, 0x81, 0x80, 0x61, 0x43].contains op

/-- Operand bytes that are 0: offset and number. -/
def zeroFields (op : Nat) (l : List Byte) : List (Nat × Nat) :=
  match op with
  | 0x02 => [(14, 2)]
  | 0x03 => [(5, 3)]
  | 0x20 | 0x30 | 0x33 | 0x61 => [(2, 2)]
  | 0x21 | 0x22 | 0x70 | 0x71 => [(1, 3)]
  | 0x31 => [(4, 4)]
  | 0x32 => [(2, 6)]
  | 0x40 | 0x42 => [(3, 1)]
  | 0x41 => if u l 0 1 = 0 then [(1, 1), (6, 2)]
    else (2, 2) :: (List.range (u l 1 1)).map (fun i => (6 + 12 * i, 2))
  | 0x60 | 0x90 => [(1, 1)]
  | 0xA0 => if u l 0 1 = 1 then [(1, 3)] else [(1, 3), (4, 4)]
  | _ => []

/-- The operands have the opcode's length, their reserved bytes and bits are 0. -/
def operandsOk (op : Nat) (l : List Byte) : Bool :=
  operandLength op l == some l.length && (zeroFields op l).all (fun e => u l e.1 e.2 == 0) &&
    !(op == 0x42 && (u l 2 1).testBit 7)

/-- A flash slot named by a byte. -/
def slotOf (n : Nat) : Option (Fin 8) := if n < 8 then some (Fin.ofNat 8 n) else none

/-- FW_UPDATE by its PHASE (R453). -/
def State.fwPhase (s : State) (o : Origin) (l : List Byte) : State × Option Result :=
  match u l 0 1 with
  | 0 => s.doFw o (fun s => s.fwBegin o (u l 8 4) (u l 12 4))
  | 1 => s.doFw o (fun s => s.fwChunk o (u l 4 4) (l.drop 8))
  | 2 => s.doFw o (fun s => s.fwVerify o)
  | 3 => s.doFw o (fun s => s.fwActivate o)
  | 4 => s.doFw o (fun s => s.fwAbort)
  | _ => s.doFw o (fun s => s.fwKey o (l.drop 8))

/-- A command given by its opcode and operand bytes. -/
def State.perform (s : State) (o : Origin) (op : Nat) (l : List Byte) : State × Option Result :=
  if !knownOpcode op then s.gated o op false (fun s => s.ends .unsupported)
  else if !operandsOk op l then s.gated o op false (fun s => s.ends .rejected)
  else
    let bits (n i k : Nat) : BitVec n := BitVec.ofNat n (u l i k)
    match op with
    | 0x01 => s.doRegRead o (u l 0 4)
    | 0x02 => s.doRegWrite (u l 0 4) ⟨o, bits 32 4 4, bits 32 8 4, bits 16 12 2⟩
    | 0x03 => s.doReadBlock o (u l 0 4) (u l 4 1)
    | 0x10 => s.doCensus o
    | 0x11 => s.doPing o
    | 0x20 =>
      if u l 0 1 = 0 then s.doLoad o none (u l 4 4) (u l 8 4) (l.drop 12)
      else match slotOf (u l 1 1) with
        | some n => s.doLoad o (some n) (u l 4 4) (u l 8 4) []
        | none => s.gated o op false (fun s => s.ends .rejected)
    | 0x21 =>
      if u l 0 1 = 0xFF then s.doVerify o none
      else match slotOf (u l 0 1) with
        | some n => s.doVerify o (some n)
        | none => s.gated o op false (fun s => s.ends .rejected)
    | 0x22 => s.doErase o (u l 0 1)
    | 0x30 => s.doAccord o op (fun s => s.accordBegin (bits 16 0 2))
    | 0x31 => s.doAccord o op (fun s => s.accordPrepare (bits 16 0 2) (u l 2 2) (u l 8 8))
    | 0x32 => s.doAccord o op (fun s => s.accordCommit (bits 16 0 2) (u l 8 8))
    | 0x33 => s.doAccord o op (fun s => s.accordAbort (bits 16 0 2))
    | 0x40 => s.doSweep o (u l 0 2) (u l 2 1) (u l 4 8) (bits 256 12 32)
    | 0x41 =>
      if u l 0 1 = 0 then s.doFetch o (u l 2 2) (u l 4 2)
      else s.doMarks o ((List.range (u l 1 1)).map (fun i =>
        (u l (4 + 12 * i) 2, u l (8 + 12 * i) 4, u l (12 + 12 * i) 4)))
    | 0x42 => s.doStreamStart o (bits 16 0 2) (bits 8 2 1) (bits 256 4 32)
    | 0x43 => s.doStreamStop o
    | 0x50 => s.doRun o (u l 0 8)
    | 0x51 => s.doStop o
    | 0x52 => s.doHalt o
    | 0x53 => s.doRelease o (bits 256 0 32)
    | 0x60 => s.doFaultRead o (u l 0 1) (u l 2 2)
    | 0x61 => s.doFaultClear o (u l 0 2)
    | 0x70 =>
      if u l 0 1 = 0xFF then s.doBist o none
      else if u l 0 1 < 64 then s.doBist o (some (slice (u l 0 1)))
      else s.gated o op false (fun s => s.ends .rejected)
    | 0x71 =>
      if u l 0 1 < 4 then s.doScan o (Fin.ofNat 4 (u l 0 1)) else s.gated o op false (fun s => s.ends .rejected)
    | 0x80 => s.doBudget o (bits 32 0 4)
    | 0x81 => s.doWake o
    | 0x90 => s.doLogRead o (u l 0 1) (u l 2 2)
    | _ => s.fwPhase o l

/-! ### Answers -/

/-- A BAR0 read is answered with the register; an access that is not aligned is an Unsupported Request, and what a
read that the module state rejects returns is open (R322, R473). -/
def State.barReply (s : State) (off : Nat) (r : Result) : State :=
  if off % 4 ≠ 0 ∨ 0x10000 ≤ off then s.emit (.unsupportedRequest off)
  else if r.status = .ok then s.emit (.readReply off (word r.value))
  else
    let (v, s) := s.freeBits
    s.emit (.readReply off (v.setWidth 32))

/-- A BAR0 write to a window whose acknowledgement is still to come: a BAR0 read of that window waits (R471). -/
def State.barHeld (s : State) (off : Nat) : Bool :=
  let l := s.links.get (windowSeg off)
  decide (0x8000 ≤ off) && decide (off < 0xC000) &&
    (l.onWay.any (fun m => match m with
      | .config _ _ _ _ o => o == .bar0
      | _ => false) ||
    (untaken l.up).any (fun m => match m with
      | .rsp _ _ _ (some o) => o == .bar0
      | _ => false))

/-- The end of a command's judgement: it is answered now, or a CMD frame's command stays in flight (R269). -/
def State.conclude (o : Origin) (op : Nat) (r : State × Option Result) : State :=
  match r with
  | (s, some x) => s.reply o op x
  | (s, none) => match o with
    | .loop _ _ _ => s.modLoop (fun l => { l with inFlight := l.inFlight + 1 })
    | .bar0 | .ring _ | .bcast => s

/-- A command that arrives: nothing reaches an unpowered hub, BAR0 is a head's and writes registers only, and a module with 128 commands in
flight answers a further CMD with BUSY (R269, R322). -/
def State.arrives (s : State) (o : Origin) (op : Nat) (k : State → State × Option Result) : State :=
  if !s.powered then s
  else match o with
    | .bar0 => if s.isHead && op == 0x02 then State.conclude o op (k s) else s
    | .loop _ _ _ => if 128 ≤ s.loop.inFlight then s.reply o op (Result.of .busy) else State.conclude o op (k s)
    | .ring _ | .bcast => State.conclude o op (k s)

end Sys2Proof.Machine
end

