-- ==== Sys2Proof/Machine/RegRows.lean ====
section
/-!
DEFINITION. Register reads and writes that have rows of their own: REG_READ, REG_READ_BLOCK, REG_WRITE, and the writes
of single bits that the table lists (chapters 02 to 16).
-/

namespace Sys2Proof.Machine

/-! ### The shared form of a register-write row -/

/-- A write whose bits, under its MASK, are those of a row: it is judged and acts as REG_WRITE does (R468 to R474). -/
def State.writeRow (s : State) (off : Nat) (isRow : Wr → Bool) (w : Wr) : State :=
  if isRow (Wr.direct w) then s.arrives w.origin 0x02 (fun s => s.doRegWrite off w) else s

/-- A bit is written with 1. -/
def sets (n : Nat) (w : Wr) : Bool := (w.value &&& w.mask).getLsbD n

/-- A bit is written. -/
def touches (n : Nat) (w : Wr) : Bool := w.mask.getLsbD n

/-- A bit is written with 0. -/
def clears (n : Nat) (w : Wr) : Bool := w.mask.getLsbD n && !w.value.getLsbD n

/-- A direct write to a window of a segment, taken to the segment, acted on and acknowledged in one step; a staged write
goes the way of every other (R249, R471, R475). -/
def State.doWindowWrite (s : State) (g : Seg) (off : Nat) (w : Wr) : State × Option Result :=
  s.gated w.origin 0x02 false (fun s =>
    let w := Wr.direct w
    match s.judgeWrite off w, regAt off with
    | .ok, some d =>
      if w.accord = 0 then
        let s := (s.wakeBlock off).applyWindow g off w.value (w.mask &&& (d.rw ||| d.rws ||| d.w1c ||| d.wo))
        let s := if 0x40 ≤ off % 0x400 then s.store off (Sparse.get resetOf (s.segs.get g).win off) else s
        s.ends .ok
      else s.writeReg off w
    | st, _ => s.ends st)

def State.windowRow (s : State) (g : Seg) (off : Nat) (isRow : Wr → Bool) (w : Wr) : State :=
  if isRow (Wr.direct w) then s.arrives w.origin 0x02 (fun s => s.doWindowWrite g off w) else s

/-- Offset of a register of a segment's window. -/
def windowOff (g : Seg) (rel : Nat) : Nat := 0x8000 + 0x400 * g.val + rel

/-- Offset of the SEG_CELL_CFG register of a cell. -/
def cellCfgOff (k : Cell) : Nat := (Fld.segCellCfgParkReq k).off

/-! ### Resets and faults -/

/-- RESET_REQ (R484): GLB_CTRL with RESET_REQ 1 and CONFIRM 0xA5. -/
def execResetReq (w : Wr) (s : State) : Host.Outcome State Fault Refusal := (s.writeRow 0x1C (sets 0) w).done

/-- FLT_CLEAR (R407). -/
def execFltClear (w : Wr) (s : State) : Host.Outcome State Fault Refusal := (s.writeRow 0x5808 (fun _ => true) w).done

/-- FIRST_REARM (R405). -/
def execFirstRearm (w : Wr) (s : State) : Host.Outcome State Fault Refusal := (s.writeRow 0x5800 (sets 4) w).done

/-- OVF_CLEAR (R405). -/
def execOvfClear (w : Wr) (s : State) : Host.Outcome State Fault Refusal := (s.writeRow 0x5800 (sets 5) w).done

/-- COUNT_CLEAR (R405). -/
def execCountClear (w : Wr) (s : State) : Host.Outcome State Fault Refusal := (s.writeRow 0x5800 (sets 6) w).done

/-! ### Cells and segments -/

/-- SLOW_ROUND (R359): a write of THERM_CTRL.SLOW_ROUND, or an occasion that is due. -/
def execSlowRound (w : Option Wr) (s : State) : Host.Outcome State Fault Refusal :=
  match w with
  | some w => (s.writeRow 0x5000 (sets 2) w).done
  | none => (if s.powered && s.slowRoundDue then s.startSlow else s).done

/-- KEEPER_RELEASE (R51). -/
def execKeeperRelease (g : Seg) (w : Wr) (s : State) : Host.Outcome State Fault Refusal :=
  (s.windowRow g (windowOff g 0x0C) (sets 1) w).done

/-- PARK_REQ (R55). -/
def execParkReq (k : Cell) (w : Wr) (s : State) : Host.Outcome State Fault Refusal :=
  (s.windowRow (segOf k) (cellCfgOff k) (sets (Fld.segCellCfgParkReq k).lo) w).done

/-- OPEN_REQ set (R31). -/
def execOpenReqSet (k : Cell) (w : Wr) (s : State) : Host.Outcome State Fault Refusal :=
  (s.windowRow (segOf k) (cellCfgOff k) (sets (Fld.segCellCfgOpenReq k).lo) w).done

/-- OPEN_REQ cleared (R32). -/
def execOpenReqClear (k : Cell) (w : Wr) (s : State) : Host.Outcome State Fault Refusal :=
  (s.windowRow (segOf k) (cellCfgOff k) (clears (Fld.segCellCfgOpenReq k).lo) w).done

/-! ### Schedule player, string power controller, Step Link -/

/-- SWAP (R91). -/
def execSwap (w : Wr) (s : State) : Host.Outcome State Fault Refusal := (s.writeRow 0x2800 (sets 0) w).done

/-- PHASE_RETURN (R134). -/
def execPhaseReturn (w : Wr) (s : State) : Host.Outcome State Fault Refusal :=
  (s.writeRow 0x300C (fun w => w.value &&& w.mask &&& 0xFF != 0) w).done

/-- SPC_CTRL.EN (R111). -/
def execSpcCtrlEn (w : Wr) (s : State) : Host.Outcome State Fault Refusal := (s.writeRow 0x3000 (touches 0) w).done

/-- STEP_CTRL.SOURCE (R126). -/
def execStepCtrlSource (w : Wr) (s : State) : Host.Outcome State Fault Refusal :=
  (s.writeRow 0x3800 (touches 0) w).done

/-! ### Measurement and analysis -/

/-- SHUNT_READMIT (R180). -/
def execShuntReadmit (w : Wr) (s : State) : Host.Outcome State Fault Refusal :=
  (s.writeRow 0x400C (fun w => fieldOf Fld.measShuntCfgExcluded (w.value &&& w.mask) != 0) w).done

/-- GUARD_WRITE (R182). -/
def execGuardWrite (w : Wr) (s : State) : Host.Outcome State Fault Refusal :=
  (s.writeRow 0x4014 (fun w => fieldOf Fld.measGuardTimeGuard w.mask != 0) w).done

/-- SNAP_NOW (R209). -/
def execSnapNow (w : Wr) (s : State) : Host.Outcome State Fault Refusal := (s.writeRow 0x4800 (sets 0) w).done

/-- KVAL_SNAP (R209). -/
def execKvalSnap (w : Wr) (s : State) : Host.Outcome State Fault Refusal := (s.writeRow 0x4800 (sets 1) w).done

/-- KVAL_RESET (R209). -/
def execKvalReset (w : Wr) (s : State) : Host.Outcome State Fault Refusal := (s.writeRow 0x4800 (sets 2) w).done

/-! ### Power and span links -/

/-- ANOMALY_CLEAR (R241). -/
def execAnomalyClear (w : Wr) (s : State) : Host.Outcome State Fault Refusal := (s.writeRow 0x81C (sets 2) w).done

/-- DRYDOWN_CFG_COPY (R239): PERIOD_S, or DORMANT_PATROL where `cfg`. -/
def execDrydownCfgCopy (cfg : Bool) (w : Wr) (s : State) : Host.Outcome State Fault Refusal :=
  (s.writeRow (if cfg then 0x814 else 0x810) (fun _ => true) w).done

/-- LINK_RETRAIN (R252). -/
def execLinkRetrain (g : Seg) (w : Wr) (s : State) : Host.Outcome State Fault Refusal :=
  (s.writeRow (windowOff g 0) (sets 1) w).done

/-- SEG_RESET (R256). -/
def execSegReset (g : Seg) (w : Wr) (s : State) : Host.Outcome State Fault Refusal :=
  (s.writeRow (windowOff g 0) (sets 0) w).done

/-! ### Loop and line time -/

/-- PORT_ENABLE (R263). -/
def execPortEnable (w : Wr) (s : State) : Host.Outcome State Fault Refusal :=
  (s.writeRow 0x1800 (fun w => touches 0 w || touches 1 w) w).done

/-- RETRAIN (R263). -/
def execRetrain (w : Wr) (s : State) : Host.Outcome State Fault Refusal :=
  (s.writeRow 0x1800 (fun w => sets 2 w || sets 3 w) w).done

/-- TIME_NOW_WRITE (R303): TIME_NOW_HI, then TIME_NOW_LO. -/
def execTimeNowWrite (hi lo : Wr) (s : State) : Host.Outcome State Fault Refusal :=
  ((s.writeRow 0x2004 (fun _ => true) hi).writeRow 0x2000 (fun _ => true) lo).done

/-- FOLLOW_OFF (R301). -/
def execFollowOff (w : Wr) (s : State) : Host.Outcome State Fault Refusal := (s.writeRow 0x2008 (clears 0) w).done

/-! ### Registers at large -/

/-- A BAR0 read is answered; one taken after a loop write to the register at the same tick reads what stood before it
(R472). -/
def State.barRead (s : State) (off : Nat) : State :=
  match s.doRegRead .bar0 off with
  | (t, some r) =>
    match s.host.met.find? (fun m => m.1 == s.now && m.2.1 == off) with
    | some m => t.barReply off (if r.status = .ok then Result.val .ok m.2.2.1.toNat else r)
    | none => t.barReply off r
  | (t, none) => t

/-- BAR0 reads whose acknowledgement has come are answered, oldest first (R471). -/
def State.answerReads (s : State) : State :=
  each s.host.heldReads (fun s off =>
    if s.barHeld off then s else (s.modHost (fun h => { h with heldReads := h.heldReads.erase off })).barRead off) s

/-- What happens when no command waits: held BAR0 reads are answered, and a tick passes (log 15). -/
def State.idle (s : State) : State := s.answerReads.idleTick

/-- REG_READ (R331, R469, R472), or a BAR0 read, which waits while a BAR0 write to its window is not acknowledged
(R471). -/
def execRegRead (o : Origin) (offset : Nat) (s : State) : Host.Outcome State Fault Refusal :=
  match o with
  | .bar0 =>
    if !s.hostPowered then s.done
    else if s.barHeld offset then
      (s.modHost (fun h => { h with heldReads := h.heldReads ++ [offset] })).done
    else (s.barRead offset).done
  | .ring _ | .loop _ _ _ | .bcast => (s.arrives o 0x01 (fun s => s.doRegRead o offset)).done

/-- REG_READ_BLOCK (R331, R469). -/
def execRegReadBlock (o : Origin) (offset count : Nat) (s : State) : Host.Outcome State Fault Refusal :=
  (s.arrives o 0x03 (fun s => s.doReadBlock o offset count)).done

/-- REG_WRITE (R468 to R475), or a BAR0 write; one that is not aligned is an Unsupported Request (R322). -/
def execRegWrite (offset : Nat) (w : Wr) (s : State) : Host.Outcome State Fault Refusal :=
  if w.origin == .bar0 && s.hostPowered && badOffset offset then (s.emit (.unsupportedRequest offset)).done
  else (s.writeRow offset (fun _ => true) w).done

/-! ### Flacon policy, log copy, host port, check unit -/

/-- FLACON_POLICY_WRITE (R101). -/
def execFlaconPolicyWrite (w : Wr) (s : State) : Host.Outcome State Fault Refusal :=
  (s.writeRow 0x281C (fun _ => true) w).done

/-- LOG_COPY (R460). -/
def execLogCopy (w : Wr) (s : State) : Host.Outcome State Fault Refusal := (s.writeRow 0x7000 (sets 2) w).done

/-- HOST_ENABLE (R325). -/
def execHostEnable (w : Wr) (s : State) : Host.Outcome State Fault Refusal := (s.writeRow 0x1000 (sets 0) w).done

/-- RESET_RINGS (R342). -/
def execResetRings (w : Wr) (s : State) : Host.Outcome State Fault Refusal := (s.writeRow 0x1000 (sets 1) w).done

/-- Offset of CHK_CTRL of a context. -/
def chkCtrlOff (c : Fin 4) : Nat := 0x6800 + 0x40 * c.val

/-- SCAN_START (R429). -/
def execScanStart (c : Fin 4) (w : Wr) (s : State) : Host.Outcome State Fault Refusal :=
  (s.writeRow (chkCtrlOff c) (sets 0) w).done

/-- SCAN_ABORT (R429). -/
def execScanAbort (c : Fin 4) (w : Wr) (s : State) : Host.Outcome State Fault Refusal :=
  (s.writeRow (chkCtrlOff c) (sets 1) w).done

end Sys2Proof.Machine
end

