-- ==== Sys2Proof/Machine/CommandRows.lean ====
section
/-!
DEFINITION. Commands: the CMD frame (R267 to R271), the descriptors and completions of a head (R328 to R336, R276), and
each command of R331 as a row of its own.
-/

namespace Sys2Proof.Machine

/-! ### Broadcasts (R271) -/

/-- BC_* of a CMD payload. -/
def bcOf (l : List Byte) : BcFigures := ⟨u l 4 2, u l 6 2, u l 8 2, u l 10 1⟩

/-- BC_* as bytes from offset 0x04. -/
def bcBytes (b : BcFigures) : List Byte := leBytes 2 b.ok ++ leBytes 2 b.fail ++ leBytes 2 b.pos ++ leBytes 1 b.status

/-- A module adds the status that its copy of a broadcast reached when it was judged; one that goes on is OK. -/
def BcFigures.add (b : BcFigures) (pos : Nat) (r : Option Result) : BcFigures :=
  let st := match r with
    | some x => x.status
    | none => Status.ok
  if st = .ok ∨ st = .checkValueDamaged then { b with ok := b.ok + 1 }
  else { b with
    fail := b.fail + 1
    pos := if b.pos = 0 then pos else b.pos
    status := if b.status = 0 then statusCode st else b.status }

/-- A CMD frame (R267). -/
def cmdFrame (down bcast head : Bool) (hop tag op : Nat) (bc : BcFigures) (bcId : Nat) (l : List Byte) : Frame :=
  { ftype := 1, down := down, bcast := bcast, head := head, hop := hop, dist := 0, lseq := 0, lack := 0, info := 0,
    payload := leBytes 2 tag ++ leBytes 1 op ++ zeros 1 ++ bcBytes bc ++ zeros 1 ++ leBytes 2 bcId ++ zeros 2 ++ l }

/-- A broadcast is executed as the command it carries. -/
def State.actBcast (s : State) (op : Nat) (l : List Byte) : State × Option Result :=
  if mayBroadcast op then s.perform .bcast op l else s.ends .unsupported

/-- A module acts on a broadcast once within 10 ms and adds its status; a later copy changes nothing. -/
def State.hearBcast (s : State) (f : Frame) : State × BcFigures :=
  let l := f.payload
  let id := u l 12 2
  let fresh := s.loop.seenBcast.filter (fun e => decide (s.now < e.2.2 + 10000000))
  if fresh.any (fun e => e.1 == f.head && e.2.1 == id) then (s, bcOf l)
  else
    let s := s.modLoop (fun x => { x with seenBcast := (f.head, id, s.now) :: fresh })
    let r := s.actBcast (u l 2 1) (l.drop 16)
    (r.1, (bcOf l).add s.loop.position r.2)

/-- RSP payload that ends a broadcast. -/
def State.summary (s : State) (l : List Byte) (bc : BcFigures) (cut : Bool) : List Byte :=
  rspPayload (u l 0 2 % 1024) (u l 2 1) s.loop.position (bc.result cut) (if cut then 3 else 1) bc []

/-! ### CMD (R268 to R271) -/

/-- A member takes a broadcast. -/
def State.memberBcast (s : State) (p : Port) (f : Frame) : State :=
  let (s, bc) := s.hearBcast f
  let cut := (s.port (otherPort p)).st != 2
  if f.hop ≤ 1 then s.toHead 2 f.head 0 (s.summary f.payload bc false)
  else if cut then s.toHead 2 f.head 0 (s.summary f.payload bc true)
  else s.forward p { f with payload := splice f.payload 4 (bcBytes bc) } (f.hop - 1)

/-- The module that a CMD frame addresses executes it. -/
def State.takeCmd (s : State) (p : Port) (f : Frame) : State :=
  let l := f.payload
  let op := u l 2 1
  let o : Origin := .loop (u l 0 2 % 1024) f.head p
  s.arrives o op (fun s => s.perform o op (l.drop 16))

/-- A head takes a CMD frame: its own broadcast is complete, its own addressed command found no module, the other
head's broadcast ends here, and the other head's command is executed where it is addressed to this head. -/
def State.headCmd (s : State) (p : Port) (f : Frame) : State :=
  let l := f.payload
  let tag := u l 0 2 % 1024
  if f.head = s.headNo then
    if f.bcast then s.completeTag tag 0 (Result.of ((bcOf l).result false)) 0x01 (bcOf l)
    else s.completeTag tag s.loop.position (Result.of .noRoute) 0 ⟨0, 0, 0, 0⟩
  else if f.bcast then
    let (s, bc) := s.hearBcast f
    s.sendBack p 2 f.head 0 (s.summary l bc false)
  else if f.hop ≤ 1 then s.takeCmd p f
  else s

/-- CMD (R268). -/
def execCmd (p : Port) (f : Frame) (s : State) : Host.Outcome State Fault Refusal :=
  (s.arrive p 1 f (fun s =>
    if s.isHead then s.headCmd p f
    else if f.bcast then s.memberBcast p f
    else s.transit p f (fun s => s.takeCmd p f))).done

/-! ### Descriptors (R276, R328 to R335) -/

/-- Bytes of a descriptor. -/
def descOf (b : List Byte) : List Byte := b.take 64

/-- Operands of a descriptor with what was read from BUF_ADDR behind it; none where that read failed. -/
def operandsOf (b : List Byte) : Option (List Byte) :=
  let n := u b 6 1
  if n ≤ 48 then some ((b.drop 16).take n) else if b.length ≤ 64 then none else some (b.drop 64)

/-- A descriptor with its operands where they lie in the host's buffer. -/
def withBuffer (d : List Byte) (buf : Option (List Byte)) : List Byte :=
  let d := (d ++ zeros 64).take 64
  let n := u d 6 1
  match buf with
  | some b => if 48 < n ∧ n ≤ b.length then d ++ b.take n else d
  | none => d

/-- The command of a tag ends without being sent. -/
def State.turnAway (s : State) (o : Outstanding) (st : Status) : State :=
  s.completeTag o.tag s.loop.position (Result.of st) 0 ⟨0, 0, 0, 0⟩

/-- The way to position p with its hops (true: UP); none where no way is open (R276). -/
def State.route (s : State) (p way : Nat) : Option (Bool × Nat) :=
  let l := s.loop
  if !l.valid || p == 0 || decide (l.n < p) then none
  else
    let head2 := l.topo && s.headNo
    let head1 := l.topo && !s.headNo
    let up := p - 1
    let down := if l.topo then l.n - p else l.n - p + 1
    let upOpen := !head2 && l.b.st == 2 && !(l.brkUp != 0 && decide (l.brkUp < p))
    let downOpen := !head1 && l.a.st == 2 && !(l.brkDown != 0 && decide (p ≤ l.brkDown))
    match way with
    | 1 => if upOpen then some (true, up) else none
    | 2 => if downOpen then some (false, down) else none
    | _ =>
      if upOpen && (!downOpen || decide (up < down)) then some (true, up)
      else if downOpen then some (false, down) else none

/-- The command of a tag has left the head. -/
def State.leftHead (s : State) (tag : Nat) : State :=
  s.modHost (fun h => { h with
    outstanding := h.outstanding.map (fun x => if x.tag = tag then { x with sentAt := some s.now } else x) })

/-- A PARK_ALL frame (R284). -/
def parkAllFrame (p : Port) (id : Nat) : Frame :=
  { ftype := 6, down := p == .a, bcast := false, head := false, hop := 0, dist := 0, lseq := 0, lack := 0, info := 0,
    payload := leBytes 2 id ++ zeros 6 }

/-- HALT as a broadcast (R284, R329): three copies of one PARK_ALL out of both ports, 1 µs apart, and the head goes to HALT. With
no port UP no copy leaves. -/
def State.broadcastHalt (s : State) (o : Outstanding) : State :=
  let id := (Config.parkIdBase.toNat + s.loop.parkId) % 65536
  let ports := ([.a, .b] : List Port).filter (fun p => (s.port p).st == 2)
  let s := s.modLoop (fun l => { l with parkId := l.parkId + 1 })
  let s := each ports (fun s p => each [0, 1, 2] (fun s (i : Nat) =>
    s.enqueue p ⟨true, s.now + 1000 * i, 0, parkAllFrame p id⟩) s) s
  let s := if (s.refusal 0x52 false).isSome then s else s.haltNow
  s.completeTag o.tag 0 (if ports.isEmpty then Result.of .noRoute else Result.val .ok id) 0 ⟨0, 0, 0, 0⟩

/-- A broadcast (R329): the head acts and counts itself unless it is a repeat, then the frame leaves by the way named. -/
def State.broadcast (s : State) (o : Outstanding) (way : Nat) (l : List Byte) : State :=
  let fresh := s.host.sentBcast.filter (fun e => decide (s.now < e.2 + 10000000))
  let again := fresh.any (fun e => e.1 == o.hostTag)
  let s := s.modHost (fun h => { h with sentBcast := (o.hostTag, s.now) :: fresh.filter (fun e => e.1 != o.hostTag) })
  let (s, bc) :=
    if again then (s, (⟨0, 0, 0, 0⟩ : BcFigures))
    else
      let r := s.perform .bcast o.opcode l
      (r.1, (⟨0, 0, 0, 0⟩ : BcFigures).add s.loop.position r.2)
  let p : Port := if way = 2 then .a else .b
  if (s.port p).st = 2 then
    (s.sendFrame p true (cmdFrame (p == .a) true s.headNo 1022 o.tag o.opcode bc o.hostTag l)).leftHead o.tag
  else s.completeTag o.tag 0 (Result.of (bc.result true)) 0x03 bc

/-- A descriptor is judged and its command executed or sent (R329). -/
def State.launch (s : State) (o : Outstanding) (b : List Byte) : State :=
  let flags := u b 1 1
  let way := flags / 4 % 4
  let bcast := flags.testBit 4
  if !knownOpcode o.opcode || (bcast && !mayBroadcast o.opcode) then s.turnAway o .unsupported
  else if 32 ≤ flags ∨ way = 3 ∨ (bcast = true ∧ o.position ≠ 0) then s.turnAway o .rejected
  else match operandsOf b with
    | none => (s.hostErr 0x020).turnAway o .aborted
    | some l =>
      if !operandsOk o.opcode l then s.turnAway o .rejected
      else if bcast then (if o.opcode = 0x52 then s.broadcastHalt o else s.broadcast o way l)
      else if o.position = 0 ∨ o.position = s.loop.position then
        s.arrives (.ring o.tag) o.opcode (fun s => s.perform (.ring o.tag) o.opcode l)
      else match s.route o.position way with
        | none => s.turnAway o .noRoute
        | some (up, hops) =>
          (s.sendFrame (if up then .b else .a) true
            (cmdFrame (!up) false s.headNo hops o.tag o.opcode ⟨0, 0, 0, 0⟩ 0 l)).leftHead o.tag

/-- FENCE (R335): a command starts when no earlier FENCE command is outstanding, and a FENCE command when no earlier
command is. -/
def State.mayStart (s : State) (o : Outstanding) : Bool :=
  let before := s.host.outstanding.takeWhile (fun x => x.tag != o.tag)
  !before.any (fun x => x.fence) && (!o.fence || before.isEmpty)

/-- Fetched commands that waited for a FENCE start in ring order; at most n. -/
def State.startWaiting : Nat → State → State
  | 0, s => s
  | n + 1, s =>
    match s.host.waiting with
    | [] => s
    | (o, b) :: t =>
      if s.mayStart o then State.startWaiting n ((s.modHost (fun h => { h with waiting := t })).launch o b) else s

def State.startAll (s : State) : State := State.startWaiting s.host.waiting.length s

/-- Loop TAGs that may be assigned (R330). -/
def State.freeTags (s : State) : List Nat :=
  (List.range 1024).filter (fun t =>
    !s.host.outstanding.any (fun o => o.tag == t) &&
    !s.host.closed.any (fun e => e.1 == t && decide (s.now < e.2 + 1000000000)))

/-- The next descriptor is fetched (R328, R330). -/
def State.fetch (s : State) (d : List Byte) (buf : Option (List Byte)) : State :=
  match s.freeTags with
  | [] => s
  | t :: ts =>
    let (v, s) := s.freeBits
    let b := withBuffer d buf
    let o : Outstanding :=
      { tag := ((t :: ts)[v.toNat % (ts.length + 1)]?).getD t, hostTag := u b 4 2, opcode := u b 0 1,
        position := u b 2 2, irq := (u b 1 1).testBit 0, fence := (u b 1 1).testBit 1, outMax := u b 7 1,
        sentAt := none }
    let s := s.modHost (fun h => { h with
      cmdHead := (h.cmdHead + 1) % 65536
      outstanding := h.outstanding ++ [o]
      waiting := h.waiting ++ [(o, b)] })
    s.startAll

/-- DESCRIPTOR_FETCH (R326, R330): none is a ring read that failed. -/
def execDescriptorFetch (desc buf : Option (List Byte)) (s : State) : Host.Outcome State Fault Refusal :=
  if !s.hostPowered then s.done
  else
    let s := s.startAll
    let h := s.host
    if h.st != 1 || h.cmdTail == h.cmdHead || decide (1024 ≤ h.outstanding.length) then s.done
    else match desc with
      | none => ((s.hostErr 0x010).hostError).done
      | some d => (s.fetch d buf).done

/-- COMPLETION (R334, R335): a held completion is written, and commands that waited for it start. -/
def execCompletion (s : State) : Host.Outcome State Fault Refusal :=
  (if s.hostPowered then (State.flushCpl 1 s).startAll else s).done

/-! ### The commands of R331 as rows -/

/-- FAULT_READ (R400). -/
def execFaultRead (o : Origin) (what from_ : Nat) (s : State) : Host.Outcome State Fault Refusal :=
  (s.arrives o 0x60 (fun s => s.doFaultRead o what from_)).done

/-- FAULT_CLEAR (R403). -/
def execFaultClear (o : Origin) (id : BitVec 16) (s : State) : Host.Outcome State Fault Refusal :=
  (s.arrives o 0x61 (fun s => s.doFaultClear o id.toNat)).done

/-- RELEASE_PARK (R33, R421). -/
def execReleasePark (o : Origin) (cells : BitVec 256) (s : State) : Host.Outcome State Fault Refusal :=
  (s.arrives o 0x53 (fun s => s.doRelease o cells)).done

/-- RUN (R62, R93). -/
def execRun (o : Origin) (t : Nat) (s : State) : Host.Outcome State Fault Refusal :=
  (s.arrives o 0x50 (fun s => s.doRun o t)).done

/-- STOP (R23, R74). -/
def execStop (o : Origin) (s : State) : Host.Outcome State Fault Refusal :=
  (s.arrives o 0x51 (fun s => s.doStop o)).done

/-- HALT (R23). -/
def execHalt (o : Origin) (s : State) : Host.Outcome State Fault Refusal :=
  (s.arrives o 0x52 (fun s => s.doHalt o)).done

/-- SWEEP (R197). -/
def execSweep (o : Origin) (id plan t : Nat) (cells : BitVec 256) (s : State) : Host.Outcome State Fault Refusal :=
  (s.arrives o 0x40 (fun s => s.doSweep o id plan t cells)).done

/-- STREAM_START (R175). -/
def execStreamStart (o : Origin) (segs : BitVec 16) (kinds : BitVec 8) (cells : BitVec 256) (s : State) : Host.Outcome State Fault Refusal :=
  (s.arrives o 0x42 (fun s => s.doStreamStart o segs kinds cells)).done

/-- STREAM_STOP (R175). -/
def execStreamStop (o : Origin) (s : State) : Host.Outcome State Fault Refusal :=
  (s.arrives o 0x43 (fun s => s.doStreamStop o)).done

/-- POWER_BUDGET (R236). -/
def execPowerBudget (o : Origin) (us : Word) (s : State) : Host.Outcome State Fault Refusal :=
  (s.arrives o 0x80 (fun s => s.doBudget o us)).done

/-- WAKE (R219). -/
def execWake (o : Origin) (s : State) : Host.Outcome State Fault Refusal :=
  (s.arrives o 0x81 (fun s => s.doWake o)).done

/-- CENSUS (R275). -/
def execCensus (o : Origin) (s : State) : Host.Outcome State Fault Refusal :=
  (s.arrives o 0x10 (fun s => s.doCensus o)).done

/-- LOOP_PING (R331). -/
def execLoopPing (o : Origin) (s : State) : Host.Outcome State Fault Refusal :=
  (s.arrives o 0x11 (fun s => s.doPing o)).done

/-- ACCORD_BEGIN (R306, R310). -/
def execAccordBegin (o : Origin) (id : BitVec 16) (s : State) : Host.Outcome State Fault Refusal :=
  (s.arrives o 0x30 (fun s => s.doAccord o 0x30 (fun s => s.accordBegin id))).done

/-- ACCORD_PREPARE (R308). -/
def execAccordPrepare (o : Origin) (id : BitVec 16) (count t : Nat) (s : State) : Host.Outcome State Fault Refusal :=
  (s.arrives o 0x31 (fun s => s.doAccord o 0x31 (fun s => s.accordPrepare id count t))).done

/-- ACCORD_COMMIT (R309). -/
def execAccordCommit (o : Origin) (id : BitVec 16) (t : Nat) (s : State) : Host.Outcome State Fault Refusal :=
  (s.arrives o 0x32 (fun s => s.doAccord o 0x32 (fun s => s.accordCommit id t))).done

/-- ACCORD_ABORT (R310). -/
def execAccordAbort (o : Origin) (id : BitVec 16) (s : State) : Host.Outcome State Fault Refusal :=
  (s.arrives o 0x33 (fun s => s.doAccord o 0x33 (fun s => s.accordAbort id))).done

/-- FLACON_LOAD (R90, R332). -/
def execFlaconLoad (o : Origin) (slot : Option (Fin 8)) (offset total : Nat) (data : List Byte) (s : State) : Host.Outcome State Fault Refusal :=
  (s.arrives o 0x20 (fun s => s.doLoad o slot offset total data)).done

/-- FLACON_VERIFY (R90). -/
def execFlaconVerify (o : Origin) (store : Option (Fin 8)) (s : State) : Host.Outcome State Fault Refusal :=
  (s.arrives o 0x21 (fun s => s.doVerify o store)).done

/-- FLACON_ERASE (R90). -/
def execFlaconErase (o : Origin) (target : BitVec 8) (s : State) : Host.Outcome State Fault Refusal :=
  (s.arrives o 0x22 (fun s => s.doErase o target.toNat)).done

/-- RESULT_FETCH in mode FETCH (R343). -/
def execResultFetch (o : Origin) (slot gen : Nat) (s : State) : Host.Outcome State Fault Refusal :=
  (s.arrives o 0x41 (fun s => s.doFetch o slot gen)).done

/-- RESULT_FETCH in mode MARKS (R344). -/
def execMarks (o : Origin) (items : List (Nat × Nat × Nat)) (s : State) : Host.Outcome State Fault Refusal :=
  (s.arrives o 0x41 (fun s => s.doMarks o items)).done

/-- NVM_LOG_READ (R456). -/
def execNvmLogRead (o : Origin) (source index : Nat) (s : State) : Host.Outcome State Fault Refusal :=
  (s.arrives o 0x90 (fun s => s.doLogRead o source index)).done

/-- BIST_RUN (R423). -/
def execBistRun (o : Origin) (n : Option Slice) (s : State) : Host.Outcome State Fault Refusal :=
  (s.arrives o 0x70 (fun s => s.doBist o n)).done

/-- CHECK_SCAN (R429). -/
def execCheckScan (o : Origin) (c : Fin 4) (s : State) : Host.Outcome State Fault Refusal :=
  (s.arrives o 0x71 (fun s => s.doScan o c)).done

/-- FW_UPDATE, BEGIN (R453). -/
def execBegin (o : Origin) (total version : Nat) (s : State) : Host.Outcome State Fault Refusal :=
  (s.arrives o 0xA0 (fun s => s.doFw o (fun s => s.fwBegin o total version))).done

/-- FW_UPDATE, CHUNK (R453). -/
def execChunk (o : Origin) (offset : Nat) (data : List Byte) (s : State) : Host.Outcome State Fault Refusal :=
  (s.arrives o 0xA0 (fun s => s.doFw o (fun s => s.fwChunk o offset data))).done

/-- FW_UPDATE, VERIFY (R453). -/
def execVerify (o : Origin) (s : State) : Host.Outcome State Fault Refusal :=
  (s.arrives o 0xA0 (fun s => s.doFw o (fun s => s.fwVerify o))).done

/-- FW_UPDATE, ACTIVATE (R453). -/
def execActivate (o : Origin) (s : State) : Host.Outcome State Fault Refusal :=
  (s.arrives o 0xA0 (fun s => s.doFw o (fun s => s.fwActivate o))).done

/-- FW_UPDATE, ABORT (R453). -/
def execAbort (o : Origin) (s : State) : Host.Outcome State Fault Refusal :=
  (s.arrives o 0xA0 (fun s => s.doFw o (fun s => s.fwAbort))).done

/-- FW_UPDATE, FLACON_KEY (R453). -/
def execFlaconKey (o : Origin) (key : List Byte) (s : State) : Host.Outcome State Fault Refusal :=
  (s.arrives o 0xA0 (fun s => s.doFw o (fun s => s.fwKey o key))).done

end Sys2Proof.Machine
end

