-- ==== Sys2Proof/Machine/Dispatch.lean ====
section
/-!
DEFINITION. The meaning of every command: one arm for each constructor of Instr, in the order of the table.
-/

namespace Sys2Proof.Machine

/-- The effect of one command on everything but the queue. -/
def exec (i : Instr) (s : State) : Host.Outcome State Fault Refusal :=
  match i with
  | .auxInRange x1 => Sys2Proof.Machine.execAuxInRange x1 s
  | .auxOutOfRange x1 => Sys2Proof.Machine.execAuxOutOfRange x1 s
  | .powerOnReset x1 => Sys2Proof.Machine.execPowerOnReset x1 s
  | .firmwareStart => Sys2Proof.Machine.execFirmwareStart s
  | .feedEnable x1 x2 x3 => Sys2Proof.Machine.execFeedEnable x1 x2 x3 s
  | .segmentImagePush x1 => Sys2Proof.Machine.execSegmentImagePush x1 s
  | .sequencerStart x1 => Sys2Proof.Machine.execSequencerStart x1 s
  | .startupTestEnd => Sys2Proof.Machine.execStartupTestEnd s
  | .drydownLogCollect => Sys2Proof.Machine.execDrydownLogCollect s
  | .resetN x1 => Sys2Proof.Machine.execResetN x1 s
  | .watchdog => Sys2Proof.Machine.execWatchdog s
  | .resetApply => Sys2Proof.Machine.execResetApply s
  | .resetReq x1 => Sys2Proof.Machine.execResetReq x1 s
  | .shutdownLatchClear x1 => Sys2Proof.Machine.execShutdownLatchClear x1 s
  | .estopNLow x1 => Sys2Proof.Machine.execEstopNLow x1 s
  | .estopNHigh => Sys2Proof.Machine.execEstopNHigh s
  | .phFltNLow x1 => Sys2Proof.Machine.execPhFltNLow x1 s
  | .phFltNHigh => Sys2Proof.Machine.execPhFltNHigh s
  | .hostReset x1 => Sys2Proof.Machine.execHostReset x1 s
  | .pcieLinkDown => Sys2Proof.Machine.execPcieLinkDown s
  | .haltDecision => Sys2Proof.Machine.execHaltDecision s
  | .haltRequest x1 => Sys2Proof.Machine.execHaltRequest x1 s
  | .faultEntry x1 x2 x3 x4 x5 x6 => Sys2Proof.Machine.execFaultEntry x1 x2 x3 x4 x5 x6 s
  | .intakeMove => Sys2Proof.Machine.execIntakeMove s
  | .faultRead x1 x2 x3 => Sys2Proof.Machine.execFaultRead x1 x2 x3 s
  | .faultClear x1 x2 => Sys2Proof.Machine.execFaultClear x1 x2 s
  | .fltClear x1 => Sys2Proof.Machine.execFltClear x1 s
  | .firstRearm x1 => Sys2Proof.Machine.execFirstRearm x1 s
  | .ovfClear x1 => Sys2Proof.Machine.execOvfClear x1 s
  | .countClear x1 => Sys2Proof.Machine.execCountClear x1 s
  | .shutdown x1 => Sys2Proof.Machine.execShutdown x1 s
  | .thermalSample x1 => Sys2Proof.Machine.execThermalSample x1 s
  | .modelStep => Sys2Proof.Machine.execModelStep s
  | .ntcSample x1 => Sys2Proof.Machine.execNtcSample x1 s
  | .slowRound x1 => Sys2Proof.Machine.execSlowRound x1 s
  | .slowRoundEnd x1 => Sys2Proof.Machine.execSlowRoundEnd x1 s
  | .scheduledEdge x1 => Sys2Proof.Machine.execScheduledEdge x1 s
  | .commutationStep x1 => Sys2Proof.Machine.execCommutationStep x1 s
  | .stepConfirmed x1 => Sys2Proof.Machine.execStepConfirmed x1 s
  | .stepUnconfirmed x1 => Sys2Proof.Machine.execStepUnconfirmed x1 s
  | .noPath x1 => Sys2Proof.Machine.execNoPath x1 s
  | .ovTrip x1 x2 => Sys2Proof.Machine.execOvTrip x1 x2 s
  | .uvTrip x1 x2 => Sys2Proof.Machine.execUvTrip x1 x2 s
  | .clampDetect x1 => Sys2Proof.Machine.execClampDetect x1 s
  | .keeperTrip x1 x2 => Sys2Proof.Machine.execKeeperTrip x1 x2 s
  | .keeperRelease x1 x2 => Sys2Proof.Machine.execKeeperRelease x1 x2 s
  | .parkReq x1 x2 => Sys2Proof.Machine.execParkReq x1 x2 s
  | .openReqSet x1 x2 => Sys2Proof.Machine.execOpenReqSet x1 x2 s
  | .openReqClear x1 x2 => Sys2Proof.Machine.execOpenReqClear x1 x2 s
  | .releasePark x1 x2 => Sys2Proof.Machine.execReleasePark x1 x2 s
  | .releaseJudged => Sys2Proof.Machine.execReleaseJudged s
  | .beaconTx => Sys2Proof.Machine.execBeaconTx s
  | .downlinkBeacon x1 x2 => Sys2Proof.Machine.execDownlinkBeacon x1 x2 s
  | .uplinkBeacon x1 x2 => Sys2Proof.Machine.execUplinkBeacon x1 x2 s
  | .parkSymbolReceived x1 => Sys2Proof.Machine.execParkSymbolReceived x1 s
  | .linkSilence x1 => Sys2Proof.Machine.execLinkSilence x1 s
  | .orphan => Sys2Proof.Machine.execOrphan s
  | .orphanPark => Sys2Proof.Machine.execOrphanPark s
  | .run x1 x2 => Sys2Proof.Machine.execRun x1 x2 s
  | .runStart => Sys2Proof.Machine.execRunStart s
  | .stop x1 => Sys2Proof.Machine.execStop x1 s
  | .halt x1 => Sys2Proof.Machine.execHalt x1 s
  | .cycleBoundary => Sys2Proof.Machine.execCycleBoundary s
  | .rungMove x1 => Sys2Proof.Machine.execRungMove x1 s
  | .frameAnswer => Sys2Proof.Machine.execFrameAnswer s
  | .frameDeadline => Sys2Proof.Machine.execFrameDeadline s
  | .swap x1 => Sys2Proof.Machine.execSwap x1 s
  | .swapApplied => Sys2Proof.Machine.execSwapApplied s
  | .sweep x1 x2 x3 x4 x5 => Sys2Proof.Machine.execSweep x1 x2 x3 x4 x5 s
  | .sweepStart => Sys2Proof.Machine.execSweepStart s
  | .setFrame x1 => Sys2Proof.Machine.execSetFrame x1 s
  | .addTimeout x1 => Sys2Proof.Machine.execAddTimeout x1 s
  | .stepIdle x1 => Sys2Proof.Machine.execStepIdle x1 s
  | .stepLinkLost => Sys2Proof.Machine.execStepLinkLost s
  | .rampStep x1 => Sys2Proof.Machine.execRampStep x1 s
  | .dwellComplete => Sys2Proof.Machine.execDwellComplete s
  | .deadlineMiss => Sys2Proof.Machine.execDeadlineMiss s
  | .phaseSwitch x1 x2 => Sys2Proof.Machine.execPhaseSwitch x1 x2 s
  | .windowRescale => Sys2Proof.Machine.execWindowRescale s
  | .phaseShed => Sys2Proof.Machine.execPhaseShed s
  | .phasesReleased => Sys2Proof.Machine.execPhasesReleased s
  | .phaseFailed x1 x2 => Sys2Proof.Machine.execPhaseFailed x1 x2 s
  | .phaseReturn x1 => Sys2Proof.Machine.execPhaseReturn x1 s
  | .toggleTest => Sys2Proof.Machine.execToggleTest s
  | .toggleTestEnd => Sys2Proof.Machine.execToggleTestEnd s
  | .toggleRetry => Sys2Proof.Machine.execToggleRetry s
  | .vstring => Sys2Proof.Machine.execVstring s
  | .peak x1 x2 => Sys2Proof.Machine.execPeak x1 x2 s
  | .spcCtrlEn x1 => Sys2Proof.Machine.execSpcCtrlEn x1 s
  | .stepCtrlSource x1 => Sys2Proof.Machine.execStepCtrlSource x1 s
  | .slotConversion x1 x2 => Sys2Proof.Machine.execSlotConversion x1 x2 s
  | .coverTimeout x1 => Sys2Proof.Machine.execCoverTimeout x1 s
  | .verifierVisit x1 x2 => Sys2Proof.Machine.execVerifierVisit x1 x2 s
  | .noCrosscheck x1 => Sys2Proof.Machine.execNoCrosscheck x1 s
  | .capture x1 x2 => Sys2Proof.Machine.execCapture x1 x2 s
  | .contactVisit x1 x2 x3 x4 x5 => Sys2Proof.Machine.execContactVisit x1 x2 x3 x4 x5 s
  | .shuntSlotMean x1 x2 => Sys2Proof.Machine.execShuntSlotMean x1 x2 s
  | .shuntCompare => Sys2Proof.Machine.execShuntCompare s
  | .shuntReadmit x1 => Sys2Proof.Machine.execShuntReadmit x1 s
  | .guardWrite x1 => Sys2Proof.Machine.execGuardWrite x1 s
  | .streamStart x1 x2 x3 x4 => Sys2Proof.Machine.execStreamStart x1 x2 x3 x4 s
  | .streamStop x1 => Sys2Proof.Machine.execStreamStop x1 s
  | .streamMark x1 => Sys2Proof.Machine.execStreamMark x1 s
  | .zeroEstimate => Sys2Proof.Machine.execZeroEstimate s
  | .zeroStale => Sys2Proof.Machine.execZeroStale s
  | .tally => Sys2Proof.Machine.execTally s
  | .edgeR x1 => Sys2Proof.Machine.execEdgeR x1 s
  | .cellSnapshot => Sys2Proof.Machine.execCellSnapshot s
  | .snapNow x1 => Sys2Proof.Machine.execSnapNow x1 s
  | .kvalSnap x1 => Sys2Proof.Machine.execKvalSnap x1 s
  | .kvalReset x1 => Sys2Proof.Machine.execKvalReset x1 s
  | .powerBudget x1 x2 => Sys2Proof.Machine.execPowerBudget x1 x2 s
  | .powerEvaluate => Sys2Proof.Machine.execPowerEvaluate s
  | .drydownEntered => Sys2Proof.Machine.execDrydownEntered s
  | .wake x1 => Sys2Proof.Machine.execWake x1 s
  | .dozeExit => Sys2Proof.Machine.execDozeExit s
  | .drydownExit => Sys2Proof.Machine.execDrydownExit s
  | .patrol x1 => Sys2Proof.Machine.execPatrol x1 s
  | .patrolWindowEnd x1 x2 x3 x4 => Sys2Proof.Machine.execPatrolWindowEnd x1 x2 x3 x4 s
  | .confirmationPatrol x1 => Sys2Proof.Machine.execConfirmationPatrol x1 s
  | .patrolReport x1 => Sys2Proof.Machine.execPatrolReport x1 s
  | .segLost x1 => Sys2Proof.Machine.execSegLost x1 s
  | .anomalyClear x1 => Sys2Proof.Machine.execAnomalyClear x1 s
  | .drydownCfgCopy x1 x2 => Sys2Proof.Machine.execDrydownCfgCopy x1 x2 s
  | .stackLow x1 x2 => Sys2Proof.Machine.execStackLow x1 x2 s
  | .wakeSymbol x1 => Sys2Proof.Machine.execWakeSymbol x1 s
  | .spanTrained x1 x2 => Sys2Proof.Machine.execSpanTrained x1 x2 s
  | .trainingTimeout x1 x2 x3 x4 => Sys2Proof.Machine.execTrainingTimeout x1 x2 x3 x4 s
  | .carrierLost x1 x2 => Sys2Proof.Machine.execCarrierLost x1 x2 s
  | .backgroundTraining x1 x2 => Sys2Proof.Machine.execBackgroundTraining x1 x2 s
  | .linkLost x1 => Sys2Proof.Machine.execLinkLost x1 s
  | .linkRetrain x1 x2 => Sys2Proof.Machine.execLinkRetrain x1 x2 s
  | .segReset x1 x2 => Sys2Proof.Machine.execSegReset x1 x2 s
  | .spanResend x1 x2 => Sys2Proof.Machine.execSpanResend x1 x2 s
  | .config x1 => Sys2Proof.Machine.execConfig x1 s
  | .read x1 => Sys2Proof.Machine.execRead x1 s
  | .share x1 => Sys2Proof.Machine.execShare x1 s
  | .timeMessage x1 x2 => Sys2Proof.Machine.execTimeMessage x1 x2 s
  | .islot x1 => Sys2Proof.Machine.execIslot x1 s
  | .neighbour x1 => Sys2Proof.Machine.execNeighbour x1 s
  | .segmentCmd x1 => Sys2Proof.Machine.execSegmentCmd x1 s
  | .edge x1 => Sys2Proof.Machine.execEdge x1 s
  | .faultMessage x1 => Sys2Proof.Machine.execFaultMessage x1 s
  | .output x1 => Sys2Proof.Machine.execOutput x1 s
  | .sums x1 => Sys2Proof.Machine.execSums x1 s
  | .burst x1 => Sys2Proof.Machine.execBurst x1 s
  | .segmentRsp x1 => Sys2Proof.Machine.execSegmentRsp x1 s
  | .stream x1 => Sys2Proof.Machine.execStream x1 s
  | .idle x1 x2 => Sys2Proof.Machine.execIdle x1 x2 s
  | .idleSend x1 => Sys2Proof.Machine.execIdleSend x1 s
  | .portDown x1 => Sys2Proof.Machine.execPortDown x1 s
  | .retransmit x1 => Sys2Proof.Machine.execRetransmit x1 s
  | .portEnable x1 => Sys2Proof.Machine.execPortEnable x1 s
  | .retrain x1 => Sys2Proof.Machine.execRetrain x1 s
  | .cmd x1 x2 => Sys2Proof.Machine.execCmd x1 x2 s
  | .rsp x1 x2 => Sys2Proof.Machine.execRsp x1 x2 s
  | .res x1 x2 => Sys2Proof.Machine.execRes x1 x2 s
  | .time x1 x2 x3 => Sys2Proof.Machine.execTime x1 x2 x3 s
  | .event x1 x2 => Sys2Proof.Machine.execEvent x1 x2 s
  | .parkAll x1 x2 => Sys2Proof.Machine.execParkAll x1 x2 s
  | .census x1 => Sys2Proof.Machine.execCensus x1 s
  | .probe x1 x2 => Sys2Proof.Machine.execProbe x1 x2 s
  | .reply x1 x2 => Sys2Proof.Machine.execReply x1 x2 s
  | .assign x1 x2 => Sys2Proof.Machine.execAssign x1 x2 s
  | .censusTimeout => Sys2Proof.Machine.execCensusTimeout s
  | .loopPing x1 => Sys2Proof.Machine.execLoopPing x1 s
  | .retireNotice => Sys2Proof.Machine.execRetireNotice s
  | .recordResend => Sys2Proof.Machine.execRecordResend s
  | .timeFrameTx => Sys2Proof.Machine.execTimeFrameTx s
  | .ptmDialogue x1 x2 => Sys2Proof.Machine.execPtmDialogue x1 x2 s
  | .holdover => Sys2Proof.Machine.execHoldover s
  | .holdoverLimit => Sys2Proof.Machine.execHoldoverLimit s
  | .sourceLost x1 => Sys2Proof.Machine.execSourceLost x1 s
  | .timeNowWrite x1 x2 => Sys2Proof.Machine.execTimeNowWrite x1 x2 s
  | .followOff x1 => Sys2Proof.Machine.execFollowOff x1 s
  | .accordBegin x1 x2 => Sys2Proof.Machine.execAccordBegin x1 x2 s
  | .accordPrepare x1 x2 x3 x4 => Sys2Proof.Machine.execAccordPrepare x1 x2 x3 x4 s
  | .accordCommit x1 x2 x3 => Sys2Proof.Machine.execAccordCommit x1 x2 x3 s
  | .accordAbort x1 x2 => Sys2Proof.Machine.execAccordAbort x1 x2 s
  | .accordApply => Sys2Proof.Machine.execAccordApply s
  | .graceExpiry => Sys2Proof.Machine.execGraceExpiry s
  | .regRead x1 x2 => Sys2Proof.Machine.execRegRead x1 x2 s
  | .regReadBlock x1 x2 x3 => Sys2Proof.Machine.execRegReadBlock x1 x2 x3 s
  | .regWrite x1 x2 => Sys2Proof.Machine.execRegWrite x1 x2 s
  | .flaconPolicyWrite x1 => Sys2Proof.Machine.execFlaconPolicyWrite x1 s
  | .flaconLoad x1 x2 x3 x4 x5 => Sys2Proof.Machine.execFlaconLoad x1 x2 x3 x4 x5 s
  | .flaconVerify x1 x2 => Sys2Proof.Machine.execFlaconVerify x1 x2 s
  | .flaconErase x1 x2 => Sys2Proof.Machine.execFlaconErase x1 x2 s
  | .resultFetch x1 x2 x3 => Sys2Proof.Machine.execResultFetch x1 x2 x3 s
  | .marks x1 x2 => Sys2Proof.Machine.execMarks x1 x2 s
  | .nvmLogRead x1 x2 x3 => Sys2Proof.Machine.execNvmLogRead x1 x2 x3 s
  | .logCopy x1 => Sys2Proof.Machine.execLogCopy x1 s
  | .hostEnable x1 => Sys2Proof.Machine.execHostEnable x1 s
  | .resetRings x1 => Sys2Proof.Machine.execResetRings x1 s
  | .dbCmdTail x1 => Sys2Proof.Machine.execDbCmdTail x1 s
  | .dbCplHead x1 => Sys2Proof.Machine.execDbCplHead x1 s
  | .dbResHead x1 x2 => Sys2Proof.Machine.execDbResHead x1 x2 s
  | .descriptorFetch x1 x2 => Sys2Proof.Machine.execDescriptorFetch x1 x2 s
  | .completion => Sys2Proof.Machine.execCompletion s
  | .cmdTimeout x1 => Sys2Proof.Machine.execCmdTimeout x1 s
  | .coalesceTimeout x1 => Sys2Proof.Machine.execCoalesceTimeout x1 s
  | .bistRun x1 x2 => Sys2Proof.Machine.execBistRun x1 x2 s
  | .periodicSlice => Sys2Proof.Machine.execPeriodicSlice s
  | .sliceEnd x1 x2 => Sys2Proof.Machine.execSliceEnd x1 x2 s
  | .checkScan x1 x2 => Sys2Proof.Machine.execCheckScan x1 x2 s
  | .scanStart x1 x2 => Sys2Proof.Machine.execScanStart x1 x2 s
  | .scanAbort x1 x2 => Sys2Proof.Machine.execScanAbort x1 x2 s
  | .scanDone x1 => Sys2Proof.Machine.execScanDone x1 s
  | .pageProgrammed x1 => Sys2Proof.Machine.execPageProgrammed x1 s
  | .eraseDone x1 => Sys2Proof.Machine.execEraseDone x1 s
  | .begin x1 x2 x3 => Sys2Proof.Machine.execBegin x1 x2 x3 s
  | .chunk x1 x2 x3 => Sys2Proof.Machine.execChunk x1 x2 x3 s
  | .verify x1 => Sys2Proof.Machine.execVerify x1 s
  | .activate x1 => Sys2Proof.Machine.execActivate x1 s
  | .abort x1 => Sys2Proof.Machine.execAbort x1 s
  | .flaconKey x1 x2 => Sys2Proof.Machine.execFlaconKey x1 x2 s
  | .keeperHoldExpiry x1 => Sys2Proof.Machine.execKeeperHoldExpiry x1 s
  | .logRetentionEnd x1 x2 => Sys2Proof.Machine.execLogRetentionEnd x1 x2 s
  | .feedLoss x1 => Sys2Proof.Machine.execFeedLoss x1 s
  | .auxMonitorUpdate x1 => Sys2Proof.Machine.execAuxMonitorUpdate x1 s
  | .pcieLinkUp => Sys2Proof.Machine.execPcieLinkUp s
  | .portTrainingTimeout x1 => Sys2Proof.Machine.execPortTrainingTimeout x1 s
  | .loopFrameError x1 x2 x3 => Sys2Proof.Machine.execLoopFrameError x1 x2 x3 s
  | .stepFrameDropped x1 => Sys2Proof.Machine.execStepFrameDropped x1 s
  | .recoveryReset => Sys2Proof.Machine.execRecoveryReset s
  | .segFeedRestore x1 x2 => Sys2Proof.Machine.execSegFeedRestore x1 x2 s
  | .peakClear x1 => Sys2Proof.Machine.execPeakClear x1 s

end Sys2Proof.Machine
end

