-- ==== Sys2Proof/Safety.lean ====
section
/-!
DEFINITION. What the statements call a kept promise: the canonical form of every sparse memory, what no command does to
the queue, to what has left the module and to the free values, and a state in which nothing waits for the collector.
-/

namespace Sys2Proof.Machine

/-- Every sparse memory is in its canonical form: the hub's registers, the flash, each segment's own window. -/
def Memory.wf (s : State) : Bool :=
  Sparse.wf resetOf s.regs && Sparse.wf erased s.nvm.flash && s.segs.toList.all (fun x => Sparse.wf resetOf x.win)

/-- What every command keeps: the queue is not its business, nothing that has left the module comes back, no free value
is used twice, and memory stays in its canonical form. -/
structure Keeps (s t : State) : Prop where
  pending : t.pending = s.pending
  free : s.free ≤ t.free
  out : s.out <:+ t.out
  mem : Memory.wf s = true → Memory.wf t = true

/-- Nothing waits for the fault collector, no sweep plays: the end of a command adds nothing of its own. -/
def State.settled (s : State) : Bool := s.flt.due.isEmpty && !s.results.dropDue && !s.results.sweepOn

/-! ### When a command is taken -/

/-- The state on which a command is judged: a CMD frame or a descriptor counts for the power manager, a broadcast or a
BAR0 access does not (R217, R218). -/
def State.taken (s : State) (o : Origin) : State :=
  match o with
  | .ring _ | .loop _ _ _ => s.noteCommand
  | .bar0 | .bcast => s

/-- A command reaches its judgement: the hub is powered, BAR0 is a head's and writes registers only, and a CMD frame
finds fewer than 128 commands in flight (R269, R322). -/
def State.reaches (s : State) (o : Origin) (op : Nat) : Bool :=
  s.powered && (match o with
    | .bar0 => s.isHead && op == 0x02
    | .loop _ _ _ => decide (s.loop.inFlight < 128)
    | .ring _ | .bcast => true)

/-- A command reaches its judgement and the module state does not refuse its opcode. -/
def State.accepts (s : State) (o : Origin) (op : Nat) (mild : Bool) : Bool :=
  s.reaches o op && ((s.taken o).refusal op mild).isNone

/-- The rows that are commands of R331, with their origin and opcode and whether SHUTDOWN_LATCHED and DRYDOWN judge them
mildly (a read of GLB or PWR, a fetch of a result). -/
def commandOf : Instr → Option (Origin × Nat × Bool)
  | .regReadBlock o _ _ => some (o, 0x03, false)
  | .census o => some (o, 0x10, false)
  | .loopPing o => some (o, 0x11, false)
  | .flaconLoad o _ _ _ _ => some (o, 0x20, false)
  | .flaconVerify o _ => some (o, 0x21, false)
  | .flaconErase o _ => some (o, 0x22, false)
  | .accordBegin o _ => some (o, 0x30, false)
  | .accordPrepare o _ _ _ => some (o, 0x31, false)
  | .accordCommit o _ _ => some (o, 0x32, false)
  | .accordAbort o _ => some (o, 0x33, false)
  | .sweep o _ _ _ _ => some (o, 0x40, false)
  | .resultFetch o _ _ => some (o, 0x41, true)
  | .marks o _ => some (o, 0x41, false)
  | .streamStart o _ _ _ => some (o, 0x42, false)
  | .streamStop o => some (o, 0x43, false)
  | .run o _ => some (o, 0x50, false)
  | .stop o => some (o, 0x51, false)
  | .halt o => some (o, 0x52, false)
  | .releasePark o _ => some (o, 0x53, false)
  | .faultRead o _ _ => some (o, 0x60, false)
  | .faultClear o _ => some (o, 0x61, false)
  | .bistRun o _ => some (o, 0x70, false)
  | .checkScan o _ => some (o, 0x71, false)
  | .powerBudget o _ => some (o, 0x80, false)
  | .wake o => some (o, 0x81, false)
  | .nvmLogRead o _ _ => some (o, 0x90, false)
  | .begin o _ _ | .chunk o _ _ | .verify o | .activate o | .abort o | .flaconKey o _ => some (o, 0xA0, false)
  | _ => none

/-- The rows that write a register of the hub: the register's offset, the bits whose write the row is, the write. -/
def writeRowOf : Instr → Option (Nat × (Wr → Bool) × Wr)
  | .resetReq w => some (0x001C, sets 0, w)
  | .fltClear w => some (0x5808, fun _ => true, w)
  | .firstRearm w => some (0x5800, sets 4, w)
  | .ovfClear w => some (0x5800, sets 5, w)
  | .countClear w => some (0x5800, sets 6, w)
  | .slowRound (some w) => some (0x5000, sets 2, w)
  | .swap w => some (0x2800, sets 0, w)
  | .phaseReturn w => some (0x300C, fun w => w.value &&& w.mask &&& 0xFF != 0, w)
  | .spcCtrlEn w => some (0x3000, touches 0, w)
  | .stepCtrlSource w => some (0x3800, touches 0, w)
  | .shuntReadmit w => some (0x400C, fun w => fieldOf Fld.measShuntCfgExcluded (w.value &&& w.mask) != 0, w)
  | .guardWrite w => some (0x4014, fun w => fieldOf Fld.measGuardTimeGuard w.mask != 0, w)
  | .snapNow w => some (0x4800, sets 0, w)
  | .kvalSnap w => some (0x4800, sets 1, w)
  | .kvalReset w => some (0x4800, sets 2, w)
  | .anomalyClear w => some (0x081C, sets 2, w)
  | .drydownCfgCopy cfg w => some (if cfg then 0x0814 else 0x0810, fun _ => true, w)
  | .linkRetrain g w => some (windowOff g 0, sets 1, w)
  | .segReset g w => some (windowOff g 0, sets 0, w)
  | .portEnable w => some (0x1800, fun w => touches 0 w || touches 1 w, w)
  | .retrain w => some (0x1800, fun w => sets 2 w || sets 3 w, w)
  | .followOff w => some (0x2008, clears 0, w)
  | .flaconPolicyWrite w => some (0x281C, fun _ => true, w)
  | .logCopy w => some (0x7000, sets 2, w)
  | .hostEnable w => some (0x1000, sets 0, w)
  | .resetRings w => some (0x1000, sets 1, w)
  | .scanStart c w => some (chkCtrlOff c, sets 0, w)
  | .scanAbort c w => some (chkCtrlOff c, sets 1, w)
  | .regWrite off w => some (off, fun _ => true, w)
  | _ => none

/-- The state on which a write acts that has passed its checks: a block whose domain was off is awake (R218, R470). -/
def State.atWrite (s : State) (off : Nat) (w : Wr) : State := (s.taken w.origin).wakeBlock off

/-- A write that is no BAR0 access meets a BAR0 access of the same register that waits for this tick (R472). -/
def State.meetsBar (s : State) (off : Nat) (w : Wr) : Bool :=
  w.origin != .bar0 && w.accord == 0 && (s.taken w.origin).judgeWrite off w == .ok && (s.taken w.origin).barComing off

/-- A direct write is accepted and passes the checks of R473 and R474, and meets no BAR0 access of its register. -/
def State.admits (s : State) (off : Nat) (w : Wr) : Bool :=
  s.accepts w.origin 0x02 false && (s.taken w.origin).judgeWrite off (Wr.direct w) == .ok &&
    (Wr.direct w).accord == 0 && !(s.taken w.origin).hostAbsent off && !s.meetsBar off w

/-- What a direct write of a hub register that is admitted leaves, answered: the register's RW and RWS bits as the write
makes them, what its bits bring about, and over it what stands of other writes of this tick to the register: a staged one
that was applied (R313), and one over the loop that a BAR0 write follows (R472). -/
def State.wrote (s : State) (off : Nat) (w : Wr) : State :=
  let a := s.atWrite off w
  let v := (Wr.direct w).value &&& (Wr.direct w).mask
  match regAt off with
  | none => a
  | some d =>
    let old := a.standing off d
    (((a.writeHub off old (written off d old (Wr.direct w) (d.rw ||| d.rws)) v).stagedLast off d).loopLast off d w.origin).reply
      w.origin 0x02 (Result.of (a.startAnswer off v))

/-- The register at an offset is the hub's own: it lies outside the windows, or the hub holds it. -/
def hubOwn (off : Nat) : Bool := decide (off < 0x8000) || hubHeld (off % 0x400)

/-! ### When a loop frame is taken -/

/-- A powered port that is not DOWN receives a valid frame of a type; what it leaves before the frame is acted on. -/
def State.heard (s : State) (p : Port) (t : Nat) (f : Frame) : State :=
  let a := s.noteValid p f.lack
  if isSequenced t then a.modPort p (fun x => { x with expect := (x.expect + 1) % 256, lack := x.expect }) else a

/-- The frame is acted on: a sequenced one has the LSEQ expected, and a restricted port carries its type (R264, R277). -/
def State.takes (s : State) (p : Port) (t : Nat) (f : Frame) : Bool :=
  s.powered && (s.port p).st != 0 && f.ftype == t &&
    (!isSequenced t || (f.lseq == ((s.noteValid p f.lack).port p).expect && carries ((s.heard p t f).port p) t))

/-! ### What a command may change -/

/-- The parts of the state: its fields. -/
inductive Part
  | now | glb | pins | regs | cells | meas | temps | ana | segs | links | play | spc | shunts | results | therm | pwr
  | loop | tu | acc | host | flt | bist | chk | nvm | stopOrigin | out | free
  | pending
  deriving DecidableEq, Repr

/-- Two states agree in a part. -/
def Part.same (p : Part) (s t : State) : Prop :=
  match p with
  | .now => t.now = s.now
  | .glb => t.glb = s.glb
  | .pins => t.pins = s.pins
  | .regs => t.regs = s.regs
  | .cells => t.cells = s.cells
  | .meas => t.meas = s.meas
  | .temps => t.temps = s.temps
  | .ana => t.ana = s.ana
  | .segs => t.segs = s.segs
  | .links => t.links = s.links
  | .play => t.play = s.play
  | .spc => t.spc = s.spc
  | .shunts => t.shunts = s.shunts
  | .results => t.results = s.results
  | .therm => t.therm = s.therm
  | .pwr => t.pwr = s.pwr
  | .loop => t.loop = s.loop
  | .tu => t.tu = s.tu
  | .acc => t.acc = s.acc
  | .host => t.host = s.host
  | .flt => t.flt = s.flt
  | .bist => t.bist = s.bist
  | .chk => t.chk = s.chk
  | .nvm => t.nvm = s.nvm
  | .stopOrigin => t.stopOrigin = s.stopOrigin
  | .out => t.out = s.out
  | .free => t.free = s.free
  | .pending => t.pending = s.pending

/-- Nothing outside the listed parts has changed. -/
def Touch (ps : List Part) (s t : State) : Prop := ∀ p, p ∉ ps → p.same s t

/-- The parts of the state that a command may change, before the collector takes what it has raised. -/
def touched : Instr → List Part
  | .auxInRange _ =>
      [.now, .glb, .pins, .regs, .cells, .meas, .temps, .ana, .segs, .links, .play, .spc, .shunts, .results,
       .therm, .pwr, .loop, .tu, .acc, .host, .flt, .bist, .chk, .nvm, .stopOrigin]
  | .auxOutOfRange _ =>
      [.glb, .pins, .cells, .meas, .segs, .links, .spc, .shunts, .pwr, .loop, .host, .nvm, .out, .free]
  | .powerOnReset _ | .shutdown _ =>
      [.glb, .pins, .cells, .meas, .ana, .segs, .links, .play, .spc, .shunts, .results, .therm, .pwr, .loop,
       .acc, .host, .flt, .bist, .nvm, .stopOrigin, .out, .free]
  | .firmwareStart =>
      [.glb, .therm, .flt, .nvm]
  | .feedEnable _ _ _ =>
      [.glb, .pins, .regs, .cells, .meas, .ana, .segs, .links, .play, .spc, .shunts, .results, .pwr, .loop,
       .host, .flt, .bist, .stopOrigin, .out]
  | .segmentImagePush _ | .beaconTx | .backgroundTraining _ _ | .spanResend _ _ | .read _ =>
      [.links]
  | .sequencerStart _ | .haltDecision | .haltRequest _ | .halt _ | .trainingTimeout _ _ _ _ | .parkAll _ _ =>
      [.glb, .pins, .cells, .meas, .ana, .segs, .links, .play, .spc, .shunts, .results, .pwr, .loop, .host,
       .flt, .bist, .stopOrigin, .out]
  | .startupTestEnd | .faultMessage _ =>
      [.glb, .pins, .regs, .cells, .meas, .ana, .segs, .links, .play, .spc, .shunts, .results, .pwr, .loop,
       .host, .flt, .bist, .chk, .nvm, .stopOrigin, .out, .free]
  | .drydownLogCollect =>
      [.segs, .links, .nvm]
  | .resetN _ =>
      [.glb, .pins, .cells, .meas, .links, .spc, .shunts, .loop, .host, .flt, .bist, .out, .free]
  | .watchdog | .recoveryReset =>
      [.glb, .pins, .cells, .meas, .links, .spc, .shunts, .loop, .host, .flt, .bist, .out]
  | .resetApply =>
      [.now, .glb, .pins, .regs, .cells, .meas, .temps, .ana, .segs, .links, .play, .spc, .shunts, .results,
       .therm, .pwr, .loop, .tu, .acc, .host, .flt, .bist, .chk, .nvm, .stopOrigin, .out]
  | .resetReq _ | .fltClear _ | .firstRearm _ | .ovfClear _ | .countClear _ | .slowRound _ | .keeperRelease _ _ |
        .parkReq _ _ | .openReqSet _ _ | .openReqClear _ _ | .swap _ | .phaseReturn _ | .spcCtrlEn _ | .stepCtrlSource _
        | .shuntReadmit _ | .guardWrite _ | .snapNow _ | .kvalSnap _ | .kvalReset _ | .anomalyClear _ |
        .drydownCfgCopy _ _ | .linkRetrain _ _ | .segReset _ _ | .portEnable _ | .retrain _ | .timeNowWrite _ _ |
        .followOff _ | .accordApply | .regRead _ _ | .regWrite _ _ | .flaconPolicyWrite _ | .logCopy _ | .hostEnable _ |
        .resetRings _ | .scanStart _ _ | .scanAbort _ _ =>
      [.now, .glb, .pins, .regs, .cells, .meas, .ana, .segs, .links, .play, .spc, .shunts, .results, .therm,
       .pwr, .loop, .tu, .acc, .host, .flt, .bist, .chk, .nvm, .out, .free]
  | .shutdownLatchClear _ =>
      [.therm, .free]
  | .estopNLow _ | .phFltNLow _ =>
      [.pins, .ana, .spc, .flt, .out, .free]
  | .estopNHigh | .phFltNHigh | .phasesReleased =>
      [.pins, .spc]
  | .hostReset _ =>
      [.pins, .regs, .results, .loop, .host, .flt, .out]
  | .pcieLinkDown =>
      [.host, .flt]
  | .faultEntry _ _ _ _ _ _ =>
      [.loop, .host, .flt, .chk, .out, .free]
  | .intakeMove | .frameDeadline =>
      [.flt]
  | .faultRead _ _ _ | .faultClear _ _ | .releasePark _ _ | .streamStart _ _ _ _ | .streamStop _ | .powerEvaluate |
        .dozeExit | .loopPing _ | .marks _ _ | .nvmLogRead _ _ _ | .dbCmdTail _ | .dbCplHead _ | .bistRun _ _ =>
      [.cells, .meas, .links, .spc, .shunts, .pwr, .loop, .host, .flt, .bist, .out]
  | .thermalSample _ =>
      [.therm, .flt]
  | .modelStep =>
      [.cells, .therm]
  | .ntcSample _ =>
      [.cells, .meas, .temps, .shunts, .flt]
  | .slowRoundEnd _ =>
      [.therm, .loop, .host, .flt, .bist, .out]
  | .scheduledEdge _ =>
      [.cells, .segs, .links, .play]
  | .commutationStep _ | .stepUnconfirmed _ | .noPath _ =>
      [.cells, .links]
  | .stepConfirmed _ =>
      [.cells, .meas, .ana, .links, .play, .shunts, .results, .loop, .host, .flt, .out]
  | .ovTrip _ _ | .uvTrip _ _ | .clampDetect _ =>
      [.cells, .meas, .links, .shunts]
  | .keeperTrip _ _ | .keeperHoldExpiry _ =>
      [.cells, .segs]
  | .releaseJudged =>
      [.links, .loop, .host, .bist, .out]
  | .downlinkBeacon _ _ =>
      [.cells, .meas, .segs, .links, .shunts, .free]
  | .uplinkBeacon _ _ =>
      [.links, .spc]
  | .parkSymbolReceived _ | .config _ =>
      [.cells, .meas, .segs, .links, .shunts]
  | .linkSilence _ =>
      [.cells, .meas, .segs, .shunts, .free]
  | .orphan =>
      [.glb, .cells, .meas, .ana, .segs, .links, .play, .spc, .shunts, .results, .pwr, .loop, .host, .flt,
       .bist, .stopOrigin, .out]
  | .orphanPark =>
      [.ana, .links, .spc, .loop, .out]
  | .run _ _ =>
      [.glb, .cells, .meas, .links, .play, .spc, .shunts, .pwr, .loop, .host, .flt, .bist, .out]
  | .runStart =>
      [.cells, .ana, .play, .spc, .results]
  | .stop _ =>
      [.glb, .cells, .meas, .ana, .segs, .links, .play, .spc, .shunts, .results, .pwr, .loop, .host, .flt,
       .bist, .nvm, .stopOrigin, .out]
  | .cycleBoundary | .frameAnswer =>
      [.glb, .cells, .meas, .ana, .segs, .links, .play, .spc, .shunts, .results, .loop, .host, .flt, .bist,
       .stopOrigin, .out]
  | .rungMove _ =>
      [.cells]
  | .swapApplied =>
      [.cells, .segs, .play]
  | .sweep _ _ _ _ _ | .resultFetch _ _ _ | .dbResHead _ _ =>
      [.cells, .meas, .links, .spc, .shunts, .results, .pwr, .loop, .host, .flt, .bist, .out]
  | .sweepStart =>
      [.cells, .ana, .results, .loop, .host, .out]
  | .setFrame _ | .stepIdle _ | .stepFrameDropped _ =>
      [.pins, .cells, .ana, .spc, .flt, .out]
  | .addTimeout _ | .phaseFailed _ _ | .toggleTestEnd | .vstring | .peak _ _ =>
      [.pins, .ana, .spc, .flt, .out]
  | .stepLinkLost =>
      [.spc, .flt, .out]
  | .rampStep _ =>
      [.pins, .spc, .out]
  | .dwellComplete =>
      [.spc, .out]
  | .deadlineMiss | .toggleTest | .toggleRetry =>
      [.spc, .flt]
  | .phaseSwitch _ _ =>
      [.spc, .free]
  | .windowRescale | .phaseShed | .peakClear _ =>
      [.spc]
  | .slotConversion _ _ | .coverTimeout _ | .capture _ _ | .neighbour _ =>
      [.meas, .links, .shunts]
  | .verifierVisit _ _ =>
      [.meas, .segs, .links, .shunts]
  | .noCrosscheck _ =>
      [.meas, .links]
  | .contactVisit _ _ _ _ _ =>
      [.cells, .meas, .ana, .segs, .links, .shunts, .results, .loop, .host, .flt, .out]
  | .shuntSlotMean _ _ =>
      [.links, .play, .shunts, .results, .flt]
  | .shuntCompare =>
      [.spc, .shunts, .flt]
  | .streamMark _ =>
      [.links, .shunts]
  | .zeroEstimate =>
      [.results]
  | .zeroStale =>
      [.results, .flt]
  | .tally | .cellSnapshot | .res _ _ | .recordResend =>
      [.results, .loop, .host, .out]
  | .edgeR _ =>
      [.ana, .results, .loop, .host, .out]
  | .powerBudget _ _ =>
      [.regs, .cells, .meas, .segs, .links, .spc, .shunts, .pwr, .loop, .host, .flt, .bist, .out]
  | .drydownEntered =>
      [.glb, .pins, .cells, .meas, .segs, .links, .spc, .shunts, .pwr, .loop, .host, .flt, .bist, .out, .free]
  | .wake _ | .wakeSymbol _ =>
      [.cells, .meas, .segs, .links, .spc, .shunts, .pwr, .loop, .host, .flt, .bist, .out]
  | .drydownExit =>
      [.glb, .cells, .meas, .segs, .links, .spc, .shunts, .results, .pwr, .loop, .host, .flt, .bist, .out]
  | .patrol _ =>
      [.meas, .segs, .links]
  | .patrolWindowEnd _ _ _ _ =>
      [.temps, .ana, .segs, .links, .therm]
  | .confirmationPatrol _ =>
      [.meas, .segs]
  | .patrolReport _ | .segLost _ =>
      [.pins, .meas, .segs, .links, .pwr, .out]
  | .stackLow _ _ =>
      [.glb, .segs]
  | .spanTrained _ _ =>
      [.cells, .segs, .links, .shunts, .flt, .bist]
  | .carrierLost _ _ =>
      [.links, .flt]
  | .linkLost _ =>
      [.regs, .cells, .meas, .links, .play, .spc, .shunts, .loop, .host, .flt, .bist, .nvm, .out]
  | .share _ | .timeMessage _ _ | .islot _ | .segFeedRestore _ _ =>
      [.segs, .links]
  | .segmentCmd _ | .feedLoss _ =>
      [.cells, .meas, .segs, .links, .play, .spc, .shunts, .loop, .host, .flt, .bist, .out]
  | .edge _ =>
      [.ana, .links, .play, .flt]
  | .output _ =>
      [.ana, .links, .results, .loop, .host, .out]
  | .sums _ | .burst _ =>
      [.ana, .links]
  | .segmentRsp _ =>
      [.regs, .links, .play, .loop, .host, .nvm, .out]
  | .stream _ =>
      [.links, .loop, .host, .out]
  | .idle _ _ =>
      [.loop, .flt, .out]
  | .idleSend _ | .retransmit _ | .retireNotice | .timeFrameTx | .loopFrameError _ _ _ =>
      [.loop, .out]
  | .portDown _ =>
      [.loop, .host, .flt, .out]
  | .cmd _ _ | .descriptorFetch _ _ | .completion =>
      [.now, .glb, .pins, .regs, .cells, .meas, .ana, .segs, .links, .play, .spc, .shunts, .results, .therm,
       .pwr, .loop, .tu, .acc, .host, .flt, .bist, .chk, .nvm, .stopOrigin, .out, .free]
  | .rsp _ _ | .event _ _ | .censusTimeout =>
      [.loop, .host, .out]
  | .time _ _ _ =>
      [.now, .glb, .meas, .segs, .links, .spc, .results, .therm, .pwr, .loop, .tu, .host, .flt, .bist, .out]
  | .census _ =>
      [.cells, .meas, .links, .spc, .shunts, .pwr, .loop, .host, .flt, .bist, .out, .free]
  | .probe _ _ | .reply _ _ | .assign _ _ =>
      [.glb, .cells, .meas, .links, .spc, .shunts, .loop, .host, .flt, .bist, .nvm, .out]
  | .ptmDialogue _ _ =>
      [.now, .glb, .meas, .segs, .links, .spc, .results, .therm, .pwr, .loop, .tu, .host, .flt, .bist]
  | .holdover | .holdoverLimit =>
      [.tu, .flt]
  | .sourceLost _ =>
      [.tu]
  | .accordBegin _ _ | .accordPrepare _ _ _ _ =>
      [.cells, .meas, .links, .spc, .shunts, .pwr, .loop, .acc, .host, .flt, .bist, .out]
  | .accordCommit _ _ _ | .accordAbort _ _ =>
      [.cells, .meas, .links, .play, .spc, .shunts, .pwr, .loop, .acc, .host, .flt, .bist, .out]
  | .graceExpiry =>
      [.links, .play, .acc, .flt]
  | .regReadBlock _ _ _ =>
      [.cells, .meas, .links, .spc, .shunts, .pwr, .loop, .tu, .host, .flt, .bist, .out]
  | .flaconLoad _ _ _ _ _ | .flaconErase _ _ =>
      [.cells, .meas, .links, .play, .spc, .shunts, .pwr, .loop, .host, .flt, .bist, .nvm, .out]
  | .flaconVerify _ _ =>
      [.regs, .cells, .meas, .links, .play, .spc, .shunts, .pwr, .loop, .host, .flt, .bist, .nvm, .out]
  | .cmdTimeout _ =>
      [.host, .flt, .out]
  | .coalesceTimeout _ =>
      [.host, .out]
  | .periodicSlice =>
      [.loop, .host, .bist, .out]
  | .sliceEnd _ _ =>
      [.cells, .meas, .links, .spc, .shunts, .loop, .host, .flt, .bist, .out]
  | .checkScan _ _ =>
      [.cells, .meas, .links, .spc, .shunts, .pwr, .loop, .host, .flt, .bist, .chk, .out]
  | .scanDone _ =>
      [.loop, .host, .chk, .out, .free]
  | .pageProgrammed _ | .eraseDone _ =>
      [.glb, .loop, .host, .flt, .nvm, .out, .free]
  | .begin _ _ _ | .chunk _ _ _ | .verify _ | .activate _ | .abort _ | .flaconKey _ _ =>
      [.cells, .meas, .links, .spc, .shunts, .pwr, .loop, .host, .flt, .bist, .nvm, .out]
  | .logRetentionEnd _ _ =>
      [.segs]
  | .auxMonitorUpdate _ =>
      [.pwr, .flt, .nvm]
  | .pcieLinkUp =>
      [.glb, .pins, .cells, .meas, .links, .spc, .shunts, .loop, .host, .flt, .bist, .nvm, .out]
  | .portTrainingTimeout _ =>
      [.loop]

end Sys2Proof.Machine
end

