-- ==== Sys2Proof/Certificates/Slice0/Obligations.lean ====
section
/-!
DEFINITION. The statements for the provers.
-/

open Sys2Proof Sys2Proof.Machine

/-! ### The queue, the clock, memory, the parts a command may change -/

/-- With a command in front of the queue, a step is that command on the state with the queue's rest. That an empty queue
brings a tick is the model's choice (log 15): line time moves on by 4 ns and wraps at 2^64 ns, and besides only the loop's
transmitters, the JTAG port and what leaves the module may change while no BAR0 read is held; in an unpowered hub nothing
else changes at all. -/
def Obligations.StepsOfTheQueue : Prop :=
  (∀ (c : Instr) (rest : List Instr) (s : State), s.pending = c :: rest → step s = exec c { s with pending := rest }) ∧
  (∀ s : State, s.pending = [] → step s = .next s.idle ∧ s.idle.pending = []) ∧
  (∀ s : State, s.pending = [] → s.host.heldReads = [] → ∃ t : State, step s = .next t ∧ t.now = (s.now + 4) % 2 ^ 64 ∧
    Touch [.now, .pins, .loop, .out, .free] s t) ∧
  (∀ s : State, s.pending = [] → s.host.heldReads = [] → s.powered = false →
    step s = .next { s with now := (s.now + 4) % 2 ^ 64 })

/-- What the spec's Reset columns and R7, R59, R477 give the module right after reset: state BOOT before it OFF, registers
at their reset values, every cell in BYPASS in the keeper's power-up hold, no link up, the SPC disabled, the stage off,
no fault, no slice run, no record, no command waiting, memory in canonical form. Pin levels are the model's (log 13). -/
def Obligations.ResetState : Prop :=
  State.reset.glb.st = .boot ∧ State.reset.glb.prev = .off ∧ State.reset.now = 0 ∧ State.reset.regs = [] ∧
  (∀ k, (State.reset.cells.get k).st = .bypass ∧ (State.reset.cells.get k).keepHold = true ∧
    (State.reset.cells.get k).gates = ⟨false, false, true, true⟩ ∧ (State.reset.cells.get k).causes = 0) ∧
  (∀ g, (State.reset.segs.get g).st = .unpowered ∧ (State.reset.segs.get g).keeper.holding = true ∧
    (State.reset.segs.get g).keeper.tripped = false ∧ (State.reset.links.get g).st = .down) ∧
  (∀ g, (State.reset.links.get g).beacon = none ∧ (State.reset.segs.get g).timeSet = false) ∧
  State.reset.play.st = .empty ∧ State.reset.spc.st = .disabled ∧ State.reset.spc.target = 0 ∧
  (∀ p, (State.reset.spc.phases.get p).pwm = .released) ∧ State.reset.pins.phEnHigh = true ∧
  State.reset.flt.sticky = [] ∧ State.reset.flt.log = [] ∧ State.reset.flt.first = none ∧
  (∀ n, (State.reset.bist.slices.get n).result = .notRun) ∧ State.reset.results.slots = [] ∧
  State.reset.results.nextSeq = 0 ∧ State.reset.loop.a.st = 0 ∧ State.reset.loop.b.st = 0 ∧ State.reset.tu.st = 0 ∧
  State.reset.acc.st = .idle ∧ State.reset.host.st = 0 ∧ State.reset.pwr.st = .active ∧ State.reset.pending = [] ∧
  Memory.wf State.reset = true

/-- Every command, in every state, answers a next state; it leaves the queue alone, takes back nothing that has left the
module, uses no free value twice and keeps every sparse memory in its canonical form. -/
def Obligations.EveryCommandKeeps : Prop := ∀ (c : Instr) (s : State), ∃ t, exec c s = .next t ∧ Keeps s t

/-- The canonical form of memory holds right after reset and is kept by every step. -/
def Obligations.MemoryCanonical : Prop :=
  Memory.wf State.reset = true ∧ ∀ s t : State, Memory.wf s = true → step s = .next t → Memory.wf t = true

/-- The frame of every command: before the collector takes what the command has raised, nothing outside the parts that
`touched` names for it has changed. -/
def Obligations.EveryCommandFrame : Prop :=
  ∀ (c : Instr) (s : State), ∃ u : State, exec c s = .next u.settle ∧ Touch (touched c) s u
/-! ### Aux, boot, resets (chapters 01, 15, 17) -/

/-- AUX_IN_RANGE powers the module up into BOOT: everything at its reset value but the shutdown latch, the segments'
drydown logs and stacks, the flash and what has left the module. SHUTDOWN_LATCH_CLEAR frees the latch once aux has been
below 6 V for 2.5 s. AUX_OUT_OF_RANGE stops the hub: the stage is off, writes in progress are abandoned, OPEN cells leave OPEN
where the module was in READY or STARTUP_TEST, the segments fall back on their stacks, the hub's domains are off, and the
module is DORMANT where a stack is at 20 V or above and OFF else. -/
def Obligations.PowerUpAndDown : Prop :=
  ((∀ (s : State) (mv : Nat), s.powered = false → 17000 ≤ mv → mv ≤ 33000 →
    ∃ t : State, exec (.auxInRange mv) s = .next t ∧ t.glb.st = .boot ∧ t.glb.prev = s.glb.st ∧ t.now = 0 ∧ t.regs = [] ∧
      (∀ k, t.cells.get k = CellPath.reset) ∧
      (∀ g, t.segs.get g = { Segment.reset with
        log := (s.segs.get g).log, logOver := (s.segs.get g).logOver, stackMv := (s.segs.get g).stackMv }) ∧
      t.nvm = { Nvm.reset with flash := s.nvm.flash } ∧ t.therm.latched = s.therm.latched ∧ t.flt = Flt.reset ∧
      t.out = s.out ∧ t.pending = s.pending) ∧
  (∀ (s : State) (ms : Nat), s.settled = true → s.powered = false → 2500 ≤ ms →
    exec (.shutdownLatchClear ms) s = .next { s with
      therm := { s.therm with latched := false, tripSource := 0, tripTemp := 0 }, free := s.free + 1 })) ∧
  (∀ (s : State) (mv : Nat), s.powered = true → mv < 16000 ∨ 34000 < mv →
    let b := s.stageOff.abandonWrites none
    let a := each allSegs (fun x g => x.segAuxLost g)
      (if s.glb.st = .ready ∨ s.glb.st = .startupTest then b.leaveOpenAll else b)
    exec (.auxOutOfRange mv) s = .next (State.settle { a with
      pwr := { a.pwr with
        inRange := false, nvmOk := false, hubOn := 0, hubRet := 0, auxMv := Nat.min 0xFFFF mv, exitFrom := none, going := none }
      pins := { a.pins with wakeLow := false }
      glb := { a.glb with
        st := if ∃ g, 20000 ≤ (a.segs.get g).stackMv then .dormant else .off, prev := a.glb.st, enteredAt := a.now
        resetAt := none, recoveryResetAt := none, recovery := false, heldHalt := false } }))

/-- POWER_ON_RESET samples HEAD_EN; with the shutdown latch still set it brings the event of 150 °C with the sensor and
temperature that the latch holds, and else the boot ROM runs: the module stays in BOOT with its domains on, and either a slot
is verified or the module is in recovery mode. FIRMWARE_START follows a verified slot: the
journal is recovered, the configuration and the calibration are loaded, no feed is on yet. -/
def Obligations.BootRom : Prop :=
  (∀ (s : State) (headEn : Bool), s.glb.st = .boot → s.glb.phase = .held → s.glb.recovery = false → s.glb.cause = 0 →
    (s.therm.latched = true → exec (.powerOnReset headEn) s = .next (State.settle
      (State.shutdownNow { s with
        glb := { s.glb with headEn := headEn, latchAtBoot := true }
        pwr := { s.pwr with hubOn := if headEn then 0xFF else 0xDF } } s.therm.tripSource s.therm.tripTemp))) ∧
    (s.therm.latched = false → exec (.powerOnReset headEn) s = .next (State.settle
      (State.bootRom { s with glb := { s.glb with headEn := headEn, latchAtBoot := false } })))) ∧
  (∀ s : State, s.bootRom.glb.st = s.glb.st ∧ s.bootRom.glb.headEn = s.glb.headEn ∧ (s.bootRom.glb.phase = .verified ∨ s.bootRom.glb.recovery = true) ∧
    s.bootRom.pwr.hubOn = s.allDomains ∧ Touch [.glb, .pwr, .loop, .flt, .nvm] s s.bootRom) ∧
  (∀ s : State, s.glb.st = .boot → s.glb.phase = .verified →
    let a := s.recoverJournal.loadConfig.loadCalibration
    let u := (a.modGlb (fun g => { g with phase := .firmware, feedsOn := 0 })).startRepair
    exec .firmwareStart s = .next u.settle ∧ u.glb = { s.glb with phase := .firmware, feedsOn := 0 } ∧
      Touch [.glb, .therm, .flt, .nvm] s u)

/-- FEED_ENABLE switches on the first feed, and the next where the one before has come to its voltage, whose output and stack
it takes; SEGMENT_IMAGE_PUSH sends a segment in BOOT the image of the running slot; SEQUENCER_START starts a loaded segment
whose keeper has not tripped: converters and drivers are on, the keeper's hold is over for its cells, no other segment or
cell path changes. -/
def Obligations.SegmentStart : Prop :=
  (∀ (s : State) (ok : Bool) (v mv : Nat), s.settled = true → s.glb.st = .boot → s.glb.phase = .firmware →
    s.glb.feedsOn = 0 → exec (.feedEnable ok v mv) s = .next
      ((s.setFld (Fld.segFeedCtrlFeedEn 0) 1).modGlb (fun g => { g with feedsOn := 1, feedAt := s.now }))) ∧
  (∀ (s : State) (v mv : Nat), s.settled = true → s.glb.st = .boot → s.glb.phase = .firmware → 0 < s.glb.feedsOn →
    s.glb.feedsOn < 16 → (s.segs.get (seg (s.glb.feedsOn - 1))).st = .boot →
    (s.links.get (seg (s.glb.feedsOn - 1))).st ≠ .down →
    exec (.feedEnable true v mv) s = .next
      (((s.modSeg (seg (s.glb.feedsOn - 1)) (fun x => { x with
        feedOk := true, feedV := v % 256, stackMv := mv, onStack := false })).setFld
          (Fld.segFeedCtrlFeedEn (seg s.glb.feedsOn)) 1).modGlb (fun g => { g with
            feedsOn := s.glb.feedsOn + 1, feedAt := s.now }))) ∧
  (∀ (s : State) (g : Seg), s.settled = true → s.linkUp g = true → s.powered = true → (s.segs.get g).st = .boot →
    (s.segs.get g).imageIn = false → exec (.segmentImagePush g) s = .next (s.sendShare g 2 s.segmentImage)) ∧
  (∀ (s : State) (g : Seg), s.glb.st ≠ .boot ∨ s.glb.feedsOn < 17 → (s.segs.get g).st = .boot →
    (s.segs.get g).imageIn = true → (s.segs.get g).keeper.tripped = false →
    ∃ u : State, exec (.sequencerStart g) s = .next u.settle ∧
      (u.segs.get g).st = .running ∧ (u.segs.get g).smeas = true ∧ (u.segs.get g).sdrv = true ∧
      (u.segs.get g).keeper = { (s.segs.get g).keeper with
        heartbeat := true, supplyOk := true, lastBeat := s.now, holding := false } ∧
      (∀ k ∈ cellsOf g, u.cells.get k = { s.cells.get k with keepHold := false }) ∧
      (∀ k, k ∉ cellsOf g → u.cells.get k = s.cells.get k) ∧ ∀ g', g' ≠ g → u.segs.get g' = s.segs.get g')

/-- STARTUP_TEST_END with nothing left to run: enabled loop ports train, a fault of class HALT held through the test sends
the module to HALT, and else it goes to READY where it has a position and, on a head, a host link. DRYDOWN_LOG_COLLECT
collects the segments' drydown logs. -/
def Obligations.StartupTestEnd : Prop :=
  (∀ s : State, s.glb.st = .startupTest → s.glb.testEnded = false → s.glb.feedsOn = 17 → s.bist.running = none →
    s.bist.queue = [] → s.bist.slowDue = false → s.therm.slowBusy = none → s.settled = true →
    let a := State.trainPorts { s with
      glb := { s.glb with testEnded := true }
      bist := { s.bist with queue := [], mode := .idle, runKind := .idle } }
    (s.glb.heldHalt = true → exec .startupTestEnd s = .next (State.settle (State.haltNow
      (a.modGlb (fun g => { g with heldHalt := false }))))) ∧
    (s.glb.heldHalt = false → exec .startupTestEnd s = .next a.tryReady.settle)) ∧
  (∀ s : State, s.glb.st = .startupTest → s.glb.testEnded = true → s.loop.valid = true →
    s.glb.headEn = false ∨ s.host.linkUp = true →
    s.tryReady.glb.st = .ready ∧ s.tryReady.glb.prev = .startupTest) ∧
  (∀ s : State, s.powered = true → s.glb.phase = .firmware → s.glb.st ≠ .drydown → s.glb.st ≠ .shutdownLatched →
    exec .drydownLogCollect s = .next s.collectLogs.settle)

/-- RESET_N low for 1 µs or more, WATCHDOG and RECOVERY_RESET ask for a reset of code 1, 2 and 4: a slice that runs is
preempted, PH_EN_N goes high and every phase is released, a park symbol goes to every segment and is repeated for 8 frames,
and the reset is due 20 µs later. -/
def Obligations.ResetRequested : Prop :=
  ∀ s : State, s.glb.resetAt = none → s.powered = true → s.glb.st ≠ .shutdownLatched →
    let asked (s : State) (code : Nat) : State :=
      let a := s.abortSlice
      { a with
        spc := { a.spc with phases := a.spc.phases.map PhaseSt.idle }
        pins := { a.pins with phEnHigh := true }
        links := a.links.map (fun l => { l with parkSym := some false, parkLeft := 8 })
        glb := { a.glb with resetAt := some (s.now + 20000, code) } }
    (∀ p : PhaseSt, p.idle.pwm = .released ∧ p.idle.active = false ∧ p.idle.centre = 0) ∧
    (s.bist.running = none → s.abortSlice = s) ∧
    (∀ lowNs, 1000 ≤ lowNs → exec (.resetN lowNs) s = .next (asked { s with free := s.free + 1 } 1).settle) ∧
    (s.glb.phase = .firmware → exec .watchdog s = .next (asked s 2).settle) ∧
    (∀ t, s.glb.recoveryResetAt = some t → s.glb.recovery = true → t ≤ s.now →
      exec .recoveryReset s = .next (asked { s with glb := { s.glb with recoveryResetAt := none } } 4).settle)

/-- RESET_APPLY, when a requested reset is due: line time is 0, the module is in BOOT with the code as its reset cause and one
more reset counted; the player, the SPC, the host port, the accord and the records are at their reset values, of the
registers only those that such a reset keeps have their value, PH_EN_N is high, the queue stays as it was, and
a slot is verified or the module is in recovery mode, before the collector acts. -/
def Obligations.ResetApplied : Prop :=
  ∀ (s : State) (t code : Nat), s.glb.resetAt = some (t, code) → s.powered = true → s.glb.st ≠ .shutdownLatched →
    t ≤ s.now → ∃ u : State, exec .resetApply s = .next u.settle ∧ u.now = 0 ∧ u.glb.st = .boot ∧
      u.glb.prev = s.glb.st ∧ u.glb.cause = code ∧ u.glb.resetCount = satAdd 0xFF s.glb.resetCount 1 ∧
      u.regs = s.regs.filter (fun e => keptReg e.1) ∧ u.play = Player.reset ∧ u.spc = Spc.reset ∧ u.host = HostPort.reset ∧
      u.acc = Accord.reset ∧ u.results = Ana.reset ∧ u.pins.phEnHigh = true ∧ u.pending = s.pending ∧
      u.tu = TimeUnit.reset ∧ (u.glb.phase = .verified ∨ u.glb.recovery = true)

/-! ### The halt path (chapters 01, 12, 13) -/

/-- The event that leads to HALT: from READY, RUN, DRYDOWN, ORPHAN and STARTUP_TEST the module is in HALT, the stage is off,
the SPC inhibited, the power state ACTIVE and a park symbol on every link for 8 frames, and a player in RUN is HALTED; in BOOT
the event is held; elsewhere nothing changes. In ORPHAN a fault of class HALT other than ESTOP is no such event (log 19). -/
def Obligations.HaltEntered : Prop :=
  (∀ s : State, s.glb.st = .ready ∨ s.glb.st = .run ∨ s.glb.st = .drydown ∨ s.glb.st = .orphan ∨ s.glb.st = .startupTest →
    s.haltNow.glb = { s.glb with st := .halt, prev := s.glb.st, enteredAt := s.now } ∧ s.haltNow.pins = { s.pins with phEnHigh := true } ∧
    (∀ p, (s.haltNow.spc.phases.get p).active = false ∧ (s.haltNow.spc.phases.get p).pwm = .released) ∧
    s.haltNow.spc.causes.getLsbD inhHalt = true ∧ s.haltNow.spc.st ≠ .regulate ∧ s.haltNow.spc.st ≠ .standby ∧
    s.haltNow.pwr.st = .active ∧ (s.glb.st = .run → s.haltNow.play.st = .halted) ∧
    ∀ g, (s.haltNow.links.get g).parkSym = some false ∧ (s.haltNow.links.get g).parkLeft = 8) ∧
  (∀ s : State, s.glb.st = .boot → s.haltNow = { s with glb := { s.glb with heldHalt := true } }) ∧
  (∀ s : State, s.glb.st = .halt ∨ s.glb.st = .shutdownLatched ∨ s.glb.st = .off ∨ s.glb.st = .dormant → s.haltNow = s) ∧
  ∀ (s : State) (x : Src), (s.glb.st = .orphan → x ≠ .estop → s.classEffect x .halt = s) ∧
    (s.glb.st ≠ .orphan ∨ x = .estop → s.glb.st ≠ .startupTest → s.classEffect x .halt = s.haltNow)

/-- The commands of the halt path: HALT_DECISION halts outside BOOT; HALT_REQUEST preempts a running slice, sets the sticky
bit of the report of class HALT that the segment's link still carries, and halts; a low of ESTOP_N or PH_FLT_N of 20 ns or less
is ignored, one of 50 ns or more inhibits the SPC, switches the stage off and raises its source; the high edges end their
inhibit. -/
def Obligations.HaltPathCommands : Prop :=
  (∀ s : State, s.glb.st ≠ .boot → exec .haltDecision s = .next s.haltNow.settle) ∧
  (∀ (s : State) (g : Seg), s.linkUp g = true → (s.links.get g).haltReq = true → s.powered = true →
    let a := (s.modLink g (fun l => { l with haltReq := false })).abortSlice
    (a.pendingHalt g = none → exec (.haltRequest g) s = .next a.haltNow.settle) ∧
    ∀ r, a.pendingHalt g = some r → exec (.haltRequest g) s = .next (State.settle (State.haltNow
      ((a.markSticky r.src .halt (reportUnit r) a.now).modFlt (fun f => { f with awaited := (r.src, g) :: f.awaited }))))) ∧
  (∀ (s : State) (ns : Nat), s.powered = true → 50 ≤ ns →
    exec (.estopNLow ns) s = .next (State.settle (State.raise
      (State.stageOff (State.inhibit { s with pins := { s.pins with estopN := false } } inhEstop)) .estop none none 0 0 0)) ∧
    exec (.phFltNLow ns) s = .next (State.settle (State.raise
      (State.stageOff (State.inhibit { s with pins := { s.pins with phFltN := false } } inhPhFlt)) .phFlt none none 0 0 0))) ∧
  (∀ (s : State) (ns : Nat), s.settled = true → ns ≤ 20 →
    exec (.estopNLow ns) s = .next s ∧ exec (.phFltNLow ns) s = .next s) ∧
  (∀ s : State, s.settled = true →
    exec .estopNHigh s = .next (State.endInhibit { s with pins := { s.pins with estopN := true } } inhEstop) ∧
    exec .phFltNHigh s = .next (State.endInhibit { s with pins := { s.pins with phFltN := true } } inhPhFlt))

/-- SHUTDOWN of a sensor whose reading in use or bank output is at or above 150.00 °C brings the event of 150 °C; in every
powered state but SHUTDOWN_LATCHED it leaves the module SHUTDOWN_LATCHED, the latch with the sensor and its temperature, the
stage off, a park symbol on every link and no reset asked for, and raises the source SHUTDOWN. -/
def Obligations.ShutdownTaken : Prop :=
  (∀ (s : State) (i : Fin 33), s.at150 i.val = true → s.auxComing = false →
    exec (.shutdown i) s = .next (s.shutdownNow i.val (s.sensorTemp i.val)).settle) ∧
  ∀ (s : State) (sensor : Nat) (temp : Int), s.powered = true → s.glb.st ≠ .shutdownLatched →
    (s.shutdownNow sensor temp).glb =
      { s.glb with st := .shutdownLatched, prev := s.glb.st, enteredAt := s.now, heldHalt := false, resetAt := none } ∧
    (s.shutdownNow sensor temp).therm = { s.therm with latched := true, tripSource := sensor, tripTemp := temp } ∧
    (s.shutdownNow sensor temp).pins = { s.pins with phEnHigh := true } ∧
    (∀ p, ((s.shutdownNow sensor temp).spc.phases.get p).pwm = .released) ∧
    (∀ g, ((s.shutdownNow sensor temp).links.get g).parkSym = some false) ∧
    ∃ r ∈ (s.shutdownNow sensor temp).flt.due, r.1.src = .shutdown ∧ r.1.arg0 = word sensor ∧ r.1.arg1 = wordI temp

/-! ### The fault collector (chapter 13) -/

/-- A source that a command has raised is sticky when the command ends, and so is what was sticky before. Where nothing waits for the collector and no sweep plays, the end of a command changes nothing. -/
def Obligations.RaisedIsSticky : Prop :=
  (∀ (s : State) (x : Src),
    (x ∈ s.flt.sticky ∨ ∃ l r t, s.flt.due = l ++ r :: t ∧ r.1.src = x ∧ l.length < 4096) → x ∈ s.settle.flt.sticky) ∧
  (∀ s : State, s.settled = true → s.settle = s)

/-- At entry the collector sets the source's sticky bit, adds 1 to its 16-bit counter, which saturates, and keeps the class in
force; no log record is lost or moved. An occurrence of a source that has one at its tick already is not counted and forms no
record. The tick is the later of now and the report's own time. -/
def Obligations.OccurrenceCounted : Prop :=
  (∀ (s : State) (r : Report) (fl : BitVec 8), r.src ∈ (s.enterFault r fl).flt.sticky) ∧
  (∀ (s : State) (r : Report) (fl : BitVec 8), ¬ (s.flt.tickOf = Nat.max s.now r.time ∧ s.flt.tickSrcs.contains r.src = true) →
    (s.enterFault r fl).counter (srcNumber r.src) = Nat.min 0xFFFF (s.counter (srcNumber r.src) + 1) ∧
    (s.enterFault r fl).classOf r.src = s.classNow r.src ∧ (s.enterFault r fl).flt.log = s.flt.log) ∧
  ∀ (s : State) (r : Report) (fl : BitVec 8), s.flt.tickOf = Nat.max s.now r.time → s.flt.tickSrcs.contains r.src = true →
    (s.enterFault r fl).flt.counts = s.flt.counts ∧ (s.enterFault r fl).flt.log = s.flt.log ∧
    (s.enterFault r fl).flt.intake = s.flt.intake ∧ (s.enterFault r fl).flt.first = s.flt.first

/-- FAULT_ENTRY brings an occurrence to the collector, where its source is sticky when the command ends; INTAKE_MOVE takes
the record at the head of the intake 200 ns after the record before: into the log while it has room, with the next SEQ and
AFTER_DROP where records were dropped since, and else it is dropped and counted. -/
def Obligations.CollectorEvents : Prop :=
  (∀ (s : State) (x : Src) (g : Option Seg) (k : Option Cell) (a0 a1 a2 : Word), s.settled = true →
    ∃ t : State, exec (.faultEntry x g k a0 a1 a2) s = .next t ∧ x ∈ t.flt.sticky) ∧
  (∀ (s : State) (r : Sillage) (l : List Sillage), s.settled = true → s.flt.intake = r :: l → s.flt.intakeAt + 200 ≤ s.now →
    ∃ t : State, exec .intakeMove s = .next t ∧ t.flt.intake = l ∧ t.flt.intakeAt = s.now ∧ Touch [.flt] s t ∧
      (s.flt.log.length < 64 → t.flt.log = s.flt.log ++
          [{ r with seq := s.flt.nextSeq, flags := r.flags ||| (if s.flt.afterDrop then 4 else 0) }] ∧
        t.flt.nextSeq = (s.flt.nextSeq + 1) % 65536 ∧ t.flt.afterDrop = false ∧ t.flt.logFull = s.flt.logFull) ∧
      (64 ≤ s.flt.log.length → t.flt.log = s.flt.log ∧ t.flt.nextSeq = s.flt.nextSeq ∧
        t.flt.logFull = Nat.min 0xFFFF (s.flt.logFull + 1) ∧ t.flt.afterDrop = true))

/-- FAULT_READ is answered: 1 with the first seven records of the log, 2 likewise once the records up to SEQ FROM have left
it, 3 with the first-fault record, 4 with 120 occurrence counters from FROM, an unknown WHAT with REJECTED. FAULT_CLEAR of one source clears its sticky bit
where the source is neither held nor entered at this tick, and is REJECTED where it is held; the status is kept. -/
def Obligations.CollectorCommands : Prop :=
  (∀ (s : State) (o : Origin) (what from_ : Nat), s.accepts o 0x60 false = true →
    exec (.faultRead o what from_) s =
      .next (((s.taken o).faultRead what from_).2.reply o 0x60 ((s.taken o).faultRead what from_).1).settle) ∧
  (∀ s : State, s.faultRead 1 0 = (⟨.ok, 0, ((s.flt.log.take 7).map sillageBytes).flatten⟩, s) ∧
    s.faultRead 3 0 = (⟨.ok, 0, firstBytes s.flt.first⟩, s) ∧
    (∀ from_, from_ ≤ 136 → s.faultRead 4 from_ =
      (⟨.ok, 0, ((List.range 120).map (fun i => leBytes 2 (s.counter (from_ + i)))).flatten⟩, s)) ∧
    (∀ from_, let a := s.modFlt (fun f => { f with log := f.log.filter (fun r =>
        !(decide (1 ≤ (from_ + 65536 - r.seq) % 65536) && decide ((from_ + 65536 - r.seq) % 65536 ≤ 64))) })
      s.faultRead 2 from_ = (⟨.ok, 0, ((a.flt.log.take 7).map sillageBytes).flatten⟩, a)) ∧
    (∀ what from_, 4 < what → s.faultRead what from_ = (Result.of .rejected, s))) ∧
  (∀ (s : State) (o : Origin) (id : BitVec 16), s.accepts o 0x61 false = true →
    exec (.faultClear o id) s = .next (State.settle (State.reply
      ((((s.taken o).clearFaults id.toNat).2).modFlt (fun f => { f with lastClear := ((s.taken o).clearFaults id.toNat).1 }))
      o 0x61 (Result.of ((s.taken o).clearFaults id.toNat).1)))) ∧
  (∀ (s : State) (x : Src), s.heldSource x = false → ¬(s.flt.tickOf = s.now ∧ s.flt.tickSrcs.contains x = true) →
    (s.clearFaults (srcId x)).1 = .ok ∧
    (s.clearFaults (srcId x)).2.flt.sticky = s.flt.sticky.filter (fun y => y != x) ∧ Touch [.flt] s (s.clearFaults (srcId x)).2) ∧
  (∀ (s : State) (x : Src), s.heldSource x = true → s.clearFaults (srcId x) = (.rejected, s))

/-! ### Temperature (chapter 12) -/

/-- THERMAL_SAMPLE reads, judges and substitutes all 17 diodes in every powered state; MODEL_STEP advances the 16 bank models
and takes the clamp events that they count; NTC_SAMPLE reads, judges and substitutes the 256 NTCs outside DRYDOWN. Of one
sensor: a diode reading outside −40 °C to +160 °C breaks the diode and is not used; an NTC whose resistance lies above that of
−30 °C or below that of +100 °C is broken at once; an NTC whose segment is out of reach keeps its reading, marked stale. A due
slow round starts; its end after 1 s, where no BIST_RUN waits for it, reports each channel that was out of limits in two
means, and every channel while slice 62 stands failed. -/
def Obligations.TemperatureSamples : Prop :=
  ((∀ (s : State) (rs : List Int), s.powered = true →
    let fresh := s.therm.dies.mapIdx (s.dieFresh rs)
    let judged := fresh.mapIdx (s.dieJudge fresh rs)
    ∃ u : State, exec (.thermalSample rs) s = .next u.settle ∧ u.therm.dies = judged.mapIdx (dieUse judged s.now) ∧
      Touch [.therm, .flt] s u) ∧
  (∀ s : State, s.powered = true → ∃ u : State, exec .modelStep s = .next u.settle ∧
    (∀ g : Seg, u.therm.banks.get g = s.bankNext (seg g) (s.therm.banks.get g)) ∧ u.therm.lastModel = s.now ∧
    (∀ k, u.cells.get k = { s.cells.get k with clampHits := 0 }) ∧ Touch [.cells, .therm] s u) ∧
  (∀ (s : State) (rs : List Nat), s.powered = true → s.glb.st ≠ .drydown →
    let fresh := s.temps.mapIdx (s.ntcFresh rs)
    let judged := fresh.mapIdx (s.ntcJudge fresh rs)
    ∃ u : State, exec (.ntcSample rs) s = .next u.settle ∧ u.temps = judged.mapIdx (s.ntcUse judged) ∧
      Touch (touched (.ntcSample rs)) s u)) ∧
  ((∀ (s : State) (rs : List Int) (i : Nat) (d : DieTemp), s.dieReachable i = true →
    rs.getD i 0 < -4000 ∨ 16000 < rs.getD i 0 →
    s.dieFresh rs i d = { d with stale := false, valid := true, broken := true, goods := 0 }) ∧
  (∀ (s : State) (rs : List Nat) (i : Nat) (t : CellTemp), s.ntcReachable (cell i) = true → s.ntcMeasured (cell i) = true →
    1355000 < rs.getD i 0 ∨ rs.getD i 0 < 9870 →
    (s.ntcFresh rs i t).broken = true ∧ (s.ntcFresh rs i t).goods = 0) ∧
  (∀ (s : State) (rs : List Nat) (i : Nat) (t : CellTemp), s.ntcReachable (cell i) = false →
    s.ntcFresh rs i t = { t with stale := true })) ∧
  ((∀ s : State, s.settled = true → s.powered = true → s.slowRoundDue = true → s.therm.slowBusy = none →
    exec (.slowRound none) s = .next { s with
      therm := { s.therm with slowBusy := some s.now }, bist := { s.bist with slowDue := false } }) ∧
  (∀ (s : State) (l : List HouseChannel) (t : Nat), s.therm.slowBusy = some t → t + 1000000000 ≤ s.now →
    s.bist.cmdAll = false →
    ∃ u : State, exec (.slowRoundEnd l) s = .next u.settle ∧ u.therm = { s.therm with slowBusy := none } ∧
      Touch [.therm, .flt] s u ∧
      u.flt.due = s.flt.due ++ (l.filter (fun c => s.sliceFailed 62 || decide (2 ≤ c.outside))).map
        (fun c => ((⟨.housekeeping, s.now, none, none, word c.channel, c.mean, 0⟩ : Report), 0))))

/-- Hold TEMP of a cell begins where its temperature in use leaves the effective range for the sign of the set-point and
ends 1.00 °C inside it, while that range is not empty; an empty range holds the cell, and so does any range a cell whose NTC
has not been sampled yet. There is none with no set-point and none on an excluded cell. -/
def Obligations.TemperatureHold : Prop :=
  ∀ (s : State) (k : Cell),
    (s.setSign = 0 ∨ s.excluded k = true → s.tempDue k = false) ∧
    (∀ (lo hi : Int), s.setSign ≠ 0 → s.excluded k = false → s.tempRange s.setSign = (lo, hi) →
      (hi < lo → s.tempDue k = true) ∧
      (lo ≤ hi → (s.temps.get k).inUse = none → s.tempDue k = !(s.temps.get k).sampled)) ∧
    ∀ (lo hi x : Int), s.setSign ≠ 0 → s.excluded k = false → s.tempRange s.setSign = (lo, hi) → lo ≤ hi →
      (s.temps.get k).inUse = some x →
      ((s.cells.get k).holdTemp = false → (s.tempDue k = true ↔ x < lo ∨ hi < x)) ∧
      ((s.cells.get k).holdTemp = true → (s.tempDue k = true ↔ x < lo + 100 ∨ hi - 100 < x))

/-! ### Cell paths and the keeper (chapter 02) -/

/-- SCHEDULED_EDGE in RUN, at or after the edge's time: where a protection event of the cell falls at the same tick, the edge is
dropped. Else the holds are reviewed, then an IN cell whose edge goes to BYPASS, and a BYPASS cell whose edge goes to IN and
that is neither held nor kept nor waiting for a cycle, starts the commutation of the class in force and counts in its slot; an
IN cell's edge to IN is ignored and counted; an edge that meets a commutation waits. -/
def Obligations.ScheduledEdges : Prop :=
  ∀ (s : State) (k : Cell) (p : Planned) (rest : List Planned), (s.cells.get k).plan = p :: rest → p.tp ≤ s.now →
    s.inRun = true →
    let b := s.modCell k (fun c => { c with plan := rest })
    let a := b.reviewHolds k
    (b.protectedNow k = true → exec (.scheduledEdge k) s = .next b.settle) ∧
    (b.protectedNow k = false → (a.cells.get k).tr = none →
      ((a.cells.get k).st = .isIn → p.toIn = false → exec (.scheduledEdge k) s =
        .next ((a.commutate k false .bypass (some p.tp) p.slot false).countSeg (segOf k) p.slot).settle) ∧
      ((a.cells.get k).st = .isIn → p.toIn = true → exec (.scheduledEdge k) s =
        .next (a.modSeg (segOf k) (fun x => { x with ignored := Nat.min 255 (x.ignored + 1) })).settle) ∧
      ((a.cells.get k).st = .bypass → p.toIn = true → (a.cells.get k).held = false → (a.cells.get k).keepHold = false →
        (a.cells.get k).resume = false → exec (.scheduledEdge k) s =
        .next ((a.commutate k true .isIn (some p.tp) p.slot false).countSeg (segOf k) p.slot).settle)) ∧
    ∀ t, b.protectedNow k = false → (a.cells.get k).tr = some t → t.kind = .four ∨ t.kind = .two →
      exec (.scheduledEdge k) s =
      .next (a.modCell k (fun c => { c with waiting := some p })).settle

/-- COMMUTATION_STEP commands the next step when it is due: the gates become those of the step and the time is noted, and
nothing else of the module changes. Where the interlock refuses the gates, the cell fails as a gate failure instead. -/
def Obligations.CommutationSteps : Prop :=
  ∀ (s : State) (k : Cell) (t : Transition), (s.cells.get k).tr = some t → s.stepDue t = true →
    let g := if t.kind = .undo then undoGates t.cls t.undoLeft (s.cells.get k).gates
      else stepGates t.kind t.cls t.toIn (t.cmds.length + 1) (s.cells.get k).gates
    (interlock g = false → exec (.commutationStep k) s = .next (s.gateFailure k (t.cmds.length + 1)).settle) ∧
    (interlock g = true → ∃ u : State, exec (.commutationStep k) s = .next u.settle ∧ Touch [.cells] s u ∧
      (∀ j, j ≠ k → u.cells.get j = s.cells.get j) ∧
      u.cells.get k = { s.cells.get k with
        gates := g
        tr := some { t with
          cmds := t.cmds ++ [s.now], undoLeft := if t.kind = .undo then t.undoLeft - 1 else t.undoLeft } })

/-- STEP_CONFIRMED of a commanded step, within the step's longest time or of a sequence in which a later one counts too, is
noted, and the last one completes the transition: the cell is in its target with the switch of that state on.
STEP_UNCONFIRMED of a four-step, two-step or undone sequence past that time is a gate failure: S1 is off, the cell is on its way to PARK with cause
GATE. In a gate-failure or clamp sequence, 150 ns without S2 bring NO_PATH, reported once. -/
def Obligations.StepOutcomes : Prop :=
  (∀ (s : State) (k : Cell) (t : Transition), (s.cells.get k).tr = some t → t.confs.length < answerable t →
    s.now ≤ t.cmds.getLastD 0 + confMax t ∨ lateCounts t.kind = true →
    let t' := { t with confs := t.confs ++ [s.now] }
    (complete t' = true → exec (.stepConfirmed k) s = .next (s.completeTransition k t').settle) ∧
    (complete t' = false → exec (.stepConfirmed k) s = .next (s.modCell k (fun c => { c with tr := some t' })).settle)) ∧
  (∀ (s : State) (k : Cell) (t : Transition), (s.cells.get k).tr = some t → t.kind = .four ∨ t.kind = .two ∨ t.kind = .undo →
    t.confs.length < answerable t → t.cmds.getLastD 0 + confMax t < s.now →
    exec (.stepUnconfirmed k) s = .next (s.gateFailure k t.cmds.length).settle) ∧
  (∀ (s : State) (k : Cell) (t : Transition), (s.cells.get k).tr = some t → t.kind = .gateFail ∨ t.kind = .clamp →
    t.cmds.length = 2 → t.confs = [] → t.undoLeft = 0 → t.cmds.getLastD 0 + 150 ≤ s.now →
    exec (.noPath k) s = .next (State.settle (State.segReport (s.modCell k (fun c => { c with
      tr := some { t with undoLeft := 1 } })) (segOf k) (cellReport s.now .noPath k 0 0 0)))) ∧
  (∀ (c : CellPath) (t : Transition), (c.finish t).tr = none ∧ (c.finish t).st = t.target ∧
    (c.finish t).gates = if t.target = .isIn then s1on else s2on) ∧
  ∀ (s : State) (k : Cell) (step : Nat), ∃ tr, ((s.gateFailure k step).cells.get k).tr = some tr ∧ tr.kind = .gateFail ∧
    tr.target = .park ∧ tr.cmds = [s.now] ∧ ((s.gateFailure k step).cells.get k).hasCause 4 = true ∧
    ((s.gateFailure k step).cells.get k).gates = { (s.cells.get k).gates with s1p := false, s1n := false }

/-- OV_TRIP and UV_TRIP park a cell whose sequencer can act, with their cause and their report, where the comparator is
enabled, the cell not excluded and the voltage beyond the effective level; CLAMP_DETECT does so while the cell is IN outside
the gaps in which conduction is ignored. What parking does to a cell that is in no transition: it gains the cause and no other
cell path changes; from BYPASS and OPEN it is in PARK at once, from IN it commutates towards PARK, and a kept cell stays as
it is. -/
def Obligations.ParkingByTrips : Prop :=
  (∀ (s : State) (k : Cell), s.parkable k = true →
    (∀ v : Int, s.excluded k = false → s.cellFlag k Fld.segCellCfgOvEn = true → s.ovMicro k < v →
      exec (.ovTrip k v) s = .next ((s.park k 1).segReport (segOf k) (cellReport s.now .ovPark k (word (s.ovEff k)) 0 0)).settle) ∧
    (∀ v : Int, s.excluded k = false → s.cellFlag k Fld.segCellCfgUvEn = true → v < s.uvMicro k →
      exec (.uvTrip k v) s = .next ((s.park k 2).segReport (segOf k) (cellReport s.now .uvPark k (word (s.uvEff k)) 0 0)).settle) ∧
    ((s.cells.get k).st = .isIn → (s.cells.get k).inGap s.now = false →
      exec (.clampDetect k) s = .next ((s.park k 3).segReport (segOf k) (cellReport s.now .clampPark k 0 0 0)).settle)) ∧
  (∀ (s : State) (k : Cell) (code : Nat), (s.cells.get k).tr = none → 1 ≤ code → code ≤ 12 →
    ((s.cells.get k).st = .keep → s.park k code = s) ∧
    ((s.cells.get k).st ≠ .keep → ((s.park k code).cells.get k).hasCause code = true ∧
      (∀ j, j ≠ k → (s.park k code).cells.get j = s.cells.get j) ∧ Touch [.cells, .meas, .shunts] s (s.park k code) ∧
      ((s.cells.get k).st ≠ .isOpen → Touch [.cells] s (s.park k code))) ∧
    ((s.cells.get k).st = .bypass ∨ (s.cells.get k).st = .isOpen → ((s.park k code).cells.get k).st = .park) ∧
    ((s.cells.get k).st = .isIn → ∃ t, ((s.park k code).cells.get k).tr = some t ∧ t.target = .park ∧ t.toIn = false))

/-- The keeper: a trip sets TRIPPED, counts, and starts its sequence on the sixteen cells of the segment at once, whatever
they do; a supply that has failed leaves the segment unpowered; with feed and stack gone, once the hold supply of a holding
keeper has run down, every switch of the segment is off and HOLD_SUPPLY_OK is 0. -/
def Obligations.KeeperActs : Prop :=
  (∀ (s : State) (g : Seg) (failed : Bool), (s.segs.get g).keeper.tripped = false →
    (s.segs.get g).keeper.holding = false ∨ (s.segs.get g).st = .patrol →
    ∃ u : State, exec (.keeperTrip g failed) s = .next u.settle ∧ Touch [.cells, .segs] s u ∧
      (u.segs.get g).keeper = { (s.segs.get g).keeper with
        holding := true, tripped := true, heartbeat := false,
        tripCount := Nat.min 255 ((s.segs.get g).keeper.tripCount + 1) } ∧
      (failed = true → (u.segs.get g).st = .unpowered) ∧
      ∀ k ∈ cellsOf g, ∃ t, (u.cells.get k).tr = some t ∧ t.kind = .keeper ∧ t.target = .keep ∧ t.cmds = [s.now]) ∧
  (∀ (s : State) (g : Seg), (s.segs.get g).feedOk = false → (s.segs.get g).onStack = false →
    (s.segs.get g).keeper.holding = true →
    ∃ u : State, exec (.keeperHoldExpiry g) s = .next u.settle ∧ Touch [.cells, .segs] s u ∧
      (u.segs.get g).keeper = { (s.segs.get g).keeper with supplyOk := false, holding := false } ∧
      (∀ k ∈ cellsOf g, (u.cells.get k).gates = allOff ∧ (u.cells.get k).keepHold = false) ∧
      ∀ k, k ∉ cellsOf g → u.cells.get k = s.cells.get k)

/-- A window write that is a row of its own acts on the segment and is answered OK: KEEPER_RELEASE, PARK_REQ, OPEN_REQ set and
cleared. A tripped keeper with a heartbeat is released and its cells are in PARK with cause KEEPER, S2 on; a BYPASS or PARK
cell outside a transition enters OPEN, every switch off, in READY and STARTUP_TEST, unless a protection event falls at the
same tick. -/
def Obligations.WindowWriteRows : Prop :=
  (∀ (s : State) (g : Seg) (w : Wr) (d : RegDef), sets 1 (Wr.direct w) = true → s.admits (windowOff g 0x0C) w = true →
    regAt (windowOff g 0x0C) = some d →
    exec (.keeperRelease g w) s = .next (State.settle (State.reply
      ((s.atWrite (windowOff g 0x0C) w).applyWindow g (windowOff g 0x0C) (Wr.direct w).value
        ((Wr.direct w).mask &&& (d.rw ||| d.rws ||| d.w1c ||| d.wo))) w.origin 0x02 (Result.of .ok)))) ∧
  (∀ (s : State) (k : Cell) (w : Wr) (d : RegDef), s.admits (cellCfgOff k) w = true → regAt (cellCfgOff k) = some d →
    let a := (s.atWrite (cellCfgOff k) w).applyWindow (segOf k) (cellCfgOff k) (Wr.direct w).value
      ((Wr.direct w).mask &&& (d.rw ||| d.rws ||| d.w1c ||| d.wo))
    let t : Host.Outcome State Fault Refusal := .next (State.settle (State.reply
      (a.store (cellCfgOff k) (Sparse.get resetOf (a.segs.get (segOf k)).win (cellCfgOff k))) w.origin 0x02 (Result.of .ok)))
    (sets (Fld.segCellCfgParkReq k).lo (Wr.direct w) = true → exec (.parkReq k w) s = t) ∧
    (sets (Fld.segCellCfgOpenReq k).lo (Wr.direct w) = true → exec (.openReqSet k w) s = t) ∧
    (clears (Fld.segCellCfgOpenReq k).lo (Wr.direct w) = true → exec (.openReqClear k w) s = t)) ∧
  (∀ (s : State) (g : Seg), (s.segs.get g).keeper.tripped = true → (s.segs.get g).keeper.heartbeat = true →
    ((s.releaseKeeper g).segs.get g).keeper.tripped = false ∧
    ∀ k ∈ cellsOf g, ((s.releaseKeeper g).cells.get k).st = .park ∧ ((s.releaseKeeper g).cells.get k).hasCause 10 = true ∧
      ((s.releaseKeeper g).cells.get k).gates = s2on) ∧
  (∀ (s : State) (k : Cell), s.glb.st = .ready ∨ s.glb.st = .startupTest → (s.cells.get k).tr = none →
    (s.cells.get k).keepHold = false → s.protectedNow k = false →
    (s.cells.get k).st = .bypass ∨ (s.cells.get k).st = .park →
    ((s.openCell k).cells.get k).st = .isOpen ∧ ((s.openCell k).cells.get k).gates = allOff)

/-- RELEASE_PARK in READY and RUN while no other release runs: with no slice to run first it is judged at once, and else the
slices run first. RELEASE_JUDGED judges when they have ended or after 1 s. The judgement counts the requested cells that stay
parked, which is the answer's value, OK where it is 0 and REJECTED else, and tells each segment to release those of its cells whose causes have all
cleared; a cell in PARK that its segment releases is in BYPASS without a cause. -/
def Obligations.ReleasePark : Prop :=
  (∀ (s : State) (o : Origin) (cells : BitVec 256), s.accepts o 0x53 false = true →
    (s.taken o).glb.st = .ready ∨ (s.taken o).inRun = true → (s.taken o).bist.relOrigin = none →
    let a := s.taken o
    (a.releaseSlices cells = [] → exec (.releasePark o cells) s = .next (State.settle ((a.judgeRelease cells).2.reply o 0x53
      (Result.val (if (a.judgeRelease cells).1 = 0 then .ok else .rejected) (a.judgeRelease cells).1)))) ∧
    (a.releaseSlices cells ≠ [] → exec (.releasePark o cells) s = .next (State.settle (State.conclude o 0x53
      (State.nextSlice (a.modBist (fun b => { b with
        relOrigin := some o, relCells := cells, relQueue := a.releaseSlices cells, relFrom := a.now, reruns := 0 })), none))))) ∧
  (∀ (s : State) (o : Origin), s.bist.relOrigin = some o → s.releaseRuns = false →
    s.bist.relQueue = [] ∨ s.bist.relFrom + 1000000000 ≤ s.now →
    exec .releaseJudged s = .next (State.settle (State.replyLate
      ((s.judgeRelease s.bist.relCells).2.modBist (fun b => { b with relOrigin := none, relCells := 0, relQueue := [] })) o 0x53
      (Result.val (if (s.judgeRelease s.bist.relCells).1 = 0 then .ok else .rejected) (s.judgeRelease s.bist.relCells).1)))) ∧
  (∀ (s : State) (k : Cell), (s.cells.get k).st = .park → s.allCleared k = true →
    ((s.releaseCell k).cells.get k).st = .bypass ∧ ((s.releaseCell k).cells.get k).causes = 0) ∧
  ∀ (s : State) (cells : BitVec 256),
    (s.judgeRelease cells).1 = (allCells.filter (fun k => inSet cells k && s.stillParked k)).length ∧
    Touch [.links] s (s.judgeRelease cells).2 ∧
    ∀ g : Seg, let m := localSet g (fun k => inSet cells k && s.releasable k)
      (m = 0 → (s.judgeRelease cells).2.links.get g = s.links.get g) ∧
      (m ≠ 0 → (s.judgeRelease cells).2.links.get g = { s.links.get g with
        down := pushDir downPriority s.now (s.links.get g).down (.cmd (.release m)) })

/-! ### The loop (chapter 09) -/

/-- A frame that a port takes is acted on by the module it reaches: IDLE by the port itself; RSP by a head, a member in
transit passes it on; EVENT and RES by a head, a member noting a broadcast break or RETIRE notice and passing it on; PARK_ALL
is consumed by a head and passed on by a member, which halts and raises PARK_ALL at the first copy of its PARK_ID and does
nothing at another within 10 ms. A sequenced frame with another LSEQ is only counted. -/
def Obligations.LoopFramesTaken : Prop :=
  (∀ (s : State) (p : Port) (f : Frame),
    (s.takes p 0 f = true → exec (.idle p f) s = .next ((s.heard p 0 f).takeIdle p f.payload).settle) ∧
    (s.takes p 2 f = true →
      let a := s.heard p 2 f
      (a.isHead = true → exec (.rsp p f) s = .next (a.headRsp f).settle) ∧
      (a.isHead = false → exec (.rsp p f) s = .next (a.transit p f id).settle)) ∧
    (s.takes p 5 f = true →
      let a := s.heard p 5 f
      (a.isHead = true → u f.payload 2 1 = 0 →
        exec (.event p f) s = .next (a.notice 6 (u f.payload 0 2) [] [] ((f.payload.drop 8).take 32)).settle) ∧
      (a.isHead = true → u f.payload 2 1 ≠ 0 → exec (.event p f) s = .next (State.settle (State.notice
        (a.takeLinkEvent p f.payload) 4 (u f.payload 0 2)
        (leBytes 1 (u f.payload 3 1) ++ leBytes 1 (if u f.payload 2 1 = 2 then 1 else 0)) [] []))) ∧
      (a.isHead = false → f.bcast = true → exec (.event p f) s = .next ((a.takeLinkEvent p f.payload).passOn p f).settle) ∧
      (a.isHead = false → f.bcast = false → exec (.event p f) s = .next (a.transit p f id).settle)) ∧
    (s.takes p 3 f = true →
      let a := s.heard p 3 f
      (a.isHead = true → exec (.res p f) s = .next (a.headRes f).settle) ∧
      (a.isHead = false → f.bcast = true → f.info % 4 = 3 →
        exec (.res p f) s = .next ((a.takeRetire f.payload).passOn p f).settle) ∧
      (a.isHead = false → f.bcast = false → exec (.res p f) s = .next (a.transit p f id).settle)) ∧
    (s.takes p 6 f = true →
      let a := s.heard p 6 f
      (a.isHead = true → exec (.parkAll p f) s = .next a.settle) ∧
      (a.isHead = false →
        exec (.parkAll p f) s = .next ((a.takeParkAll (u f.payload 0 2)).forward p f f.hop).settle))) ∧
  (∀ (s : State) (id : Nat),
    ((∃ t, (id, t) ∈ s.loop.parkIds ∧ s.now < t + 10000000) → s.takeParkAll id = s) ∧
    ((∀ t, (id, t) ∈ s.loop.parkIds → t + 10000000 ≤ s.now) → ∃ a : State, Touch [.loop] s a ∧
      s.takeParkAll id = a.abortSlice.haltNow.raise .parkAll none none (word id) 0 0)) ∧
  ∀ (s : State) (p : Port) (f : Frame), s.powered = true → (s.port p).st ≠ 0 → f.ftype = 2 →
    f.lseq ≠ ((s.noteValid p f.lack).port p).expect →
    exec (.rsp p f) s = .next (State.settle ((s.noteValid p f.lack).modPort p (fun x => { x with
      crcErr := Nat.min 0xFFF (x.crcErr + 1) })))

/-- CMD: a head takes it as a head does; a member takes a broadcast as a member does, executes an addressed CMD that has one
hop left, passes one on that has more, with a hop less and one step farther, and answers NO_ROUTE where the onward port is
not UP. -/
def Obligations.CmdFramesTaken : Prop :=
  ∀ (s : State) (p : Port) (f : Frame), s.takes p 1 f = true →
    let a := s.heard p 1 f
    (a.isHead = true → exec (.cmd p f) s = .next (a.headCmd p f).settle) ∧
    (a.isHead = false → f.bcast = true → exec (.cmd p f) s = .next (a.memberBcast p f).settle) ∧
    (a.isHead = false → f.bcast = false → f.hop ≤ 1 → exec (.cmd p f) s = .next (a.takeCmd p f).settle) ∧
    (a.isHead = false → f.bcast = false → 1 < f.hop → f.hop ≠ 1023 → (a.port (otherPort p)).st = 2 →
      exec (.cmd p f) s = .next (a.sendFrame (otherPort p) false { f with hop := f.hop - 1, dist := f.dist + 1 }).settle) ∧
    (a.isHead = false → f.bcast = false → 1 < f.hop → f.hop ≠ 1023 → (a.port (otherPort p)).st ≠ 2 →
      exec (.cmd p f) s = .next (a.noRouteBack p f).settle)

/-- The census: a PROBE is taken; a REPLY is taken by a head and passed on by a member; an ASSIGN is taken; CENSUS_TIMEOUT
completes a CENSUS that is later than LOOP_TIMEOUT, with TIMEOUT where its PROBE is known to have reached the end and NO_ROUTE else. A module that adopts its
position holds it as valid, with GEN, n and TOPO (outside STARTUP_TEST, which it may leave for READY). -/
def Obligations.CensusFrames : Prop :=
  (∀ (s : State) (p : Port) (f : Frame), s.takes p 7 f = true →
    let a := s.heard p 7 f
    (f.info % 4 = 0 → exec (.probe p f) s = .next (a.takeProbe p f).settle) ∧
    (f.info % 4 = 1 → a.isHead = true → exec (.reply p f) s = .next (a.takeReply f.payload).settle) ∧
    (f.info % 4 = 1 → a.isHead = false → exec (.reply p f) s = .next (a.transit p f id).settle) ∧
    (f.info % 4 = 2 → exec (.assign p f) s = .next (a.takeAssign p f).settle)) ∧
  (∀ (s : State) (o : Origin) (gen start : Nat), s.settled = true → s.loop.census = some (o, gen, start) →
    start + 1000000 * s.fld Fld.loopTimeoutTimeoutMs < s.now →
    exec .censusTimeout s = .next (State.replyLate { s with loop := { s.loop with census := none } } o 0x10
      (Result.of (if s.loop.censusN.isSome then .timeout else .noRoute)))) ∧
  ∀ (s : State) (gen position n : Nat) (topo : Bool), s.glb.st ≠ .startupTest →
    (s.adopt gen position n topo).loop.position = position ∧ (s.adopt gen position n topo).loop.valid = true ∧
    (s.adopt gen position n topo).loop.n = n ∧ (s.adopt gen position n topo).loop.gen = gen ∧
    (s.adopt gen position n topo).loop.topo = topo

/-- The link layer of a port. IDLE_SEND, on a transmitter that has started no frame for 1 µs and has nothing to send, starts an IDLE frame.
PORT_DOWN of a port that is UP after 40 µs without a valid frame or 16 retransmissions, and PORT_TRAINING_TIMEOUT, train again.
RETRANSMIT, 4 µs after the last acknowledgement, counts and hands the held frames that the port may carry to its transmitter.
LOOP_FRAME_ERROR counts a damaged frame, but not one ended by K30.7, and ends the copy of one that is being passed on with
K30.7. RETIRE_NOTICE of a head, 10 ms after the last, leaves for every module it has sent figures or placed records of the
figures that it then holds as sent. RECORD_RESEND of a member sends each record again that no PLACED figure covers 100 ms after it was sent. A wake symbol is
noticed by a head and passed on by a member, at most once in 1 ms. -/
def Obligations.PortUpkeep : Prop :=
  ((∀ (s : State) (p : Port), s.settled = true → s.powered = true → (s.port p).st ≠ 0 → (s.port p).lastStart + 1000 ≤ s.now →
    (s.port p).idleTx s.now = true → (s.port p).pongDue = none → (s.port p).resend = [] → (s.port p).ready s.now = [] →
    ∃ (t : State) (f : Frame), exec (.idleSend p) s = .next t ∧ f.ftype = 0 ∧ t.out = .frame p (lineOf f true) :: s.out ∧
      (t.port p).lastStart = s.now ∧ t.port (otherPort p) = s.port (otherPort p) ∧ Touch [.loop, .out] s t) ∧
  (∀ (s : State) (p : Port), s.powered = true → (s.port p).st = 2 →
    (s.port p).lastValid + 40000 ≤ s.now ∨ 16 ≤ (s.port p).retries →
    exec (.portDown p) s = .next (s.restartPort p).settle) ∧
  (∀ (s : State) (p : Port), s.settled = true → s.powered = true → (s.port p).st = 1 →
    (s.port p).lastValid + 40000 ≤ s.now → exec (.portTrainingTimeout p) s = .next (s.trainPort p)) ∧
  (∀ (s : State) (p : Port), s.settled = true → s.powered = true → (s.port p).st = 2 → (s.port p).held ≠ [] →
    (s.port p).ackAt + 4000 ≤ s.now →
    let a := s.modPort p (fun x => { x with
      retry := Nat.min 0xFF (x.retry + 1), retries := x.retries + 1, ackAt := s.now
      resend := x.held.filter (fun h => carries x h.frame.ftype) })
    exec (.retransmit p) s = .next (a.serve p) ∧
    ∀ (x : TxFrame) (l : List TxFrame), (a.port p).resend = x :: l → (s.port p).idleTx s.now = true →
      (s.port p).pongDue = none → firstPriority ((s.port p).ready s.now) = none →
      (a.serve p).out = .frame p (lineOf { x.frame with lack := (s.port p).lack } true) :: s.out) ∧
  (∀ (s : State) (p : Port) (e : FrameError) (f : Option Frame), s.settled = true → s.powered = true → (s.port p).st ≠ 0 →
    (e ≠ .crc ∨ f = none → exec (.loopFrameError p e f) s = .next (s.modPort p (fun x => { x with
      count := 0, crcErr := Nat.min 0xFFF (x.crcErr + if e = .aborted then 0 else 1) }))) ∧
    ∀ g, e = .crc → f = some g → ∃ t : State, exec (.loopFrameError p e f) s = .next t ∧ Touch [.loop, .out] s t ∧
      (t.port p).crcErr = Nat.min 0xFFF ((s.port p).crcErr + 1) ∧
      let x := s.port (otherPort p)
      (s.cutsThrough p g = true → canStart x g.ftype = true → x.idleTx s.now = true → x.ready s.now = [] →
        ∃ h : Frame, h.ftype = g.ftype ∧ h.payload = g.payload ∧ t.out = .frame (otherPort p) (lineOf h false) :: s.out) ∧
      (s.cutsThrough p g = false → t.out = s.out ∧ t.port (otherPort p) = x))) ∧
  ((∀ s : State, s.settled = true → s.powered = true → s.isHead = true → s.loop.lastRetire + 10000000 ≤ s.now →
    ∃ t : State, exec .retireNotice s = .next t ∧ Touch [.loop, .out] s t ∧ t.loop.lastRetire = s.now ∧
      ∀ pos, (∃ e ∈ s.loop.placed, e.1 = pos) ∨ (∃ e ∈ s.loop.marks, e.1 = pos) ∨ (∃ e ∈ s.loop.lastSent, e.1 = pos) →
        (find? t.loop.lastSent pos).getD (0, 0) = s.figures pos) ∧
  (∀ s : State, s.powered = true → s.isHead = false →
    exec .recordResend s = .next (State.settle (each
      ((s.results.slots.filter (fun e => !e.2.placed && !e.2.retired && decide (e.2.sentAt + 100000000 ≤ s.now))).map
        Prod.fst).reverse (fun s i => s.deliverSlot i) s))) ∧
  (∀ (s : State) (p : Port), s.powered = true →
    (s.isHead = true → exec (.wakeSymbol p) s = .next (State.settle (State.wokenBySymbol
      (State.notice { s with loop := { s.loop with wakeSeen := true } } 3 0 [] [] [])))) ∧
    (s.isHead = false → (∀ t, s.loop.lastWakeFwd = some t → t + 1000000 ≤ s.now) →
      exec (.wakeSymbol p) s = .next (State.settle (State.wokenBySymbol
        (State.emit { s with loop := { s.loop with lastWakeFwd := some s.now } } (.wakeSymbol (otherPort p) wakeLine))))) ∧
    (∀ t, s.isHead = false → s.loop.lastWakeFwd = some t → s.now < t + 1000000 →
      exec (.wakeSymbol p) s = .next s.wokenBySymbol.settle)))

/-- ORPHAN, once the loop has been silent (and on a head the host away) for LOOP_TIMEOUT: READY and RUN become ORPHAN, a player
in RUN is HALTED and the source ORPHAN is raised, unless HALT is entered at the same tick, where only the source is raised; in the other powered states
but DRYDOWN only the silence is noted. ORPHAN_PARK sends the park symbol, repeated for 8 frames, once the ramp has ended. -/
def Obligations.OrphanEntered : Prop :=
  (∀ s : State, s.settled = true → s.powered = true → s.loopSilent = true → s.haltMeets = false →
    s.glb.st = .ready ∨ s.glb.st = .run →
    ∃ u : State, exec .orphan s = .next u.settle ∧ u.glb = { s.glb with st := .orphan, prev := s.glb.st, enteredAt := s.now } ∧
      u.loop.orphanSent = false ∧ u.pwr.st = .active ∧
      (s.glb.st = .run → u.play.st = .halted) ∧ ∃ r ∈ u.flt.due, r.1.src = .orphan) ∧
  (∀ s : State, s.powered = true → s.glb.st ≠ .drydown → s.loopSilent = true → s.haltMeets = true →
    exec .orphan s = .next (State.settle (State.raise { s with loop := { s.loop with silent := true } } .orphan none none
      0 0 0))) ∧
  (∀ s : State, s.powered = true → s.loopSilent = true → s.haltMeets = false → s.settled = true →
    s.glb.st = .halt ∨ s.glb.st = .orphan ∨ s.glb.st = .boot ∨ s.glb.st = .startupTest ∨ s.glb.st = .shutdownLatched →
    exec .orphan s = .next { s with loop := { s.loop with silent := true } }) ∧
  (∀ s : State, s.settled = true → s.glb.st = .orphan → s.loop.orphanSent = false →
    s.spc.orphanRamp = false ∨ s.spc.ramping = false →
    ∃ t : State, exec .orphanPark s = .next t ∧ t.loop.orphanSent = true ∧
      (∀ g, (t.links.get g).parkSym = some true ∧ (t.links.get g).parkLeft = 8) ∧ Touch [.links, .loop] s t)

/-! ### String power controller and Step Link (chapter 04) -/

/-- Frames: the player's next frame is judged while STEP_IN is no source; on STEP_IN, read with its pins enabled and the
link not DOWN, a frame with a correct CRC counts as valid and, as a SET frame on a link that was UP, is judged; a wrong CRC
or an unknown TYPE is dropped and counted; 8 µs without a valid frame take the link to TRAINING, which with the external
source in RUN NAKs a pending frame and raises STEP_LINK_LOST. -/
def Obligations.StepFrames : Prop :=
  (∀ (s : State) (f : BitVec 64) (rest : List (BitVec 64)), s.spc.inbox = f :: rest → s.externalSource = false → s.spcOn = true →
    exec (.setFrame none) s = .next (State.settle (State.takeFrame { s with spc := { s.spc with inbox := rest } } f false))) ∧
  (∀ (s : State) (f : BitVec 64), s.stepInOn = true → frCrcOk f = true → frType f = 1 → s.spc.link = 2 →
    exec (.setFrame (some f)) s = .next (s.stepValid.takeFrame f true).settle) ∧
  (∀ (s : State) (f : BitVec 64), s.settled = true → s.stepInOn = true → frCrcOk f = true →
    (frType f = 1 → s.spc.link = 1 → exec (.setFrame (some f)) s = .next s.stepValid) ∧
    (frType f = 0 → exec (.stepIdle f) s = .next s.stepValid)) ∧
  (∀ (s : State) (f : BitVec 64), s.settled = true → s.stepInOn = true → frCrcOk f = false ∨ 1 < frType f →
    exec (.stepFrameDropped f) s = .next { s with spc := { s.spc with
      crcErr := Nat.min 0xFFFF (s.spc.crcErr + 1), trainCount := if s.spc.link = 1 then 0 else s.spc.trainCount } }) ∧
  (∀ s : State, s.spc.link = 2 → s.spc.lastValid + 8000 ≤ s.now →
    let a : State := { s with spc := { s.spc with link := 1, trainCount := 0 } }
    (s.externalSource = true → s.glb.st = .run →
      exec .stepLinkLost s = .next (a.nakPending.raise .stepLinkLost none none 0 0 0).settle) ∧
    (s.externalSource = false ∨ s.glb.st ≠ .run → s.settled = true → exec .stepLinkLost s = .next a))

/-- How a SET frame is judged: outside SYNC a repeat of the last frame is answered as that was, and another frame of its
number is NAKed with cause 3, as is a number that is not next or a frame that does not preempt a pending one. With SYNC, which
abandons a pending frame, or with the next number, a frame out of range is NAKed with 5, one with too steep a ramp with 2, a
non-zero target outside RUN or while inhibited or disabled with 4; any other becomes the target in force. -/
def Obligations.FrameJudged : Prop :=
  ∀ (s : State) (f : BitVec 64) (ext : Bool),
    (∀ a, s.spc.sync = false → frSeq f = s.spc.lastSeq → s.spc.lastRaw = some f → s.spc.lastAnswer = some a →
      s.judgeFrame f ext = (s.sendAnswer a, false)) ∧
    (∀ g, s.spc.sync = false → frSeq f = s.spc.lastSeq → s.spc.lastRaw = some g → g ≠ f →
      s.judgeFrame f ext = (s.sendAnswer ⟨false, frSeq f, false, 3, s.spc.target, s.spc.acceptedAt⟩, false)) ∧
    (s.spc.sync = false → frSeq f ≠ s.spc.lastSeq →
      frSeq f ≠ (s.spc.lastSeq + 1) % 256 ∨ (s.spc.pending ≠ none ∧ frPreempt f = false) →
      s.judgeFrame f ext = (s.sendAnswer ⟨false, frSeq f, false, 3, s.spc.target, s.spc.acceptedAt⟩, false)) ∧
    s.frameCheck f = (if 300000 < (frTarget f).natAbs ∨ frDeadline f = 0 ∨ frRamp f = 0 then 5
      else if s.fld Fld.spcRampLimitRate < frRamp f then 2
      else if frTarget f ≠ 0 ∧ (s.glb.st ≠ .run ∨ s.spc.st = .inhibited ∨ s.spc.st = .disabled) then 4 else 0) ∧
    (s.spc.sync = true ∨ (frSeq f ≠ s.spc.lastSeq ∧ frSeq f = (s.spc.lastSeq + 1) % 256 ∧
        (s.spc.pending = none ∨ frPreempt f = true)) →
      let a : State := { s with spc := { s.spc with
        sync := false, lastSeq := frSeq f, lastRaw := some f
        pending := if s.spc.sync then none else s.spc.pending } }
      (s.frameCheck f = 0 → s.judgeFrame f ext = a.acceptFrame f ext) ∧
      (s.frameCheck f ≠ 0 → ∃ ans : Answer, ans.ack = false ∧ ans.cause = s.frameCheck f ∧ ans.seq = frSeq f ∧
        s.judgeFrame f ext = (State.sendAnswer { a with spc := { a.spc with lastAnswer := some ans } } ans, false)))

/-- RAMP_STEP: at most one each microsecond, in REGULATE; the set-point moves towards the delivered target by at most the
ramp, and is held while a phase is being added or a toggle test runs. -/
def Obligations.RampSteps : Prop :=
  (∀ (s : State) (codes : List (List Nat)), (∀ t, s.spc.rampFrom = some t → t + 1000 ≤ s.now) → s.spcOn = true →
    ∃ u : State, exec (.rampStep codes) s = .next u.settle ∧ u.spc.rampFrom = some s.now ∧
      Touch [.pins, .spc, .out] s u) ∧
  (∀ s : State, s.spc.toggle ≠ none ∨ (∃ p, (s.spc.phases.get p).addedAt ≠ none) → s.rampOne = s) ∧
  ∀ s : State, s.spc.ramping = true → s.spc.toggle = none → (∀ p, (s.spc.phases.get p).addedAt = none) →
    Touch [.spc] s s.rampOne ∧
    (s.rampOne.spc.setpoint - s.spc.setpoint).natAbs ≤ s.spc.ramp ∧
    ((s.spc.delivered - s.spc.setpoint).natAbs ≤ s.spc.ramp → s.rampOne.spc.setpoint = s.spc.delivered ∧
      s.rampOne.spc.ramping = false)

/-- Answers: a dwell that is complete answers the pending frame, ACK where the whole target is delivered and NAK with
cause 1 else, or sends an answer that is owed unasked; a frame of STEP_IN that is still pending at its deadline raises
DEADLINE_MISS. -/
def Obligations.StepAnswers : Prop :=
  (∀ (s : State) (t : Nat) (p : SpcFrame), s.settled = true → s.spc.dwellFrom = some t → s.spc.st = .regulate →
    s.spc.setpoint = s.spc.delivered → s.spc.toggle = none → t + 1000 * s.fld Fld.stepAckDwellDwellUs ≤ s.now →
    s.spc.pending = some p →
    (s.spc.delivered = s.spc.target * 50 → exec .dwellComplete s = .next (s.answerLast true 0)) ∧
    (s.spc.delivered ≠ s.spc.target * 50 → exec .dwellComplete s = .next (s.answerLast false 1))) ∧
  (∀ (s : State) (ack : Bool) (cause : Nat), (s.answerLast ack cause).spc.pending = none ∧
    (s.answerLast ack cause).spc.answers = s.spc.answers ++
      [⟨ack, s.spc.forceSeq, false, cause, s.spc.target, s.spc.acceptedAt⟩] ∧ Touch [.spc, .out] s (s.answerLast ack cause)) ∧
  (∀ (s : State) (p : SpcFrame), s.spc.pending = some p → p.external = true → p.acceptedAt + 1000 * frDeadline p.raw ≤ s.now →
    exec .deadlineMiss s = .next (State.settle (State.raise { s with spc := { s.spc with pending := none } } .deadlineMiss none
      none (word (frSeq p.raw)) 0 0)))

/-- Phases: ADD_TIMEOUT and PHASE_FAILED, for an active phase that shows the cause, declare a phase failed and raise
PHASE_FAILED with its cause; PHASE_SHED has the active phase with the highest index begin to hand over its share;
PHASES_RELEASED after an acknowledged zero target leaves STANDBY with the stage off; PHASE_SWITCH turns the phase on at the
lower and off at the upper of its two thresholds, which are 12-bit codes, and WINDOW_RESCALE, 300 ns after a fed-forward
transition, gives every active phase the width that the configuration predicts, within its limits (log 72). -/
def Obligations.PhaseEvents : Prop :=
  (∀ (s : State) (p : Phase) (t : Nat), (s.spc.phases.get p).addedAt = some t → t + 50000 ≤ s.now → s.atShare p = false →
    exec (.addTimeout p) s = .next (s.failPhase p .isOpen).settle) ∧
  (∀ (s : State) (p : Phase), (s.spc.phases.get p).active = true →
    (∀ t, (s.spc.phases.get p).pwm = .high → (s.spc.phases.get p).switchedAt = some t →
      t + 10 * s.fld Fld.spcTonMaxTonMax < s.now → exec (.phaseFailed p .isOpen) s = .next (s.failPhase p .isOpen).settle) ∧
    (2 ≤ (s.spc.phases.get p).stuckRun ∨ 2 ≤ (s.spc.phases.get p).wrongRun →
      exec (.phaseFailed p .sense) s = .next (s.failPhase p .sense).settle)) ∧
  (∀ (s : State) (p : Phase) (c : PhaseCause), ∃ r ∈ (s.failPhase p c).flt.due, r.1.src = .phaseFailed ∧
    r.1.arg0 = word p.val ∧ r.1.arg1 = word (causeBit c)) ∧
  (∀ (s : State) (p : Phase) (t : Nat), s.settled = true → s.spc.shedFrom = some t → s.activePhases.getLast? = some p →
    s.spc.st = .regulate → s.spc.pending = none → s.spc.answered = true → s.spc.toggle = none →
    Nat.max t s.spc.answeredAt + 10000 * s.fld Fld.spcShedCfgShedDwell ≤ s.now →
    s.fld Fld.spcShedCfgMinActive < s.nActive → s.fld Fld.spcShedCfgShedPct < s.fld Fld.spcShedCfgAddPct → s.moving = [] →
    exec .phaseShed s = .next (((s.modPhase p (fun x => { x with shedAt := some s.now, handAt := none })).modSpc
      (fun x => { x with shedFrom := none })).recentre)) ∧
  (∀ s : State, s.settled = true → s.spc.st = .regulate → s.spc.target = 0 → s.spc.setpoint = 0 → s.spc.answered = true →
    s.spc.pending = none → s.spc.disabling = false → s.spc.answeredAt + 10000 * s.fld Fld.spcShedCfgShedDwell ≤ s.now →
    ∃ t : State, exec .phasesReleased s = .next t ∧ t.spc.st = .standby ∧ t.pins = { s.pins with phEnHigh := true } ∧
      (∀ p, (t.spc.phases.get p).pwm = .released ∧ (t.spc.phases.get p).active = false) ∧ Touch [.pins, .spc] s t) ∧
  (∀ (s : State) (p : Phase) (code : Nat), s.settled = true → (s.spc.phases.get p).active = true → s.spc.st = .regulate →
    let x := s.spc.phases.get p
    let half := s.codeNano p * x.width / 2
    let low := s.codeOf p (s.windowCentre p - half)
    let high := s.codeOf p (s.windowCentre p + half)
    low < 4096 ∧ high < 4096 ∧
    ∃ t : State, exec (.phaseSwitch p code) s = .next t ∧ Touch [.spc, .free] s t ∧ (t.spc.phases.get p).code = code ∧
      (s.fallenTo p code low = true → (t.spc.phases.get p).pwm = .high) ∧
      (s.fallenTo p code low = true → x.pwm ≠ .high → (t.spc.phases.get p).onAt = some s.now) ∧
      (s.fallenTo p code low = false → s.risenTo p code high = true → (t.spc.phases.get p).pwm = .low) ∧
      (s.fallenTo p code low = false → s.risenTo p code high = false → t.spc.phases.get p = { x with code := code }) ∧
      ∀ q, q ≠ p → t.spc.phases.get q = s.spc.phases.get q) ∧
  (∀ s : State, s.settled = true → s.flag Fld.spcCtrlFfEn = true → s.spc.st = .regulate → s.glb.st = .run → s.feedDue ≠ [] →
    ∃ t : State, exec .windowRescale s = .next t ∧ Touch [.spc] s t ∧ t.feedDue = [] ∧
      ∀ p ∈ s.activePhases, s.fld Fld.spcFswTargetWMin ≤ (t.spc.phases.get p).width ∧
        (t.spc.phases.get p).width ≤ Nat.max (s.fld Fld.spcFswTargetWMin) 4095)

/-- PEAK inhibits the stage and raises the source when the cause arises, and PEAK_CLEAR ends it; VSTRING does so after V_est
has been above its limit for 10 µs; the toggle test starts after |D| has been above LIMIT for 20 µs, takes 150 µs for each of
its phases, fails the one phase whose own D lies within LIMIT / 2 or stays unresolved, and is tried again at its retry. -/
def Obligations.PowerChecks : Prop :=
  (∀ (s : State) (p : Phase) (code : Nat), s.spcOn = true → s.phaseEnabled p = true → s.peakOver p code = true →
    s.hasInh inhPeak = false →
    exec (.peak p code) s = .next (State.settle (State.raise ((s.modPhase p (fun x => { x with code := code })).inhibit inhPeak)
      .peak none none (word p.val) (wordI (divI (s.phaseNano p code) 10000000)) 0))) ∧
  (∀ (s : State) (codes : List Nat), s.settled = true →
    (∀ p, s.phaseEnabled p = true → s.peakOver p (codes.getD p.val 0) = false) →
    exec (.peakClear codes) s = .next (State.endInhibit (s.modSpc (fun x => { x with
      phases := x.phases.mapIdx (fun n p => { p with code := codes.getD n p.code }) })) inhPeak)) ∧
  (∀ (s : State) (t : Nat), s.spc.vOverFrom = some t → t + 10000 ≤ s.now → s.vLimit < s.vEst → s.hasInh inhVstring = false →
    exec .vstring s = .next ((s.inhibit inhVstring).raise .vstring none none (word s.vEst) 0 0).settle) ∧
  (∀ (s : State) (t : Nat), s.spc.dOverFrom = some t → s.crossReady = true → s.spc.retryAt = none → t + 20000 ≤ s.now →
    exec .toggleTest s = .next s.startToggle.settle) ∧
  (∀ (s : State) (t : Nat), s.spc.toggle = some t → t + 150000 * s.spc.toggleList.length ≤ s.now →
    let a : State := s.endToggle.modSpc (fun x => { x with dwellFrom := none })
    let named := (s.spc.toggleList.zip s.spc.togD).filter (fun e =>
      e.2.any (fun d => decide (2 * d.natAbs ≤ 10000 * s.fld Fld.spcXcheckCfgLimit)))
    (∀ p x, named = [(p, x)] → exec .toggleTestEnd s =
      .next (State.settle (State.failPhase { a with spc := { a.spc with unresolved := 0 } } p .xchk))) ∧
    (named.length ≠ 1 → exec .toggleTestEnd s =
      .next (State.settle (a.capacityChanged.unresolvedTest (a.crossD.getD 0))))) ∧
  (∀ (s : State) (t : Nat), s.spc.retryAt = some t → t ≤ s.now →
    (s.crossReady = true → exec .toggleRetry s = .next s.startToggle.settle) ∧
    (s.crossReady = false → s.settled = true →
      exec .toggleRetry s = .next { s with spc := { s.spc with retryAt := none } }))

/-- An inhibit takes the SPC from STANDBY or REGULATE to INHIBITED with the stage off and nothing to deliver; when the last
cause ends it is in STANDBY, or DISABLED where EN is 0, with SYNC set. -/
def Obligations.InhibitsOfTheSpc : Prop :=
  (∀ (s : State) (c : Nat), c < 7 → (s.inhibit c).spc.causes.getLsbD c = true ∧
    (s.spc.st = .standby ∨ s.spc.st = .regulate → (s.inhibit c).spc.st = .inhibited ∧ (s.inhibit c).spc.target = 0 ∧
      (s.inhibit c).spc.setpoint = 0 ∧ (s.inhibit c).pins = { s.pins with phEnHigh := true } ∧
      ∀ p, ((s.inhibit c).spc.phases.get p).pwm = .released)) ∧
  ∀ (s : State) (c : Nat), c < 7 → s.spc.st = .inhibited → (s.spc.causes &&& ~~~((1 : BitVec 7) <<< c)) = 0 →
    (s.endInhibit c).spc.st = (if s.flag Fld.spcCtrlEn then .standby else .disabled) ∧ (s.endInhibit c).spc.sync = true ∧
    (s.endInhibit c).spc.causes = 0 ∧ Touch [.spc] s (s.endInhibit c)

/-! ### The schedule player (chapter 03) -/

/-- The run: RUN_START at T_s begins step 0 in HOLD, with the step's frame pending; a CYCLE_BOUNDARY counts a cycle and, one
period on, begins the entry cycle 20 µs after the answer, ends the step where DONE or TIME holds, begins the next step after
the exit cycle unless a frame is pending, and in STOPPING plays one exit cycle; SWEEP_START gives each named cell in use, whose
segment has been told, the walk of its first frequency at the cell's own rung. -/
def Obligations.TheRun : Prop :=
  (∀ s : State, s.glb.st = .run → s.play.st = .wait → s.play.ts ≤ s.now →
    exec .runStart s = .next (State.settle (State.beginStep
      { s with play := { s.play with cycleStart := s.play.ts, cycles := 1, cycAbs := 0, cycN := 0 } } 0))) ∧
  (∀ (s : State) (i : Nat), let b := s.beginStep i
    b.play.st = .hold ∧ b.play.step = i ∧ b.play.stepId = stepIdOf s.active i ∧ b.play.cycleStart = s.play.cycleStart ∧
    (s.externalSource = false → b.play.pending =
      some ⟨s.play.seq, b.currentFor b.play.h, s.now, s.now + 1000 * b.stepDeadlineUs, false⟩) ∧
    (s.externalSource = true → b.play.pending = s.play.pending)) ∧
  (∀ s : State, s.cycling = true → s.play.cycleStart + s.tCyc ≤ s.now →
    let a : State := { s with play := { s.play with cycles := (s.play.cycles + 1) % 2 ^ 32 } }
    let b : State := { a with play := { a.play with cycleStart := s.play.cycleStart + s.tCyc } }
    (∀ t, s.play.st = .hold → s.play.pending = none → s.play.answeredAt = some t →
      (t + 20000 ≤ s.play.cycleStart + s.tCyc → exec .cycleBoundary s = .next b.entryCycle.settle) ∧
      (s.play.cycleStart + s.tCyc < t + 20000 → s.settled = true → exec .cycleBoundary s = .next b)) ∧
    (s.play.st = .hold → s.play.pending ≠ none → s.settled = true → exec .cycleBoundary s = .next b) ∧
    (s.play.st = .play → ∃ u : State, exec .cycleBoundary s = .next u.settle ∧
      u.play.cycleStart = s.play.cycleStart + s.tCyc ∧
      let c := each allCells (fun x k => x.takeDone s.play.cycles k) a.countTime
      (c.stepEndTest = 0 → u.play.st = .play) ∧
      (c.stepEndTest ≠ 0 → s.play.step + 1 < imgSteps s.active → u.play.st = .exit) ∧
      (c.stepEndTest ≠ 0 → imgSteps s.active ≤ s.play.step + 1 → u.play.st = .stopping)) ∧
    (s.play.st = .exit → s.play.pending = none →
      exec .cycleBoundary s = .next (State.settle (State.beginStep (State.modPlay b.closeStep (fun p => { p with
        exitOver := true, inExit := false })) (s.play.step + 1)))) ∧
    (s.play.st = .exit → s.play.pending ≠ none →
      exec .cycleBoundary s = .next (State.settle (State.modPlay b.closeStep (fun p => { p with
        exitOver := true, inExit := false })))) ∧
    (s.play.st = .stopping → s.play.exitOver = false → s.play.inExit = false → s.settled = true →
      exec .cycleBoundary s = .next (State.planAll { b with play := { b.play with inExit := true } } false true)) ∧
    (s.play.st = .stopping → s.play.exitOver = true → s.settled = true → exec .cycleBoundary s = .next b)) ∧
  (∀ (s : State) (t : Nat), s.results.sweepAt = some t → s.results.sweepOn = false → s.play.st ≠ .wait → s.cycling = true →
    t ≤ s.play.cycleStart → s.now < s.play.cycleStart + 1000 →
    ∃ u : State, exec .sweepStart s = .next u.settle ∧ Touch [.cells, .ana, .results, .loop, .host, .out] s u ∧
      (∀ k, inSet s.results.sweepCells k = true → s.play.st = .play → s.inUse k = true →
        (s.segs.get (segOf k)).sweepCells.getLsbD (localOf k) = true →
        (u.cells.get k).walk = some ⟨s.freqWalk s.results.sweepPlan 0, 0, 0, 0, (s.cells.get k).rung⟩) ∧
      ∀ k, inSet s.results.sweepCells k = false → u.cells.get k = s.cells.get k)

/-- The player's frames and moves: an ACK of the pending frame ends the wait for it, a NAK with cause 1 does so DERATED and any
other NAK raises STEP_NAK; the run ends in READY, ARMED, once a zero frame is acknowledged and the exit cycle over; a frame
unanswered at its deadline raises STEP_DEADLINE; RUNG_MOVE moves only the next rung of the segment's cells, by the
move table, and by nothing while moves are frozen; a direct swap whose time has come exchanges the banks where it still may,
and is dropped where it may not (log 93). -/
def Obligations.FramesAndMoves : Prop :=
  (∀ (s : State) (a : Answer) (rest : List Answer), s.spc.answers = a :: rest → s.externalSource = false → s.cycling = true →
    let b := State.takeAnswer { s with spc := { s.spc with answers := rest } } a
    (b.play.st = .exit → b.play.exitOver = true → b.play.pending = none →
      exec .frameAnswer s = .next (b.beginStep (b.play.step + 1)).settle) ∧
    (b.play.st ≠ .exit ∨ b.play.exitOver = false ∨ b.play.pending ≠ none →
      exec .frameAnswer s = .next b.tryFinish.settle)) ∧
  (∀ (s : State) (a : Answer) (p : PlayFrame), s.play.pending = some p → p.seq = a.seq → a.unsol = false →
    (a.ack = true → (s.takeAnswer a).play.pending = none ∧ (s.takeAnswer a).play.answeredAt = some s.now ∧
      (s.takeAnswer a).play.derated = false ∧ (s.takeAnswer a).play.zeroAcked = (s.play.zeroAcked || p.zero)) ∧
    (a.ack = false → a.cause = 1 → (s.takeAnswer a).play.pending = none ∧ (s.takeAnswer a).play.answeredAt = some s.now ∧
      (s.takeAnswer a).play.derated = true) ∧
    (a.ack = false → a.cause ≠ 1 → s.takeAnswer a =
      s.raise .stepNak none none (word a.seq) (word a.cause) (word s.play.step))) ∧
  (∀ s : State, (s.play.st = .stopping → s.play.exitOver = true → s.play.zeroAcked = true →
      s.tryFinish.glb.st = .ready ∧ s.tryFinish.play.st = .armed ∧ s.tryFinish.play.pending = none ∧
      s.tryFinish.stopOrigin = none) ∧
    (s.play.st ≠ .stopping ∨ s.play.exitOver = false ∨ s.play.zeroAcked = false → s.tryFinish = s)) ∧
  (∀ (s : State) (p : PlayFrame), s.play.pending = some p → s.cycling = true → p.deadline ≤ s.now →
    exec .frameDeadline s = .next (s.raise .stepDeadline none none (word p.seq) 0 (word s.play.step)).settle) ∧
  (∀ (s : State) (g : Seg), s.settled = true → s.cycling = true → s.play.st = .play →
    s.play.cycleStart + s.tCyc ≤ s.now + 1000 → s.now < s.play.cycleStart + s.tCyc →
    ∃ t : State, exec (.rungMove g) s = .next t ∧ Touch [.cells] s t ∧
      ∀ k, (t.cells.get k) = (if segOf k = g ∧ s.played k = true ∧ s.modeOf k = 1 ∧ (s.cells.get k).inService = true ∧
          (s.cells.get k).walk = none then { s.cells.get k with nextRung :=
            (clampInt 0 ((ladRungs s.active (s.ladderOf k) : Int) - 1) (((s.cells.get k).rung : Int) +
              (if s.movesFrozen then 0 else match s.cycleOutput k s.play.cycleStart (s.play.cycleStart + s.tCyc - 1000) with
                | some x => ladMv s.active (s.ladderOf k) (moveIndex s.active (s.ladderOf k) (s.tapErr k x) 15 0)
                | none => 0))).toNat } else s.cells.get k)) ∧
  (∀ (s : State) (t : Nat), s.play.swapAt = some t → t ≤ s.now →
    (s.canSwap = true → s.glb.st = .ready → exec .swapApplied s = .next s.swapBanks.settle) ∧
    (s.canSwap = false ∨ s.glb.st ≠ .ready → s.settled = true →
      exec .swapApplied s = .next { s with play := { s.play with swapAt := none } })) ∧
  ∀ s : State, s.swapBanks.play.active = s.play.staged ∧ s.swapBanks.play.staged = s.play.active ∧
    s.swapBanks.play.st = .armed ∧ s.swapBanks.play.swapAt = none ∧
    ∀ g, (s.swapBanks.segs.get g).shareActive = (s.segs.get g).shareStaged ∧
      (s.swapBanks.segs.get g).shareStaged = (s.segs.get g).shareActive

/-! ### Measurement (chapter 05) -/

/-- Cell measurement. A SLOT_CONVERSION, calibrated and limited to the converter's range, enters the last four, whose mean is
the monitor value, and no other cell's measurement changes. What a boundary cell holds without cover leaves 20 µs after its
stamp, or at once when its neighbour's link is lost, as DISTURBED. A VERIFIER_VISIT of a cell is made in the verifier's turn or
as its VERIFY window, discarded where a transition fell near it, and its value goes to the hub and, where the primary's mean
over the same slots exists, to the cross-check: MISS_N misses in a row give the cell to the verifier, and 16 passes after a
passed slice give it back. A segment reports a fault in a FAULT message. Three stack misses in a row report STACK_MISMATCH; 1 s
without a check reports NO_CROSSCHECK; a CAPTURE starts a burst, or reports CAPTURE_CLASH once a cycle. -/
def Obligations.CellMeasurement : Prop :=
  (∀ (s : State) (k : Cell) (uv : Int), (s.segs.get (segOf k)).smeas = true → (s.segs.get (segOf k)).st ≠ .unpowered →
    (s.meas.get k).lastSlot < s.now / 1000 * 1000 →
    let v := clampInt (-1000000) 5500000 (s.primary k uv)
    let last := (v :: (s.meas.get k).last4).take 4
    ∃ u : State, exec (.slotConversion k uv) s = .next u.settle ∧ Touch [.meas, .links, .shunts] s u ∧
      (u.meas.get k).last4 = last ∧ (u.meas.get k).lastSlot = s.now / 1000 * 1000 ∧
      (u.meas.get k).mon = divI (sumInt last) (last.length : Int) ∧ ∀ j, j ≠ k → u.meas.get j = s.meas.get j) ∧
  (∀ (s : State) (k : Cell) (h : Held) (rest : List Held), (s.meas.get k).heldOuts = h :: rest →
    h.upTo + 20000 ≤ s.now ∨ (∃ j, farNeighbour k = some j ∧ s.linkUp (segOf j) = false) →
    let x : Sample := { h.sample with value := -8388608, disturbed := true }
    ∃ u : State, exec (.coverTimeout k) s = .next u.settle ∧ Touch [.meas, .links, .shunts] s u ∧
      (u.meas.get k).heldOuts = rest ∧ (u.meas.get k).coverLost = true ∧
      (h.ocv = false → (u.meas.get k).lastOut = some x ∧ (u.meas.get k).lastUsable = (s.meas.get k).lastUsable) ∧
      (h.ocv = true → (u.meas.get k).lastOcv = some x)) ∧
  (∀ (s : State) (k : Cell) (value : Int), (s.segs.get (segOf k)).smeas = true → (s.segs.get (segOf k)).st ≠ .unpowered →
    let z := s.now / 1000 * 1000
    let put (v : Verifier) : State := s.modSeg (segOf k) (fun x => { x with verifier := v })
    (∀ v : Verifier, s.verifyStart k z = none → (s.segs.get (segOf k)).verifier.free ≤ z - 18000 →
      s.capturing (segOf k) (z - 18000) z = false → s.verifyWithin (segOf k) (z - 18000) z = false →
      s.turnOf (segOf k) (z - 18000) z = some (localOf k, v) →
      (s.movedSince k (z - 18000) = false →
        exec (.verifierVisit (.cell k) value) s = .next ((put v).cellVisit k value (z - 18000) z).settle) ∧
      (s.movedSince k (z - 18000) = true → s.settled = true → exec (.verifierVisit (.cell k) value) s = .next (put v))) ∧
    (∀ a, s.verifyStart k z = some a → (s.segs.get (segOf k)).verifier.free ≤ a → s.capturing (segOf k) a z = false →
      s.flag Fld.measCtrlVerifyEn = true → s.skips (segOf k) a z (localOf k) = false → s.movedSince k a = false →
      exec (.verifierVisit (.cell k) value) s =
        .next ((put { (s.segs.get (segOf k)).verifier with free := z }).cellVisit k value a z).settle)) ∧
  (∀ (s : State) (k : Cell) (raw : Int) (a z : Nat), (s.meas.get k).served = false →
    let r := s.verified (segOf k) raw (-5000) 27500
    let x : Sample := ⟨200 * r, z, false, decide (s.overlap k a z = z - a), decide (raw < -5000) || decide (27500 < raw), false⟩
    let b := ((s.modMeas k (fun m => { m with visit := 200 * r })).sendUp (segOf k) (.output k 2 x)).streamCell k 2 0x20 x r
    (s.primaryMean k (a + 2000) z = none → s.cellVisit k raw a z = b) ∧
    ∀ p, s.primaryMean k (a + 2000) z = some p →
      s.cellVisit k raw a z = b.crossCheck k (decide (10 * s.fld Fld.measXcheckLimitLimit < (200 * r - p).natAbs))) ∧
  (∀ (s : State) (k : Cell) (miss : Bool),
    let n := if miss then (s.meas.get k).misses + 1 else (s.meas.get k).misses - 1
    let c := s.crossCheck k miss
    ((s.meas.get k).served = false → n < s.fld Fld.measXcheckLimitMissN →
      (c.meas.get k).misses = n ∧ (c.meas.get k).served = false ∧ (c.meas.get k).lastCheck = s.now ∧ Touch [.meas] s c) ∧
    ((s.meas.get k).served = false → s.fld Fld.measXcheckLimitMissN ≤ n → s.flag Fld.measCtrlTakeoverEn = true →
      ∃ b : State, c = b.segReport (segOf k) (cellReport s.now .takeover k 0 0 0) ∧ Touch [.meas] s b ∧
        (b.meas.get k).served = true) ∧
    ((s.meas.get k).served = true → miss = false → (s.meas.get k).slicePassed = true → 15 ≤ (s.meas.get k).passes →
      ∃ b : State, c = b.segReport (segOf k) (cellReport s.now .primaryReturn k 0 0 0) ∧ Touch [.meas] s b ∧
        (b.meas.get k).served = false ∧ (b.meas.get k).misses = 0)) ∧
  (∀ (s : State) (g : Seg) (r : Report), Touch [.links] s (s.segReport g r) ∧
    (s.segReport g r).links.get g = { s.links.get g with
      up := pushDir upPriority s.now (s.links.get g).up
        (.fault { r with time := if (s.segs.get g).timerFrom = none then r.time else s.segTime g } false)
      haltReq := (s.links.get g).haltReq || srcClass r.src == .halt }) ∧
  (∀ (s : State) (g : Seg) (value : Int) (v : Verifier), (s.segs.get g).smeas = true → (s.segs.get g).st ≠ .unpowered →
    let z := s.now / 1000 * 1000
    let a := z - 18000
    (s.segs.get g).verifier.free ≤ a → s.capturing g (a) z = false → s.verifyWithin g (a) z = false →
    s.turnOf g (a) z = some (16, v) → s.streams g 3 = false → s.classAt g = .low →
    (∀ k ∈ cellsOf g, s.primaryMean k (a + 2000) z ≠ none) →
    let r := s.verified g value 0 65535
    let sum := sumInt ((cellsOf g).map (fun k => (s.primaryMean k (a + 2000) z).getD 0))
    let far := 10000 * s.fld Fld.measXcheckLimitStackLimit < (1500 * r - sum).natAbs
    let put (n : Nat) : State := { s with
      segs := (s.segs.modify g (fun x => { x with verifier := v })).modify g (fun x => { x with stackMv := (3 * r / 2).toNat })
      shunts := { s.shunts with stackMiss := s.shunts.stackMiss.set g n } }
    (¬far → s.settled = true → exec (.verifierVisit (.stack g) value) s = .next (put 0)) ∧
    (far → s.shunts.stackMiss.get g = 2 → exec (.verifierVisit (.stack g) value) s = .next (State.settle ((put 3).segReport g
      ⟨.stackMismatch, s.now, some g, none, wordI (divI (3 * r) 2), wordI (divI sum 1000), 0⟩))) ∧
    (far → s.shunts.stackMiss.get g ≠ 2 → s.settled = true →
      exec (.verifierVisit (.stack g) value) s = .next (put (Nat.min 3 (s.shunts.stackMiss.get g + 1))))) ∧
  (∀ (s : State) (k : Cell), (s.segs.get (segOf k)).smeas = true → (s.segs.get (segOf k)).st = .running →
    s.excluded k = false → (s.meas.get k).noCheckRaised = false → (s.meas.get k).lastCheck + 1000000000 ≤ s.now →
    exec (.noCrosscheck k) s = .next (State.settle (State.segReport (s.modMeas k (fun m => { m with noCheckRaised := true }))
      (segOf k) (cellReport s.now .noCrosscheck k 0 0 0)))) ∧
  (∀ (s : State) (k : Cell) (samples : List Int) (e : EdgeRec), s.cycling = true → (s.segs.get (segOf k)).smeas = true →
    (s.segs.get (segOf k)).st ≠ .unpowered →
    ((s.captured k).filter (fun e => decide (s.now < e.pairSlot + 4000 + s.tCyc) && decide (e.pairSlot + 27500 ≤ s.now) &&
      !((s.meas.get k).caps.any (fun b => b.edge.pairSlot == e.pairSlot)))).head? = some e →
    let clash := ∃ j ∈ cellsOf (segOf k), j ≠ k ∧ ∃ f ∈ s.captured j, f.pairSlot < e.pairSlot + 32000 ∧
      e.pairSlot < f.pairSlot + 32000 ∧ (f.pairSlot < e.pairSlot ∨ (f.pairSlot = e.pairSlot ∧ j < k))
    (∀ f, (∃ j, f ∈ s.captured j) → 4000 ≤ f.pairSlot) → 4000 ≤ e.pairSlot →
    (¬clash → ∃ b : Burst, exec (.capture k samples) s =
        .next (s.modMeas k (fun m => { m with caps := m.caps ++ [b] })).settle ∧ b.edge = e ∧ b.start = e.pairSlot - 4000 ∧
      b.samples = (samples.take 64).map (fun v => 200 * s.verified (segOf k) v (-5000) 27500)) ∧
    (clash → s.shunts.clashAt ≠ some s.play.cycleStart → exec (.capture k samples) s =
      .next (State.settle (State.segReport { s with shunts := { s.shunts with clashAt := some s.play.cycleStart } } (segOf k)
        (cellReport s.now .captureClash k 0 0 0)))))

/-- Contacts, shunts and streams: a CONTACT_VISIT, of the cell that the rotation visits next, sends both poles' values to the
hub; of an IN cell it forms both poles' resistances over the mean shunt currents and of an OPEN cell over 10 mA. The COUNT-th
result in a row above the limit, and one above the limit of an OPEN cell, parks the cell with cause CONTACT and raises
CONTACT_PARK; I_shunt of a slot is the mean of the shunts that serve it, and I_t the same less the zero estimates; a millisecond
in which both shunts are in use and the means differ by more than the limit counts, another ends the count, and the DWELL-th in
a row raises SHUNT_MISMATCH; a mark enters the stream every MARK_MS. -/
def Obligations.StringMeasurement : Prop :=
  (∀ (s : State) (k : Cell) (pos neg : Int) (satP satN : Bool), (s.segs.get (segOf k)).smeas = true →
    (s.segs.get (segOf k)).st ≠ .unpowered → s.linkUp (segOf k) = true → s.flag Fld.measCtrlVerifyEn = true →
    s.streams (segOf k) 6 = false →
    let z := s.contactEnd
    s.capturing (segOf k) (z - 18000) z = false → s.nextContact (segOf k) z = some k →
    let isIn := (s.cells.get k).st == .isIn
    let served := (s.meas.get k).served
    let a := (s.modSeg (segOf k) (fun x => { x with verifier := { x.verifier with contact := (localOf k + 1) % 16 } })).modMeas k
      (fun m => { m with contRound := some (s.segs.get (segOf k)).verifier.round })
    let b := (a.sendUp (segOf k) (.output k 3 ⟨pos, z, false, isIn, satP, served⟩)).sendUp (segOf k)
      (.output k 4 ⟨neg, z, false, isIn, satN, served⟩)
    (∀ ip iN, (s.cells.get k).st = .isIn → s.meanShunt (z - 16000) (z - 8000) = some ip → s.meanShunt (z - 8000) z = some iN →
      exec (.contactVisit k pos neg satP satN) s =
        .next (b.contactUnder k (divI (1000000 * pos) ip) (divI (1000000 * neg) iN) (divI (ip + iN) 2) satP satN z).settle) ∧
    ((s.cells.get k).st = .isOpen →
      exec (.contactVisit k pos neg satP satN) s = .next (b.contactOpen k pos neg satP satN z).settle)) ∧
  (∀ (s : State) (k : Cell) (z : Nat), s.contactEligible k z = true →
    s.excluded k = false ∧ (s.cells.get k).tr = none ∧
    (((s.cells.get k).st = .isIn ∧ s.flag Fld.measCtrlContactEn = true ∧ s.overlap k (z - 18000) z = 18000 ∧
        s.shuntHigh (z - 18000) z = true) ∨
      ((s.cells.get k).st = .isOpen ∧ s.flag Fld.measCtrlOpenTestEn = true))) ∧
  (∀ (s : State) (k : Cell) (rp rn i : Int) (z : Nat), 1 ≤ s.fld Fld.measContactLimitCount →
    let lim : Int := s.contactLimit
    let t := s.contactUnder k rp rn i false false z
    (rp ≤ lim → rn ≤ lim → t.cells = s.cells ∧ t.flt = s.flt) ∧
    (lim < rp → s.fld Fld.measContactLimitCount ≤ (s.meas.get k).contP + 1 → (s.cells.get k).tr = none →
      (s.cells.get k).st = .isIn →
      (∃ r ∈ t.flt.due, r.1.src = .contactPark ∧ r.1.cell = some k ∧ r.1.arg0 = wordI rp ∧ r.1.arg1 = wordI rn) ∧
      (t.cells.get k).hasCause 6 = true ∧ ∀ j, j ≠ k → t.cells.get j = s.cells.get j)) ∧
  (∀ (s : State) (k : Cell) (pos neg : Int) (z : Nat), (s.cells.get k).tr = none → (s.cells.get k).st = .isOpen →
    let lim : Int := 10000 * s.fld Fld.measContactLimitOpenLimit
    let t := s.contactOpen k pos neg false false z
    (100 * pos ≤ lim → 100 * neg ≤ lim → t.cells = s.cells ∧ t.flt = s.flt) ∧
    (lim < 100 * pos ∨ lim < 100 * neg →
      (∃ r ∈ t.flt.due, r.1.src = .contactPark ∧ r.1.cell = some k ∧ r.1.arg0 = wordI (100 * pos) ∧
        r.1.arg1 = wordI (100 * neg)) ∧
      (t.cells.get k).st = .park ∧ (t.cells.get k).hasCause 6 = true ∧ ∀ j, j ≠ k → t.cells.get j = s.cells.get j)) ∧
  (∀ (s : State) (bottomRaw topRaw : Option Int), s.powered = true → s.shunts.iSlot ≠ 0 → s.now ≤ s.shunts.iSlot + 64000 →
    s.shunts.iSlot + 1000 ≤ s.now →
    let bottom := s.shuntMean false bottomRaw
    let top := s.shuntMean true topRaw
    let useB := s.shuntServes false bottom.isSome
    let useT := s.shuntServes true top.isSome
    (useB = true → bottom ≠ none) → (useT = true → top ≠ none) →
    ∃ u : State, exec (.shuntSlotMean bottomRaw topRaw) s = .next u.settle ∧
      Touch [.links, .play, .shunts, .results, .flt] s u ∧ u.shunts.iSlot = s.shunts.iSlot + 1000 ∧
      u.shunts.iShunt = combine useB useT bottom top ∧
      u.shunts.iT = combine useB useT (bottom.map (fun x => x - s.results.zeroB.getD 0))
        (top.map (fun x => x - s.results.zeroT.getD 0))) ∧
  (∀ b t : Option Int, combine true true b t = (match b, t with
      | some x, some y => some (divI (x + y) 2)
      | some _, none => none
      | none, _ => none) ∧
    combine true false b t = b ∧ combine false true b t = t ∧ combine false false b t = none) ∧
  (∀ s : State, s.shunts.msStart + 1000000 ≤ s.now → s.shunts.msN ≠ 0 → s.shuntInUse false = true → s.shuntInUse true = true →
    let b := divI s.shunts.msB (s.shunts.msN : Int)
    let t := divI s.shunts.msT (s.shunts.msN : Int)
    let next (m : Meas) : Meas := { m with msStart := s.now / 1000000 * 1000000, msB := 0, msT := 0, msN := 0 }
    let spc := { s.spc with iMilli := 0, iMilliN := 0 }
    let run := s.shunts.mismatchRun + 1
    ((b - t).natAbs ≤ 10 * s.fld Fld.measShuntXcheckLimit → s.settled = true →
      exec .shuntCompare s = .next { s with
        shunts := next { s.shunts with mismatchRun := 0, mismatchRaised := false }, spc := spc }) ∧
    (10 * s.fld Fld.measShuntXcheckLimit < (b - t).natAbs →
      run < s.fld Fld.measShuntXcheckDwellMs ∨ s.shunts.mismatchRaised = true → s.settled = true →
      exec .shuntCompare s = .next { s with shunts := next { s.shunts with mismatchRun := run }, spc := spc }) ∧
    (10 * s.fld Fld.measShuntXcheckLimit < (b - t).natAbs → s.fld Fld.measShuntXcheckDwellMs ≤ run →
      s.shunts.mismatchRaised = false →
      ∃ u : State, exec .shuntCompare s = .next u.settle ∧ u.shunts.mismatchRaised = true ∧
        u.shunts.exclB = (s.shunts.exclB || s.farther b t == 1) ∧ u.shunts.exclT = (s.shunts.exclT || s.farther b t == 2) ∧
        ∃ r ∈ u.flt.due, r.1.src = .shuntMismatch ∧ r.1.arg0 = wordI b ∧ r.1.arg1 = wordI t)) ∧
  (∀ s : State, s.shunts.msStart + 1000000 ≤ s.now → s.settled = true →
    s.shunts.msN = 0 ∨ s.shuntInUse false = false ∨ s.shuntInUse true = false →
    exec .shuntCompare s = .next { s with
      shunts := { s.shunts with
        mismatchRun := 0, msStart := s.now / 1000000 * 1000000, msB := 0, msT := 0, msN := 0 }
      spc := { s.spc with iMilli := 0, iMilliN := 0 } }) ∧
  (∀ (s : State) (g : Seg), s.shunts.strOn = true → s.shunts.strLive.getLsbD g.val = true →
    s.shunts.lastMark.get g + 1000000 * s.fld Fld.measStreamCfgMarkMs ≤ s.now →
    let a : State := { s with shunts := { s.shunts with lastMark := s.shunts.lastMark.set g s.now } }
    exec (.streamMark g) s = .next (State.settle (a.streamOut g (streamWord ((s.now / 1000 / 2 ^ 24 % 2 ^ 24 : Nat) : Int) 0xFF
      s.now false false false false false))))

/-! ### Analysis (chapter 06) -/

/-- The analysis engines: an aligned quiet 100 ms gives each shunt with means a new zero estimate; an estimate older than
ZERO_MAX_H raises ZERO_STALE once; TALLY brings a record of every played cell each period, CELL_SNAPSHOT one of every cell each
period or for SNAP_NOW; EDGE_R takes the oldest burst of a cell, counts it where it is disturbed, and at the 2^N-th usable edge
of a direction brings its record, a record that is begun going on where the kernel is turned off; a record takes the next SEQ
where its kind's level is not reached and its slot is free or retired, and where the level is reached it is dropped and
counted. -/
def Obligations.AnalysisEngines : Prop :=
  (∀ (s : State) (t : Nat), s.settled = true → s.results.quietFrom = some t → s.anaOn = true → s.quiet = true →
    t + 100000000 ≤ s.now → t + 100000000 ≤ s.shunts.iSlot → exec .zeroEstimate s = .next { s with results := { s.results with
      zeroB := if s.results.quietNB = 0 then s.results.zeroB else some (divI s.results.quietSumB (s.results.quietNB : Int))
      zeroT := if s.results.quietNT = 0 then s.results.zeroT else some (divI s.results.quietSumT (s.results.quietNT : Int))
      zeroAt := some (t + 100000000), zeroRaised := false, quietFrom := none, quietSumB := 0, quietSumT := 0, quietNB := 0,
      quietNT := 0 } }) ∧
  (∀ (s : State) (t : Nat), s.anaOn = true → s.results.zeroAt = some t →
    t + 3600000000000 * s.fld Fld.anaTallyCfgZeroMaxH < s.now → s.results.zeroRaised = false →
    exec .zeroStale s = .next (State.settle (State.raise { s with results := { s.results with zeroRaised := true } }
      .zeroStale none none (word s.zeroAge) 0 0))) ∧
  (∀ s : State, s.glb.st = .run → s.results.stepFrom ≠ none → s.results.params.period ≠ 0 →
    let t := s.results.lastTally + 10000000 * s.results.params.period
    t ≤ s.now → exec .tally s = .next (State.settle (each s.playedCells (fun x k => x.tallyRecord k t false)
      { s with results := { s.results with lastTally := t } }))) ∧
  (∀ s : State, s.anaOn = true →
    let p := 100000000 * s.fld Fld.anaTallyCfgSnapPeriod
    let t := s.now / 1000 * 1000
    let a := each allCells (fun x k => x.snapshotRecord k t) s
    (p ≠ 0 → s.results.lastSnap + p ≤ s.now → exec .cellSnapshot s = .next (State.settle
      { a with results := { a.results with lastSnap := t, snapPending := false } })) ∧
    (s.results.snapPending = true → p = 0 ∨ s.now < s.results.lastSnap + p → exec .cellSnapshot s = .next (State.settle
      { a with results := { a.results with snapPending := false } })) ∧
    (s.results.snapPending = false → p = 0 ∨ s.now < s.results.lastSnap + p → s.settled = true →
      exec .cellSnapshot s = .next s)) ∧
  (∀ (s : State) (k : Cell) (b : Burst) (rest : List Burst), (s.ana.get k).bursts = b :: rest → s.glb.st = .run →
    let out := outward b.edge
    (if out then (s.ana.get k).rOut else (s.ana.get k).rIn) ≠ [] ∨ s.kernelsNow.getLsbD 1 = true →
    s.anaOn = true → s.played k = true → b.edge.cls ≠ .low →
    let a := s.modAna k (fun a => { a with bursts := rest })
    let p := a.burstParams k out
    (b.disturbed = true → s.settled = true → exec (.edgeR k) s = .next (a.modAna k (fun a => if out then
      { a with rDistOut := a.rDistOut + 1 } else { a with rDistIn := a.rDistIn + 1 }))) ∧
    (∀ i, b.disturbed = false → a.currentOver b.edge.tx (b.edge.tx + 1000 * p.t1) = some i →
      (p.iMin : Int) * i.length ≤ sumInt (i.map (fun x => (x.natAbs : Int))) → sumInt i ≠ 0 →
      let c := a.modAna k (fun a => if out then { a with rOut := a.rOut ++ [edgeVal b p.t1 i], pOut := p } else
        { a with rIn := a.rIn ++ [edgeVal b p.t1 i], pIn := p })
      let n := if out then (s.ana.get k).rOut.length + 1 else (s.ana.get k).rIn.length + 1
      (2 ^ p.nLog2 ≤ n → exec (.edgeR k) s = .next (c.edgeRecord k out false).settle) ∧
      (n < 2 ^ p.nLog2 → s.settled = true → exec (.edgeR k) s = .next c)) ∧
    (∀ i, b.disturbed = false → a.currentOver b.edge.tx (b.edge.tx + 1000 * p.t1) = some i →
      sumInt (i.map (fun x => (x.natAbs : Int))) < (p.iMin : Int) * i.length → s.settled = true →
      exec (.edgeR k) s = .next a)) ∧
  (∀ (s : State) (kind cell dist time sweepId : Nat) (flags : BitVec 8) (payload : List Byte),
    let t := s.putRecord kind flags cell dist time sweepId payload
    (s.dropLevel kind ≤ s.unretired → t = { s with results := { s.results with
      drops := Nat.min 0xFFFF (s.results.drops + 1), dropDue := s.results.dropDue || !s.results.fullEpisode,
      fullEpisode := true } }) ∧
    (s.unretired < s.dropLevel kind → (∀ x, find? s.results.slots (s.results.nextSeq % 16384) = some x → x.retired = true) →
      t.results.nextSeq = (s.results.nextSeq + 1) % 2 ^ 32 ∧ t.results.drops = s.results.drops ∧
      ∃ x, find? t.results.slots (s.results.nextSeq % 16384) = some x ∧ x.record.seq = s.results.nextSeq ∧
        x.record.kind = kind ∧ x.record.cell = cell ∧ x.record.time = time ∧ x.record.payload = payload ∧
        x.record.gen = s.results.nextSeq / 16384 % 65535 + 1 ∧ x.retired = false))

/-! ### Power and DRYDOWN (chapter 07) -/

/-- Power states. In READY with no change under way POWER_EVALUATE takes the deepest state all of whose eleven conditions hold;
DOZE_EXIT ends DOZE; DRYDOWN_ENTERED enters DRYDOWN where its conditions still hold, with the stage off and every segment whose
link is up once the running slice is preempted brought to patrol mode, its drivers and converters off unless forced, and stops the entry where one does not;
DRYDOWN_EXIT ends a stopped entry in READY, leaves DRYDOWN for READY once every segment that has a supply is back on its link or
has failed to train, and waits before. -/
def Obligations.PowerStates : Prop :=
  (∀ s : State, s.powered = true → s.glb.st ≠ .drydown → exec .powerEvaluate s = .next s.evaluatePower.settle) ∧
  (∀ (s : State) (p : PowerState), s.blockOf p = 0 ↔ ∀ n, 1 ≤ n → n ≤ 11 → s.condition p n = true) ∧
  (∀ s : State, s.glb.st = .ready → s.pwr.exitFrom = none → s.pwr.going = none →
    (s.blockOf .drydown = 0 → s.evaluatePower.pwr.going = some .drydown ∧ s.evaluatePower.pwr.changing = true ∧
      s.evaluatePower.pwr.st = s.pwr.st) ∧
    (s.blockOf .drydown ≠ 0 → s.blockOf .doze = 0 → s.evaluatePower.pwr.st = .doze ∧
      s.evaluatePower.pwr.hubRet = 0x40 &&& ~~~s.hubForce) ∧
    (s.blockOf .drydown ≠ 0 → s.blockOf .doze ≠ 0 → s.blockOf .idle = 0 → s.evaluatePower.pwr.st = .idle ∧
      s.evaluatePower.pwr.hubOn = s.allDomains) ∧
    (s.blockOf .drydown ≠ 0 → s.blockOf .doze ≠ 0 → s.blockOf .idle ≠ 0 → s.evaluatePower.pwr.st = .active ∧
      s.evaluatePower.pwr.hubOn = s.allDomains)) ∧
  (∀ s : State, s.glb.st = .ready → s.pwr.st = .doze → exec .dozeExit s = .next (s.stopEntry.setPower .active).nextSlice.settle) ∧
  (∀ s : State, s.glb.st = .ready → s.pwr.going = some .drydown → s.blockOf .drydown = 0 →
    ∃ u : State, exec .drydownEntered s = .next u.settle ∧ u.glb.st = .drydown ∧ u.pwr.st = .drydown ∧ u.pwr.going = none ∧
      u.pwr.changing = false ∧ u.pwr.tFirst = (s.now + 1999999999) / 1000000000 * 1000000000 ∧ u.pins.phEnHigh = true ∧
      ∀ g, (((s.abortSlice.stageOff.enter .drydown).setPower .drydown).links.get g).st = .up → (u.segs.get g).st = .patrol ∧ (u.segs.get g).patrolAt = some u.pwr.tFirst ∧
        (u.segs.get g).smeas = s.segForce g ∧ (u.segs.get g).sdrv = s.segForce g ∧ (u.segs.get g).windowAt = none ∧
        (u.links.get g).st = .patrol) ∧
  (∀ s : State, s.glb.st = .ready → s.pwr.going = some .drydown → s.blockOf .drydown ≠ 0 → s.settled = true →
    exec .drydownEntered s = .next { s with pwr := { s.pwr with going := none, exitFrom := some s.now } }) ∧
  (∀ s : State, s.pwr.exitFrom ≠ none →
    (s.glb.st = .ready → exec .drydownExit s = .next (State.settle (State.answerWakes (State.setPower
      { s with pwr := { s.pwr with changing := false, exitFrom := none } } .active) .ok))) ∧
    (s.glb.st = .drydown → s.settled = true → (∃ g, s.linkUp g = false ∧ (s.segs.get g).st ≠ .unpowered ∧
      (s.links.get g).trainRaised = false) → exec .drydownExit s = .next s) ∧
    (s.glb.st = .drydown → (∀ g, s.linkUp g = true ∨ (s.segs.get g).st = .unpowered ∨ (s.links.get g).trainRaised = true) →
      ∃ u : State, exec .drydownExit s = .next u.settle ∧ u.glb.st = .ready ∧ u.glb.prev = .drydown ∧
      u.pwr.exitFrom = none ∧ u.pwr.wakeOrigins = [] ∧ u.bist.slowDue = true))

/-- The patrol. At its time on a segment's own timer the converters go on, afresh only where they were off, the window opens
8 ms later, and a patrol sets the time of the next one; PATROL_WINDOW_END forms the samples of the window, closes it and leaves
SMEAS as it is forced; PATROL_REPORT counts each anomaly that the report says stands; an anomaly counts once for each segment,
cell and kind, and one whose wake bit is set begins the exit from DRYDOWN; a segment not heard within 60 ms of its patrol time
counts as kind 6; STACK_LOW in DORMANT puts a segment with its stack below 20 V into log retention, and the module is OFF once
every stack is below 20 V. -/
def Obligations.Patrols : Prop :=
  (∀ (s : State) (g : Seg) (t : Nat), s.settled = true → s.patrols g = true → t ≤ s.segTime g →
    let begun (u : State) (k : Cell) : Prop := u.meas.get k = if k ∈ cellsOf g then
      { (if (s.segs.get g).smeas = true then s.meas.get k else (s.meas.get k).fresh) with patAcc := (0, 0, false) } else s.meas.get k
    ((s.segs.get g).patrolAt = some t → ∃ u : State, exec (.patrol g) s = .next u ∧ Touch [.meas, .segs, .links] s u ∧
      (∀ k, begun u k) ∧
      u.segs.get g = { s.segs.get g with
        smeas := true, windowAt := some (t + 8000000), confirming := false, patrols := ((s.segs.get g).patrols + 1) % 65536
        patrolAt := some (t + 1000000000 * (s.segs.get g).periodS) } ∧
      ∀ h, h ≠ g → u.segs.get h = s.segs.get h) ∧
    ((s.segs.get g).suspect = some t → ∃ u : State, exec (.confirmationPatrol g) s = .next u ∧ Touch [.meas, .segs] s u ∧
      (∀ k, begun u k) ∧
      u.segs.get g = { s.segs.get g with
        smeas := true, windowAt := some (t + 8000000), confirming := true, suspect := none } ∧ ∀ h, h ≠ g → u.segs.get h = s.segs.get h)) ∧
  (∀ (s : State) (g : Seg) (w mv : Nat) (die : Int) (cells : List PatrolCell), (s.segs.get g).windowAt = some w →
    s.patrols g = true → w + 32000000 ≤ s.segTime g →
    let x := s.closeWindow g w mv die (s.patrolled g cells)
    exec (.patrolWindowEnd g mv die cells) s = .next x.settle ∧ (x.segs.get g).windowAt = none ∧
    (x.segs.get g).smeas = s.segForce g ∧ (x.segs.get g).stackMv = mv) ∧
  (∀ (s : State) (g : Seg) (cells : List PatrolCell) (c : Nat) (x : PatrolCell), cells[c]? = some x →
    let a := (s.meas.get (cellOf g c)).patAcc
    (s.patrolled g cells)[c]? = some ⟨if a.2.1 = 0 then 0 else divI a.1 (a.2.1 : Int), a.2.2, x.ntc, x.contP, x.contN⟩) ∧
  (∀ (s : State) (g : Seg) (c u : Bool) (l : List Anomaly) (rest : List UpMsg), s.glb.st = .drydown →
    takeReport (s.links.get g).up.queued = some ((c, u, l), rest) →
    let a := s.modLink g (fun l => { l with up := { l.up with queued := rest } })
    let n := (s.now - s.pwr.tFirst) / (1000000000 * s.fld Fld.pwrDrydownPeriodPeriodS)
    let b : State := if c then a else { a with pwr := { a.pwr with
      patrolNo := n, reported := (if a.pwr.patrolNo = n then a.pwr.reported else 0) ||| (1 <<< g.val) } }
    exec (.patrolReport g) s = .next (State.settle (each l (fun x y => x.countAnomaly g y) b))) ∧
  (∀ (s : State) (g : Seg), s.glb.st = .drydown → s.pwr.exitFrom = none → s.pwr.tFirst ≤ s.now →
    let n := (s.now - s.pwr.tFirst) / (1000000000 * s.fld Fld.pwrDrydownPeriodPeriodS)
    s.pwr.tFirst + 1000000000 * s.fld Fld.pwrDrydownPeriodPeriodS * n + 60000000 ≤ s.now →
    (s.pwr.patrolNo ≠ n ∨ s.pwr.reported.getLsbD g.val = false →
      exec (.segLost g) s = .next (s.countAnomaly g ⟨6, 0, 0⟩).settle) ∧
    (s.pwr.patrolNo = n → s.pwr.reported.getLsbD g.val = true → s.settled = true → exec (.segLost g) s = .next s)) ∧
  (∀ (s : State) (g : Seg) (a : Anomaly),
    ((∃ e ∈ s.pwr.anomalies, e.1 = g ∧ e.2.kind = a.kind ∧ e.2.cell = a.cell) → s.countAnomaly g a = s) ∧
    ((∀ e ∈ s.pwr.anomalies, ¬(e.1 = g ∧ e.2.kind = a.kind ∧ e.2.cell = a.cell)) →
      (s.countAnomaly g a).pwr.anomalies = s.pwr.anomalies ++ [(g, a)] ∧
      (s.countAnomaly g a).pwr.anCount = Nat.min 0xFF (s.pwr.anCount + 1) ∧
      ((s.fld Fld.pwrWakeCfgAnomWake).testBit (a.kind - 1) = true → s.glb.st = .drydown → s.pwr.exitFrom = none →
        (s.countAnomaly g a).pwr.wakeAnomaly = true ∧ (s.countAnomaly g a).pwr.exitFrom = some s.now))) ∧
  (∀ (s : State) (g : Seg) (mv : Nat), s.settled = true → s.glb.st = .dormant → mv < 20000 →
    let a := s.modSeg g (fun x => { x with
      stackMv := mv, retention := true, windowAt := none, suspect := none, suspects := [], confirming := false, patrolAt := none, smeas := false })
    ((∀ h, h ≠ g → (s.segs.get h).stackMv < 20000) →
      exec (.stackLow g mv) s = .next { a with glb := { s.glb with st := .off, prev := .dormant } }) ∧
    ((∃ h, h ≠ g ∧ 20000 ≤ (s.segs.get h).stackMv) → exec (.stackLow g mv) s = .next a))

/-! ### Span links (chapter 08) -/

/-- Beacons, park symbols and silence: at a whole microsecond the hub puts a beacon on every link that is up, marked LATE where a
park symbol is still to be repeated, and sends that symbol once less; a beacon word holds US, CLASS, HALT, RUN, PATROL, LATE and
ACK at their bits under a CRC-8; a segment takes the class and HALT of a valid beacon, which parks its IN cells, and nothing of an
invalid one; one uplink beacon in a frame reports, acknowledges and covers the boundary cells; a park symbol parks for HALT or
ORPHAN; 20 µs without either parks a running segment for LINK and leaves it silent, or in DORMANT on its patrol schedule.
Training and loss: a link trained on both carriers is UP, on one SINGLE; 2 ms with neither starts over and raises TRAIN_FAILED
once; a lost carrier leaves it SINGLE until training in the background finds it again; 20 µs without an uplink beacon loses it;
4 µs without an acknowledgement sends again and counts each message sent. -/
def Obligations.SpanLinkUpkeep : Prop :=
  ((∀ s : State, s.settled = true → s.powered = true → (s.glb.st ≠ .drydown ∨ s.pwr.exitFrom ≠ none) → s.now % 1000 = 0 →
    ∃ t : State, exec .beaconTx s = .next t ∧ Touch [.links] s t ∧ ∀ g, s.linkUp g = true →
      (t.links.get g).beacon = some (beaconWord (s.now / 1000) s.currentClass s.haltBit s.inRun false
        ((s.links.get g).parkLeft != 0) (ackOf (s.links.get g).up)) ∧
      (t.links.get g).parkSym = (if (s.links.get g).parkLeft = 0 then none else (s.links.get g).parkSym) ∧
      (t.links.get g).parkLeft = (s.links.get g).parkLeft - 1) ∧
  (∀ (us : Nat) (c : Machine.Class) (halt run patrol late : Bool) (ack : Nat),
    let b := beaconWord us c halt run patrol late ack
    b.toNat % 1024 = us % 1024 ∧ classOfNo (b.toNat / 2 ^ 10 % 4) = some c ∧ b.getLsbD 12 = halt ∧ b.getLsbD 13 = run ∧
      b.getLsbD 14 = patrol ∧ b.getLsbD 15 = late ∧ b.toNat / 2 ^ 16 % 256 = ack % 256 ∧ beaconCrcOk b = true) ∧
  (∀ (s : State) (g : Seg) (b : BitVec 32) (ok : Bool), (s.links.get g).beacon = some b →
    let n := b.toNat
    let a := s.modLink g (fun l => { l with beacon := none })
    let us := (s.segs.get g).timeSet = false ∨ n % 1024 = s.now / 1000 % 1024
    (ok = false ∨ beaconCrcOk b = false ∨ classOfNo (n / 2 ^ 10 % 4) = none ∨ s.hears g = false ∨ ¬us →
      exec (.downlinkBeacon g ok) s = .next a.settle) ∧
    (∀ cls, ok = true → beaconCrcOk b = true → classOfNo (n / 2 ^ 10 % 4) = some cls → s.hears g = true → us →
      let c := (a.modLink g (fun l => { l with
        lastDownlink := s.now, up := ackDir upPriority s.now l.up (ackOf l.up) })).modSeg g (fun x => { x with
          cls := cls, clsAt := s.now, st := if x.st == .silent && x.trained then .running else x.st
          haltCause := if n.testBit 12 then x.haltCause else 0 })
      let d := if n.testBit 14 then c.startTimer g else c
      exec (.downlinkBeacon g ok) s = .next (if n.testBit 12 then d.parkIn g (match (s.links.get g).parkSym with
        | some orphan => if orphan then 8 else 7
        | none => if (s.segs.get g).haltCause = 0 then 7 else (s.segs.get g).haltCause) else d).settle)) ∧
  (∀ (s : State) (g : Seg), s.linkUp g = true → s.powered = true → (s.segs.get g).st ≠ .unpowered →
    upFrame (s.links.get g).lastUplink < upFrame s.now →
    exec (.uplinkBeacon g true) s = .next (State.settle (each (boundaryCells g) (fun x j => x.tellNeighbour j [])
      (s.modLink g (fun l => { l with
        report := s.uplink g, lastUplink := s.now, down := ackDir downPriority s.now l.down (ackOf l.down) })).watchV))) ∧
  (∀ (s : State) (g : Seg) (orphan : Bool), (s.links.get g).parkSym = some orphan → s.linkUp g = true →
    (s.segs.get g).st ≠ .unpowered →
    exec (.parkSymbolReceived g) s = .next (State.settle (State.parkSegment
      ((s.modSeg g (fun x => { x with haltCause := if orphan then 8 else 7 })).modLink g (fun l => { l with
        lastDownlink := s.now })) g (if orphan then 8 else 7)))) ∧
  (∀ (s : State) (g : Seg), ((s.segs.get g).st = .running ∨ (s.segs.get g).st = .boot) →
    (s.links.get g).lastDownlink + 20000 ≤ s.now →
    let a := if (s.segs.get g).st = .running then s.parkSegment g 9 else s
    let b := if (s.segs.get g).timerFrom = none then a.startTimer g else a
    exec (.linkSilence g) s = .next (if s.glb.st = .dormant ∧ (s.segs.get g).onStack = true then b.dormantPatrol g
      else b.modSeg g (fun x => { x with
        trained := false, st := if x.st == .running then .silent else x.st })).settle)) ∧
  ((∀ (s : State) (g : Seg) (trips : List Nat), s.isTraining g = true →
    let t := (s.linkTrained g (s.carriers g).1 (s.carriers g).2 (latencyOf trips)).checkShunts.nextSlice
    exec (.spanTrained g trips) s = .next (State.settle
      (if s.glb.st = .boot ∧ (t.segs.get g).st ≠ .boot then t.sendDown g (.cmd .moduleReset) else t))) ∧
  (∀ (s : State) (g : Seg) (c0 c1 : Bool) (ns : Nat), ((s.linkTrained g c0 c1 ns).links.get g).st =
      (if c0 = true ∧ c1 = true then .up else .single) ∧
    ((s.linkTrained g c0 c1 ns).links.get g).c0 = c0 ∧ ((s.linkTrained g c0 c1 ns).links.get g).c1 = c1 ∧
    ((s.linkTrained g c0 c1 ns).links.get g).latency = ns ∧
    ((s.linkTrained g c0 c1 ns).links.get g).down.expect = 0 ∧ ((s.linkTrained g c0 c1 ns).links.get g).up.expect = 0 ∧
    ((s.linkTrained g c0 c1 ns).segs.get g).shadowOk = true ∧ ((s.linkTrained g c0 c1 ns).segs.get g).trained = true ∧
    ((s.segs.get g).shadowOk = false → ((s.linkTrained g c0 c1 ns).segs.get g).win = s.shadowOf g)) ∧
  (∀ (s : State) (g : Seg) (c0 c1 : Bool) (trips : List Nat), s.isTraining g = true →
    (s.links.get g).trainFrom + 2000000 ≤ s.now →
    let p := c0 && (s.carriers g).1
    let q := c1 && (s.carriers g).2
    let t := (s.linkTrained g p q (latencyOf trips)).checkShunts.nextSlice
    let u := if s.glb.st = .boot ∧ (t.segs.get g).st ≠ .boot then t.sendDown g (.cmd .moduleReset) else t
    p ≠ q → exec (.trainingTimeout g c0 c1 trips) s = .next (State.settle (if (s.links.get g).st = .training
      then u.raise .carrierLost (some g) none (if p then 1 else 0) 0 0 else u))) ∧
  (∀ (s : State) (g : Seg) (trips : List Nat), s.isTraining g = true → (s.links.get g).trainFrom + 2000000 ≤ s.now →
    let a := s.modLink g (fun l => { l with trainFrom := s.now, trainRaised := true })
    exec (.trainingTimeout g false false trips) s = .next (State.settle (State.tryTest
      (if (s.links.get g).st = .training ∧ (s.links.get g).trainRaised = false
        then a.raise .trainFailed (some g) none 0 0 0 else a)))) ∧
  (∀ (s : State) (g : Seg) (c : Bool), (s.links.get g).st = .up →
    ∃ u : State, exec (.carrierLost g c) s = .next u.settle ∧ (u.links.get g).st = .single ∧ (u.links.get g).c0 = c ∧
      (u.links.get g).c1 = !c ∧ Touch [.links, .flt] s u ∧ ∃ r ∈ u.flt.due, r.1.src = .carrierLost ∧ r.1.seg = some g) ∧
  (∀ (s : State) (g : Seg), s.settled = true → (s.links.get g).st = .single → s.carriers g = (true, true) →
    exec (.backgroundTraining g true) s = .next (s.modLink g (fun l => { l with st := .up, c0 := true, c1 := true }))) ∧
  (∀ (s : State) (g : Seg), s.linkUp g = true → s.powered = true → (s.links.get g).lastUplink + 20000 ≤ s.now →
    exec (.linkLost g) s = .next (s.loseLink g).settle) ∧
  (∀ (s : State) (g : Seg), s.settled = true → s.linkUp g = true → 
    ((s.links.get g).up.sent ≠ [] → (s.links.get g).up.ackAt + 4000 ≤ s.now →
      exec (.spanResend g true) s = .next (s.modLink g (fun l => { l with
        up := { l.up with ackAt := s.now }, retry := Nat.min 0xFF (l.retry + l.up.sent.length) }))) ∧
    ((s.links.get g).down.sent ≠ [] → (s.links.get g).down.ackAt + 4000 ≤ s.now →
      exec (.spanResend g false) s = .next (s.modLink g (fun l => { l with
        down := { l.down with ackAt := s.now }, retry := Nat.min 0xFF (l.retry + l.down.sent.length) })))))

/-- A message to a segment that is next in SEQ is taken: CONFIG acts on the window, or is staged, and is acknowledged with the
value applied; READ is answered from the window; the last SHARE is judged by its CRC and the segment's own checks, or completes
the segment's image; a time message ends the segment's own timer and gives the latency anew; ISLOT sends the sums of the cells
that carried current or play a walk; a neighbour's report moves and covers the boundary cell; CMD is the action it names and is
answered, but for a reset. A message from a segment that is next in SEQ is taken: an EDGE report is counted and told to the
neighbouring segment; a FAULT is reported, or fills the record of the halt request that came before it; undisturbed filter
outputs of IN cells go to DQDV, undisturbed unsaturated OCV samples to KVAL where it runs; SUMS that are new go to the totals;
the parts of a burst are collected and its last held for EDGE-R; stream words go to a head's ring; an RSP updates the shadow and
answers the writer. -/
def Obligations.SpanMessages : Prop :=
  (∀ (s : State) (g : Seg), s.linkUp g = true → (s.segs.get g).st ≠ .unpowered →
    let d := expected (s.links.get g).down
    let a := s.takeDown g
    (∀ off v mask staged o, d = some (.config off v mask staged o) →
      let b := if staged then a.modSeg g (fun x => { x with staged := x.staged ++ [(off, v, mask)] })
        else a.applyWindow g off v mask
      exec (.config g) s = .next (b.sendUp g (.rsp off (Sparse.get resetOf (b.segs.get g).win off) .ok (some o))).settle) ∧
    (∀ off, d = some (.read off) →
      exec (.read g) s = .next (a.sendUp g (.rsp off (s.windowLive g (off % 0x400)) .ok none)).settle) ∧
    (∀ bank off data isLast, d = some (.share bank off data isLast) →
      let b := a.modSeg g (fun x => { x with
        shareRx := if off = 0 then data else x.shareRx ++ data, stagedOk := x.stagedOk && bank != 1 })
      (isLast = false → exec (.share g) s = .next b.settle) ∧
      (isLast = true → bank = 2 →
        exec (.share g) s = .next (b.modSeg g (fun x => { x with imageIn := true, shareRx := [] })).settle) ∧
      (isLast = true → bank ≠ 2 →
        let l := s.play.staged.bytes
        let st : Status := if shareCrcOk (b.segs.get g).shareRx then
          (if (b.segs.get g).shareRx = shareOf l g.val then ownChecks l g.val (s.guardFor l) else .checkFail) else .checkFail
        exec (.share g) s = .next (State.settle (State.sendUp (b.modSeg g (fun x => { x with
          stagedOk := st == .ok, shareStatus := st, shareRx := []
          shareStaged := if st = .ok then x.shareRx else x.shareStaged })) g (.shareRsp st))))) ∧
    (∀ t l trip, d = some (.time t l) → exec (.timeMessage g trip) s = .next (State.settle
      (((a.compareTimer g).modSeg g (fun x => { x with timeSet := true })).modLink g (fun x => { x with
        latency := (trip - 100) / 2 })))) ∧
    (∀ first vals, d = some (.islot first vals) →
      let l := vals.mapIdx (fun i v => (first + 1000 * i, v))
      exec (.islot g) s = .next (State.settle (each (cellsOf g) (fun x k =>
        if (x.sumsOf k l).upTo ≠ 0 ∧ ((x.sumsOf k l).tIn ≠ 0 ∨ (x.sumsOf k l).sweep ≠ none)
        then x.sendUp g (.sums k (x.sumsOf k l)) else x) (a.modSeg g (fun x => { x with islots := l }))))) ∧
    (∀ j t l k, d = some (.neighbour j t l) → farNeighbour j = some k →
      exec (.neighbour g) s = .next (State.settle (State.coverTo (each l (fun x (e : EdgeRec) =>
        (x.neighbourMoved k e.step1 (e.confs.getLastD e.step1 + x.guardNs)).disturb k e.step1
          (e.confs.getLastD e.step1 + x.guardNs)) a) k t))) ∧
    (∀ c, d = some (.cmd c) → exec (.segmentCmd g) s = .next (State.settle (if c = .reset ∨ c = .moduleReset
      then a.segmentAction g c else (a.segmentAction g c).sendUp g (.cmdRsp .ok))))) ∧
  (∀ (s : State) (g : Seg), s.linkUp g = true → s.powered = true →
    let d := expected (s.links.get g).up
    let a := s.takeUp g
    (∀ e, d = some (.edge e) →
      exec (.edge g) s = .next (State.settle (State.tellNeighbour
        (State.modAna (if e.planned.isSome then a.countMod e.pairSlot else a) e.cell (fun x => { x with
          edges := x.edges + 1, late := if e.late then x.late + 1 else x.late })) e.cell [e]))) ∧
    (∀ r rescaled, d = some (.fault r rescaled) →
      let flags : BitVec 8 := if rescaled then 9 else 1
      ((r.src, g) ∈ s.flt.awaited → exec (.faultMessage g) s = .next (State.settle (State.recordAndReact
        (a.modFlt (fun f => { f with awaited := f.awaited.erase (r.src, g) })) r flags (a.classOf r.src) false))) ∧
      ((r.src, g) ∉ s.flt.awaited → exec (.faultMessage g) s = .next (State.settle (State.report
        (if srcClass r.src = .halt then a.modLink g (fun l => { l with haltReq := false }) else a) r flags)))) ∧
    (∀ k x, d = some (.output k 0 x) → x.disturbed = false → x.isIn = true →
      exec (.output g) s = .next (a.dqdvOutput k x).settle) ∧
    (∀ k x, d = some (.output k 1 x) → x.disturbed = false → x.sat = false → s.kvalRuns (s.ana.get k).kval = true →
      exec (.output g) s = .next (a.kvalSample k x.value (a.temps.get k).inUse x.stamp false).settle) ∧
    (∀ k n x, d = some (.output k n x) → n = 0 ∨ n = 1 → x.disturbed = true → exec (.output g) s = .next a.settle) ∧
    (∀ k x, d = some (.sums k x) →
      (s.results.stepFrom ≠ none → (s.ana.get k).sumTo ≤ x.from_ → exec (.sums g) s = .next (State.settle (a.modAna k (fun y =>
        { y with
          q := y.q + x.q, e := y.e + x.e, tIn := y.tIn + x.tIn, sumTo := Nat.max y.sumTo x.upTo
          sweep := match y.sweep, x.sweep with
            | some v, some w => some (v.add w)
            | v, _ => v })))) ∧
      (s.results.stepFrom = none ∨ x.from_ < (s.ana.get k).sumTo → exec (.sums g) s = .next a.settle)) ∧
    (∀ k l, d = some (.burstPart k l) →
      exec (.burst g) s = .next (a.modAna k (fun x => { x with burstRx := x.burstRx ++ l })).settle) ∧
    (∀ k b, d = some (.burst k b) →
      exec (.burst g) s = .next (a.modAna k (fun x => { x with
        burstRx := [], bursts := x.bursts ++ [{ b with samples := x.burstRx ++ b.samples }] })).settle) ∧
    (∀ ws, d = some (.stream ws) → s.isHead = true →
      exec (.stream g) s = .next (a.placeStream s.loop.position g.val ws).settle) ∧
    (∀ off v st o, d = some (.rsp off v st (some o)) →
      exec (.segmentRsp g) s = .next (State.settle (State.replyLate
        (if st = .ok ∧ 0x40 ≤ off % 0x400 then a.store off v else a) o 0x02 (Result.of st)))) ∧
    (∀ off v st, d = some (.rsp off v st none) →
      exec (.segmentRsp g) s = .next (a.modLink g (fun l => { l with seen := assign l.seen (off % 0x400) v })).settle) ∧
    (∀ st, d = some (.cmdRsp st) → exec (.segmentRsp g) s = .next a.settle) ∧
    (∀ st, d = some (.shareRsp st) → exec (.segmentRsp g) s = .next (a.verifyAnswer g st).settle))
/-! ### Supplies and line time (chapters 07, 08, 10, 15) -/

/-- Supplies. In DORMANT or OFF a segment in log retention loses its log as its stack falls below 6 V; the loss of a feed that is
enabled raises FEED_FAULT and leaves the segment on its stack where that is at 20 V or above, unpowered and reset else; a feed
whose time to be restored has come is in range where it is still enabled, and brings a dead segment of a powered module into
BOOT with its link trained anew, or stays off where it is not; the aux monitor is taken every time, and a fall of aux below 20 V
is counted and raised as AUX_SAG. -/
def Obligations.Supplies : Prop :=
  (∀ (s : State) (g : Seg) (mv : Nat), s.settled = true → s.glb.st = .dormant ∨ s.glb.st = .off →
    (s.segs.get g).retention = true → mv < 6000 →
    exec (.logRetentionEnd g mv) s = .next (s.modSeg g (fun x => { x with
      stackMv := mv, retention := false, log := [], logOver := 0, st := .unpowered }))) ∧
  (∀ (s : State) (g : Seg), s.powered = true → (s.segs.get g).feedOk = true → s.flag (Fld.segFeedCtrlFeedEn g) = true →
    let a := (s.modSeg g (fun x => { x with
      feedOk := false, feedV := 0, onStack := decide (20000 ≤ x.stackMv) })).raise
      .feedFault (some g) none 0 0 0
    (20000 ≤ (s.segs.get g).stackMv → exec (.feedLoss g) s = .next a.settle) ∧
    ((s.segs.get g).stackMv < 20000 → exec (.feedLoss g) s =
      .next ((((a.abortSegSlice g).segDieReset g false).modSeg g (fun x => { x with
        st := .unpowered, smeas := false, sdrv := false })).linkToDown g).settle)) ∧
  (∀ (s : State) (g : Seg) (t volts : Nat), s.settled = true → (s.segs.get g).feedRestoreAt = some t → t ≤ s.now →
    let a := s.modSeg g (fun x => { x with feedRestoreAt := none })
    (s.flag (Fld.segFeedCtrlFeedEn g) = false → exec (.segFeedRestore g volts) s = .next a) ∧
    (s.flag (Fld.segFeedCtrlFeedEn g) = true → (s.segs.get g).st ≠ .unpowered → exec (.segFeedRestore g volts) s =
      .next (a.modSeg g (fun x => { x with feedOk := true, feedV := volts % 256, onStack := false }))) ∧
    (s.flag (Fld.segFeedCtrlFeedEn g) = true → (s.segs.get g).st = .unpowered → s.powered = true →
      exec (.segFeedRestore g volts) s = .next (State.retrainLink (a.modSeg g (fun x => { x with
        feedOk := true, feedV := volts % 256, onStack := false, st := .boot })) g))) ∧
  (∀ (s : State) (mv : Nat), s.powered = true →
    (20000 ≤ mv ∨ s.pwr.nvmOk = false → exec (.auxMonitorUpdate mv) s = .next (State.settle (State.startRepair
      { s with pwr := { s.pwr with inRange := true, auxMv := Nat.min 0xFFFF mv, nvmOk := decide (20000 ≤ mv) } }))) ∧
    (mv < 20000 → s.pwr.nvmOk = true → exec (.auxMonitorUpdate mv) s = .next (State.settle (State.startRepair (State.raise
      { s with pwr := { s.pwr with
        inRange := true, auxMv := Nat.min 0xFFFF mv, nvmOk := false, sagCount := Nat.min 0xFF (s.pwr.sagCount + 1) } }
      .auxSag none none (word mv) 0 0)))))

/-- Line time. A head consumes a TIME frame unread; a member passes it on and takes it, with the offset that origin, CORR, the
latency of the port and the time of arrival give, where it follows the port it came on; a head that follows PTM takes the offset
of a PTM dialogue, and none from one that failed; at a whole millisecond a head numbers the TIME frame of each port that is UP; a
member loses a source 3 ms after its last frame, and follows the other port where that is a candidate; a unit that followed
without a source for its time is in HOLDOVER at the mean trim of its last 10 s LOCKED, and HOLDOVER_LIMIT is raised once in an
episode; with FOLLOW 0, TIME_NOW_HI and then TIME_NOW_LO written set line time to the first tick at or after HI:LO where a step
is permitted, and begin a slew towards it where none is; with FOLLOW 1 the two writes do nothing. -/
def Obligations.LineTime : Prop :=
  (∀ (s : State) (p : Port) (f : Frame) (rx : Nat), s.takes p 4 f = true →
    (s.isHead = true → exec (.time p f rx) s = .next (s.heard p 4 f).settle) ∧
    (s.isHead = false → exec (.time p f rx) s = .next (((s.heard p 4 f).passTime p f rx).takeTime p f rx).settle)) ∧
  (∀ (s : State) (p : Port) (f : Frame) (rx : Nat), s.flag Fld.timeCtrlFollow = true → s.portAllowed p = true →
    s.tu.src = srcCode p →
    let off : Int := 10 * (u f.payload 0 8 : Int) + (u f.payload 8 4 : Int) + (s.port p).lat - divI (10 * (rx : Int)) 8
    ∃ a : State, s.takeTime p f rx = a.takeOffset off ∧ a.tu.hops = f.dist + 1 ∧ a.tu.lastSource = s.now ∧
      Touch [.tu] s a) ∧
  (∀ (s : State) (master : Nat), s.settled = true → s.powered = true → s.followsPtm = true →
    exec (.ptmDialogue false master) s = .next { s with tu := { s.tu with ptmValid := false } } ∧
    exec (.ptmDialogue true master) s = .next (State.settle (State.takeOffset { s with tu := { s.tu with
      ptmValid := true, lastSource := s.now, src := 3, hops := 0, srcHoldover := false, srcHead := false } }
      (10 * ((master : Int) - s.now))))) ∧
  (∀ s : State, s.settled = true → s.powered = true → s.isHead = true → s.flag Fld.timeCtrlTxEn = true →
    s.now % 1000000 = 0 → ∃ t : State, exec .timeFrameTx s = .next t ∧ Touch [.loop, .out] s t ∧
      t.loop.tseqA = (if (s.port .a).st = 2 then (s.loop.tseqA + 1) % 65536 else s.loop.tseqA) ∧
      t.loop.tseqB = (if (s.port .b).st = 2 then (s.loop.tseqB + 1) % 65536 else s.loop.tseqB)) ∧
  (∀ (s : State) (p : Port) (c : Nat × Nat × Bool × Bool), s.tu.cand p = some c → s.powered = true → s.isHead = false →
    c.1 + 3000000 ≤ s.now →
    ∃ u : State, exec (.sourceLost p) s = .next u.settle ∧ Touch [.tu] s u ∧ u.tu.cand p = none ∧
      (s.tu.src ≠ srcCode p → u.tu.src = s.tu.src) ∧
      (s.tu.src = srcCode p → u.tu.src = if (s.candidate (otherPort p)).isSome then srcCode (otherPort p) else 0)) ∧
  (∀ s : State, s.powered = true → s.flag Fld.timeCtrlFollow = true → s.isHead = false ∨ s.followsPtm = true →
    s.tu.st = 1 ∨ s.tu.st = 2 → s.tu.lastSource + s.sourceTimeout ≤ s.now →
    ∃ u : State, exec .holdover s = .next u.settle ∧ u.tu.st = 3 ∧ u.tu.src = 0 ∧ u.tu.holdFrom = some s.now ∧
      u.tu.trim = meanTrim s.tu.trim (s.tu.countTrim s.now).trims ∧ Touch [.tu, .flt] s u ∧
      ∃ r ∈ u.flt.due, r.1.src = .holdover) ∧
  (∀ (s : State) (t : Nat), s.tu.holdFrom = some t → s.powered = true → s.tu.st = 3 → s.tu.limitRaised = false →
    t + 1000000000 * s.fld Fld.timeHoldoverLimitS < s.now →
    exec .holdoverLimit s = .next (State.settle (State.raise { s with tu := { s.tu with limitRaised := true } } .holdoverLimit
      none none (word (Nat.min 0xFFFF ((s.now - t) / 1000000000))) 0 0))) ∧
  (∀ (s : State) (hi lo : Word), s.flag Fld.timeCtrlFollow = false → s.stepPermitted = true →
    ((s.writeTime 0x2004 hi 0).writeTime 0x2000 lo 0).now = (hi.toNat * 2 ^ 32 + lo.toNat + 3) / 4 * 4 % 2 ^ 64) ∧
  (∀ (s : State) (hi lo : Word), s.flag Fld.timeCtrlFollow = false → s.stepPermitted = false →
    let t := (s.writeTime 0x2004 hi 0).writeTime 0x2000 lo 0
    let d : Int := hi.toNat * 2 ^ 32 + lo.toNat - s.now
    t.now = s.now ∧ t.tu.slewing = true ∧ t.tu.slewEnd = if s.fld Fld.timeCtrlSlewPpm = 0 then none
      else some (s.now + (10 * d).natAbs * 100000 / s.fld Fld.timeCtrlSlewPpm)) ∧
  (∀ (s : State) (hi lo : Word), s.flag Fld.timeCtrlFollow = true → s.tu.hiWritten = none →
    (s.writeTime 0x2004 hi 0).writeTime 0x2000 lo 0 = s)

/-! ### The host port (chapter 11) -/

/-- The host port of a powered head. Its link: PERST_N or a function level reset resets the HOST domain and takes bus mastering and
MSI-X away, and PERST_N takes the link down too, raised as PCIE_LINK_DOWN where it was up; the link going down; and coming up,
which may make the module READY. Its doorbells: a value that its check admits is taken, and one that it does not brings the error
bit and state ERROR. A descriptor read that failed is an error; a fetched one is taken up. A held completion is written and the
commands that waited for it start. A command later than CMD_TIMEOUT whose completion is not held and whose RSP does not arrive
now completes TIMEOUT, its tag closed, and CMD_TIMEOUT is raised; the coalescing time signals what waits. -/
def Obligations.HostPortRows : Prop :=
  ∀ s : State, s.hostPowered = true →
    (let a := s.hostDomainReset.modHost (fun h => { h with busMaster := false, msixEn := false })
      let b := (a.setPins { a.pins with perstN := false }).modHost (fun h => { h with
        linkUp := false, lostAt := h.lostAt.orElse (fun _ => some a.now) })
      exec (.hostReset true) s = .next a.settle ∧
      exec (.hostReset false) s = .next (if s.host.linkUp then b.raise .pcieLinkDown none none 0 0 0 else b).settle) ∧
    (s.host.linkUp = true → exec .pcieLinkDown s = .next (State.settle (State.raise
      { s with host := { s.host with linkUp := false, lostAt := s.host.lostAt.orElse (fun _ => some s.now) } }
      .pcieLinkDown none none 0 0 0))) ∧
    exec .pcieLinkUp s = .next (State.settle (State.tryReady { s with
      host := { s.host with linkUp := true, lostAt := none, busMaster := true, msixEn := true }
      pins := { s.pins with perstN := true }, loop := { s.loop with silent := false } })) ∧
    (∀ v : BitVec 16, let a := s.doorbell
      (ahead v.toNat a.host.cmdTail ≤ a.host.cmdSize → ahead v.toNat a.host.cmdHead ≤ a.host.cmdSize →
        exec (.dbCmdTail v) s = .next (State.settle { a with host := { a.host with cmdTail := v.toNat } })) ∧
      (a.host.cmdSize < ahead v.toNat a.host.cmdTail ∨ a.host.cmdSize < ahead v.toNat a.host.cmdHead →
        exec (.dbCmdTail v) s = .next (a.doorbellError 0x002).settle) ∧
      (ahead v.toNat a.host.cpl.cons ≤ a.host.cpl.held →
        exec (.dbCplHead v) s = .next (State.settle { a with host := { a.host with cpl := { a.host.cpl with cons := v.toNat } } })) ∧
      (a.host.cpl.held < ahead v.toNat a.host.cpl.cons → exec (.dbCplHead v) s = .next (a.doorbellError 0x004).settle) ∧
      ∀ ring : Fin 4,
        (ahead v.toNat (a.host.res.get ring).cons ≤ (a.host.res.get ring).held →
          exec (.dbResHead ring v) s = .next (State.settle (State.placeWaiting (State.endEpisode (State.modHost
            (each ((a.host.res.get ring).entries.take (ahead v.toNat (a.host.res.get ring).cons)) State.retire a)
            (fun h => { h with res := h.res.modify ring (fun r => { r with
              cons := v.toNat, entries := r.entries.drop (ahead v.toNat (a.host.res.get ring).cons) }) })))))) ∧
        ((a.host.res.get ring).held < ahead v.toNat (a.host.res.get ring).cons →
          exec (.dbResHead ring v) s = .next (State.settle (State.doorbellError
            { a with host := { a.host with err := (a.host.err &&& 0x0FF) ||| BitVec.ofNat 10 (256 * ring.val) } } 0x008)))) ∧
    (∀ bits, (s.doorbellError bits).host.st = 2 ∧ bits ||| (s.doorbellError bits).host.err = (s.doorbellError bits).host.err) ∧
    (let a := s.startAll;
      a.host.st = 1 → a.host.cmdTail ≠ a.host.cmdHead → a.host.outstanding.length < 1024 →
      (∀ buf, exec (.descriptorFetch none buf) s = .next (a.hostErr 0x010).hostError.settle) ∧
      ∀ d buf, exec (.descriptorFetch (some d) buf) s = .next (a.fetch d buf).settle) ∧
    exec .completion s = .next (State.startAll (State.flushCpl 1 s)).settle ∧
    (∀ (tag : Nat) (o : Outstanding) (t : Nat), s.host.outstanding.find? (fun x => x.tag == tag) = some o →
      o.sentAt = some t → t + 1000000 * s.fld Fld.hostCtrlCmdTimeoutMs ≤ s.now →
      (∀ c ∈ s.host.heldCpl, c.tag ≠ tag) → s.rspComing tag = false →
      exec (.cmdTimeout tag) s = .next (State.settle (State.raise (State.modHost
        (s.completeTag tag o.position (Result.of .timeout) 0x10 ⟨0, 0, 0, 0⟩)
        (fun h => { h with closed := (tag, s.now) :: h.closed })) .cmdTimeout none none (word tag) (word o.position) 0))) ∧
    (0 < s.fld Fld.hostCoalesceTimeUs →
      (s.host.cpl.unsignalled ≠ 0 → s.host.cpl.firstAt + 1000 * s.fld Fld.hostCoalesceTimeUs ≤ s.now →
        exec (.coalesceTimeout 4) s = .next (State.settle (State.msix
          { s with host := { s.host with cpl := { s.host.cpl with unsignalled := 0 } } } (s.fld Fld.hostMsixMapCplVec)))) ∧
      ∀ n : Fin 4, (s.host.res.get n).unsignalled ≠ 0 →
        (s.host.res.get n).firstAt + 1000 * s.fld Fld.hostCoalesceTimeUs ≤ s.now →
        exec (.coalesceTimeout (n.castLE (by decide))) s = .next (State.settle (State.msix
          (s.modHost (fun h => { h with res := h.res.modify n (fun r => { r with unsignalled := 0 }) })) (s.resVector n))))

/-! ### Commands (chapters 03, 05, 06, 07, 09, 10, 11, 13, 14, 15) -/

/-- What a command of the opcode table meets before it is judged. One whose opcode the module state refuses is answered with the
status of the refusal; it counts for the power manager, an accord command leaves the status for ACC to show, and nothing else
changes. A CMD frame beyond 128 in flight is answered BUSY. In READY, RUN, HALT and ORPHAN the module state refuses no opcode; in
STARTUP_TEST it answers BUSY but to five, in DRYDOWN REJECTED but to five, in SHUTDOWN_LATCHED TEMP_INHIBIT but to six, in BOOT
BUSY but to reads and writes of registers, and in recovery to FW_UPDATE in place of the block read. -/
def Obligations.CommandsRefused : Prop :=
  (∀ (c : Instr) (s : State) (o : Origin) (op : Nat) (mild : Bool) (st : Status), commandOf c = some (o, op, mild) →
    s.reaches o op = true → (s.taken o).refusal op mild = some st →
    exec c s = .next (State.settle (State.reply (if 0x30 ≤ op ∧ op ≤ 0x33
      then (s.taken o).modAcc (fun a => { a with lastStatus := st }) else s.taken o) o op (Result.of st)))) ∧
  (∀ (c : Instr) (s : State) (tag : Nat) (h : Bool) (p : Port) (op : Nat) (mild : Bool),
    commandOf c = some (.loop tag h p, op, mild) → s.powered = true → 128 ≤ s.loop.inFlight →
    exec c s = .next (s.reply (.loop tag h p) op (Result.of .busy)).settle) ∧
  (∀ (s : State) (o : Origin) (op : Nat) (mild : Bool), o ≠ .bar0 → (∀ tag h p, o = .loop tag h p → s.loop.inFlight < 128) →
    (s.glb.st = .ready ∨ s.glb.st = .run ∨ s.glb.st = .halt ∨ s.glb.st = .orphan → s.accepts o op mild = true) ∧
    (s.glb.st = .boot → s.accepts o op mild = decide (op = 0x01 ∨ op = 0x02 ∨ (op = 0x03 ∧ s.glb.recovery = false) ∨
      (op = 0xA0 ∧ s.glb.recovery = true))) ∧
    (s.glb.st = .startupTest → s.accepts o op mild = decide (op ∈ [0x01, 0x02, 0x03, 0x10, 0x52])) ∧
    (s.glb.st = .drydown →
      s.accepts o op mild = decide (op ∈ [0x02, 0x52, 0x80, 0x81] ∨ (op = 0x01 ∧ mild = true))) ∧
    (s.glb.st = .shutdownLatched →
      s.accepts o op mild = decide (op ∈ [0x01, 0x02, 0x03, 0x11, 0x60] ∨ (op = 0x41 ∧ mild = true)))) ∧
  ∀ (s : State) (op : Nat) (mild : Bool) (st : Status), s.refusal op mild = some st →
    ((s.glb.st = .boot ∨ s.glb.st = .startupTest) → st = .busy) ∧ (s.glb.st = .drydown → st = .rejected) ∧
    (s.glb.st = .shutdownLatched → st = .tempInhibit)

/-- The commands that move the module, its streams and its loop, where the module state accepts their opcode. RUN in READY with an
active flacon and a time 100 µs or more ahead enters RUN with that T_s, STOP ends a run, leaves HALT, or leaves ORPHAN once its
ramp and parking are over, and HALT halts, each where no event of the same tick goes before it; with such an event RUN, STOP and
HALT are answered with the status of the state that it leads to. SWEEP is set for its time; STREAM_START and STREAM_STOP take and
drop the selection; POWER_BUDGET stores the budget; WAKE begins the exit from DRYDOWN and completes later, and is REJECTED where
there is nothing to wake from; CENSUS sends a PROBE out of port B and completes later, or NO_ROUTE where a break is known;
LOOP_PING answers with time, state and loop status. -/
def Obligations.ModuleCommands : Prop :=
  ∀ (s : State) (o : Origin), let a := s.taken o
    (∀ t, s.accepts o 0x50 false = true → a.overtaken = none → a.glb.st = .ready → a.hasActive = true → a.play.st = .armed →
      (∀ k, (a.cells.get k).st ≠ .isOpen) → a.now + 100000 ≤ startTime t → startTime t ≤ a.now + 2 ^ 40 →
      a.externalSource = false ∨ a.spc.link = 2 →
      ∃ u : State, exec (.run o t) s = .next (u.reply o 0x50 (Result.of .ok)).settle ∧
        u.glb = { a.glb with st := .run, prev := .ready, enteredAt := a.now } ∧ u.play.st = .wait ∧ u.play.ts = startTime t ∧ u.play.cycles = 0) ∧
    (∀ st, a.overtaken = some st →
      (∀ t, s.accepts o 0x50 false = true → exec (.run o t) s = .next (a.reply o 0x50 (Result.of st)).settle) ∧
      (s.accepts o 0x51 false = true → exec (.stop o) s = .next (a.reply o 0x51 (Result.of st)).settle)) ∧
    (s.accepts o 0x51 false = true → a.overtaken = none → a.glb.st = .halt → a.haltUncleared = false → a.pins.estopN = true →
      exec (.stop o) s = .next (a.leaveHalt.reply o 0x51 (Result.of .ok)).settle) ∧
    (s.accepts o 0x51 false = true → a.overtaken = none → a.glb.st = .orphan → a.loop.silent = false → a.orphanBusy = false →
      exec (.stop o) s = .next (State.settle (State.reply
        (a.abortSlice.toReady.modSpc (fun x => { x with orphanRamp := false })) o 0x51 (Result.of .ok)))) ∧
    (s.accepts o 0x51 false = true → a.overtaken = none → a.glb.st = .run →
      (a.play.st = .wait → exec (.stop o) s = .next (a.finishRun.reply o 0x51 (Result.of .ok)).settle) ∧
      (a.play.st = .hold ∨ a.play.st = .play ∨ a.play.st = .exit → exec (.stop o) s =
        .next (State.settle (State.conclude o 0x51 ((a.setStop (some o)).beginStopping 3 false, none))))) ∧
    (s.accepts o 0x52 false = true →
      (a.shutdownComing = false → a.resetComing = false →
        exec (.halt o) s = .next (a.abortSlice.haltNow.reply o 0x52 (Result.of .ok)).settle) ∧
      (a.shutdownComing = true → exec (.halt o) s = .next (a.reply o 0x52 (Result.of .tempInhibit)).settle) ∧
      (a.shutdownComing = false → a.resetComing = true →
        exec (.halt o) s = .next (a.reply o 0x52 (Result.of .busy)).settle)) ∧
    (∀ id plan t cells, s.accepts o 0x40 false = true → id ≠ 0 → a.results.sweepAt = none → a.results.sweepOn = false →
      a.inRun = true → a.sweepRuns = true → plan < a.sweepCount → setCells cells ≠ [] → (setCells cells).length ≤ 32 →
      (∀ k ∈ setCells cells, ¬(k.val + 1 < 256 ∧ inSet cells (cell (k.val + 1)) = true) ∧ a.played k = true) → a.now ≤ t →
      ∃ u : State, exec (.sweep o id plan t cells) s = .next (u.reply o 0x40 (Result.of .ok)).settle ∧
        u.results = { a.results with sweepAt := some t, sweepPlan := plan, sweepId := id, sweepCells := cells } ∧
        Touch [.results, .links] a u) ∧
    (∀ segs kinds cells, s.accepts o 0x42 false = true → kinds.getLsbD 7 = false →
      (∀ g : Seg, segs.getLsbD g.val = true → a.streamRate g kinds cells ≤ 625000) →
      ∃ u : State, exec (.streamStart o segs kinds cells) s = .next (u.reply o 0x42 (Result.of .ok)).settle ∧
        u.shunts.strOn = true ∧ u.shunts.strSegs = segs ∧ u.shunts.strKinds = kinds ∧ u.shunts.strCells = cells ∧
        u.shunts.strLive = 0 ∧ Touch [.links, .shunts] a u) ∧
    (s.accepts o 0x43 false = true →
      ∃ u : State, exec (.streamStop o) s = .next (u.reply o 0x43 (Result.of .ok)).settle ∧ u.shunts.strOn = false ∧
        u.shunts.strSegs = 0 ∧ u.shunts.strLive = 0 ∧ Touch [.links, .shunts] a u) ∧
    (∀ us, s.accepts o 0x80 false = true → exec (.powerBudget o us) s = .next (State.settle (State.reply
      (a.setFld Fld.pwrLatencyBudgetBudgetUs us.toNat).budgetWritten o 0x80 (Result.of .ok)))) ∧
    (s.accepts o 0x81 false = true → a.glb.st = .drydown → exec (.wake o) s = .next (State.settle (State.conclude o 0x81
      (a.startExit.modPwr (fun p => { p with wakeCommand := true, wakeOrigins := p.wakeOrigins ++ [o] }), none)))) ∧
    (s.accepts o 0x81 false = true → a.glb.st ≠ .drydown → a.pwr.exitFrom = none →
      exec (.wake o) s = .next (a.reply o 0x81 (Result.of .rejected)).settle) ∧
    (s.accepts o 0x10 false = true → a.glb.st = .ready ∨ a.inRun = true ∨ a.glb.st = .startupTest → a.isHead = true →
      a.headNo = false → a.loop.census = none → a.loop.b.st = 2 →
      ∃ (u : State) (gen : Nat), gen ≠ a.loop.gen % 256 ∧ gen < 256 ∧ u.loop.census =
          (if a.loop.brkUp = 0 then some (o, gen, a.now) else none) ∧ u.loop.censusSeen = [] ∧
        exec (.census o) s = .next (State.settle (State.conclude o 0x10
          (u, if a.loop.brkUp = 0 then none else some (Result.of .noRoute))))) ∧
    (s.accepts o 0x11 false = true → exec (.loopPing o) s = .next (State.settle (State.reply a o 0x11
      ⟨.ok, 0, leBytes 8 a.now ++ leBytes 4 (a.glbWord 0x10) ++ leBytes 4 (a.loopWord 0x1804)⟩)))

/-- Accord commands in READY and RUN: BEGIN opens an accord with a new ID; PREPARE of the accord that is open prepares it for T
where its checks pass, and they pass where the count is that of its staged writes, T is 1 ms or more and 2^40 ns or less ahead,
time is LOCKED, no swap is staged and each segment concerned holds its writes; COMMIT with that T, 50 µs or more before it, is
noted and told to the segments concerned, and one too late splits the accord; ABORT rolls back, and clears a split of its own ID.
COMMIT and ABORT that name another accord are REJECTED and change no accord but the status that ACC shows. At T an accord whose
COMMIT was seen is applied, where neither a shutdown nor a reset falls on the same tick, and one without it splits as its grace
time ends. -/
def Obligations.AccordCommands : Prop :=
  (∀ (s : State) (o : Origin), let a := s.taken o
    a.glb.st = .ready ∨ a.glb.st = .run →
    (∀ id, s.accepts o 0x30 false = true → id ≠ 0 → id.toNat ≠ a.acc.id →
      a.acc.st = .idle ∨ a.acc.st = .committed ∨ a.acc.st = .rolledBack →
      exec (.accordBegin o id) s = .next (State.settle (State.reply { a with
        acc := ⟨.isOpen, id.toNat, 0, 0, false, false, .ok, 0, a.acc.grace, [], a.acc.applied⟩ } o 0x30 (Result.of .ok)))) ∧
    (∀ id count t, s.accepts o 0x31 false = true → a.sameAccord id = true → a.acc.st = .isOpen →
      a.judgePrepare count t = .ok →
      exec (.accordPrepare o id count t) s = .next (State.settle (State.reply { a with acc := { a.acc with
        st := .prepared, t := t, grace := 1000 * a.fld Fld.accGraceGraceUs, lastStatus := .ok } } o 0x31 (Result.of .ok)))) ∧
    (∀ count t, count = a.acc.count → a.now + 1000000 ≤ t → t ≤ a.now + 2 ^ 40 → a.tu.st = 2 → a.play.swapStaged = false →
      (∀ g ∈ a.stagedSegs, a.holdsStaged g = true) → a.judgePrepare count t = .ok) ∧
    (∀ id t, s.accepts o 0x32 false = true → a.sameAccord id = true → a.acc.st = .prepared → t = a.acc.t →
      a.acc.commitSeen = false →
      (a.now + 50000 ≤ t → ∃ u : State, exec (.accordCommit o id t) s = .next (u.reply o 0x32 (Result.of .ok)).settle ∧
        u.acc = { a.acc with commitSeen := true, lastStatus := .ok } ∧ Touch [.links, .acc] a u) ∧
      (t < a.now + 50000 → ∃ u : State,
        exec (.accordCommit o id t) s = .next (u.reply o 0x32 (Result.of .accordSplit)).settle ∧
        u.acc = { a.acc with st := .split, staged := [], lastStatus := .accordSplit })) ∧
    (∀ id, s.accepts o 0x33 false = true → a.sameAccord id = true →
      (a.acc.st = .isOpen ∨ a.acc.st = .prepared → ∃ u : State,
        exec (.accordAbort o id) s = .next (u.reply o 0x33 (Result.of .ok)).settle ∧
        u.acc = { a.acc with st := .rolledBack, staged := [], lastStatus := .ok }) ∧
      (a.acc.st = .split → exec (.accordAbort o id) s = .next (State.settle (State.reply
        { a with acc := { a.acc with st := .idle, id := 0, t := 0, lastStatus := .ok } } o 0x33 (Result.of .ok))))) ∧
    (∀ id t, a.sameAccord id = false → a.acc.st ≠ .split →
      (s.accepts o 0x32 false = true → exec (.accordCommit o id t) s = .next (State.settle (State.reply
        { a with acc := { a.acc with lastStatus := .rejected } } o 0x32 (Result.of .rejected)))) ∧
      (s.accepts o 0x33 false = true → exec (.accordAbort o id) s = .next (State.settle (State.reply
        { a with acc := { a.acc with lastStatus := .rejected } } o 0x33 (Result.of .rejected)))))) ∧
  (∀ s : State, s.powered = true → s.acc.st = .prepared → s.acc.commitSeen = true → s.acc.t ≤ s.now →
    s.shutdownComing = false → s.resetComing = false →
    ∃ u : State, exec .accordApply s = .next u.settle ∧ u.acc.st = .committed ∧ u.acc.staged = [] ∧
      u.acc.isPartial = decide (u.acc.failed ≠ 0) ∧ u.play.swapStaged = false ∧ u.acc.id = s.acc.id) ∧
  (∀ s : State, s.powered = true → s.acc.st = .prepared → s.acc.commitSeen = false → s.acc.t + s.acc.grace ≤ s.now →
    ∃ u : State, exec .graceExpiry s = .next u.settle ∧ u.acc = { s.acc with st := .split, staged := [] } ∧
      u.play.swapStaged = false ∧ ∃ r ∈ u.flt.due, r.1.src = .accordSplit ∧ r.1.arg0 = word s.acc.id)

/-- Commands of storage, results, tests and registers, where the module state accepts their opcode. FLACON_LOAD: a first piece
empties the staged bank and lies in it, a further one in order is added, the last is judged, and a load from a slot takes the
slot's bytes; FLACON_VERIFY of a complete flacon answers the check that fails, and where none does waits for the segments it is
shared to; FLACON_ERASE of the staged bank empties it, and of a slot marks it and erases it later. RESULT_FETCH of the record's
own GEN answers it and counts the delivery, and its marks mode takes the figures; NVM_LOG_READ answers the entry; BIST_RUN and
CHECK_SCAN start and complete later. FW_UPDATE goes phase by phase over the idle slot, VERIFY ending the update where the checks
and the version admit the image and answering CHECK_FAIL or REJECTED else. REG_READ over the loop or a descriptor, with no BAR0
write to its register at the same tick, and REG_READ_BLOCK answer the registers. -/
def Obligations.StorageCommands : Prop :=
  ∀ (s : State) (o : Origin), let a := s.taken o
    (∀ total data, s.accepts o 0x20 false = true → a.glb.st = .ready → a.flaconBusy = false → data.length % 4 = 0 →
      data.length < total → total ≤ 1048576 →
      exec (.flaconLoad o none 0 total data) s = .next (State.settle (State.reply { a with play := { a.play with
        staged := { Bank.reset with source := 0xFE, bytes := data, total := total }, loading := some (total, data.length) } }
        o 0x20 (Result.val .ok data.length)))) ∧
    (∀ offset total data, s.accepts o 0x20 false = true → a.glb.st = .ready → a.flaconBusy = false → data.length % 4 = 0 →
      offset ≠ 0 → a.play.loading = some (total, offset) → offset + data.length ≤ total → total ≤ 1048576 →
      let b : State := { a with play := { a.play with
        staged := { a.play.staged with bytes := a.play.staged.bytes ++ data, total := total }
        loading := some (total, offset + data.length) } }
      let v := b.judgeLoad total b.play.staged.bytes
      (offset + data.length < total → exec (.flaconLoad o none offset total data) s =
        .next (b.reply o 0x20 (Result.val .ok (offset + data.length))).settle) ∧
      (offset + data.length = total → exec (.flaconLoad o none offset total data) s = .next (State.settle (State.reply
        (State.noteVerdict { b with play := { b.play with
          loading := none, staged := { b.play.staged with complete := true } } } v) o 0x20 (Result.val v.status total))))) ∧
    (∀ (i : Fin 8) offset total data, s.accepts o 0x20 false = true → a.glb.st = .ready → a.flaconBusy = false →
      let n := if a.nvm.slotValid.getLsbD i.val then (find? a.nvm.slotTotal i.val).getD 0 else 0
      ∃ (u : State) (st : Status), exec (.flaconLoad o (some i) offset total data) s =
          .next (u.reply o 0x20 (Result.val st n)).settle ∧ u.play.staged.verify = st ∧
        u.play.staged.bytes = a.flashRead (regionStart (slotRegion i.val)) n ∧ u.play.staged.source = i.val ∧
        u.play.staged.total = n ∧ u.play.staged.complete = true ∧ u.play.staged.verified = false) ∧
    (∀ store, s.accepts o 0x21 false = true → a.glb.st = .ready → a.flaconBusy = false → a.play.staged.complete = true →
      let v := a.judgeVerify a.play.staged.total a.play.staged.bytes
      v.rule ≠ 0 → exec (.flaconVerify o store) s =
        .next (State.settle (State.reply (a.unverify.noteVerdict v) o 0x21 (Result.of v.status)))) ∧
    (∀ store, s.accepts o 0x21 false = true → a.glb.st = .ready → a.flaconBusy = false → a.play.staged.complete = true →
      let v := a.judgeVerify a.play.staged.total a.play.staged.bytes
      v.rule = 0 → (∃ g, a.linkUp g = true) → ∃ u : State,
        exec (.flaconVerify o store) s = .next (State.settle (State.conclude o 0x21 (u, none))) ∧ Touch [.links, .play] a u ∧
        u.play.verify = some ⟨o, store.map Fin.val, v.status, (allSegs.filter (fun g => !a.linkUp g)).map (fun g =>
          (g.val, Status.timeout))⟩ ∧ u.play.staged.verified = false) ∧
    (∀ target, s.accepts o 0x22 false = true → a.glb.st = .ready → a.flaconBusy = false → target.toNat < 8 →
      a.writeRefusal = none → ∃ u : State,
        exec (.flaconErase o target) s = .next (State.settle (State.conclude o 0x22 (u, none))) ∧ Touch [.nvm] a u ∧
        u.nvm.slotValid = setBit8 a.nvm.slotValid target.toNat false ∧
        u.nvm.slotWriting = setBit8 a.nvm.slotWriting target.toNat true) ∧
    (s.accepts o 0x22 false = true → a.glb.st = .ready → a.flaconBusy = false →
      exec (.flaconErase o 0xFE) s = .next (State.settle (State.reply (a.emptyStaged 0xFF) o 0x22 (Result.of .ok)))) ∧
    (∀ slot gen x, s.accepts o 0x41 true = true → slot < 16384 → find? a.results.slots slot = some x →
      gen = x.record.gen ∨ gen = 0 → exec (.resultFetch o slot gen) s = .next (State.settle (State.reply
        (a.modSlot slot (fun x => { x with reads := Nat.min 255 (x.reads + 1) })) o 0x41
        ⟨.ok, x.record.gen, recordBytes x.record x.reads false⟩))) ∧
    (∀ items tag x, s.accepts o 0x41 false = true → o = .ring tag → a.isHead = true →
      a.host.outstanding.find? (fun x => x.tag == tag) = some x → x.position = 0 →
      ∃ u : State, exec (.marks o items) s = .next (u.reply o 0x41 (Result.of .ok)).settle ∧ Touch [.loop] a u ∧
        ∀ i, items = [i] → u.loop.marks = assign a.loop.marks i.1 i.2) ∧
    (∀ source index, s.accepts o 0x90 false = true →
      exec (.nvmLogRead o source index) s = .next (State.settle (State.reply a o 0x90 (a.logRead source index)))) ∧
    (∀ n : Option Slice, s.accepts o 0x70 false = true →
      a.glb.st = .ready ∨ a.glb.st = .run ∨ a.glb.st = .halt ∨ a.glb.st = .orphan → a.bist.cmdOrigin = none →
      exec (.bistRun o n) s = .next (State.settle (State.conclude o 0x70 (State.nextSlice { a with bist := { a.bist with
        cmdOrigin := some o, cmdAll := n.isNone, cmdPassed := 0, cmdFailed := 0, cmdAborted := 0, cmdFirst := none,
        queue := (match n with
          | some n => [n]
          | none => a.enabledSlices), mode := .command, reruns := 0, waitFrom := a.now } }, none)))) ∧
    (∀ c, s.accepts o 0x71 false = true → a.chkLocked c = false → a.judgeScan c = .ok →
      ∃ u : State, exec (.checkScan o c) s = .next (State.settle (State.conclude o 0x71 (u, none))) ∧ Touch [.chk] a u ∧
        (u.chk.get c).origin = some o ∧ (u.chk.get c).status = .ok ∧
        (u.chk.get c).st = (if a.chkUnderTest c then .waiting else .running)) ∧
    (s.accepts o 0xA0 false = true → a.glb.st = .ready → a.flashCommand = false → a.writeRefusal = none →
      (∀ total version, total ≤ 0x200000 → ∃ u : State,
        exec (.begin o total version) s = .next (State.settle (State.conclude o 0xA0 (u, none))) ∧
        u.nvm.fw = some ⟨a.idleSlot, total, version, 0⟩ ∧ u.fwState a.idleSlot = 2) ∧
      (∀ (f : FwUpdate) offset data, a.nvm.fw = some f → offset = f.received → data.length % 4 = 0 → data ≠ [] →
        offset + data.length ≤ f.total → exec (.chunk o offset data) s = .next (State.settle (State.conclude o 0xA0
          (a.pushJob ⟨1 + f.slot, programOps (regionStart (1 + f.slot) + offset) data, .fwChunk (offset + data.length) o⟩,
            none)))) ∧
      (∀ f : FwUpdate, a.nvm.fw = some f → f.total ≤ f.received →
        let st := a.checkSlot f.slot f.total
        let good := st ≠ .checkFail ∧ (a.nvm.version ≤ a.slotVersion f.slot ∨ a.flag Fld.nvmCtrlAllowDowngrade = true)
        ∃ u : State,
          (good → exec (.verify o) s = .next (State.settle (State.conclude o 0xA0 (u, none))) ∧ u.nvm.fw = none ∧
            u.fwState f.slot = 3) ∧
          (¬good → exec (.verify o) s = .next (u.reply o 0xA0
            (Result.val (if st = .checkFail then st else .rejected) (a.slotVersion f.slot))).settle ∧ u.nvm.fw = some f)) ∧
      (a.fwState a.idleSlot = 3 → exec (.activate o) s = .next (State.settle (State.conclude o 0xA0
        (a.pushJob ⟨0, a.slotRecOps a.idleSlot true (a.slotVersion a.idleSlot), .fwActivate a.idleSlot o⟩, none)))) ∧
      (a.nvm.fw = none → exec (.abort o) s = .next (State.settle (State.reply a o 0xA0 (Result.of .ok)))) ∧
      (∀ key, a.flag Fld.playFlaconPolicyLock = false → exec (.flaconKey o key) s =
        .next (State.settle (State.conclude o 0xA0 (a.writeConfig key a.corrections o, none))))) ∧
    (∀ off, o ≠ .bar0 → s.accepts o 0x01 (decide (off < 0x1000)) = true → off % 4 = 0 → off < 0x10000 →
      a.barWrites off = [] → exec (.regRead o off) s = .next (State.settle (State.reply (a.readAt off false).2 o 0x01
        (Result.val .ok (a.readAt off false).1.toNat)))) ∧
    (∀ off count, s.accepts o 0x03 false = true → off % 4 = 0 → 1 ≤ count → count ≤ 60 → off + 4 * count ≤ 0x10000 →
      exec (.regReadBlock o off count) s = .next (State.settle (State.reply (a.readMany off count).2 o 0x03
        ⟨.ok, 0, ((a.readMany off count).1.map (fun (w : Word) => leBytes 4 w.toNat)).flatten⟩))) ∧
    (∀ off, off ≠ 0x2000 → off ≠ 0x2004 → a.readAt off false = (a.regWord off, a))

/-! ### Register writes (chapter 16 and the registers of each chapter) -/

/-- Every row of the table that is a write of a named register, or REG_WRITE itself, does what that write does: the register
stores its RW and RWS bits under MASK, its bits act, and the write is answered; a write that fails a check is answered with the
check's status; a direct write to a register that a segment holds leaves as a CONFIG message and is answered by the segment's
acknowledgement; a staged write to the hub is counted and kept for T, and one to a segment's register leaves for the segment as
well; one that meets a BAR0 access of its register is noted for that access and judged as any other. A BAR0 write that is not aligned or
lies beyond the registers is an Unsupported Request. A write of the time is that
of its high word, then of its low one. A bit outside MASK keeps its value. -/
def Obligations.RegisterWriteRows : Prop :=
  (∀ (c : Instr) (s : State) (off : Nat) (isRow : Wr → Bool) (w : Wr) (d : RegDef), writeRowOf c = some (off, isRow, w) →
    isRow (Wr.direct w) = true → regAt off = some d → badOffset off = false →
    (s.admits off w = true → hubOwn off = true → exec c s = .next (s.wrote off w).settle) ∧
    (s.accepts w.origin 0x02 false = true → (s.taken w.origin).judgeWrite off (Wr.direct w) ≠ .ok →
      exec c s = .next (State.settle (State.reply (s.taken w.origin) w.origin 0x02
        (Result.of ((s.taken w.origin).judgeWrite off (Wr.direct w)))))) ∧
    (s.admits off w = true → hubOwn off = false → exec c s = .next (State.settle (State.conclude w.origin 0x02
      ((s.atWrite off w).sendDown (windowSeg off) (.config off (Wr.direct w).value
        ((Wr.direct w).mask &&& (d.rw ||| d.rws ||| d.w1c ||| d.wo)) false w.origin), none)))) ∧
    (s.accepts w.origin 0x02 false = true → (s.taken w.origin).judgeWrite off (Wr.direct w) = .ok →
      (s.taken w.origin).hostAbsent off = false → (Wr.direct w).accord ≠ 0 → off < 0x8000 →
      off ≠ 0x2800 →
      exec c s = .next (State.settle (State.reply (State.modAcc (s.atWrite off w) (fun a => { a with
        count := a.count + 1, staged := a.staged ++ [⟨off, (Wr.direct w).value, (Wr.direct w).mask &&& d.rws⟩] }))
        w.origin 0x02 (Result.of .ok)))) ∧
    (s.accepts w.origin 0x02 false = true → (s.taken w.origin).judgeWrite off (Wr.direct w) = .ok →
      (s.taken w.origin).hostAbsent off = false → (Wr.direct w).accord ≠ 0 → 0x8000 ≤ off →
      exec c s = .next (State.settle (State.conclude w.origin 0x02 ((State.modAcc (s.atWrite off w) (fun a => { a with
        count := a.count + 1, staged := a.staged ++ [⟨off, (Wr.direct w).value, (Wr.direct w).mask &&& d.rws⟩] })).sendDown
        (windowSeg off) (.config off (Wr.direct w).value ((Wr.direct w).mask &&& d.rws) true w.origin), none)))) ∧
    (s.accepts w.origin 0x02 false = true → s.meetsBar off w = true → let a := s.taken w.origin
      exec c s = .next (State.settle (State.conclude w.origin 0x02 ((a.modHost (fun h => { h with
        met := h.met.filter (fun m => m.1 == a.now) ++ [(a.now, off, a.regWord off, w)] })).writeReg off w))))) ∧
  (∀ (s : State) (off : Nat) (w : Wr), w.origin = .bar0 → s.hostPowered = true → badOffset off = true →
    exec (.regWrite off w) s = .next (s.emit (.unsupportedRequest off)).settle) ∧
  (∀ (s : State) (hi lo : Wr), s.admits 0x2004 hi = true → (s.wrote 0x2004 hi).admits 0x2000 lo = true →
    exec (.timeNowWrite hi lo) s = .next ((s.wrote 0x2004 hi).wrote 0x2000 lo).settle) ∧
  (∀ (off : Nat) (d : RegDef) (old : Word) (w : Wr) (kinds : Word), (∀ x, stores off x = x) →
    ∀ i, w.mask.getLsbD i = false → (d.rw ||| d.rws).getLsbD i = true →
      (written off d old w kinds).getLsbD i = old.getLsbD i)

/-- What the written bits of a register bring about in the blocks of the hub. RESET_REQ asks for a reset of code 4; lock bits
only set; FIRST_REARM empties FIRST where nothing occurred at this tick, OVF_CLEAR and COUNT_CLEAR empty their counts; a phase
returns from FAILED; EN takes the SPC from DISABLED to STANDBY or INHIBITED; EXCLUDED 3 readmits both shunts; a new guard time
unverifies the staged bank; SNAP_NOW asks for snapshots; ANOMALY_CLEAR clears the wake cause and its count; the drydown period
is copied to the segments whose link is up; LINK_RETRAIN and SEG_RESET act on their segment; RETRAIN retrains port A whatever
its enable, and a changed enable restarts it; FOLLOW 0 leaves time FREE; LOG_COPY starts a repair of the config and collects the
logs; while EN is 0 RESET_RINGS empties the rings and EN 1 enables the port; START and ABORT of an unlocked context start and
abort its scan; an accepted SWAP is taken for 100 µs later; SLOW_ROUND starts a round; the flacon policy unverifies the staged
bank and is kept once its LOCK is set. -/
def Obligations.RegisterEffects : Prop :=
  ∀ (s : State) (old new v : Word),
    (v.getLsbD 0 = true → s.writeHub 0x1C old new v = s.requestReset 4) ∧
    s.writeHub 0x24 old new v = s.store 0x24 (old ||| new) ∧
    ((v.getLsbD 4 = true → (∀ x, s.flt.tickBest = some x → x.1 ≠ s.now) → (s.writeHub 0x5800 old new v).flt.first = none) ∧
      (v.getLsbD 5 = true → (s.writeHub 0x5800 old new v).flt.logFull = 0 ∧ (s.writeHub 0x5800 old new v).flt.intakeFull = 0) ∧
      (v.getLsbD 6 = true → ∀ n, (s.writeHub 0x5800 old new v).counter n = 0) ∧
      (v.getLsbD 6 = false → (s.writeHub 0x5800 old new v).flt.counts = s.flt.counts)) ∧
    (∀ p : Phase, v.getLsbD p.val = true → ((s.writeHub 0x300C old new v).spc.phases.get p).failed = false) ∧
    (s.spc.st = .disabled → old.getLsbD 0 = false → new.getLsbD 0 = true →
      ((s.writeHub 0x3000 old new v).spc.st = .standby ∨ (s.writeHub 0x3000 old new v).spc.st = .inhibited)) ∧
    (fieldOf Fld.measShuntCfgExcluded v = 3 → (s.writeHub 0x400C old new v).shunts.exclB = false ∧
      (s.writeHub 0x400C old new v).shunts.exclT = false) ∧
    (new ≠ old → (s.writeHub 0x4014 old new v).play.staged.verified = false) ∧
    (v.getLsbD 0 = true → v.getLsbD 1 = false → v.getLsbD 2 = false →
      s.writeHub 0x4800 old new v = s.modRes (fun r => { r with snapPending := true })) ∧
    (v.getLsbD 2 = true → (s.writeHub 0x081C old new v).pwr.wakeAnomaly = false ∧ (s.writeHub 0x081C old new v).pwr.anCount = 0) ∧
    (∀ g : Seg, s.linkUp g = true → 
      ((s.writeHub 0x0810 old new v).segs.get g).periodS = (s.writeHub 0x0810 old new v).fld Fld.pwrDrydownPeriodPeriodS) ∧
    (∀ g : Seg, v.getLsbD 1 = true → v.getLsbD 0 = false →
      s.writeHub (windowOff g 0) old new v = (s.store (windowOff g 0) new).retrainLink g) ∧
    (∀ g : Seg, v.getLsbD 0 = true → v.getLsbD 1 = false →
      s.writeHub (windowOff g 0) old new v = (s.store (windowOff g 0) new).segResetAsked g) ∧
    (v.getLsbD 3 = false → old.getLsbD 1 = new.getLsbD 1 → let a := s.store 0x1800 new
      (v.getLsbD 2 = true → old.getLsbD 0 = new.getLsbD 0 → s.writeHub 0x1800 old new v = a.retrainPort .a) ∧
      (v.getLsbD 2 = false → old.getLsbD 0 ≠ new.getLsbD 0 → s.writeHub 0x1800 old new v = a.restartPort .a)) ∧
    (s.flag Fld.timeCtrlFollow = true → new.getLsbD 0 = false → (s.writeHub 0x2008 old new v).tu.st = 0 ∧
      (s.writeHub 0x2008 old new v).tu.src = 0) ∧
    (v.getLsbD 2 = true → s.writeHub 0x7000 old new v = (s.store 0x7000 new).startRepair.collectLogs) ∧
    (s.flag Fld.hostCtrlEn = false → v.getLsbD 1 = true → new.getLsbD 0 = false →
      (s.writeHub 0x1000 old new v).host.cmdTail = 0 ∧ (s.writeHub 0x1000 old new v).host.cmdHead = 0 ∧
      (s.writeHub 0x1000 old new v).host.heldCpl = []) ∧
    (s.flag Fld.hostCtrlEn = false → v.getLsbD 1 = false → new.getLsbD 0 = true →
      s.writeHub 0x1000 old new v = (s.store 0x1000 (new &&& ~~~1)).enableHost) ∧
    (∀ c : Fin 4, s.chkLocked c = false → v.getLsbD 0 = true → v.getLsbD 1 = false →
      s.writeHub (chkCtrlOff c) old new v = ((s.store (chkCtrlOff c) new).startScan c none).2) ∧
    (∀ c : Fin 4, s.chkLocked c = false → v.getLsbD 0 = false → v.getLsbD 1 = true →
      s.writeHub (chkCtrlOff c) old new v = (s.store (chkCtrlOff c) new).abortScan c) ∧
    (∀ a, s.directSwap = some a → v.getLsbD 0 = true → s.writeHub 0x2800 old new v = a.store 0x2800 (new &&& ~~~1)) ∧
    (v.getLsbD 2 = true → s.writeHub 0x5000 old new v = (s.store 0x5000 new).startSlow) ∧
    (s.flag Fld.playFlaconPolicyLock = true → s.writeHub 0x281C old new v = s) ∧
    (s.flag Fld.playFlaconPolicyLock = false → (s.writeHub 0x281C old new v).play.staged.verified = false)

/-- Limits that a register puts on what is written: the value stored is the one written where it lies in the register's range,
and the nearest end of the range where it does not. -/
def Obligations.StoredLimits : Prop :=
  (∀ w : Word, fieldOf Fld.bistPeriodPeriodUs (stores 0x6008 w) =
    (if fieldOf Fld.bistPeriodPeriodUs w < 100 then 100
     else if 1000000 < fieldOf Fld.bistPeriodPeriodUs w then 1000000 else fieldOf Fld.bistPeriodPeriodUs w)) ∧
  (∀ (s : State), s.regs = [] → s.fld Fld.bistPeriodPeriodUs = 1000 ∧ s.fld Fld.spcTonMaxTonMax = 0x1388 ∧
    s.fld Fld.measShuntXcheckLimit = 0x1F4 ∧ s.fld Fld.measShuntXcheckDwellMs = 5 ∧
    s.fld Fld.pwrDrydownPeriodPeriodS = 3600 ∧ s.fld Fld.loopTimeoutTimeoutMs = 200 ∧ s.fld Fld.loopOrphanCfgRamp = 5000) ∧
  (∀ w : Word, fieldOf Fld.spcTonMaxTonMax (stores 0x301C w) =
    (if fieldOf Fld.spcTonMaxTonMax w < 100 then 100 else fieldOf Fld.spcTonMaxTonMax w)) ∧
  (∀ w : Word, fieldOf Fld.measShuntXcheckDwellMs (stores 0x4010 w) =
    (if fieldOf Fld.measShuntXcheckDwellMs w = 0 then 1 else fieldOf Fld.measShuntXcheckDwellMs w) ∧
    fieldOf Fld.measShuntXcheckLimit (stores 0x4010 w) = fieldOf Fld.measShuntXcheckLimit w) ∧
  (∀ w : Word, fieldOf Fld.pwrDrydownPeriodPeriodS (stores 0x0810 w) =
    (if fieldOf Fld.pwrDrydownPeriodPeriodS w = 0 then 1
     else if 86400 < fieldOf Fld.pwrDrydownPeriodPeriodS w then 86400 else fieldOf Fld.pwrDrydownPeriodPeriodS w)) ∧
  (∀ w : Word, fieldOf Fld.loopTimeoutTimeoutMs (stores 0x180C w) =
    (if fieldOf Fld.loopTimeoutTimeoutMs w = 0 then 1
     else if 60000 < fieldOf Fld.loopTimeoutTimeoutMs w then 60000 else fieldOf Fld.loopTimeoutTimeoutMs w)) ∧
  (∀ w : Word, fieldOf Fld.loopOrphanCfgRamp (stores 0x1828 w) =
    (if fieldOf Fld.loopOrphanCfgRamp w = 0 then 1 else fieldOf Fld.loopOrphanCfgRamp w)) ∧
  (∀ d, (regAt 0x6008 = some d → d.rw = 0xFFFFF ∧ d.rws = 0) ∧ (regAt 0x301C = some d → d.rws = 0xFFFF ∧ d.rw = 0) ∧
    (regAt 0x4010 = some d → d.rws = 0xFFFFFF ∧ d.rw = 0) ∧ (regAt 0x0810 = some d → d.rw = 0x1FFFF ∧ d.rws = 0) ∧
    (regAt 0x180C = some d → d.rw = 0xFFFF ∧ d.rws = 0) ∧ (regAt 0x1828 = some d → d.rw = 0xFFFFF ∧ d.rws = 0)) ∧
  ∀ off, off ∈ [0x6008, 0x301C, 0x4010, 0x0810, 0x180C, 0x1828] → ∃ d, regAt off = some d

/-- The effective corner of a cell is its own where CORNER_OWN is 1 and the module's default where it is 0, whatever else the
cell's configuration holds; the guard time used for marking is the larger of GUARD and the active flacon's GUARD_NS. -/
def Obligations.CornerAndGuard : Prop :=
  (∀ (s : State) (k : Cell),
    (s.cellFlag k Fld.segCellCfgCornerOwn = true → s.cornerOf k = s.cellFld k Fld.segCellCfgCorner) ∧
    (s.cellFlag k Fld.segCellCfgCornerOwn = false → s.cornerOf k = s.fld Fld.measDefaultCornerCorner)) ∧
  ∀ s : State, (s.hasActive = true → s.guardNs = Nat.max (s.fld Fld.measGuardTimeGuard) (limGuard s.active)) ∧
    (s.hasActive = false → s.guardNs = s.fld Fld.measGuardTimeGuard)

/-! ### Self-test and flash (chapters 14, 15) -/

/-- The engine and the flash. A period after the last start, where the state has periodic slices and nothing else waits, the
engine makes its choice: the slice aborted last, or the next of the round; it starts where it can. A running slice ends at its
planned length or its longest time, and has passed only where its signature holds, the planned length was reached and the longest
time not overrun; where an event of the same tick preempts it, it is aborted instead. A scan of flash that its context's slice
does not hold up ends with its running value in place and answers its command. An operation of the flash that ends well is applied
and one that fails ends its job, where slice 56 does not hold them up; a byte programmed is in the flash, and an erased sector or
block reads 0xFF. -/
def Obligations.SelfTestAndFlash : Prop :=
  (∀ s : State, s.powered = true → s.bist.running = none → s.bist.queue = [] → s.bist.rerunQueue = [] →
    s.bist.relQueue = [] → s.bist.cmdOrigin = none → s.periodicState = true → s.flag Fld.bistCtrlPeriodicEn = true →
    s.bist.lastStart + 1000 * s.fld Fld.bistPeriodPeriodUs ≤ s.now → s.nextSlice = s →
    exec .periodicSlice s = .next s.periodicChoice.settle) ∧
  (∀ (s : State) (n : Slice), s.bist.abortedLast = some n → s.periodicChoice = s.startOrSkip n) ∧
  (∀ (s : State) (n : Slice), s.canStartSlice n.val = true → s.startOrSkip n = s.startSlice n .periodic) ∧
  (∀ (s : State) (n : Slice) (t : Nat) (steps : Nat) (ok : Bool), s.bist.running = some (n, t) →
    slicePlanned n.val ≤ steps ∨ t + 1000 * sliceMax n.val ≤ s.now →
    let a := s.freeBlock n
    (s.preempted = true → exec (.sliceEnd steps ok) s = .next s.abortSlice.settle) ∧
    (s.preempted = false → ok = true → slicePlanned n.val ≤ steps → s.now ≤ t + 1000 * sliceMax n.val →
      exec (.sliceEnd steps ok) s = .next (((a.passSlice n).afterSlice n s.bist.runKind true)).settle) ∧
    (s.preempted = false → ok = false → slicePlanned n.val ≤ steps → s.now ≤ t + 1000 * sliceMax n.val →
      exec (.sliceEnd steps ok) s = .next (((a.failSlice n false).afterSlice n s.bist.runKind false)).settle) ∧
    (s.preempted = false → steps < slicePlanned n.val ∨ t + 1000 * sliceMax n.val < s.now →
      exec (.sliceEnd steps ok) s = .next (((a.failSlice n true).afterSlice n s.bist.runKind false)).settle)) ∧
  (∀ (s : State) (n : Slice), ((s.passSlice n).bist.slices.get n).result = .passed) ∧
  (∀ (s : State) (c : Fin 4), (s.chk.get c).st = .running → s.chkUnderTest c = false →
    0x10000000 ≤ (s.chk.get c).start →
    let l := s.flashRead ((s.chk.get c).start - 0x10000000) (s.chk.get c).length
    let a := s.modChk c (fun x => { x.finish l with st := .done, status := .ok, origin := none })
    ((s.chk.get c).origin = none → exec (.scanDone c) s = .next a.settle) ∧
    ∀ o, (s.chk.get c).origin = some o →
      exec (.scanDone c) s = .next (a.replyLate o 0x71 (Result.val .ok (a.chkStatus c).toNat)).settle) ∧
  (∀ (s : State) (j : Job) (rest : List Job) (op : FlashOp) (ops : List FlashOp), s.nvmTested = false → s.nvm.jobs = j :: rest →
    j.ops = op :: ops →
    let a := State.endJobs 16 { s with nvm := { s.nvm with flash := op.apply s.nvm.flash, jobs := { j with ops := ops } :: rest } }
    (op.isErase = false → exec (.pageProgrammed true) s = .next a.settle ∧
      exec (.pageProgrammed false) s = .next (s.failOp j op rest).settle) ∧
    (op.isErase = true → j.region ≠ 13 → exec (.eraseDone true) s = .next a.settle ∧
      exec (.eraseDone false) s = .next (s.failOp j op rest).settle)) ∧
  (∀ (m : List (Nat × Byte)) (a x : Nat), Sparse.wf erased m = true → a ≤ x →
    (x < a + 0x1000 → Sparse.get erased ((FlashOp.eraseSector a).apply m) x = 0xFF) ∧
    (x < a + 0x10000 → Sparse.get erased ((FlashOp.eraseBlock a).apply m) x = 0xFF)) ∧
  (∀ (m : List (Nat × Byte)) (a x : Nat) (b : Byte), Sparse.wf erased m = true →
    Sparse.get erased ((FlashOp.program a [b]).apply m) x = if x = a then b else Sparse.get erased m x)
end

