-- ==== Sys2Proof/Laws/State.lean ====
section
/-!
SUPPORT. One lemma per field of the state per named update, true by definition: no later proof unfolds a record update.
-/

namespace Sys2Proof.Machine

variable (s : State)

/-! ### modCell -/

@[simp] theorem State.modCell_now (k : Cell) (f : CellPath → CellPath) : (s.modCell k f).now = s.now := rfl
@[simp] theorem State.modCell_glb (k : Cell) (f : CellPath → CellPath) : (s.modCell k f).glb = s.glb := rfl
@[simp] theorem State.modCell_pins (k : Cell) (f : CellPath → CellPath) : (s.modCell k f).pins = s.pins := rfl
@[simp] theorem State.modCell_regs (k : Cell) (f : CellPath → CellPath) : (s.modCell k f).regs = s.regs := rfl
@[simp] theorem State.modCell_cells (k : Cell) (f : CellPath → CellPath) : (s.modCell k f).cells = s.cells.modify k f := rfl
@[simp] theorem State.modCell_meas (k : Cell) (f : CellPath → CellPath) : (s.modCell k f).meas = s.meas := rfl
@[simp] theorem State.modCell_temps (k : Cell) (f : CellPath → CellPath) : (s.modCell k f).temps = s.temps := rfl
@[simp] theorem State.modCell_ana (k : Cell) (f : CellPath → CellPath) : (s.modCell k f).ana = s.ana := rfl
@[simp] theorem State.modCell_segs (k : Cell) (f : CellPath → CellPath) : (s.modCell k f).segs = s.segs := rfl
@[simp] theorem State.modCell_links (k : Cell) (f : CellPath → CellPath) : (s.modCell k f).links = s.links := rfl
@[simp] theorem State.modCell_play (k : Cell) (f : CellPath → CellPath) : (s.modCell k f).play = s.play := rfl
@[simp] theorem State.modCell_spc (k : Cell) (f : CellPath → CellPath) : (s.modCell k f).spc = s.spc := rfl
@[simp] theorem State.modCell_shunts (k : Cell) (f : CellPath → CellPath) : (s.modCell k f).shunts = s.shunts := rfl
@[simp] theorem State.modCell_results (k : Cell) (f : CellPath → CellPath) : (s.modCell k f).results = s.results := rfl
@[simp] theorem State.modCell_therm (k : Cell) (f : CellPath → CellPath) : (s.modCell k f).therm = s.therm := rfl
@[simp] theorem State.modCell_pwr (k : Cell) (f : CellPath → CellPath) : (s.modCell k f).pwr = s.pwr := rfl
@[simp] theorem State.modCell_loop (k : Cell) (f : CellPath → CellPath) : (s.modCell k f).loop = s.loop := rfl
@[simp] theorem State.modCell_tu (k : Cell) (f : CellPath → CellPath) : (s.modCell k f).tu = s.tu := rfl
@[simp] theorem State.modCell_acc (k : Cell) (f : CellPath → CellPath) : (s.modCell k f).acc = s.acc := rfl
@[simp] theorem State.modCell_host (k : Cell) (f : CellPath → CellPath) : (s.modCell k f).host = s.host := rfl
@[simp] theorem State.modCell_flt (k : Cell) (f : CellPath → CellPath) : (s.modCell k f).flt = s.flt := rfl
@[simp] theorem State.modCell_bist (k : Cell) (f : CellPath → CellPath) : (s.modCell k f).bist = s.bist := rfl
@[simp] theorem State.modCell_chk (k : Cell) (f : CellPath → CellPath) : (s.modCell k f).chk = s.chk := rfl
@[simp] theorem State.modCell_nvm (k : Cell) (f : CellPath → CellPath) : (s.modCell k f).nvm = s.nvm := rfl
@[simp] theorem State.modCell_stopOrigin (k : Cell) (f : CellPath → CellPath) : (s.modCell k f).stopOrigin = s.stopOrigin := rfl
@[simp] theorem State.modCell_out (k : Cell) (f : CellPath → CellPath) : (s.modCell k f).out = s.out := rfl
@[simp] theorem State.modCell_free (k : Cell) (f : CellPath → CellPath) : (s.modCell k f).free = s.free := rfl
@[simp] theorem State.modCell_pending (k : Cell) (f : CellPath → CellPath) : (s.modCell k f).pending = s.pending := rfl

/-! ### modMeas -/

@[simp] theorem State.modMeas_now (k : Cell) (f : CellMeas → CellMeas) : (s.modMeas k f).now = s.now := rfl
@[simp] theorem State.modMeas_glb (k : Cell) (f : CellMeas → CellMeas) : (s.modMeas k f).glb = s.glb := rfl
@[simp] theorem State.modMeas_pins (k : Cell) (f : CellMeas → CellMeas) : (s.modMeas k f).pins = s.pins := rfl
@[simp] theorem State.modMeas_regs (k : Cell) (f : CellMeas → CellMeas) : (s.modMeas k f).regs = s.regs := rfl
@[simp] theorem State.modMeas_cells (k : Cell) (f : CellMeas → CellMeas) : (s.modMeas k f).cells = s.cells := rfl
@[simp] theorem State.modMeas_meas (k : Cell) (f : CellMeas → CellMeas) : (s.modMeas k f).meas = s.meas.modify k f := rfl
@[simp] theorem State.modMeas_temps (k : Cell) (f : CellMeas → CellMeas) : (s.modMeas k f).temps = s.temps := rfl
@[simp] theorem State.modMeas_ana (k : Cell) (f : CellMeas → CellMeas) : (s.modMeas k f).ana = s.ana := rfl
@[simp] theorem State.modMeas_segs (k : Cell) (f : CellMeas → CellMeas) : (s.modMeas k f).segs = s.segs := rfl
@[simp] theorem State.modMeas_links (k : Cell) (f : CellMeas → CellMeas) : (s.modMeas k f).links = s.links := rfl
@[simp] theorem State.modMeas_play (k : Cell) (f : CellMeas → CellMeas) : (s.modMeas k f).play = s.play := rfl
@[simp] theorem State.modMeas_spc (k : Cell) (f : CellMeas → CellMeas) : (s.modMeas k f).spc = s.spc := rfl
@[simp] theorem State.modMeas_shunts (k : Cell) (f : CellMeas → CellMeas) : (s.modMeas k f).shunts = s.shunts := rfl
@[simp] theorem State.modMeas_results (k : Cell) (f : CellMeas → CellMeas) : (s.modMeas k f).results = s.results := rfl
@[simp] theorem State.modMeas_therm (k : Cell) (f : CellMeas → CellMeas) : (s.modMeas k f).therm = s.therm := rfl
@[simp] theorem State.modMeas_pwr (k : Cell) (f : CellMeas → CellMeas) : (s.modMeas k f).pwr = s.pwr := rfl
@[simp] theorem State.modMeas_loop (k : Cell) (f : CellMeas → CellMeas) : (s.modMeas k f).loop = s.loop := rfl
@[simp] theorem State.modMeas_tu (k : Cell) (f : CellMeas → CellMeas) : (s.modMeas k f).tu = s.tu := rfl
@[simp] theorem State.modMeas_acc (k : Cell) (f : CellMeas → CellMeas) : (s.modMeas k f).acc = s.acc := rfl
@[simp] theorem State.modMeas_host (k : Cell) (f : CellMeas → CellMeas) : (s.modMeas k f).host = s.host := rfl
@[simp] theorem State.modMeas_flt (k : Cell) (f : CellMeas → CellMeas) : (s.modMeas k f).flt = s.flt := rfl
@[simp] theorem State.modMeas_bist (k : Cell) (f : CellMeas → CellMeas) : (s.modMeas k f).bist = s.bist := rfl
@[simp] theorem State.modMeas_chk (k : Cell) (f : CellMeas → CellMeas) : (s.modMeas k f).chk = s.chk := rfl
@[simp] theorem State.modMeas_nvm (k : Cell) (f : CellMeas → CellMeas) : (s.modMeas k f).nvm = s.nvm := rfl
@[simp] theorem State.modMeas_stopOrigin (k : Cell) (f : CellMeas → CellMeas) : (s.modMeas k f).stopOrigin = s.stopOrigin := rfl
@[simp] theorem State.modMeas_out (k : Cell) (f : CellMeas → CellMeas) : (s.modMeas k f).out = s.out := rfl
@[simp] theorem State.modMeas_free (k : Cell) (f : CellMeas → CellMeas) : (s.modMeas k f).free = s.free := rfl
@[simp] theorem State.modMeas_pending (k : Cell) (f : CellMeas → CellMeas) : (s.modMeas k f).pending = s.pending := rfl

/-! ### modTemp -/

@[simp] theorem State.modTemp_now (k : Cell) (f : CellTemp → CellTemp) : (s.modTemp k f).now = s.now := rfl
@[simp] theorem State.modTemp_glb (k : Cell) (f : CellTemp → CellTemp) : (s.modTemp k f).glb = s.glb := rfl
@[simp] theorem State.modTemp_pins (k : Cell) (f : CellTemp → CellTemp) : (s.modTemp k f).pins = s.pins := rfl
@[simp] theorem State.modTemp_regs (k : Cell) (f : CellTemp → CellTemp) : (s.modTemp k f).regs = s.regs := rfl
@[simp] theorem State.modTemp_cells (k : Cell) (f : CellTemp → CellTemp) : (s.modTemp k f).cells = s.cells := rfl
@[simp] theorem State.modTemp_meas (k : Cell) (f : CellTemp → CellTemp) : (s.modTemp k f).meas = s.meas := rfl
@[simp] theorem State.modTemp_temps (k : Cell) (f : CellTemp → CellTemp) : (s.modTemp k f).temps = s.temps.modify k f := rfl
@[simp] theorem State.modTemp_ana (k : Cell) (f : CellTemp → CellTemp) : (s.modTemp k f).ana = s.ana := rfl
@[simp] theorem State.modTemp_segs (k : Cell) (f : CellTemp → CellTemp) : (s.modTemp k f).segs = s.segs := rfl
@[simp] theorem State.modTemp_links (k : Cell) (f : CellTemp → CellTemp) : (s.modTemp k f).links = s.links := rfl
@[simp] theorem State.modTemp_play (k : Cell) (f : CellTemp → CellTemp) : (s.modTemp k f).play = s.play := rfl
@[simp] theorem State.modTemp_spc (k : Cell) (f : CellTemp → CellTemp) : (s.modTemp k f).spc = s.spc := rfl
@[simp] theorem State.modTemp_shunts (k : Cell) (f : CellTemp → CellTemp) : (s.modTemp k f).shunts = s.shunts := rfl
@[simp] theorem State.modTemp_results (k : Cell) (f : CellTemp → CellTemp) : (s.modTemp k f).results = s.results := rfl
@[simp] theorem State.modTemp_therm (k : Cell) (f : CellTemp → CellTemp) : (s.modTemp k f).therm = s.therm := rfl
@[simp] theorem State.modTemp_pwr (k : Cell) (f : CellTemp → CellTemp) : (s.modTemp k f).pwr = s.pwr := rfl
@[simp] theorem State.modTemp_loop (k : Cell) (f : CellTemp → CellTemp) : (s.modTemp k f).loop = s.loop := rfl
@[simp] theorem State.modTemp_tu (k : Cell) (f : CellTemp → CellTemp) : (s.modTemp k f).tu = s.tu := rfl
@[simp] theorem State.modTemp_acc (k : Cell) (f : CellTemp → CellTemp) : (s.modTemp k f).acc = s.acc := rfl
@[simp] theorem State.modTemp_host (k : Cell) (f : CellTemp → CellTemp) : (s.modTemp k f).host = s.host := rfl
@[simp] theorem State.modTemp_flt (k : Cell) (f : CellTemp → CellTemp) : (s.modTemp k f).flt = s.flt := rfl
@[simp] theorem State.modTemp_bist (k : Cell) (f : CellTemp → CellTemp) : (s.modTemp k f).bist = s.bist := rfl
@[simp] theorem State.modTemp_chk (k : Cell) (f : CellTemp → CellTemp) : (s.modTemp k f).chk = s.chk := rfl
@[simp] theorem State.modTemp_nvm (k : Cell) (f : CellTemp → CellTemp) : (s.modTemp k f).nvm = s.nvm := rfl
@[simp] theorem State.modTemp_stopOrigin (k : Cell) (f : CellTemp → CellTemp) : (s.modTemp k f).stopOrigin = s.stopOrigin := rfl
@[simp] theorem State.modTemp_out (k : Cell) (f : CellTemp → CellTemp) : (s.modTemp k f).out = s.out := rfl
@[simp] theorem State.modTemp_free (k : Cell) (f : CellTemp → CellTemp) : (s.modTemp k f).free = s.free := rfl
@[simp] theorem State.modTemp_pending (k : Cell) (f : CellTemp → CellTemp) : (s.modTemp k f).pending = s.pending := rfl

/-! ### modAna -/

@[simp] theorem State.modAna_now (k : Cell) (f : CellAna → CellAna) : (s.modAna k f).now = s.now := rfl
@[simp] theorem State.modAna_glb (k : Cell) (f : CellAna → CellAna) : (s.modAna k f).glb = s.glb := rfl
@[simp] theorem State.modAna_pins (k : Cell) (f : CellAna → CellAna) : (s.modAna k f).pins = s.pins := rfl
@[simp] theorem State.modAna_regs (k : Cell) (f : CellAna → CellAna) : (s.modAna k f).regs = s.regs := rfl
@[simp] theorem State.modAna_cells (k : Cell) (f : CellAna → CellAna) : (s.modAna k f).cells = s.cells := rfl
@[simp] theorem State.modAna_meas (k : Cell) (f : CellAna → CellAna) : (s.modAna k f).meas = s.meas := rfl
@[simp] theorem State.modAna_temps (k : Cell) (f : CellAna → CellAna) : (s.modAna k f).temps = s.temps := rfl
@[simp] theorem State.modAna_ana (k : Cell) (f : CellAna → CellAna) : (s.modAna k f).ana = s.ana.modify k f := rfl
@[simp] theorem State.modAna_segs (k : Cell) (f : CellAna → CellAna) : (s.modAna k f).segs = s.segs := rfl
@[simp] theorem State.modAna_links (k : Cell) (f : CellAna → CellAna) : (s.modAna k f).links = s.links := rfl
@[simp] theorem State.modAna_play (k : Cell) (f : CellAna → CellAna) : (s.modAna k f).play = s.play := rfl
@[simp] theorem State.modAna_spc (k : Cell) (f : CellAna → CellAna) : (s.modAna k f).spc = s.spc := rfl
@[simp] theorem State.modAna_shunts (k : Cell) (f : CellAna → CellAna) : (s.modAna k f).shunts = s.shunts := rfl
@[simp] theorem State.modAna_results (k : Cell) (f : CellAna → CellAna) : (s.modAna k f).results = s.results := rfl
@[simp] theorem State.modAna_therm (k : Cell) (f : CellAna → CellAna) : (s.modAna k f).therm = s.therm := rfl
@[simp] theorem State.modAna_pwr (k : Cell) (f : CellAna → CellAna) : (s.modAna k f).pwr = s.pwr := rfl
@[simp] theorem State.modAna_loop (k : Cell) (f : CellAna → CellAna) : (s.modAna k f).loop = s.loop := rfl
@[simp] theorem State.modAna_tu (k : Cell) (f : CellAna → CellAna) : (s.modAna k f).tu = s.tu := rfl
@[simp] theorem State.modAna_acc (k : Cell) (f : CellAna → CellAna) : (s.modAna k f).acc = s.acc := rfl
@[simp] theorem State.modAna_host (k : Cell) (f : CellAna → CellAna) : (s.modAna k f).host = s.host := rfl
@[simp] theorem State.modAna_flt (k : Cell) (f : CellAna → CellAna) : (s.modAna k f).flt = s.flt := rfl
@[simp] theorem State.modAna_bist (k : Cell) (f : CellAna → CellAna) : (s.modAna k f).bist = s.bist := rfl
@[simp] theorem State.modAna_chk (k : Cell) (f : CellAna → CellAna) : (s.modAna k f).chk = s.chk := rfl
@[simp] theorem State.modAna_nvm (k : Cell) (f : CellAna → CellAna) : (s.modAna k f).nvm = s.nvm := rfl
@[simp] theorem State.modAna_stopOrigin (k : Cell) (f : CellAna → CellAna) : (s.modAna k f).stopOrigin = s.stopOrigin := rfl
@[simp] theorem State.modAna_out (k : Cell) (f : CellAna → CellAna) : (s.modAna k f).out = s.out := rfl
@[simp] theorem State.modAna_free (k : Cell) (f : CellAna → CellAna) : (s.modAna k f).free = s.free := rfl
@[simp] theorem State.modAna_pending (k : Cell) (f : CellAna → CellAna) : (s.modAna k f).pending = s.pending := rfl

/-! ### modSeg -/

@[simp] theorem State.modSeg_now (g : Seg) (f : Segment → Segment) : (s.modSeg g f).now = s.now := rfl
@[simp] theorem State.modSeg_glb (g : Seg) (f : Segment → Segment) : (s.modSeg g f).glb = s.glb := rfl
@[simp] theorem State.modSeg_pins (g : Seg) (f : Segment → Segment) : (s.modSeg g f).pins = s.pins := rfl
@[simp] theorem State.modSeg_regs (g : Seg) (f : Segment → Segment) : (s.modSeg g f).regs = s.regs := rfl
@[simp] theorem State.modSeg_cells (g : Seg) (f : Segment → Segment) : (s.modSeg g f).cells = s.cells := rfl
@[simp] theorem State.modSeg_meas (g : Seg) (f : Segment → Segment) : (s.modSeg g f).meas = s.meas := rfl
@[simp] theorem State.modSeg_temps (g : Seg) (f : Segment → Segment) : (s.modSeg g f).temps = s.temps := rfl
@[simp] theorem State.modSeg_ana (g : Seg) (f : Segment → Segment) : (s.modSeg g f).ana = s.ana := rfl
@[simp] theorem State.modSeg_segs (g : Seg) (f : Segment → Segment) : (s.modSeg g f).segs = s.segs.modify g f := rfl
@[simp] theorem State.modSeg_links (g : Seg) (f : Segment → Segment) : (s.modSeg g f).links = s.links := rfl
@[simp] theorem State.modSeg_play (g : Seg) (f : Segment → Segment) : (s.modSeg g f).play = s.play := rfl
@[simp] theorem State.modSeg_spc (g : Seg) (f : Segment → Segment) : (s.modSeg g f).spc = s.spc := rfl
@[simp] theorem State.modSeg_shunts (g : Seg) (f : Segment → Segment) : (s.modSeg g f).shunts = s.shunts := rfl
@[simp] theorem State.modSeg_results (g : Seg) (f : Segment → Segment) : (s.modSeg g f).results = s.results := rfl
@[simp] theorem State.modSeg_therm (g : Seg) (f : Segment → Segment) : (s.modSeg g f).therm = s.therm := rfl
@[simp] theorem State.modSeg_pwr (g : Seg) (f : Segment → Segment) : (s.modSeg g f).pwr = s.pwr := rfl
@[simp] theorem State.modSeg_loop (g : Seg) (f : Segment → Segment) : (s.modSeg g f).loop = s.loop := rfl
@[simp] theorem State.modSeg_tu (g : Seg) (f : Segment → Segment) : (s.modSeg g f).tu = s.tu := rfl
@[simp] theorem State.modSeg_acc (g : Seg) (f : Segment → Segment) : (s.modSeg g f).acc = s.acc := rfl
@[simp] theorem State.modSeg_host (g : Seg) (f : Segment → Segment) : (s.modSeg g f).host = s.host := rfl
@[simp] theorem State.modSeg_flt (g : Seg) (f : Segment → Segment) : (s.modSeg g f).flt = s.flt := rfl
@[simp] theorem State.modSeg_bist (g : Seg) (f : Segment → Segment) : (s.modSeg g f).bist = s.bist := rfl
@[simp] theorem State.modSeg_chk (g : Seg) (f : Segment → Segment) : (s.modSeg g f).chk = s.chk := rfl
@[simp] theorem State.modSeg_nvm (g : Seg) (f : Segment → Segment) : (s.modSeg g f).nvm = s.nvm := rfl
@[simp] theorem State.modSeg_stopOrigin (g : Seg) (f : Segment → Segment) : (s.modSeg g f).stopOrigin = s.stopOrigin := rfl
@[simp] theorem State.modSeg_out (g : Seg) (f : Segment → Segment) : (s.modSeg g f).out = s.out := rfl
@[simp] theorem State.modSeg_free (g : Seg) (f : Segment → Segment) : (s.modSeg g f).free = s.free := rfl
@[simp] theorem State.modSeg_pending (g : Seg) (f : Segment → Segment) : (s.modSeg g f).pending = s.pending := rfl

/-! ### modLink -/

@[simp] theorem State.modLink_now (g : Seg) (f : Link → Link) : (s.modLink g f).now = s.now := rfl
@[simp] theorem State.modLink_glb (g : Seg) (f : Link → Link) : (s.modLink g f).glb = s.glb := rfl
@[simp] theorem State.modLink_pins (g : Seg) (f : Link → Link) : (s.modLink g f).pins = s.pins := rfl
@[simp] theorem State.modLink_regs (g : Seg) (f : Link → Link) : (s.modLink g f).regs = s.regs := rfl
@[simp] theorem State.modLink_cells (g : Seg) (f : Link → Link) : (s.modLink g f).cells = s.cells := rfl
@[simp] theorem State.modLink_meas (g : Seg) (f : Link → Link) : (s.modLink g f).meas = s.meas := rfl
@[simp] theorem State.modLink_temps (g : Seg) (f : Link → Link) : (s.modLink g f).temps = s.temps := rfl
@[simp] theorem State.modLink_ana (g : Seg) (f : Link → Link) : (s.modLink g f).ana = s.ana := rfl
@[simp] theorem State.modLink_segs (g : Seg) (f : Link → Link) : (s.modLink g f).segs = s.segs := rfl
@[simp] theorem State.modLink_links (g : Seg) (f : Link → Link) : (s.modLink g f).links = s.links.modify g f := rfl
@[simp] theorem State.modLink_play (g : Seg) (f : Link → Link) : (s.modLink g f).play = s.play := rfl
@[simp] theorem State.modLink_spc (g : Seg) (f : Link → Link) : (s.modLink g f).spc = s.spc := rfl
@[simp] theorem State.modLink_shunts (g : Seg) (f : Link → Link) : (s.modLink g f).shunts = s.shunts := rfl
@[simp] theorem State.modLink_results (g : Seg) (f : Link → Link) : (s.modLink g f).results = s.results := rfl
@[simp] theorem State.modLink_therm (g : Seg) (f : Link → Link) : (s.modLink g f).therm = s.therm := rfl
@[simp] theorem State.modLink_pwr (g : Seg) (f : Link → Link) : (s.modLink g f).pwr = s.pwr := rfl
@[simp] theorem State.modLink_loop (g : Seg) (f : Link → Link) : (s.modLink g f).loop = s.loop := rfl
@[simp] theorem State.modLink_tu (g : Seg) (f : Link → Link) : (s.modLink g f).tu = s.tu := rfl
@[simp] theorem State.modLink_acc (g : Seg) (f : Link → Link) : (s.modLink g f).acc = s.acc := rfl
@[simp] theorem State.modLink_host (g : Seg) (f : Link → Link) : (s.modLink g f).host = s.host := rfl
@[simp] theorem State.modLink_flt (g : Seg) (f : Link → Link) : (s.modLink g f).flt = s.flt := rfl
@[simp] theorem State.modLink_bist (g : Seg) (f : Link → Link) : (s.modLink g f).bist = s.bist := rfl
@[simp] theorem State.modLink_chk (g : Seg) (f : Link → Link) : (s.modLink g f).chk = s.chk := rfl
@[simp] theorem State.modLink_nvm (g : Seg) (f : Link → Link) : (s.modLink g f).nvm = s.nvm := rfl
@[simp] theorem State.modLink_stopOrigin (g : Seg) (f : Link → Link) : (s.modLink g f).stopOrigin = s.stopOrigin := rfl
@[simp] theorem State.modLink_out (g : Seg) (f : Link → Link) : (s.modLink g f).out = s.out := rfl
@[simp] theorem State.modLink_free (g : Seg) (f : Link → Link) : (s.modLink g f).free = s.free := rfl
@[simp] theorem State.modLink_pending (g : Seg) (f : Link → Link) : (s.modLink g f).pending = s.pending := rfl

/-! ### modChk -/

@[simp] theorem State.modChk_now (c : (Fin 4)) (f : Chk → Chk) : (s.modChk c f).now = s.now := rfl
@[simp] theorem State.modChk_glb (c : (Fin 4)) (f : Chk → Chk) : (s.modChk c f).glb = s.glb := rfl
@[simp] theorem State.modChk_pins (c : (Fin 4)) (f : Chk → Chk) : (s.modChk c f).pins = s.pins := rfl
@[simp] theorem State.modChk_regs (c : (Fin 4)) (f : Chk → Chk) : (s.modChk c f).regs = s.regs := rfl
@[simp] theorem State.modChk_cells (c : (Fin 4)) (f : Chk → Chk) : (s.modChk c f).cells = s.cells := rfl
@[simp] theorem State.modChk_meas (c : (Fin 4)) (f : Chk → Chk) : (s.modChk c f).meas = s.meas := rfl
@[simp] theorem State.modChk_temps (c : (Fin 4)) (f : Chk → Chk) : (s.modChk c f).temps = s.temps := rfl
@[simp] theorem State.modChk_ana (c : (Fin 4)) (f : Chk → Chk) : (s.modChk c f).ana = s.ana := rfl
@[simp] theorem State.modChk_segs (c : (Fin 4)) (f : Chk → Chk) : (s.modChk c f).segs = s.segs := rfl
@[simp] theorem State.modChk_links (c : (Fin 4)) (f : Chk → Chk) : (s.modChk c f).links = s.links := rfl
@[simp] theorem State.modChk_play (c : (Fin 4)) (f : Chk → Chk) : (s.modChk c f).play = s.play := rfl
@[simp] theorem State.modChk_spc (c : (Fin 4)) (f : Chk → Chk) : (s.modChk c f).spc = s.spc := rfl
@[simp] theorem State.modChk_shunts (c : (Fin 4)) (f : Chk → Chk) : (s.modChk c f).shunts = s.shunts := rfl
@[simp] theorem State.modChk_results (c : (Fin 4)) (f : Chk → Chk) : (s.modChk c f).results = s.results := rfl
@[simp] theorem State.modChk_therm (c : (Fin 4)) (f : Chk → Chk) : (s.modChk c f).therm = s.therm := rfl
@[simp] theorem State.modChk_pwr (c : (Fin 4)) (f : Chk → Chk) : (s.modChk c f).pwr = s.pwr := rfl
@[simp] theorem State.modChk_loop (c : (Fin 4)) (f : Chk → Chk) : (s.modChk c f).loop = s.loop := rfl
@[simp] theorem State.modChk_tu (c : (Fin 4)) (f : Chk → Chk) : (s.modChk c f).tu = s.tu := rfl
@[simp] theorem State.modChk_acc (c : (Fin 4)) (f : Chk → Chk) : (s.modChk c f).acc = s.acc := rfl
@[simp] theorem State.modChk_host (c : (Fin 4)) (f : Chk → Chk) : (s.modChk c f).host = s.host := rfl
@[simp] theorem State.modChk_flt (c : (Fin 4)) (f : Chk → Chk) : (s.modChk c f).flt = s.flt := rfl
@[simp] theorem State.modChk_bist (c : (Fin 4)) (f : Chk → Chk) : (s.modChk c f).bist = s.bist := rfl
@[simp] theorem State.modChk_chk (c : (Fin 4)) (f : Chk → Chk) : (s.modChk c f).chk = s.chk.modify c f := rfl
@[simp] theorem State.modChk_nvm (c : (Fin 4)) (f : Chk → Chk) : (s.modChk c f).nvm = s.nvm := rfl
@[simp] theorem State.modChk_stopOrigin (c : (Fin 4)) (f : Chk → Chk) : (s.modChk c f).stopOrigin = s.stopOrigin := rfl
@[simp] theorem State.modChk_out (c : (Fin 4)) (f : Chk → Chk) : (s.modChk c f).out = s.out := rfl
@[simp] theorem State.modChk_free (c : (Fin 4)) (f : Chk → Chk) : (s.modChk c f).free = s.free := rfl
@[simp] theorem State.modChk_pending (c : (Fin 4)) (f : Chk → Chk) : (s.modChk c f).pending = s.pending := rfl

/-! ### modPlay -/

@[simp] theorem State.modPlay_now (f : Player → Player) : (s.modPlay f).now = s.now := rfl
@[simp] theorem State.modPlay_glb (f : Player → Player) : (s.modPlay f).glb = s.glb := rfl
@[simp] theorem State.modPlay_pins (f : Player → Player) : (s.modPlay f).pins = s.pins := rfl
@[simp] theorem State.modPlay_regs (f : Player → Player) : (s.modPlay f).regs = s.regs := rfl
@[simp] theorem State.modPlay_cells (f : Player → Player) : (s.modPlay f).cells = s.cells := rfl
@[simp] theorem State.modPlay_meas (f : Player → Player) : (s.modPlay f).meas = s.meas := rfl
@[simp] theorem State.modPlay_temps (f : Player → Player) : (s.modPlay f).temps = s.temps := rfl
@[simp] theorem State.modPlay_ana (f : Player → Player) : (s.modPlay f).ana = s.ana := rfl
@[simp] theorem State.modPlay_segs (f : Player → Player) : (s.modPlay f).segs = s.segs := rfl
@[simp] theorem State.modPlay_links (f : Player → Player) : (s.modPlay f).links = s.links := rfl
@[simp] theorem State.modPlay_play (f : Player → Player) : (s.modPlay f).play = f s.play := rfl
@[simp] theorem State.modPlay_spc (f : Player → Player) : (s.modPlay f).spc = s.spc := rfl
@[simp] theorem State.modPlay_shunts (f : Player → Player) : (s.modPlay f).shunts = s.shunts := rfl
@[simp] theorem State.modPlay_results (f : Player → Player) : (s.modPlay f).results = s.results := rfl
@[simp] theorem State.modPlay_therm (f : Player → Player) : (s.modPlay f).therm = s.therm := rfl
@[simp] theorem State.modPlay_pwr (f : Player → Player) : (s.modPlay f).pwr = s.pwr := rfl
@[simp] theorem State.modPlay_loop (f : Player → Player) : (s.modPlay f).loop = s.loop := rfl
@[simp] theorem State.modPlay_tu (f : Player → Player) : (s.modPlay f).tu = s.tu := rfl
@[simp] theorem State.modPlay_acc (f : Player → Player) : (s.modPlay f).acc = s.acc := rfl
@[simp] theorem State.modPlay_host (f : Player → Player) : (s.modPlay f).host = s.host := rfl
@[simp] theorem State.modPlay_flt (f : Player → Player) : (s.modPlay f).flt = s.flt := rfl
@[simp] theorem State.modPlay_bist (f : Player → Player) : (s.modPlay f).bist = s.bist := rfl
@[simp] theorem State.modPlay_chk (f : Player → Player) : (s.modPlay f).chk = s.chk := rfl
@[simp] theorem State.modPlay_nvm (f : Player → Player) : (s.modPlay f).nvm = s.nvm := rfl
@[simp] theorem State.modPlay_stopOrigin (f : Player → Player) : (s.modPlay f).stopOrigin = s.stopOrigin := rfl
@[simp] theorem State.modPlay_out (f : Player → Player) : (s.modPlay f).out = s.out := rfl
@[simp] theorem State.modPlay_free (f : Player → Player) : (s.modPlay f).free = s.free := rfl
@[simp] theorem State.modPlay_pending (f : Player → Player) : (s.modPlay f).pending = s.pending := rfl

/-! ### modSpc -/

@[simp] theorem State.modSpc_now (f : Spc → Spc) : (s.modSpc f).now = s.now := rfl
@[simp] theorem State.modSpc_glb (f : Spc → Spc) : (s.modSpc f).glb = s.glb := rfl
@[simp] theorem State.modSpc_pins (f : Spc → Spc) : (s.modSpc f).pins = s.pins := rfl
@[simp] theorem State.modSpc_regs (f : Spc → Spc) : (s.modSpc f).regs = s.regs := rfl
@[simp] theorem State.modSpc_cells (f : Spc → Spc) : (s.modSpc f).cells = s.cells := rfl
@[simp] theorem State.modSpc_meas (f : Spc → Spc) : (s.modSpc f).meas = s.meas := rfl
@[simp] theorem State.modSpc_temps (f : Spc → Spc) : (s.modSpc f).temps = s.temps := rfl
@[simp] theorem State.modSpc_ana (f : Spc → Spc) : (s.modSpc f).ana = s.ana := rfl
@[simp] theorem State.modSpc_segs (f : Spc → Spc) : (s.modSpc f).segs = s.segs := rfl
@[simp] theorem State.modSpc_links (f : Spc → Spc) : (s.modSpc f).links = s.links := rfl
@[simp] theorem State.modSpc_play (f : Spc → Spc) : (s.modSpc f).play = s.play := rfl
@[simp] theorem State.modSpc_spc (f : Spc → Spc) : (s.modSpc f).spc = f s.spc := rfl
@[simp] theorem State.modSpc_shunts (f : Spc → Spc) : (s.modSpc f).shunts = s.shunts := rfl
@[simp] theorem State.modSpc_results (f : Spc → Spc) : (s.modSpc f).results = s.results := rfl
@[simp] theorem State.modSpc_therm (f : Spc → Spc) : (s.modSpc f).therm = s.therm := rfl
@[simp] theorem State.modSpc_pwr (f : Spc → Spc) : (s.modSpc f).pwr = s.pwr := rfl
@[simp] theorem State.modSpc_loop (f : Spc → Spc) : (s.modSpc f).loop = s.loop := rfl
@[simp] theorem State.modSpc_tu (f : Spc → Spc) : (s.modSpc f).tu = s.tu := rfl
@[simp] theorem State.modSpc_acc (f : Spc → Spc) : (s.modSpc f).acc = s.acc := rfl
@[simp] theorem State.modSpc_host (f : Spc → Spc) : (s.modSpc f).host = s.host := rfl
@[simp] theorem State.modSpc_flt (f : Spc → Spc) : (s.modSpc f).flt = s.flt := rfl
@[simp] theorem State.modSpc_bist (f : Spc → Spc) : (s.modSpc f).bist = s.bist := rfl
@[simp] theorem State.modSpc_chk (f : Spc → Spc) : (s.modSpc f).chk = s.chk := rfl
@[simp] theorem State.modSpc_nvm (f : Spc → Spc) : (s.modSpc f).nvm = s.nvm := rfl
@[simp] theorem State.modSpc_stopOrigin (f : Spc → Spc) : (s.modSpc f).stopOrigin = s.stopOrigin := rfl
@[simp] theorem State.modSpc_out (f : Spc → Spc) : (s.modSpc f).out = s.out := rfl
@[simp] theorem State.modSpc_free (f : Spc → Spc) : (s.modSpc f).free = s.free := rfl
@[simp] theorem State.modSpc_pending (f : Spc → Spc) : (s.modSpc f).pending = s.pending := rfl

/-! ### modGlb -/

@[simp] theorem State.modGlb_now (f : Glb → Glb) : (s.modGlb f).now = s.now := rfl
@[simp] theorem State.modGlb_glb (f : Glb → Glb) : (s.modGlb f).glb = f s.glb := rfl
@[simp] theorem State.modGlb_pins (f : Glb → Glb) : (s.modGlb f).pins = s.pins := rfl
@[simp] theorem State.modGlb_regs (f : Glb → Glb) : (s.modGlb f).regs = s.regs := rfl
@[simp] theorem State.modGlb_cells (f : Glb → Glb) : (s.modGlb f).cells = s.cells := rfl
@[simp] theorem State.modGlb_meas (f : Glb → Glb) : (s.modGlb f).meas = s.meas := rfl
@[simp] theorem State.modGlb_temps (f : Glb → Glb) : (s.modGlb f).temps = s.temps := rfl
@[simp] theorem State.modGlb_ana (f : Glb → Glb) : (s.modGlb f).ana = s.ana := rfl
@[simp] theorem State.modGlb_segs (f : Glb → Glb) : (s.modGlb f).segs = s.segs := rfl
@[simp] theorem State.modGlb_links (f : Glb → Glb) : (s.modGlb f).links = s.links := rfl
@[simp] theorem State.modGlb_play (f : Glb → Glb) : (s.modGlb f).play = s.play := rfl
@[simp] theorem State.modGlb_spc (f : Glb → Glb) : (s.modGlb f).spc = s.spc := rfl
@[simp] theorem State.modGlb_shunts (f : Glb → Glb) : (s.modGlb f).shunts = s.shunts := rfl
@[simp] theorem State.modGlb_results (f : Glb → Glb) : (s.modGlb f).results = s.results := rfl
@[simp] theorem State.modGlb_therm (f : Glb → Glb) : (s.modGlb f).therm = s.therm := rfl
@[simp] theorem State.modGlb_pwr (f : Glb → Glb) : (s.modGlb f).pwr = s.pwr := rfl
@[simp] theorem State.modGlb_loop (f : Glb → Glb) : (s.modGlb f).loop = s.loop := rfl
@[simp] theorem State.modGlb_tu (f : Glb → Glb) : (s.modGlb f).tu = s.tu := rfl
@[simp] theorem State.modGlb_acc (f : Glb → Glb) : (s.modGlb f).acc = s.acc := rfl
@[simp] theorem State.modGlb_host (f : Glb → Glb) : (s.modGlb f).host = s.host := rfl
@[simp] theorem State.modGlb_flt (f : Glb → Glb) : (s.modGlb f).flt = s.flt := rfl
@[simp] theorem State.modGlb_bist (f : Glb → Glb) : (s.modGlb f).bist = s.bist := rfl
@[simp] theorem State.modGlb_chk (f : Glb → Glb) : (s.modGlb f).chk = s.chk := rfl
@[simp] theorem State.modGlb_nvm (f : Glb → Glb) : (s.modGlb f).nvm = s.nvm := rfl
@[simp] theorem State.modGlb_stopOrigin (f : Glb → Glb) : (s.modGlb f).stopOrigin = s.stopOrigin := rfl
@[simp] theorem State.modGlb_out (f : Glb → Glb) : (s.modGlb f).out = s.out := rfl
@[simp] theorem State.modGlb_free (f : Glb → Glb) : (s.modGlb f).free = s.free := rfl
@[simp] theorem State.modGlb_pending (f : Glb → Glb) : (s.modGlb f).pending = s.pending := rfl

/-! ### modPwr -/

@[simp] theorem State.modPwr_now (f : Pwr → Pwr) : (s.modPwr f).now = s.now := rfl
@[simp] theorem State.modPwr_glb (f : Pwr → Pwr) : (s.modPwr f).glb = s.glb := rfl
@[simp] theorem State.modPwr_pins (f : Pwr → Pwr) : (s.modPwr f).pins = s.pins := rfl
@[simp] theorem State.modPwr_regs (f : Pwr → Pwr) : (s.modPwr f).regs = s.regs := rfl
@[simp] theorem State.modPwr_cells (f : Pwr → Pwr) : (s.modPwr f).cells = s.cells := rfl
@[simp] theorem State.modPwr_meas (f : Pwr → Pwr) : (s.modPwr f).meas = s.meas := rfl
@[simp] theorem State.modPwr_temps (f : Pwr → Pwr) : (s.modPwr f).temps = s.temps := rfl
@[simp] theorem State.modPwr_ana (f : Pwr → Pwr) : (s.modPwr f).ana = s.ana := rfl
@[simp] theorem State.modPwr_segs (f : Pwr → Pwr) : (s.modPwr f).segs = s.segs := rfl
@[simp] theorem State.modPwr_links (f : Pwr → Pwr) : (s.modPwr f).links = s.links := rfl
@[simp] theorem State.modPwr_play (f : Pwr → Pwr) : (s.modPwr f).play = s.play := rfl
@[simp] theorem State.modPwr_spc (f : Pwr → Pwr) : (s.modPwr f).spc = s.spc := rfl
@[simp] theorem State.modPwr_shunts (f : Pwr → Pwr) : (s.modPwr f).shunts = s.shunts := rfl
@[simp] theorem State.modPwr_results (f : Pwr → Pwr) : (s.modPwr f).results = s.results := rfl
@[simp] theorem State.modPwr_therm (f : Pwr → Pwr) : (s.modPwr f).therm = s.therm := rfl
@[simp] theorem State.modPwr_pwr (f : Pwr → Pwr) : (s.modPwr f).pwr = f s.pwr := rfl
@[simp] theorem State.modPwr_loop (f : Pwr → Pwr) : (s.modPwr f).loop = s.loop := rfl
@[simp] theorem State.modPwr_tu (f : Pwr → Pwr) : (s.modPwr f).tu = s.tu := rfl
@[simp] theorem State.modPwr_acc (f : Pwr → Pwr) : (s.modPwr f).acc = s.acc := rfl
@[simp] theorem State.modPwr_host (f : Pwr → Pwr) : (s.modPwr f).host = s.host := rfl
@[simp] theorem State.modPwr_flt (f : Pwr → Pwr) : (s.modPwr f).flt = s.flt := rfl
@[simp] theorem State.modPwr_bist (f : Pwr → Pwr) : (s.modPwr f).bist = s.bist := rfl
@[simp] theorem State.modPwr_chk (f : Pwr → Pwr) : (s.modPwr f).chk = s.chk := rfl
@[simp] theorem State.modPwr_nvm (f : Pwr → Pwr) : (s.modPwr f).nvm = s.nvm := rfl
@[simp] theorem State.modPwr_stopOrigin (f : Pwr → Pwr) : (s.modPwr f).stopOrigin = s.stopOrigin := rfl
@[simp] theorem State.modPwr_out (f : Pwr → Pwr) : (s.modPwr f).out = s.out := rfl
@[simp] theorem State.modPwr_free (f : Pwr → Pwr) : (s.modPwr f).free = s.free := rfl
@[simp] theorem State.modPwr_pending (f : Pwr → Pwr) : (s.modPwr f).pending = s.pending := rfl

/-! ### modLoop -/

@[simp] theorem State.modLoop_now (f : Loop → Loop) : (s.modLoop f).now = s.now := rfl
@[simp] theorem State.modLoop_glb (f : Loop → Loop) : (s.modLoop f).glb = s.glb := rfl
@[simp] theorem State.modLoop_pins (f : Loop → Loop) : (s.modLoop f).pins = s.pins := rfl
@[simp] theorem State.modLoop_regs (f : Loop → Loop) : (s.modLoop f).regs = s.regs := rfl
@[simp] theorem State.modLoop_cells (f : Loop → Loop) : (s.modLoop f).cells = s.cells := rfl
@[simp] theorem State.modLoop_meas (f : Loop → Loop) : (s.modLoop f).meas = s.meas := rfl
@[simp] theorem State.modLoop_temps (f : Loop → Loop) : (s.modLoop f).temps = s.temps := rfl
@[simp] theorem State.modLoop_ana (f : Loop → Loop) : (s.modLoop f).ana = s.ana := rfl
@[simp] theorem State.modLoop_segs (f : Loop → Loop) : (s.modLoop f).segs = s.segs := rfl
@[simp] theorem State.modLoop_links (f : Loop → Loop) : (s.modLoop f).links = s.links := rfl
@[simp] theorem State.modLoop_play (f : Loop → Loop) : (s.modLoop f).play = s.play := rfl
@[simp] theorem State.modLoop_spc (f : Loop → Loop) : (s.modLoop f).spc = s.spc := rfl
@[simp] theorem State.modLoop_shunts (f : Loop → Loop) : (s.modLoop f).shunts = s.shunts := rfl
@[simp] theorem State.modLoop_results (f : Loop → Loop) : (s.modLoop f).results = s.results := rfl
@[simp] theorem State.modLoop_therm (f : Loop → Loop) : (s.modLoop f).therm = s.therm := rfl
@[simp] theorem State.modLoop_pwr (f : Loop → Loop) : (s.modLoop f).pwr = s.pwr := rfl
@[simp] theorem State.modLoop_loop (f : Loop → Loop) : (s.modLoop f).loop = f s.loop := rfl
@[simp] theorem State.modLoop_tu (f : Loop → Loop) : (s.modLoop f).tu = s.tu := rfl
@[simp] theorem State.modLoop_acc (f : Loop → Loop) : (s.modLoop f).acc = s.acc := rfl
@[simp] theorem State.modLoop_host (f : Loop → Loop) : (s.modLoop f).host = s.host := rfl
@[simp] theorem State.modLoop_flt (f : Loop → Loop) : (s.modLoop f).flt = s.flt := rfl
@[simp] theorem State.modLoop_bist (f : Loop → Loop) : (s.modLoop f).bist = s.bist := rfl
@[simp] theorem State.modLoop_chk (f : Loop → Loop) : (s.modLoop f).chk = s.chk := rfl
@[simp] theorem State.modLoop_nvm (f : Loop → Loop) : (s.modLoop f).nvm = s.nvm := rfl
@[simp] theorem State.modLoop_stopOrigin (f : Loop → Loop) : (s.modLoop f).stopOrigin = s.stopOrigin := rfl
@[simp] theorem State.modLoop_out (f : Loop → Loop) : (s.modLoop f).out = s.out := rfl
@[simp] theorem State.modLoop_free (f : Loop → Loop) : (s.modLoop f).free = s.free := rfl
@[simp] theorem State.modLoop_pending (f : Loop → Loop) : (s.modLoop f).pending = s.pending := rfl

/-! ### modHost -/

@[simp] theorem State.modHost_now (f : HostPort → HostPort) : (s.modHost f).now = s.now := rfl
@[simp] theorem State.modHost_glb (f : HostPort → HostPort) : (s.modHost f).glb = s.glb := rfl
@[simp] theorem State.modHost_pins (f : HostPort → HostPort) : (s.modHost f).pins = s.pins := rfl
@[simp] theorem State.modHost_regs (f : HostPort → HostPort) : (s.modHost f).regs = s.regs := rfl
@[simp] theorem State.modHost_cells (f : HostPort → HostPort) : (s.modHost f).cells = s.cells := rfl
@[simp] theorem State.modHost_meas (f : HostPort → HostPort) : (s.modHost f).meas = s.meas := rfl
@[simp] theorem State.modHost_temps (f : HostPort → HostPort) : (s.modHost f).temps = s.temps := rfl
@[simp] theorem State.modHost_ana (f : HostPort → HostPort) : (s.modHost f).ana = s.ana := rfl
@[simp] theorem State.modHost_segs (f : HostPort → HostPort) : (s.modHost f).segs = s.segs := rfl
@[simp] theorem State.modHost_links (f : HostPort → HostPort) : (s.modHost f).links = s.links := rfl
@[simp] theorem State.modHost_play (f : HostPort → HostPort) : (s.modHost f).play = s.play := rfl
@[simp] theorem State.modHost_spc (f : HostPort → HostPort) : (s.modHost f).spc = s.spc := rfl
@[simp] theorem State.modHost_shunts (f : HostPort → HostPort) : (s.modHost f).shunts = s.shunts := rfl
@[simp] theorem State.modHost_results (f : HostPort → HostPort) : (s.modHost f).results = s.results := rfl
@[simp] theorem State.modHost_therm (f : HostPort → HostPort) : (s.modHost f).therm = s.therm := rfl
@[simp] theorem State.modHost_pwr (f : HostPort → HostPort) : (s.modHost f).pwr = s.pwr := rfl
@[simp] theorem State.modHost_loop (f : HostPort → HostPort) : (s.modHost f).loop = s.loop := rfl
@[simp] theorem State.modHost_tu (f : HostPort → HostPort) : (s.modHost f).tu = s.tu := rfl
@[simp] theorem State.modHost_acc (f : HostPort → HostPort) : (s.modHost f).acc = s.acc := rfl
@[simp] theorem State.modHost_host (f : HostPort → HostPort) : (s.modHost f).host = f s.host := rfl
@[simp] theorem State.modHost_flt (f : HostPort → HostPort) : (s.modHost f).flt = s.flt := rfl
@[simp] theorem State.modHost_bist (f : HostPort → HostPort) : (s.modHost f).bist = s.bist := rfl
@[simp] theorem State.modHost_chk (f : HostPort → HostPort) : (s.modHost f).chk = s.chk := rfl
@[simp] theorem State.modHost_nvm (f : HostPort → HostPort) : (s.modHost f).nvm = s.nvm := rfl
@[simp] theorem State.modHost_stopOrigin (f : HostPort → HostPort) : (s.modHost f).stopOrigin = s.stopOrigin := rfl
@[simp] theorem State.modHost_out (f : HostPort → HostPort) : (s.modHost f).out = s.out := rfl
@[simp] theorem State.modHost_free (f : HostPort → HostPort) : (s.modHost f).free = s.free := rfl
@[simp] theorem State.modHost_pending (f : HostPort → HostPort) : (s.modHost f).pending = s.pending := rfl

/-! ### modFlt -/

@[simp] theorem State.modFlt_now (f : Flt → Flt) : (s.modFlt f).now = s.now := rfl
@[simp] theorem State.modFlt_glb (f : Flt → Flt) : (s.modFlt f).glb = s.glb := rfl
@[simp] theorem State.modFlt_pins (f : Flt → Flt) : (s.modFlt f).pins = s.pins := rfl
@[simp] theorem State.modFlt_regs (f : Flt → Flt) : (s.modFlt f).regs = s.regs := rfl
@[simp] theorem State.modFlt_cells (f : Flt → Flt) : (s.modFlt f).cells = s.cells := rfl
@[simp] theorem State.modFlt_meas (f : Flt → Flt) : (s.modFlt f).meas = s.meas := rfl
@[simp] theorem State.modFlt_temps (f : Flt → Flt) : (s.modFlt f).temps = s.temps := rfl
@[simp] theorem State.modFlt_ana (f : Flt → Flt) : (s.modFlt f).ana = s.ana := rfl
@[simp] theorem State.modFlt_segs (f : Flt → Flt) : (s.modFlt f).segs = s.segs := rfl
@[simp] theorem State.modFlt_links (f : Flt → Flt) : (s.modFlt f).links = s.links := rfl
@[simp] theorem State.modFlt_play (f : Flt → Flt) : (s.modFlt f).play = s.play := rfl
@[simp] theorem State.modFlt_spc (f : Flt → Flt) : (s.modFlt f).spc = s.spc := rfl
@[simp] theorem State.modFlt_shunts (f : Flt → Flt) : (s.modFlt f).shunts = s.shunts := rfl
@[simp] theorem State.modFlt_results (f : Flt → Flt) : (s.modFlt f).results = s.results := rfl
@[simp] theorem State.modFlt_therm (f : Flt → Flt) : (s.modFlt f).therm = s.therm := rfl
@[simp] theorem State.modFlt_pwr (f : Flt → Flt) : (s.modFlt f).pwr = s.pwr := rfl
@[simp] theorem State.modFlt_loop (f : Flt → Flt) : (s.modFlt f).loop = s.loop := rfl
@[simp] theorem State.modFlt_tu (f : Flt → Flt) : (s.modFlt f).tu = s.tu := rfl
@[simp] theorem State.modFlt_acc (f : Flt → Flt) : (s.modFlt f).acc = s.acc := rfl
@[simp] theorem State.modFlt_host (f : Flt → Flt) : (s.modFlt f).host = s.host := rfl
@[simp] theorem State.modFlt_flt (f : Flt → Flt) : (s.modFlt f).flt = f s.flt := rfl
@[simp] theorem State.modFlt_bist (f : Flt → Flt) : (s.modFlt f).bist = s.bist := rfl
@[simp] theorem State.modFlt_chk (f : Flt → Flt) : (s.modFlt f).chk = s.chk := rfl
@[simp] theorem State.modFlt_nvm (f : Flt → Flt) : (s.modFlt f).nvm = s.nvm := rfl
@[simp] theorem State.modFlt_stopOrigin (f : Flt → Flt) : (s.modFlt f).stopOrigin = s.stopOrigin := rfl
@[simp] theorem State.modFlt_out (f : Flt → Flt) : (s.modFlt f).out = s.out := rfl
@[simp] theorem State.modFlt_free (f : Flt → Flt) : (s.modFlt f).free = s.free := rfl
@[simp] theorem State.modFlt_pending (f : Flt → Flt) : (s.modFlt f).pending = s.pending := rfl

/-! ### modBist -/

@[simp] theorem State.modBist_now (f : Bist → Bist) : (s.modBist f).now = s.now := rfl
@[simp] theorem State.modBist_glb (f : Bist → Bist) : (s.modBist f).glb = s.glb := rfl
@[simp] theorem State.modBist_pins (f : Bist → Bist) : (s.modBist f).pins = s.pins := rfl
@[simp] theorem State.modBist_regs (f : Bist → Bist) : (s.modBist f).regs = s.regs := rfl
@[simp] theorem State.modBist_cells (f : Bist → Bist) : (s.modBist f).cells = s.cells := rfl
@[simp] theorem State.modBist_meas (f : Bist → Bist) : (s.modBist f).meas = s.meas := rfl
@[simp] theorem State.modBist_temps (f : Bist → Bist) : (s.modBist f).temps = s.temps := rfl
@[simp] theorem State.modBist_ana (f : Bist → Bist) : (s.modBist f).ana = s.ana := rfl
@[simp] theorem State.modBist_segs (f : Bist → Bist) : (s.modBist f).segs = s.segs := rfl
@[simp] theorem State.modBist_links (f : Bist → Bist) : (s.modBist f).links = s.links := rfl
@[simp] theorem State.modBist_play (f : Bist → Bist) : (s.modBist f).play = s.play := rfl
@[simp] theorem State.modBist_spc (f : Bist → Bist) : (s.modBist f).spc = s.spc := rfl
@[simp] theorem State.modBist_shunts (f : Bist → Bist) : (s.modBist f).shunts = s.shunts := rfl
@[simp] theorem State.modBist_results (f : Bist → Bist) : (s.modBist f).results = s.results := rfl
@[simp] theorem State.modBist_therm (f : Bist → Bist) : (s.modBist f).therm = s.therm := rfl
@[simp] theorem State.modBist_pwr (f : Bist → Bist) : (s.modBist f).pwr = s.pwr := rfl
@[simp] theorem State.modBist_loop (f : Bist → Bist) : (s.modBist f).loop = s.loop := rfl
@[simp] theorem State.modBist_tu (f : Bist → Bist) : (s.modBist f).tu = s.tu := rfl
@[simp] theorem State.modBist_acc (f : Bist → Bist) : (s.modBist f).acc = s.acc := rfl
@[simp] theorem State.modBist_host (f : Bist → Bist) : (s.modBist f).host = s.host := rfl
@[simp] theorem State.modBist_flt (f : Bist → Bist) : (s.modBist f).flt = s.flt := rfl
@[simp] theorem State.modBist_bist (f : Bist → Bist) : (s.modBist f).bist = f s.bist := rfl
@[simp] theorem State.modBist_chk (f : Bist → Bist) : (s.modBist f).chk = s.chk := rfl
@[simp] theorem State.modBist_nvm (f : Bist → Bist) : (s.modBist f).nvm = s.nvm := rfl
@[simp] theorem State.modBist_stopOrigin (f : Bist → Bist) : (s.modBist f).stopOrigin = s.stopOrigin := rfl
@[simp] theorem State.modBist_out (f : Bist → Bist) : (s.modBist f).out = s.out := rfl
@[simp] theorem State.modBist_free (f : Bist → Bist) : (s.modBist f).free = s.free := rfl
@[simp] theorem State.modBist_pending (f : Bist → Bist) : (s.modBist f).pending = s.pending := rfl

/-! ### modNvm -/

@[simp] theorem State.modNvm_now (f : Nvm → Nvm) : (s.modNvm f).now = s.now := rfl
@[simp] theorem State.modNvm_glb (f : Nvm → Nvm) : (s.modNvm f).glb = s.glb := rfl
@[simp] theorem State.modNvm_pins (f : Nvm → Nvm) : (s.modNvm f).pins = s.pins := rfl
@[simp] theorem State.modNvm_regs (f : Nvm → Nvm) : (s.modNvm f).regs = s.regs := rfl
@[simp] theorem State.modNvm_cells (f : Nvm → Nvm) : (s.modNvm f).cells = s.cells := rfl
@[simp] theorem State.modNvm_meas (f : Nvm → Nvm) : (s.modNvm f).meas = s.meas := rfl
@[simp] theorem State.modNvm_temps (f : Nvm → Nvm) : (s.modNvm f).temps = s.temps := rfl
@[simp] theorem State.modNvm_ana (f : Nvm → Nvm) : (s.modNvm f).ana = s.ana := rfl
@[simp] theorem State.modNvm_segs (f : Nvm → Nvm) : (s.modNvm f).segs = s.segs := rfl
@[simp] theorem State.modNvm_links (f : Nvm → Nvm) : (s.modNvm f).links = s.links := rfl
@[simp] theorem State.modNvm_play (f : Nvm → Nvm) : (s.modNvm f).play = s.play := rfl
@[simp] theorem State.modNvm_spc (f : Nvm → Nvm) : (s.modNvm f).spc = s.spc := rfl
@[simp] theorem State.modNvm_shunts (f : Nvm → Nvm) : (s.modNvm f).shunts = s.shunts := rfl
@[simp] theorem State.modNvm_results (f : Nvm → Nvm) : (s.modNvm f).results = s.results := rfl
@[simp] theorem State.modNvm_therm (f : Nvm → Nvm) : (s.modNvm f).therm = s.therm := rfl
@[simp] theorem State.modNvm_pwr (f : Nvm → Nvm) : (s.modNvm f).pwr = s.pwr := rfl
@[simp] theorem State.modNvm_loop (f : Nvm → Nvm) : (s.modNvm f).loop = s.loop := rfl
@[simp] theorem State.modNvm_tu (f : Nvm → Nvm) : (s.modNvm f).tu = s.tu := rfl
@[simp] theorem State.modNvm_acc (f : Nvm → Nvm) : (s.modNvm f).acc = s.acc := rfl
@[simp] theorem State.modNvm_host (f : Nvm → Nvm) : (s.modNvm f).host = s.host := rfl
@[simp] theorem State.modNvm_flt (f : Nvm → Nvm) : (s.modNvm f).flt = s.flt := rfl
@[simp] theorem State.modNvm_bist (f : Nvm → Nvm) : (s.modNvm f).bist = s.bist := rfl
@[simp] theorem State.modNvm_chk (f : Nvm → Nvm) : (s.modNvm f).chk = s.chk := rfl
@[simp] theorem State.modNvm_nvm (f : Nvm → Nvm) : (s.modNvm f).nvm = f s.nvm := rfl
@[simp] theorem State.modNvm_stopOrigin (f : Nvm → Nvm) : (s.modNvm f).stopOrigin = s.stopOrigin := rfl
@[simp] theorem State.modNvm_out (f : Nvm → Nvm) : (s.modNvm f).out = s.out := rfl
@[simp] theorem State.modNvm_free (f : Nvm → Nvm) : (s.modNvm f).free = s.free := rfl
@[simp] theorem State.modNvm_pending (f : Nvm → Nvm) : (s.modNvm f).pending = s.pending := rfl

/-! ### modShunts -/

@[simp] theorem State.modShunts_now (f : Meas → Meas) : (s.modShunts f).now = s.now := rfl
@[simp] theorem State.modShunts_glb (f : Meas → Meas) : (s.modShunts f).glb = s.glb := rfl
@[simp] theorem State.modShunts_pins (f : Meas → Meas) : (s.modShunts f).pins = s.pins := rfl
@[simp] theorem State.modShunts_regs (f : Meas → Meas) : (s.modShunts f).regs = s.regs := rfl
@[simp] theorem State.modShunts_cells (f : Meas → Meas) : (s.modShunts f).cells = s.cells := rfl
@[simp] theorem State.modShunts_meas (f : Meas → Meas) : (s.modShunts f).meas = s.meas := rfl
@[simp] theorem State.modShunts_temps (f : Meas → Meas) : (s.modShunts f).temps = s.temps := rfl
@[simp] theorem State.modShunts_ana (f : Meas → Meas) : (s.modShunts f).ana = s.ana := rfl
@[simp] theorem State.modShunts_segs (f : Meas → Meas) : (s.modShunts f).segs = s.segs := rfl
@[simp] theorem State.modShunts_links (f : Meas → Meas) : (s.modShunts f).links = s.links := rfl
@[simp] theorem State.modShunts_play (f : Meas → Meas) : (s.modShunts f).play = s.play := rfl
@[simp] theorem State.modShunts_spc (f : Meas → Meas) : (s.modShunts f).spc = s.spc := rfl
@[simp] theorem State.modShunts_shunts (f : Meas → Meas) : (s.modShunts f).shunts = f s.shunts := rfl
@[simp] theorem State.modShunts_results (f : Meas → Meas) : (s.modShunts f).results = s.results := rfl
@[simp] theorem State.modShunts_therm (f : Meas → Meas) : (s.modShunts f).therm = s.therm := rfl
@[simp] theorem State.modShunts_pwr (f : Meas → Meas) : (s.modShunts f).pwr = s.pwr := rfl
@[simp] theorem State.modShunts_loop (f : Meas → Meas) : (s.modShunts f).loop = s.loop := rfl
@[simp] theorem State.modShunts_tu (f : Meas → Meas) : (s.modShunts f).tu = s.tu := rfl
@[simp] theorem State.modShunts_acc (f : Meas → Meas) : (s.modShunts f).acc = s.acc := rfl
@[simp] theorem State.modShunts_host (f : Meas → Meas) : (s.modShunts f).host = s.host := rfl
@[simp] theorem State.modShunts_flt (f : Meas → Meas) : (s.modShunts f).flt = s.flt := rfl
@[simp] theorem State.modShunts_bist (f : Meas → Meas) : (s.modShunts f).bist = s.bist := rfl
@[simp] theorem State.modShunts_chk (f : Meas → Meas) : (s.modShunts f).chk = s.chk := rfl
@[simp] theorem State.modShunts_nvm (f : Meas → Meas) : (s.modShunts f).nvm = s.nvm := rfl
@[simp] theorem State.modShunts_stopOrigin (f : Meas → Meas) : (s.modShunts f).stopOrigin = s.stopOrigin := rfl
@[simp] theorem State.modShunts_out (f : Meas → Meas) : (s.modShunts f).out = s.out := rfl
@[simp] theorem State.modShunts_free (f : Meas → Meas) : (s.modShunts f).free = s.free := rfl
@[simp] theorem State.modShunts_pending (f : Meas → Meas) : (s.modShunts f).pending = s.pending := rfl

/-! ### modRes -/

@[simp] theorem State.modRes_now (f : Ana → Ana) : (s.modRes f).now = s.now := rfl
@[simp] theorem State.modRes_glb (f : Ana → Ana) : (s.modRes f).glb = s.glb := rfl
@[simp] theorem State.modRes_pins (f : Ana → Ana) : (s.modRes f).pins = s.pins := rfl
@[simp] theorem State.modRes_regs (f : Ana → Ana) : (s.modRes f).regs = s.regs := rfl
@[simp] theorem State.modRes_cells (f : Ana → Ana) : (s.modRes f).cells = s.cells := rfl
@[simp] theorem State.modRes_meas (f : Ana → Ana) : (s.modRes f).meas = s.meas := rfl
@[simp] theorem State.modRes_temps (f : Ana → Ana) : (s.modRes f).temps = s.temps := rfl
@[simp] theorem State.modRes_ana (f : Ana → Ana) : (s.modRes f).ana = s.ana := rfl
@[simp] theorem State.modRes_segs (f : Ana → Ana) : (s.modRes f).segs = s.segs := rfl
@[simp] theorem State.modRes_links (f : Ana → Ana) : (s.modRes f).links = s.links := rfl
@[simp] theorem State.modRes_play (f : Ana → Ana) : (s.modRes f).play = s.play := rfl
@[simp] theorem State.modRes_spc (f : Ana → Ana) : (s.modRes f).spc = s.spc := rfl
@[simp] theorem State.modRes_shunts (f : Ana → Ana) : (s.modRes f).shunts = s.shunts := rfl
@[simp] theorem State.modRes_results (f : Ana → Ana) : (s.modRes f).results = f s.results := rfl
@[simp] theorem State.modRes_therm (f : Ana → Ana) : (s.modRes f).therm = s.therm := rfl
@[simp] theorem State.modRes_pwr (f : Ana → Ana) : (s.modRes f).pwr = s.pwr := rfl
@[simp] theorem State.modRes_loop (f : Ana → Ana) : (s.modRes f).loop = s.loop := rfl
@[simp] theorem State.modRes_tu (f : Ana → Ana) : (s.modRes f).tu = s.tu := rfl
@[simp] theorem State.modRes_acc (f : Ana → Ana) : (s.modRes f).acc = s.acc := rfl
@[simp] theorem State.modRes_host (f : Ana → Ana) : (s.modRes f).host = s.host := rfl
@[simp] theorem State.modRes_flt (f : Ana → Ana) : (s.modRes f).flt = s.flt := rfl
@[simp] theorem State.modRes_bist (f : Ana → Ana) : (s.modRes f).bist = s.bist := rfl
@[simp] theorem State.modRes_chk (f : Ana → Ana) : (s.modRes f).chk = s.chk := rfl
@[simp] theorem State.modRes_nvm (f : Ana → Ana) : (s.modRes f).nvm = s.nvm := rfl
@[simp] theorem State.modRes_stopOrigin (f : Ana → Ana) : (s.modRes f).stopOrigin = s.stopOrigin := rfl
@[simp] theorem State.modRes_out (f : Ana → Ana) : (s.modRes f).out = s.out := rfl
@[simp] theorem State.modRes_free (f : Ana → Ana) : (s.modRes f).free = s.free := rfl
@[simp] theorem State.modRes_pending (f : Ana → Ana) : (s.modRes f).pending = s.pending := rfl

/-! ### modTherm -/

@[simp] theorem State.modTherm_now (f : Therm → Therm) : (s.modTherm f).now = s.now := rfl
@[simp] theorem State.modTherm_glb (f : Therm → Therm) : (s.modTherm f).glb = s.glb := rfl
@[simp] theorem State.modTherm_pins (f : Therm → Therm) : (s.modTherm f).pins = s.pins := rfl
@[simp] theorem State.modTherm_regs (f : Therm → Therm) : (s.modTherm f).regs = s.regs := rfl
@[simp] theorem State.modTherm_cells (f : Therm → Therm) : (s.modTherm f).cells = s.cells := rfl
@[simp] theorem State.modTherm_meas (f : Therm → Therm) : (s.modTherm f).meas = s.meas := rfl
@[simp] theorem State.modTherm_temps (f : Therm → Therm) : (s.modTherm f).temps = s.temps := rfl
@[simp] theorem State.modTherm_ana (f : Therm → Therm) : (s.modTherm f).ana = s.ana := rfl
@[simp] theorem State.modTherm_segs (f : Therm → Therm) : (s.modTherm f).segs = s.segs := rfl
@[simp] theorem State.modTherm_links (f : Therm → Therm) : (s.modTherm f).links = s.links := rfl
@[simp] theorem State.modTherm_play (f : Therm → Therm) : (s.modTherm f).play = s.play := rfl
@[simp] theorem State.modTherm_spc (f : Therm → Therm) : (s.modTherm f).spc = s.spc := rfl
@[simp] theorem State.modTherm_shunts (f : Therm → Therm) : (s.modTherm f).shunts = s.shunts := rfl
@[simp] theorem State.modTherm_results (f : Therm → Therm) : (s.modTherm f).results = s.results := rfl
@[simp] theorem State.modTherm_therm (f : Therm → Therm) : (s.modTherm f).therm = f s.therm := rfl
@[simp] theorem State.modTherm_pwr (f : Therm → Therm) : (s.modTherm f).pwr = s.pwr := rfl
@[simp] theorem State.modTherm_loop (f : Therm → Therm) : (s.modTherm f).loop = s.loop := rfl
@[simp] theorem State.modTherm_tu (f : Therm → Therm) : (s.modTherm f).tu = s.tu := rfl
@[simp] theorem State.modTherm_acc (f : Therm → Therm) : (s.modTherm f).acc = s.acc := rfl
@[simp] theorem State.modTherm_host (f : Therm → Therm) : (s.modTherm f).host = s.host := rfl
@[simp] theorem State.modTherm_flt (f : Therm → Therm) : (s.modTherm f).flt = s.flt := rfl
@[simp] theorem State.modTherm_bist (f : Therm → Therm) : (s.modTherm f).bist = s.bist := rfl
@[simp] theorem State.modTherm_chk (f : Therm → Therm) : (s.modTherm f).chk = s.chk := rfl
@[simp] theorem State.modTherm_nvm (f : Therm → Therm) : (s.modTherm f).nvm = s.nvm := rfl
@[simp] theorem State.modTherm_stopOrigin (f : Therm → Therm) : (s.modTherm f).stopOrigin = s.stopOrigin := rfl
@[simp] theorem State.modTherm_out (f : Therm → Therm) : (s.modTherm f).out = s.out := rfl
@[simp] theorem State.modTherm_free (f : Therm → Therm) : (s.modTherm f).free = s.free := rfl
@[simp] theorem State.modTherm_pending (f : Therm → Therm) : (s.modTherm f).pending = s.pending := rfl

/-! ### modTu -/

@[simp] theorem State.modTu_now (f : TimeUnit → TimeUnit) : (s.modTu f).now = s.now := rfl
@[simp] theorem State.modTu_glb (f : TimeUnit → TimeUnit) : (s.modTu f).glb = s.glb := rfl
@[simp] theorem State.modTu_pins (f : TimeUnit → TimeUnit) : (s.modTu f).pins = s.pins := rfl
@[simp] theorem State.modTu_regs (f : TimeUnit → TimeUnit) : (s.modTu f).regs = s.regs := rfl
@[simp] theorem State.modTu_cells (f : TimeUnit → TimeUnit) : (s.modTu f).cells = s.cells := rfl
@[simp] theorem State.modTu_meas (f : TimeUnit → TimeUnit) : (s.modTu f).meas = s.meas := rfl
@[simp] theorem State.modTu_temps (f : TimeUnit → TimeUnit) : (s.modTu f).temps = s.temps := rfl
@[simp] theorem State.modTu_ana (f : TimeUnit → TimeUnit) : (s.modTu f).ana = s.ana := rfl
@[simp] theorem State.modTu_segs (f : TimeUnit → TimeUnit) : (s.modTu f).segs = s.segs := rfl
@[simp] theorem State.modTu_links (f : TimeUnit → TimeUnit) : (s.modTu f).links = s.links := rfl
@[simp] theorem State.modTu_play (f : TimeUnit → TimeUnit) : (s.modTu f).play = s.play := rfl
@[simp] theorem State.modTu_spc (f : TimeUnit → TimeUnit) : (s.modTu f).spc = s.spc := rfl
@[simp] theorem State.modTu_shunts (f : TimeUnit → TimeUnit) : (s.modTu f).shunts = s.shunts := rfl
@[simp] theorem State.modTu_results (f : TimeUnit → TimeUnit) : (s.modTu f).results = s.results := rfl
@[simp] theorem State.modTu_therm (f : TimeUnit → TimeUnit) : (s.modTu f).therm = s.therm := rfl
@[simp] theorem State.modTu_pwr (f : TimeUnit → TimeUnit) : (s.modTu f).pwr = s.pwr := rfl
@[simp] theorem State.modTu_loop (f : TimeUnit → TimeUnit) : (s.modTu f).loop = s.loop := rfl
@[simp] theorem State.modTu_tu (f : TimeUnit → TimeUnit) : (s.modTu f).tu = f s.tu := rfl
@[simp] theorem State.modTu_acc (f : TimeUnit → TimeUnit) : (s.modTu f).acc = s.acc := rfl
@[simp] theorem State.modTu_host (f : TimeUnit → TimeUnit) : (s.modTu f).host = s.host := rfl
@[simp] theorem State.modTu_flt (f : TimeUnit → TimeUnit) : (s.modTu f).flt = s.flt := rfl
@[simp] theorem State.modTu_bist (f : TimeUnit → TimeUnit) : (s.modTu f).bist = s.bist := rfl
@[simp] theorem State.modTu_chk (f : TimeUnit → TimeUnit) : (s.modTu f).chk = s.chk := rfl
@[simp] theorem State.modTu_nvm (f : TimeUnit → TimeUnit) : (s.modTu f).nvm = s.nvm := rfl
@[simp] theorem State.modTu_stopOrigin (f : TimeUnit → TimeUnit) : (s.modTu f).stopOrigin = s.stopOrigin := rfl
@[simp] theorem State.modTu_out (f : TimeUnit → TimeUnit) : (s.modTu f).out = s.out := rfl
@[simp] theorem State.modTu_free (f : TimeUnit → TimeUnit) : (s.modTu f).free = s.free := rfl
@[simp] theorem State.modTu_pending (f : TimeUnit → TimeUnit) : (s.modTu f).pending = s.pending := rfl

/-! ### modAcc -/

@[simp] theorem State.modAcc_now (f : Accord → Accord) : (s.modAcc f).now = s.now := rfl
@[simp] theorem State.modAcc_glb (f : Accord → Accord) : (s.modAcc f).glb = s.glb := rfl
@[simp] theorem State.modAcc_pins (f : Accord → Accord) : (s.modAcc f).pins = s.pins := rfl
@[simp] theorem State.modAcc_regs (f : Accord → Accord) : (s.modAcc f).regs = s.regs := rfl
@[simp] theorem State.modAcc_cells (f : Accord → Accord) : (s.modAcc f).cells = s.cells := rfl
@[simp] theorem State.modAcc_meas (f : Accord → Accord) : (s.modAcc f).meas = s.meas := rfl
@[simp] theorem State.modAcc_temps (f : Accord → Accord) : (s.modAcc f).temps = s.temps := rfl
@[simp] theorem State.modAcc_ana (f : Accord → Accord) : (s.modAcc f).ana = s.ana := rfl
@[simp] theorem State.modAcc_segs (f : Accord → Accord) : (s.modAcc f).segs = s.segs := rfl
@[simp] theorem State.modAcc_links (f : Accord → Accord) : (s.modAcc f).links = s.links := rfl
@[simp] theorem State.modAcc_play (f : Accord → Accord) : (s.modAcc f).play = s.play := rfl
@[simp] theorem State.modAcc_spc (f : Accord → Accord) : (s.modAcc f).spc = s.spc := rfl
@[simp] theorem State.modAcc_shunts (f : Accord → Accord) : (s.modAcc f).shunts = s.shunts := rfl
@[simp] theorem State.modAcc_results (f : Accord → Accord) : (s.modAcc f).results = s.results := rfl
@[simp] theorem State.modAcc_therm (f : Accord → Accord) : (s.modAcc f).therm = s.therm := rfl
@[simp] theorem State.modAcc_pwr (f : Accord → Accord) : (s.modAcc f).pwr = s.pwr := rfl
@[simp] theorem State.modAcc_loop (f : Accord → Accord) : (s.modAcc f).loop = s.loop := rfl
@[simp] theorem State.modAcc_tu (f : Accord → Accord) : (s.modAcc f).tu = s.tu := rfl
@[simp] theorem State.modAcc_acc (f : Accord → Accord) : (s.modAcc f).acc = f s.acc := rfl
@[simp] theorem State.modAcc_host (f : Accord → Accord) : (s.modAcc f).host = s.host := rfl
@[simp] theorem State.modAcc_flt (f : Accord → Accord) : (s.modAcc f).flt = s.flt := rfl
@[simp] theorem State.modAcc_bist (f : Accord → Accord) : (s.modAcc f).bist = s.bist := rfl
@[simp] theorem State.modAcc_chk (f : Accord → Accord) : (s.modAcc f).chk = s.chk := rfl
@[simp] theorem State.modAcc_nvm (f : Accord → Accord) : (s.modAcc f).nvm = s.nvm := rfl
@[simp] theorem State.modAcc_stopOrigin (f : Accord → Accord) : (s.modAcc f).stopOrigin = s.stopOrigin := rfl
@[simp] theorem State.modAcc_out (f : Accord → Accord) : (s.modAcc f).out = s.out := rfl
@[simp] theorem State.modAcc_free (f : Accord → Accord) : (s.modAcc f).free = s.free := rfl
@[simp] theorem State.modAcc_pending (f : Accord → Accord) : (s.modAcc f).pending = s.pending := rfl

/-! ### store -/

@[simp] theorem State.store_now (off : Nat) (w : Word) : (s.store off w).now = s.now := rfl
@[simp] theorem State.store_glb (off : Nat) (w : Word) : (s.store off w).glb = s.glb := rfl
@[simp] theorem State.store_pins (off : Nat) (w : Word) : (s.store off w).pins = s.pins := rfl
@[simp] theorem State.store_regs (off : Nat) (w : Word) : (s.store off w).regs = Sparse.put resetOf s.regs off w := rfl
@[simp] theorem State.store_cells (off : Nat) (w : Word) : (s.store off w).cells = s.cells := rfl
@[simp] theorem State.store_meas (off : Nat) (w : Word) : (s.store off w).meas = s.meas := rfl
@[simp] theorem State.store_temps (off : Nat) (w : Word) : (s.store off w).temps = s.temps := rfl
@[simp] theorem State.store_ana (off : Nat) (w : Word) : (s.store off w).ana = s.ana := rfl
@[simp] theorem State.store_segs (off : Nat) (w : Word) : (s.store off w).segs = s.segs := rfl
@[simp] theorem State.store_links (off : Nat) (w : Word) : (s.store off w).links = s.links := rfl
@[simp] theorem State.store_play (off : Nat) (w : Word) : (s.store off w).play = s.play := rfl
@[simp] theorem State.store_spc (off : Nat) (w : Word) : (s.store off w).spc = s.spc := rfl
@[simp] theorem State.store_shunts (off : Nat) (w : Word) : (s.store off w).shunts = s.shunts := rfl
@[simp] theorem State.store_results (off : Nat) (w : Word) : (s.store off w).results = s.results := rfl
@[simp] theorem State.store_therm (off : Nat) (w : Word) : (s.store off w).therm = s.therm := rfl
@[simp] theorem State.store_pwr (off : Nat) (w : Word) : (s.store off w).pwr = s.pwr := rfl
@[simp] theorem State.store_loop (off : Nat) (w : Word) : (s.store off w).loop = s.loop := rfl
@[simp] theorem State.store_tu (off : Nat) (w : Word) : (s.store off w).tu = s.tu := rfl
@[simp] theorem State.store_acc (off : Nat) (w : Word) : (s.store off w).acc = s.acc := rfl
@[simp] theorem State.store_host (off : Nat) (w : Word) : (s.store off w).host = s.host := rfl
@[simp] theorem State.store_flt (off : Nat) (w : Word) : (s.store off w).flt = s.flt := rfl
@[simp] theorem State.store_bist (off : Nat) (w : Word) : (s.store off w).bist = s.bist := rfl
@[simp] theorem State.store_chk (off : Nat) (w : Word) : (s.store off w).chk = s.chk := rfl
@[simp] theorem State.store_nvm (off : Nat) (w : Word) : (s.store off w).nvm = s.nvm := rfl
@[simp] theorem State.store_stopOrigin (off : Nat) (w : Word) : (s.store off w).stopOrigin = s.stopOrigin := rfl
@[simp] theorem State.store_out (off : Nat) (w : Word) : (s.store off w).out = s.out := rfl
@[simp] theorem State.store_free (off : Nat) (w : Word) : (s.store off w).free = s.free := rfl
@[simp] theorem State.store_pending (off : Nat) (w : Word) : (s.store off w).pending = s.pending := rfl

/-! ### setFld -/

@[simp] theorem State.setFld_now (f : Field) (v : Nat) : (s.setFld f v).now = s.now := rfl
@[simp] theorem State.setFld_glb (f : Field) (v : Nat) : (s.setFld f v).glb = s.glb := rfl
@[simp] theorem State.setFld_pins (f : Field) (v : Nat) : (s.setFld f v).pins = s.pins := rfl
@[simp] theorem State.setFld_regs (f : Field) (v : Nat) : (s.setFld f v).regs = Sparse.put resetOf s.regs f.off (withField f (s.stored f.off) v) := rfl
@[simp] theorem State.setFld_cells (f : Field) (v : Nat) : (s.setFld f v).cells = s.cells := rfl
@[simp] theorem State.setFld_meas (f : Field) (v : Nat) : (s.setFld f v).meas = s.meas := rfl
@[simp] theorem State.setFld_temps (f : Field) (v : Nat) : (s.setFld f v).temps = s.temps := rfl
@[simp] theorem State.setFld_ana (f : Field) (v : Nat) : (s.setFld f v).ana = s.ana := rfl
@[simp] theorem State.setFld_segs (f : Field) (v : Nat) : (s.setFld f v).segs = s.segs := rfl
@[simp] theorem State.setFld_links (f : Field) (v : Nat) : (s.setFld f v).links = s.links := rfl
@[simp] theorem State.setFld_play (f : Field) (v : Nat) : (s.setFld f v).play = s.play := rfl
@[simp] theorem State.setFld_spc (f : Field) (v : Nat) : (s.setFld f v).spc = s.spc := rfl
@[simp] theorem State.setFld_shunts (f : Field) (v : Nat) : (s.setFld f v).shunts = s.shunts := rfl
@[simp] theorem State.setFld_results (f : Field) (v : Nat) : (s.setFld f v).results = s.results := rfl
@[simp] theorem State.setFld_therm (f : Field) (v : Nat) : (s.setFld f v).therm = s.therm := rfl
@[simp] theorem State.setFld_pwr (f : Field) (v : Nat) : (s.setFld f v).pwr = s.pwr := rfl
@[simp] theorem State.setFld_loop (f : Field) (v : Nat) : (s.setFld f v).loop = s.loop := rfl
@[simp] theorem State.setFld_tu (f : Field) (v : Nat) : (s.setFld f v).tu = s.tu := rfl
@[simp] theorem State.setFld_acc (f : Field) (v : Nat) : (s.setFld f v).acc = s.acc := rfl
@[simp] theorem State.setFld_host (f : Field) (v : Nat) : (s.setFld f v).host = s.host := rfl
@[simp] theorem State.setFld_flt (f : Field) (v : Nat) : (s.setFld f v).flt = s.flt := rfl
@[simp] theorem State.setFld_bist (f : Field) (v : Nat) : (s.setFld f v).bist = s.bist := rfl
@[simp] theorem State.setFld_chk (f : Field) (v : Nat) : (s.setFld f v).chk = s.chk := rfl
@[simp] theorem State.setFld_nvm (f : Field) (v : Nat) : (s.setFld f v).nvm = s.nvm := rfl
@[simp] theorem State.setFld_stopOrigin (f : Field) (v : Nat) : (s.setFld f v).stopOrigin = s.stopOrigin := rfl
@[simp] theorem State.setFld_out (f : Field) (v : Nat) : (s.setFld f v).out = s.out := rfl
@[simp] theorem State.setFld_free (f : Field) (v : Nat) : (s.setFld f v).free = s.free := rfl
@[simp] theorem State.setFld_pending (f : Field) (v : Nat) : (s.setFld f v).pending = s.pending := rfl

/-! ### emit -/

@[simp] theorem State.emit_now (x : Output) : (s.emit x).now = s.now := rfl
@[simp] theorem State.emit_glb (x : Output) : (s.emit x).glb = s.glb := rfl
@[simp] theorem State.emit_pins (x : Output) : (s.emit x).pins = s.pins := rfl
@[simp] theorem State.emit_regs (x : Output) : (s.emit x).regs = s.regs := rfl
@[simp] theorem State.emit_cells (x : Output) : (s.emit x).cells = s.cells := rfl
@[simp] theorem State.emit_meas (x : Output) : (s.emit x).meas = s.meas := rfl
@[simp] theorem State.emit_temps (x : Output) : (s.emit x).temps = s.temps := rfl
@[simp] theorem State.emit_ana (x : Output) : (s.emit x).ana = s.ana := rfl
@[simp] theorem State.emit_segs (x : Output) : (s.emit x).segs = s.segs := rfl
@[simp] theorem State.emit_links (x : Output) : (s.emit x).links = s.links := rfl
@[simp] theorem State.emit_play (x : Output) : (s.emit x).play = s.play := rfl
@[simp] theorem State.emit_spc (x : Output) : (s.emit x).spc = s.spc := rfl
@[simp] theorem State.emit_shunts (x : Output) : (s.emit x).shunts = s.shunts := rfl
@[simp] theorem State.emit_results (x : Output) : (s.emit x).results = s.results := rfl
@[simp] theorem State.emit_therm (x : Output) : (s.emit x).therm = s.therm := rfl
@[simp] theorem State.emit_pwr (x : Output) : (s.emit x).pwr = s.pwr := rfl
@[simp] theorem State.emit_loop (x : Output) : (s.emit x).loop = s.loop := rfl
@[simp] theorem State.emit_tu (x : Output) : (s.emit x).tu = s.tu := rfl
@[simp] theorem State.emit_acc (x : Output) : (s.emit x).acc = s.acc := rfl
@[simp] theorem State.emit_host (x : Output) : (s.emit x).host = s.host := rfl
@[simp] theorem State.emit_flt (x : Output) : (s.emit x).flt = s.flt := rfl
@[simp] theorem State.emit_bist (x : Output) : (s.emit x).bist = s.bist := rfl
@[simp] theorem State.emit_chk (x : Output) : (s.emit x).chk = s.chk := rfl
@[simp] theorem State.emit_nvm (x : Output) : (s.emit x).nvm = s.nvm := rfl
@[simp] theorem State.emit_stopOrigin (x : Output) : (s.emit x).stopOrigin = s.stopOrigin := rfl
@[simp] theorem State.emit_out (x : Output) : (s.emit x).out = x :: s.out := rfl
@[simp] theorem State.emit_free (x : Output) : (s.emit x).free = s.free := rfl
@[simp] theorem State.emit_pending (x : Output) : (s.emit x).pending = s.pending := rfl

/-! ### enter -/

@[simp] theorem State.enter_now (m : ModState) : (s.enter m).now = s.now := rfl
@[simp] theorem State.enter_glb (m : ModState) : (s.enter m).glb = { s.glb with st := m, prev := s.glb.st, enteredAt := s.now } := rfl
@[simp] theorem State.enter_pins (m : ModState) : (s.enter m).pins = s.pins := rfl
@[simp] theorem State.enter_regs (m : ModState) : (s.enter m).regs = s.regs := rfl
@[simp] theorem State.enter_cells (m : ModState) : (s.enter m).cells = s.cells := rfl
@[simp] theorem State.enter_meas (m : ModState) : (s.enter m).meas = s.meas := rfl
@[simp] theorem State.enter_temps (m : ModState) : (s.enter m).temps = s.temps := rfl
@[simp] theorem State.enter_ana (m : ModState) : (s.enter m).ana = s.ana := rfl
@[simp] theorem State.enter_segs (m : ModState) : (s.enter m).segs = s.segs := rfl
@[simp] theorem State.enter_links (m : ModState) : (s.enter m).links = s.links := rfl
@[simp] theorem State.enter_play (m : ModState) : (s.enter m).play = s.play := rfl
@[simp] theorem State.enter_spc (m : ModState) : (s.enter m).spc = s.spc := rfl
@[simp] theorem State.enter_shunts (m : ModState) : (s.enter m).shunts = s.shunts := rfl
@[simp] theorem State.enter_results (m : ModState) : (s.enter m).results = s.results := rfl
@[simp] theorem State.enter_therm (m : ModState) : (s.enter m).therm = s.therm := rfl
@[simp] theorem State.enter_pwr (m : ModState) : (s.enter m).pwr = s.pwr := rfl
@[simp] theorem State.enter_loop (m : ModState) : (s.enter m).loop = s.loop := rfl
@[simp] theorem State.enter_tu (m : ModState) : (s.enter m).tu = s.tu := rfl
@[simp] theorem State.enter_acc (m : ModState) : (s.enter m).acc = s.acc := rfl
@[simp] theorem State.enter_host (m : ModState) : (s.enter m).host = s.host := rfl
@[simp] theorem State.enter_flt (m : ModState) : (s.enter m).flt = s.flt := rfl
@[simp] theorem State.enter_bist (m : ModState) : (s.enter m).bist = s.bist := rfl
@[simp] theorem State.enter_chk (m : ModState) : (s.enter m).chk = s.chk := rfl
@[simp] theorem State.enter_nvm (m : ModState) : (s.enter m).nvm = s.nvm := rfl
@[simp] theorem State.enter_stopOrigin (m : ModState) : (s.enter m).stopOrigin = s.stopOrigin := rfl
@[simp] theorem State.enter_out (m : ModState) : (s.enter m).out = s.out := rfl
@[simp] theorem State.enter_free (m : ModState) : (s.enter m).free = s.free := rfl
@[simp] theorem State.enter_pending (m : ModState) : (s.enter m).pending = s.pending := rfl

/-! ### tick -/

@[simp] theorem State.tick_now : (s.tick).now = timeAdd s.now 4 := rfl
@[simp] theorem State.tick_glb : (s.tick).glb = s.glb := rfl
@[simp] theorem State.tick_pins : (s.tick).pins = s.pins := rfl
@[simp] theorem State.tick_regs : (s.tick).regs = s.regs := rfl
@[simp] theorem State.tick_cells : (s.tick).cells = s.cells := rfl
@[simp] theorem State.tick_meas : (s.tick).meas = s.meas := rfl
@[simp] theorem State.tick_temps : (s.tick).temps = s.temps := rfl
@[simp] theorem State.tick_ana : (s.tick).ana = s.ana := rfl
@[simp] theorem State.tick_segs : (s.tick).segs = s.segs := rfl
@[simp] theorem State.tick_links : (s.tick).links = s.links := rfl
@[simp] theorem State.tick_play : (s.tick).play = s.play := rfl
@[simp] theorem State.tick_spc : (s.tick).spc = s.spc := rfl
@[simp] theorem State.tick_shunts : (s.tick).shunts = s.shunts := rfl
@[simp] theorem State.tick_results : (s.tick).results = s.results := rfl
@[simp] theorem State.tick_therm : (s.tick).therm = s.therm := rfl
@[simp] theorem State.tick_pwr : (s.tick).pwr = s.pwr := rfl
@[simp] theorem State.tick_loop : (s.tick).loop = s.loop := rfl
@[simp] theorem State.tick_tu : (s.tick).tu = s.tu := rfl
@[simp] theorem State.tick_acc : (s.tick).acc = s.acc := rfl
@[simp] theorem State.tick_host : (s.tick).host = s.host := rfl
@[simp] theorem State.tick_flt : (s.tick).flt = s.flt := rfl
@[simp] theorem State.tick_bist : (s.tick).bist = s.bist := rfl
@[simp] theorem State.tick_chk : (s.tick).chk = s.chk := rfl
@[simp] theorem State.tick_nvm : (s.tick).nvm = s.nvm := rfl
@[simp] theorem State.tick_stopOrigin : (s.tick).stopOrigin = s.stopOrigin := rfl
@[simp] theorem State.tick_out : (s.tick).out = s.out := rfl
@[simp] theorem State.tick_free : (s.tick).free = s.free := rfl
@[simp] theorem State.tick_pending : (s.tick).pending = s.pending := rfl

/-! ### freeBits -/

@[simp] theorem State.freeBits_now : (s.freeBits.2).now = s.now := rfl
@[simp] theorem State.freeBits_glb : (s.freeBits.2).glb = s.glb := rfl
@[simp] theorem State.freeBits_pins : (s.freeBits.2).pins = s.pins := rfl
@[simp] theorem State.freeBits_regs : (s.freeBits.2).regs = s.regs := rfl
@[simp] theorem State.freeBits_cells : (s.freeBits.2).cells = s.cells := rfl
@[simp] theorem State.freeBits_meas : (s.freeBits.2).meas = s.meas := rfl
@[simp] theorem State.freeBits_temps : (s.freeBits.2).temps = s.temps := rfl
@[simp] theorem State.freeBits_ana : (s.freeBits.2).ana = s.ana := rfl
@[simp] theorem State.freeBits_segs : (s.freeBits.2).segs = s.segs := rfl
@[simp] theorem State.freeBits_links : (s.freeBits.2).links = s.links := rfl
@[simp] theorem State.freeBits_play : (s.freeBits.2).play = s.play := rfl
@[simp] theorem State.freeBits_spc : (s.freeBits.2).spc = s.spc := rfl
@[simp] theorem State.freeBits_shunts : (s.freeBits.2).shunts = s.shunts := rfl
@[simp] theorem State.freeBits_results : (s.freeBits.2).results = s.results := rfl
@[simp] theorem State.freeBits_therm : (s.freeBits.2).therm = s.therm := rfl
@[simp] theorem State.freeBits_pwr : (s.freeBits.2).pwr = s.pwr := rfl
@[simp] theorem State.freeBits_loop : (s.freeBits.2).loop = s.loop := rfl
@[simp] theorem State.freeBits_tu : (s.freeBits.2).tu = s.tu := rfl
@[simp] theorem State.freeBits_acc : (s.freeBits.2).acc = s.acc := rfl
@[simp] theorem State.freeBits_host : (s.freeBits.2).host = s.host := rfl
@[simp] theorem State.freeBits_flt : (s.freeBits.2).flt = s.flt := rfl
@[simp] theorem State.freeBits_bist : (s.freeBits.2).bist = s.bist := rfl
@[simp] theorem State.freeBits_chk : (s.freeBits.2).chk = s.chk := rfl
@[simp] theorem State.freeBits_nvm : (s.freeBits.2).nvm = s.nvm := rfl
@[simp] theorem State.freeBits_stopOrigin : (s.freeBits.2).stopOrigin = s.stopOrigin := rfl
@[simp] theorem State.freeBits_out : (s.freeBits.2).out = s.out := rfl
@[simp] theorem State.freeBits_free : (s.freeBits.2).free = s.free + 1 := rfl
@[simp] theorem State.freeBits_pending : (s.freeBits.2).pending = s.pending := rfl

/-! ### freeBool -/

@[simp] theorem State.freeBool_now : (s.freeBool.2).now = s.now := rfl
@[simp] theorem State.freeBool_glb : (s.freeBool.2).glb = s.glb := rfl
@[simp] theorem State.freeBool_pins : (s.freeBool.2).pins = s.pins := rfl
@[simp] theorem State.freeBool_regs : (s.freeBool.2).regs = s.regs := rfl
@[simp] theorem State.freeBool_cells : (s.freeBool.2).cells = s.cells := rfl
@[simp] theorem State.freeBool_meas : (s.freeBool.2).meas = s.meas := rfl
@[simp] theorem State.freeBool_temps : (s.freeBool.2).temps = s.temps := rfl
@[simp] theorem State.freeBool_ana : (s.freeBool.2).ana = s.ana := rfl
@[simp] theorem State.freeBool_segs : (s.freeBool.2).segs = s.segs := rfl
@[simp] theorem State.freeBool_links : (s.freeBool.2).links = s.links := rfl
@[simp] theorem State.freeBool_play : (s.freeBool.2).play = s.play := rfl
@[simp] theorem State.freeBool_spc : (s.freeBool.2).spc = s.spc := rfl
@[simp] theorem State.freeBool_shunts : (s.freeBool.2).shunts = s.shunts := rfl
@[simp] theorem State.freeBool_results : (s.freeBool.2).results = s.results := rfl
@[simp] theorem State.freeBool_therm : (s.freeBool.2).therm = s.therm := rfl
@[simp] theorem State.freeBool_pwr : (s.freeBool.2).pwr = s.pwr := rfl
@[simp] theorem State.freeBool_loop : (s.freeBool.2).loop = s.loop := rfl
@[simp] theorem State.freeBool_tu : (s.freeBool.2).tu = s.tu := rfl
@[simp] theorem State.freeBool_acc : (s.freeBool.2).acc = s.acc := rfl
@[simp] theorem State.freeBool_host : (s.freeBool.2).host = s.host := rfl
@[simp] theorem State.freeBool_flt : (s.freeBool.2).flt = s.flt := rfl
@[simp] theorem State.freeBool_bist : (s.freeBool.2).bist = s.bist := rfl
@[simp] theorem State.freeBool_chk : (s.freeBool.2).chk = s.chk := rfl
@[simp] theorem State.freeBool_nvm : (s.freeBool.2).nvm = s.nvm := rfl
@[simp] theorem State.freeBool_stopOrigin : (s.freeBool.2).stopOrigin = s.stopOrigin := rfl
@[simp] theorem State.freeBool_out : (s.freeBool.2).out = s.out := rfl
@[simp] theorem State.freeBool_free : (s.freeBool.2).free = s.free + 1 := rfl
@[simp] theorem State.freeBool_pending : (s.freeBool.2).pending = s.pending := rfl

/-! ### setPins -/

@[simp] theorem State.setPins_now (x : Pins) : (s.setPins x).now = s.now := rfl
@[simp] theorem State.setPins_glb (x : Pins) : (s.setPins x).glb = s.glb := rfl
@[simp] theorem State.setPins_pins (x : Pins) : (s.setPins x).pins = x := rfl
@[simp] theorem State.setPins_regs (x : Pins) : (s.setPins x).regs = s.regs := rfl
@[simp] theorem State.setPins_cells (x : Pins) : (s.setPins x).cells = s.cells := rfl
@[simp] theorem State.setPins_meas (x : Pins) : (s.setPins x).meas = s.meas := rfl
@[simp] theorem State.setPins_temps (x : Pins) : (s.setPins x).temps = s.temps := rfl
@[simp] theorem State.setPins_ana (x : Pins) : (s.setPins x).ana = s.ana := rfl
@[simp] theorem State.setPins_segs (x : Pins) : (s.setPins x).segs = s.segs := rfl
@[simp] theorem State.setPins_links (x : Pins) : (s.setPins x).links = s.links := rfl
@[simp] theorem State.setPins_play (x : Pins) : (s.setPins x).play = s.play := rfl
@[simp] theorem State.setPins_spc (x : Pins) : (s.setPins x).spc = s.spc := rfl
@[simp] theorem State.setPins_shunts (x : Pins) : (s.setPins x).shunts = s.shunts := rfl
@[simp] theorem State.setPins_results (x : Pins) : (s.setPins x).results = s.results := rfl
@[simp] theorem State.setPins_therm (x : Pins) : (s.setPins x).therm = s.therm := rfl
@[simp] theorem State.setPins_pwr (x : Pins) : (s.setPins x).pwr = s.pwr := rfl
@[simp] theorem State.setPins_loop (x : Pins) : (s.setPins x).loop = s.loop := rfl
@[simp] theorem State.setPins_tu (x : Pins) : (s.setPins x).tu = s.tu := rfl
@[simp] theorem State.setPins_acc (x : Pins) : (s.setPins x).acc = s.acc := rfl
@[simp] theorem State.setPins_host (x : Pins) : (s.setPins x).host = s.host := rfl
@[simp] theorem State.setPins_flt (x : Pins) : (s.setPins x).flt = s.flt := rfl
@[simp] theorem State.setPins_bist (x : Pins) : (s.setPins x).bist = s.bist := rfl
@[simp] theorem State.setPins_chk (x : Pins) : (s.setPins x).chk = s.chk := rfl
@[simp] theorem State.setPins_nvm (x : Pins) : (s.setPins x).nvm = s.nvm := rfl
@[simp] theorem State.setPins_stopOrigin (x : Pins) : (s.setPins x).stopOrigin = s.stopOrigin := rfl
@[simp] theorem State.setPins_out (x : Pins) : (s.setPins x).out = s.out := rfl
@[simp] theorem State.setPins_free (x : Pins) : (s.setPins x).free = s.free := rfl
@[simp] theorem State.setPins_pending (x : Pins) : (s.setPins x).pending = s.pending := rfl

/-! ### putCells -/

@[simp] theorem State.putCells_now (x : Vec CellPath 256) : (s.putCells x).now = s.now := rfl
@[simp] theorem State.putCells_glb (x : Vec CellPath 256) : (s.putCells x).glb = s.glb := rfl
@[simp] theorem State.putCells_pins (x : Vec CellPath 256) : (s.putCells x).pins = s.pins := rfl
@[simp] theorem State.putCells_regs (x : Vec CellPath 256) : (s.putCells x).regs = s.regs := rfl
@[simp] theorem State.putCells_cells (x : Vec CellPath 256) : (s.putCells x).cells = x := rfl
@[simp] theorem State.putCells_meas (x : Vec CellPath 256) : (s.putCells x).meas = s.meas := rfl
@[simp] theorem State.putCells_temps (x : Vec CellPath 256) : (s.putCells x).temps = s.temps := rfl
@[simp] theorem State.putCells_ana (x : Vec CellPath 256) : (s.putCells x).ana = s.ana := rfl
@[simp] theorem State.putCells_segs (x : Vec CellPath 256) : (s.putCells x).segs = s.segs := rfl
@[simp] theorem State.putCells_links (x : Vec CellPath 256) : (s.putCells x).links = s.links := rfl
@[simp] theorem State.putCells_play (x : Vec CellPath 256) : (s.putCells x).play = s.play := rfl
@[simp] theorem State.putCells_spc (x : Vec CellPath 256) : (s.putCells x).spc = s.spc := rfl
@[simp] theorem State.putCells_shunts (x : Vec CellPath 256) : (s.putCells x).shunts = s.shunts := rfl
@[simp] theorem State.putCells_results (x : Vec CellPath 256) : (s.putCells x).results = s.results := rfl
@[simp] theorem State.putCells_therm (x : Vec CellPath 256) : (s.putCells x).therm = s.therm := rfl
@[simp] theorem State.putCells_pwr (x : Vec CellPath 256) : (s.putCells x).pwr = s.pwr := rfl
@[simp] theorem State.putCells_loop (x : Vec CellPath 256) : (s.putCells x).loop = s.loop := rfl
@[simp] theorem State.putCells_tu (x : Vec CellPath 256) : (s.putCells x).tu = s.tu := rfl
@[simp] theorem State.putCells_acc (x : Vec CellPath 256) : (s.putCells x).acc = s.acc := rfl
@[simp] theorem State.putCells_host (x : Vec CellPath 256) : (s.putCells x).host = s.host := rfl
@[simp] theorem State.putCells_flt (x : Vec CellPath 256) : (s.putCells x).flt = s.flt := rfl
@[simp] theorem State.putCells_bist (x : Vec CellPath 256) : (s.putCells x).bist = s.bist := rfl
@[simp] theorem State.putCells_chk (x : Vec CellPath 256) : (s.putCells x).chk = s.chk := rfl
@[simp] theorem State.putCells_nvm (x : Vec CellPath 256) : (s.putCells x).nvm = s.nvm := rfl
@[simp] theorem State.putCells_stopOrigin (x : Vec CellPath 256) : (s.putCells x).stopOrigin = s.stopOrigin := rfl
@[simp] theorem State.putCells_out (x : Vec CellPath 256) : (s.putCells x).out = s.out := rfl
@[simp] theorem State.putCells_free (x : Vec CellPath 256) : (s.putCells x).free = s.free := rfl
@[simp] theorem State.putCells_pending (x : Vec CellPath 256) : (s.putCells x).pending = s.pending := rfl

/-! ### setMeas -/

@[simp] theorem State.setMeas_now (x : Vec CellMeas 256) : (s.setMeas x).now = s.now := rfl
@[simp] theorem State.setMeas_glb (x : Vec CellMeas 256) : (s.setMeas x).glb = s.glb := rfl
@[simp] theorem State.setMeas_pins (x : Vec CellMeas 256) : (s.setMeas x).pins = s.pins := rfl
@[simp] theorem State.setMeas_regs (x : Vec CellMeas 256) : (s.setMeas x).regs = s.regs := rfl
@[simp] theorem State.setMeas_cells (x : Vec CellMeas 256) : (s.setMeas x).cells = s.cells := rfl
@[simp] theorem State.setMeas_meas (x : Vec CellMeas 256) : (s.setMeas x).meas = x := rfl
@[simp] theorem State.setMeas_temps (x : Vec CellMeas 256) : (s.setMeas x).temps = s.temps := rfl
@[simp] theorem State.setMeas_ana (x : Vec CellMeas 256) : (s.setMeas x).ana = s.ana := rfl
@[simp] theorem State.setMeas_segs (x : Vec CellMeas 256) : (s.setMeas x).segs = s.segs := rfl
@[simp] theorem State.setMeas_links (x : Vec CellMeas 256) : (s.setMeas x).links = s.links := rfl
@[simp] theorem State.setMeas_play (x : Vec CellMeas 256) : (s.setMeas x).play = s.play := rfl
@[simp] theorem State.setMeas_spc (x : Vec CellMeas 256) : (s.setMeas x).spc = s.spc := rfl
@[simp] theorem State.setMeas_shunts (x : Vec CellMeas 256) : (s.setMeas x).shunts = s.shunts := rfl
@[simp] theorem State.setMeas_results (x : Vec CellMeas 256) : (s.setMeas x).results = s.results := rfl
@[simp] theorem State.setMeas_therm (x : Vec CellMeas 256) : (s.setMeas x).therm = s.therm := rfl
@[simp] theorem State.setMeas_pwr (x : Vec CellMeas 256) : (s.setMeas x).pwr = s.pwr := rfl
@[simp] theorem State.setMeas_loop (x : Vec CellMeas 256) : (s.setMeas x).loop = s.loop := rfl
@[simp] theorem State.setMeas_tu (x : Vec CellMeas 256) : (s.setMeas x).tu = s.tu := rfl
@[simp] theorem State.setMeas_acc (x : Vec CellMeas 256) : (s.setMeas x).acc = s.acc := rfl
@[simp] theorem State.setMeas_host (x : Vec CellMeas 256) : (s.setMeas x).host = s.host := rfl
@[simp] theorem State.setMeas_flt (x : Vec CellMeas 256) : (s.setMeas x).flt = s.flt := rfl
@[simp] theorem State.setMeas_bist (x : Vec CellMeas 256) : (s.setMeas x).bist = s.bist := rfl
@[simp] theorem State.setMeas_chk (x : Vec CellMeas 256) : (s.setMeas x).chk = s.chk := rfl
@[simp] theorem State.setMeas_nvm (x : Vec CellMeas 256) : (s.setMeas x).nvm = s.nvm := rfl
@[simp] theorem State.setMeas_stopOrigin (x : Vec CellMeas 256) : (s.setMeas x).stopOrigin = s.stopOrigin := rfl
@[simp] theorem State.setMeas_out (x : Vec CellMeas 256) : (s.setMeas x).out = s.out := rfl
@[simp] theorem State.setMeas_free (x : Vec CellMeas 256) : (s.setMeas x).free = s.free := rfl
@[simp] theorem State.setMeas_pending (x : Vec CellMeas 256) : (s.setMeas x).pending = s.pending := rfl

/-! ### setTemps -/

@[simp] theorem State.setTemps_now (x : Vec CellTemp 256) : (s.setTemps x).now = s.now := rfl
@[simp] theorem State.setTemps_glb (x : Vec CellTemp 256) : (s.setTemps x).glb = s.glb := rfl
@[simp] theorem State.setTemps_pins (x : Vec CellTemp 256) : (s.setTemps x).pins = s.pins := rfl
@[simp] theorem State.setTemps_regs (x : Vec CellTemp 256) : (s.setTemps x).regs = s.regs := rfl
@[simp] theorem State.setTemps_cells (x : Vec CellTemp 256) : (s.setTemps x).cells = s.cells := rfl
@[simp] theorem State.setTemps_meas (x : Vec CellTemp 256) : (s.setTemps x).meas = s.meas := rfl
@[simp] theorem State.setTemps_temps (x : Vec CellTemp 256) : (s.setTemps x).temps = x := rfl
@[simp] theorem State.setTemps_ana (x : Vec CellTemp 256) : (s.setTemps x).ana = s.ana := rfl
@[simp] theorem State.setTemps_segs (x : Vec CellTemp 256) : (s.setTemps x).segs = s.segs := rfl
@[simp] theorem State.setTemps_links (x : Vec CellTemp 256) : (s.setTemps x).links = s.links := rfl
@[simp] theorem State.setTemps_play (x : Vec CellTemp 256) : (s.setTemps x).play = s.play := rfl
@[simp] theorem State.setTemps_spc (x : Vec CellTemp 256) : (s.setTemps x).spc = s.spc := rfl
@[simp] theorem State.setTemps_shunts (x : Vec CellTemp 256) : (s.setTemps x).shunts = s.shunts := rfl
@[simp] theorem State.setTemps_results (x : Vec CellTemp 256) : (s.setTemps x).results = s.results := rfl
@[simp] theorem State.setTemps_therm (x : Vec CellTemp 256) : (s.setTemps x).therm = s.therm := rfl
@[simp] theorem State.setTemps_pwr (x : Vec CellTemp 256) : (s.setTemps x).pwr = s.pwr := rfl
@[simp] theorem State.setTemps_loop (x : Vec CellTemp 256) : (s.setTemps x).loop = s.loop := rfl
@[simp] theorem State.setTemps_tu (x : Vec CellTemp 256) : (s.setTemps x).tu = s.tu := rfl
@[simp] theorem State.setTemps_acc (x : Vec CellTemp 256) : (s.setTemps x).acc = s.acc := rfl
@[simp] theorem State.setTemps_host (x : Vec CellTemp 256) : (s.setTemps x).host = s.host := rfl
@[simp] theorem State.setTemps_flt (x : Vec CellTemp 256) : (s.setTemps x).flt = s.flt := rfl
@[simp] theorem State.setTemps_bist (x : Vec CellTemp 256) : (s.setTemps x).bist = s.bist := rfl
@[simp] theorem State.setTemps_chk (x : Vec CellTemp 256) : (s.setTemps x).chk = s.chk := rfl
@[simp] theorem State.setTemps_nvm (x : Vec CellTemp 256) : (s.setTemps x).nvm = s.nvm := rfl
@[simp] theorem State.setTemps_stopOrigin (x : Vec CellTemp 256) : (s.setTemps x).stopOrigin = s.stopOrigin := rfl
@[simp] theorem State.setTemps_out (x : Vec CellTemp 256) : (s.setTemps x).out = s.out := rfl
@[simp] theorem State.setTemps_free (x : Vec CellTemp 256) : (s.setTemps x).free = s.free := rfl
@[simp] theorem State.setTemps_pending (x : Vec CellTemp 256) : (s.setTemps x).pending = s.pending := rfl

/-! ### setAna -/

@[simp] theorem State.setAna_now (x : Vec CellAna 256) : (s.setAna x).now = s.now := rfl
@[simp] theorem State.setAna_glb (x : Vec CellAna 256) : (s.setAna x).glb = s.glb := rfl
@[simp] theorem State.setAna_pins (x : Vec CellAna 256) : (s.setAna x).pins = s.pins := rfl
@[simp] theorem State.setAna_regs (x : Vec CellAna 256) : (s.setAna x).regs = s.regs := rfl
@[simp] theorem State.setAna_cells (x : Vec CellAna 256) : (s.setAna x).cells = s.cells := rfl
@[simp] theorem State.setAna_meas (x : Vec CellAna 256) : (s.setAna x).meas = s.meas := rfl
@[simp] theorem State.setAna_temps (x : Vec CellAna 256) : (s.setAna x).temps = s.temps := rfl
@[simp] theorem State.setAna_ana (x : Vec CellAna 256) : (s.setAna x).ana = x := rfl
@[simp] theorem State.setAna_segs (x : Vec CellAna 256) : (s.setAna x).segs = s.segs := rfl
@[simp] theorem State.setAna_links (x : Vec CellAna 256) : (s.setAna x).links = s.links := rfl
@[simp] theorem State.setAna_play (x : Vec CellAna 256) : (s.setAna x).play = s.play := rfl
@[simp] theorem State.setAna_spc (x : Vec CellAna 256) : (s.setAna x).spc = s.spc := rfl
@[simp] theorem State.setAna_shunts (x : Vec CellAna 256) : (s.setAna x).shunts = s.shunts := rfl
@[simp] theorem State.setAna_results (x : Vec CellAna 256) : (s.setAna x).results = s.results := rfl
@[simp] theorem State.setAna_therm (x : Vec CellAna 256) : (s.setAna x).therm = s.therm := rfl
@[simp] theorem State.setAna_pwr (x : Vec CellAna 256) : (s.setAna x).pwr = s.pwr := rfl
@[simp] theorem State.setAna_loop (x : Vec CellAna 256) : (s.setAna x).loop = s.loop := rfl
@[simp] theorem State.setAna_tu (x : Vec CellAna 256) : (s.setAna x).tu = s.tu := rfl
@[simp] theorem State.setAna_acc (x : Vec CellAna 256) : (s.setAna x).acc = s.acc := rfl
@[simp] theorem State.setAna_host (x : Vec CellAna 256) : (s.setAna x).host = s.host := rfl
@[simp] theorem State.setAna_flt (x : Vec CellAna 256) : (s.setAna x).flt = s.flt := rfl
@[simp] theorem State.setAna_bist (x : Vec CellAna 256) : (s.setAna x).bist = s.bist := rfl
@[simp] theorem State.setAna_chk (x : Vec CellAna 256) : (s.setAna x).chk = s.chk := rfl
@[simp] theorem State.setAna_nvm (x : Vec CellAna 256) : (s.setAna x).nvm = s.nvm := rfl
@[simp] theorem State.setAna_stopOrigin (x : Vec CellAna 256) : (s.setAna x).stopOrigin = s.stopOrigin := rfl
@[simp] theorem State.setAna_out (x : Vec CellAna 256) : (s.setAna x).out = s.out := rfl
@[simp] theorem State.setAna_free (x : Vec CellAna 256) : (s.setAna x).free = s.free := rfl
@[simp] theorem State.setAna_pending (x : Vec CellAna 256) : (s.setAna x).pending = s.pending := rfl

/-! ### setSegs -/

@[simp] theorem State.setSegs_now (x : Vec Segment 16) : (s.setSegs x).now = s.now := rfl
@[simp] theorem State.setSegs_glb (x : Vec Segment 16) : (s.setSegs x).glb = s.glb := rfl
@[simp] theorem State.setSegs_pins (x : Vec Segment 16) : (s.setSegs x).pins = s.pins := rfl
@[simp] theorem State.setSegs_regs (x : Vec Segment 16) : (s.setSegs x).regs = s.regs := rfl
@[simp] theorem State.setSegs_cells (x : Vec Segment 16) : (s.setSegs x).cells = s.cells := rfl
@[simp] theorem State.setSegs_meas (x : Vec Segment 16) : (s.setSegs x).meas = s.meas := rfl
@[simp] theorem State.setSegs_temps (x : Vec Segment 16) : (s.setSegs x).temps = s.temps := rfl
@[simp] theorem State.setSegs_ana (x : Vec Segment 16) : (s.setSegs x).ana = s.ana := rfl
@[simp] theorem State.setSegs_segs (x : Vec Segment 16) : (s.setSegs x).segs = x := rfl
@[simp] theorem State.setSegs_links (x : Vec Segment 16) : (s.setSegs x).links = s.links := rfl
@[simp] theorem State.setSegs_play (x : Vec Segment 16) : (s.setSegs x).play = s.play := rfl
@[simp] theorem State.setSegs_spc (x : Vec Segment 16) : (s.setSegs x).spc = s.spc := rfl
@[simp] theorem State.setSegs_shunts (x : Vec Segment 16) : (s.setSegs x).shunts = s.shunts := rfl
@[simp] theorem State.setSegs_results (x : Vec Segment 16) : (s.setSegs x).results = s.results := rfl
@[simp] theorem State.setSegs_therm (x : Vec Segment 16) : (s.setSegs x).therm = s.therm := rfl
@[simp] theorem State.setSegs_pwr (x : Vec Segment 16) : (s.setSegs x).pwr = s.pwr := rfl
@[simp] theorem State.setSegs_loop (x : Vec Segment 16) : (s.setSegs x).loop = s.loop := rfl
@[simp] theorem State.setSegs_tu (x : Vec Segment 16) : (s.setSegs x).tu = s.tu := rfl
@[simp] theorem State.setSegs_acc (x : Vec Segment 16) : (s.setSegs x).acc = s.acc := rfl
@[simp] theorem State.setSegs_host (x : Vec Segment 16) : (s.setSegs x).host = s.host := rfl
@[simp] theorem State.setSegs_flt (x : Vec Segment 16) : (s.setSegs x).flt = s.flt := rfl
@[simp] theorem State.setSegs_bist (x : Vec Segment 16) : (s.setSegs x).bist = s.bist := rfl
@[simp] theorem State.setSegs_chk (x : Vec Segment 16) : (s.setSegs x).chk = s.chk := rfl
@[simp] theorem State.setSegs_nvm (x : Vec Segment 16) : (s.setSegs x).nvm = s.nvm := rfl
@[simp] theorem State.setSegs_stopOrigin (x : Vec Segment 16) : (s.setSegs x).stopOrigin = s.stopOrigin := rfl
@[simp] theorem State.setSegs_out (x : Vec Segment 16) : (s.setSegs x).out = s.out := rfl
@[simp] theorem State.setSegs_free (x : Vec Segment 16) : (s.setSegs x).free = s.free := rfl
@[simp] theorem State.setSegs_pending (x : Vec Segment 16) : (s.setSegs x).pending = s.pending := rfl

/-! ### setLinks -/

@[simp] theorem State.setLinks_now (x : Vec Link 16) : (s.setLinks x).now = s.now := rfl
@[simp] theorem State.setLinks_glb (x : Vec Link 16) : (s.setLinks x).glb = s.glb := rfl
@[simp] theorem State.setLinks_pins (x : Vec Link 16) : (s.setLinks x).pins = s.pins := rfl
@[simp] theorem State.setLinks_regs (x : Vec Link 16) : (s.setLinks x).regs = s.regs := rfl
@[simp] theorem State.setLinks_cells (x : Vec Link 16) : (s.setLinks x).cells = s.cells := rfl
@[simp] theorem State.setLinks_meas (x : Vec Link 16) : (s.setLinks x).meas = s.meas := rfl
@[simp] theorem State.setLinks_temps (x : Vec Link 16) : (s.setLinks x).temps = s.temps := rfl
@[simp] theorem State.setLinks_ana (x : Vec Link 16) : (s.setLinks x).ana = s.ana := rfl
@[simp] theorem State.setLinks_segs (x : Vec Link 16) : (s.setLinks x).segs = s.segs := rfl
@[simp] theorem State.setLinks_links (x : Vec Link 16) : (s.setLinks x).links = x := rfl
@[simp] theorem State.setLinks_play (x : Vec Link 16) : (s.setLinks x).play = s.play := rfl
@[simp] theorem State.setLinks_spc (x : Vec Link 16) : (s.setLinks x).spc = s.spc := rfl
@[simp] theorem State.setLinks_shunts (x : Vec Link 16) : (s.setLinks x).shunts = s.shunts := rfl
@[simp] theorem State.setLinks_results (x : Vec Link 16) : (s.setLinks x).results = s.results := rfl
@[simp] theorem State.setLinks_therm (x : Vec Link 16) : (s.setLinks x).therm = s.therm := rfl
@[simp] theorem State.setLinks_pwr (x : Vec Link 16) : (s.setLinks x).pwr = s.pwr := rfl
@[simp] theorem State.setLinks_loop (x : Vec Link 16) : (s.setLinks x).loop = s.loop := rfl
@[simp] theorem State.setLinks_tu (x : Vec Link 16) : (s.setLinks x).tu = s.tu := rfl
@[simp] theorem State.setLinks_acc (x : Vec Link 16) : (s.setLinks x).acc = s.acc := rfl
@[simp] theorem State.setLinks_host (x : Vec Link 16) : (s.setLinks x).host = s.host := rfl
@[simp] theorem State.setLinks_flt (x : Vec Link 16) : (s.setLinks x).flt = s.flt := rfl
@[simp] theorem State.setLinks_bist (x : Vec Link 16) : (s.setLinks x).bist = s.bist := rfl
@[simp] theorem State.setLinks_chk (x : Vec Link 16) : (s.setLinks x).chk = s.chk := rfl
@[simp] theorem State.setLinks_nvm (x : Vec Link 16) : (s.setLinks x).nvm = s.nvm := rfl
@[simp] theorem State.setLinks_stopOrigin (x : Vec Link 16) : (s.setLinks x).stopOrigin = s.stopOrigin := rfl
@[simp] theorem State.setLinks_out (x : Vec Link 16) : (s.setLinks x).out = s.out := rfl
@[simp] theorem State.setLinks_free (x : Vec Link 16) : (s.setLinks x).free = s.free := rfl
@[simp] theorem State.setLinks_pending (x : Vec Link 16) : (s.setLinks x).pending = s.pending := rfl

/-! ### setRegs -/

@[simp] theorem State.setRegs_now (x : List (Nat × Word)) : (s.setRegs x).now = s.now := rfl
@[simp] theorem State.setRegs_glb (x : List (Nat × Word)) : (s.setRegs x).glb = s.glb := rfl
@[simp] theorem State.setRegs_pins (x : List (Nat × Word)) : (s.setRegs x).pins = s.pins := rfl
@[simp] theorem State.setRegs_regs (x : List (Nat × Word)) : (s.setRegs x).regs = x := rfl
@[simp] theorem State.setRegs_cells (x : List (Nat × Word)) : (s.setRegs x).cells = s.cells := rfl
@[simp] theorem State.setRegs_meas (x : List (Nat × Word)) : (s.setRegs x).meas = s.meas := rfl
@[simp] theorem State.setRegs_temps (x : List (Nat × Word)) : (s.setRegs x).temps = s.temps := rfl
@[simp] theorem State.setRegs_ana (x : List (Nat × Word)) : (s.setRegs x).ana = s.ana := rfl
@[simp] theorem State.setRegs_segs (x : List (Nat × Word)) : (s.setRegs x).segs = s.segs := rfl
@[simp] theorem State.setRegs_links (x : List (Nat × Word)) : (s.setRegs x).links = s.links := rfl
@[simp] theorem State.setRegs_play (x : List (Nat × Word)) : (s.setRegs x).play = s.play := rfl
@[simp] theorem State.setRegs_spc (x : List (Nat × Word)) : (s.setRegs x).spc = s.spc := rfl
@[simp] theorem State.setRegs_shunts (x : List (Nat × Word)) : (s.setRegs x).shunts = s.shunts := rfl
@[simp] theorem State.setRegs_results (x : List (Nat × Word)) : (s.setRegs x).results = s.results := rfl
@[simp] theorem State.setRegs_therm (x : List (Nat × Word)) : (s.setRegs x).therm = s.therm := rfl
@[simp] theorem State.setRegs_pwr (x : List (Nat × Word)) : (s.setRegs x).pwr = s.pwr := rfl
@[simp] theorem State.setRegs_loop (x : List (Nat × Word)) : (s.setRegs x).loop = s.loop := rfl
@[simp] theorem State.setRegs_tu (x : List (Nat × Word)) : (s.setRegs x).tu = s.tu := rfl
@[simp] theorem State.setRegs_acc (x : List (Nat × Word)) : (s.setRegs x).acc = s.acc := rfl
@[simp] theorem State.setRegs_host (x : List (Nat × Word)) : (s.setRegs x).host = s.host := rfl
@[simp] theorem State.setRegs_flt (x : List (Nat × Word)) : (s.setRegs x).flt = s.flt := rfl
@[simp] theorem State.setRegs_bist (x : List (Nat × Word)) : (s.setRegs x).bist = s.bist := rfl
@[simp] theorem State.setRegs_chk (x : List (Nat × Word)) : (s.setRegs x).chk = s.chk := rfl
@[simp] theorem State.setRegs_nvm (x : List (Nat × Word)) : (s.setRegs x).nvm = s.nvm := rfl
@[simp] theorem State.setRegs_stopOrigin (x : List (Nat × Word)) : (s.setRegs x).stopOrigin = s.stopOrigin := rfl
@[simp] theorem State.setRegs_out (x : List (Nat × Word)) : (s.setRegs x).out = s.out := rfl
@[simp] theorem State.setRegs_free (x : List (Nat × Word)) : (s.setRegs x).free = s.free := rfl
@[simp] theorem State.setRegs_pending (x : List (Nat × Word)) : (s.setRegs x).pending = s.pending := rfl

/-! ### setNow -/

@[simp] theorem State.setNow_now (x : Nat) : (s.setNow x).now = x := rfl
@[simp] theorem State.setNow_glb (x : Nat) : (s.setNow x).glb = s.glb := rfl
@[simp] theorem State.setNow_pins (x : Nat) : (s.setNow x).pins = s.pins := rfl
@[simp] theorem State.setNow_regs (x : Nat) : (s.setNow x).regs = s.regs := rfl
@[simp] theorem State.setNow_cells (x : Nat) : (s.setNow x).cells = s.cells := rfl
@[simp] theorem State.setNow_meas (x : Nat) : (s.setNow x).meas = s.meas := rfl
@[simp] theorem State.setNow_temps (x : Nat) : (s.setNow x).temps = s.temps := rfl
@[simp] theorem State.setNow_ana (x : Nat) : (s.setNow x).ana = s.ana := rfl
@[simp] theorem State.setNow_segs (x : Nat) : (s.setNow x).segs = s.segs := rfl
@[simp] theorem State.setNow_links (x : Nat) : (s.setNow x).links = s.links := rfl
@[simp] theorem State.setNow_play (x : Nat) : (s.setNow x).play = s.play := rfl
@[simp] theorem State.setNow_spc (x : Nat) : (s.setNow x).spc = s.spc := rfl
@[simp] theorem State.setNow_shunts (x : Nat) : (s.setNow x).shunts = s.shunts := rfl
@[simp] theorem State.setNow_results (x : Nat) : (s.setNow x).results = s.results := rfl
@[simp] theorem State.setNow_therm (x : Nat) : (s.setNow x).therm = s.therm := rfl
@[simp] theorem State.setNow_pwr (x : Nat) : (s.setNow x).pwr = s.pwr := rfl
@[simp] theorem State.setNow_loop (x : Nat) : (s.setNow x).loop = s.loop := rfl
@[simp] theorem State.setNow_tu (x : Nat) : (s.setNow x).tu = s.tu := rfl
@[simp] theorem State.setNow_acc (x : Nat) : (s.setNow x).acc = s.acc := rfl
@[simp] theorem State.setNow_host (x : Nat) : (s.setNow x).host = s.host := rfl
@[simp] theorem State.setNow_flt (x : Nat) : (s.setNow x).flt = s.flt := rfl
@[simp] theorem State.setNow_bist (x : Nat) : (s.setNow x).bist = s.bist := rfl
@[simp] theorem State.setNow_chk (x : Nat) : (s.setNow x).chk = s.chk := rfl
@[simp] theorem State.setNow_nvm (x : Nat) : (s.setNow x).nvm = s.nvm := rfl
@[simp] theorem State.setNow_stopOrigin (x : Nat) : (s.setNow x).stopOrigin = s.stopOrigin := rfl
@[simp] theorem State.setNow_out (x : Nat) : (s.setNow x).out = s.out := rfl
@[simp] theorem State.setNow_free (x : Nat) : (s.setNow x).free = s.free := rfl
@[simp] theorem State.setNow_pending (x : Nat) : (s.setNow x).pending = s.pending := rfl

/-! ### setStop -/

@[simp] theorem State.setStop_now (x : Option Origin) : (s.setStop x).now = s.now := rfl
@[simp] theorem State.setStop_glb (x : Option Origin) : (s.setStop x).glb = s.glb := rfl
@[simp] theorem State.setStop_pins (x : Option Origin) : (s.setStop x).pins = s.pins := rfl
@[simp] theorem State.setStop_regs (x : Option Origin) : (s.setStop x).regs = s.regs := rfl
@[simp] theorem State.setStop_cells (x : Option Origin) : (s.setStop x).cells = s.cells := rfl
@[simp] theorem State.setStop_meas (x : Option Origin) : (s.setStop x).meas = s.meas := rfl
@[simp] theorem State.setStop_temps (x : Option Origin) : (s.setStop x).temps = s.temps := rfl
@[simp] theorem State.setStop_ana (x : Option Origin) : (s.setStop x).ana = s.ana := rfl
@[simp] theorem State.setStop_segs (x : Option Origin) : (s.setStop x).segs = s.segs := rfl
@[simp] theorem State.setStop_links (x : Option Origin) : (s.setStop x).links = s.links := rfl
@[simp] theorem State.setStop_play (x : Option Origin) : (s.setStop x).play = s.play := rfl
@[simp] theorem State.setStop_spc (x : Option Origin) : (s.setStop x).spc = s.spc := rfl
@[simp] theorem State.setStop_shunts (x : Option Origin) : (s.setStop x).shunts = s.shunts := rfl
@[simp] theorem State.setStop_results (x : Option Origin) : (s.setStop x).results = s.results := rfl
@[simp] theorem State.setStop_therm (x : Option Origin) : (s.setStop x).therm = s.therm := rfl
@[simp] theorem State.setStop_pwr (x : Option Origin) : (s.setStop x).pwr = s.pwr := rfl
@[simp] theorem State.setStop_loop (x : Option Origin) : (s.setStop x).loop = s.loop := rfl
@[simp] theorem State.setStop_tu (x : Option Origin) : (s.setStop x).tu = s.tu := rfl
@[simp] theorem State.setStop_acc (x : Option Origin) : (s.setStop x).acc = s.acc := rfl
@[simp] theorem State.setStop_host (x : Option Origin) : (s.setStop x).host = s.host := rfl
@[simp] theorem State.setStop_flt (x : Option Origin) : (s.setStop x).flt = s.flt := rfl
@[simp] theorem State.setStop_bist (x : Option Origin) : (s.setStop x).bist = s.bist := rfl
@[simp] theorem State.setStop_chk (x : Option Origin) : (s.setStop x).chk = s.chk := rfl
@[simp] theorem State.setStop_nvm (x : Option Origin) : (s.setStop x).nvm = s.nvm := rfl
@[simp] theorem State.setStop_stopOrigin (x : Option Origin) : (s.setStop x).stopOrigin = x := rfl
@[simp] theorem State.setStop_out (x : Option Origin) : (s.setStop x).out = s.out := rfl
@[simp] theorem State.setStop_free (x : Option Origin) : (s.setStop x).free = s.free := rfl
@[simp] theorem State.setStop_pending (x : Option Origin) : (s.setStop x).pending = s.pending := rfl

end Sys2Proof.Machine
end

