-- ==== Sys2Proof/Laws/Settle.lean ====
section
/-!
SUPPORT. The end of a command on a settled state: nothing is entered, nothing changes. Which updates leave a state
settled.
-/

namespace Sys2Proof.Machine

theorem State.settled_iff (s : State) :
    s.settled = true ↔ s.flt.due = [] ∧ s.results.dropDue = false ∧ s.results.sweepOn = false := by
  simp [State.settled, List.isEmpty_iff, and_assoc]

/-- A settled state is where the end of a command leaves it. -/
theorem State.settle_eq {s : State} (h : s.settled = true) : s.settle = s := by
  obtain ⟨h1, h2, h3⟩ := (State.settled_iff s).1 h
  have hr : s.reviewSweeps = s := by simp [State.reviewSweeps, h3]
  have hn : State.settleN 4096 s = s := by
    rw [State.settleN]
    simp [h1, h2]
  unfold State.settle
  rw [hr, hn]
  dsimp only
  split
  · simp
  · rfl

theorem State.done_eq {s : State} (h : s.settled = true) : s.done = .next s := by
  rw [State.done, State.settle_eq h]

@[simp] theorem State.modCell_settled (s : State) (k : Cell) (f) : (s.modCell k f).settled = s.settled := rfl
@[simp] theorem State.modMeas_settled (s : State) (k : Cell) (f) : (s.modMeas k f).settled = s.settled := rfl
@[simp] theorem State.modTemp_settled (s : State) (k : Cell) (f) : (s.modTemp k f).settled = s.settled := rfl
@[simp] theorem State.modAna_settled (s : State) (k : Cell) (f) : (s.modAna k f).settled = s.settled := rfl
@[simp] theorem State.modSeg_settled (s : State) (g : Seg) (f) : (s.modSeg g f).settled = s.settled := rfl
@[simp] theorem State.modLink_settled (s : State) (g : Seg) (f) : (s.modLink g f).settled = s.settled := rfl
@[simp] theorem State.modChk_settled (s : State) (c : Fin 4) (f) : (s.modChk c f).settled = s.settled := rfl
@[simp] theorem State.modPlay_settled (s : State) (f) : (s.modPlay f).settled = s.settled := rfl
@[simp] theorem State.modSpc_settled (s : State) (f) : (s.modSpc f).settled = s.settled := rfl
@[simp] theorem State.modGlb_settled (s : State) (f) : (s.modGlb f).settled = s.settled := rfl
@[simp] theorem State.modPwr_settled (s : State) (f) : (s.modPwr f).settled = s.settled := rfl
@[simp] theorem State.modLoop_settled (s : State) (f) : (s.modLoop f).settled = s.settled := rfl
@[simp] theorem State.modHost_settled (s : State) (f) : (s.modHost f).settled = s.settled := rfl
@[simp] theorem State.modBist_settled (s : State) (f) : (s.modBist f).settled = s.settled := rfl
@[simp] theorem State.modNvm_settled (s : State) (f) : (s.modNvm f).settled = s.settled := rfl
@[simp] theorem State.modShunts_settled (s : State) (f) : (s.modShunts f).settled = s.settled := rfl
@[simp] theorem State.modTherm_settled (s : State) (f) : (s.modTherm f).settled = s.settled := rfl
@[simp] theorem State.modTu_settled (s : State) (f) : (s.modTu f).settled = s.settled := rfl
@[simp] theorem State.modAcc_settled (s : State) (f) : (s.modAcc f).settled = s.settled := rfl
@[simp] theorem State.modPhase_settled (s : State) (p : Phase) (f) : (s.modPhase p f).settled = s.settled := rfl
@[simp] theorem State.modPort_settled (s : State) (p : Port) (f) : (s.modPort p f).settled = s.settled := rfl
@[simp] theorem State.setPins_settled (s : State) (x) : (s.setPins x).settled = s.settled := rfl
@[simp] theorem State.putCells_settled (s : State) (x) : (s.putCells x).settled = s.settled := rfl
@[simp] theorem State.setMeas_settled (s : State) (x) : (s.setMeas x).settled = s.settled := rfl
@[simp] theorem State.setTemps_settled (s : State) (x) : (s.setTemps x).settled = s.settled := rfl
@[simp] theorem State.setAna_settled (s : State) (x) : (s.setAna x).settled = s.settled := rfl
@[simp] theorem State.setSegs_settled (s : State) (x) : (s.setSegs x).settled = s.settled := rfl
@[simp] theorem State.setLinks_settled (s : State) (x) : (s.setLinks x).settled = s.settled := rfl
@[simp] theorem State.setRegs_settled (s : State) (x) : (s.setRegs x).settled = s.settled := rfl
@[simp] theorem State.setNow_settled (s : State) (x) : (s.setNow x).settled = s.settled := rfl
@[simp] theorem State.setStop_settled (s : State) (x) : (s.setStop x).settled = s.settled := rfl
@[simp] theorem State.store_settled (s : State) (o : Nat) (w : Word) : (s.store o w).settled = s.settled := rfl
@[simp] theorem State.setFld_settled (s : State) (x : Field) (v : Nat) : (s.setFld x v).settled = s.settled := rfl
@[simp] theorem State.emit_settled (s : State) (x : Output) : (s.emit x).settled = s.settled := rfl
@[simp] theorem State.enter_settled (s : State) (m : ModState) : (s.enter m).settled = s.settled := rfl
@[simp] theorem State.tick_settled (s : State) : s.tick.settled = s.settled := rfl
@[simp] theorem State.freeBits_settled (s : State) : s.freeBits.2.settled = s.settled := rfl
@[simp] theorem State.freeBool_settled (s : State) : s.freeBool.2.settled = s.settled := rfl

end Sys2Proof.Machine
end

