-- ==== Sys2Proof/Laws/Touch.lean ====
section
/-!
SUPPORT. Carrying what a composition of operations may change: parts as bits of a number, the named updates one by one.
-/

namespace Sys2Proof.Machine

def Part.bit : Part → Nat
  | .now => 0
  | .glb => 1
  | .pins => 2
  | .regs => 3
  | .cells => 4
  | .meas => 5
  | .temps => 6
  | .ana => 7
  | .segs => 8
  | .links => 9
  | .play => 10
  | .spc => 11
  | .shunts => 12
  | .results => 13
  | .therm => 14
  | .pwr => 15
  | .loop => 16
  | .tu => 17
  | .acc => 18
  | .host => 19
  | .flt => 20
  | .bist => 21
  | .chk => 22
  | .nvm => 23
  | .stopOrigin => 24
  | .out => 25
  | .free => 26
  | .pending => 27

/-- Nothing outside the parts whose bit is set has changed. -/
structure TouchM (m : Nat) (s t : State) : Prop where
  same : ∀ p : Part, m.testBit p.bit = false → p.same s t

/-- A command answers a state that the collector completes; before that, nothing outside the parts has changed. -/
def TouchOut (m : Nat) (s : State) (o : Host.Outcome State Fault Refusal) : Prop :=
  ∃ u, o = .next u.settle ∧ TouchM m s u

theorem Part.same_trans {p : Part} {s t u : State} (h : p.same s t) (k : p.same t u) : p.same s u := by
  cases p <;> exact Eq.trans k h

theorem TouchM.refl (m : Nat) (s : State) : TouchM m s s := ⟨fun p _ => by cases p <;> rfl⟩

theorem sub_trans {a b c : Nat} (h : Nat.land a b = a) (k : Nat.land b c = b) : Nat.land a c = a := by
  have e : (a &&& b) &&& c = a &&& (b &&& c) := Nat.land_assoc a b c
  change a &&& c = a
  change a &&& b = a at h
  change b &&& c = b at k
  rw [h, k, h] at e
  exact e

/-- A change within some of the parts follows. -/
theorem TouchM.then {m m' : Nat} {s t u : State} (h : TouchM m s t) (k : TouchM m' t u) (hm : Nat.land m' m = m') :
    TouchM m s u := ⟨fun p hp => by
  refine Part.same_trans (h.same p hp) (k.same p ?_)
  have e : (m' &&& m).testBit p.bit = m'.testBit p.bit := congrArg (fun n => n.testBit p.bit) hm
  rw [Nat.testBit_land, hp, Bool.and_false] at e
  exact e.symm⟩

/-- Parts as a list. -/
def partsMask (ps : List Part) : Nat := ps.foldr (fun p n => Nat.lor (2 ^ p.bit) n) 0

theorem Part.bit_inj {p q : Part} (h : p.bit = q.bit) : p = q := by
  cases p <;> cases q <;> first | rfl | exact absurd h (by decide)

theorem partsMask_testBit (ps : List Part) (p : Part) (h : p ∉ ps) : (partsMask ps).testBit p.bit = false := by
  induction ps with
  | nil => exact Nat.zero_testBit _
  | cons q t ih =>
    have hq : q.bit ≠ p.bit := fun e => h (by rw [Part.bit_inj e]; exact List.mem_cons_self)
    have e : (partsMask (q :: t)) = 2 ^ q.bit ||| partsMask t := rfl
    rw [e, Nat.testBit_lor, ih (fun m => h (List.mem_cons_of_mem _ m)), Bool.or_false]
    exact Nat.testBit_two_pow_of_ne hq

/-- The list form from the number form. -/
theorem TouchM.touch {m : Nat} {s t : State} (ps : List Part) (h : TouchM m s t) (e : partsMask ps = m := by rfl) :
    Touch ps s t := fun p hp => h.same p (by rw [← e]; exact partsMask_testBit ps p hp)

theorem TouchM.settled {m : Nat} {s t : State} (h : TouchM m s t) (hf : m.testBit 20 = false := by rfl)
    (hr : m.testBit 13 = false := by rfl) : t.settled = s.settled := by
  have a : t.flt = s.flt := h.same .flt hf
  have b : t.results = s.results := h.same .results hr
  simp only [State.settled, a, b]

theorem State.done_touch {m : Nat} {s u : State} (h : TouchM m s u) : TouchOut m s u.done := ⟨u, rfl, h⟩

theorem each_touch {α : Type} (l : List α) {f : State → α → State} {m : Nat} {s₀ s : State} (h : TouchM m s₀ s)
    (hf : ∀ s x, TouchM m s₀ s → TouchM m s₀ (f s x)) : TouchM m s₀ (each l f s) := by
  unfold each
  induction l generalizing s with
  | nil => exact h
  | cons a t ih => exact ih (hf _ _ h)

theorem foldl_touch {α β : Type} (l : List α) {f : β × State → α → β × State} {m : Nat} {s₀ : State} {b : β × State}
    (h : TouchM m s₀ b.2) (hf : ∀ b x, TouchM m s₀ b.2 → TouchM m s₀ (f b x).2) : TouchM m s₀ (l.foldl f b).2 := by
  induction l generalizing b with
  | nil => exact h
  | cons a t ih => exact ih (hf _ _ h)

/-! ### The named updates -/

theorem State.modCell_touch {m : Nat} {s₀ s : State} (h : TouchM m s₀ s) (k : Cell) (f)
    (hm : Nat.land 16 m = 16 := by first | (apply sub_trans; rotate_left; (with_reducible assumption); rfl) | rfl) : TouchM m s₀ (State.modCell s k f) :=
  h.then (m' := 16) ⟨fun p hp => by cases p <;> first | rfl | exact absurd hp (by decide)⟩ hm

theorem State.modMeas_touch {m : Nat} {s₀ s : State} (h : TouchM m s₀ s) (k : Cell) (f)
    (hm : Nat.land 32 m = 32 := by first | (apply sub_trans; rotate_left; (with_reducible assumption); rfl) | rfl) : TouchM m s₀ (State.modMeas s k f) :=
  h.then (m' := 32) ⟨fun p hp => by cases p <;> first | rfl | exact absurd hp (by decide)⟩ hm

theorem State.modTemp_touch {m : Nat} {s₀ s : State} (h : TouchM m s₀ s) (k : Cell) (f)
    (hm : Nat.land 64 m = 64 := by first | (apply sub_trans; rotate_left; (with_reducible assumption); rfl) | rfl) : TouchM m s₀ (State.modTemp s k f) :=
  h.then (m' := 64) ⟨fun p hp => by cases p <;> first | rfl | exact absurd hp (by decide)⟩ hm

theorem State.modAna_touch {m : Nat} {s₀ s : State} (h : TouchM m s₀ s) (k : Cell) (f)
    (hm : Nat.land 128 m = 128 := by first | (apply sub_trans; rotate_left; (with_reducible assumption); rfl) | rfl) : TouchM m s₀ (State.modAna s k f) :=
  h.then (m' := 128) ⟨fun p hp => by cases p <;> first | rfl | exact absurd hp (by decide)⟩ hm

theorem State.modSeg_touch {m : Nat} {s₀ s : State} (h : TouchM m s₀ s) (g : Seg) (f)
    (hm : Nat.land 256 m = 256 := by first | (apply sub_trans; rotate_left; (with_reducible assumption); rfl) | rfl) : TouchM m s₀ (State.modSeg s g f) :=
  h.then (m' := 256) ⟨fun p hp => by cases p <;> first | rfl | exact absurd hp (by decide)⟩ hm

theorem State.modLink_touch {m : Nat} {s₀ s : State} (h : TouchM m s₀ s) (g : Seg) (f)
    (hm : Nat.land 512 m = 512 := by first | (apply sub_trans; rotate_left; (with_reducible assumption); rfl) | rfl) : TouchM m s₀ (State.modLink s g f) :=
  h.then (m' := 512) ⟨fun p hp => by cases p <;> first | rfl | exact absurd hp (by decide)⟩ hm

theorem State.modChk_touch {m : Nat} {s₀ s : State} (h : TouchM m s₀ s) (c : Fin 4) (f)
    (hm : Nat.land 4194304 m = 4194304 := by first | (apply sub_trans; rotate_left; (with_reducible assumption); rfl) | rfl) : TouchM m s₀ (State.modChk s c f) :=
  h.then (m' := 4194304) ⟨fun p hp => by cases p <;> first | rfl | exact absurd hp (by decide)⟩ hm

theorem State.modPlay_touch {m : Nat} {s₀ s : State} (h : TouchM m s₀ s) (x)
    (hm : Nat.land 1024 m = 1024 := by first | (apply sub_trans; rotate_left; (with_reducible assumption); rfl) | rfl) : TouchM m s₀ (State.modPlay s x) :=
  h.then (m' := 1024) ⟨fun p hp => by cases p <;> first | rfl | exact absurd hp (by decide)⟩ hm

theorem State.modSpc_touch {m : Nat} {s₀ s : State} (h : TouchM m s₀ s) (x)
    (hm : Nat.land 2048 m = 2048 := by first | (apply sub_trans; rotate_left; (with_reducible assumption); rfl) | rfl) : TouchM m s₀ (State.modSpc s x) :=
  h.then (m' := 2048) ⟨fun p hp => by cases p <;> first | rfl | exact absurd hp (by decide)⟩ hm

theorem State.modGlb_touch {m : Nat} {s₀ s : State} (h : TouchM m s₀ s) (x)
    (hm : Nat.land 2 m = 2 := by first | (apply sub_trans; rotate_left; (with_reducible assumption); rfl) | rfl) : TouchM m s₀ (State.modGlb s x) :=
  h.then (m' := 2) ⟨fun p hp => by cases p <;> first | rfl | exact absurd hp (by decide)⟩ hm

theorem State.modPwr_touch {m : Nat} {s₀ s : State} (h : TouchM m s₀ s) (x)
    (hm : Nat.land 32768 m = 32768 := by first | (apply sub_trans; rotate_left; (with_reducible assumption); rfl) | rfl) : TouchM m s₀ (State.modPwr s x) :=
  h.then (m' := 32768) ⟨fun p hp => by cases p <;> first | rfl | exact absurd hp (by decide)⟩ hm

theorem State.modLoop_touch {m : Nat} {s₀ s : State} (h : TouchM m s₀ s) (x)
    (hm : Nat.land 65536 m = 65536 := by first | (apply sub_trans; rotate_left; (with_reducible assumption); rfl) | rfl) : TouchM m s₀ (State.modLoop s x) :=
  h.then (m' := 65536) ⟨fun p hp => by cases p <;> first | rfl | exact absurd hp (by decide)⟩ hm

theorem State.modHost_touch {m : Nat} {s₀ s : State} (h : TouchM m s₀ s) (x)
    (hm : Nat.land 524288 m = 524288 := by first | (apply sub_trans; rotate_left; (with_reducible assumption); rfl) | rfl) : TouchM m s₀ (State.modHost s x) :=
  h.then (m' := 524288) ⟨fun p hp => by cases p <;> first | rfl | exact absurd hp (by decide)⟩ hm

theorem State.modFlt_touch {m : Nat} {s₀ s : State} (h : TouchM m s₀ s) (x)
    (hm : Nat.land 1048576 m = 1048576 := by first | (apply sub_trans; rotate_left; (with_reducible assumption); rfl) | rfl) : TouchM m s₀ (State.modFlt s x) :=
  h.then (m' := 1048576) ⟨fun p hp => by cases p <;> first | rfl | exact absurd hp (by decide)⟩ hm

theorem State.modBist_touch {m : Nat} {s₀ s : State} (h : TouchM m s₀ s) (x)
    (hm : Nat.land 2097152 m = 2097152 := by first | (apply sub_trans; rotate_left; (with_reducible assumption); rfl) | rfl) : TouchM m s₀ (State.modBist s x) :=
  h.then (m' := 2097152) ⟨fun p hp => by cases p <;> first | rfl | exact absurd hp (by decide)⟩ hm

theorem State.modNvm_touch {m : Nat} {s₀ s : State} (h : TouchM m s₀ s) (x)
    (hm : Nat.land 8388608 m = 8388608 := by first | (apply sub_trans; rotate_left; (with_reducible assumption); rfl) | rfl) : TouchM m s₀ (State.modNvm s x) :=
  h.then (m' := 8388608) ⟨fun p hp => by cases p <;> first | rfl | exact absurd hp (by decide)⟩ hm

theorem State.modShunts_touch {m : Nat} {s₀ s : State} (h : TouchM m s₀ s) (x)
    (hm : Nat.land 4096 m = 4096 := by first | (apply sub_trans; rotate_left; (with_reducible assumption); rfl) | rfl) : TouchM m s₀ (State.modShunts s x) :=
  h.then (m' := 4096) ⟨fun p hp => by cases p <;> first | rfl | exact absurd hp (by decide)⟩ hm

theorem State.modRes_touch {m : Nat} {s₀ s : State} (h : TouchM m s₀ s) (x)
    (hm : Nat.land 8192 m = 8192 := by first | (apply sub_trans; rotate_left; (with_reducible assumption); rfl) | rfl) : TouchM m s₀ (State.modRes s x) :=
  h.then (m' := 8192) ⟨fun p hp => by cases p <;> first | rfl | exact absurd hp (by decide)⟩ hm

theorem State.modTherm_touch {m : Nat} {s₀ s : State} (h : TouchM m s₀ s) (x)
    (hm : Nat.land 16384 m = 16384 := by first | (apply sub_trans; rotate_left; (with_reducible assumption); rfl) | rfl) : TouchM m s₀ (State.modTherm s x) :=
  h.then (m' := 16384) ⟨fun p hp => by cases p <;> first | rfl | exact absurd hp (by decide)⟩ hm

theorem State.modTu_touch {m : Nat} {s₀ s : State} (h : TouchM m s₀ s) (x)
    (hm : Nat.land 131072 m = 131072 := by first | (apply sub_trans; rotate_left; (with_reducible assumption); rfl) | rfl) : TouchM m s₀ (State.modTu s x) :=
  h.then (m' := 131072) ⟨fun p hp => by cases p <;> first | rfl | exact absurd hp (by decide)⟩ hm

theorem State.modAcc_touch {m : Nat} {s₀ s : State} (h : TouchM m s₀ s) (x)
    (hm : Nat.land 262144 m = 262144 := by first | (apply sub_trans; rotate_left; (with_reducible assumption); rfl) | rfl) : TouchM m s₀ (State.modAcc s x) :=
  h.then (m' := 262144) ⟨fun p hp => by cases p <;> first | rfl | exact absurd hp (by decide)⟩ hm

theorem State.modPhase_touch {m : Nat} {s₀ s : State} (h : TouchM m s₀ s) (p : Phase) (f)
    (hm : Nat.land 2048 m = 2048 := by first | (apply sub_trans; rotate_left; (with_reducible assumption); rfl) | rfl) : TouchM m s₀ (State.modPhase s p f) :=
  h.then (m' := 2048) ⟨fun p hp => by cases p <;> first | rfl | exact absurd hp (by decide)⟩ hm

theorem State.setPins_touch {m : Nat} {s₀ s : State} (h : TouchM m s₀ s) (x)
    (hm : Nat.land 4 m = 4 := by first | (apply sub_trans; rotate_left; (with_reducible assumption); rfl) | rfl) : TouchM m s₀ (State.setPins s x) :=
  h.then (m' := 4) ⟨fun p hp => by cases p <;> first | rfl | exact absurd hp (by decide)⟩ hm

theorem State.putCells_touch {m : Nat} {s₀ s : State} (h : TouchM m s₀ s) (x)
    (hm : Nat.land 16 m = 16 := by first | (apply sub_trans; rotate_left; (with_reducible assumption); rfl) | rfl) : TouchM m s₀ (State.putCells s x) :=
  h.then (m' := 16) ⟨fun p hp => by cases p <;> first | rfl | exact absurd hp (by decide)⟩ hm

theorem State.setMeas_touch {m : Nat} {s₀ s : State} (h : TouchM m s₀ s) (x)
    (hm : Nat.land 32 m = 32 := by first | (apply sub_trans; rotate_left; (with_reducible assumption); rfl) | rfl) : TouchM m s₀ (State.setMeas s x) :=
  h.then (m' := 32) ⟨fun p hp => by cases p <;> first | rfl | exact absurd hp (by decide)⟩ hm

theorem State.setTemps_touch {m : Nat} {s₀ s : State} (h : TouchM m s₀ s) (x)
    (hm : Nat.land 64 m = 64 := by first | (apply sub_trans; rotate_left; (with_reducible assumption); rfl) | rfl) : TouchM m s₀ (State.setTemps s x) :=
  h.then (m' := 64) ⟨fun p hp => by cases p <;> first | rfl | exact absurd hp (by decide)⟩ hm

theorem State.setAna_touch {m : Nat} {s₀ s : State} (h : TouchM m s₀ s) (x)
    (hm : Nat.land 128 m = 128 := by first | (apply sub_trans; rotate_left; (with_reducible assumption); rfl) | rfl) : TouchM m s₀ (State.setAna s x) :=
  h.then (m' := 128) ⟨fun p hp => by cases p <;> first | rfl | exact absurd hp (by decide)⟩ hm

theorem State.setSegs_touch {m : Nat} {s₀ s : State} (h : TouchM m s₀ s) (x)
    (hm : Nat.land 256 m = 256 := by first | (apply sub_trans; rotate_left; (with_reducible assumption); rfl) | rfl) : TouchM m s₀ (State.setSegs s x) :=
  h.then (m' := 256) ⟨fun p hp => by cases p <;> first | rfl | exact absurd hp (by decide)⟩ hm

theorem State.setLinks_touch {m : Nat} {s₀ s : State} (h : TouchM m s₀ s) (x)
    (hm : Nat.land 512 m = 512 := by first | (apply sub_trans; rotate_left; (with_reducible assumption); rfl) | rfl) : TouchM m s₀ (State.setLinks s x) :=
  h.then (m' := 512) ⟨fun p hp => by cases p <;> first | rfl | exact absurd hp (by decide)⟩ hm

theorem State.setRegs_touch {m : Nat} {s₀ s : State} (h : TouchM m s₀ s) (x)
    (hm : Nat.land 8 m = 8 := by first | (apply sub_trans; rotate_left; (with_reducible assumption); rfl) | rfl) : TouchM m s₀ (State.setRegs s x) :=
  h.then (m' := 8) ⟨fun p hp => by cases p <;> first | rfl | exact absurd hp (by decide)⟩ hm

theorem State.setNow_touch {m : Nat} {s₀ s : State} (h : TouchM m s₀ s) (x)
    (hm : Nat.land 1 m = 1 := by first | (apply sub_trans; rotate_left; (with_reducible assumption); rfl) | rfl) : TouchM m s₀ (State.setNow s x) :=
  h.then (m' := 1) ⟨fun p hp => by cases p <;> first | rfl | exact absurd hp (by decide)⟩ hm

theorem State.setStop_touch {m : Nat} {s₀ s : State} (h : TouchM m s₀ s) (x)
    (hm : Nat.land 16777216 m = 16777216 := by first | (apply sub_trans; rotate_left; (with_reducible assumption); rfl) | rfl) : TouchM m s₀ (State.setStop s x) :=
  h.then (m' := 16777216) ⟨fun p hp => by cases p <;> first | rfl | exact absurd hp (by decide)⟩ hm

theorem State.modPort_touch {m : Nat} {s₀ s : State} (h : TouchM m s₀ s) (p : Port) (f)
    (hm : Nat.land 65536 m = 65536 := by first | (apply sub_trans; rotate_left; (with_reducible assumption); rfl) | rfl) : TouchM m s₀ (State.modPort s p f) :=
  h.then (m' := 65536) ⟨fun p hp => by cases p <;> first | rfl | exact absurd hp (by decide)⟩ hm

theorem State.emit_touch {m : Nat} {s₀ s : State} (h : TouchM m s₀ s) (x : Output)
    (hm : Nat.land 33554432 m = 33554432 := by first | (apply sub_trans; rotate_left; (with_reducible assumption); rfl) | rfl) : TouchM m s₀ (State.emit s x) :=
  h.then (m' := 33554432) ⟨fun p hp => by cases p <;> first | rfl | exact absurd hp (by decide)⟩ hm

theorem State.freeBits_touch {m : Nat} {s₀ s : State} (h : TouchM m s₀ s) 
    (hm : Nat.land 67108864 m = 67108864 := by first | (apply sub_trans; rotate_left; (with_reducible assumption); rfl) | rfl) : TouchM m s₀ (State.freeBits s ).2 :=
  h.then (m' := 67108864) ⟨fun p hp => by cases p <;> first | rfl | exact absurd hp (by decide)⟩ hm

theorem State.freeBool_touch {m : Nat} {s₀ s : State} (h : TouchM m s₀ s) 
    (hm : Nat.land 67108864 m = 67108864 := by first | (apply sub_trans; rotate_left; (with_reducible assumption); rfl) | rfl) : TouchM m s₀ (State.freeBool s ).2 :=
  h.then (m' := 67108864) ⟨fun p hp => by cases p <;> first | rfl | exact absurd hp (by decide)⟩ hm

theorem State.store_touch {m : Nat} {s₀ s : State} (h : TouchM m s₀ s) (off : Nat) (w : Word)
    (hm : Nat.land 8 m = 8 := by first | (apply sub_trans; rotate_left; (with_reducible assumption); rfl) | rfl) : TouchM m s₀ (State.store s off w) :=
  h.then (m' := 8) ⟨fun p hp => by cases p <;> first | rfl | exact absurd hp (by decide)⟩ hm

theorem State.setFld_touch {m : Nat} {s₀ s : State} (h : TouchM m s₀ s) (f : Field) (v : Nat)
    (hm : Nat.land 8 m = 8 := by first | (apply sub_trans; rotate_left; (with_reducible assumption); rfl) | rfl) : TouchM m s₀ (State.setFld s f v) :=
  h.then (m' := 8) ⟨fun p hp => by cases p <;> first | rfl | exact absurd hp (by decide)⟩ hm

theorem State.enter_touch {m : Nat} {s₀ s : State} (h : TouchM m s₀ s) (st : ModState)
    (hm : Nat.land 2 m = 2 := by first | (apply sub_trans; rotate_left; (with_reducible assumption); rfl) | rfl) : TouchM m s₀ (State.enter s st) :=
  h.then (m' := 2) ⟨fun p hp => by cases p <;> first | rfl | exact absurd hp (by decide)⟩ hm

theorem State.tick_touch {m : Nat} {s₀ s : State} (h : TouchM m s₀ s) 
    (hm : Nat.land 1 m = 1 := by first | (apply sub_trans; rotate_left; (with_reducible assumption); rfl) | rfl) : TouchM m s₀ (State.tick s ) :=
  h.then (m' := 1) ⟨fun p hp => by cases p <;> first | rfl | exact absurd hp (by decide)⟩ hm

end Sys2Proof.Machine
end

