-- ==== Sys2Proof/Laws/TouchDeliver.lean ====
section
/-!
SUPPORT. Which parts of the state the operations of Machine/Deliver.lean may change.
-/

namespace Sys2Proof.Machine

theorem State.startFrame_touch {μ : Nat} {s₀ s : State} (h : TouchM μ s₀ s) (p : Port) (x : TxFrame)
    (hm : Nat.land 33619968 μ = 33619968 := by first | (apply sub_trans; rotate_left; (with_reducible assumption); rfl) | rfl) : TouchM μ s₀ (State.startFrame s p x) := by
  unfold State.startFrame
  (try dsimp only)
  repeat' first | with_reducible assumption | (with_reducible first | apply State.emit_touch | apply State.modPort_touch) | split | exact (rfl : Nat.land _ _ = _) | exact sub_trans rfl hm | intro _ | dsimp only | assumption

theorem State.startAgain_touch {μ : Nat} {s₀ s : State} (h : TouchM μ s₀ s) (p : Port) (x : TxFrame)
    (hm : Nat.land 33619968 μ = 33619968 := by first | (apply sub_trans; rotate_left; (with_reducible assumption); rfl) | rfl) : TouchM μ s₀ (State.startAgain s p x) := by
  unfold State.startAgain
  (try dsimp only)
  repeat' first | with_reducible assumption | (with_reducible first | apply State.emit_touch | apply State.modPort_touch) | split | exact (rfl : Nat.land _ _ = _) | exact sub_trans rfl hm | intro _ | dsimp only | assumption

theorem State.sendInside_touch {μ : Nat} {s₀ s : State} (h : TouchM μ s₀ s) (p : Port) (x : TxFrame) (t : TxNow) (n : Nat)
    (hm : Nat.land 33619968 μ = 33619968 := by first | (apply sub_trans; rotate_left; (with_reducible assumption); rfl) | rfl) : TouchM μ s₀ (State.sendInside s p x t n) := by
  unfold State.sendInside
  (try dsimp only)
  repeat' first | with_reducible assumption | (with_reducible first | apply State.emit_touch | apply State.modPort_touch) | split | exact (rfl : Nat.land _ _ = _) | exact sub_trans rfl hm | intro _ | dsimp only | assumption

theorem State.serve_touch {μ : Nat} {s₀ s : State} (h : TouchM μ s₀ s) (p : Port)
    (hm : Nat.land 33619968 μ = 33619968 := by first | (apply sub_trans; rotate_left; (with_reducible assumption); rfl) | rfl) : TouchM μ s₀ (State.serve s p) := by
  unfold State.serve
  (try dsimp only)
  repeat' first | with_reducible assumption | (with_reducible first | apply State.modPort_touch | apply State.startFrame_touch | apply State.startAgain_touch | apply State.sendInside_touch) | split | exact (rfl : Nat.land _ _ = _) | exact sub_trans rfl hm | intro _ | dsimp only | assumption

theorem State.enqueue_touch {μ : Nat} {s₀ s : State} (h : TouchM μ s₀ s) (p : Port) (x : TxFrame)
    (hm : Nat.land 33619968 μ = 33619968 := by first | (apply sub_trans; rotate_left; (with_reducible assumption); rfl) | rfl) : TouchM μ s₀ (State.enqueue s p x) := by
  unfold State.enqueue
  (try dsimp only)
  repeat' first | with_reducible assumption | (with_reducible first | apply State.modPort_touch | apply State.serve_touch) | split | exact (rfl : Nat.land _ _ = _) | exact sub_trans rfl hm | intro _ | dsimp only | assumption

theorem State.sendFrame_touch {μ : Nat} {s₀ s : State} (h : TouchM μ s₀ s) (p : Port) (own : Bool) (f : Frame)
    (hm : Nat.land 33619968 μ = 33619968 := by first | (apply sub_trans; rotate_left; (with_reducible assumption); rfl) | rfl) : TouchM μ s₀ (State.sendFrame s p own f) := by
  unfold State.sendFrame
  (try dsimp only)
  repeat' first | with_reducible assumption | (with_reducible first | apply State.enqueue_touch) | split | exact (rfl : Nat.land _ _ = _) | exact sub_trans rfl hm | intro _ | dsimp only | assumption

theorem State.ackPort_touch {μ : Nat} {s₀ s : State} (h : TouchM μ s₀ s) (p : Port) (lack : Nat)
    (hm : Nat.land 33619968 μ = 33619968 := by first | (apply sub_trans; rotate_left; (with_reducible assumption); rfl) | rfl) : TouchM μ s₀ (State.ackPort s p lack) := by
  unfold State.ackPort
  (try dsimp only)
  repeat' first | with_reducible assumption | (with_reducible first | apply State.modPort_touch | apply State.serve_touch) | split | exact (rfl : Nat.land _ _ = _) | exact sub_trans rfl hm | intro _ | dsimp only | assumption

theorem State.toHead_touch {μ : Nat} {s₀ s : State} (h : TouchM μ s₀ s) (ftype : Nat) (head : Bool) (info : Nat) (payload : List Byte)
    (hm : Nat.land 33619968 μ = 33619968 := by first | (apply sub_trans; rotate_left; (with_reducible assumption); rfl) | rfl) : TouchM μ s₀ (State.toHead s ftype head info payload) := by
  unfold State.toHead
  (try dsimp only)
  repeat' first | with_reducible assumption | (with_reducible first | apply State.sendFrame_touch) | split | exact (rfl : Nat.land _ _ = _) | exact sub_trans rfl hm | intro _ | dsimp only | assumption

theorem State.msix_touch {μ : Nat} {s₀ s : State} (h : TouchM μ s₀ s) (v : Nat)
    (hm : Nat.land 33554432 μ = 33554432 := by first | (apply sub_trans; rotate_left; (with_reducible assumption); rfl) | rfl) : TouchM μ s₀ (State.msix s v) := by
  unfold State.msix
  (try dsimp only)
  repeat' first | with_reducible assumption | (with_reducible first | apply State.emit_touch) | split | exact (rfl : Nat.land _ _ = _) | exact sub_trans rfl hm | intro _ | dsimp only | assumption

theorem State.placeEntry_touchEq {μ : Nat} {s₀ s t : State} {n : Fin 4} {bytes : List Byte} {what : Placed}
    (e : s.placeEntry n bytes what = some t) (h : TouchM μ s₀ s)
    (hm : Nat.land 34078720 μ = 34078720 := by first | (apply sub_trans; rotate_left; (with_reducible assumption); rfl) | rfl) : TouchM μ s₀ t := by
  unfold State.placeEntry at e
  dsimp only at e
  split at e
  · rw [← Option.some.inj e]
    repeat' first | with_reducible assumption | with_reducible first | apply State.msix_touch | apply State.modHost_touch | apply State.emit_touch | split | exact (rfl : Nat.land _ _ = _) | exact sub_trans rfl hm
  · simp at e


theorem State.notice_touch {μ : Nat} {s₀ s : State} (h : TouchM μ s₀ s) (subtype position : Nat) (c10 c1a c20 : List Byte)
    (hm : Nat.land 34078720 μ = 34078720 := by first | (apply sub_trans; rotate_left; (with_reducible assumption); rfl) | rfl) : TouchM μ s₀ (State.notice s subtype position c10 c1a c20) := by
  unfold State.notice
  (try dsimp only)
  repeat' first | with_reducible assumption | (with_reducible first | apply State.modHost_touch) | split | exact (rfl : Nat.land _ _ = _) | exact sub_trans rfl hm | intro _ | refine State.placeEntry_touchEq (by assumption) ?_ | dsimp only | assumption

theorem State.sweepNotice_touch {μ : Nat} {s₀ s : State} (h : TouchM μ s₀ s) (id position records : Nat) (done_ : Bool)
    (hm : Nat.land 34078720 μ = 34078720 := by first | (apply sub_trans; rotate_left; (with_reducible assumption); rfl) | rfl) : TouchM μ s₀ (State.sweepNotice s id position records done_) := by
  unfold State.sweepNotice
  (try dsimp only)
  repeat' first | with_reducible assumption | (with_reducible first | apply State.notice_touch) | split | exact (rfl : Nat.land _ _ = _) | exact sub_trans rfl hm | intro _ | dsimp only | assumption

theorem State.sweepPlaced_touch {μ : Nat} {s₀ s : State} (h : TouchM μ s₀ s) (id position : Nat)
    (hm : Nat.land 34144256 μ = 34144256 := by first | (apply sub_trans; rotate_left; (with_reducible assumption); rfl) | rfl) : TouchM μ s₀ (State.sweepPlaced s id position) := by
  unfold State.sweepPlaced
  (try dsimp only)
  repeat' first | with_reducible assumption | (with_reducible first | apply State.modLoop_touch | apply State.sweepNotice_touch) | split | exact (rfl : Nat.land _ _ = _) | exact sub_trans rfl hm | intro _ | dsimp only | assumption

theorem State.sweepEnded_touch {μ : Nat} {s₀ s : State} (h : TouchM μ s₀ s) (id position records : Nat)
    (hm : Nat.land 34144256 μ = 34144256 := by first | (apply sub_trans; rotate_left; (with_reducible assumption); rfl) | rfl) : TouchM μ s₀ (State.sweepEnded s id position records) := by
  unfold State.sweepEnded
  (try dsimp only)
  repeat' first | with_reducible assumption | (with_reducible first | apply State.modLoop_touch | apply State.sweepNotice_touch) | split | exact (rfl : Nat.land _ _ = _) | exact sub_trans rfl hm | intro _ | dsimp only | assumption

theorem State.writeCpl_touch {μ : Nat} {s₀ s : State} (h : TouchM μ s₀ s) (c : Cpl)
    (hm : Nat.land 34078720 μ = 34078720 := by first | (apply sub_trans; rotate_left; (with_reducible assumption); rfl) | rfl) : TouchM μ s₀ (State.writeCpl s c) := by
  unfold State.writeCpl
  (try dsimp only)
  repeat' first | with_reducible assumption | (with_reducible first | apply State.emit_touch | apply State.modHost_touch | apply State.msix_touch) | split | exact (rfl : Nat.land _ _ = _) | exact sub_trans rfl hm | intro _ | dsimp only | assumption

theorem State.putCpl_touch {μ : Nat} {s₀ s : State} (h : TouchM μ s₀ s) (c : Cpl)
    (hm : Nat.land 34078720 μ = 34078720 := by first | (apply sub_trans; rotate_left; (with_reducible assumption); rfl) | rfl) : TouchM μ s₀ (State.putCpl s c) := by
  unfold State.putCpl
  (try dsimp only)
  repeat' first | with_reducible assumption | (with_reducible first | apply State.writeCpl_touch | apply State.modHost_touch) | split | exact (rfl : Nat.land _ _ = _) | exact sub_trans rfl hm | intro _ | dsimp only | assumption

theorem State.flushCpl_touch {μ : Nat} {s₀ s : State} (h : TouchM μ s₀ s) (n : Nat)
    (hm : Nat.land 34078720 μ = 34078720 := by first | (apply sub_trans; rotate_left; (with_reducible assumption); rfl) | rfl) : TouchM μ s₀ (State.flushCpl n s) := by
  induction n generalizing s with
  | zero => exact h
  | succ n ih =>
    unfold State.flushCpl
    repeat' first | with_reducible assumption | with_reducible first | apply ih | apply State.writeCpl_touch | apply State.modHost_touch | split | exact (rfl : Nat.land _ _ = _) | exact sub_trans rfl hm


theorem State.completeTag_touch {μ : Nat} {s₀ s : State} (h : TouchM μ s₀ s) (tag position : Nat) (r : Result) (extra : BitVec 8) (bc : BcFigures)
    (hm : Nat.land 34078720 μ = 34078720 := by first | (apply sub_trans; rotate_left; (with_reducible assumption); rfl) | rfl) : TouchM μ s₀ (State.completeTag s tag position r extra bc) := by
  unfold State.completeTag
  (try dsimp only)
  repeat' first | with_reducible assumption | (with_reducible first | apply State.emit_touch | apply State.putCpl_touch) | split | exact (rfl : Nat.land _ _ = _) | exact sub_trans rfl hm | intro _ | dsimp only | assumption

theorem State.reply_touch {μ : Nat} {s₀ s : State} (h : TouchM μ s₀ s) (o : Origin) (op : Nat) (r : Result)
    (hm : Nat.land 34144256 μ = 34144256 := by first | (apply sub_trans; rotate_left; (with_reducible assumption); rfl) | rfl) : TouchM μ s₀ (State.reply s o op r) := by
  unfold State.reply
  (try dsimp only)
  repeat' first | with_reducible assumption | (with_reducible first | apply State.completeTag_touch | apply State.toHead_touch) | split | exact (rfl : Nat.land _ _ = _) | exact sub_trans rfl hm | intro _ | dsimp only | assumption

theorem State.replyLate_touch {μ : Nat} {s₀ s : State} (h : TouchM μ s₀ s) (o : Origin) (op : Nat) (r : Result)
    (hm : Nat.land 34144256 μ = 34144256 := by first | (apply sub_trans; rotate_left; (with_reducible assumption); rfl) | rfl) : TouchM μ s₀ (State.replyLate s o op r) := by
  unfold State.replyLate
  (try dsimp only)
  repeat' first | with_reducible assumption | (with_reducible first | apply State.modLoop_touch | apply State.reply_touch) | split | exact (rfl : Nat.land _ _ = _) | exact sub_trans rfl hm | intro _ | dsimp only | assumption

theorem State.modSlot_touch {μ : Nat} {s₀ s : State} (h : TouchM μ s₀ s) (i : Nat) (f : Slot → Slot)
    (hm : Nat.land 8192 μ = 8192 := by first | (apply sub_trans; rotate_left; (with_reducible assumption); rfl) | rfl) : TouchM μ s₀ (State.modSlot s i f) := by
  unfold State.modSlot
  (try dsimp only)
  repeat' first | with_reducible assumption | (with_reducible first | apply State.modRes_touch) | split | exact (rfl : Nat.land _ _ = _) | exact sub_trans rfl hm | intro _ | dsimp only | assumption

theorem State.deliverSlot_touch {μ : Nat} {s₀ s : State} (h : TouchM μ s₀ s) (i : Nat)
    (hm : Nat.land 34152448 μ = 34152448 := by first | (apply sub_trans; rotate_left; (with_reducible assumption); rfl) | rfl) : TouchM μ s₀ (State.deliverSlot s i) := by
  unfold State.deliverSlot
  (try dsimp only)
  repeat' first | with_reducible assumption | (with_reducible first | apply State.modSlot_touch | apply State.sweepPlaced_touch | apply State.toHead_touch) | split | exact (rfl : Nat.land _ _ = _) | exact sub_trans rfl hm | intro _ | refine State.placeEntry_touchEq (by assumption) ?_ | dsimp only | assumption

theorem State.putRecord_touch {μ : Nat} {s₀ s : State} (h : TouchM μ s₀ s) (kind : Nat) (flags : BitVec 8) (cell dist time sweepId : Nat) (payload : List Byte)
    (hm : Nat.land 34152448 μ = 34152448 := by first | (apply sub_trans; rotate_left; (with_reducible assumption); rfl) | rfl) : TouchM μ s₀ (State.putRecord s kind flags cell dist time sweepId payload) := by
  unfold State.putRecord
  (try dsimp only)
  repeat' first | with_reducible assumption | (with_reducible first | apply State.modRes_touch | apply State.deliverSlot_touch) | split | exact (rfl : Nat.land _ _ = _) | exact sub_trans rfl hm | intro _ | dsimp only | assumption

theorem State.endEpisode_touch {μ : Nat} {s₀ s : State} (h : TouchM μ s₀ s)
    (hm : Nat.land 8192 μ = 8192 := by first | (apply sub_trans; rotate_left; (with_reducible assumption); rfl) | rfl) : TouchM μ s₀ (State.endEpisode s) := by
  unfold State.endEpisode
  (try dsimp only)
  repeat' first | with_reducible assumption | (with_reducible first | apply State.modRes_touch) | split | exact (rfl : Nat.land _ _ = _) | exact sub_trans rfl hm | intro _ | dsimp only | assumption

end Sys2Proof.Machine
end

