-- ==== Sys2Proof/Laws/TouchJtag.lean ====
section
/-!
SUPPORT. Which parts of the state the operations of Machine/Jtag.lean may change.
-/

namespace Sys2Proof.Machine

theorem State.capturePins_touch {μ : Nat} {s₀ s : State} (h : TouchM μ s₀ s)
    (hm : Nat.land 67108864 μ = 67108864 := by first | (apply sub_trans; rotate_left; (with_reducible assumption); rfl) | rfl) : TouchM μ s₀ (State.capturePins s).2 := by
  unfold State.capturePins
  (try dsimp only)
  repeat' first | with_reducible assumption | (with_reducible first | apply State.freeBool_touch | apply foldl_touch) | split | exact (rfl : Nat.land _ _ = _) | exact sub_trans rfl hm | intro _ | dsimp only | assumption

theorem State.capturePins_touchEq {μ : Nat} {s₀ s u₁ : State} {a₁} 
    (e : State.capturePins s = (a₁, u₁)) (h : TouchM μ s₀ s) (hm : Nat.land 67108864 μ = 67108864 := by first | (apply sub_trans; rotate_left; (with_reducible assumption); rfl) | rfl) : TouchM μ s₀ u₁ := by
  have k := State.capturePins_touch h  hm
  rw [e] at k
  exact k

theorem State.captureDr_touch {μ : Nat} {s₀ s : State} (h : TouchM μ s₀ s)
    (hm : Nat.land 67108864 μ = 67108864 := by first | (apply sub_trans; rotate_left; (with_reducible assumption); rfl) | rfl) : TouchM μ s₀ (State.captureDr s).2 := by
  unfold State.captureDr
  (try dsimp only)
  repeat' first | with_reducible assumption | (with_reducible first | apply State.capturePins_touch) | split | exact (rfl : Nat.land _ _ = _) | exact sub_trans rfl hm | intro _ | refine State.capturePins_touchEq (by assumption) ?_ | dsimp only | assumption

theorem State.captureDr_touchEq {μ : Nat} {s₀ s u₁ : State} {a₁} 
    (e : State.captureDr s = (a₁, u₁)) (h : TouchM μ s₀ s) (hm : Nat.land 67108864 μ = 67108864 := by first | (apply sub_trans; rotate_left; (with_reducible assumption); rfl) | rfl) : TouchM μ s₀ u₁ := by
  have k := State.captureDr_touch h  hm
  rw [e] at k
  exact k

theorem State.modJtag_touch {μ : Nat} {s₀ s : State} (h : TouchM μ s₀ s) (f : Jtag → Jtag)
    (hm : Nat.land 4 μ = 4 := by first | (apply sub_trans; rotate_left; (with_reducible assumption); rfl) | rfl) : TouchM μ s₀ (State.modJtag s f) := by
  unfold State.modJtag
  (try dsimp only)
  repeat' first | with_reducible assumption | (with_reducible first | apply State.setPins_touch) | split | exact (rfl : Nat.land _ _ = _) | exact sub_trans rfl hm | intro _ | dsimp only | assumption

theorem State.tckEdge_touch {μ : Nat} {s₀ s : State} (h : TouchM μ s₀ s) (tms tdi : Bool)
    (hm : Nat.land 67108868 μ = 67108868 := by first | (apply sub_trans; rotate_left; (with_reducible assumption); rfl) | rfl) : TouchM μ s₀ (State.tckEdge s tms tdi) := by
  unfold State.tckEdge
  (try dsimp only)
  repeat' first | with_reducible assumption | (with_reducible first | apply State.modJtag_touch | apply State.captureDr_touch) | split | exact (rfl : Nat.land _ _ = _) | exact sub_trans rfl hm | intro _ | refine State.captureDr_touchEq (by assumption) ?_ | dsimp only | assumption

theorem State.jtagTick_touch {μ : Nat} {s₀ s : State} (h : TouchM μ s₀ s)
    (hm : Nat.land 67108868 μ = 67108868 := by first | (apply sub_trans; rotate_left; (with_reducible assumption); rfl) | rfl) : TouchM μ s₀ (State.jtagTick s) := by
  unfold State.jtagTick
  (try dsimp only)
  repeat' first | with_reducible assumption | (with_reducible first | apply State.modJtag_touch | apply State.tckEdge_touch) | split | exact (rfl : Nat.land _ _ = _) | exact sub_trans rfl hm | intro _ | dsimp only | assumption

theorem State.idleTick_touch {μ : Nat} {s₀ s : State} (h : TouchM μ s₀ s)
    (hm : Nat.land 100728837 μ = 100728837 := by first | (apply sub_trans; rotate_left; (with_reducible assumption); rfl) | rfl) : TouchM μ s₀ (State.idleTick s) := by
  unfold State.idleTick
  (try dsimp only)
  repeat' first | with_reducible assumption | (with_reducible first | apply State.tick_touch | apply State.serve_touch | apply State.jtagTick_touch) | split | exact (rfl : Nat.land _ _ = _) | exact sub_trans rfl hm | intro _ | dsimp only | assumption

end Sys2Proof.Machine
end

