-- ==== Sys2Proof/Laws/TouchSpan.lean ====
section
/-!
SUPPORT. Which parts of the state the operations of Machine/Span.lean may change.
-/

namespace Sys2Proof.Machine

theorem State.pushDown_touch {μ : Nat} {s₀ s : State} (h : TouchM μ s₀ s) (g : Seg) (m : DownMsg)
    (hm : Nat.land 512 μ = 512 := by first | (apply sub_trans; rotate_left; (with_reducible assumption); rfl) | rfl) : TouchM μ s₀ (State.pushDown s g m) := by
  unfold State.pushDown
  (try dsimp only)
  repeat' first | with_reducible assumption | (with_reducible first | apply State.modLink_touch) | split | exact (rfl : Nat.land _ _ = _) | exact sub_trans rfl hm | intro _ | dsimp only | assumption

theorem State.sendDown_touch {μ : Nat} {s₀ s : State} (h : TouchM μ s₀ s) (g : Seg) (m : DownMsg)
    (hm : Nat.land 512 μ = 512 := by first | (apply sub_trans; rotate_left; (with_reducible assumption); rfl) | rfl) : TouchM μ s₀ (State.sendDown s g m) := by
  unfold State.sendDown
  (try dsimp only)
  repeat' first | with_reducible assumption | (with_reducible first | apply State.modLink_touch | apply State.pushDown_touch) | split | exact (rfl : Nat.land _ _ = _) | exact sub_trans rfl hm | intro _ | dsimp only | assumption

theorem State.sendUp_touch {μ : Nat} {s₀ s : State} (h : TouchM μ s₀ s) (g : Seg) (m : UpMsg)
    (hm : Nat.land 512 μ = 512 := by first | (apply sub_trans; rotate_left; (with_reducible assumption); rfl) | rfl) : TouchM μ s₀ (State.sendUp s g m) := by
  unfold State.sendUp
  (try dsimp only)
  repeat' first | with_reducible assumption | (with_reducible first | apply State.modLink_touch) | split | exact (rfl : Nat.land _ _ = _) | exact sub_trans rfl hm | intro _ | dsimp only | assumption

theorem State.startTimer_touch {μ : Nat} {s₀ s : State} (h : TouchM μ s₀ s) (g : Seg)
    (hm : Nat.land 67109120 μ = 67109120 := by first | (apply sub_trans; rotate_left; (with_reducible assumption); rfl) | rfl) : TouchM μ s₀ (State.startTimer s g) := by
  unfold State.startTimer
  (try dsimp only)
  repeat' first | with_reducible assumption | (with_reducible first | apply State.freeBits_touch | apply State.modSeg_touch) | split | exact (rfl : Nat.land _ _ = _) | exact sub_trans rfl hm | intro _ | dsimp only | assumption

theorem State.compareTimer_touch {μ : Nat} {s₀ s : State} (h : TouchM μ s₀ s) (g : Seg)
    (hm : Nat.land 768 μ = 768 := by first | (apply sub_trans; rotate_left; (with_reducible assumption); rfl) | rfl) : TouchM μ s₀ (State.compareTimer s g) := by
  unfold State.compareTimer
  (try dsimp only)
  repeat' first | with_reducible assumption | (with_reducible first | apply State.modLink_touch | apply State.modSeg_touch) | split | exact (rfl : Nat.land _ _ = _) | exact sub_trans rfl hm | intro _ | dsimp only | assumption

theorem State.segReport_touch {μ : Nat} {s₀ s : State} (h : TouchM μ s₀ s) (g : Seg) (r : Report)
    (hm : Nat.land 512 μ = 512 := by first | (apply sub_trans; rotate_left; (with_reducible assumption); rfl) | rfl) : TouchM μ s₀ (State.segReport s g r) := by
  unfold State.segReport
  (try dsimp only)
  repeat' first | with_reducible assumption | (with_reducible first | apply State.sendUp_touch | apply State.modLink_touch) | split | exact (rfl : Nat.land _ _ = _) | exact sub_trans rfl hm | intro _ | dsimp only | assumption

end Sys2Proof.Machine
end

