-- ==== Sys2Proof/Laws/TouchDisturb.lean ====
section
/-!
SUPPORT. Which parts of the state the operations of Machine/Disturb.lean may change.
-/

namespace Sys2Proof.Machine

theorem State.askRestart_touch {μ : Nat} {s₀ s : State} (h : TouchM μ s₀ s)
    (hm : Nat.land 32 μ = 32 := by first | (apply sub_trans; rotate_left; (with_reducible assumption); rfl) | rfl) : TouchM μ s₀ (State.askRestart s) := by
  unfold State.askRestart
  (try dsimp only)
  repeat' first | with_reducible assumption | (with_reducible first | apply State.setMeas_touch) | split | exact (rfl : Nat.land _ _ = _) | exact sub_trans rfl hm | intro _ | dsimp only | assumption

theorem State.countDist_touch {μ : Nat} {s₀ s : State} (h : TouchM μ s₀ s) (k : Cell) (a b : Nat)
    (hm : Nat.land 4128 μ = 4128 := by first | (apply sub_trans; rotate_left; (with_reducible assumption); rfl) | rfl) : TouchM μ s₀ (State.countDist s k a b) := by
  unfold State.countDist
  (try dsimp only)
  repeat' first | with_reducible assumption | (with_reducible first | apply State.modMeas_touch | apply State.modShunts_touch) | split | exact (rfl : Nat.land _ _ = _) | exact sub_trans rfl hm | intro _ | dsimp only | assumption

theorem State.disturb_touch {μ : Nat} {s₀ s : State} (h : TouchM μ s₀ s) (k : Cell) (a b : Nat)
    (hm : Nat.land 4128 μ = 4128 := by first | (apply sub_trans; rotate_left; (with_reducible assumption); rfl) | rfl) : TouchM μ s₀ (State.disturb s k a b) := by
  unfold State.disturb
  (try dsimp only)
  repeat' first | with_reducible assumption | (with_reducible first | apply State.modMeas_touch | apply State.countDist_touch) | split | exact (rfl : Nat.land _ _ = _) | exact sub_trans rfl hm | intro _ | dsimp only | assumption

theorem State.neighbourMoved_touch {μ : Nat} {s₀ s : State} (h : TouchM μ s₀ s) (k : Cell) (a b : Nat)
    (hm : Nat.land 32 μ = 32 := by first | (apply sub_trans; rotate_left; (with_reducible assumption); rfl) | rfl) : TouchM μ s₀ (State.neighbourMoved s k a b) := by
  unfold State.neighbourMoved
  (try dsimp only)
  repeat' first | with_reducible assumption | (with_reducible first | apply State.modMeas_touch) | split | exact (rfl : Nat.land _ _ = _) | exact sub_trans rfl hm | intro _ | dsimp only | assumption

theorem State.disturbNear_touch {μ : Nat} {s₀ s : State} (h : TouchM μ s₀ s) (k : Cell) (a b : Nat)
    (hm : Nat.land 4128 μ = 4128 := by first | (apply sub_trans; rotate_left; (with_reducible assumption); rfl) | rfl) : TouchM μ s₀ (State.disturbNear s k a b) := by
  unfold State.disturbNear
  (try dsimp only)
  repeat' first | with_reducible assumption | (with_reducible first | apply State.disturb_touch | apply State.neighbourMoved_touch | apply each_touch) | split | exact (rfl : Nat.land _ _ = _) | exact sub_trans rfl hm | intro _ | dsimp only | assumption

theorem State.disturbOpen_touch {μ : Nat} {s₀ s : State} (h : TouchM μ s₀ s) (k : Cell)
    (hm : Nat.land 4128 μ = 4128 := by first | (apply sub_trans; rotate_left; (with_reducible assumption); rfl) | rfl) : TouchM μ s₀ (State.disturbOpen s k) := by
  unfold State.disturbOpen
  (try dsimp only)
  repeat' first | with_reducible assumption | (with_reducible first | apply State.disturbNear_touch) | split | exact (rfl : Nat.land _ _ = _) | exact sub_trans rfl hm | intro _ | dsimp only | assumption

end Sys2Proof.Machine
end

