-- ==== Sys2Proof/Laws/TouchSpc.lean ====
section
/-!
SUPPORT. Which parts of the state the operations of Machine/Spc.lean may change.
-/

namespace Sys2Proof.Machine

theorem State.recentre_touch {μ : Nat} {s₀ s : State} (h : TouchM μ s₀ s)
    (hm : Nat.land 2048 μ = 2048 := by first | (apply sub_trans; rotate_left; (with_reducible assumption); rfl) | rfl) : TouchM μ s₀ (State.recentre s) := by
  unfold State.recentre
  (try dsimp only)
  repeat' first | with_reducible assumption | (with_reducible first | apply State.modSpc_touch) | split | exact (rfl : Nat.land _ _ = _) | exact sub_trans rfl hm | intro _ | dsimp only | assumption

theorem State.releasePhase_touch {μ : Nat} {s₀ s : State} (h : TouchM μ s₀ s) (p : Phase)
    (hm : Nat.land 2048 μ = 2048 := by first | (apply sub_trans; rotate_left; (with_reducible assumption); rfl) | rfl) : TouchM μ s₀ (State.releasePhase s p) := by
  unfold State.releasePhase
  (try dsimp only)
  repeat' first | with_reducible assumption | (with_reducible first | apply State.modPhase_touch) | split | exact (rfl : Nat.land _ _ = _) | exact sub_trans rfl hm | intro _ | dsimp only | assumption

theorem State.addPhase_touch {μ : Nat} {s₀ s : State} (h : TouchM μ s₀ s)
    (hm : Nat.land 2048 μ = 2048 := by first | (apply sub_trans; rotate_left; (with_reducible assumption); rfl) | rfl) : TouchM μ s₀ (State.addPhase s) := by
  unfold State.addPhase
  (try dsimp only)
  repeat' first | with_reducible assumption | (with_reducible first | apply State.modPhase_touch | apply State.modSpc_touch | apply State.recentre_touch) | split | exact (rfl : Nat.land _ _ = _) | exact sub_trans rfl hm | intro _ | dsimp only | assumption

theorem State.addPhases_touch {μ : Nat} {s₀ s : State} (h : TouchM μ s₀ s) (n : Nat)
    (hm : Nat.land 2048 μ = 2048 := by first | (apply sub_trans; rotate_left; (with_reducible assumption); rfl) | rfl) : TouchM μ s₀ (State.addPhases n s) := by
  induction n generalizing s with
  | zero => exact h
  | succ n ih =>
    unfold State.addPhases
    repeat' first | with_reducible assumption | with_reducible first | apply ih | apply State.addPhase_touch | split | exact (rfl : Nat.land _ _ = _) | exact sub_trans rfl hm


theorem State.transmit_touch {μ : Nat} {s₀ s : State} (h : TouchM μ s₀ s) (f : BitVec 64)
    (hm : Nat.land 33556480 μ = 33556480 := by first | (apply sub_trans; rotate_left; (with_reducible assumption); rfl) | rfl) : TouchM μ s₀ (State.transmit s f) := by
  unfold State.transmit
  (try dsimp only)
  repeat' first | with_reducible assumption | (with_reducible first | apply State.modSpc_touch | apply State.emit_touch) | split | exact (rfl : Nat.land _ _ = _) | exact sub_trans rfl hm | intro _ | dsimp only | assumption

theorem State.stepOutIdle_touch {μ : Nat} {s₀ s : State} (h : TouchM μ s₀ s)
    (hm : Nat.land 33556480 μ = 33556480 := by first | (apply sub_trans; rotate_left; (with_reducible assumption); rfl) | rfl) : TouchM μ s₀ (State.stepOutIdle s) := by
  unfold State.stepOutIdle
  (try dsimp only)
  repeat' first | with_reducible assumption | (with_reducible first | apply State.transmit_touch) | split | exact (rfl : Nat.land _ _ = _) | exact sub_trans rfl hm | intro _ | dsimp only | assumption

theorem State.sendAnswer_touch {μ : Nat} {s₀ s : State} (h : TouchM μ s₀ s) (a : Answer)
    (hm : Nat.land 33556480 μ = 33556480 := by first | (apply sub_trans; rotate_left; (with_reducible assumption); rfl) | rfl) : TouchM μ s₀ (State.sendAnswer s a) := by
  unfold State.sendAnswer
  (try dsimp only)
  repeat' first | with_reducible assumption | (with_reducible first | apply State.modSpc_touch | apply State.transmit_touch) | split | exact (rfl : Nat.land _ _ = _) | exact sub_trans rfl hm | intro _ | dsimp only | assumption

theorem State.answerLast_touch {μ : Nat} {s₀ s : State} (h : TouchM μ s₀ s) (ack : Bool) (cause : Nat)
    (hm : Nat.land 33556480 μ = 33556480 := by first | (apply sub_trans; rotate_left; (with_reducible assumption); rfl) | rfl) : TouchM μ s₀ (State.answerLast s ack cause) := by
  unfold State.answerLast
  (try dsimp only)
  repeat' first | with_reducible assumption | (with_reducible first | apply State.modSpc_touch | apply State.sendAnswer_touch) | split | exact (rfl : Nat.land _ _ = _) | exact sub_trans rfl hm | intro _ | dsimp only | assumption

theorem State.nakPending_touch {μ : Nat} {s₀ s : State} (h : TouchM μ s₀ s)
    (hm : Nat.land 33556480 μ = 33556480 := by first | (apply sub_trans; rotate_left; (with_reducible assumption); rfl) | rfl) : TouchM μ s₀ (State.nakPending s) := by
  unfold State.nakPending
  (try dsimp only)
  repeat' first | with_reducible assumption | (with_reducible first | apply State.answerLast_touch) | split | exact (rfl : Nat.land _ _ = _) | exact sub_trans rfl hm | intro _ | dsimp only | assumption

theorem State.retarget_touch {μ : Nat} {s₀ s : State} (h : TouchM μ s₀ s) (t : Int)
    (hm : Nat.land 128 μ = 128 := by first | (apply sub_trans; rotate_left; (with_reducible assumption); rfl) | rfl) : TouchM μ s₀ (State.retarget s t) := by
  unfold State.retarget
  (try dsimp only)
  repeat' first | with_reducible assumption | (with_reducible first | apply State.setAna_touch) | split | exact (rfl : Nat.land _ _ = _) | exact sub_trans rfl hm | intro _ | dsimp only | assumption

theorem State.stageOff_touch {μ : Nat} {s₀ s : State} (h : TouchM μ s₀ s)
    (hm : Nat.land 2052 μ = 2052 := by first | (apply sub_trans; rotate_left; (with_reducible assumption); rfl) | rfl) : TouchM μ s₀ (State.stageOff s) := by
  unfold State.stageOff
  (try dsimp only)
  repeat' first | with_reducible assumption | (with_reducible first | apply State.modSpc_touch | apply State.setPins_touch) | split | exact (rfl : Nat.land _ _ = _) | exact sub_trans rfl hm | intro _ | dsimp only | assumption

theorem State.inhibit_touch {μ : Nat} {s₀ s : State} (h : TouchM μ s₀ s) (c : Nat)
    (hm : Nat.land 33556612 μ = 33556612 := by first | (apply sub_trans; rotate_left; (with_reducible assumption); rfl) | rfl) : TouchM μ s₀ (State.inhibit s c) := by
  unfold State.inhibit
  (try dsimp only)
  repeat' first | with_reducible assumption | (with_reducible first | apply State.modSpc_touch | apply State.nakPending_touch | apply State.retarget_touch | apply State.stageOff_touch) | split | exact (rfl : Nat.land _ _ = _) | exact sub_trans rfl hm | intro _ | dsimp only | assumption

theorem State.endInhibit_touch {μ : Nat} {s₀ s : State} (h : TouchM μ s₀ s) (c : Nat)
    (hm : Nat.land 2048 μ = 2048 := by first | (apply sub_trans; rotate_left; (with_reducible assumption); rfl) | rfl) : TouchM μ s₀ (State.endInhibit s c) := by
  unfold State.endInhibit
  (try dsimp only)
  repeat' first | with_reducible assumption | (with_reducible first | apply State.modSpc_touch) | split | exact (rfl : Nat.land _ _ = _) | exact sub_trans rfl hm | intro _ | dsimp only | assumption

theorem State.settleNoPhase_touch {μ : Nat} {s₀ s : State} (h : TouchM μ s₀ s)
    (hm : Nat.land 2048 μ = 2048 := by first | (apply sub_trans; rotate_left; (with_reducible assumption); rfl) | rfl) : TouchM μ s₀ (State.settleNoPhase s) := by
  unfold State.settleNoPhase
  (try dsimp only)
  repeat' first | with_reducible assumption | (with_reducible first | apply State.endInhibit_touch) | split | exact (rfl : Nat.land _ _ = _) | exact sub_trans rfl hm | intro _ | dsimp only | assumption

theorem State.capacityChanged_touch {μ : Nat} {s₀ s : State} (h : TouchM μ s₀ s)
    (hm : Nat.land 2048 μ = 2048 := by first | (apply sub_trans; rotate_left; (with_reducible assumption); rfl) | rfl) : TouchM μ s₀ (State.capacityChanged s) := by
  unfold State.capacityChanged
  (try dsimp only)
  repeat' first | with_reducible assumption | (with_reducible first | apply State.modSpc_touch | apply State.recentre_touch) | split | exact (rfl : Nat.land _ _ = _) | exact sub_trans rfl hm | intro _ | dsimp only | assumption

theorem State.endToggle_touch {μ : Nat} {s₀ s : State} (h : TouchM μ s₀ s)
    (hm : Nat.land 2048 μ = 2048 := by first | (apply sub_trans; rotate_left; (with_reducible assumption); rfl) | rfl) : TouchM μ s₀ (State.endToggle s) := by
  unfold State.endToggle
  (try dsimp only)
  repeat' first | with_reducible assumption | (with_reducible first | apply State.modPhase_touch | apply State.modSpc_touch | apply each_touch) | split | exact (rfl : Nat.land _ _ = _) | exact sub_trans rfl hm | intro _ | dsimp only | assumption

theorem State.finishShed_touch {μ : Nat} {s₀ s : State} (h : TouchM μ s₀ s)
    (hm : Nat.land 2048 μ = 2048 := by first | (apply sub_trans; rotate_left; (with_reducible assumption); rfl) | rfl) : TouchM μ s₀ (State.finishShed s) := by
  unfold State.finishShed
  (try dsimp only)
  repeat' first | with_reducible assumption | (with_reducible first | apply State.releasePhase_touch | apply each_touch) | split | exact (rfl : Nat.land _ _ = _) | exact sub_trans rfl hm | intro _ | dsimp only | assumption

theorem State.acceptFrame_touch {μ : Nat} {s₀ s : State} (h : TouchM μ s₀ s) (f : BitVec 64) (external : Bool)
    (hm : Nat.land 33556612 μ = 33556612 := by first | (apply sub_trans; rotate_left; (with_reducible assumption); rfl) | rfl) : TouchM μ s₀ (State.acceptFrame s f external).1 := by
  unfold State.acceptFrame
  (try dsimp only)
  repeat' first | with_reducible assumption | (with_reducible first | apply State.retarget_touch | apply State.modSpc_touch | apply State.endToggle_touch | apply State.finishShed_touch | apply State.answerLast_touch | apply State.setPins_touch | apply State.addPhases_touch) | split | exact (rfl : Nat.land _ _ = _) | exact sub_trans rfl hm | intro _ | dsimp only | assumption

theorem State.acceptFrame_touchEq {μ : Nat} {s₀ s u₁ : State} {a₁} {f : BitVec 64} {external : Bool}
    (e : State.acceptFrame s f external = (u₁, a₁)) (h : TouchM μ s₀ s) (hm : Nat.land 33556612 μ = 33556612 := by first | (apply sub_trans; rotate_left; (with_reducible assumption); rfl) | rfl) : TouchM μ s₀ u₁ := by
  have k := State.acceptFrame_touch h f external hm
  rw [e] at k
  exact k

theorem State.judgeFrame_touch {μ : Nat} {s₀ s : State} (h : TouchM μ s₀ s) (f : BitVec 64) (external : Bool)
    (hm : Nat.land 33556612 μ = 33556612 := by first | (apply sub_trans; rotate_left; (with_reducible assumption); rfl) | rfl) : TouchM μ s₀ (State.judgeFrame s f external).1 := by
  unfold State.judgeFrame
  (try dsimp only)
  repeat' first | with_reducible assumption | (with_reducible first | apply State.sendAnswer_touch | apply State.modSpc_touch | apply State.acceptFrame_touch) | split | exact (rfl : Nat.land _ _ = _) | exact sub_trans rfl hm | intro _ | refine State.acceptFrame_touchEq (by assumption) ?_ | dsimp only | assumption

theorem State.judgeFrame_touchEq {μ : Nat} {s₀ s u₁ : State} {a₁} {f : BitVec 64} {external : Bool}
    (e : State.judgeFrame s f external = (u₁, a₁)) (h : TouchM μ s₀ s) (hm : Nat.land 33556612 μ = 33556612 := by first | (apply sub_trans; rotate_left; (with_reducible assumption); rfl) | rfl) : TouchM μ s₀ u₁ := by
  have k := State.judgeFrame_touch h f external hm
  rw [e] at k
  exact k

theorem State.stepValid_touch {μ : Nat} {s₀ s : State} (h : TouchM μ s₀ s)
    (hm : Nat.land 2048 μ = 2048 := by first | (apply sub_trans; rotate_left; (with_reducible assumption); rfl) | rfl) : TouchM μ s₀ (State.stepValid s) := by
  unfold State.stepValid
  (try dsimp only)
  repeat' first | with_reducible assumption | (with_reducible first | apply State.modSpc_touch) | split | exact (rfl : Nat.land _ _ = _) | exact sub_trans rfl hm | intro _ | dsimp only | assumption

end Sys2Proof.Machine
end

