-- ==== Sys2Proof/Laws/TouchCells.lean ====
section
/-!
SUPPORT. Which parts of the state the operations of Machine/Cells.lean may change.
-/

namespace Sys2Proof.Machine

theorem State.startSeq_touch {μ : Nat} {s₀ s : State} (h : TouchM μ s₀ s) (k : Cell) (kind : SeqKind) (toIn : Bool) (target : PathState) (planned : Option Nat) (pairSlot : Nat) (late : Bool)
    (hm : Nat.land 16 μ = 16 := by first | (apply sub_trans; rotate_left; (with_reducible assumption); rfl) | rfl) : TouchM μ s₀ (State.startSeq s k kind toIn target planned pairSlot late) := by
  unfold State.startSeq
  (try dsimp only)
  repeat' first | with_reducible assumption | (with_reducible first | apply State.modCell_touch) | split | exact (rfl : Nat.land _ _ = _) | exact sub_trans rfl hm | intro _ | dsimp only | assumption

theorem State.commutate_touch {μ : Nat} {s₀ s : State} (h : TouchM μ s₀ s) (k : Cell) (toIn : Bool) (target : PathState) (planned : Option Nat) (pairSlot : Nat) (late : Bool)
    (hm : Nat.land 16 μ = 16 := by first | (apply sub_trans; rotate_left; (with_reducible assumption); rfl) | rfl) : TouchM μ s₀ (State.commutate s k toIn target planned pairSlot late) := by
  unfold State.commutate
  (try dsimp only)
  repeat' first | with_reducible assumption | (with_reducible first | apply State.startSeq_touch) | split | exact (rfl : Nat.land _ _ = _) | exact sub_trans rfl hm | intro _ | dsimp only | assumption

theorem State.undo_touch {μ : Nat} {s₀ s : State} (h : TouchM μ s₀ s) (k : Cell) (t : Transition)
    (hm : Nat.land 16 μ = 16 := by first | (apply sub_trans; rotate_left; (with_reducible assumption); rfl) | rfl) : TouchM μ s₀ (State.undo s k t) := by
  unfold State.undo
  (try dsimp only)
  repeat' first | with_reducible assumption | (with_reducible first | apply State.modCell_touch) | split | exact (rfl : Nat.land _ _ = _) | exact sub_trans rfl hm | intro _ | dsimp only | assumption

theorem State.park_touch {μ : Nat} {s₀ s : State} (h : TouchM μ s₀ s) (k : Cell) (code : Nat)
    (hm : Nat.land 4144 μ = 4144 := by first | (apply sub_trans; rotate_left; (with_reducible assumption); rfl) | rfl) : TouchM μ s₀ (State.park s k code) := by
  unfold State.park
  (try dsimp only)
  repeat' first | with_reducible assumption | (with_reducible first | apply State.modCell_touch | apply State.undo_touch | apply State.disturbOpen_touch | apply State.startSeq_touch | apply State.commutate_touch) | split | exact (rfl : Nat.land _ _ = _) | exact sub_trans rfl hm | intro _ | dsimp only | assumption

theorem State.gateFailure_touch {μ : Nat} {s₀ s : State} (h : TouchM μ s₀ s) (k : Cell) (step : Nat)
    (hm : Nat.land 528 μ = 528 := by first | (apply sub_trans; rotate_left; (with_reducible assumption); rfl) | rfl) : TouchM μ s₀ (State.gateFailure s k step) := by
  unfold State.gateFailure
  (try dsimp only)
  repeat' first | with_reducible assumption | (with_reducible first | apply State.modCell_touch | apply State.startSeq_touch | apply State.segReport_touch) | split | exact (rfl : Nat.land _ _ = _) | exact sub_trans rfl hm | intro _ | dsimp only | assumption

theorem State.beginHold_touch {μ : Nat} {s₀ s : State} (h : TouchM μ s₀ s) (k : Cell) (f : CellPath → CellPath)
    (hm : Nat.land 16 μ = 16 := by first | (apply sub_trans; rotate_left; (with_reducible assumption); rfl) | rfl) : TouchM μ s₀ (State.beginHold s k f) := by
  unfold State.beginHold
  (try dsimp only)
  repeat' first | with_reducible assumption | (with_reducible first | apply State.modCell_touch | apply State.commutate_touch) | split | exact (rfl : Nat.land _ _ = _) | exact sub_trans rfl hm | intro _ | dsimp only | assumption

theorem State.endHold_touch {μ : Nat} {s₀ s : State} (h : TouchM μ s₀ s) (k : Cell) (f : CellPath → CellPath)
    (hm : Nat.land 16 μ = 16 := by first | (apply sub_trans; rotate_left; (with_reducible assumption); rfl) | rfl) : TouchM μ s₀ (State.endHold s k f) := by
  unfold State.endHold
  (try dsimp only)
  repeat' first | with_reducible assumption | (with_reducible first | apply State.modCell_touch) | split | exact (rfl : Nat.land _ _ = _) | exact sub_trans rfl hm | intro _ | dsimp only | assumption

theorem State.setHold_touch {μ : Nat} {s₀ s : State} (h : TouchM μ s₀ s) (k : Cell) (on was : Bool) (f : Bool → CellPath → CellPath)
    (hm : Nat.land 16 μ = 16 := by first | (apply sub_trans; rotate_left; (with_reducible assumption); rfl) | rfl) : TouchM μ s₀ (State.setHold s k on was f) := by
  unfold State.setHold
  (try dsimp only)
  repeat' first | with_reducible assumption | (with_reducible first | apply State.beginHold_touch | apply State.endHold_touch) | split | exact (rfl : Nat.land _ _ = _) | exact sub_trans rfl hm | intro _ | dsimp only | assumption

theorem State.parkSegment_touch {μ : Nat} {s₀ s : State} (h : TouchM μ s₀ s) (g : Seg) (code : Nat)
    (hm : Nat.land 4144 μ = 4144 := by first | (apply sub_trans; rotate_left; (with_reducible assumption); rfl) | rfl) : TouchM μ s₀ (State.parkSegment s g code) := by
  unfold State.parkSegment
  (try dsimp only)
  repeat' first | with_reducible assumption | (with_reducible first | apply State.park_touch | apply each_touch) | split | exact (rfl : Nat.land _ _ = _) | exact sub_trans rfl hm | intro _ | dsimp only | assumption

theorem State.leaveOpen_touch {μ : Nat} {s₀ s : State} (h : TouchM μ s₀ s) (k : Cell)
    (hm : Nat.land 4144 μ = 4144 := by first | (apply sub_trans; rotate_left; (with_reducible assumption); rfl) | rfl) : TouchM μ s₀ (State.leaveOpen s k) := by
  unfold State.leaveOpen
  (try dsimp only)
  repeat' first | with_reducible assumption | (with_reducible first | apply State.modCell_touch | apply State.disturbOpen_touch) | split | exact (rfl : Nat.land _ _ = _) | exact sub_trans rfl hm | intro _ | dsimp only | assumption

theorem State.leaveOpenAll_touch {μ : Nat} {s₀ s : State} (h : TouchM μ s₀ s)
    (hm : Nat.land 4144 μ = 4144 := by first | (apply sub_trans; rotate_left; (with_reducible assumption); rfl) | rfl) : TouchM μ s₀ (State.leaveOpenAll s) := by
  unfold State.leaveOpenAll
  (try dsimp only)
  repeat' first | with_reducible assumption | (with_reducible first | apply State.leaveOpen_touch | apply each_touch) | split | exact (rfl : Nat.land _ _ = _) | exact sub_trans rfl hm | intro _ | dsimp only | assumption

theorem State.afterTransition_touch {μ : Nat} {s₀ s : State} (h : TouchM μ s₀ s) (k : Cell)
    (hm : Nat.land 16 μ = 16 := by first | (apply sub_trans; rotate_left; (with_reducible assumption); rfl) | rfl) : TouchM μ s₀ (State.afterTransition s k) := by
  unfold State.afterTransition
  (try dsimp only)
  repeat' first | with_reducible assumption | (with_reducible first | apply State.commutate_touch | apply State.modCell_touch) | split | exact (rfl : Nat.land _ _ = _) | exact sub_trans rfl hm | intro _ | dsimp only | assumption

theorem State.keeperSeq_touch {μ : Nat} {s₀ s : State} (h : TouchM μ s₀ s) (k : Cell)
    (hm : Nat.land 16 μ = 16 := by first | (apply sub_trans; rotate_left; (with_reducible assumption); rfl) | rfl) : TouchM μ s₀ (State.keeperSeq s k) := by
  unfold State.keeperSeq
  (try dsimp only)
  repeat' first | with_reducible assumption | (with_reducible first | apply State.startSeq_touch) | split | exact (rfl : Nat.land _ _ = _) | exact sub_trans rfl hm | intro _ | dsimp only | assumption

theorem State.keeperTrips_touch {μ : Nat} {s₀ s : State} (h : TouchM μ s₀ s) (g : Seg)
    (hm : Nat.land 272 μ = 272 := by first | (apply sub_trans; rotate_left; (with_reducible assumption); rfl) | rfl) : TouchM μ s₀ (State.keeperTrips s g) := by
  unfold State.keeperTrips
  (try dsimp only)
  repeat' first | with_reducible assumption | (with_reducible first | apply State.modSeg_touch | apply State.keeperSeq_touch | apply each_touch) | split | exact (rfl : Nat.land _ _ = _) | exact sub_trans rfl hm | intro _ | dsimp only | assumption

end Sys2Proof.Machine
end

