-- ==== Sys2Proof/Laws/TouchNvm.lean ====
section
/-!
SUPPORT. Which parts of the state the operations of Machine/Nvm.lean may change.
-/

namespace Sys2Proof.Machine

theorem State.countRefusal_touch {μ : Nat} {s₀ s : State} (h : TouchM μ s₀ s) (st : Status)
    (hm : Nat.land 8388608 μ = 8388608 := by first | (apply sub_trans; rotate_left; (with_reducible assumption); rfl) | rfl) : TouchM μ s₀ (State.countRefusal s st) := by
  unfold State.countRefusal
  (try dsimp only)
  repeat' first | with_reducible assumption | (with_reducible first | apply State.modNvm_touch) | split | exact (rfl : Nat.land _ _ = _) | exact sub_trans rfl hm | intro _ | dsimp only | assumption

theorem State.pushRepair_touch {μ : Nat} {s₀ s : State} (h : TouchM μ s₀ s) (j : Job)
    (hm : Nat.land 8388608 μ = 8388608 := by first | (apply sub_trans; rotate_left; (with_reducible assumption); rfl) | rfl) : TouchM μ s₀ (State.pushRepair s j) := by
  unfold State.pushRepair
  (try dsimp only)
  repeat' first | with_reducible assumption | (with_reducible first | apply State.modNvm_touch) | split | exact (rfl : Nat.land _ _ = _) | exact sub_trans rfl hm | intro _ | dsimp only | assumption

theorem State.pushJob_touch {μ : Nat} {s₀ s : State} (h : TouchM μ s₀ s) (j : Job)
    (hm : Nat.land 8388608 μ = 8388608 := by first | (apply sub_trans; rotate_left; (with_reducible assumption); rfl) | rfl) : TouchM μ s₀ (State.pushJob s j) := by
  unfold State.pushJob
  (try dsimp only)
  repeat' first | with_reducible assumption | (with_reducible first | apply State.modNvm_touch) | split | exact (rfl : Nat.land _ _ = _) | exact sub_trans rfl hm | intro _ | dsimp only | assumption

theorem State.appendRecord_touch {μ : Nat} {s₀ s : State} (h : TouchM μ s₀ s) (kind : Nat) (payload : List Byte)
    (hm : Nat.land 8388608 μ = 8388608 := by first | (apply sub_trans; rotate_left; (with_reducible assumption); rfl) | rfl) : TouchM μ s₀ (State.appendRecord s kind payload) := by
  unfold State.appendRecord
  (try dsimp only)
  repeat' first | with_reducible assumption | (with_reducible first | apply State.modNvm_touch | apply State.pushJob_touch) | split | exact (rfl : Nat.land _ _ = _) | exact sub_trans rfl hm | intro _ | dsimp only | assumption

theorem State.journal_touch {μ : Nat} {s₀ s : State} (h : TouchM μ s₀ s) (kind : Nat) (payload : List Byte)
    (hm : Nat.land 8388608 μ = 8388608 := by first | (apply sub_trans; rotate_left; (with_reducible assumption); rfl) | rfl) : TouchM μ s₀ (State.journal s kind payload) := by
  unfold State.journal
  (try dsimp only)
  repeat' first | with_reducible assumption | (with_reducible first | apply State.countRefusal_touch | apply State.appendRecord_touch) | split | exact (rfl : Nat.land _ _ = _) | exact sub_trans rfl hm | intro _ | dsimp only | assumption

end Sys2Proof.Machine
end

