-- ==== Sys2Proof/Laws/TouchRecords.lean ====
section
/-!
SUPPORT. Which parts of the state the operations of Machine/Records.lean may change.
-/

namespace Sys2Proof.Machine

theorem State.report_touch {μ : Nat} {s₀ s : State} (h : TouchM μ s₀ s) (r : Report) (flags : BitVec 8)
    (hm : Nat.land 1048576 μ = 1048576 := by first | (apply sub_trans; rotate_left; (with_reducible assumption); rfl) | rfl) : TouchM μ s₀ (State.report s r flags) := by
  unfold State.report
  (try dsimp only)
  repeat' first | with_reducible assumption | (with_reducible first | apply State.modFlt_touch) | split | exact (rfl : Nat.land _ _ = _) | exact sub_trans rfl hm | intro _ | dsimp only | assumption

theorem State.raise_touch {μ : Nat} {s₀ s : State} (h : TouchM μ s₀ s) (x : Src) (g : Option Seg) (k : Option Cell) (a0 a1 a2 : Word)
    (hm : Nat.land 1048576 μ = 1048576 := by first | (apply sub_trans; rotate_left; (with_reducible assumption); rfl) | rfl) : TouchM μ s₀ (State.raise s x g k a0 a1 a2) := by
  unfold State.raise
  (try dsimp only)
  repeat' first | with_reducible assumption | (with_reducible first | apply State.report_touch) | split | exact (rfl : Nat.land _ _ = _) | exact sub_trans rfl hm | intro _ | dsimp only | assumption

theorem State.tallyRecord_touch {μ : Nat} {s₀ s : State} (h : TouchM μ s₀ s) (k : Cell) (time : Nat) (incomplete : Bool)
    (hm : Nat.land 34152448 μ = 34152448 := by first | (apply sub_trans; rotate_left; (with_reducible assumption); rfl) | rfl) : TouchM μ s₀ (State.tallyRecord s k time incomplete) := by
  unfold State.tallyRecord
  (try dsimp only)
  repeat' first | with_reducible assumption | (with_reducible first | apply State.putRecord_touch) | split | exact (rfl : Nat.land _ _ = _) | exact sub_trans rfl hm | intro _ | dsimp only | assumption

theorem State.stepSummary_touch {μ : Nat} {s₀ s : State} (h : TouchM μ s₀ s) (code time : Nat) (incomplete : Bool)
    (hm : Nat.land 34152448 μ = 34152448 := by first | (apply sub_trans; rotate_left; (with_reducible assumption); rfl) | rfl) : TouchM μ s₀ (State.stepSummary s code time incomplete) := by
  unfold State.stepSummary
  (try dsimp only)
  repeat' first | with_reducible assumption | (with_reducible first | apply State.putRecord_touch) | split | exact (rfl : Nat.land _ _ = _) | exact sub_trans rfl hm | intro _ | dsimp only | assumption

theorem State.edgeRecord_touch {μ : Nat} {s₀ s : State} (h : TouchM μ s₀ s) (k : Cell) (out incomplete : Bool)
    (hm : Nat.land 34152576 μ = 34152576 := by first | (apply sub_trans; rotate_left; (with_reducible assumption); rfl) | rfl) : TouchM μ s₀ (State.edgeRecord s k out incomplete) := by
  unfold State.edgeRecord
  (try dsimp only)
  repeat' first | with_reducible assumption | (with_reducible first | apply State.putRecord_touch | apply State.modAna_touch) | split | exact (rfl : Nat.land _ _ = _) | exact sub_trans rfl hm | intro _ | dsimp only | assumption

theorem State.sweepRecord_touch {μ : Nat} {s₀ s : State} (h : TouchM μ s₀ s) (k : Cell) (w : WalkState) (a : SweepAcc) (periods : Nat) (incomplete : Bool)
    (hm : Nat.land 34152448 μ = 34152448 := by first | (apply sub_trans; rotate_left; (with_reducible assumption); rfl) | rfl) : TouchM μ s₀ (State.sweepRecord s k w a periods incomplete) := by
  unfold State.sweepRecord
  (try dsimp only)
  repeat' first | with_reducible assumption | (with_reducible first | apply State.putRecord_touch | apply State.modRes_touch) | split | exact (rfl : Nat.land _ _ = _) | exact sub_trans rfl hm | intro _ | dsimp only | assumption

theorem State.cutSweep_touch {μ : Nat} {s₀ s : State} (h : TouchM μ s₀ s) (k : Cell)
    (hm : Nat.land 34152592 μ = 34152592 := by first | (apply sub_trans; rotate_left; (with_reducible assumption); rfl) | rfl) : TouchM μ s₀ (State.cutSweep s k) := by
  unfold State.cutSweep
  (try dsimp only)
  repeat' first | with_reducible assumption | (with_reducible first | apply State.sweepRecord_touch | apply State.modCell_touch | apply State.modAna_touch) | split | exact (rfl : Nat.land _ _ = _) | exact sub_trans rfl hm | intro _ | dsimp only | assumption

theorem State.endSweep_touch {μ : Nat} {s₀ s : State} (h : TouchM μ s₀ s)
    (hm : Nat.land 34152448 μ = 34152448 := by first | (apply sub_trans; rotate_left; (with_reducible assumption); rfl) | rfl) : TouchM μ s₀ (State.endSweep s) := by
  unfold State.endSweep
  (try dsimp only)
  repeat' first | with_reducible assumption | (with_reducible first | apply State.sweepEnded_touch | apply State.toHead_touch | apply State.modRes_touch) | split | exact (rfl : Nat.land _ _ = _) | exact sub_trans rfl hm | intro _ | dsimp only | assumption

theorem State.kvalRecord_touch {μ : Nat} {s₀ s : State} (h : TouchM μ s₀ s) (k : Cell)
    (hm : Nat.land 35201024 μ = 35201024 := by first | (apply sub_trans; rotate_left; (with_reducible assumption); rfl) | rfl) : TouchM μ s₀ (State.kvalRecord s k) := by
  unfold State.kvalRecord
  (try dsimp only)
  repeat' first | with_reducible assumption | (with_reducible first | apply State.putRecord_touch | apply State.raise_touch) | split | exact (rfl : Nat.land _ _ = _) | exact sub_trans rfl hm | intro _ | dsimp only | assumption

theorem State.kvalClear_touch {μ : Nat} {s₀ s : State} (h : TouchM μ s₀ s) (k : Cell)
    (hm : Nat.land 35201152 μ = 35201152 := by first | (apply sub_trans; rotate_left; (with_reducible assumption); rfl) | rfl) : TouchM μ s₀ (State.kvalClear s k) := by
  unfold State.kvalClear
  (try dsimp only)
  repeat' first | with_reducible assumption | (with_reducible first | apply State.kvalRecord_touch | apply State.modAna_touch) | split | exact (rfl : Nat.land _ _ = _) | exact sub_trans rfl hm | intro _ | dsimp only | assumption

theorem State.kvalAll_touch {μ : Nat} {s₀ s : State} (h : TouchM μ s₀ s)
    (hm : Nat.land 35201024 μ = 35201024 := by first | (apply sub_trans; rotate_left; (with_reducible assumption); rfl) | rfl) : TouchM μ s₀ (State.kvalAll s) := by
  unfold State.kvalAll
  (try dsimp only)
  repeat' first | with_reducible assumption | (with_reducible first | apply State.kvalRecord_touch | apply each_touch) | split | exact (rfl : Nat.land _ _ = _) | exact sub_trans rfl hm | intro _ | dsimp only | assumption

theorem State.kvalSample_touch {μ : Nat} {s₀ s : State} (h : TouchM μ s₀ s) (k : Cell) (v : Int) (temp : Option Int) (stamp : Nat) (patrol : Bool)
    (hm : Nat.land 128 μ = 128 := by first | (apply sub_trans; rotate_left; (with_reducible assumption); rfl) | rfl) : TouchM μ s₀ (State.kvalSample s k v temp stamp patrol) := by
  unfold State.kvalSample
  (try dsimp only)
  repeat' first | with_reducible assumption | (with_reducible first | apply State.modAna_touch) | split | exact (rfl : Nat.land _ _ = _) | exact sub_trans rfl hm | intro _ | dsimp only | assumption

theorem State.contactRecord_touch {μ : Nat} {s₀ s : State} (h : TouchM μ s₀ s) (k : Cell) (mode : Nat) (cp cn : Option Int) (maxP maxN : Option Int) (i limit : Int) (n : Nat) (satP satN : Bool) (t0 t1 d0 : Nat)
    (hm : Nat.land 34152448 μ = 34152448 := by first | (apply sub_trans; rotate_left; (with_reducible assumption); rfl) | rfl) : TouchM μ s₀ (State.contactRecord s k mode cp cn maxP maxN i limit n satP satN t0 t1 d0) := by
  unfold State.contactRecord
  (try dsimp only)
  repeat' first | with_reducible assumption | (with_reducible first | apply State.putRecord_touch) | split | exact (rfl : Nat.land _ _ = _) | exact sub_trans rfl hm | intro _ | dsimp only | assumption

theorem State.contactSummary_touch {μ : Nat} {s₀ s : State} (h : TouchM μ s₀ s) (k : Cell)
    (hm : Nat.land 34152576 μ = 34152576 := by first | (apply sub_trans; rotate_left; (with_reducible assumption); rfl) | rfl) : TouchM μ s₀ (State.contactSummary s k) := by
  unfold State.contactSummary
  (try dsimp only)
  repeat' first | with_reducible assumption | (with_reducible first | apply State.contactRecord_touch | apply State.modAna_touch) | split | exact (rfl : Nat.land _ _ = _) | exact sub_trans rfl hm | intro _ | dsimp only | assumption

theorem State.dqdvRecord_touch {μ : Nat} {s₀ s : State} (h : TouchM μ s₀ s) (k : Cell) (time : Nat) (atStepEnd : Bool)
    (hm : Nat.land 34152576 μ = 34152576 := by first | (apply sub_trans; rotate_left; (with_reducible assumption); rfl) | rfl) : TouchM μ s₀ (State.dqdvRecord s k time atStepEnd) := by
  unfold State.dqdvRecord
  (try dsimp only)
  repeat' first | with_reducible assumption | (with_reducible first | apply State.putRecord_touch | apply State.modAna_touch) | split | exact (rfl : Nat.land _ _ = _) | exact sub_trans rfl hm | intro _ | dsimp only | assumption

theorem State.dqdvOutput_touch {μ : Nat} {s₀ s : State} (h : TouchM μ s₀ s) (k : Cell) (x : Sample)
    (hm : Nat.land 34152576 μ = 34152576 := by first | (apply sub_trans; rotate_left; (with_reducible assumption); rfl) | rfl) : TouchM μ s₀ (State.dqdvOutput s k x) := by
  unfold State.dqdvOutput
  (try dsimp only)
  repeat' first | with_reducible assumption | (with_reducible first | apply State.dqdvRecord_touch | apply State.modAna_touch) | split | exact (rfl : Nat.land _ _ = _) | exact sub_trans rfl hm | intro _ | dsimp only | assumption

theorem State.taperRecord_touch {μ : Nat} {s₀ s : State} (h : TouchM μ s₀ s) (k : Cell) (reason : Nat) (qCycle : Int) (z time : Nat)
    (hm : Nat.land 34152448 μ = 34152448 := by first | (apply sub_trans; rotate_left; (with_reducible assumption); rfl) | rfl) : TouchM μ s₀ (State.taperRecord s k reason qCycle z time) := by
  unfold State.taperRecord
  (try dsimp only)
  repeat' first | with_reducible assumption | (with_reducible first | apply State.putRecord_touch) | split | exact (rfl : Nat.land _ _ = _) | exact sub_trans rfl hm | intro _ | dsimp only | assumption

theorem State.snapshotRecord_touch {μ : Nat} {s₀ s : State} (h : TouchM μ s₀ s) (k : Cell) (time : Nat)
    (hm : Nat.land 34152448 μ = 34152448 := by first | (apply sub_trans; rotate_left; (with_reducible assumption); rfl) | rfl) : TouchM μ s₀ (State.snapshotRecord s k time) := by
  unfold State.snapshotRecord
  (try dsimp only)
  repeat' first | with_reducible assumption | (with_reducible first | apply State.putRecord_touch) | split | exact (rfl : Nat.land _ _ = _) | exact sub_trans rfl hm | intro _ | dsimp only | assumption

theorem State.eventRecord_touch {μ : Nat} {s₀ s : State} (h : TouchM μ s₀ s) (r : Sillage)
    (hm : Nat.land 34152448 μ = 34152448 := by first | (apply sub_trans; rotate_left; (with_reducible assumption); rfl) | rfl) : TouchM μ s₀ (State.eventRecord s r) := by
  unfold State.eventRecord
  (try dsimp only)
  repeat' first | with_reducible assumption | (with_reducible first | apply State.putRecord_touch) | split | exact (rfl : Nat.land _ _ = _) | exact sub_trans rfl hm | intro _ | dsimp only | assumption

theorem State.endStep_touch {μ : Nat} {s₀ s : State} (h : TouchM μ s₀ s) (t code : Nat) (incomplete : Bool)
    (hm : Nat.land 35201168 μ = 35201168 := by first | (apply sub_trans; rotate_left; (with_reducible assumption); rfl) | rfl) : TouchM μ s₀ (State.endStep s t code incomplete) := by
  unfold State.endStep
  (try dsimp only)
  repeat' first | with_reducible assumption | (with_reducible first | apply State.tallyRecord_touch | apply State.edgeRecord_touch | apply State.cutSweep_touch | apply State.endSweep_touch | apply State.kvalAll_touch | apply State.contactSummary_touch | apply State.dqdvRecord_touch | apply State.stepSummary_touch | apply each_touch) | split | exact (rfl : Nat.land _ _ = _) | exact sub_trans rfl hm | intro _ | dsimp only | assumption

theorem State.clearStep_touch {μ : Nat} {s₀ s : State} (h : TouchM μ s₀ s)
    (hm : Nat.land 9344 μ = 9344 := by first | (apply sub_trans; rotate_left; (with_reducible assumption); rfl) | rfl) : TouchM μ s₀ (State.clearStep s) := by
  unfold State.clearStep
  (try dsimp only)
  repeat' first | with_reducible assumption | (with_reducible first | apply State.setAna_touch | apply State.modRes_touch | apply State.modPlay_touch) | split | exact (rfl : Nat.land _ _ = _) | exact sub_trans rfl hm | intro _ | dsimp only | assumption

end Sys2Proof.Machine
end

