-- ==== Sys2Proof/Laws/TouchLinks.lean ====
section
/-!
SUPPORT. Which parts of the state the operations of Machine/Links.lean may change.
-/

namespace Sys2Proof.Machine

theorem State.captureWindow_touch {μ : Nat} {s₀ s : State} (h : TouchM μ s₀ s) (g : Seg)
    (hm : Nat.land 512 μ = 512 := by first | (apply sub_trans; rotate_left; (with_reducible assumption); rfl) | rfl) : TouchM μ s₀ (State.captureWindow s g) := by
  unfold State.captureWindow
  (try dsimp only)
  repeat' first | with_reducible assumption | (with_reducible first | apply State.modLink_touch) | split | exact (rfl : Nat.land _ _ = _) | exact sub_trans rfl hm | intro _ | dsimp only | assumption

theorem State.trainLink_touch {μ : Nat} {s₀ s : State} (h : TouchM μ s₀ s) (g : Seg)
    (hm : Nat.land 512 μ = 512 := by first | (apply sub_trans; rotate_left; (with_reducible assumption); rfl) | rfl) : TouchM μ s₀ (State.trainLink s g) := by
  unfold State.trainLink
  (try dsimp only)
  repeat' first | with_reducible assumption | (with_reducible first | apply State.captureWindow_touch | apply State.modLink_touch) | split | exact (rfl : Nat.land _ _ = _) | exact sub_trans rfl hm | intro _ | dsimp only | assumption

theorem State.retrainLink_touch {μ : Nat} {s₀ s : State} (h : TouchM μ s₀ s) (g : Seg)
    (hm : Nat.land 512 μ = 512 := by first | (apply sub_trans; rotate_left; (with_reducible assumption); rfl) | rfl) : TouchM μ s₀ (State.retrainLink s g) := by
  unfold State.retrainLink
  (try dsimp only)
  repeat' first | with_reducible assumption | (with_reducible first | apply State.modLink_touch | apply State.trainLink_touch) | split | exact (rfl : Nat.land _ _ = _) | exact sub_trans rfl hm | intro _ | dsimp only | assumption

theorem State.linkToDown_touch {μ : Nat} {s₀ s : State} (h : TouchM μ s₀ s) (g : Seg)
    (hm : Nat.land 512 μ = 512 := by first | (apply sub_trans; rotate_left; (with_reducible assumption); rfl) | rfl) : TouchM μ s₀ (State.linkToDown s g) := by
  unfold State.linkToDown
  (try dsimp only)
  repeat' first | with_reducible assumption | (with_reducible first | apply State.captureWindow_touch | apply State.modLink_touch) | split | exact (rfl : Nat.land _ _ = _) | exact sub_trans rfl hm | intro _ | dsimp only | assumption

theorem State.segBack_touch {μ : Nat} {s₀ s : State} (h : TouchM μ s₀ s) (g : Seg)
    (hm : Nat.land 272 μ = 272 := by first | (apply sub_trans; rotate_left; (with_reducible assumption); rfl) | rfl) : TouchM μ s₀ (State.segBack s g) := by
  unfold State.segBack
  (try dsimp only)
  repeat' first | with_reducible assumption | (with_reducible first | apply State.modSeg_touch | apply State.modCell_touch | apply each_touch) | split | exact (rfl : Nat.land _ _ = _) | exact sub_trans rfl hm | intro _ | dsimp only | assumption

theorem State.linkTrained_touch {μ : Nat} {s₀ s : State} (h : TouchM μ s₀ s) (g : Seg) (c0 c1 : Bool) (latency : Nat)
    (hm : Nat.land 1049360 μ = 1049360 := by first | (apply sub_trans; rotate_left; (with_reducible assumption); rfl) | rfl) : TouchM μ s₀ (State.linkTrained s g c0 c1 latency) := by
  unfold State.linkTrained
  (try dsimp only)
  repeat' first | with_reducible assumption | (with_reducible first | apply State.modLink_touch | apply State.modSeg_touch | apply State.segBack_touch | apply State.raise_touch) | split | exact (rfl : Nat.land _ _ = _) | exact sub_trans rfl hm | intro _ | dsimp only | assumption

theorem State.unverify_touch {μ : Nat} {s₀ s : State} (h : TouchM μ s₀ s)
    (hm : Nat.land 1024 μ = 1024 := by first | (apply sub_trans; rotate_left; (with_reducible assumption); rfl) | rfl) : TouchM μ s₀ (State.unverify s) := by
  unfold State.unverify
  (try dsimp only)
  repeat' first | with_reducible assumption | (with_reducible first | apply State.modPlay_touch) | split | exact (rfl : Nat.land _ _ = _) | exact sub_trans rfl hm | intro _ | dsimp only | assumption

theorem State.segDieReset_touch {μ : Nat} {s₀ s : State} (h : TouchM μ s₀ s) (g : Seg) (moduleReset : Bool)
    (hm : Nat.land 1840 μ = 1840 := by first | (apply sub_trans; rotate_left; (with_reducible assumption); rfl) | rfl) : TouchM μ s₀ (s.segDieReset g moduleReset) := by
  unfold State.segDieReset
  extract_lets s1 s2 s3
  have h1 : TouchM μ s₀ s1 := State.modSeg_touch h g _
  have h2 : TouchM μ s₀ s2 := each_touch _ h1 (fun s k hs => by
    dsimp only
    split
    · exact State.modCell_touch (State.modMeas_touch hs _ _) _ _
    · exact State.modMeas_touch hs _ _)
  exact State.trainLink_touch (State.linkToDown_touch (State.unverify_touch (State.modLink_touch h2 _ _)) _) _


theorem State.segFeedOff_touch {μ : Nat} {s₀ s : State} (h : TouchM μ s₀ s) (g : Seg)
    (hm : Nat.land 1840 μ = 1840 := by first | (apply sub_trans; rotate_left; (with_reducible assumption); rfl) | rfl) : TouchM μ s₀ (State.segFeedOff s g) := by
  unfold State.segFeedOff
  (try dsimp only)
  repeat' first | with_reducible assumption | (with_reducible first | apply State.modSeg_touch | apply State.segDieReset_touch | apply State.linkToDown_touch) | split | exact (rfl : Nat.land _ _ = _) | exact sub_trans rfl hm | intro _ | dsimp only | assumption

theorem State.segResetAsked_touch {μ : Nat} {s₀ s : State} (h : TouchM μ s₀ s) (g : Seg)
    (hm : Nat.land 1840 μ = 1840 := by first | (apply sub_trans; rotate_left; (with_reducible assumption); rfl) | rfl) : TouchM μ s₀ (State.segResetAsked s g) := by
  unfold State.segResetAsked
  (try dsimp only)
  repeat' first | with_reducible assumption | (with_reducible first | apply State.sendDown_touch | apply State.segFeedOff_touch) | split | exact (rfl : Nat.land _ _ = _) | exact sub_trans rfl hm | intro _ | dsimp only | assumption

theorem State.trainPort_touch {μ : Nat} {s₀ s : State} (h : TouchM μ s₀ s) (p : Port)
    (hm : Nat.land 65536 μ = 65536 := by first | (apply sub_trans; rotate_left; (with_reducible assumption); rfl) | rfl) : TouchM μ s₀ (State.trainPort s p) := by
  unfold State.trainPort
  (try dsimp only)
  repeat' first | with_reducible assumption | (with_reducible first | apply State.modPort_touch) | split | exact (rfl : Nat.land _ _ = _) | exact sub_trans rfl hm | intro _ | dsimp only | assumption

theorem State.linkEvent_touch {μ : Nat} {s₀ s : State} (h : TouchM μ s₀ s) (p : Port) (kind : Nat)
    (hm : Nat.land 33619968 μ = 33619968 := by first | (apply sub_trans; rotate_left; (with_reducible assumption); rfl) | rfl) : TouchM μ s₀ (State.linkEvent s p kind) := by
  unfold State.linkEvent
  (try dsimp only)
  repeat' first | with_reducible assumption | (with_reducible first | apply State.sendFrame_touch) | split | exact (rfl : Nat.land _ _ = _) | exact sub_trans rfl hm | intro _ | dsimp only | assumption

theorem State.censusBroken_touch {μ : Nat} {s₀ s : State} (h : TouchM μ s₀ s)
    (hm : Nat.land 34144256 μ = 34144256 := by first | (apply sub_trans; rotate_left; (with_reducible assumption); rfl) | rfl) : TouchM μ s₀ (State.censusBroken s) := by
  unfold State.censusBroken
  (try dsimp only)
  repeat' first | with_reducible assumption | (with_reducible first | apply State.modLoop_touch | apply State.replyLate_touch) | split | exact (rfl : Nat.land _ _ = _) | exact sub_trans rfl hm | intro _ | dsimp only | assumption

theorem State.leaveUp_touch {μ : Nat} {s₀ s : State} (h : TouchM μ s₀ s) (p : Port)
    (hm : Nat.land 35192832 μ = 35192832 := by first | (apply sub_trans; rotate_left; (with_reducible assumption); rfl) | rfl) : TouchM μ s₀ (State.leaveUp s p) := by
  unfold State.leaveUp
  (try dsimp only)
  repeat' first | with_reducible assumption | (with_reducible first | apply State.modPort_touch | apply State.modLoop_touch | apply State.serve_touch | apply State.raise_touch | apply State.linkEvent_touch | apply State.censusBroken_touch) | split | exact (rfl : Nat.land _ _ = _) | exact sub_trans rfl hm | intro _ | dsimp only | assumption

theorem State.restartPort_touch {μ : Nat} {s₀ s : State} (h : TouchM μ s₀ s) (p : Port)
    (hm : Nat.land 35192832 μ = 35192832 := by first | (apply sub_trans; rotate_left; (with_reducible assumption); rfl) | rfl) : TouchM μ s₀ (State.restartPort s p) := by
  unfold State.restartPort
  (try dsimp only)
  repeat' first | with_reducible assumption | (with_reducible first | apply State.leaveUp_touch | apply State.trainPort_touch | apply State.modPort_touch) | split | exact (rfl : Nat.land _ _ = _) | exact sub_trans rfl hm | intro _ | dsimp only | assumption

theorem State.retrainPort_touch {μ : Nat} {s₀ s : State} (h : TouchM μ s₀ s) (p : Port)
    (hm : Nat.land 35192832 μ = 35192832 := by first | (apply sub_trans; rotate_left; (with_reducible assumption); rfl) | rfl) : TouchM μ s₀ (State.retrainPort s p) := by
  unfold State.retrainPort
  (try dsimp only)
  repeat' first | with_reducible assumption | (with_reducible first | apply State.leaveUp_touch | apply State.trainPort_touch) | split | exact (rfl : Nat.land _ _ = _) | exact sub_trans rfl hm | intro _ | dsimp only | assumption

theorem State.enterUp_touch {μ : Nat} {s₀ s : State} (h : TouchM μ s₀ s) (p : Port)
    (hm : Nat.land 33619968 μ = 33619968 := by first | (apply sub_trans; rotate_left; (with_reducible assumption); rfl) | rfl) : TouchM μ s₀ (State.enterUp s p) := by
  unfold State.enterUp
  (try dsimp only)
  repeat' first | with_reducible assumption | (with_reducible first | apply State.modPort_touch | apply State.modLoop_touch | apply State.linkEvent_touch | apply State.serve_touch) | split | exact (rfl : Nat.land _ _ = _) | exact sub_trans rfl hm | intro _ | dsimp only | assumption

theorem State.resetRings_touch {μ : Nat} {s₀ s : State} (h : TouchM μ s₀ s)
    (hm : Nat.land 598016 μ = 598016 := by first | (apply sub_trans; rotate_left; (with_reducible assumption); rfl) | rfl) : TouchM μ s₀ (State.resetRings s) := by
  unfold State.resetRings
  (try dsimp only)
  repeat' first | with_reducible assumption | (with_reducible first | apply State.modRes_touch | apply State.modLoop_touch | apply State.modHost_touch) | split | exact (rfl : Nat.land _ _ = _) | exact sub_trans rfl hm | intro _ | dsimp only | assumption

theorem State.hostErr_touch {μ : Nat} {s₀ s : State} (h : TouchM μ s₀ s) (bits : BitVec 10)
    (hm : Nat.land 35127296 μ = 35127296 := by first | (apply sub_trans; rotate_left; (with_reducible assumption); rfl) | rfl) : TouchM μ s₀ (State.hostErr s bits) := by
  unfold State.hostErr
  (try dsimp only)
  repeat' first | with_reducible assumption | (with_reducible first | apply State.modHost_touch | apply State.msix_touch | apply State.raise_touch) | split | exact (rfl : Nat.land _ _ = _) | exact sub_trans rfl hm | intro _ | dsimp only | assumption

theorem State.hostDomainReset_touch {μ : Nat} {s₀ s : State} (h : TouchM μ s₀ s)
    (hm : Nat.land 35201032 μ = 35201032 := by first | (apply sub_trans; rotate_left; (with_reducible assumption); rfl) | rfl) : TouchM μ s₀ (State.hostDomainReset s) := by
  unfold State.hostDomainReset
  (try dsimp only)
  repeat' first | with_reducible assumption | (with_reducible first | apply State.resetRings_touch | apply State.setRegs_touch | apply State.modHost_touch | apply State.hostErr_touch) | split | exact (rfl : Nat.land _ _ = _) | exact sub_trans rfl hm | intro _ | dsimp only | assumption

theorem State.abandonWrites_touch {μ : Nat} {s₀ s : State} (h : TouchM μ s₀ s) (st : Option Status)
    (hm : Nat.land 109641728 μ = 109641728 := by first | (apply sub_trans; rotate_left; (with_reducible assumption); rfl) | rfl) : TouchM μ s₀ (s.abandonWrites st) := by
  unfold State.abandonWrites
  extract_lets jobs s1 s2
  clear_value jobs
  have h1 : TouchM μ s₀ s1 := by
    simp only [s1]
    split
    · split
      · exact State.modNvm_touch (State.freeBits_touch h) _
      · exact h
    · exact h
  have h2 : TouchM μ s₀ s2 := each_touch _ h1 (fun s j hs => by
    dsimp only
    split
    · exact State.replyLate_touch hs _ _ _
    · exact hs)
  exact State.modNvm_touch h2 _


end Sys2Proof.Machine
end

