-- ==== Sys2Proof/Laws/TouchBist.lean ====
section
/-!
SUPPORT. Which parts of the state the operations of Machine/Bist.lean may change.
-/

namespace Sys2Proof.Machine

theorem State.startSlice_touch {μ : Nat} {s₀ s : State} (h : TouchM μ s₀ s) (n : Slice) (kind : BistMode)
    (hm : Nat.land 2097152 μ = 2097152 := by first | (apply sub_trans; rotate_left; (with_reducible assumption); rfl) | rfl) : TouchM μ s₀ (State.startSlice s n kind) := by
  unfold State.startSlice
  (try dsimp only)
  repeat' first | with_reducible assumption | (with_reducible first | apply State.modBist_touch) | split | exact (rfl : Nat.land _ _ = _) | exact sub_trans rfl hm | intro _ | dsimp only | assumption

theorem State.nextSlice_touch {μ : Nat} {s₀ s : State} (h : TouchM μ s₀ s)
    (hm : Nat.land 2097152 μ = 2097152 := by first | (apply sub_trans; rotate_left; (with_reducible assumption); rfl) | rfl) : TouchM μ s₀ (State.nextSlice s) := by
  unfold State.nextSlice
  (try dsimp only)
  repeat' first | with_reducible assumption | (with_reducible first | apply State.modBist_touch | apply State.startSlice_touch) | split | exact (rfl : Nat.land _ _ = _) | exact sub_trans rfl hm | intro _ | dsimp only | assumption

theorem State.setSlice_touch {μ : Nat} {s₀ s : State} (h : TouchM μ s₀ s) (n : Slice) (f : SliceSt → SliceSt)
    (hm : Nat.land 2097152 μ = 2097152 := by first | (apply sub_trans; rotate_left; (with_reducible assumption); rfl) | rfl) : TouchM μ s₀ (State.setSlice s n f) := by
  unfold State.setSlice
  (try dsimp only)
  repeat' first | with_reducible assumption | (with_reducible first | apply State.modBist_touch) | split | exact (rfl : Nat.land _ _ = _) | exact sub_trans rfl hm | intro _ | dsimp only | assumption

theorem State.bistShunt_touch {μ : Nat} {s₀ s : State} (h : TouchM μ s₀ s) (n : Nat) (off : Bool)
    (hm : Nat.land 4096 μ = 4096 := by first | (apply sub_trans; rotate_left; (with_reducible assumption); rfl) | rfl) : TouchM μ s₀ (State.bistShunt s n off) := by
  unfold State.bistShunt
  (try dsimp only)
  repeat' first | with_reducible assumption | (with_reducible first | apply State.modShunts_touch) | split | exact (rfl : Nat.land _ _ = _) | exact sub_trans rfl hm | intro _ | dsimp only | assumption

theorem State.hostError_touch {μ : Nat} {s₀ s : State} (h : TouchM μ s₀ s)
    (hm : Nat.land 524288 μ = 524288 := by first | (apply sub_trans; rotate_left; (with_reducible assumption); rfl) | rfl) : TouchM μ s₀ (State.hostError s) := by
  unfold State.hostError
  (try dsimp only)
  repeat' first | with_reducible assumption | (with_reducible first | apply State.modHost_touch) | split | exact (rfl : Nat.land _ _ = _) | exact sub_trans rfl hm | intro _ | dsimp only | assumption

theorem State.safeState_touch {μ : Nat} {s₀ s : State} (h : TouchM μ s₀ s) (n : Nat)
    (hm : Nat.land 35199024 μ = 35199024 := by first | (apply sub_trans; rotate_left; (with_reducible assumption); rfl) | rfl) : TouchM μ s₀ (State.safeState s n) := by
  unfold State.safeState
  (try dsimp only)
  repeat' first | with_reducible assumption | (with_reducible first | apply State.parkSegment_touch | apply State.bistShunt_touch | apply State.restartPort_touch | apply State.hostError_touch | apply State.modSpc_touch) | split | exact (rfl : Nat.land _ _ = _) | exact sub_trans rfl hm | intro _ | dsimp only | assumption

theorem State.freeBlock_touch {μ : Nat} {s₀ s : State} (h : TouchM μ s₀ s) (n : Slice)
    (hm : Nat.land 2097664 μ = 2097664 := by first | (apply sub_trans; rotate_left; (with_reducible assumption); rfl) | rfl) : TouchM μ s₀ (State.freeBlock s n) := by
  unfold State.freeBlock
  (try dsimp only)
  repeat' first | with_reducible assumption | (with_reducible first | apply State.modBist_touch | apply State.pushDown_touch | apply State.modLink_touch | apply each_touch) | split | exact (rfl : Nat.land _ _ = _) | exact sub_trans rfl hm | intro _ | dsimp only | assumption

theorem State.passSlice_touch {μ : Nat} {s₀ s : State} (h : TouchM μ s₀ s) (n : Slice)
    (hm : Nat.land 2103328 μ = 2103328 := by first | (apply sub_trans; rotate_left; (with_reducible assumption); rfl) | rfl) : TouchM μ s₀ (State.passSlice s n) := by
  unfold State.passSlice
  (try dsimp only)
  repeat' first | with_reducible assumption | (with_reducible first | apply State.setSlice_touch | apply State.bistShunt_touch | apply State.modMeas_touch | apply State.modSpc_touch | apply each_touch) | split | exact (rfl : Nat.land _ _ = _) | exact sub_trans rfl hm | intro _ | dsimp only | assumption

theorem State.failSlice_touch {μ : Nat} {s₀ s : State} (h : TouchM μ s₀ s) (n : Slice) (hung : Bool)
    (hm : Nat.land 37296176 μ = 37296176 := by first | (apply sub_trans; rotate_left; (with_reducible assumption); rfl) | rfl) : TouchM μ s₀ (State.failSlice s n hung) := by
  unfold State.failSlice
  (try dsimp only)
  repeat' first | with_reducible assumption | (with_reducible first | apply State.setSlice_touch | apply State.modBist_touch | apply State.safeState_touch | apply State.raise_touch) | split | exact (rfl : Nat.land _ _ = _) | exact sub_trans rfl hm | intro _ | dsimp only | assumption

theorem State.finishBistRun_touch {μ : Nat} {s₀ s : State} (h : TouchM μ s₀ s)
    (hm : Nat.land 36241408 μ = 36241408 := by first | (apply sub_trans; rotate_left; (with_reducible assumption); rfl) | rfl) : TouchM μ s₀ (State.finishBistRun s) := by
  unfold State.finishBistRun
  (try dsimp only)
  repeat' first | with_reducible assumption | (with_reducible first | apply State.modBist_touch | apply State.replyLate_touch) | split | exact (rfl : Nat.land _ _ = _) | exact sub_trans rfl hm | intro _ | dsimp only | assumption

theorem State.endOfQueue_touch {μ : Nat} {s₀ s : State} (h : TouchM μ s₀ s)
    (hm : Nat.land 36241408 μ = 36241408 := by first | (apply sub_trans; rotate_left; (with_reducible assumption); rfl) | rfl) : TouchM μ s₀ (State.endOfQueue s) := by
  unfold State.endOfQueue
  (try dsimp only)
  repeat' first | with_reducible assumption | (with_reducible first | apply State.modBist_touch | apply State.finishBistRun_touch) | split | exact (rfl : Nat.land _ _ = _) | exact sub_trans rfl hm | intro _ | dsimp only | assumption

theorem State.abortSlice_touch {μ : Nat} {s₀ s : State} (h : TouchM μ s₀ s)
    (hm : Nat.land 37296688 μ = 37296688 := by first | (apply sub_trans; rotate_left; (with_reducible assumption); rfl) | rfl) : TouchM μ s₀ (State.abortSlice s) := by
  unfold State.abortSlice
  (try dsimp only)
  repeat' first | with_reducible assumption | (with_reducible first | apply State.freeBlock_touch | apply State.setSlice_touch | apply State.modBist_touch | apply State.nextSlice_touch | apply State.failSlice_touch | apply State.endOfQueue_touch) | split | exact (rfl : Nat.land _ _ = _) | exact sub_trans rfl hm | intro _ | dsimp only | assumption

theorem State.abortSegSlice_touch {μ : Nat} {s₀ s : State} (h : TouchM μ s₀ s) (g : Seg)
    (hm : Nat.land 37296688 μ = 37296688 := by first | (apply sub_trans; rotate_left; (with_reducible assumption); rfl) | rfl) : TouchM μ s₀ (State.abortSegSlice s g) := by
  unfold State.abortSegSlice
  (try dsimp only)
  repeat' first | with_reducible assumption | (with_reducible first | apply State.abortSlice_touch) | split | exact (rfl : Nat.land _ _ = _) | exact sub_trans rfl hm | intro _ | dsimp only | assumption

theorem State.abortBlockSlice_touch {μ : Nat} {s₀ s : State} (h : TouchM μ s₀ s) (block : Nat) (unit : Nat)
    (hm : Nat.land 37296688 μ = 37296688 := by first | (apply sub_trans; rotate_left; (with_reducible assumption); rfl) | rfl) : TouchM μ s₀ (State.abortBlockSlice s block unit) := by
  unfold State.abortBlockSlice
  (try dsimp only)
  repeat' first | with_reducible assumption | (with_reducible first | apply State.abortSlice_touch) | split | exact (rfl : Nat.land _ _ = _) | exact sub_trans rfl hm | intro _ | dsimp only | assumption

end Sys2Proof.Machine
end

