-- ==== Sys2Proof/Laws/TouchFlags.lean ====
section
/-!
SUPPORT. Which parts of the state the operations of Machine/Flags.lean may change.
-/

namespace Sys2Proof.Machine

theorem State.unstick_touch {μ : Nat} {s₀ s : State} (h : TouchM μ s₀ s) (x : Src)
    (hm : Nat.land 1048576 μ = 1048576 := by first | (apply sub_trans; rotate_left; (with_reducible assumption); rfl) | rfl) : TouchM μ s₀ (State.unstick s x) := by
  unfold State.unstick
  (try dsimp only)
  repeat' first | with_reducible assumption | (with_reducible first | apply State.modFlt_touch) | split | exact (rfl : Nat.land _ _ = _) | exact sub_trans rfl hm | intro _ | dsimp only | assumption

theorem State.clearFaults_touch {μ : Nat} {s₀ s : State} (h : TouchM μ s₀ s) (id : Nat)
    (hm : Nat.land 1048576 μ = 1048576 := by first | (apply sub_trans; rotate_left; (with_reducible assumption); rfl) | rfl) : TouchM μ s₀ (State.clearFaults s id).2 := by
  unfold State.clearFaults
  (try dsimp only)
  repeat' first | with_reducible assumption | (with_reducible first | apply State.unstick_touch | apply each_touch) | split | exact (rfl : Nat.land _ _ = _) | exact sub_trans rfl hm | intro _ | dsimp only | assumption

theorem State.clearFaults_touchEq {μ : Nat} {s₀ s u₁ : State} {a₁} {id : Nat}
    (e : State.clearFaults s id = (a₁, u₁)) (h : TouchM μ s₀ s) (hm : Nat.land 1048576 μ = 1048576 := by first | (apply sub_trans; rotate_left; (with_reducible assumption); rfl) | rfl) : TouchM μ s₀ u₁ := by
  have k := State.clearFaults_touch h id hm
  rw [e] at k
  exact k

theorem State.parkSymbol_touch {μ : Nat} {s₀ s : State} (h : TouchM μ s₀ s) (orphan : Bool)
    (hm : Nat.land 512 μ = 512 := by first | (apply sub_trans; rotate_left; (with_reducible assumption); rfl) | rfl) : TouchM μ s₀ (State.parkSymbol s orphan) := by
  unfold State.parkSymbol
  (try dsimp only)
  repeat' first | with_reducible assumption | (with_reducible first | apply State.setLinks_touch) | split | exact (rfl : Nat.land _ _ = _) | exact sub_trans rfl hm | intro _ | dsimp only | assumption

theorem State.unplan_touch {μ : Nat} {s₀ s : State} (h : TouchM μ s₀ s)
    (hm : Nat.land 16 μ = 16 := by first | (apply sub_trans; rotate_left; (with_reducible assumption); rfl) | rfl) : TouchM μ s₀ (State.unplan s) := by
  unfold State.unplan
  (try dsimp only)
  repeat' first | with_reducible assumption | (with_reducible first | apply State.putCells_touch) | split | exact (rfl : Nat.land _ _ = _) | exact sub_trans rfl hm | intro _ | dsimp only | assumption

theorem State.dropSweep_touch {μ : Nat} {s₀ s : State} (h : TouchM μ s₀ s)
    (hm : Nat.land 8448 μ = 8448 := by first | (apply sub_trans; rotate_left; (with_reducible assumption); rfl) | rfl) : TouchM μ s₀ (State.dropSweep s) := by
  unfold State.dropSweep
  (try dsimp only)
  repeat' first | with_reducible assumption | (with_reducible first | apply State.modRes_touch | apply State.setSegs_touch) | split | exact (rfl : Nat.land _ _ = _) | exact sub_trans rfl hm | intro _ | dsimp only | assumption

theorem State.leaveRun_touch {μ : Nat} {s₀ s : State} (h : TouchM μ s₀ s)
    (hm : Nat.land 51979696 μ = 51979696 := by first | (apply sub_trans; rotate_left; (with_reducible assumption); rfl) | rfl) : TouchM μ s₀ (State.leaveRun s) := by
  unfold State.leaveRun
  (try dsimp only)
  repeat' first | with_reducible assumption | (with_reducible first | apply State.endStep_touch | apply State.clearStep_touch | apply State.unplan_touch | apply State.askRestart_touch | apply State.replyLate_touch | apply State.setStop_touch | apply State.dropSweep_touch | apply State.modPlay_touch) | split | exact (rfl : Nat.land _ _ = _) | exact sub_trans rfl hm | intro _ | dsimp only | assumption

theorem State.segRouse_touch {μ : Nat} {s₀ s : State} (h : TouchM μ s₀ s) (g : Seg)
    (hm : Nat.land 800 μ = 800 := by first | (apply sub_trans; rotate_left; (with_reducible assumption); rfl) | rfl) : TouchM μ s₀ (State.segRouse s g) := by
  unfold State.segRouse
  (try dsimp only)
  repeat' first | with_reducible assumption | (with_reducible first | apply State.modSeg_touch | apply State.modMeas_touch | apply State.modLink_touch | apply State.trainLink_touch | apply each_touch) | split | exact (rfl : Nat.land _ _ = _) | exact sub_trans rfl hm | intro _ | dsimp only | assumption

theorem State.raiseAnomaly_touch {μ : Nat} {s₀ s : State} (h : TouchM μ s₀ s) (at_ : Nat) (g : Seg) (a : Anomaly)
    (hm : Nat.land 1048576 μ = 1048576 := by first | (apply sub_trans; rotate_left; (with_reducible assumption); rfl) | rfl) : TouchM μ s₀ (State.raiseAnomaly s at_ g a) := by
  unfold State.raiseAnomaly
  (try dsimp only)
  repeat' first | with_reducible assumption | (with_reducible first | apply State.report_touch) | split | exact (rfl : Nat.land _ _ = _) | exact sub_trans rfl hm | intro _ | dsimp only | assumption

theorem State.drydownLeft_touch {μ : Nat} {s₀ s : State} (h : TouchM μ s₀ s)
    (hm : Nat.land 35234592 μ = 35234592 := by first | (apply sub_trans; rotate_left; (with_reducible assumption); rfl) | rfl) : TouchM μ s₀ (State.drydownLeft s) := by
  unfold State.drydownLeft
  (try dsimp only)
  repeat' first | with_reducible assumption | (with_reducible first | apply State.segRouse_touch | apply State.modPwr_touch | apply State.kvalAll_touch | apply State.raiseAnomaly_touch | apply each_touch) | split | exact (rfl : Nat.land _ _ = _) | exact sub_trans rfl hm | intro _ | dsimp only | assumption

theorem State.answerWakes_touch {μ : Nat} {s₀ s : State} (h : TouchM μ s₀ s) (st : Status)
    (hm : Nat.land 34177024 μ = 34177024 := by first | (apply sub_trans; rotate_left; (with_reducible assumption); rfl) | rfl) : TouchM μ s₀ (State.answerWakes s st) := by
  unfold State.answerWakes
  (try dsimp only)
  repeat' first | with_reducible assumption | (with_reducible first | apply State.replyLate_touch | apply State.modPwr_touch | apply each_touch) | split | exact (rfl : Nat.land _ _ = _) | exact sub_trans rfl hm | intro _ | dsimp only | assumption

theorem State.powerActive_touch {μ : Nat} {s₀ s : State} (h : TouchM μ s₀ s)
    (hm : Nat.land 34177024 μ = 34177024 := by first | (apply sub_trans; rotate_left; (with_reducible assumption); rfl) | rfl) : TouchM μ s₀ (State.powerActive s) := by
  unfold State.powerActive
  (try dsimp only)
  repeat' first | with_reducible assumption | (with_reducible first | apply State.answerWakes_touch | apply State.modPwr_touch) | split | exact (rfl : Nat.land _ _ = _) | exact sub_trans rfl hm | intro _ | dsimp only | assumption

theorem State.trainPorts_touch {μ : Nat} {s₀ s : State} (h : TouchM μ s₀ s)
    (hm : Nat.land 65536 μ = 65536 := by first | (apply sub_trans; rotate_left; (with_reducible assumption); rfl) | rfl) : TouchM μ s₀ (State.trainPorts s) := by
  unfold State.trainPorts
  (try dsimp only)
  repeat' first | with_reducible assumption | (with_reducible first | apply State.trainPort_touch | apply each_touch) | split | exact (rfl : Nat.land _ _ = _) | exact sub_trans rfl hm | intro _ | dsimp only | assumption

theorem State.endTest_touch {μ : Nat} {s₀ s : State} (h : TouchM μ s₀ s)
    (hm : Nat.land 2162688 μ = 2162688 := by first | (apply sub_trans; rotate_left; (with_reducible assumption); rfl) | rfl) : TouchM μ s₀ (State.endTest s) := by
  unfold State.endTest
  (try dsimp only)
  repeat' first | with_reducible assumption | (with_reducible first | apply State.modBist_touch | apply State.trainPorts_touch) | split | exact (rfl : Nat.land _ _ = _) | exact sub_trans rfl hm | intro _ | dsimp only | assumption

theorem State.haltTo_touch {μ : Nat} {s₀ s : State} (h : TouchM μ s₀ s) (m : ModState) (cause : Nat)
    (hm : Nat.land 54116278 μ = 54116278 := by first | (apply sub_trans; rotate_left; (with_reducible assumption); rfl) | rfl) : TouchM μ s₀ (State.haltTo s m cause) := by
  unfold State.haltTo
  (try dsimp only)
  repeat' first | with_reducible assumption | (with_reducible first | apply State.inhibit_touch | apply State.stageOff_touch | apply State.endInhibit_touch | apply State.leaveOpenAll_touch | apply State.leaveRun_touch | apply State.endTest_touch | apply State.abortSlice_touch | apply State.modBist_touch | apply State.enter_touch | apply State.drydownLeft_touch | apply State.powerActive_touch | apply State.parkSymbol_touch) | split | exact (rfl : Nat.land _ _ = _) | exact sub_trans rfl hm | intro _ | dsimp only | assumption

theorem State.haltNow_touch {μ : Nat} {s₀ s : State} (h : TouchM μ s₀ s)
    (hm : Nat.land 54116278 μ = 54116278 := by first | (apply sub_trans; rotate_left; (with_reducible assumption); rfl) | rfl) : TouchM μ s₀ (State.haltNow s) := by
  unfold State.haltNow
  (try dsimp only)
  repeat' first | with_reducible assumption | (with_reducible first | apply State.haltTo_touch | apply State.modGlb_touch) | split | exact (rfl : Nat.land _ _ = _) | exact sub_trans rfl hm | intro _ | dsimp only | assumption

theorem State.rollBack_touch {μ : Nat} {s₀ s : State} (h : TouchM μ s₀ s) (st : AccState)
    (hm : Nat.land 263680 μ = 263680 := by first | (apply sub_trans; rotate_left; (with_reducible assumption); rfl) | rfl) : TouchM μ s₀ (State.rollBack s st) := by
  unfold State.rollBack
  (try dsimp only)
  repeat' first | with_reducible assumption | (with_reducible first | apply State.sendDown_touch | apply State.modAcc_touch | apply State.modPlay_touch | apply each_touch) | split | exact (rfl : Nat.land _ _ = _) | exact sub_trans rfl hm | intro _ | dsimp only | assumption

theorem State.accordShutdown_touch {μ : Nat} {s₀ s : State} (h : TouchM μ s₀ s)
    (hm : Nat.land 1312256 μ = 1312256 := by first | (apply sub_trans; rotate_left; (with_reducible assumption); rfl) | rfl) : TouchM μ s₀ (State.accordShutdown s) := by
  unfold State.accordShutdown
  (try dsimp only)
  repeat' first | with_reducible assumption | (with_reducible first | apply State.rollBack_touch | apply State.raise_touch) | split | exact (rfl : Nat.land _ _ = _) | exact sub_trans rfl hm | intro _ | dsimp only | assumption

theorem State.abortVerify_touch {μ : Nat} {s₀ s : State} (h : TouchM μ s₀ s)
    (hm : Nat.land 34145280 μ = 34145280 := by first | (apply sub_trans; rotate_left; (with_reducible assumption); rfl) | rfl) : TouchM μ s₀ (State.abortVerify s) := by
  unfold State.abortVerify
  (try dsimp only)
  repeat' first | with_reducible assumption | (with_reducible first | apply State.modPlay_touch | apply State.replyLate_touch) | split | exact (rfl : Nat.land _ _ = _) | exact sub_trans rfl hm | intro _ | dsimp only | assumption

theorem State.shutdownNow_touch {μ : Nat} {s₀ s : State} (h : TouchM μ s₀ s) (sensor : Nat) (temp : Int)
    (hm : Nat.land 129892278 μ = 129892278 := by first | (apply sub_trans; rotate_left; (with_reducible assumption); rfl) | rfl) : TouchM μ s₀ (State.shutdownNow s sensor temp) := by
  unfold State.shutdownNow
  (try dsimp only)
  repeat' first | with_reducible assumption | (with_reducible first | apply State.haltTo_touch | apply State.abandonWrites_touch | apply State.modTherm_touch | apply State.modGlb_touch | apply State.accordShutdown_touch | apply State.abortVerify_touch | apply State.raise_touch) | split | exact (rfl : Nat.land _ _ = _) | exact sub_trans rfl hm | intro _ | dsimp only | assumption

theorem State.requestReset_touch {μ : Nat} {s₀ s : State} (h : TouchM μ s₀ s) (code : Nat)
    (hm : Nat.land 37296694 μ = 37296694 := by first | (apply sub_trans; rotate_left; (with_reducible assumption); rfl) | rfl) : TouchM μ s₀ (State.requestReset s code) := by
  unfold State.requestReset
  (try dsimp only)
  repeat' first | with_reducible assumption | (with_reducible first | apply State.abortSlice_touch | apply State.stageOff_touch | apply State.parkSymbol_touch | apply State.modGlb_touch) | split | exact (rfl : Nat.land _ _ = _) | exact sub_trans rfl hm | intro _ | dsimp only | assumption

theorem State.classEffect_touch {μ : Nat} {s₀ s : State} (h : TouchM μ s₀ s) (x : Src) (c : FaultClass)
    (hm : Nat.land 54116278 μ = 54116278 := by first | (apply sub_trans; rotate_left; (with_reducible assumption); rfl) | rfl) : TouchM μ s₀ (State.classEffect s x c) := by
  unfold State.classEffect
  (try dsimp only)
  repeat' first | with_reducible assumption | (with_reducible first | apply State.modGlb_touch | apply State.haltNow_touch) | split | exact (rfl : Nat.land _ _ = _) | exact sub_trans rfl hm | intro _ | dsimp only | assumption

theorem State.irqReaction_touch {μ : Nat} {s₀ s : State} (h : TouchM μ s₀ s) (r : Sillage)
    (hm : Nat.land 34152448 μ = 34152448 := by first | (apply sub_trans; rotate_left; (with_reducible assumption); rfl) | rfl) : TouchM μ s₀ (State.irqReaction s r) := by
  unfold State.irqReaction
  (try dsimp only)
  repeat' first | with_reducible assumption | (with_reducible first | apply State.notice_touch | apply State.msix_touch | apply State.toHead_touch | apply State.eventRecord_touch) | split | exact (rfl : Nat.land _ _ = _) | exact sub_trans rfl hm | intro _ | dsimp only | assumption

theorem State.noteBlockReset_touch {μ : Nat} {s₀ s : State} (h : TouchM μ s₀ s) (block unit : Nat)
    (hm : Nat.land 37296690 μ = 37296690 := by first | (apply sub_trans; rotate_left; (with_reducible assumption); rfl) | rfl) : TouchM μ s₀ (State.noteBlockReset s block unit) := by
  unfold State.noteBlockReset
  (try dsimp only)
  repeat' first | with_reducible assumption | (with_reducible first | apply State.modGlb_touch | apply State.abortBlockSlice_touch) | split | exact (rfl : Nat.land _ _ = _) | exact sub_trans rfl hm | intro _ | dsimp only | assumption

theorem State.abortScan_touch {μ : Nat} {s₀ s : State} (h : TouchM μ s₀ s) (c : Fin 4)
    (hm : Nat.land 105447424 μ = 105447424 := by first | (apply sub_trans; rotate_left; (with_reducible assumption); rfl) | rfl) : TouchM μ s₀ (State.abortScan s c) := by
  unfold State.abortScan
  (try dsimp only)
  repeat' first | with_reducible assumption | (with_reducible first | apply State.freeBits_touch | apply State.modChk_touch | apply State.replyLate_touch | apply foldl_touch) | split | exact (rfl : Nat.land _ _ = _) | exact sub_trans rfl hm | intro _ | dsimp only | assumption

theorem State.idleContext_touch {μ : Nat} {s₀ s : State} (h : TouchM μ s₀ s) (c : Fin 4)
    (hm : Nat.land 105447424 μ = 105447424 := by first | (apply sub_trans; rotate_left; (with_reducible assumption); rfl) | rfl) : TouchM μ s₀ (State.idleContext s c) := by
  unfold State.idleContext
  (try dsimp only)
  repeat' first | with_reducible assumption | (with_reducible first | apply State.abortScan_touch | apply State.modChk_touch) | split | exact (rfl : Nat.land _ _ = _) | exact sub_trans rfl hm | intro _ | dsimp only | assumption

theorem State.blockReaction_touch {μ : Nat} {s₀ s : State} (h : TouchM μ s₀ s) (r : Report)
    (hm : Nat.land 116997946 μ = 116997946 := by first | (apply sub_trans; rotate_left; (with_reducible assumption); rfl) | rfl) : TouchM μ s₀ (State.blockReaction s r) := by
  unfold State.blockReaction
  (try dsimp only)
  repeat' first | with_reducible assumption | (with_reducible first | apply State.noteBlockReset_touch | apply State.segResetAsked_touch | apply State.retrainLink_touch | apply State.retrainPort_touch | apply State.hostDomainReset_touch | apply State.idleContext_touch | apply State.abandonWrites_touch) | split | exact (rfl : Nat.land _ _ = _) | exact sub_trans rfl hm | intro _ | dsimp only | assumption

theorem State.toIntake_touch {μ : Nat} {s₀ s : State} (h : TouchM μ s₀ s) (r : Sillage)
    (hm : Nat.land 1048576 μ = 1048576 := by first | (apply sub_trans; rotate_left; (with_reducible assumption); rfl) | rfl) : TouchM μ s₀ (State.toIntake s r).1 := by
  unfold State.toIntake
  (try dsimp only)
  repeat' first | with_reducible assumption | (with_reducible first | apply State.modFlt_touch) | split | exact (rfl : Nat.land _ _ = _) | exact sub_trans rfl hm | intro _ | dsimp only | assumption

theorem State.toIntake_touchEq {μ : Nat} {s₀ s u₁ : State} {a₁} {r : Sillage}
    (e : State.toIntake s r = (u₁, a₁)) (h : TouchM μ s₀ s) (hm : Nat.land 1048576 μ = 1048576 := by first | (apply sub_trans; rotate_left; (with_reducible assumption); rfl) | rfl) : TouchM μ s₀ u₁ := by
  have k := State.toIntake_touch h r hm
  rw [e] at k
  exact k

theorem State.captureFirst_touch {μ : Nat} {s₀ s : State} (h : TouchM μ s₀ s) (r : Sillage)
    (hm : Nat.land 1048576 μ = 1048576 := by first | (apply sub_trans; rotate_left; (with_reducible assumption); rfl) | rfl) : TouchM μ s₀ (State.captureFirst s r) := by
  unfold State.captureFirst
  (try dsimp only)
  repeat' first | with_reducible assumption | (with_reducible first | apply State.modFlt_touch) | split | exact (rfl : Nat.land _ _ = _) | exact sub_trans rfl hm | intro _ | dsimp only | assumption

theorem State.markSticky_touch {μ : Nat} {s₀ s : State} (h : TouchM μ s₀ s) (x : Src) (c : FaultClass) (unit tick : Nat)
    (hm : Nat.land 1048576 μ = 1048576 := by first | (apply sub_trans; rotate_left; (with_reducible assumption); rfl) | rfl) : TouchM μ s₀ (State.markSticky s x c unit tick) := by
  unfold State.markSticky
  (try dsimp only)
  repeat' first | with_reducible assumption | (with_reducible first | apply State.modFlt_touch) | split | exact (rfl : Nat.land _ _ = _) | exact sub_trans rfl hm | intro _ | dsimp only | assumption

theorem State.recordAndReact_touch {μ : Nat} {s₀ s : State} (h : TouchM μ s₀ s) (r : Report) (flags : BitVec 8) (c : FaultClass)
    (was : Bool)
    (hm : Nat.land 133808062 μ = 133808062 := by first | (apply sub_trans; rotate_left; (with_reducible assumption); rfl) | rfl) : TouchM μ s₀ (s.recordAndReact r flags c was) := by
  unfold State.recordAndReact
  extract_lets x rec_ irq trap block module pin formed t rec' s1 grave s2 s3 s4 s5 s6 s7
  have ht : TouchM μ s₀ t.1 := by
    simp only [t]
    split
    · exact State.toIntake_touch h _
    · exact h
  have h1 : TouchM μ s₀ s1 := State.captureFirst_touch ht _
  have h2 : TouchM μ s₀ s2 := by
    simp only [s2]
    split
    · exact State.abortSlice_touch h1
    · exact h1
  have h3 : TouchM μ s₀ s3 := by
    simp only [s3]
    split
    · exact State.journal_touch h2 _ _
    · exact h2
  have h4 : TouchM μ s₀ s4 := State.classEffect_touch h3 _ _
  have h5 : TouchM μ s₀ s5 := by
    simp only [s5]
    split
    · exact State.irqReaction_touch h4 _
    · exact h4
  have h6 : TouchM μ s₀ s6 := by
    simp only [s6]
    split
    · split
      · exact h5
      · exact State.journal_touch h5 _ _
    · exact h5
  have h7 : TouchM μ s₀ s7 := by
    simp only [s7]
    split
    · exact State.blockReaction_touch h6 _
    · exact h6
  split
  · exact State.requestReset_touch h7 _
  · exact h7


theorem State.enterFault_touch {μ : Nat} {s₀ s : State} (h : TouchM μ s₀ s) (r : Report) (flags : BitVec 8)
    (hm : Nat.land 133808062 μ = 133808062 := by first | (apply sub_trans; rotate_left; (with_reducible assumption); rfl) | rfl) : TouchM μ s₀ (State.enterFault s r flags) := by
  unfold State.enterFault
  (try dsimp only)
  repeat' first | with_reducible assumption | (with_reducible first | apply State.modFlt_touch | apply State.unstick_touch | apply State.markSticky_touch | apply State.recordAndReact_touch) | split | exact (rfl : Nat.land _ _ = _) | exact sub_trans rfl hm | intro _ | dsimp only | assumption

theorem State.settleN_touch {μ : Nat} {s₀ s : State} (h : TouchM μ s₀ s) (n : Nat)
    (hm : Nat.land 133808062 μ = 133808062 := by first | (apply sub_trans; rotate_left; (with_reducible assumption); rfl) | rfl) : TouchM μ s₀ (State.settleN n s) := by
  induction n generalizing s with
  | zero => exact h
  | succ n ih =>
    unfold State.settleN
    repeat' first | with_reducible assumption | with_reducible first | apply ih | apply State.enterFault_touch | apply State.modFlt_touch | apply State.raise_touch | apply State.modRes_touch | split | exact (rfl : Nat.land _ _ = _) | exact sub_trans rfl hm


theorem State.reviewSweeps_touch {μ : Nat} {s₀ s : State} (h : TouchM μ s₀ s)
    (hm : Nat.land 34152592 μ = 34152592 := by first | (apply sub_trans; rotate_left; (with_reducible assumption); rfl) | rfl) : TouchM μ s₀ (State.reviewSweeps s) := by
  unfold State.reviewSweeps
  (try dsimp only)
  repeat' first | with_reducible assumption | (with_reducible first | apply State.cutSweep_touch | apply State.endSweep_touch | apply each_touch) | split | exact (rfl : Nat.land _ _ = _) | exact sub_trans rfl hm | intro _ | dsimp only | assumption

theorem State.settle_touch {μ : Nat} {s₀ s : State} (h : TouchM μ s₀ s)
    (hm : Nat.land 133808062 μ = 133808062 := by first | (apply sub_trans; rotate_left; (with_reducible assumption); rfl) | rfl) : TouchM μ s₀ (State.settle s) := by
  unfold State.settle
  (try dsimp only)
  repeat' first | with_reducible assumption | (with_reducible first | apply State.settleN_touch | apply State.reviewSweeps_touch | apply State.journal_touch) | split | exact (rfl : Nat.land _ _ = _) | exact sub_trans rfl hm | intro _ | dsimp only | assumption

-- done

end Sys2Proof.Machine
end

