-- ==== Sys2Proof/Laws/Collector.lean ====
section
/-!
SUPPORT. The collector: nothing that a report sets off takes back a sticky bit or a report that waits, so the end of a
command makes every source sticky that the command raised.
-/

namespace Sys2Proof.Machine

/-- Sticky bits stay, reports that wait stay in front, counters, classes and the log are as before. -/
structure Grows (s t : State) : Prop where
  sticky : ∀ x, x ∈ s.flt.sticky → x ∈ t.flt.sticky
  due : s.flt.due <+: t.flt.due
  counts : t.flt.counts = s.flt.counts
  classes : t.flt.classes = s.flt.classes
  log : t.flt.log = s.flt.log
  nextSeq : t.flt.nextSeq = s.flt.nextSeq

theorem Grows.refl (s : State) : Grows s s := ⟨fun _ h => h, List.prefix_rfl, rfl, rfl, rfl, rfl⟩

/-- Sticky bits stay, reports that wait stay in front. -/
structure Rises (s t : State) : Prop where
  sticky : ∀ x, x ∈ s.flt.sticky → x ∈ t.flt.sticky
  due : s.flt.due <+: t.flt.due

theorem Grows.of_flt {s₀ s t : State} (h : Grows s₀ s) (e : t.flt = s.flt) : Grows s₀ t := by
  refine ⟨fun x hx => ?_, ?_, e ▸ h.counts, e ▸ h.classes, e ▸ h.log, e ▸ h.nextSeq⟩
  · rw [e]
    exact h.sticky x hx
  · rw [e]
    exact h.due

theorem Grows.of_touch {s₀ s t : State} (h : Grows s₀ s) (e : TouchM 133169151 s t) : Grows s₀ t := h.of_flt (e.same .flt rfl)

theorem each_grows {α : Type} (l : List α) {f : State → α → State} {s₀ s : State} (h : Grows s₀ s)
    (hf : ∀ s x, Grows s₀ s → Grows s₀ (f s x)) : Grows s₀ (each l f s) := by
  unfold each
  induction l generalizing s with
  | nil => exact h
  | cons a t ih => exact ih (hf _ _ h)

theorem State.report_grows {s₀ s : State} (h : Grows s₀ s) (r : Report) (flags : BitVec 8) : Grows s₀ (s.report r flags) :=
  ⟨h.sticky, h.due.trans (List.prefix_append _ _), h.counts, h.classes, h.log, h.nextSeq⟩

theorem State.raise_grows {s₀ s : State} (h : Grows s₀ s) (x : Src) (g : Option Seg) (k : Option Cell) (a0 a1 a2 : Word) :
    Grows s₀ (State.raise s x g k a0 a1 a2) := by
  unfold State.raise
  (try dsimp only)
  repeat' first | with_reducible assumption | (with_reducible first | apply State.report_grows) | split | exact (rfl : Nat.land _ _ = _) | intro _ | dsimp only

theorem State.putRecord_grows {s₀ s : State} (h : Grows s₀ s) (kind : Nat) (flags : BitVec 8) (cell dist time sweepId : Nat) (payload : List Byte) : Grows s₀ (State.putRecord s kind flags cell dist time sweepId payload) :=
  h.of_touch (State.putRecord_touch (TouchM.refl 133169151 s) kind flags cell dist time sweepId payload (hm := rfl))

theorem State.kvalRecord_grows {s₀ s : State} (h : Grows s₀ s) (k : Cell) :
    Grows s₀ (State.kvalRecord s k) := by
  unfold State.kvalRecord
  (try dsimp only)
  repeat' first | with_reducible assumption | (with_reducible first | apply State.putRecord_grows | apply State.raise_grows) | split | exact (rfl : Nat.land _ _ = _) | intro _ | dsimp only

theorem State.kvalAll_grows {s₀ s : State} (h : Grows s₀ s)  :
    Grows s₀ (State.kvalAll s) := by
  unfold State.kvalAll
  (try dsimp only)
  repeat' first | with_reducible assumption | (with_reducible first | apply State.kvalRecord_grows | apply each_grows) | split | exact (rfl : Nat.land _ _ = _) | intro _ | dsimp only

theorem State.tallyRecord_grows {s₀ s : State} (h : Grows s₀ s) (k : Cell) (time : Nat) (incomplete : Bool) : Grows s₀ (State.tallyRecord s k time incomplete) :=
  h.of_touch (State.tallyRecord_touch (TouchM.refl 133169151 s) k time incomplete (hm := rfl))

theorem State.edgeRecord_grows {s₀ s : State} (h : Grows s₀ s) (k : Cell) (out incomplete : Bool) : Grows s₀ (State.edgeRecord s k out incomplete) :=
  h.of_touch (State.edgeRecord_touch (TouchM.refl 133169151 s) k out incomplete (hm := rfl))

theorem State.cutSweep_grows {s₀ s : State} (h : Grows s₀ s) (k : Cell) : Grows s₀ (State.cutSweep s k) :=
  h.of_touch (State.cutSweep_touch (TouchM.refl 133169151 s) k (hm := rfl))

theorem State.endSweep_grows {s₀ s : State} (h : Grows s₀ s)  : Grows s₀ (State.endSweep s) :=
  h.of_touch (State.endSweep_touch (TouchM.refl 133169151 s)  (hm := rfl))

theorem State.contactSummary_grows {s₀ s : State} (h : Grows s₀ s) (k : Cell) : Grows s₀ (State.contactSummary s k) :=
  h.of_touch (State.contactSummary_touch (TouchM.refl 133169151 s) k (hm := rfl))

theorem State.dqdvRecord_grows {s₀ s : State} (h : Grows s₀ s) (k : Cell) (time : Nat) (atStepEnd : Bool) : Grows s₀ (State.dqdvRecord s k time atStepEnd) :=
  h.of_touch (State.dqdvRecord_touch (TouchM.refl 133169151 s) k time atStepEnd (hm := rfl))

theorem State.stepSummary_grows {s₀ s : State} (h : Grows s₀ s) (code time : Nat) (incomplete : Bool) : Grows s₀ (State.stepSummary s code time incomplete) :=
  h.of_touch (State.stepSummary_touch (TouchM.refl 133169151 s) code time incomplete (hm := rfl))

theorem State.endStep_grows {s₀ s : State} (h : Grows s₀ s) (t code : Nat) (incomplete : Bool) :
    Grows s₀ (State.endStep s t code incomplete) := by
  unfold State.endStep
  (try dsimp only)
  repeat' first | with_reducible assumption | (with_reducible first | apply State.tallyRecord_grows | apply State.edgeRecord_grows | apply State.cutSweep_grows | apply State.endSweep_grows | apply State.kvalAll_grows | apply State.contactSummary_grows | apply State.dqdvRecord_grows | apply State.stepSummary_grows | apply each_grows) | split | exact (rfl : Nat.land _ _ = _) | intro _ | dsimp only

theorem State.modPort_grows {s₀ s : State} (h : Grows s₀ s) (p : Port) (f : PortSt → PortSt) : Grows s₀ (State.modPort s p f) :=
  h.of_flt rfl

theorem State.modLoop_grows {s₀ s : State} (h : Grows s₀ s) (f : Loop → Loop) : Grows s₀ (State.modLoop s f) :=
  h.of_flt rfl

theorem State.serve_grows {s₀ s : State} (h : Grows s₀ s) (p : Port) : Grows s₀ (State.serve s p) :=
  h.of_touch (State.serve_touch (TouchM.refl 133169151 s) p (hm := rfl))

theorem State.linkEvent_grows {s₀ s : State} (h : Grows s₀ s) (p : Port) (kind : Nat) : Grows s₀ (State.linkEvent s p kind) :=
  h.of_touch (State.linkEvent_touch (TouchM.refl 133169151 s) p kind (hm := rfl))

theorem State.censusBroken_grows {s₀ s : State} (h : Grows s₀ s)  : Grows s₀ (State.censusBroken s) :=
  h.of_touch (State.censusBroken_touch (TouchM.refl 133169151 s)  (hm := rfl))

theorem State.leaveUp_grows {s₀ s : State} (h : Grows s₀ s) (p : Port) :
    Grows s₀ (State.leaveUp s p) := by
  unfold State.leaveUp
  (try dsimp only)
  repeat' first | with_reducible assumption | (with_reducible first | apply State.modPort_grows | apply State.modLoop_grows | apply State.serve_grows | apply State.raise_grows | apply State.linkEvent_grows | apply State.censusBroken_grows) | split | exact (rfl : Nat.land _ _ = _) | intro _ | dsimp only

theorem State.trainPort_grows {s₀ s : State} (h : Grows s₀ s) (p : Port) : Grows s₀ (State.trainPort s p) :=
  h.of_touch (State.trainPort_touch (TouchM.refl 133169151 s) p (hm := rfl))

theorem State.restartPort_grows {s₀ s : State} (h : Grows s₀ s) (p : Port) :
    Grows s₀ (State.restartPort s p) := by
  unfold State.restartPort
  (try dsimp only)
  repeat' first | with_reducible assumption | (with_reducible first | apply State.leaveUp_grows | apply State.trainPort_grows | apply State.modPort_grows) | split | exact (rfl : Nat.land _ _ = _) | intro _ | dsimp only

theorem State.retrainPort_grows {s₀ s : State} (h : Grows s₀ s) (p : Port) :
    Grows s₀ (State.retrainPort s p) := by
  unfold State.retrainPort
  (try dsimp only)
  repeat' first | with_reducible assumption | (with_reducible first | apply State.leaveUp_grows | apply State.trainPort_grows) | split | exact (rfl : Nat.land _ _ = _) | intro _ | dsimp only

theorem State.modHost_grows {s₀ s : State} (h : Grows s₀ s) (f : HostPort → HostPort) : Grows s₀ (State.modHost s f) :=
  h.of_flt rfl

theorem State.msix_grows {s₀ s : State} (h : Grows s₀ s) (v : Nat) : Grows s₀ (State.msix s v) :=
  h.of_touch (State.msix_touch (TouchM.refl 133169151 s) v (hm := rfl))

theorem State.hostErr_grows {s₀ s : State} (h : Grows s₀ s) (bits : BitVec 10) :
    Grows s₀ (State.hostErr s bits) := by
  unfold State.hostErr
  (try dsimp only)
  repeat' first | with_reducible assumption | (with_reducible first | apply State.modHost_grows | apply State.msix_grows | apply State.raise_grows) | split | exact (rfl : Nat.land _ _ = _) | intro _ | dsimp only

theorem State.resetRings_grows {s₀ s : State} (h : Grows s₀ s)  : Grows s₀ (State.resetRings s) :=
  h.of_touch (State.resetRings_touch (TouchM.refl 133169151 s)  (hm := rfl))

theorem State.setRegs_grows {s₀ s : State} (h : Grows s₀ s) (m : List (Nat × Word)) : Grows s₀ (State.setRegs s m) :=
  h.of_flt rfl

theorem State.hostDomainReset_grows {s₀ s : State} (h : Grows s₀ s)  :
    Grows s₀ (State.hostDomainReset s) := by
  unfold State.hostDomainReset
  (try dsimp only)
  repeat' first | with_reducible assumption | (with_reducible first | apply State.resetRings_grows | apply State.setRegs_grows | apply State.modHost_grows | apply State.hostErr_grows) | split | exact (rfl : Nat.land _ _ = _) | intro _ | dsimp only

theorem State.parkSegment_grows {s₀ s : State} (h : Grows s₀ s) (g : Seg) (code : Nat) : Grows s₀ (State.parkSegment s g code) :=
  h.of_touch (State.parkSegment_touch (TouchM.refl 133169151 s) g code (hm := rfl))

theorem State.bistShunt_grows {s₀ s : State} (h : Grows s₀ s) (n : Nat) (off : Bool) : Grows s₀ (State.bistShunt s n off) :=
  h.of_touch (State.bistShunt_touch (TouchM.refl 133169151 s) n off (hm := rfl))

theorem State.hostError_grows {s₀ s : State} (h : Grows s₀ s)  : Grows s₀ (State.hostError s) :=
  h.of_touch (State.hostError_touch (TouchM.refl 133169151 s)  (hm := rfl))

theorem State.modSpc_grows {s₀ s : State} (h : Grows s₀ s) (f : Spc → Spc) : Grows s₀ (State.modSpc s f) :=
  h.of_flt rfl

theorem State.safeState_grows {s₀ s : State} (h : Grows s₀ s) (n : Nat) :
    Grows s₀ (State.safeState s n) := by
  unfold State.safeState
  (try dsimp only)
  repeat' first | with_reducible assumption | (with_reducible first | apply State.parkSegment_grows | apply State.bistShunt_grows | apply State.restartPort_grows | apply State.hostError_grows | apply State.modSpc_grows) | split | exact (rfl : Nat.land _ _ = _) | intro _ | dsimp only

theorem State.setSlice_grows {s₀ s : State} (h : Grows s₀ s) (n : Slice) (f : SliceSt → SliceSt) : Grows s₀ (State.setSlice s n f) :=
  h.of_touch (State.setSlice_touch (TouchM.refl 133169151 s) n f (hm := rfl))

theorem State.modBist_grows {s₀ s : State} (h : Grows s₀ s) (f : Bist → Bist) : Grows s₀ (State.modBist s f) :=
  h.of_flt rfl

theorem State.failSlice_grows {s₀ s : State} (h : Grows s₀ s) (n : Slice) (hung : Bool) :
    Grows s₀ (State.failSlice s n hung) := by
  unfold State.failSlice
  (try dsimp only)
  repeat' first | with_reducible assumption | (with_reducible first | apply State.setSlice_grows | apply State.modBist_grows | apply State.safeState_grows | apply State.raise_grows) | split | exact (rfl : Nat.land _ _ = _) | intro _ | dsimp only

theorem State.freeBlock_grows {s₀ s : State} (h : Grows s₀ s) (n : Slice) : Grows s₀ (State.freeBlock s n) :=
  h.of_touch (State.freeBlock_touch (TouchM.refl 133169151 s) n (hm := rfl))

theorem State.nextSlice_grows {s₀ s : State} (h : Grows s₀ s)  : Grows s₀ (State.nextSlice s) :=
  h.of_touch (State.nextSlice_touch (TouchM.refl 133169151 s)  (hm := rfl))

theorem State.endOfQueue_grows {s₀ s : State} (h : Grows s₀ s)  : Grows s₀ (State.endOfQueue s) :=
  h.of_touch (State.endOfQueue_touch (TouchM.refl 133169151 s)  (hm := rfl))

theorem State.abortSlice_grows {s₀ s : State} (h : Grows s₀ s)  :
    Grows s₀ (State.abortSlice s) := by
  unfold State.abortSlice
  (try dsimp only)
  repeat' first | with_reducible assumption | (with_reducible first | apply State.freeBlock_grows | apply State.setSlice_grows | apply State.modBist_grows | apply State.nextSlice_grows | apply State.failSlice_grows | apply State.endOfQueue_grows) | split | exact (rfl : Nat.land _ _ = _) | intro _ | dsimp only

theorem State.abortBlockSlice_grows {s₀ s : State} (h : Grows s₀ s) (block : Nat) (unit : Nat) :
    Grows s₀ (State.abortBlockSlice s block unit) := by
  unfold State.abortBlockSlice
  (try dsimp only)
  repeat' first | with_reducible assumption | (with_reducible first | apply State.abortSlice_grows) | split | exact (rfl : Nat.land _ _ = _) | intro _ | dsimp only

theorem State.clearStep_grows {s₀ s : State} (h : Grows s₀ s)  : Grows s₀ (State.clearStep s) :=
  h.of_touch (State.clearStep_touch (TouchM.refl 133169151 s)  (hm := rfl))

theorem State.unplan_grows {s₀ s : State} (h : Grows s₀ s)  : Grows s₀ (State.unplan s) :=
  h.of_touch (State.unplan_touch (TouchM.refl 133169151 s)  (hm := rfl))

theorem State.askRestart_grows {s₀ s : State} (h : Grows s₀ s)  : Grows s₀ (State.askRestart s) :=
  h.of_touch (State.askRestart_touch (TouchM.refl 133169151 s)  (hm := rfl))

theorem State.replyLate_grows {s₀ s : State} (h : Grows s₀ s) (o : Origin) (op : Nat) (r : Result) : Grows s₀ (State.replyLate s o op r) :=
  h.of_touch (State.replyLate_touch (TouchM.refl 133169151 s) o op r (hm := rfl))

theorem State.setStop_grows {s₀ s : State} (h : Grows s₀ s) (o : Option Origin) : Grows s₀ (State.setStop s o) :=
  h.of_flt rfl

theorem State.dropSweep_grows {s₀ s : State} (h : Grows s₀ s)  : Grows s₀ (State.dropSweep s) :=
  h.of_touch (State.dropSweep_touch (TouchM.refl 133169151 s)  (hm := rfl))

theorem State.modPlay_grows {s₀ s : State} (h : Grows s₀ s) (f : Player → Player) : Grows s₀ (State.modPlay s f) :=
  h.of_flt rfl

theorem State.leaveRun_grows {s₀ s : State} (h : Grows s₀ s)  :
    Grows s₀ (State.leaveRun s) := by
  unfold State.leaveRun
  (try dsimp only)
  repeat' first | with_reducible assumption | (with_reducible first | apply State.endStep_grows | apply State.clearStep_grows | apply State.unplan_grows | apply State.askRestart_grows | apply State.replyLate_grows | apply State.setStop_grows | apply State.dropSweep_grows | apply State.modPlay_grows) | split | exact (rfl : Nat.land _ _ = _) | intro _ | dsimp only

theorem State.raiseAnomaly_grows {s₀ s : State} (h : Grows s₀ s) (at_ : Nat) (g : Seg) (a : Anomaly) :
    Grows s₀ (State.raiseAnomaly s at_ g a) := by
  unfold State.raiseAnomaly
  (try dsimp only)
  repeat' first | with_reducible assumption | (with_reducible first | apply State.report_grows) | split | exact (rfl : Nat.land _ _ = _) | intro _ | dsimp only

theorem State.segRouse_grows {s₀ s : State} (h : Grows s₀ s) (g : Seg) : Grows s₀ (State.segRouse s g) :=
  h.of_touch (State.segRouse_touch (TouchM.refl 133169151 s) g (hm := rfl))

theorem State.modPwr_grows {s₀ s : State} (h : Grows s₀ s) (f : Pwr → Pwr) : Grows s₀ (State.modPwr s f) :=
  h.of_flt rfl

theorem State.drydownLeft_grows {s₀ s : State} (h : Grows s₀ s)  :
    Grows s₀ (State.drydownLeft s) := by
  unfold State.drydownLeft
  (try dsimp only)
  repeat' first | with_reducible assumption | (with_reducible first | apply State.segRouse_grows | apply State.modPwr_grows | apply State.kvalAll_grows | apply State.raiseAnomaly_grows | apply each_grows) | split | exact (rfl : Nat.land _ _ = _) | intro _ | dsimp only

theorem State.inhibit_grows {s₀ s : State} (h : Grows s₀ s) (c : Nat) : Grows s₀ (State.inhibit s c) :=
  h.of_touch (State.inhibit_touch (TouchM.refl 133169151 s) c (hm := rfl))

theorem State.stageOff_grows {s₀ s : State} (h : Grows s₀ s)  : Grows s₀ (State.stageOff s) :=
  h.of_touch (State.stageOff_touch (TouchM.refl 133169151 s)  (hm := rfl))

theorem State.endInhibit_grows {s₀ s : State} (h : Grows s₀ s) (c : Nat) : Grows s₀ (State.endInhibit s c) :=
  h.of_touch (State.endInhibit_touch (TouchM.refl 133169151 s) c (hm := rfl))

theorem State.leaveOpenAll_grows {s₀ s : State} (h : Grows s₀ s)  : Grows s₀ (State.leaveOpenAll s) :=
  h.of_touch (State.leaveOpenAll_touch (TouchM.refl 133169151 s)  (hm := rfl))

theorem State.endTest_grows {s₀ s : State} (h : Grows s₀ s)  : Grows s₀ (State.endTest s) :=
  h.of_touch (State.endTest_touch (TouchM.refl 133169151 s)  (hm := rfl))

theorem State.enter_grows {s₀ s : State} (h : Grows s₀ s) (m : ModState) : Grows s₀ (State.enter s m) :=
  h.of_flt rfl

theorem State.powerActive_grows {s₀ s : State} (h : Grows s₀ s)  : Grows s₀ (State.powerActive s) :=
  h.of_touch (State.powerActive_touch (TouchM.refl 133169151 s)  (hm := rfl))

theorem State.parkSymbol_grows {s₀ s : State} (h : Grows s₀ s) (orphan : Bool) : Grows s₀ (State.parkSymbol s orphan) :=
  h.of_touch (State.parkSymbol_touch (TouchM.refl 133169151 s) orphan (hm := rfl))

theorem State.haltTo_grows {s₀ s : State} (h : Grows s₀ s) (m : ModState) (cause : Nat) :
    Grows s₀ (State.haltTo s m cause) := by
  unfold State.haltTo
  (try dsimp only)
  repeat' first | with_reducible assumption | (with_reducible first | apply State.inhibit_grows | apply State.stageOff_grows | apply State.endInhibit_grows | apply State.leaveOpenAll_grows | apply State.leaveRun_grows | apply State.endTest_grows | apply State.abortSlice_grows | apply State.modBist_grows | apply State.enter_grows | apply State.drydownLeft_grows | apply State.powerActive_grows | apply State.parkSymbol_grows) | split | exact (rfl : Nat.land _ _ = _) | intro _ | dsimp only

theorem State.modGlb_grows {s₀ s : State} (h : Grows s₀ s) (f : Glb → Glb) : Grows s₀ (State.modGlb s f) :=
  h.of_flt rfl

theorem State.haltNow_grows {s₀ s : State} (h : Grows s₀ s)  :
    Grows s₀ (State.haltNow s) := by
  unfold State.haltNow
  (try dsimp only)
  repeat' first | with_reducible assumption | (with_reducible first | apply State.haltTo_grows | apply State.modGlb_grows) | split | exact (rfl : Nat.land _ _ = _) | intro _ | dsimp only

theorem State.classEffect_grows {s₀ s : State} (h : Grows s₀ s) (x : Src) (c : FaultClass) :
    Grows s₀ (State.classEffect s x c) := by
  unfold State.classEffect
  (try dsimp only)
  repeat' first | with_reducible assumption | (with_reducible first | apply State.modGlb_grows | apply State.haltNow_grows) | split | exact (rfl : Nat.land _ _ = _) | intro _ | dsimp only

theorem State.noteBlockReset_grows {s₀ s : State} (h : Grows s₀ s) (block unit : Nat) :
    Grows s₀ (State.noteBlockReset s block unit) := by
  unfold State.noteBlockReset
  (try dsimp only)
  repeat' first | with_reducible assumption | (with_reducible first | apply State.modGlb_grows | apply State.abortBlockSlice_grows) | split | exact (rfl : Nat.land _ _ = _) | intro _ | dsimp only

theorem State.segResetAsked_grows {s₀ s : State} (h : Grows s₀ s) (g : Seg) : Grows s₀ (State.segResetAsked s g) :=
  h.of_touch (State.segResetAsked_touch (TouchM.refl 133169151 s) g (hm := rfl))

theorem State.retrainLink_grows {s₀ s : State} (h : Grows s₀ s) (g : Seg) : Grows s₀ (State.retrainLink s g) :=
  h.of_touch (State.retrainLink_touch (TouchM.refl 133169151 s) g (hm := rfl))

theorem State.idleContext_grows {s₀ s : State} (h : Grows s₀ s) (c : Fin 4) : Grows s₀ (State.idleContext s c) :=
  h.of_touch (State.idleContext_touch (TouchM.refl 133169151 s) c (hm := rfl))

theorem State.abandonWrites_grows {s₀ s : State} (h : Grows s₀ s) (st : Option Status) : Grows s₀ (s.abandonWrites st) :=
  h.of_touch (State.abandonWrites_touch (TouchM.refl 133169151 s) st (hm := rfl))

theorem State.blockReaction_grows {s₀ s : State} (h : Grows s₀ s) (r : Report) :
    Grows s₀ (State.blockReaction s r) := by
  unfold State.blockReaction
  (try dsimp only)
  repeat' first | with_reducible assumption | (with_reducible first | apply State.noteBlockReset_grows | apply State.segResetAsked_grows | apply State.retrainLink_grows | apply State.retrainPort_grows | apply State.hostDomainReset_grows | apply State.idleContext_grows | apply State.abandonWrites_grows) | split | exact (rfl : Nat.land _ _ = _) | intro _ | dsimp only

theorem State.toIntake_grows {s₀ s : State} (h : Grows s₀ s) (r : Sillage) : Grows s₀ (s.toIntake r).1 := by
  unfold State.toIntake
  split <;> exact ⟨h.sticky, h.due, h.counts, h.classes, h.log, h.nextSeq⟩

theorem State.captureFirst_grows {s₀ s : State} (h : Grows s₀ s) (r : Sillage) : Grows s₀ (s.captureFirst r) := by
  unfold State.captureFirst
  dsimp only
  split
  · exact h
  · exact ⟨h.sticky, h.due, h.counts, h.classes, h.log, h.nextSeq⟩

theorem State.markSticky_sticky (s : State) (x : Src) (c : FaultClass) (unit tick : Nat) :
    x ∈ (s.markSticky x c unit tick).flt.sticky := by
  unfold State.markSticky
  simp only [State.modFlt_flt]
  split
  · next h => exact List.contains_iff_mem.1 h
  · exact List.mem_cons_self

theorem State.markSticky_rises (s : State) (x : Src) (c : FaultClass) (unit tick : Nat) :
    Rises s (s.markSticky x c unit tick) := by
  refine ⟨fun y hy => ?_, List.prefix_rfl⟩
  have := hy
  unfold State.markSticky
  simp only [State.modFlt_flt]
  split
  · exact this
  · exact List.mem_cons_of_mem _ this

theorem State.requestReset_grows {s₀ s : State} (h : Grows s₀ s) (code : Nat) :
    Grows s₀ (State.requestReset s code) := by
  unfold State.requestReset
  (try dsimp only)
  repeat' first | with_reducible assumption | (with_reducible first | apply State.abortSlice_grows | apply State.stageOff_grows | apply State.parkSymbol_grows | apply State.modGlb_grows) | split | exact (rfl : Nat.land _ _ = _) | intro _ | dsimp only

theorem State.recordAndReact_grows {s₀ s : State} (h : Grows s₀ s) (r : Report) (flags : BitVec 8) (c : FaultClass)
    (was : Bool) : Grows s₀ (s.recordAndReact r flags c was) := by
  unfold State.recordAndReact
  extract_lets x rec_ irq trap block module pin formed t rec' s1 grave s2 s3 s4 s5 s6 s7
  have ht : Grows s₀ t.1 := by
    simp only [t]
    split
    · exact State.toIntake_grows h _
    · exact h
  have h1 : Grows s₀ s1 := State.captureFirst_grows ht _
  have h2 : Grows s₀ s2 := by
    simp only [s2]
    split
    · exact State.abortSlice_grows h1
    · exact h1
  have h3 : Grows s₀ s3 := by
    simp only [s3]
    split
    · exact h2.of_flt ((State.journal_touch (TouchM.refl 133169151 _) _ _).same .flt rfl)
    · exact h2
  have h4 : Grows s₀ s4 := State.classEffect_grows h3 _ _
  have h5 : Grows s₀ s5 := by
    simp only [s5]
    split
    · exact h4.of_flt ((State.irqReaction_touch (TouchM.refl 133169151 _) _).same .flt rfl)
    · exact h4
  have h6 : Grows s₀ s6 := by
    simp only [s6]
    split
    · split
      · exact h5
      · exact h5.of_flt ((State.journal_touch (TouchM.refl 133169151 _) _ _).same .flt rfl)
    · exact h5
  have h7 : Grows s₀ s7 := by
    simp only [s7]
    split
    · exact State.blockReaction_grows h6 _
    · exact h6
  split
  · exact State.requestReset_grows h7 _
  · exact h7

/-- A source whose clear is under way at this tick loses nothing but its own sticky bit (R402). -/
theorem State.unstick_flt (s : State) (x : Src) :
    (∀ y, y ≠ x → y ∈ s.flt.sticky → y ∈ (s.unstick x).flt.sticky) ∧ (s.unstick x).flt.due = s.flt.due ∧
    (s.unstick x).flt.counts = s.flt.counts ∧ (s.unstick x).flt.classes = s.flt.classes ∧
    (s.unstick x).flt.log = s.flt.log ∧ (s.unstick x).flt.nextSeq = s.flt.nextSeq := by
  unfold State.unstick
  split
  · exact ⟨fun _ _ h => h, rfl, rfl, rfl, rfl, rfl⟩
  · exact ⟨fun y hy h => List.mem_filter.2 ⟨h, by simpa using hy⟩, rfl, rfl, rfl, rfl, rfl⟩

/-- What the collector takes is sticky, and nothing else is taken back. -/
theorem State.enterFault_sticky (s : State) (r : Report) (flags : BitVec 8) : r.src ∈ (s.enterFault r flags).flt.sticky := by
  unfold State.enterFault
  dsimp only
  split
  · simp only [State.modFlt_flt]
    split
    · next h => exact List.contains_iff_mem.1 h
    · exact List.mem_cons_self
  · exact (State.recordAndReact_grows (Grows.refl _) _ _ _ _).sticky _ (State.markSticky_sticky _ _ _ _ _)

theorem State.enterFault_rises (s : State) (r : Report) (flags : BitVec 8) : Rises s (s.enterFault r flags) := by
  unfold State.enterFault
  dsimp only
  split
  · refine ⟨fun y hy => ?_, List.prefix_rfl⟩
    have := hy
    simp only [State.modFlt_flt]
    split
    · exact this
    · exact List.mem_cons_of_mem _ this
  · generalize hu : (if s.clearComing r.src = true then s.unstick r.src else s) = u
    have k : (∀ y, y ≠ r.src → y ∈ s.flt.sticky → y ∈ u.flt.sticky) ∧ u.flt.due = s.flt.due := by
      rw [← hu]
      split
      · exact ⟨(State.unstick_flt s r.src).1, (State.unstick_flt s r.src).2.1⟩
      · exact ⟨fun _ _ h => h, rfl⟩
    have a := State.markSticky_rises u r.src (s.classNow r.src) (reportUnit r) (Nat.max s.now r.time)
    have b := State.recordAndReact_grows (Grows.refl (u.markSticky r.src (s.classNow r.src) (reportUnit r)
      (Nat.max s.now r.time))) r flags (s.classNow r.src) (u.isSticky r.src)
    refine ⟨fun y hy => b.sticky y ?_, k.2 ▸ a.due.trans b.due⟩
    by_cases hx : y = r.src
    · exact hx ▸ State.markSticky_sticky u r.src _ _ _
    · exact a.sticky y (k.1 y hx hy)

/-- An occurrence whose source has none at this tick is counted, and takes the class in force; the log stays (R397). -/
theorem State.enterFault_counts (s : State) (r : Report) (flags : BitVec 8)
    (h : ¬ (s.flt.tickOf = Nat.max s.now r.time ∧ s.flt.tickSrcs.contains r.src = true)) :
    (s.enterFault r flags).flt.counts = assign s.flt.counts r.src (satAdd 0xFFFF ((find? s.flt.counts r.src).getD 0) 1) ∧
    (s.enterFault r flags).flt.classes = assign s.flt.classes r.src (s.classNow r.src) ∧
    (s.enterFault r flags).flt.log = s.flt.log ∧ (s.enterFault r flags).flt.nextSeq = s.flt.nextSeq := by
  unfold State.enterFault
  dsimp only
  rw [if_neg h]
  generalize hu : (if s.clearComing r.src = true then s.unstick r.src else s) = u
  have k : u.flt.counts = s.flt.counts ∧ u.flt.classes = s.flt.classes ∧ u.flt.log = s.flt.log ∧
      u.flt.nextSeq = s.flt.nextSeq := by
    rw [← hu]
    split
    · exact (State.unstick_flt s r.src).2.2
    · exact ⟨rfl, rfl, rfl, rfl⟩
  have b := State.recordAndReact_grows (Grows.refl (u.markSticky r.src (s.classNow r.src) (reportUnit r)
    (Nat.max s.now r.time))) r flags (s.classNow r.src) (u.isSticky r.src)
  exact ⟨k.1 ▸ b.counts, k.2.1 ▸ b.classes, k.2.2.1 ▸ b.log, k.2.2.2 ▸ b.nextSeq⟩

/-- Reports in order are taken one by one: each is sticky in the end, and so is what was sticky before. -/
theorem State.settleN_sticky (n : Nat) (s : State) (x : Src)
    (h : x ∈ s.flt.sticky ∨ ∃ l r t, s.flt.due = l ++ r :: t ∧ r.1.src = x ∧ l.length < n) :
    x ∈ (State.settleN n s).flt.sticky := by
  induction n generalizing s with
  | zero =>
    rcases h with h | ⟨_, _, _, _, _, h⟩
    · exact h
    · exact absurd h (Nat.not_lt_zero _)
  | succ n ih =>
    unfold State.settleN
    split
    · next r fl t hd =>
      refine ih _ ?_
      have g := State.enterFault_rises (s.modFlt (fun f => { f with due := t })) r fl
      rcases h with h | ⟨l, r', t', e, hx, hl⟩
      · exact .inl (g.sticky x h)
      · cases l with
        | nil =>
          rw [hd] at e
          injection e with e1 e2
          refine .inl ?_
          rw [← hx, ← e1]
          exact State.enterFault_sticky _ _ _
        | cons a l =>
          rw [hd] at e
          injection e with e1 e2
          obtain ⟨w, hw⟩ := g.due
          refine .inr ⟨l, r', t' ++ w, ?_, hx, by simpa using hl⟩
          rw [← hw]
          simp [e2]
    · next hd =>
      rcases h with h | ⟨l, r', t', e, _, _⟩
      · split
        · exact ih _ (.inl h)
        · exact h
      · rw [hd] at e
        simp at e

theorem State.reviewSweeps_flt (s : State) : s.reviewSweeps.flt = s.flt :=
  (State.reviewSweeps_touch (TouchM.refl 133169151 s)).same .flt rfl

/-- By the end of a command every source that it raised is sticky (R397), and what was sticky before still is. -/
theorem State.settle_sticky (s : State) (x : Src)
    (h : x ∈ s.flt.sticky ∨ ∃ l r t, s.flt.due = l ++ r :: t ∧ r.1.src = x ∧ l.length < 4096) :
    x ∈ s.settle.flt.sticky := by
  have k : x ∈ (State.settleN 4096 s.reviewSweeps).flt.sticky :=
    State.settleN_sticky 4096 _ x (by rw [State.reviewSweeps_flt]; exact h)
  unfold State.settle
  generalize State.settleN 4096 s.reviewSweeps = t at k
  dsimp only
  split
  · split
    · exact k
    · rw [(State.journal_touch (TouchM.refl 133169151 t) _ _).same .flt rfl]
      exact k
  · exact k

end Sys2Proof.Machine
end

