-- ==== Sys2Proof/Laws/Keeps.lean ====
section
/-!
SUPPORT. What the named operations of Machine/Ops.lean keep (Safety.lean: Keeps), and how it is carried through
compositions, conditionals and lists.
-/

namespace Sys2Proof.Machine

/-! ### Canonical memory -/

theorem Sparse.wfFrom_mono {α : Type} [DecidableEq α] (d : Nat → α) (m : List (Nat × α)) {lo lo' : Nat}
    (hle : lo' ≤ lo) (h : Sparse.wfFrom d lo m = true) : Sparse.wfFrom d lo' m = true := by
  cases m with
  | nil => rfl
  | cons e t =>
    simp only [Sparse.wfFrom, Bool.and_eq_true, decide_eq_true_eq] at h ⊢
    exact ⟨⟨by omega, h.1.2⟩, h.2⟩

theorem Sparse.put_wfFrom {α : Type} [DecidableEq α] (d : Nat → α) (m : List (Nat × α)) (lo a : Nat) (v : α)
    (hlo : lo ≤ a) (h : Sparse.wfFrom d lo m = true) : Sparse.wfFrom d lo (Sparse.put d m a v) = true := by
  induction m generalizing lo with
  | nil =>
    by_cases hv : v = d a <;> simp [Sparse.put, Sparse.wfFrom, hv, hlo]
  | cons e t ih =>
    obtain ⟨b, w⟩ := e
    simp only [Sparse.wfFrom, Bool.and_eq_true, decide_eq_true_eq] at h
    obtain ⟨⟨h1, h2⟩, h3⟩ := h
    by_cases hab : a < b
    · by_cases hv : v = d a
      · simp [Sparse.put, Sparse.wfFrom, hab, hv, h1, h2, h3]
      · simp [Sparse.put, Sparse.wfFrom, hab, hv, hlo, h2, h3]
    · by_cases he : a = b
      · subst he
        by_cases hv : v = d a
        · simpa [Sparse.put, hv] using Sparse.wfFrom_mono d t (by omega : lo ≤ a + 1) h3
        · simp [Sparse.put, Sparse.wfFrom, hv, hlo, h3]
      · simp [Sparse.put, Sparse.wfFrom, hab, he, h1, h2]
        exact ih (b + 1) (by omega) h3

/-- A write keeps the canonical form. -/
theorem Sparse.put_wf {α : Type} [DecidableEq α] (d : Nat → α) (m : List (Nat × α)) (a : Nat) (v : α)
    (h : Sparse.wf d m = true) : Sparse.wf d (Sparse.put d m a v) = true :=
  Sparse.put_wfFrom d m 0 a v (Nat.zero_le a) h

theorem Sparse.putAll_wf {α : Type} [DecidableEq α] (d : Nat → α) (l : List α) (m : List (Nat × α)) (a : Nat)
    (h : Sparse.wf d m = true) : Sparse.wf d (Sparse.putAll d m a l) = true := by
  induction l generalizing m a with
  | nil => exact h
  | cons v t ih => exact ih _ _ (Sparse.put_wf d m a v h)

theorem Sparse.filter_wfFrom {α : Type} [DecidableEq α] (d : Nat → α) (p : Nat × α → Bool) (m : List (Nat × α))
    (lo : Nat) (h : Sparse.wfFrom d lo m = true) : Sparse.wfFrom d lo (m.filter p) = true := by
  induction m generalizing lo with
  | nil => rfl
  | cons e t ih =>
    obtain ⟨b, w⟩ := e
    simp only [Sparse.wfFrom, Bool.and_eq_true, decide_eq_true_eq] at h
    obtain ⟨⟨h1, h2⟩, h3⟩ := h
    by_cases hp : p (b, w) = true
    · simp [List.filter, hp, Sparse.wfFrom, h1, h2, ih _ h3]
    · simp [List.filter, hp]
      exact ih lo (Sparse.wfFrom_mono d t (by omega) h3)

/-- Entries left out keep the canonical form. -/
theorem Sparse.filter_wf {α : Type} [DecidableEq α] (d : Nat → α) (p : Nat × α → Bool) (m : List (Nat × α))
    (h : Sparse.wf d m = true) : Sparse.wf d (m.filter p) = true := Sparse.filter_wfFrom d p m 0 h

/-- What was written is read back; other addresses read as before. -/
theorem Sparse.get_put {α : Type} [DecidableEq α] (d : Nat → α) (m : List (Nat × α)) (a b lo : Nat) (v : α)
    (h : Sparse.wfFrom d lo m = true) :
    Sparse.get d (Sparse.put d m a v) b = if a = b then v else Sparse.get d m b := by
  have lower : ∀ (t : List (Nat × α)) (n : Nat), Sparse.wfFrom d n t = true → ∀ c, c < n → Sparse.get d t c = d c := by
    intro t
    induction t with
    | nil => intro n _ c _; rfl
    | cons e t ih =>
      intro n hn c hc
      obtain ⟨x, w⟩ := e
      simp only [Sparse.wfFrom, Bool.and_eq_true, decide_eq_true_eq] at hn
      have hx : ¬x = c := by omega
      simp only [Sparse.get, hx, if_false]
      exact ih (x + 1) hn.2 c (by omega)
  induction m generalizing lo with
  | nil =>
    by_cases hab : a = b
    · subst hab
      by_cases hv : v = d a <;> simp [Sparse.put, Sparse.get, hv]
    · by_cases hv : v = d a <;> simp [Sparse.put, Sparse.get, hv, hab]
  | cons e t ih =>
    obtain ⟨x, w⟩ := e
    have h' := h
    simp only [Sparse.wfFrom, Bool.and_eq_true, decide_eq_true_eq] at h'
    obtain ⟨⟨h1, h2⟩, h3⟩ := h'
    by_cases hax : a < x
    · by_cases hv : v = d a
      · by_cases hab : a = b
        · subst hab
          have hxa : ¬x = a := by omega
          have := lower t (x + 1) h3 a (by omega)
          simp [Sparse.put, Sparse.get, hax, hv, hxa, this]
        · simp [Sparse.put, hax, hv, hab]
      · by_cases hab : a = b
        · subst hab
          simp [Sparse.put, Sparse.get, hax, hv]
        · simp [Sparse.put, Sparse.get, hax, hv, hab]
    · by_cases he : a = x
      · subst he
        by_cases hv : v = d a
        · by_cases hab : a = b
          · subst hab
            simp [Sparse.put, hv, lower t (a + 1) h3 a (by omega)]
          · simp [Sparse.put, Sparse.get, hv, hab]
        · by_cases hab : a = b
          · subst hab
            simp [Sparse.put, Sparse.get, hv]
          · simp [Sparse.put, Sparse.get, hv, hab]
      · by_cases hxb : x = b
        · subst hxb
          simp [Sparse.put, Sparse.get, hax, he]
        · simp [Sparse.put, Sparse.get, hax, he, hxb, ih (x + 1) h3]

/-! ### Carrying -/

variable {s₀ s t : State}

theorem Keeps.refl (s : State) : Keeps s s := ⟨rfl, Nat.le_refl _, List.suffix_refl _, id⟩

theorem Keeps.trans (h : Keeps s₀ s) (k : Keeps s t) : Keeps s₀ t :=
  ⟨k.pending.trans h.pending, h.free.trans k.free, h.out.trans k.out, fun m => k.mem (h.mem m)⟩

/-- A command's outcome is a next state that keeps. -/
def KeepsOut (s₀ : State) (o : Host.Outcome State Fault Refusal) : Prop := ∃ t, o = .next t ∧ Keeps s₀ t

theorem keeps_ite (c : Prop) [Decidable c] : Keeps s₀ (if c then s else t) ↔ (c → Keeps s₀ s) ∧ (¬c → Keeps s₀ t) := by
  by_cases hc : c <;> simp [hc]

theorem keepsOut_ite (c : Prop) [Decidable c] (a b : Host.Outcome State Fault Refusal) :
    KeepsOut s₀ (if c then a else b) ↔ (c → KeepsOut s₀ a) ∧ (¬c → KeepsOut s₀ b) := by
  by_cases hc : c <;> simp [hc]

theorem each_keeps {α : Type} (l : List α) {f : State → α → State} (h : Keeps s₀ s)
    (hf : ∀ s x, Keeps s₀ s → Keeps s₀ (f s x)) : Keeps s₀ (each l f s) := by
  unfold each
  induction l generalizing s with
  | nil => exact h
  | cons a t ih => exact ih (hf _ _ h)

theorem foldl_keeps {α β : Type} (l : List α) {f : β × State → α → β × State} {b : β × State} (h : Keeps s₀ b.2)
    (hf : ∀ b x, Keeps s₀ b.2 → Keeps s₀ (f b x).2) : Keeps s₀ (l.foldl f b).2 := by
  induction l generalizing b with
  | nil => exact h
  | cons a t ih => exact ih (hf _ _ h)

/-! ### The named updates -/

theorem State.modCell_keeps (h : Keeps s₀ s) (k : Cell) (f : CellPath → CellPath) : Keeps s₀ (s.modCell k f) := ⟨h.pending, h.free, h.out, h.mem⟩
theorem State.modMeas_keeps (h : Keeps s₀ s) (k : Cell) (f : CellMeas → CellMeas) : Keeps s₀ (s.modMeas k f) := ⟨h.pending, h.free, h.out, h.mem⟩
theorem State.modTemp_keeps (h : Keeps s₀ s) (k : Cell) (f : CellTemp → CellTemp) : Keeps s₀ (s.modTemp k f) := ⟨h.pending, h.free, h.out, h.mem⟩
theorem State.modAna_keeps (h : Keeps s₀ s) (k : Cell) (f : CellAna → CellAna) : Keeps s₀ (s.modAna k f) := ⟨h.pending, h.free, h.out, h.mem⟩
theorem State.modLink_keeps (h : Keeps s₀ s) (g : Seg) (f : Link → Link) : Keeps s₀ (s.modLink g f) := ⟨h.pending, h.free, h.out, h.mem⟩
theorem State.modChk_keeps (h : Keeps s₀ s) (c : Fin 4) (f : Chk → Chk) : Keeps s₀ (s.modChk c f) := ⟨h.pending, h.free, h.out, h.mem⟩
theorem State.modPlay_keeps (h : Keeps s₀ s) (f : Player → Player) : Keeps s₀ (s.modPlay f) := ⟨h.pending, h.free, h.out, h.mem⟩
theorem State.modSpc_keeps (h : Keeps s₀ s) (f : Spc → Spc) : Keeps s₀ (s.modSpc f) := ⟨h.pending, h.free, h.out, h.mem⟩
theorem State.modGlb_keeps (h : Keeps s₀ s) (f : Glb → Glb) : Keeps s₀ (s.modGlb f) := ⟨h.pending, h.free, h.out, h.mem⟩
theorem State.modPwr_keeps (h : Keeps s₀ s) (f : Pwr → Pwr) : Keeps s₀ (s.modPwr f) := ⟨h.pending, h.free, h.out, h.mem⟩
theorem State.modLoop_keeps (h : Keeps s₀ s) (f : Loop → Loop) : Keeps s₀ (s.modLoop f) := ⟨h.pending, h.free, h.out, h.mem⟩
theorem State.modHost_keeps (h : Keeps s₀ s) (f : HostPort → HostPort) : Keeps s₀ (s.modHost f) := ⟨h.pending, h.free, h.out, h.mem⟩
theorem State.modFlt_keeps (h : Keeps s₀ s) (f : Flt → Flt) : Keeps s₀ (s.modFlt f) := ⟨h.pending, h.free, h.out, h.mem⟩
theorem State.modBist_keeps (h : Keeps s₀ s) (f : Bist → Bist) : Keeps s₀ (s.modBist f) := ⟨h.pending, h.free, h.out, h.mem⟩
theorem State.modShunts_keeps (h : Keeps s₀ s) (f : Meas → Meas) : Keeps s₀ (s.modShunts f) := ⟨h.pending, h.free, h.out, h.mem⟩
theorem State.modRes_keeps (h : Keeps s₀ s) (f : Ana → Ana) : Keeps s₀ (s.modRes f) := ⟨h.pending, h.free, h.out, h.mem⟩
theorem State.modTherm_keeps (h : Keeps s₀ s) (f : Therm → Therm) : Keeps s₀ (s.modTherm f) := ⟨h.pending, h.free, h.out, h.mem⟩
theorem State.modTu_keeps (h : Keeps s₀ s) (f : TimeUnit → TimeUnit) : Keeps s₀ (s.modTu f) := ⟨h.pending, h.free, h.out, h.mem⟩
theorem State.modAcc_keeps (h : Keeps s₀ s) (f : Accord → Accord) : Keeps s₀ (s.modAcc f) := ⟨h.pending, h.free, h.out, h.mem⟩
theorem State.modPhase_keeps (h : Keeps s₀ s) (p : Phase) (f : PhaseSt → PhaseSt) : Keeps s₀ (s.modPhase p f) := ⟨h.pending, h.free, h.out, h.mem⟩
theorem State.modPort_keeps (h : Keeps s₀ s) (p : Port) (f : PortSt → PortSt) : Keeps s₀ (s.modPort p f) := ⟨h.pending, h.free, h.out, h.mem⟩
theorem State.setPins_keeps (h : Keeps s₀ s) (x : Pins) : Keeps s₀ (s.setPins x) := ⟨h.pending, h.free, h.out, h.mem⟩
theorem State.putCells_keeps (h : Keeps s₀ s) (x : Vec CellPath 256) : Keeps s₀ (s.putCells x) := ⟨h.pending, h.free, h.out, h.mem⟩
theorem State.setMeas_keeps (h : Keeps s₀ s) (x : Vec CellMeas 256) : Keeps s₀ (s.setMeas x) := ⟨h.pending, h.free, h.out, h.mem⟩
theorem State.setTemps_keeps (h : Keeps s₀ s) (x : Vec CellTemp 256) : Keeps s₀ (s.setTemps x) := ⟨h.pending, h.free, h.out, h.mem⟩
theorem State.setAna_keeps (h : Keeps s₀ s) (x : Vec CellAna 256) : Keeps s₀ (s.setAna x) := ⟨h.pending, h.free, h.out, h.mem⟩
theorem State.setLinks_keeps (h : Keeps s₀ s) (x : Vec Link 16) : Keeps s₀ (s.setLinks x) := ⟨h.pending, h.free, h.out, h.mem⟩
theorem State.setNow_keeps (h : Keeps s₀ s) (x : Nat) : Keeps s₀ (s.setNow x) := ⟨h.pending, h.free, h.out, h.mem⟩
theorem State.tick_keeps (h : Keeps s₀ s) : Keeps s₀ s.tick := ⟨h.pending, h.free, h.out, h.mem⟩
theorem State.setStop_keeps (h : Keeps s₀ s) (x : Option Origin) : Keeps s₀ (s.setStop x) := ⟨h.pending, h.free, h.out, h.mem⟩
theorem State.enter_keeps (h : Keeps s₀ s) (m : ModState) : Keeps s₀ (s.enter m) := ⟨h.pending, h.free, h.out, h.mem⟩
theorem State.emit_keeps (h : Keeps s₀ s) (x : Output) : Keeps s₀ (s.emit x) :=
  ⟨h.pending, h.free, h.out.trans (List.suffix_cons _ _), h.mem⟩
theorem State.freeBits_keeps (h : Keeps s₀ s) : Keeps s₀ s.freeBits.2 :=
  ⟨h.pending, Nat.le_succ_of_le h.free, h.out, h.mem⟩
theorem State.freeBool_keeps (h : Keeps s₀ s) : Keeps s₀ s.freeBool.2 :=
  ⟨h.pending, Nat.le_succ_of_le h.free, h.out, h.mem⟩

/-- Memory's form from its three parts. -/
theorem Memory.wf_iff (s : State) : Memory.wf s = true ↔
    Sparse.wf resetOf s.regs = true ∧ Sparse.wf erased s.nvm.flash = true ∧
      ∀ x ∈ s.segs.toList, Sparse.wf resetOf x.win = true := by
  simp [Memory.wf, and_assoc]

theorem State.store_keeps (h : Keeps s₀ s) (off : Nat) (w : Word) : Keeps s₀ (s.store off w) :=
  ⟨h.pending, h.free, h.out, fun m => by
    have := (Memory.wf_iff s).1 (h.mem m)
    exact (Memory.wf_iff _).2 ⟨Sparse.put_wf resetOf s.regs off w this.1, this.2.1, this.2.2⟩⟩

theorem State.setFld_keeps (h : Keeps s₀ s) (f : Field) (v : Nat) : Keeps s₀ (s.setFld f v) :=
  State.store_keeps h _ _

theorem Vec.set_mem {α : Type} {n : Nat} (v : Vec α n) (i : Fin n) (a x : α) (hx : x ∈ (v.set i a).toList) :
    x = a ∨ x ∈ v.toList := by
  simp only [Vec.set] at hx
  rcases List.mem_or_eq_of_mem_set hx with h | h
  · exact .inr h
  · exact .inl h

theorem Vec.get_mem {α : Type} {n : Nat} (v : Vec α n) (i : Fin n) : v.get i ∈ v.toList := List.getElem_mem _

/-- A segment is changed so that its window keeps its form. -/
theorem State.modSeg_keepsWf (h : Keeps s₀ s) (g : Seg) (f : Segment → Segment)
    (hf : ∀ x, Sparse.wf resetOf x.win = true → Sparse.wf resetOf (f x).win = true) : Keeps s₀ (s.modSeg g f) :=
  ⟨h.pending, h.free, h.out, fun m => by
    have hm := (Memory.wf_iff s).1 (h.mem m)
    refine (Memory.wf_iff _).2 ⟨hm.1, hm.2.1, fun x hx => ?_⟩
    rcases Vec.set_mem _ _ _ _ hx with rfl | hx
    · exact hf _ (hm.2.2 _ (Vec.get_mem _ _))
    · exact hm.2.2 _ hx⟩

/-- A segment is changed but not its window. -/
theorem State.modSeg_keeps (h : Keeps s₀ s) (g : Seg) (f : Segment → Segment) (hf : ∀ x, (f x).win = x.win) :
    Keeps s₀ (s.modSeg g f) :=
  State.modSeg_keepsWf h g f (fun x hx => by rw [hf]; exact hx)

/-- The storage is changed so that flash keeps its form. -/
theorem State.modNvm_keepsWf (h : Keeps s₀ s) (f : Nvm → Nvm)
    (hf : Sparse.wf erased s.nvm.flash = true → Sparse.wf erased (f s.nvm).flash = true) : Keeps s₀ (s.modNvm f) :=
  ⟨h.pending, h.free, h.out, fun m => by
    have hm := (Memory.wf_iff s).1 (h.mem m)
    exact (Memory.wf_iff _).2 ⟨hm.1, hf hm.2.1, hm.2.2⟩⟩

/-- The storage is changed but not the flash. -/
theorem State.modNvm_keeps (h : Keeps s₀ s) (f : Nvm → Nvm) (hf : (f s.nvm).flash = s.nvm.flash) :
    Keeps s₀ (s.modNvm f) :=
  State.modNvm_keepsWf h f (fun hx => by rw [hf]; exact hx)

theorem State.setRegs_keeps (h : Keeps s₀ s) (p : Nat × Word → Bool) : Keeps s₀ (s.setRegs (s.regs.filter p)) :=
  ⟨h.pending, h.free, h.out, fun m => by
    have hm := (Memory.wf_iff s).1 (h.mem m)
    exact (Memory.wf_iff _).2 ⟨Sparse.filter_wf resetOf p s.regs hm.1, hm.2.1, hm.2.2⟩⟩

/-- Every segment is changed but not its window. -/
theorem State.setSegs_keeps (h : Keeps s₀ s) (f : Segment → Segment) (hf : ∀ x, (f x).win = x.win) :
    Keeps s₀ (s.setSegs (s.segs.map f)) :=
  ⟨h.pending, h.free, h.out, fun m => by
    have hm := (Memory.wf_iff s).1 (h.mem m)
    refine (Memory.wf_iff _).2 ⟨hm.1, hm.2.1, fun x hx => ?_⟩
    simp only [State.setSegs, Vec.map, List.mem_map] at hx
    obtain ⟨y, hy, rfl⟩ := hx
    rw [hf]
    exact hm.2.2 y hy⟩

end Sys2Proof.Machine
end

