-- ==== Sys2Proof/Laws/Fields.lean ====
section
/-!
SUPPORT. Reading a register field after it, or another register, has been written.
-/

namespace Sys2Proof.Machine

/-- A field of a register's contents reads as written. -/
theorem fieldOf_withField (f : Field) (w : Word) (v : Nat) (h : f.lo + f.width ≤ 32) :
    fieldOf f (withField f w v) = v % 2 ^ f.width := by
  obtain ⟨off, lo, width⟩ := f
  simp only at h
  simp only [fieldOf, withField]
  have hp : 0 < 2 ^ lo := Nat.two_pow_pos lo
  have hq : 0 < 2 ^ width := Nat.two_pow_pos width
  generalize hP : 2 ^ lo = P at *
  generalize hQ : 2 ^ width = Q at *
  have hw := w.isLt
  generalize w.toNat = n at *
  have e1 : n = P * (n / P) + n % P := (Nat.div_add_mod n P).symm
  have e2 : n / P = Q * (n / P / Q) + n / P % Q := (Nat.div_add_mod _ Q).symm
  generalize ha : n / P / Q = a at *
  generalize hb : n / P % Q = b at *
  generalize hc : n % P = c at *
  have hcP : c < P := by rw [← hc]; exact Nat.mod_lt _ hp
  have hvQ : v % Q < Q := Nat.mod_lt _ hq
  generalize hx : v % Q = x at *
  have en : n = P * (Q * a + b) + c := by rw [← e2]; exact e1
  have hm : n - b * P + x * P = P * (Q * a + x) + c := by
    rw [en]
    have : P * (Q * a + b) + c = P * (Q * a) + b * P + c := by ring
    rw [this]
    have : P * (Q * a + x) + c = P * (Q * a) + c + x * P := by ring
    rw [this]
    omega
  have hlt : P * (Q * a + x) + c < 2 ^ 32 := by
    have h32 : P * Q * 2 ^ (32 - (lo + width)) = 2 ^ 32 := by
      rw [← hP, ← hQ, ← Nat.pow_add, ← Nat.pow_add]
      congr 1
      omega
    have hPQ : 0 < P * Q := Nat.mul_pos hp hq
    have ha' : a < 2 ^ (32 - (lo + width)) := by
      by_contra hge
      have hge : 2 ^ (32 - (lo + width)) ≤ a := by omega
      have := Nat.mul_le_mul_left (P * Q) hge
      rw [h32] at this
      have e3 : P * Q * a ≤ n := by
        rw [en]
        have : P * (Q * a + b) + c = P * Q * a + (P * b + c) := by ring
        omega
      omega
    have e4 : P * (Q * a + x) + c < P * Q * (a + 1) := by
      have h1 : P * (Q * a + x) + P ≤ P * (Q * a + Q) := by
        have : Q * a + x + 1 ≤ Q * a + Q := by omega
        calc P * (Q * a + x) + P = P * (Q * a + x + 1) := by ring
          _ ≤ P * (Q * a + Q) := Nat.mul_le_mul_left P this
      have h2 : P * (Q * a + Q) = P * Q * (a + 1) := by ring
      omega
    have e5 := Nat.mul_le_mul_left (P * Q) ha'
    rw [h32] at e5
    exact Nat.lt_of_lt_of_le e4 e5
  rw [hm, BitVec.toNat_ofNat, Nat.mod_eq_of_lt hlt]
  have e6 : (P * (Q * a + x) + c) / P = Q * a + x := by
    rw [Nat.mul_add_div hp, Nat.div_eq_of_lt hcP, Nat.add_zero]
  rw [e6, Nat.mul_add_mod, Nat.mod_eq_of_lt hvQ]

/-- A register reads as written, another as before. -/
theorem State.stored_store (s : State) (a b : Nat) (w : Word) (h : Sparse.wf resetOf s.regs = true) :
    (s.store a w).stored b = if a = b then w else s.stored b :=
  Sparse.get_put resetOf s.regs a b 0 w h

theorem State.fld_setFld (s : State) (f : Field) (v : Nat) (hf : f.lo + f.width ≤ 32)
    (h : Sparse.wf resetOf s.regs = true) : (s.setFld f v).fld f = v % 2 ^ f.width := by
  simp only [State.fld, State.setFld]
  rw [State.stored_store _ _ _ _ h, if_pos rfl, fieldOf_withField f _ v hf]

/-- A field of another register reads as before. -/
theorem State.fld_setFld_ne (s : State) (f e : Field) (v : Nat) (hne : f.off ≠ e.off)
    (h : Sparse.wf resetOf s.regs = true) : (s.setFld f v).fld e = s.fld e := by
  simp only [State.fld, State.setFld]
  rw [State.stored_store _ _ _ _ h, if_neg hne]

theorem Memory.wf_regs {s : State} (h : Memory.wf s = true) : Sparse.wf resetOf s.regs = true :=
  ((Memory.wf_iff s).1 h).1

end Sys2Proof.Machine
end

