-- ==== Sys2Proof/Laws/KeepsDeliver.lean ====
section
/-!
SUPPORT. What the operations of Machine/Deliver.lean keep: the queue, what has left, the free values, canonical memory.
-/

namespace Sys2Proof.Machine

theorem State.startFrame_keeps {s₀ s : State} (h : Keeps s₀ s) (p : Port) (x : TxFrame) :
    Keeps s₀ (State.startFrame s p x) := by
  unfold State.startFrame
  (try dsimp only)
  repeat' first | with_reducible assumption | (with_reducible first | apply State.emit_keeps | apply State.modPort_keeps) | split | rfl | intro _ | dsimp only | assumption

theorem State.startAgain_keeps {s₀ s : State} (h : Keeps s₀ s) (p : Port) (x : TxFrame) :
    Keeps s₀ (State.startAgain s p x) := by
  unfold State.startAgain
  (try dsimp only)
  repeat' first | with_reducible assumption | (with_reducible first | apply State.emit_keeps | apply State.modPort_keeps) | split | rfl | intro _ | dsimp only | assumption

theorem State.sendInside_keeps {s₀ s : State} (h : Keeps s₀ s) (p : Port) (x : TxFrame) (t : TxNow) (n : Nat) :
    Keeps s₀ (State.sendInside s p x t n) := by
  unfold State.sendInside
  (try dsimp only)
  repeat' first | with_reducible assumption | (with_reducible first | apply State.emit_keeps | apply State.modPort_keeps) | split | rfl | intro _ | dsimp only | assumption

theorem State.serve_keeps {s₀ s : State} (h : Keeps s₀ s) (p : Port) :
    Keeps s₀ (State.serve s p) := by
  unfold State.serve
  (try dsimp only)
  repeat' first | with_reducible assumption | (with_reducible first | apply State.modPort_keeps | apply State.startFrame_keeps | apply State.startAgain_keeps | apply State.sendInside_keeps) | split | rfl | intro _ | dsimp only | assumption

theorem State.enqueue_keeps {s₀ s : State} (h : Keeps s₀ s) (p : Port) (x : TxFrame) :
    Keeps s₀ (State.enqueue s p x) := by
  unfold State.enqueue
  (try dsimp only)
  repeat' first | with_reducible assumption | (with_reducible first | apply State.modPort_keeps | apply State.serve_keeps) | split | rfl | intro _ | dsimp only | assumption

theorem State.sendFrame_keeps {s₀ s : State} (h : Keeps s₀ s) (p : Port) (own : Bool) (f : Frame) :
    Keeps s₀ (State.sendFrame s p own f) := by
  unfold State.sendFrame
  (try dsimp only)
  repeat' first | with_reducible assumption | (with_reducible first | apply State.enqueue_keeps) | split | rfl | intro _ | dsimp only | assumption

theorem State.ackPort_keeps {s₀ s : State} (h : Keeps s₀ s) (p : Port) (lack : Nat) :
    Keeps s₀ (State.ackPort s p lack) := by
  unfold State.ackPort
  (try dsimp only)
  repeat' first | with_reducible assumption | (with_reducible first | apply State.modPort_keeps | apply State.serve_keeps) | split | rfl | intro _ | dsimp only | assumption

theorem State.toHead_keeps {s₀ s : State} (h : Keeps s₀ s) (ftype : Nat) (head : Bool) (info : Nat) (payload : List Byte) :
    Keeps s₀ (State.toHead s ftype head info payload) := by
  unfold State.toHead
  (try dsimp only)
  repeat' first | with_reducible assumption | (with_reducible first | apply State.sendFrame_keeps) | split | rfl | intro _ | dsimp only | assumption

theorem State.msix_keeps {s₀ s : State} (h : Keeps s₀ s) (v : Nat) :
    Keeps s₀ (State.msix s v) := by
  unfold State.msix
  (try dsimp only)
  repeat' first | with_reducible assumption | (with_reducible first | apply State.emit_keeps) | split | rfl | intro _ | dsimp only | assumption

theorem State.placeEntry_keepsEq {s₀ s t : State} {n : Fin 4} {bytes : List Byte} {what : Placed}
    (e : s.placeEntry n bytes what = some t) (h : Keeps s₀ s) : Keeps s₀ t := by
  unfold State.placeEntry at e
  dsimp only at e
  split at e
  · rw [← Option.some.inj e]
    repeat' first | with_reducible assumption | with_reducible first | apply State.msix_keeps | apply State.modHost_keeps | apply State.emit_keeps | split
  · simp at e


theorem State.notice_keeps {s₀ s : State} (h : Keeps s₀ s) (subtype position : Nat) (c10 c1a c20 : List Byte) :
    Keeps s₀ (State.notice s subtype position c10 c1a c20) := by
  unfold State.notice
  (try dsimp only)
  repeat' first | with_reducible assumption | (with_reducible first | apply State.modHost_keeps) | split | rfl | intro _ | refine State.placeEntry_keepsEq (by assumption) ?_ | dsimp only | assumption

theorem State.sweepNotice_keeps {s₀ s : State} (h : Keeps s₀ s) (id position records : Nat) (done_ : Bool) :
    Keeps s₀ (State.sweepNotice s id position records done_) := by
  unfold State.sweepNotice
  (try dsimp only)
  repeat' first | with_reducible assumption | (with_reducible first | apply State.notice_keeps) | split | rfl | intro _ | dsimp only | assumption

theorem State.sweepPlaced_keeps {s₀ s : State} (h : Keeps s₀ s) (id position : Nat) :
    Keeps s₀ (State.sweepPlaced s id position) := by
  unfold State.sweepPlaced
  (try dsimp only)
  repeat' first | with_reducible assumption | (with_reducible first | apply State.modLoop_keeps | apply State.sweepNotice_keeps) | split | rfl | intro _ | dsimp only | assumption

theorem State.sweepEnded_keeps {s₀ s : State} (h : Keeps s₀ s) (id position records : Nat) :
    Keeps s₀ (State.sweepEnded s id position records) := by
  unfold State.sweepEnded
  (try dsimp only)
  repeat' first | with_reducible assumption | (with_reducible first | apply State.modLoop_keeps | apply State.sweepNotice_keeps) | split | rfl | intro _ | dsimp only | assumption

theorem State.writeCpl_keeps {s₀ s : State} (h : Keeps s₀ s) (c : Cpl) :
    Keeps s₀ (State.writeCpl s c) := by
  unfold State.writeCpl
  (try dsimp only)
  repeat' first | with_reducible assumption | (with_reducible first | apply State.emit_keeps | apply State.modHost_keeps | apply State.msix_keeps) | split | rfl | intro _ | dsimp only | assumption

theorem State.putCpl_keeps {s₀ s : State} (h : Keeps s₀ s) (c : Cpl) :
    Keeps s₀ (State.putCpl s c) := by
  unfold State.putCpl
  (try dsimp only)
  repeat' first | with_reducible assumption | (with_reducible first | apply State.writeCpl_keeps | apply State.modHost_keeps) | split | rfl | intro _ | dsimp only | assumption

theorem State.flushCpl_keeps {s₀ s : State} (h : Keeps s₀ s) (n : Nat) : Keeps s₀ (State.flushCpl n s) := by
  induction n generalizing s with
  | zero => exact h
  | succ n ih =>
    unfold State.flushCpl
    repeat' first | with_reducible assumption | with_reducible first | apply ih | apply State.writeCpl_keeps | apply State.modHost_keeps | split


theorem State.completeTag_keeps {s₀ s : State} (h : Keeps s₀ s) (tag position : Nat) (r : Result) (extra : BitVec 8) (bc : BcFigures) :
    Keeps s₀ (State.completeTag s tag position r extra bc) := by
  unfold State.completeTag
  (try dsimp only)
  repeat' first | with_reducible assumption | (with_reducible first | apply State.emit_keeps | apply State.putCpl_keeps) | split | rfl | intro _ | dsimp only | assumption

theorem State.reply_keeps {s₀ s : State} (h : Keeps s₀ s) (o : Origin) (op : Nat) (r : Result) :
    Keeps s₀ (State.reply s o op r) := by
  unfold State.reply
  (try dsimp only)
  repeat' first | with_reducible assumption | (with_reducible first | apply State.completeTag_keeps | apply State.toHead_keeps) | split | rfl | intro _ | dsimp only | assumption

theorem State.replyLate_keeps {s₀ s : State} (h : Keeps s₀ s) (o : Origin) (op : Nat) (r : Result) :
    Keeps s₀ (State.replyLate s o op r) := by
  unfold State.replyLate
  (try dsimp only)
  repeat' first | with_reducible assumption | (with_reducible first | apply State.modLoop_keeps | apply State.reply_keeps) | split | rfl | intro _ | dsimp only | assumption

theorem State.modSlot_keeps {s₀ s : State} (h : Keeps s₀ s) (i : Nat) (f : Slot → Slot) :
    Keeps s₀ (State.modSlot s i f) := by
  unfold State.modSlot
  (try dsimp only)
  repeat' first | with_reducible assumption | (with_reducible first | apply State.modRes_keeps) | split | rfl | intro _ | dsimp only | assumption

theorem State.deliverSlot_keeps {s₀ s : State} (h : Keeps s₀ s) (i : Nat) :
    Keeps s₀ (State.deliverSlot s i) := by
  unfold State.deliverSlot
  (try dsimp only)
  repeat' first | with_reducible assumption | (with_reducible first | apply State.modSlot_keeps | apply State.sweepPlaced_keeps | apply State.toHead_keeps) | split | rfl | intro _ | refine State.placeEntry_keepsEq (by assumption) ?_ | dsimp only | assumption

theorem State.putRecord_keeps {s₀ s : State} (h : Keeps s₀ s) (kind : Nat) (flags : BitVec 8) (cell dist time sweepId : Nat) (payload : List Byte) :
    Keeps s₀ (State.putRecord s kind flags cell dist time sweepId payload) := by
  unfold State.putRecord
  (try dsimp only)
  repeat' first | with_reducible assumption | (with_reducible first | apply State.modRes_keeps | apply State.deliverSlot_keeps) | split | rfl | intro _ | dsimp only | assumption

theorem State.endEpisode_keeps {s₀ s : State} (h : Keeps s₀ s) :
    Keeps s₀ (State.endEpisode s) := by
  unfold State.endEpisode
  (try dsimp only)
  repeat' first | with_reducible assumption | (with_reducible first | apply State.modRes_keeps) | split | rfl | intro _ | dsimp only | assumption

end Sys2Proof.Machine
end

