-- ==== Sys2Proof/Laws/KeepsJtag.lean ====
section
/-!
SUPPORT. What the operations of Machine/Jtag.lean keep: the queue, what has left, the free values, canonical memory.
-/

namespace Sys2Proof.Machine

theorem State.capturePins_keeps {s₀ s : State} (h : Keeps s₀ s) :
    Keeps s₀ (State.capturePins s).2 := by
  unfold State.capturePins
  (try dsimp only)
  repeat' first | with_reducible assumption | (with_reducible first | apply State.freeBool_keeps | apply foldl_keeps) | split | rfl | intro _ | dsimp only | assumption

theorem State.capturePins_keepsEq {s₀ s u₁ : State} {a₁} 
    (e : State.capturePins s = (a₁, u₁)) (h : Keeps s₀ s) : Keeps s₀ u₁ := by
  have k := State.capturePins_keeps h 
  rw [e] at k
  exact k

theorem State.captureDr_keeps {s₀ s : State} (h : Keeps s₀ s) :
    Keeps s₀ (State.captureDr s).2 := by
  unfold State.captureDr
  (try dsimp only)
  repeat' first | with_reducible assumption | (with_reducible first | apply State.capturePins_keeps) | split | rfl | intro _ | refine State.capturePins_keepsEq (by assumption) ?_ | dsimp only | assumption

theorem State.captureDr_keepsEq {s₀ s u₁ : State} {a₁} 
    (e : State.captureDr s = (a₁, u₁)) (h : Keeps s₀ s) : Keeps s₀ u₁ := by
  have k := State.captureDr_keeps h 
  rw [e] at k
  exact k

theorem State.modJtag_keeps {s₀ s : State} (h : Keeps s₀ s) (f : Jtag → Jtag) :
    Keeps s₀ (State.modJtag s f) := by
  unfold State.modJtag
  (try dsimp only)
  repeat' first | with_reducible assumption | (with_reducible first | apply State.setPins_keeps) | split | rfl | intro _ | dsimp only | assumption

theorem State.tckEdge_keeps {s₀ s : State} (h : Keeps s₀ s) (tms tdi : Bool) :
    Keeps s₀ (State.tckEdge s tms tdi) := by
  unfold State.tckEdge
  (try dsimp only)
  repeat' first | with_reducible assumption | (with_reducible first | apply State.modJtag_keeps | apply State.captureDr_keeps) | split | rfl | intro _ | refine State.captureDr_keepsEq (by assumption) ?_ | dsimp only | assumption

theorem State.jtagTick_keeps {s₀ s : State} (h : Keeps s₀ s) :
    Keeps s₀ (State.jtagTick s) := by
  unfold State.jtagTick
  (try dsimp only)
  repeat' first | with_reducible assumption | (with_reducible first | apply State.modJtag_keeps | apply State.tckEdge_keeps) | split | rfl | intro _ | dsimp only | assumption

theorem State.idleTick_keeps {s₀ s : State} (h : Keeps s₀ s) :
    Keeps s₀ (State.idleTick s) := by
  unfold State.idleTick
  (try dsimp only)
  repeat' first | with_reducible assumption | (with_reducible first | apply State.tick_keeps | apply State.serve_keeps | apply State.jtagTick_keeps) | split | rfl | intro _ | dsimp only | assumption

end Sys2Proof.Machine
end

