-- ==== Sys2Proof/Laws/KeepsSpan.lean ====
section
/-!
SUPPORT. What the operations of Machine/Span.lean keep: the queue, what has left, the free values, canonical memory.
-/

namespace Sys2Proof.Machine

theorem State.pushDown_keeps {s₀ s : State} (h : Keeps s₀ s) (g : Seg) (m : DownMsg) :
    Keeps s₀ (State.pushDown s g m) := by
  unfold State.pushDown
  (try dsimp only)
  repeat' first | with_reducible assumption | (with_reducible first | apply State.modLink_keeps) | split | rfl | intro _ | dsimp only | assumption

theorem State.sendDown_keeps {s₀ s : State} (h : Keeps s₀ s) (g : Seg) (m : DownMsg) :
    Keeps s₀ (State.sendDown s g m) := by
  unfold State.sendDown
  (try dsimp only)
  repeat' first | with_reducible assumption | (with_reducible first | apply State.modLink_keeps | apply State.pushDown_keeps) | split | rfl | intro _ | dsimp only | assumption

theorem State.sendUp_keeps {s₀ s : State} (h : Keeps s₀ s) (g : Seg) (m : UpMsg) :
    Keeps s₀ (State.sendUp s g m) := by
  unfold State.sendUp
  (try dsimp only)
  repeat' first | with_reducible assumption | (with_reducible first | apply State.modLink_keeps) | split | rfl | intro _ | dsimp only | assumption

theorem State.startTimer_keeps {s₀ s : State} (h : Keeps s₀ s) (g : Seg) :
    Keeps s₀ (State.startTimer s g) := by
  unfold State.startTimer
  (try dsimp only)
  repeat' first | with_reducible assumption | (with_reducible first | apply State.freeBits_keeps | apply State.modSeg_keeps) | split | rfl | intro _ | dsimp only | assumption

theorem State.compareTimer_keeps {s₀ s : State} (h : Keeps s₀ s) (g : Seg) :
    Keeps s₀ (State.compareTimer s g) := by
  unfold State.compareTimer
  (try dsimp only)
  repeat' first | with_reducible assumption | (with_reducible first | apply State.modLink_keeps | apply State.modSeg_keeps) | split | rfl | intro _ | dsimp only | assumption

theorem State.segReport_keeps {s₀ s : State} (h : Keeps s₀ s) (g : Seg) (r : Report) :
    Keeps s₀ (State.segReport s g r) := by
  unfold State.segReport
  (try dsimp only)
  repeat' first | with_reducible assumption | (with_reducible first | apply State.sendUp_keeps | apply State.modLink_keeps) | split | rfl | intro _ | dsimp only | assumption

end Sys2Proof.Machine
end

