-- ==== Sys2Proof/Laws/KeepsDisturb.lean ====
section
/-!
SUPPORT. What the operations of Machine/Disturb.lean keep: the queue, what has left, the free values, canonical memory.
-/

namespace Sys2Proof.Machine

theorem State.askRestart_keeps {s₀ s : State} (h : Keeps s₀ s) :
    Keeps s₀ (State.askRestart s) := by
  unfold State.askRestart
  (try dsimp only)
  repeat' first | with_reducible assumption | (with_reducible first | apply State.setMeas_keeps) | split | rfl | intro _ | dsimp only | assumption

theorem State.countDist_keeps {s₀ s : State} (h : Keeps s₀ s) (k : Cell) (a b : Nat) :
    Keeps s₀ (State.countDist s k a b) := by
  unfold State.countDist
  (try dsimp only)
  repeat' first | with_reducible assumption | (with_reducible first | apply State.modMeas_keeps | apply State.modShunts_keeps) | split | rfl | intro _ | dsimp only | assumption

theorem State.disturb_keeps {s₀ s : State} (h : Keeps s₀ s) (k : Cell) (a b : Nat) :
    Keeps s₀ (State.disturb s k a b) := by
  unfold State.disturb
  (try dsimp only)
  repeat' first | with_reducible assumption | (with_reducible first | apply State.modMeas_keeps | apply State.countDist_keeps) | split | rfl | intro _ | dsimp only | assumption

theorem State.neighbourMoved_keeps {s₀ s : State} (h : Keeps s₀ s) (k : Cell) (a b : Nat) :
    Keeps s₀ (State.neighbourMoved s k a b) := by
  unfold State.neighbourMoved
  (try dsimp only)
  repeat' first | with_reducible assumption | (with_reducible first | apply State.modMeas_keeps) | split | rfl | intro _ | dsimp only | assumption

theorem State.disturbNear_keeps {s₀ s : State} (h : Keeps s₀ s) (k : Cell) (a b : Nat) :
    Keeps s₀ (State.disturbNear s k a b) := by
  unfold State.disturbNear
  (try dsimp only)
  repeat' first | with_reducible assumption | (with_reducible first | apply State.disturb_keeps | apply State.neighbourMoved_keeps | apply each_keeps) | split | rfl | intro _ | dsimp only | assumption

theorem State.disturbOpen_keeps {s₀ s : State} (h : Keeps s₀ s) (k : Cell) :
    Keeps s₀ (State.disturbOpen s k) := by
  unfold State.disturbOpen
  (try dsimp only)
  repeat' first | with_reducible assumption | (with_reducible first | apply State.disturbNear_keeps) | split | rfl | intro _ | dsimp only | assumption

end Sys2Proof.Machine
end

