-- ==== Sys2Proof/Laws/KeepsSpc.lean ====
section
/-!
SUPPORT. What the operations of Machine/Spc.lean keep: the queue, what has left, the free values, canonical memory.
-/

namespace Sys2Proof.Machine

theorem State.recentre_keeps {s₀ s : State} (h : Keeps s₀ s) :
    Keeps s₀ (State.recentre s) := by
  unfold State.recentre
  (try dsimp only)
  repeat' first | with_reducible assumption | (with_reducible first | apply State.modSpc_keeps) | split | rfl | intro _ | dsimp only | assumption

theorem State.releasePhase_keeps {s₀ s : State} (h : Keeps s₀ s) (p : Phase) :
    Keeps s₀ (State.releasePhase s p) := by
  unfold State.releasePhase
  (try dsimp only)
  repeat' first | with_reducible assumption | (with_reducible first | apply State.modPhase_keeps) | split | rfl | intro _ | dsimp only | assumption

theorem State.addPhase_keeps {s₀ s : State} (h : Keeps s₀ s) :
    Keeps s₀ (State.addPhase s) := by
  unfold State.addPhase
  (try dsimp only)
  repeat' first | with_reducible assumption | (with_reducible first | apply State.modPhase_keeps | apply State.modSpc_keeps | apply State.recentre_keeps) | split | rfl | intro _ | dsimp only | assumption

theorem State.addPhases_keeps {s₀ s : State} (h : Keeps s₀ s) (n : Nat) : Keeps s₀ (State.addPhases n s) := by
  induction n generalizing s with
  | zero => exact h
  | succ n ih =>
    unfold State.addPhases
    repeat' first | with_reducible assumption | with_reducible first | apply ih | apply State.addPhase_keeps | split


theorem State.transmit_keeps {s₀ s : State} (h : Keeps s₀ s) (f : BitVec 64) :
    Keeps s₀ (State.transmit s f) := by
  unfold State.transmit
  (try dsimp only)
  repeat' first | with_reducible assumption | (with_reducible first | apply State.modSpc_keeps | apply State.emit_keeps) | split | rfl | intro _ | dsimp only | assumption

theorem State.stepOutIdle_keeps {s₀ s : State} (h : Keeps s₀ s) :
    Keeps s₀ (State.stepOutIdle s) := by
  unfold State.stepOutIdle
  (try dsimp only)
  repeat' first | with_reducible assumption | (with_reducible first | apply State.transmit_keeps) | split | rfl | intro _ | dsimp only | assumption

theorem State.sendAnswer_keeps {s₀ s : State} (h : Keeps s₀ s) (a : Answer) :
    Keeps s₀ (State.sendAnswer s a) := by
  unfold State.sendAnswer
  (try dsimp only)
  repeat' first | with_reducible assumption | (with_reducible first | apply State.modSpc_keeps | apply State.transmit_keeps) | split | rfl | intro _ | dsimp only | assumption

theorem State.answerLast_keeps {s₀ s : State} (h : Keeps s₀ s) (ack : Bool) (cause : Nat) :
    Keeps s₀ (State.answerLast s ack cause) := by
  unfold State.answerLast
  (try dsimp only)
  repeat' first | with_reducible assumption | (with_reducible first | apply State.modSpc_keeps | apply State.sendAnswer_keeps) | split | rfl | intro _ | dsimp only | assumption

theorem State.nakPending_keeps {s₀ s : State} (h : Keeps s₀ s) :
    Keeps s₀ (State.nakPending s) := by
  unfold State.nakPending
  (try dsimp only)
  repeat' first | with_reducible assumption | (with_reducible first | apply State.answerLast_keeps) | split | rfl | intro _ | dsimp only | assumption

theorem State.retarget_keeps {s₀ s : State} (h : Keeps s₀ s) (t : Int) :
    Keeps s₀ (State.retarget s t) := by
  unfold State.retarget
  (try dsimp only)
  repeat' first | with_reducible assumption | (with_reducible first | apply State.setAna_keeps) | split | rfl | intro _ | dsimp only | assumption

theorem State.stageOff_keeps {s₀ s : State} (h : Keeps s₀ s) :
    Keeps s₀ (State.stageOff s) := by
  unfold State.stageOff
  (try dsimp only)
  repeat' first | with_reducible assumption | (with_reducible first | apply State.modSpc_keeps | apply State.setPins_keeps) | split | rfl | intro _ | dsimp only | assumption

theorem State.inhibit_keeps {s₀ s : State} (h : Keeps s₀ s) (c : Nat) :
    Keeps s₀ (State.inhibit s c) := by
  unfold State.inhibit
  (try dsimp only)
  repeat' first | with_reducible assumption | (with_reducible first | apply State.modSpc_keeps | apply State.nakPending_keeps | apply State.retarget_keeps | apply State.stageOff_keeps) | split | rfl | intro _ | dsimp only | assumption

theorem State.endInhibit_keeps {s₀ s : State} (h : Keeps s₀ s) (c : Nat) :
    Keeps s₀ (State.endInhibit s c) := by
  unfold State.endInhibit
  (try dsimp only)
  repeat' first | with_reducible assumption | (with_reducible first | apply State.modSpc_keeps) | split | rfl | intro _ | dsimp only | assumption

theorem State.settleNoPhase_keeps {s₀ s : State} (h : Keeps s₀ s) :
    Keeps s₀ (State.settleNoPhase s) := by
  unfold State.settleNoPhase
  (try dsimp only)
  repeat' first | with_reducible assumption | (with_reducible first | apply State.endInhibit_keeps) | split | rfl | intro _ | dsimp only | assumption

theorem State.capacityChanged_keeps {s₀ s : State} (h : Keeps s₀ s) :
    Keeps s₀ (State.capacityChanged s) := by
  unfold State.capacityChanged
  (try dsimp only)
  repeat' first | with_reducible assumption | (with_reducible first | apply State.modSpc_keeps | apply State.recentre_keeps) | split | rfl | intro _ | dsimp only | assumption

theorem State.endToggle_keeps {s₀ s : State} (h : Keeps s₀ s) :
    Keeps s₀ (State.endToggle s) := by
  unfold State.endToggle
  (try dsimp only)
  repeat' first | with_reducible assumption | (with_reducible first | apply State.modPhase_keeps | apply State.modSpc_keeps | apply each_keeps) | split | rfl | intro _ | dsimp only | assumption

theorem State.finishShed_keeps {s₀ s : State} (h : Keeps s₀ s) :
    Keeps s₀ (State.finishShed s) := by
  unfold State.finishShed
  (try dsimp only)
  repeat' first | with_reducible assumption | (with_reducible first | apply State.releasePhase_keeps | apply each_keeps) | split | rfl | intro _ | dsimp only | assumption

theorem State.acceptFrame_keeps {s₀ s : State} (h : Keeps s₀ s) (f : BitVec 64) (external : Bool) :
    Keeps s₀ (State.acceptFrame s f external).1 := by
  unfold State.acceptFrame
  (try dsimp only)
  repeat' first | with_reducible assumption | (with_reducible first | apply State.retarget_keeps | apply State.modSpc_keeps | apply State.endToggle_keeps | apply State.finishShed_keeps | apply State.answerLast_keeps | apply State.setPins_keeps | apply State.addPhases_keeps) | split | rfl | intro _ | dsimp only | assumption

theorem State.acceptFrame_keepsEq {s₀ s u₁ : State} {a₁} {f : BitVec 64} {external : Bool}
    (e : State.acceptFrame s f external = (u₁, a₁)) (h : Keeps s₀ s) : Keeps s₀ u₁ := by
  have k := State.acceptFrame_keeps h f external
  rw [e] at k
  exact k

theorem State.judgeFrame_keeps {s₀ s : State} (h : Keeps s₀ s) (f : BitVec 64) (external : Bool) :
    Keeps s₀ (State.judgeFrame s f external).1 := by
  unfold State.judgeFrame
  (try dsimp only)
  repeat' first | with_reducible assumption | (with_reducible first | apply State.sendAnswer_keeps | apply State.modSpc_keeps | apply State.acceptFrame_keeps) | split | rfl | intro _ | refine State.acceptFrame_keepsEq (by assumption) ?_ | dsimp only | assumption

theorem State.judgeFrame_keepsEq {s₀ s u₁ : State} {a₁} {f : BitVec 64} {external : Bool}
    (e : State.judgeFrame s f external = (u₁, a₁)) (h : Keeps s₀ s) : Keeps s₀ u₁ := by
  have k := State.judgeFrame_keeps h f external
  rw [e] at k
  exact k

theorem State.stepValid_keeps {s₀ s : State} (h : Keeps s₀ s) :
    Keeps s₀ (State.stepValid s) := by
  unfold State.stepValid
  (try dsimp only)
  repeat' first | with_reducible assumption | (with_reducible first | apply State.modSpc_keeps) | split | rfl | intro _ | dsimp only | assumption

end Sys2Proof.Machine
end

