-- ==== Sys2Proof/Laws/KeepsCells.lean ====
section
/-!
SUPPORT. What the operations of Machine/Cells.lean keep: the queue, what has left, the free values, canonical memory.
-/

namespace Sys2Proof.Machine

theorem State.startSeq_keeps {s₀ s : State} (h : Keeps s₀ s) (k : Cell) (kind : SeqKind) (toIn : Bool) (target : PathState) (planned : Option Nat) (pairSlot : Nat) (late : Bool) :
    Keeps s₀ (State.startSeq s k kind toIn target planned pairSlot late) := by
  unfold State.startSeq
  (try dsimp only)
  repeat' first | with_reducible assumption | (with_reducible first | apply State.modCell_keeps) | split | rfl | intro _ | dsimp only | assumption

theorem State.commutate_keeps {s₀ s : State} (h : Keeps s₀ s) (k : Cell) (toIn : Bool) (target : PathState) (planned : Option Nat) (pairSlot : Nat) (late : Bool) :
    Keeps s₀ (State.commutate s k toIn target planned pairSlot late) := by
  unfold State.commutate
  (try dsimp only)
  repeat' first | with_reducible assumption | (with_reducible first | apply State.startSeq_keeps) | split | rfl | intro _ | dsimp only | assumption

theorem State.undo_keeps {s₀ s : State} (h : Keeps s₀ s) (k : Cell) (t : Transition) :
    Keeps s₀ (State.undo s k t) := by
  unfold State.undo
  (try dsimp only)
  repeat' first | with_reducible assumption | (with_reducible first | apply State.modCell_keeps) | split | rfl | intro _ | dsimp only | assumption

theorem State.park_keeps {s₀ s : State} (h : Keeps s₀ s) (k : Cell) (code : Nat) :
    Keeps s₀ (State.park s k code) := by
  unfold State.park
  (try dsimp only)
  repeat' first | with_reducible assumption | (with_reducible first | apply State.modCell_keeps | apply State.undo_keeps | apply State.disturbOpen_keeps | apply State.startSeq_keeps | apply State.commutate_keeps) | split | rfl | intro _ | dsimp only | assumption

theorem State.gateFailure_keeps {s₀ s : State} (h : Keeps s₀ s) (k : Cell) (step : Nat) :
    Keeps s₀ (State.gateFailure s k step) := by
  unfold State.gateFailure
  (try dsimp only)
  repeat' first | with_reducible assumption | (with_reducible first | apply State.modCell_keeps | apply State.startSeq_keeps | apply State.park_keeps | apply State.segReport_keeps) | split | rfl | intro _ | dsimp only | assumption

theorem State.beginHold_keeps {s₀ s : State} (h : Keeps s₀ s) (k : Cell) (f : CellPath → CellPath) :
    Keeps s₀ (State.beginHold s k f) := by
  unfold State.beginHold
  (try dsimp only)
  repeat' first | with_reducible assumption | (with_reducible first | apply State.modCell_keeps | apply State.commutate_keeps) | split | rfl | intro _ | dsimp only | assumption

theorem State.endHold_keeps {s₀ s : State} (h : Keeps s₀ s) (k : Cell) (f : CellPath → CellPath) :
    Keeps s₀ (State.endHold s k f) := by
  unfold State.endHold
  (try dsimp only)
  repeat' first | with_reducible assumption | (with_reducible first | apply State.modCell_keeps) | split | rfl | intro _ | dsimp only | assumption

theorem State.setHold_keeps {s₀ s : State} (h : Keeps s₀ s) (k : Cell) (on was : Bool) (f : Bool → CellPath → CellPath) :
    Keeps s₀ (State.setHold s k on was f) := by
  unfold State.setHold
  (try dsimp only)
  repeat' first | with_reducible assumption | (with_reducible first | apply State.beginHold_keeps | apply State.endHold_keeps) | split | rfl | intro _ | dsimp only | assumption

theorem State.parkSegment_keeps {s₀ s : State} (h : Keeps s₀ s) (g : Seg) (code : Nat) :
    Keeps s₀ (State.parkSegment s g code) := by
  unfold State.parkSegment
  (try dsimp only)
  repeat' first | with_reducible assumption | (with_reducible first | apply State.park_keeps | apply each_keeps) | split | rfl | intro _ | dsimp only | assumption

theorem State.leaveOpen_keeps {s₀ s : State} (h : Keeps s₀ s) (k : Cell) :
    Keeps s₀ (State.leaveOpen s k) := by
  unfold State.leaveOpen
  (try dsimp only)
  repeat' first | with_reducible assumption | (with_reducible first | apply State.modCell_keeps | apply State.park_keeps | apply State.disturbOpen_keeps) | split | rfl | intro _ | dsimp only | assumption

theorem State.leaveOpenAll_keeps {s₀ s : State} (h : Keeps s₀ s) :
    Keeps s₀ (State.leaveOpenAll s) := by
  unfold State.leaveOpenAll
  (try dsimp only)
  repeat' first | with_reducible assumption | (with_reducible first | apply State.leaveOpen_keeps | apply each_keeps) | split | rfl | intro _ | dsimp only | assumption

theorem State.afterTransition_keeps {s₀ s : State} (h : Keeps s₀ s) (k : Cell) :
    Keeps s₀ (State.afterTransition s k) := by
  unfold State.afterTransition
  (try dsimp only)
  repeat' first | with_reducible assumption | (with_reducible first | apply State.commutate_keeps | apply State.park_keeps | apply State.modCell_keeps) | split | rfl | intro _ | dsimp only | assumption

theorem State.keeperSeq_keeps {s₀ s : State} (h : Keeps s₀ s) (k : Cell) :
    Keeps s₀ (State.keeperSeq s k) := by
  unfold State.keeperSeq
  (try dsimp only)
  repeat' first | with_reducible assumption | (with_reducible first | apply State.startSeq_keeps) | split | rfl | intro _ | dsimp only | assumption

theorem State.keeperTrips_keeps {s₀ s : State} (h : Keeps s₀ s) (g : Seg) :
    Keeps s₀ (State.keeperTrips s g) := by
  unfold State.keeperTrips
  (try dsimp only)
  repeat' first | with_reducible assumption | (with_reducible first | apply State.modSeg_keeps | apply State.keeperSeq_keeps | apply each_keeps) | split | rfl | intro _ | dsimp only | assumption

end Sys2Proof.Machine
end

