-- ==== Sys2Proof/Laws/KeepsNvm.lean ====
section
/-!
SUPPORT. What the operations of Machine/Nvm.lean keep: the queue, what has left, the free values, canonical memory.
-/

namespace Sys2Proof.Machine

theorem State.countRefusal_keeps {s₀ s : State} (h : Keeps s₀ s) (st : Status) :
    Keeps s₀ (State.countRefusal s st) := by
  unfold State.countRefusal
  (try dsimp only)
  repeat' first | with_reducible assumption | (with_reducible first | apply State.modNvm_keeps) | split | rfl | intro _ | dsimp only | assumption

theorem cutRange_wfFrom (m : List (Nat × Byte)) (v : BitVec 64) (a n lo : Nat)
    (h : Sparse.wfFrom erased lo m = true) : Sparse.wfFrom erased lo (cutRange m v a n) = true := by
  induction m generalizing lo with
  | nil => rfl
  | cons e t ih =>
    have h' := h
    simp only [Sparse.wfFrom, Bool.and_eq_true, decide_eq_true_eq] at h'
    obtain ⟨⟨h1, h2⟩, h3⟩ := h'
    have k := ih (e.1 + 1) h3
    unfold cutRange at k ⊢
    rw [List.filterMap_cons]
    by_cases hc : (decide (e.1 < a) || decide (a + n ≤ e.1)) = true
    · rw [if_pos hc]
      simp only [Sparse.wfFrom, Bool.and_eq_true, decide_eq_true_eq]
      exact ⟨⟨h1, h2⟩, k⟩
    · rw [if_neg hc]
      dsimp only
      by_cases hb : (e.2 ||| (v.rotateLeft (e.1 % 64)).setWidth 8 == erased e.1) = true
      · rw [if_pos hb]
        exact Sparse.wfFrom_mono erased _ (by omega) k
      · rw [if_neg hb]
        simp only [Sparse.wfFrom, Bool.and_eq_true, decide_eq_true_eq]
        exact ⟨⟨h1, by simpa using hb⟩, k⟩

/-- A flash operation cut short keeps the canonical form. -/
theorem FlashOp.cut_wf (m : List (Nat × Byte)) (v : BitVec 64) (op : FlashOp) (h : Sparse.wf erased m = true) :
    Sparse.wf erased (op.cut m v) = true := by
  cases op with
  | program a l => exact Sparse.putAll_wf erased _ _ _ h
  | eraseSector a => exact cutRange_wfFrom m v a _ 0 h
  | eraseBlock a => exact cutRange_wfFrom m v a _ 0 h


/-- Busy and erasing are set, the flash is not touched. -/
theorem Nvm.settle_keeps (n : Nvm) : n.settle.flash = n.flash := by
  unfold Nvm.settle
  split
  · rfl
  · split <;> rfl


theorem Nvm.failBegin_flash (n : Nvm) (j : Job) : (n.failBegin j).flash = n.flash := by
  unfold Nvm.failBegin
  split
  · split <;> rfl
  · rfl

theorem Nvm.failBegins_flash (l : List Job) (n : Nvm) : (l.foldl Nvm.failBegin n).flash = n.flash := by
  induction l generalizing n with
  | nil => rfl
  | cons j t ih => exact (ih _).trans (Nvm.failBegin_flash n j)


theorem State.pushRepair_keeps {s₀ s : State} (h : Keeps s₀ s) (j : Job) :
    Keeps s₀ (State.pushRepair s j) := by
  unfold State.pushRepair
  (try dsimp only)
  repeat' first | with_reducible assumption | (with_reducible first | apply State.modNvm_keeps | apply Nvm.settle_keeps) | split | rfl | intro _ | dsimp only | assumption

theorem State.pushJob_keeps {s₀ s : State} (h : Keeps s₀ s) (j : Job) :
    Keeps s₀ (State.pushJob s j) := by
  unfold State.pushJob
  (try dsimp only)
  repeat' first | with_reducible assumption | (with_reducible first | apply State.modNvm_keeps | apply Nvm.settle_keeps) | split | rfl | intro _ | dsimp only | assumption

theorem State.appendRecord_keeps {s₀ s : State} (h : Keeps s₀ s) (kind : Nat) (payload : List Byte) :
    Keeps s₀ (State.appendRecord s kind payload) := by
  unfold State.appendRecord
  (try dsimp only)
  repeat' first | with_reducible assumption | (with_reducible first | apply State.modNvm_keeps | apply State.pushJob_keeps) | split | rfl | intro _ | dsimp only | assumption

theorem State.journal_keeps {s₀ s : State} (h : Keeps s₀ s) (kind : Nat) (payload : List Byte) :
    Keeps s₀ (State.journal s kind payload) := by
  unfold State.journal
  (try dsimp only)
  repeat' first | with_reducible assumption | (with_reducible first | apply State.countRefusal_keeps | apply State.appendRecord_keeps) | split | rfl | intro _ | dsimp only | assumption

end Sys2Proof.Machine
end

