-- ==== Sys2Proof/Laws/KeepsRecords.lean ====
section
/-!
SUPPORT. What the operations of Machine/Records.lean keep: the queue, what has left, the free values, canonical memory.
-/

namespace Sys2Proof.Machine

theorem State.report_keeps {s₀ s : State} (h : Keeps s₀ s) (r : Report) (flags : BitVec 8) :
    Keeps s₀ (State.report s r flags) := by
  unfold State.report
  (try dsimp only)
  repeat' first | with_reducible assumption | (with_reducible first | apply State.modFlt_keeps) | split | rfl | intro _ | dsimp only | assumption

theorem State.raise_keeps {s₀ s : State} (h : Keeps s₀ s) (x : Src) (g : Option Seg) (k : Option Cell) (a0 a1 a2 : Word) :
    Keeps s₀ (State.raise s x g k a0 a1 a2) := by
  unfold State.raise
  (try dsimp only)
  repeat' first | with_reducible assumption | (with_reducible first | apply State.report_keeps) | split | rfl | intro _ | dsimp only | assumption

theorem State.tallyRecord_keeps {s₀ s : State} (h : Keeps s₀ s) (k : Cell) (time : Nat) (incomplete : Bool) :
    Keeps s₀ (State.tallyRecord s k time incomplete) := by
  unfold State.tallyRecord
  (try dsimp only)
  repeat' first | with_reducible assumption | (with_reducible first | apply State.putRecord_keeps) | split | rfl | intro _ | dsimp only | assumption

theorem State.stepSummary_keeps {s₀ s : State} (h : Keeps s₀ s) (code time : Nat) (incomplete : Bool) :
    Keeps s₀ (State.stepSummary s code time incomplete) := by
  unfold State.stepSummary
  (try dsimp only)
  repeat' first | with_reducible assumption | (with_reducible first | apply State.putRecord_keeps | apply State.park_keeps) | split | rfl | intro _ | dsimp only | assumption

theorem State.edgeRecord_keeps {s₀ s : State} (h : Keeps s₀ s) (k : Cell) (out incomplete : Bool) :
    Keeps s₀ (State.edgeRecord s k out incomplete) := by
  unfold State.edgeRecord
  (try dsimp only)
  repeat' first | with_reducible assumption | (with_reducible first | apply State.putRecord_keeps | apply State.modAna_keeps) | split | rfl | intro _ | dsimp only | assumption

theorem State.sweepRecord_keeps {s₀ s : State} (h : Keeps s₀ s) (k : Cell) (w : WalkState) (a : SweepAcc) (periods : Nat) (incomplete : Bool) :
    Keeps s₀ (State.sweepRecord s k w a periods incomplete) := by
  unfold State.sweepRecord
  (try dsimp only)
  repeat' first | with_reducible assumption | (with_reducible first | apply State.putRecord_keeps | apply State.modRes_keeps) | split | rfl | intro _ | dsimp only | assumption

theorem State.cutSweep_keeps {s₀ s : State} (h : Keeps s₀ s) (k : Cell) :
    Keeps s₀ (State.cutSweep s k) := by
  unfold State.cutSweep
  (try dsimp only)
  repeat' first | with_reducible assumption | (with_reducible first | apply State.sweepRecord_keeps | apply State.modCell_keeps | apply State.modAna_keeps) | split | rfl | intro _ | dsimp only | assumption

theorem State.endSweep_keeps {s₀ s : State} (h : Keeps s₀ s) :
    Keeps s₀ (State.endSweep s) := by
  unfold State.endSweep
  (try dsimp only)
  repeat' first | with_reducible assumption | (with_reducible first | apply State.sweepEnded_keeps | apply State.toHead_keeps | apply State.modRes_keeps) | split | rfl | intro _ | dsimp only | assumption

theorem State.kvalRecord_keeps {s₀ s : State} (h : Keeps s₀ s) (k : Cell) :
    Keeps s₀ (State.kvalRecord s k) := by
  unfold State.kvalRecord
  (try dsimp only)
  repeat' first | with_reducible assumption | (with_reducible first | apply State.putRecord_keeps | apply State.raise_keeps) | split | rfl | intro _ | dsimp only | assumption

theorem State.kvalClear_keeps {s₀ s : State} (h : Keeps s₀ s) (k : Cell) :
    Keeps s₀ (State.kvalClear s k) := by
  unfold State.kvalClear
  (try dsimp only)
  repeat' first | with_reducible assumption | (with_reducible first | apply State.kvalRecord_keeps | apply State.modAna_keeps) | split | rfl | intro _ | dsimp only | assumption

theorem State.kvalAll_keeps {s₀ s : State} (h : Keeps s₀ s) :
    Keeps s₀ (State.kvalAll s) := by
  unfold State.kvalAll
  (try dsimp only)
  repeat' first | with_reducible assumption | (with_reducible first | apply State.kvalRecord_keeps | apply each_keeps) | split | rfl | intro _ | dsimp only | assumption

theorem State.kvalSample_keeps {s₀ s : State} (h : Keeps s₀ s) (k : Cell) (v : Int) (temp : Option Int) (stamp : Nat) (patrol : Bool) :
    Keeps s₀ (State.kvalSample s k v temp stamp patrol) := by
  unfold State.kvalSample
  (try dsimp only)
  repeat' first | with_reducible assumption | (with_reducible first | apply State.modAna_keeps) | split | rfl | intro _ | dsimp only | assumption

theorem State.contactRecord_keeps {s₀ s : State} (h : Keeps s₀ s) (k : Cell) (mode : Nat) (cp cn : Option Int) (maxP maxN : Option Int) (i limit : Int) (n : Nat) (satP satN : Bool) (t0 t1 d0 : Nat) :
    Keeps s₀ (State.contactRecord s k mode cp cn maxP maxN i limit n satP satN t0 t1 d0) := by
  unfold State.contactRecord
  (try dsimp only)
  repeat' first | with_reducible assumption | (with_reducible first | apply State.putRecord_keeps) | split | rfl | intro _ | dsimp only | assumption

theorem State.contactSummary_keeps {s₀ s : State} (h : Keeps s₀ s) (k : Cell) :
    Keeps s₀ (State.contactSummary s k) := by
  unfold State.contactSummary
  (try dsimp only)
  repeat' first | with_reducible assumption | (with_reducible first | apply State.contactRecord_keeps | apply State.modAna_keeps) | split | rfl | intro _ | dsimp only | assumption

theorem State.dqdvRecord_keeps {s₀ s : State} (h : Keeps s₀ s) (k : Cell) (time : Nat) (atStepEnd : Bool) :
    Keeps s₀ (State.dqdvRecord s k time atStepEnd) := by
  unfold State.dqdvRecord
  (try dsimp only)
  repeat' first | with_reducible assumption | (with_reducible first | apply State.putRecord_keeps | apply State.modAna_keeps) | split | rfl | intro _ | dsimp only | assumption

theorem State.dqdvOutput_keeps {s₀ s : State} (h : Keeps s₀ s) (k : Cell) (x : Sample) :
    Keeps s₀ (State.dqdvOutput s k x) := by
  unfold State.dqdvOutput
  (try dsimp only)
  repeat' first | with_reducible assumption | (with_reducible first | apply State.dqdvRecord_keeps | apply State.modAna_keeps) | split | rfl | intro _ | dsimp only | assumption

theorem State.taperRecord_keeps {s₀ s : State} (h : Keeps s₀ s) (k : Cell) (reason : Nat) (qCycle : Int) (z time : Nat) :
    Keeps s₀ (State.taperRecord s k reason qCycle z time) := by
  unfold State.taperRecord
  (try dsimp only)
  repeat' first | with_reducible assumption | (with_reducible first | apply State.putRecord_keeps) | split | rfl | intro _ | dsimp only | assumption

theorem State.snapshotRecord_keeps {s₀ s : State} (h : Keeps s₀ s) (k : Cell) (time : Nat) :
    Keeps s₀ (State.snapshotRecord s k time) := by
  unfold State.snapshotRecord
  (try dsimp only)
  repeat' first | with_reducible assumption | (with_reducible first | apply State.putRecord_keeps) | split | rfl | intro _ | dsimp only | assumption

theorem State.eventRecord_keeps {s₀ s : State} (h : Keeps s₀ s) (r : Sillage) :
    Keeps s₀ (State.eventRecord s r) := by
  unfold State.eventRecord
  (try dsimp only)
  repeat' first | with_reducible assumption | (with_reducible first | apply State.putRecord_keeps) | split | rfl | intro _ | dsimp only | assumption

theorem State.endStep_keeps {s₀ s : State} (h : Keeps s₀ s) (t code : Nat) (incomplete : Bool) :
    Keeps s₀ (State.endStep s t code incomplete) := by
  unfold State.endStep
  (try dsimp only)
  repeat' first | with_reducible assumption | (with_reducible first | apply State.tallyRecord_keeps | apply State.edgeRecord_keeps | apply State.cutSweep_keeps | apply State.endSweep_keeps | apply State.kvalAll_keeps | apply State.contactSummary_keeps | apply State.dqdvRecord_keeps | apply State.stepSummary_keeps | apply each_keeps) | split | rfl | intro _ | dsimp only | assumption

theorem State.clearStep_keeps {s₀ s : State} (h : Keeps s₀ s) :
    Keeps s₀ (State.clearStep s) := by
  unfold State.clearStep
  (try dsimp only)
  repeat' first | with_reducible assumption | (with_reducible first | apply State.setAna_keeps | apply State.modRes_keeps | apply State.modPlay_keeps) | split | rfl | intro _ | dsimp only | assumption

end Sys2Proof.Machine
end

