-- ==== Sys2Proof/Laws/KeepsLinks.lean ====
section
/-!
SUPPORT. What the operations of Machine/Links.lean keep: the queue, what has left, the free values, canonical memory.
-/

namespace Sys2Proof.Machine

theorem State.captureWindow_keeps {s₀ s : State} (h : Keeps s₀ s) (g : Seg) :
    Keeps s₀ (State.captureWindow s g) := by
  unfold State.captureWindow
  (try dsimp only)
  repeat' first | with_reducible assumption | (with_reducible first | apply State.modLink_keeps) | split | rfl | intro _ | dsimp only | assumption

theorem State.trainLink_keeps {s₀ s : State} (h : Keeps s₀ s) (g : Seg) :
    Keeps s₀ (State.trainLink s g) := by
  unfold State.trainLink
  (try dsimp only)
  repeat' first | with_reducible assumption | (with_reducible first | apply State.captureWindow_keeps | apply State.modLink_keeps) | split | rfl | intro _ | dsimp only | assumption

theorem State.retrainLink_keeps {s₀ s : State} (h : Keeps s₀ s) (g : Seg) :
    Keeps s₀ (State.retrainLink s g) := by
  unfold State.retrainLink
  (try dsimp only)
  repeat' first | with_reducible assumption | (with_reducible first | apply State.modLink_keeps | apply State.trainLink_keeps) | split | rfl | intro _ | dsimp only | assumption

theorem State.linkToDown_keeps {s₀ s : State} (h : Keeps s₀ s) (g : Seg) :
    Keeps s₀ (State.linkToDown s g) := by
  unfold State.linkToDown
  (try dsimp only)
  repeat' first | with_reducible assumption | (with_reducible first | apply State.captureWindow_keeps | apply State.modLink_keeps) | split | rfl | intro _ | dsimp only | assumption

theorem State.segBack_keeps {s₀ s : State} (h : Keeps s₀ s) (g : Seg) :
    Keeps s₀ (State.segBack s g) := by
  unfold State.segBack
  (try dsimp only)
  repeat' first | with_reducible assumption | (with_reducible first | apply State.modSeg_keeps | apply State.modCell_keeps | apply each_keeps) | split | rfl | intro _ | dsimp only | assumption

theorem State.linkTrained_keeps {s₀ s : State} (h : Keeps s₀ s) (g : Seg) (c0 c1 : Bool) (latency : Nat) :
    Keeps s₀ (s.linkTrained g c0 c1 latency) := by
  unfold State.linkTrained
  extract_lets again s1 s2 s3 s4 k
  have h1 : Keeps s₀ s1 := State.modLink_keeps h _ _
  have h2 : Keeps s₀ s2 := by
    simp only [s2]
    split
    · exact h1
    · refine ⟨h1.pending, h1.free, h1.out, fun m => ?_⟩
      have hm := (Memory.wf_iff s1).1 (h1.mem m)
      refine (Memory.wf_iff _).2 ⟨hm.1, hm.2.1, fun x hx => ?_⟩
      rcases Vec.set_mem _ _ _ _ hx with rfl | hx
      · exact Sparse.filter_wf resetOf _ s1.regs hm.1
      · exact hm.2.2 _ hx
  have h4 : Keeps s₀ s4 := State.segBack_keeps (State.modSeg_keeps h2 g (fun x => { x with trained := true }) (fun _ => rfl)) g
  clear_value s4
  split
  · exact State.raise_keeps h4 _ _ _ _ _ _
  · exact h4


theorem State.unverify_keeps {s₀ s : State} (h : Keeps s₀ s) :
    Keeps s₀ (State.unverify s) := by
  unfold State.unverify
  (try dsimp only)
  repeat' first | with_reducible assumption | (with_reducible first | apply State.modPlay_keeps) | split | rfl | intro _ | dsimp only | assumption

theorem State.segDieReset_keeps {s₀ s : State} (h : Keeps s₀ s) (g : Seg) (moduleReset : Bool) :
    Keeps s₀ (s.segDieReset g moduleReset) := by
  unfold State.segDieReset
  extract_lets s1 s2 s3
  have h1 : Keeps s₀ s1 := State.modSeg_keepsWf h g _ (fun _ _ => rfl)
  have h2 : Keeps s₀ s2 := each_keeps _ h1 (fun s k hs => by
    dsimp only
    split
    · exact State.modCell_keeps (State.modMeas_keeps hs _ _) _ _
    · exact State.modMeas_keeps hs _ _)
  exact State.trainLink_keeps (State.linkToDown_keeps (State.unverify_keeps (State.modLink_keeps h2 _ _)) _) _


theorem State.segFeedOff_keeps {s₀ s : State} (h : Keeps s₀ s) (g : Seg) :
    Keeps s₀ (State.segFeedOff s g) := by
  unfold State.segFeedOff
  (try dsimp only)
  repeat' first | with_reducible assumption | (with_reducible first | apply State.modSeg_keeps | apply State.segDieReset_keeps | apply State.linkToDown_keeps) | split | rfl | intro _ | dsimp only | assumption

theorem State.segResetAsked_keeps {s₀ s : State} (h : Keeps s₀ s) (g : Seg) :
    Keeps s₀ (State.segResetAsked s g) := by
  unfold State.segResetAsked
  (try dsimp only)
  repeat' first | with_reducible assumption | (with_reducible first | apply State.sendDown_keeps | apply State.segFeedOff_keeps) | split | rfl | intro _ | dsimp only | assumption

theorem State.trainPort_keeps {s₀ s : State} (h : Keeps s₀ s) (p : Port) :
    Keeps s₀ (State.trainPort s p) := by
  unfold State.trainPort
  (try dsimp only)
  repeat' first | with_reducible assumption | (with_reducible first | apply State.modPort_keeps) | split | rfl | intro _ | dsimp only | assumption

theorem State.linkEvent_keeps {s₀ s : State} (h : Keeps s₀ s) (p : Port) (kind : Nat) :
    Keeps s₀ (State.linkEvent s p kind) := by
  unfold State.linkEvent
  (try dsimp only)
  repeat' first | with_reducible assumption | (with_reducible first | apply State.sendFrame_keeps) | split | rfl | intro _ | dsimp only | assumption

theorem State.censusBroken_keeps {s₀ s : State} (h : Keeps s₀ s) :
    Keeps s₀ (State.censusBroken s) := by
  unfold State.censusBroken
  (try dsimp only)
  repeat' first | with_reducible assumption | (with_reducible first | apply State.modLoop_keeps | apply State.replyLate_keeps) | split | rfl | intro _ | dsimp only | assumption

theorem State.leaveUp_keeps {s₀ s : State} (h : Keeps s₀ s) (p : Port) :
    Keeps s₀ (State.leaveUp s p) := by
  unfold State.leaveUp
  (try dsimp only)
  repeat' first | with_reducible assumption | (with_reducible first | apply State.modPort_keeps | apply State.modLoop_keeps | apply State.serve_keeps | apply State.raise_keeps | apply State.linkEvent_keeps | apply State.censusBroken_keeps) | split | rfl | intro _ | dsimp only | assumption

theorem State.restartPort_keeps {s₀ s : State} (h : Keeps s₀ s) (p : Port) :
    Keeps s₀ (State.restartPort s p) := by
  unfold State.restartPort
  (try dsimp only)
  repeat' first | with_reducible assumption | (with_reducible first | apply State.leaveUp_keeps | apply State.trainPort_keeps | apply State.modPort_keeps) | split | rfl | intro _ | dsimp only | assumption

theorem State.retrainPort_keeps {s₀ s : State} (h : Keeps s₀ s) (p : Port) :
    Keeps s₀ (State.retrainPort s p) := by
  unfold State.retrainPort
  (try dsimp only)
  repeat' first | with_reducible assumption | (with_reducible first | apply State.leaveUp_keeps | apply State.trainPort_keeps) | split | rfl | intro _ | dsimp only | assumption

theorem State.enterUp_keeps {s₀ s : State} (h : Keeps s₀ s) (p : Port) :
    Keeps s₀ (State.enterUp s p) := by
  unfold State.enterUp
  (try dsimp only)
  repeat' first | with_reducible assumption | (with_reducible first | apply State.modPort_keeps | apply State.modLoop_keeps | apply State.linkEvent_keeps | apply State.serve_keeps) | split | rfl | intro _ | dsimp only | assumption

theorem State.resetRings_keeps {s₀ s : State} (h : Keeps s₀ s) :
    Keeps s₀ (State.resetRings s) := by
  unfold State.resetRings
  (try dsimp only)
  repeat' first | with_reducible assumption | (with_reducible first | apply State.modRes_keeps | apply State.modLoop_keeps | apply State.modHost_keeps) | split | rfl | intro _ | dsimp only | assumption

theorem State.hostErr_keeps {s₀ s : State} (h : Keeps s₀ s) (bits : BitVec 10) :
    Keeps s₀ (State.hostErr s bits) := by
  unfold State.hostErr
  (try dsimp only)
  repeat' first | with_reducible assumption | (with_reducible first | apply State.modHost_keeps | apply State.msix_keeps | apply State.raise_keeps) | split | rfl | intro _ | dsimp only | assumption

theorem State.hostDomainReset_keeps {s₀ s : State} (h : Keeps s₀ s) :
    Keeps s₀ (State.hostDomainReset s) := by
  unfold State.hostDomainReset
  (try dsimp only)
  repeat' first | with_reducible assumption | (with_reducible first | apply State.resetRings_keeps | apply State.setRegs_keeps | apply State.modHost_keeps | apply State.hostErr_keeps) | split | rfl | intro _ | dsimp only | assumption

theorem State.abandonWrites_keeps {s₀ s : State} (h : Keeps s₀ s) (st : Option Status) :
    Keeps s₀ (s.abandonWrites st) := by
  unfold State.abandonWrites
  extract_lets jobs s1 s2
  clear_value jobs
  have h1 : Keeps s₀ s1 := by
    simp only [s1]
    split
    · split
      · exact State.modNvm_keepsWf (State.freeBits_keeps h) _ (fun m => FlashOp.cut_wf _ _ _ m)
      · exact h
    · exact h
  have h2 : Keeps s₀ s2 := each_keeps _ h1 (fun s j hs => by
    dsimp only
    split
    · exact State.replyLate_keeps hs _ _ _
    · exact hs)
  refine State.modNvm_keeps h2 _ ?_
  dsimp only
  rw [Nvm.settle_keeps]
  exact Nvm.failBegins_flash jobs _


end Sys2Proof.Machine
end

