-- ==== Sys2Proof/Laws/KeepsBist.lean ====
section
/-!
SUPPORT. What the operations of Machine/Bist.lean keep: the queue, what has left, the free values, canonical memory.
-/

namespace Sys2Proof.Machine

theorem State.startSlice_keeps {s₀ s : State} (h : Keeps s₀ s) (n : Slice) (kind : BistMode) :
    Keeps s₀ (State.startSlice s n kind) := by
  unfold State.startSlice
  (try dsimp only)
  repeat' first | with_reducible assumption | (with_reducible first | apply State.modBist_keeps) | split | rfl | intro _ | dsimp only | assumption

theorem State.nextSlice_keeps {s₀ s : State} (h : Keeps s₀ s) :
    Keeps s₀ (State.nextSlice s) := by
  unfold State.nextSlice
  (try dsimp only)
  repeat' first | with_reducible assumption | (with_reducible first | apply State.modBist_keeps | apply State.startSlice_keeps) | split | rfl | intro _ | dsimp only | assumption

theorem State.setSlice_keeps {s₀ s : State} (h : Keeps s₀ s) (n : Slice) (f : SliceSt → SliceSt) :
    Keeps s₀ (State.setSlice s n f) := by
  unfold State.setSlice
  (try dsimp only)
  repeat' first | with_reducible assumption | (with_reducible first | apply State.modBist_keeps) | split | rfl | intro _ | dsimp only | assumption

theorem State.bistShunt_keeps {s₀ s : State} (h : Keeps s₀ s) (n : Nat) (off : Bool) :
    Keeps s₀ (State.bistShunt s n off) := by
  unfold State.bistShunt
  (try dsimp only)
  repeat' first | with_reducible assumption | (with_reducible first | apply State.modShunts_keeps) | split | rfl | intro _ | dsimp only | assumption

theorem State.hostError_keeps {s₀ s : State} (h : Keeps s₀ s) :
    Keeps s₀ (State.hostError s) := by
  unfold State.hostError
  (try dsimp only)
  repeat' first | with_reducible assumption | (with_reducible first | apply State.modHost_keeps) | split | rfl | intro _ | dsimp only | assumption

theorem State.safeState_keeps {s₀ s : State} (h : Keeps s₀ s) (n : Nat) :
    Keeps s₀ (State.safeState s n) := by
  unfold State.safeState
  (try dsimp only)
  repeat' first | with_reducible assumption | (with_reducible first | apply State.parkSegment_keeps | apply State.bistShunt_keeps | apply State.restartPort_keeps | apply State.hostError_keeps | apply State.modSpc_keeps) | split | rfl | intro _ | dsimp only | assumption

theorem State.freeBlock_keeps {s₀ s : State} (h : Keeps s₀ s) (n : Slice) :
    Keeps s₀ (State.freeBlock s n) := by
  unfold State.freeBlock
  (try dsimp only)
  repeat' first | with_reducible assumption | (with_reducible first | apply State.modBist_keeps | apply State.pushDown_keeps | apply State.modLink_keeps | apply each_keeps) | split | rfl | intro _ | dsimp only | assumption

theorem State.passSlice_keeps {s₀ s : State} (h : Keeps s₀ s) (n : Slice) :
    Keeps s₀ (State.passSlice s n) := by
  unfold State.passSlice
  (try dsimp only)
  repeat' first | with_reducible assumption | (with_reducible first | apply State.setSlice_keeps | apply State.bistShunt_keeps | apply State.modMeas_keeps | apply State.modSpc_keeps | apply each_keeps) | split | rfl | intro _ | dsimp only | assumption

theorem State.failSlice_keeps {s₀ s : State} (h : Keeps s₀ s) (n : Slice) (hung : Bool) :
    Keeps s₀ (State.failSlice s n hung) := by
  unfold State.failSlice
  (try dsimp only)
  repeat' first | with_reducible assumption | (with_reducible first | apply State.setSlice_keeps | apply State.modBist_keeps | apply State.safeState_keeps | apply State.raise_keeps) | split | rfl | intro _ | dsimp only | assumption

theorem State.finishBistRun_keeps {s₀ s : State} (h : Keeps s₀ s) :
    Keeps s₀ (State.finishBistRun s) := by
  unfold State.finishBistRun
  (try dsimp only)
  repeat' first | with_reducible assumption | (with_reducible first | apply State.modBist_keeps | apply State.replyLate_keeps) | split | rfl | intro _ | dsimp only | assumption

theorem State.endOfQueue_keeps {s₀ s : State} (h : Keeps s₀ s) :
    Keeps s₀ (State.endOfQueue s) := by
  unfold State.endOfQueue
  (try dsimp only)
  repeat' first | with_reducible assumption | (with_reducible first | apply State.modBist_keeps | apply State.finishBistRun_keeps) | split | rfl | intro _ | dsimp only | assumption

theorem State.abortSlice_keeps {s₀ s : State} (h : Keeps s₀ s) :
    Keeps s₀ (State.abortSlice s) := by
  unfold State.abortSlice
  (try dsimp only)
  repeat' first | with_reducible assumption | (with_reducible first | apply State.freeBlock_keeps | apply State.setSlice_keeps | apply State.modBist_keeps | apply State.nextSlice_keeps | apply State.failSlice_keeps | apply State.endOfQueue_keeps) | split | rfl | intro _ | dsimp only | assumption

theorem State.abortSegSlice_keeps {s₀ s : State} (h : Keeps s₀ s) (g : Seg) :
    Keeps s₀ (State.abortSegSlice s g) := by
  unfold State.abortSegSlice
  (try dsimp only)
  repeat' first | with_reducible assumption | (with_reducible first | apply State.abortSlice_keeps) | split | rfl | intro _ | dsimp only | assumption

theorem State.abortBlockSlice_keeps {s₀ s : State} (h : Keeps s₀ s) (block : Nat) (unit : Nat) :
    Keeps s₀ (State.abortBlockSlice s block unit) := by
  unfold State.abortBlockSlice
  (try dsimp only)
  repeat' first | with_reducible assumption | (with_reducible first | apply State.abortSlice_keeps) | split | rfl | intro _ | dsimp only | assumption

end Sys2Proof.Machine
end

