-- ==== Sys2Proof/Laws/KeepsFlags.lean ====
section
/-!
SUPPORT. What the operations of Machine/Flags.lean keep: the queue, what has left, the free values, canonical memory.
-/

namespace Sys2Proof.Machine

theorem State.unstick_keeps {s₀ s : State} (h : Keeps s₀ s) (x : Src) :
    Keeps s₀ (State.unstick s x) := by
  unfold State.unstick
  (try dsimp only)
  repeat' first | with_reducible assumption | (with_reducible first | apply State.modFlt_keeps) | split | rfl | intro _ | dsimp only | assumption

theorem State.clearFaults_keeps {s₀ s : State} (h : Keeps s₀ s) (id : Nat) :
    Keeps s₀ (State.clearFaults s id).2 := by
  unfold State.clearFaults
  (try dsimp only)
  repeat' first | with_reducible assumption | (with_reducible first | apply State.unstick_keeps | apply each_keeps) | split | rfl | intro _ | dsimp only | assumption

theorem State.clearFaults_keepsEq {s₀ s u₁ : State} {a₁} {id : Nat}
    (e : State.clearFaults s id = (a₁, u₁)) (h : Keeps s₀ s) : Keeps s₀ u₁ := by
  have k := State.clearFaults_keeps h id
  rw [e] at k
  exact k

theorem State.parkSymbol_keeps {s₀ s : State} (h : Keeps s₀ s) (orphan : Bool) :
    Keeps s₀ (State.parkSymbol s orphan) := by
  unfold State.parkSymbol
  (try dsimp only)
  repeat' first | with_reducible assumption | (with_reducible first | apply State.setLinks_keeps) | split | rfl | intro _ | dsimp only | assumption

theorem State.unplan_keeps {s₀ s : State} (h : Keeps s₀ s) :
    Keeps s₀ (State.unplan s) := by
  unfold State.unplan
  (try dsimp only)
  repeat' first | with_reducible assumption | (with_reducible first | apply State.putCells_keeps) | split | rfl | intro _ | dsimp only | assumption

theorem State.dropSweep_keeps {s₀ s : State} (h : Keeps s₀ s) : Keeps s₀ s.dropSweep := by
  unfold State.dropSweep
  exact State.setSegs_keeps (State.modRes_keeps h _) _ (fun _ => rfl)


theorem State.leaveRun_keeps {s₀ s : State} (h : Keeps s₀ s) :
    Keeps s₀ (State.leaveRun s) := by
  unfold State.leaveRun
  (try dsimp only)
  repeat' first | with_reducible assumption | (with_reducible first | apply State.endStep_keeps | apply State.clearStep_keeps | apply State.unplan_keeps | apply State.askRestart_keeps | apply State.replyLate_keeps | apply State.setStop_keeps | apply State.dropSweep_keeps | apply State.modPlay_keeps) | split | rfl | intro _ | dsimp only | assumption

theorem State.segRouse_keeps {s₀ s : State} (h : Keeps s₀ s) (g : Seg) :
    Keeps s₀ (State.segRouse s g) := by
  unfold State.segRouse
  (try dsimp only)
  repeat' first | with_reducible assumption | (with_reducible first | apply State.modSeg_keeps | apply State.modMeas_keeps | apply State.report_keeps | apply State.modLink_keeps | apply State.trainLink_keeps | apply each_keeps) | split | rfl | intro _ | dsimp only | assumption

theorem State.raiseAnomaly_keeps {s₀ s : State} (h : Keeps s₀ s) (at_ : Nat) (g : Seg) (a : Anomaly) :
    Keeps s₀ (State.raiseAnomaly s at_ g a) := by
  unfold State.raiseAnomaly
  (try dsimp only)
  repeat' first | with_reducible assumption | (with_reducible first | apply State.report_keeps) | split | rfl | intro _ | dsimp only | assumption

theorem State.drydownLeft_keeps {s₀ s : State} (h : Keeps s₀ s) :
    Keeps s₀ (State.drydownLeft s) := by
  unfold State.drydownLeft
  (try dsimp only)
  repeat' first | with_reducible assumption | (with_reducible first | apply State.segRouse_keeps | apply State.modPwr_keeps | apply State.kvalAll_keeps | apply State.raiseAnomaly_keeps | apply each_keeps) | split | rfl | intro _ | dsimp only | assumption

theorem State.answerWakes_keeps {s₀ s : State} (h : Keeps s₀ s) (st : Status) :
    Keeps s₀ (State.answerWakes s st) := by
  unfold State.answerWakes
  (try dsimp only)
  repeat' first | with_reducible assumption | (with_reducible first | apply State.replyLate_keeps | apply State.modPwr_keeps | apply each_keeps) | split | rfl | intro _ | dsimp only | assumption

theorem State.powerActive_keeps {s₀ s : State} (h : Keeps s₀ s) :
    Keeps s₀ (State.powerActive s) := by
  unfold State.powerActive
  (try dsimp only)
  repeat' first | with_reducible assumption | (with_reducible first | apply State.answerWakes_keeps | apply State.modPwr_keeps) | split | rfl | intro _ | dsimp only | assumption

theorem State.trainPorts_keeps {s₀ s : State} (h : Keeps s₀ s) :
    Keeps s₀ (State.trainPorts s) := by
  unfold State.trainPorts
  (try dsimp only)
  repeat' first | with_reducible assumption | (with_reducible first | apply State.trainPort_keeps | apply each_keeps) | split | rfl | intro _ | dsimp only | assumption

theorem State.endTest_keeps {s₀ s : State} (h : Keeps s₀ s) :
    Keeps s₀ (State.endTest s) := by
  unfold State.endTest
  (try dsimp only)
  repeat' first | with_reducible assumption | (with_reducible first | apply State.modBist_keeps | apply State.trainPorts_keeps) | split | rfl | intro _ | dsimp only | assumption

theorem State.haltTo_keeps {s₀ s : State} (h : Keeps s₀ s) (m : ModState) (cause : Nat) :
    Keeps s₀ (State.haltTo s m cause) := by
  unfold State.haltTo
  (try dsimp only)
  repeat' first | with_reducible assumption | (with_reducible first | apply State.inhibit_keeps | apply State.stageOff_keeps | apply State.endInhibit_keeps | apply State.leaveOpenAll_keeps | apply State.leaveRun_keeps | apply State.endTest_keeps | apply State.abortSlice_keeps | apply State.modBist_keeps | apply State.enter_keeps | apply State.drydownLeft_keeps | apply State.powerActive_keeps | apply State.parkSymbol_keeps) | split | rfl | intro _ | dsimp only | assumption

theorem State.haltNow_keeps {s₀ s : State} (h : Keeps s₀ s) :
    Keeps s₀ (State.haltNow s) := by
  unfold State.haltNow
  (try dsimp only)
  repeat' first | with_reducible assumption | (with_reducible first | apply State.haltTo_keeps | apply State.modGlb_keeps) | split | rfl | intro _ | dsimp only | assumption

theorem State.rollBack_keeps {s₀ s : State} (h : Keeps s₀ s) (st : AccState) :
    Keeps s₀ (State.rollBack s st) := by
  unfold State.rollBack
  (try dsimp only)
  repeat' first | with_reducible assumption | (with_reducible first | apply State.sendDown_keeps | apply State.modAcc_keeps | apply State.modPlay_keeps | apply each_keeps) | split | rfl | intro _ | dsimp only | assumption

theorem State.accordShutdown_keeps {s₀ s : State} (h : Keeps s₀ s) :
    Keeps s₀ (State.accordShutdown s) := by
  unfold State.accordShutdown
  (try dsimp only)
  repeat' first | with_reducible assumption | (with_reducible first | apply State.rollBack_keeps | apply State.raise_keeps) | split | rfl | intro _ | dsimp only | assumption

theorem State.abortVerify_keeps {s₀ s : State} (h : Keeps s₀ s) :
    Keeps s₀ (State.abortVerify s) := by
  unfold State.abortVerify
  (try dsimp only)
  repeat' first | with_reducible assumption | (with_reducible first | apply State.modPlay_keeps | apply State.replyLate_keeps) | split | rfl | intro _ | dsimp only | assumption

theorem State.shutdownNow_keeps {s₀ s : State} (h : Keeps s₀ s) (sensor : Nat) (temp : Int) :
    Keeps s₀ (State.shutdownNow s sensor temp) := by
  unfold State.shutdownNow
  (try dsimp only)
  repeat' first | with_reducible assumption | (with_reducible first | apply State.haltTo_keeps | apply State.abandonWrites_keeps | apply State.modTherm_keeps | apply State.modGlb_keeps | apply State.accordShutdown_keeps | apply State.abortVerify_keeps | apply State.raise_keeps) | split | rfl | intro _ | dsimp only | assumption

theorem State.requestReset_keeps {s₀ s : State} (h : Keeps s₀ s) (code : Nat) :
    Keeps s₀ (State.requestReset s code) := by
  unfold State.requestReset
  (try dsimp only)
  repeat' first | with_reducible assumption | (with_reducible first | apply State.abortSlice_keeps | apply State.stageOff_keeps | apply State.parkSymbol_keeps | apply State.modGlb_keeps) | split | rfl | intro _ | dsimp only | assumption

theorem State.classEffect_keeps {s₀ s : State} (h : Keeps s₀ s) (x : Src) (c : FaultClass) :
    Keeps s₀ (State.classEffect s x c) := by
  unfold State.classEffect
  (try dsimp only)
  repeat' first | with_reducible assumption | (with_reducible first | apply State.notice_keeps | apply State.modGlb_keeps | apply State.haltNow_keeps) | split | rfl | intro _ | dsimp only | assumption

theorem State.irqReaction_keeps {s₀ s : State} (h : Keeps s₀ s) (r : Sillage) :
    Keeps s₀ (State.irqReaction s r) := by
  unfold State.irqReaction
  (try dsimp only)
  repeat' first | with_reducible assumption | (with_reducible first | apply State.notice_keeps | apply State.msix_keeps | apply State.toHead_keeps | apply State.eventRecord_keeps) | split | rfl | intro _ | dsimp only | assumption

theorem State.noteBlockReset_keeps {s₀ s : State} (h : Keeps s₀ s) (block unit : Nat) :
    Keeps s₀ (State.noteBlockReset s block unit) := by
  unfold State.noteBlockReset
  (try dsimp only)
  repeat' first | with_reducible assumption | (with_reducible first | apply State.modGlb_keeps | apply State.abortBlockSlice_keeps) | split | rfl | intro _ | dsimp only | assumption

theorem State.abortScan_keeps {s₀ s : State} (h : Keeps s₀ s) (c : Fin 4) :
    Keeps s₀ (State.abortScan s c) := by
  unfold State.abortScan
  (try dsimp only)
  repeat' first | with_reducible assumption | (with_reducible first | apply State.freeBits_keeps | apply State.modChk_keeps | apply State.replyLate_keeps | apply foldl_keeps) | split | rfl | intro _ | dsimp only | assumption

theorem State.idleContext_keeps {s₀ s : State} (h : Keeps s₀ s) (c : Fin 4) :
    Keeps s₀ (State.idleContext s c) := by
  unfold State.idleContext
  (try dsimp only)
  repeat' first | with_reducible assumption | (with_reducible first | apply State.abortScan_keeps | apply State.modChk_keeps) | split | rfl | intro _ | dsimp only | assumption

theorem State.blockReaction_keeps {s₀ s : State} (h : Keeps s₀ s) (r : Report) :
    Keeps s₀ (State.blockReaction s r) := by
  unfold State.blockReaction
  (try dsimp only)
  repeat' first | with_reducible assumption | (with_reducible first | apply State.noteBlockReset_keeps | apply State.segResetAsked_keeps | apply State.retrainLink_keeps | apply State.retrainPort_keeps | apply State.hostDomainReset_keeps | apply State.idleContext_keeps | apply State.abandonWrites_keeps) | split | rfl | intro _ | dsimp only | assumption

theorem State.toIntake_keeps {s₀ s : State} (h : Keeps s₀ s) (r : Sillage) :
    Keeps s₀ (State.toIntake s r).1 := by
  unfold State.toIntake
  (try dsimp only)
  repeat' first | with_reducible assumption | (with_reducible first | apply State.modFlt_keeps) | split | rfl | intro _ | dsimp only | assumption

theorem State.toIntake_keepsEq {s₀ s u₁ : State} {a₁} {r : Sillage}
    (e : State.toIntake s r = (u₁, a₁)) (h : Keeps s₀ s) : Keeps s₀ u₁ := by
  have k := State.toIntake_keeps h r
  rw [e] at k
  exact k

theorem State.captureFirst_keeps {s₀ s : State} (h : Keeps s₀ s) (r : Sillage) :
    Keeps s₀ (State.captureFirst s r) := by
  unfold State.captureFirst
  (try dsimp only)
  repeat' first | with_reducible assumption | (with_reducible first | apply State.modFlt_keeps) | split | rfl | intro _ | dsimp only | assumption

theorem State.markSticky_keeps {s₀ s : State} (h : Keeps s₀ s) (x : Src) (c : FaultClass) (unit tick : Nat) :
    Keeps s₀ (State.markSticky s x c unit tick) := by
  unfold State.markSticky
  (try dsimp only)
  repeat' first | with_reducible assumption | (with_reducible first | apply State.modFlt_keeps | apply State.tick_keeps) | split | rfl | intro _ | dsimp only | assumption

theorem State.recordAndReact_keeps {s₀ s : State} (h : Keeps s₀ s) (r : Report) (flags : BitVec 8) (c : FaultClass)
    (was : Bool) : Keeps s₀ (s.recordAndReact r flags c was) := by
  unfold State.recordAndReact
  extract_lets x rec_ irq trap block module pin formed t rec' s1 grave s2 s3 s4 s5 s6 s7
  have ht : Keeps s₀ t.1 := by
    simp only [t]
    split
    · exact State.toIntake_keeps h _
    · exact h
  have h1 : Keeps s₀ s1 := State.captureFirst_keeps ht _
  have h2 : Keeps s₀ s2 := by
    simp only [s2]
    split
    · exact State.abortSlice_keeps h1
    · exact h1
  have h3 : Keeps s₀ s3 := by
    simp only [s3]
    split
    · exact State.journal_keeps h2 _ _
    · exact h2
  have h4 : Keeps s₀ s4 := State.classEffect_keeps h3 _ _
  have h5 : Keeps s₀ s5 := by
    simp only [s5]
    split
    · exact State.irqReaction_keeps h4 _
    · exact h4
  have h6 : Keeps s₀ s6 := by
    simp only [s6]
    split
    · split
      · exact h5
      · exact State.journal_keeps h5 _ _
    · exact h5
  have h7 : Keeps s₀ s7 := by
    simp only [s7]
    split
    · exact State.blockReaction_keeps h6 _
    · exact h6
  split
  · exact State.requestReset_keeps h7 _
  · exact h7


theorem State.enterFault_keeps {s₀ s : State} (h : Keeps s₀ s) (r : Report) (flags : BitVec 8) :
    Keeps s₀ (State.enterFault s r flags) := by
  unfold State.enterFault
  (try dsimp only)
  repeat' first | with_reducible assumption | (with_reducible first | apply State.tick_keeps | apply State.modFlt_keeps | apply State.unstick_keeps | apply State.markSticky_keeps | apply State.recordAndReact_keeps) | split | rfl | intro _ | dsimp only | assumption

theorem State.settleN_keeps {s₀ s : State} (h : Keeps s₀ s) (n : Nat) : Keeps s₀ (State.settleN n s) := by
  induction n generalizing s with
  | zero => exact h
  | succ n ih =>
    unfold State.settleN
    repeat' first | with_reducible assumption | with_reducible first | apply ih | apply State.enterFault_keeps | apply State.modFlt_keeps | apply State.raise_keeps | apply State.modRes_keeps | split


theorem State.reviewSweeps_keeps {s₀ s : State} (h : Keeps s₀ s) :
    Keeps s₀ (State.reviewSweeps s) := by
  unfold State.reviewSweeps
  (try dsimp only)
  repeat' first | with_reducible assumption | (with_reducible first | apply State.cutSweep_keeps | apply State.endSweep_keeps | apply each_keeps) | split | rfl | intro _ | dsimp only | assumption

theorem State.settle_keeps {s₀ s : State} (h : Keeps s₀ s) :
    Keeps s₀ (State.settle s) := by
  unfold State.settle
  (try dsimp only)
  repeat' first | with_reducible assumption | (with_reducible first | apply State.settleN_keeps | apply State.reviewSweeps_keeps | apply State.journal_keeps) | split | rfl | intro _ | dsimp only | assumption

theorem State.done_keeps {s₀ s : State} (h : Keeps s₀ s) : KeepsOut s₀ s.done := ⟨_, rfl, State.settle_keeps h⟩


end Sys2Proof.Machine
end

