-- ==== Sys2Proof/Laws/KeepsFaults.lean ====
section
/-!
SUPPORT. What the operations of Machine/Faults.lean keep: the queue, what has left, the free values, canonical memory.
-/

namespace Sys2Proof.Machine

theorem State.faultRead_keeps {s₀ s : State} (h : Keeps s₀ s) (what from_ : Nat) :
    Keeps s₀ (State.faultRead s what from_).2 := by
  unfold State.faultRead
  (try dsimp only)
  repeat' first | with_reducible assumption | (with_reducible first | apply State.modFlt_keeps) | split | rfl | intro _ | dsimp only | assumption

theorem State.faultRead_keepsEq {s₀ s u₁ : State} {a₁} {what from_ : Nat}
    (e : State.faultRead s what from_ = (a₁, u₁)) (h : Keeps s₀ s) : Keeps s₀ u₁ := by
  have k := State.faultRead_keeps h what from_
  rw [e] at k
  exact k

theorem execFaultEntry_keeps {s₀ s : State} (h : Keeps s₀ s) (x : Src) (g : Option Seg) (k : Option Cell) (a0 a1 a2 : Word) :
    KeepsOut s₀ (execFaultEntry x g k a0 a1 a2 s) := by
  unfold execFaultEntry
  (try dsimp only)
  repeat' first | with_reducible assumption | (with_reducible first | apply State.abortScan_keeps | apply State.report_keeps | apply State.done_keeps | apply each_keeps) | split | rfl | intro _ | dsimp only | assumption

theorem execIntakeMove_keeps {s₀ s : State} (h : Keeps s₀ s) :
    KeepsOut s₀ (execIntakeMove s) := by
  unfold execIntakeMove
  (try dsimp only)
  repeat' first | with_reducible assumption | (with_reducible first | apply State.done_keeps | apply State.modFlt_keeps) | split | rfl | intro _ | dsimp only | assumption

theorem execHaltDecision_keeps {s₀ s : State} (h : Keeps s₀ s) :
    KeepsOut s₀ (execHaltDecision s) := by
  unfold execHaltDecision
  (try dsimp only)
  repeat' first | with_reducible assumption | (with_reducible first | apply State.done_keeps | apply State.haltNow_keeps) | split | rfl | intro _ | dsimp only | assumption

theorem execHaltRequest_keeps {s₀ s : State} (h : Keeps s₀ s) (g : Seg) :
    KeepsOut s₀ (execHaltRequest g s) := by
  unfold execHaltRequest
  (try dsimp only)
  repeat' first | with_reducible assumption | (with_reducible first | apply State.modLink_keeps | apply State.abortSlice_keeps | apply State.markSticky_keeps | apply State.modFlt_keeps | apply State.haltNow_keeps | apply State.done_keeps) | split | rfl | intro _ | dsimp only | assumption

theorem execEstopNLow_keeps {s₀ s : State} (h : Keeps s₀ s) (lowNs : Nat) :
    KeepsOut s₀ (execEstopNLow lowNs s) := by
  unfold execEstopNLow
  (try dsimp only)
  repeat' first | with_reducible assumption | (with_reducible first | apply State.freeBool_keeps | apply State.setPins_keeps | apply State.inhibit_keeps | apply State.stageOff_keeps | apply State.raise_keeps | apply State.done_keeps) | split | rfl | intro _ | dsimp only | assumption

theorem execEstopNHigh_keeps {s₀ s : State} (h : Keeps s₀ s) :
    KeepsOut s₀ (execEstopNHigh s) := by
  unfold execEstopNHigh
  (try dsimp only)
  repeat' first | with_reducible assumption | (with_reducible first | apply State.setPins_keeps | apply State.endInhibit_keeps | apply State.done_keeps) | split | rfl | intro _ | dsimp only | assumption

theorem execPhFltNLow_keeps {s₀ s : State} (h : Keeps s₀ s) (lowNs : Nat) :
    KeepsOut s₀ (execPhFltNLow lowNs s) := by
  unfold execPhFltNLow
  (try dsimp only)
  repeat' first | with_reducible assumption | (with_reducible first | apply State.freeBool_keeps | apply State.setPins_keeps | apply State.inhibit_keeps | apply State.stageOff_keeps | apply State.raise_keeps | apply State.done_keeps) | split | rfl | intro _ | dsimp only | assumption

theorem execPhFltNHigh_keeps {s₀ s : State} (h : Keeps s₀ s) :
    KeepsOut s₀ (execPhFltNHigh s) := by
  unfold execPhFltNHigh
  (try dsimp only)
  repeat' first | with_reducible assumption | (with_reducible first | apply State.setPins_keeps | apply State.endInhibit_keeps | apply State.done_keeps) | split | rfl | intro _ | dsimp only | assumption

theorem State.wroteFltClear_keeps {s₀ s : State} (h : Keeps s₀ s) (id : Nat) :
    Keeps s₀ (State.wroteFltClear s id) := by
  unfold State.wroteFltClear
  (try dsimp only)
  repeat' first | with_reducible assumption | (with_reducible first | apply State.clearFaults_keeps | apply State.modFlt_keeps) | split | rfl | intro _ | refine State.clearFaults_keepsEq (by assumption) ?_ | dsimp only | assumption

theorem State.wroteFltCtrl_keeps {s₀ s : State} (h : Keeps s₀ s) (v : Word) :
    Keeps s₀ (State.wroteFltCtrl s v) := by
  unfold State.wroteFltCtrl
  (try dsimp only)
  repeat' first | with_reducible assumption | (with_reducible first | apply State.modFlt_keeps) | split | rfl | intro _ | dsimp only | assumption

end Sys2Proof.Machine
end

