-- ==== Sys2Proof/Laws/KeepsThermal.lean ====
section
/-!
SUPPORT. What the operations of Machine/Thermal.lean keep: the queue, what has left, the free values, canonical memory.
-/

namespace Sys2Proof.Machine

theorem State.reviewHolds_keeps {s₀ s : State} (h : Keeps s₀ s) (k : Cell) :
    Keeps s₀ (State.reviewHolds s k) := by
  unfold State.reviewHolds
  (try dsimp only)
  repeat' first | with_reducible assumption | (with_reducible first | apply State.setHold_keeps) | split | rfl | intro _ | dsimp only | assumption

theorem State.reviewAll_keeps {s₀ s : State} (h : Keeps s₀ s) :
    Keeps s₀ (State.reviewAll s) := by
  unfold State.reviewAll
  (try dsimp only)
  repeat' first | with_reducible assumption | (with_reducible first | apply State.reviewHolds_keeps | apply each_keeps) | split | rfl | intro _ | dsimp only | assumption

theorem State.signFrom_keeps {s₀ s : State} (h : Keeps s₀ s) (old : Int) :
    Keeps s₀ (State.signFrom s old) := by
  unfold State.signFrom
  (try dsimp only)
  repeat' first | with_reducible assumption | (with_reducible first | apply State.reviewAll_keeps) | split | rfl | intro _ | dsimp only | assumption

theorem State.ntcAct_keeps {s₀ s : State} (h : Keeps s₀ s) (old : Vec CellTemp 256) (rs : List Nat) (k : Cell) :
    Keeps s₀ (State.ntcAct s old rs k) := by
  unfold State.ntcAct
  (try dsimp only)
  repeat' first | with_reducible assumption | (with_reducible first | apply State.raise_keeps | apply State.park_keeps) | split | rfl | intro _ | dsimp only | assumption

theorem execNtcSample_keeps {s₀ s : State} (h : Keeps s₀ s) (rs : List Nat) :
    KeepsOut s₀ (execNtcSample rs s) := by
  unfold execNtcSample
  (try dsimp only)
  repeat' first | with_reducible assumption | (with_reducible first | apply State.setTemps_keeps | apply State.ntcAct_keeps | apply State.reviewAll_keeps | apply State.done_keeps | apply each_keeps) | split | rfl | intro _ | dsimp only | assumption

theorem State.nearCheck_keeps {s₀ s : State} (h : Keeps s₀ s) :
    Keeps s₀ (State.nearCheck s) := by
  unfold State.nearCheck
  (try dsimp only)
  repeat' first | with_reducible assumption | (with_reducible first | apply State.modTherm_keeps) | split | rfl | intro _ | dsimp only | assumption

theorem State.dieAct_keeps {s₀ s : State} (h : Keeps s₀ s) (old : Vec DieTemp 17) (i : Nat) :
    Keeps s₀ (State.dieAct s old i) := by
  unfold State.dieAct
  (try dsimp only)
  repeat' first | with_reducible assumption | (with_reducible first | apply State.raise_keeps) | split | rfl | intro _ | dsimp only | assumption

theorem execThermalSample_keeps {s₀ s : State} (h : Keeps s₀ s) (rs : List Int) :
    KeepsOut s₀ (execThermalSample rs s) := by
  unfold execThermalSample
  (try dsimp only)
  repeat' first | with_reducible assumption | (with_reducible first | apply State.modTherm_keeps | apply State.dieAct_keeps | apply State.nearCheck_keeps | apply State.done_keeps | apply each_keeps) | split | rfl | intro _ | dsimp only | assumption

theorem execModelStep_keeps {s₀ s : State} (h : Keeps s₀ s) :
    KeepsOut s₀ (execModelStep s) := by
  unfold execModelStep
  (try dsimp only)
  repeat' first | with_reducible assumption | (with_reducible first | apply State.putCells_keeps | apply State.modTherm_keeps | apply State.nearCheck_keeps | apply State.done_keeps) | split | rfl | intro _ | dsimp only | assumption

theorem execShutdown_keeps {s₀ s : State} (h : Keeps s₀ s) (i : Fin 33) :
    KeepsOut s₀ (execShutdown i s) := by
  unfold execShutdown
  (try dsimp only)
  repeat' first | with_reducible assumption | (with_reducible first | apply State.shutdownNow_keeps | apply State.done_keeps) | split | rfl | intro _ | dsimp only | assumption

theorem State.startSlow_keeps {s₀ s : State} (h : Keeps s₀ s) :
    Keeps s₀ (State.startSlow s) := by
  unfold State.startSlow
  (try dsimp only)
  repeat' first | with_reducible assumption | (with_reducible first | apply State.modTherm_keeps | apply State.modBist_keeps) | split | rfl | intro _ | dsimp only | assumption

end Sys2Proof.Machine
end

