-- ==== Sys2Proof/Laws/KeepsCellRows.lean ====
section
/-!
SUPPORT. What the operations of Machine/CellRows.lean keep: the queue, what has left, the free values, canonical memory.
-/

namespace Sys2Proof.Machine

theorem State.countSeg_keeps {s₀ s : State} (h : Keeps s₀ s) (g : Seg) (slot : Nat) :
    Keeps s₀ (State.countSeg s g slot) := by
  unfold State.countSeg
  (try dsimp only)
  repeat' first | with_reducible assumption | (with_reducible first | apply State.modPlay_keeps | apply State.segReport_keeps) | split | rfl | intro _ | dsimp only | assumption

theorem State.countMod_keeps {s₀ s : State} (h : Keeps s₀ s) (slot : Nat) :
    Keeps s₀ (State.countMod s slot) := by
  unfold State.countMod
  (try dsimp only)
  repeat' first | with_reducible assumption | (with_reducible first | apply State.modPlay_keeps | apply State.raise_keeps) | split | rfl | intro _ | dsimp only | assumption

theorem execScheduledEdge_keeps {s₀ s : State} (h : Keeps s₀ s) (k : Cell) :
    KeepsOut s₀ (execScheduledEdge k s) := by
  unfold execScheduledEdge
  (try dsimp only)
  repeat' first | with_reducible assumption | (with_reducible first | apply State.done_keeps | apply State.modCell_keeps | apply State.reviewHolds_keeps | apply State.modSeg_keeps | apply State.commutate_keeps | apply State.countSeg_keeps | apply State.park_keeps) | split | rfl | intro _ | dsimp only | assumption

theorem execCommutationStep_keeps {s₀ s : State} (h : Keeps s₀ s) (k : Cell) :
    KeepsOut s₀ (execCommutationStep k s) := by
  unfold execCommutationStep
  (try dsimp only)
  repeat' first | with_reducible assumption | (with_reducible first | apply State.done_keeps | apply State.undo_keeps | apply State.modCell_keeps | apply State.gateFailure_keeps) | split | rfl | intro _ | dsimp only | assumption

theorem State.completeTransition_keeps {s₀ s : State} (h : Keeps s₀ s) (k : Cell) (t : Transition) :
    Keeps s₀ (State.completeTransition s k t) := by
  unfold State.completeTransition
  (try dsimp only)
  repeat' first | with_reducible assumption | (with_reducible first | apply State.modCell_keeps | apply State.modMeas_keeps | apply State.sendUp_keeps | apply State.disturbNear_keeps | apply State.kvalClear_keeps | apply State.afterTransition_keeps | apply State.countSeg_keeps | apply each_keeps) | split | rfl | intro _ | dsimp only | assumption

theorem execStepConfirmed_keeps {s₀ s : State} (h : Keeps s₀ s) (k : Cell) :
    KeepsOut s₀ (execStepConfirmed k s) := by
  unfold execStepConfirmed
  (try dsimp only)
  repeat' first | with_reducible assumption | (with_reducible first | apply State.done_keeps | apply State.completeTransition_keeps | apply State.modCell_keeps) | split | rfl | intro _ | dsimp only | assumption

theorem execStepUnconfirmed_keeps {s₀ s : State} (h : Keeps s₀ s) (k : Cell) :
    KeepsOut s₀ (execStepUnconfirmed k s) := by
  unfold execStepUnconfirmed
  (try dsimp only)
  repeat' first | with_reducible assumption | (with_reducible first | apply State.done_keeps | apply State.undo_keeps | apply State.gateFailure_keeps) | split | rfl | intro _ | dsimp only | assumption

theorem execNoPath_keeps {s₀ s : State} (h : Keeps s₀ s) (k : Cell) :
    KeepsOut s₀ (execNoPath k s) := by
  unfold execNoPath
  (try dsimp only)
  repeat' first | with_reducible assumption | (with_reducible first | apply State.done_keeps | apply State.modCell_keeps | apply State.segReport_keeps) | split | rfl | intro _ | dsimp only | assumption

theorem execOvTrip_keeps {s₀ s : State} (h : Keeps s₀ s) (k : Cell) (v : Int) :
    KeepsOut s₀ (execOvTrip k v s) := by
  unfold execOvTrip
  (try dsimp only)
  repeat' first | with_reducible assumption | (with_reducible first | apply State.park_keeps | apply State.segReport_keeps | apply State.done_keeps) | split | rfl | intro _ | dsimp only | assumption

theorem execUvTrip_keeps {s₀ s : State} (h : Keeps s₀ s) (k : Cell) (v : Int) :
    KeepsOut s₀ (execUvTrip k v s) := by
  unfold execUvTrip
  (try dsimp only)
  repeat' first | with_reducible assumption | (with_reducible first | apply State.park_keeps | apply State.segReport_keeps | apply State.done_keeps) | split | rfl | intro _ | dsimp only | assumption

theorem execClampDetect_keeps {s₀ s : State} (h : Keeps s₀ s) (k : Cell) :
    KeepsOut s₀ (execClampDetect k s) := by
  unfold execClampDetect
  (try dsimp only)
  repeat' first | with_reducible assumption | (with_reducible first | apply State.park_keeps | apply State.segReport_keeps | apply State.done_keeps) | split | rfl | intro _ | dsimp only | assumption

theorem execKeeperTrip_keeps {s₀ s : State} (h : Keeps s₀ s) (g : Seg) (supplyFailed : Bool) :
    KeepsOut s₀ (execKeeperTrip g supplyFailed s) := by
  unfold execKeeperTrip
  (try dsimp only)
  repeat' first | with_reducible assumption | (with_reducible first | apply State.keeperTrips_keeps | apply State.modSeg_keeps | apply State.done_keeps) | split | rfl | intro _ | dsimp only | assumption

theorem execKeeperHoldExpiry_keeps {s₀ s : State} (h : Keeps s₀ s) (g : Seg) :
    KeepsOut s₀ (execKeeperHoldExpiry g s) := by
  unfold execKeeperHoldExpiry
  (try dsimp only)
  repeat' first | with_reducible assumption | (with_reducible first | apply State.done_keeps | apply State.modSeg_keeps | apply State.modCell_keeps | apply each_keeps) | split | rfl | intro _ | dsimp only | assumption

theorem State.releaseKeeper_keeps {s₀ s : State} (h : Keeps s₀ s) (g : Seg) :
    Keeps s₀ (State.releaseKeeper s g) := by
  unfold State.releaseKeeper
  (try dsimp only)
  repeat' first | with_reducible assumption | (with_reducible first | apply State.modSeg_keeps | apply State.modCell_keeps | apply State.park_keeps | apply each_keeps) | split | rfl | intro _ | dsimp only | assumption

theorem State.openCell_keeps {s₀ s : State} (h : Keeps s₀ s) (k : Cell) :
    Keeps s₀ (State.openCell s k) := by
  unfold State.openCell
  (try dsimp only)
  repeat' first | with_reducible assumption | (with_reducible first | apply State.park_keeps | apply State.modCell_keeps | apply State.disturbOpen_keeps) | split | rfl | intro _ | dsimp only | assumption

theorem State.closeCell_keeps {s₀ s : State} (h : Keeps s₀ s) (k : Cell) :
    Keeps s₀ (State.closeCell s k) := by
  unfold State.closeCell
  (try dsimp only)
  repeat' first | with_reducible assumption | (with_reducible first | apply State.leaveOpen_keeps) | split | rfl | intro _ | dsimp only | assumption

theorem State.wroteCellCfg_keeps {s₀ s : State} (h : Keeps s₀ s) (k : Cell) (old v mask : Word) (corner : Nat) :
    Keeps s₀ (State.wroteCellCfg s k old v mask corner) := by
  unfold State.wroteCellCfg
  (try dsimp only)
  repeat' first | with_reducible assumption | (with_reducible first | apply State.modMeas_keeps | apply State.reviewHolds_keeps | apply State.park_keeps | apply State.openCell_keeps | apply State.closeCell_keeps) | split | rfl | intro _ | dsimp only | assumption

theorem State.releaseCell_keeps {s₀ s : State} (h : Keeps s₀ s) (k : Cell) :
    Keeps s₀ (State.releaseCell s k) := by
  unfold State.releaseCell
  (try dsimp only)
  repeat' first | with_reducible assumption | (with_reducible first | apply State.park_keeps | apply State.modCell_keeps) | split | rfl | intro _ | dsimp only | assumption

theorem State.judgeRelease_keeps {s₀ s : State} (h : Keeps s₀ s) (cells : BitVec 256) :
    Keeps s₀ (State.judgeRelease s cells).2 := by
  unfold State.judgeRelease
  (try dsimp only)
  repeat' first | with_reducible assumption | (with_reducible first | apply State.sendDown_keeps | apply each_keeps) | split | rfl | intro _ | dsimp only | assumption

theorem State.judgeRelease_keepsEq {s₀ s u₁ : State} {a₁} {cells : BitVec 256}
    (e : State.judgeRelease s cells = (a₁, u₁)) (h : Keeps s₀ s) : Keeps s₀ u₁ := by
  have k := State.judgeRelease_keeps h cells
  rw [e] at k
  exact k

end Sys2Proof.Machine
end

