-- ==== Sys2Proof/Laws/KeepsPlayer.lean ====
section
/-!
SUPPORT. What the operations of Machine/Player.lean keep: the queue, what has left, the free values, canonical memory.
-/

namespace Sys2Proof.Machine

theorem State.sendTarget_keeps {s₀ s : State} (h : Keeps s₀ s) (target : Int) (zero : Bool) :
    Keeps s₀ (State.sendTarget s target zero) := by
  unfold State.sendTarget
  (try dsimp only)
  repeat' first | with_reducible assumption | (with_reducible first | apply State.modSpc_keeps | apply State.modPlay_keeps) | split | rfl | intro _ | dsimp only | assumption

theorem State.feedPlans_keeps {s₀ s : State} (h : Keeps s₀ s) :
    Keeps s₀ (State.feedPlans s) := by
  unfold State.feedPlans
  (try dsimp only)
  repeat' first | with_reducible assumption | (with_reducible first | apply State.modSpc_keeps) | split | rfl | intro _ | dsimp only | assumption

theorem State.planAll_keeps {s₀ s : State} (h : Keeps s₀ s) (entry exit_ : Bool) :
    Keeps s₀ (State.planAll s entry exit_) := by
  unfold State.planAll
  (try dsimp only)
  repeat' first | with_reducible assumption | (with_reducible first | apply State.putCells_keeps | apply State.feedPlans_keeps) | split | rfl | intro _ | dsimp only | assumption

theorem State.beginStep_keeps {s₀ s : State} (h : Keeps s₀ s) (i : Nat) :
    Keeps s₀ (State.beginStep s i) := by
  unfold State.beginStep
  (try dsimp only)
  repeat' first | with_reducible assumption | (with_reducible first | apply State.clearStep_keeps | apply State.modPlay_keeps | apply State.setHold_keeps | apply State.beginHold_keeps | apply State.sendTarget_keeps | apply each_keeps) | split | rfl | intro _ | dsimp only | assumption

theorem execRunStart_keeps {s₀ s : State} (h : Keeps s₀ s) :
    KeepsOut s₀ (execRunStart s) := by
  unfold execRunStart
  (try dsimp only)
  repeat' first | with_reducible assumption | (with_reducible first | apply State.modPlay_keeps | apply State.beginStep_keeps | apply State.done_keeps) | split | rfl | intro _ | dsimp only | assumption

theorem State.entryCycle_keeps {s₀ s : State} (h : Keeps s₀ s) :
    Keeps s₀ (State.entryCycle s) := by
  unfold State.entryCycle
  (try dsimp only)
  repeat' first | with_reducible assumption | (with_reducible first | apply State.putCells_keeps | apply State.modPlay_keeps | apply State.modRes_keeps | apply State.setAna_keeps | apply State.planAll_keeps) | split | rfl | intro _ | dsimp only | assumption

theorem State.setDerated_keeps {s₀ s : State} (h : Keeps s₀ s) :
    Keeps s₀ (State.setDerated s) := by
  unfold State.setDerated
  (try dsimp only)
  repeat' first | with_reducible assumption | (with_reducible first | apply State.modPlay_keeps | apply State.raise_keeps) | split | rfl | intro _ | dsimp only | assumption

theorem State.clearDerated_keeps {s₀ s : State} (h : Keeps s₀ s) :
    Keeps s₀ (State.clearDerated s) := by
  unfold State.clearDerated
  (try dsimp only)
  repeat' first | with_reducible assumption | (with_reducible first | apply State.modPlay_keeps) | split | rfl | intro _ | dsimp only | assumption

theorem State.countTime_keeps {s₀ s : State} (h : Keeps s₀ s) :
    Keeps s₀ (State.countTime s) := by
  unfold State.countTime
  (try dsimp only)
  repeat' first | with_reducible assumption | (with_reducible first | apply State.modPlay_keeps) | split | rfl | intro _ | dsimp only | assumption

theorem State.evaluateDone_keeps {s₀ s : State} (h : Keeps s₀ s) (m z : Nat) (walking : Bool) (k : Cell) :
    Keeps s₀ (State.evaluateDone s m z walking k) := by
  unfold State.evaluateDone
  (try dsimp only)
  repeat' first | with_reducible assumption | (with_reducible first | apply State.modAna_keeps | apply State.taperRecord_keeps) | split | rfl | intro _ | dsimp only | assumption

theorem State.evaluateAll_keeps {s₀ s : State} (h : Keeps s₀ s) (m z : Nat) (l : List (Cell × Bool)) :
    Keeps s₀ (State.evaluateAll s m z l) := by
  unfold State.evaluateAll
  (try dsimp only)
  repeat' first | with_reducible assumption | (with_reducible first | apply State.evaluateDone_keeps | apply each_keeps) | split | rfl | intro _ | dsimp only | assumption

theorem State.takeDone_keeps {s₀ s : State} (h : Keeps s₀ s) (m : Nat) (k : Cell) :
    Keeps s₀ (State.takeDone s m k) := by
  unfold State.takeDone
  (try dsimp only)
  repeat' first | with_reducible assumption | (with_reducible first | apply State.modAna_keeps | apply State.beginHold_keeps) | split | rfl | intro _ | dsimp only | assumption

theorem State.startWalk_keeps {s₀ s : State} (h : Keeps s₀ s) (k : Cell) (freq base : Nat) :
    Keeps s₀ (State.startWalk s k freq base) := by
  unfold State.startWalk
  (try dsimp only)
  repeat' first | with_reducible assumption | (with_reducible first | apply State.modCell_keeps | apply State.modAna_keeps) | split | rfl | intro _ | dsimp only | assumption

theorem State.advanceWalk_keeps {s₀ s : State} (h : Keeps s₀ s) (more : Bool) (k : Cell) :
    Keeps s₀ (State.advanceWalk s more k) := by
  unfold State.advanceWalk
  (try dsimp only)
  repeat' first | with_reducible assumption | (with_reducible first | apply State.settle_keeps | apply State.modCell_keeps | apply State.modAna_keeps | apply State.sweepRecord_keeps | apply State.startWalk_keeps) | split | rfl | intro _ | dsimp only | assumption

theorem execSweepStart_keeps {s₀ s : State} (h : Keeps s₀ s) :
    KeepsOut s₀ (execSweepStart s) := by
  unfold execSweepStart
  (try dsimp only)
  repeat' first | with_reducible assumption | (with_reducible first | apply State.done_keeps | apply State.modRes_keeps | apply State.startWalk_keeps | apply State.putCells_keeps | apply State.sweepRecord_keeps | apply State.endSweep_keeps | apply each_keeps) | split | rfl | intro _ | dsimp only | assumption

theorem State.idleCells_keeps {s₀ s : State} (h : Keeps s₀ s) :
    Keeps s₀ (State.idleCells s) := by
  unfold State.idleCells
  (try dsimp only)
  repeat' first | with_reducible assumption | (with_reducible first | apply State.modCell_keeps | apply State.beginHold_keeps | apply each_keeps) | split | rfl | intro _ | dsimp only | assumption

theorem State.answerStop_keeps {s₀ s : State} (h : Keeps s₀ s) :
    Keeps s₀ (State.answerStop s) := by
  unfold State.answerStop
  (try dsimp only)
  repeat' first | with_reducible assumption | (with_reducible first | apply State.setStop_keeps | apply State.replyLate_keeps) | split | rfl | intro _ | dsimp only | assumption

theorem State.finishRun_keeps {s₀ s : State} (h : Keeps s₀ s) :
    Keeps s₀ (State.finishRun s) := by
  unfold State.finishRun
  (try dsimp only)
  repeat' first | with_reducible assumption | (with_reducible first | apply State.endStep_keeps | apply State.clearStep_keeps | apply State.enter_keeps | apply State.modPlay_keeps | apply State.idleCells_keeps | apply State.askRestart_keeps | apply State.abortSlice_keeps | apply State.dropSweep_keeps | apply State.reviewAll_keeps | apply State.answerStop_keeps) | split | rfl | intro _ | dsimp only | assumption

theorem State.tryFinish_keeps {s₀ s : State} (h : Keeps s₀ s) :
    Keeps s₀ (State.tryFinish s) := by
  unfold State.tryFinish
  (try dsimp only)
  repeat' first | with_reducible assumption | (with_reducible first | apply State.finishRun_keeps) | split | rfl | intro _ | dsimp only | assumption

theorem State.beginStopping_keeps {s₀ s : State} (h : Keeps s₀ s) (code : Nat) (inExit : Bool) :
    Keeps s₀ (State.beginStopping s code inExit) := by
  unfold State.beginStopping
  (try dsimp only)
  repeat' first | with_reducible assumption | (with_reducible first | apply State.cutSweep_keeps | apply State.endSweep_keeps | apply State.modPlay_keeps | apply State.sendTarget_keeps | apply each_keeps) | split | rfl | intro _ | dsimp only | assumption

theorem State.stopRun_keeps {s₀ s : State} (h : Keeps s₀ s) (o : Origin) :
    Keeps s₀ (State.stopRun s o).1 := by
  unfold State.stopRun
  (try dsimp only)
  repeat' first | with_reducible assumption | (with_reducible first | apply State.finishRun_keeps | apply State.setStop_keeps | apply State.beginStopping_keeps) | split | rfl | intro _ | dsimp only | assumption

theorem State.stopRun_keepsEq {s₀ s u₁ : State} {a₁} {o : Origin}
    (e : State.stopRun s o = (u₁, a₁)) (h : Keeps s₀ s) : Keeps s₀ u₁ := by
  have k := State.stopRun_keeps h o
  rw [e] at k
  exact k

theorem State.closeStep_keeps {s₀ s : State} (h : Keeps s₀ s) :
    Keeps s₀ (State.closeStep s) := by
  unfold State.closeStep
  (try dsimp only)
  repeat' first | with_reducible assumption | (with_reducible first | apply State.endStep_keeps | apply State.clearStep_keeps) | split | rfl | intro _ | dsimp only | assumption

theorem State.playBoundary_keeps {s₀ s : State} (h : Keeps s₀ s) (m : Nat) :
    Keeps s₀ (State.playBoundary s m) := by
  unfold State.playBoundary
  (try dsimp only)
  repeat' first | with_reducible assumption | (with_reducible first | apply State.countTime_keeps | apply State.takeDone_keeps | apply State.modPlay_keeps | apply State.advanceWalk_keeps | apply State.endSweep_keeps | apply State.evaluateAll_keeps | apply State.putCells_keeps | apply State.sendTarget_keeps | apply State.planAll_keeps | apply State.cutSweep_keeps | apply State.beginStopping_keeps | apply each_keeps) | split | rfl | intro _ | dsimp only | assumption

theorem execCycleBoundary_keeps {s₀ s : State} (h : Keeps s₀ s) :
    KeepsOut s₀ (execCycleBoundary s) := by
  unfold execCycleBoundary
  (try dsimp only)
  repeat' first | with_reducible assumption | (with_reducible first | apply State.done_keeps | apply State.modPlay_keeps | apply State.playBoundary_keeps | apply State.entryCycle_keeps | apply State.closeStep_keeps | apply State.beginStep_keeps | apply State.tryFinish_keeps | apply State.planAll_keeps) | split | rfl | intro _ | dsimp only | assumption

theorem State.moveCell_keeps {s₀ s : State} (h : Keeps s₀ s) (k : Cell) :
    Keeps s₀ (State.moveCell s k) := by
  unfold State.moveCell
  (try dsimp only)
  repeat' first | with_reducible assumption | (with_reducible first | apply State.modCell_keeps) | split | rfl | intro _ | dsimp only | assumption

theorem execRungMove_keeps {s₀ s : State} (h : Keeps s₀ s) (g : Seg) :
    KeepsOut s₀ (execRungMove g s) := by
  unfold execRungMove
  (try dsimp only)
  repeat' first | with_reducible assumption | (with_reducible first | apply State.moveCell_keeps | apply State.done_keeps | apply each_keeps) | split | rfl | intro _ | dsimp only | assumption

theorem State.takeAnswer_keeps {s₀ s : State} (h : Keeps s₀ s) (a : Answer) :
    Keeps s₀ (State.takeAnswer s a) := by
  unfold State.takeAnswer
  (try dsimp only)
  repeat' first | with_reducible assumption | (with_reducible first | apply State.modPlay_keeps | apply State.clearDerated_keeps | apply State.setDerated_keeps | apply State.raise_keeps) | split | rfl | intro _ | dsimp only | assumption

theorem State.noteAnswer_keeps {s₀ s : State} (h : Keeps s₀ s) (a : Answer) :
    Keeps s₀ (State.noteAnswer s a) := by
  unfold State.noteAnswer
  (try dsimp only)
  repeat' first | with_reducible assumption | (with_reducible first | apply State.modPlay_keeps | apply State.clearDerated_keeps | apply State.setDerated_keeps) | split | rfl | intro _ | dsimp only | assumption

theorem execFrameAnswer_keeps {s₀ s : State} (h : Keeps s₀ s) :
    KeepsOut s₀ (execFrameAnswer s) := by
  unfold execFrameAnswer
  (try dsimp only)
  repeat' first | with_reducible assumption | (with_reducible first | apply State.done_keeps | apply State.modSpc_keeps | apply State.noteAnswer_keeps | apply State.takeAnswer_keeps | apply State.beginStep_keeps | apply State.tryFinish_keeps) | split | rfl | intro _ | dsimp only | assumption

theorem execFrameDeadline_keeps {s₀ s : State} (h : Keeps s₀ s) :
    KeepsOut s₀ (execFrameDeadline s) := by
  unfold execFrameDeadline
  (try dsimp only)
  repeat' first | with_reducible assumption | (with_reducible first | apply State.raise_keeps | apply State.done_keeps) | split | rfl | intro _ | dsimp only | assumption

theorem State.runCmd_keeps {s₀ s : State} (h : Keeps s₀ s) (t : Nat) :
    Keeps s₀ (State.runCmd s t).2 := by
  unfold State.runCmd
  (try dsimp only)
  repeat' first | with_reducible assumption | (with_reducible first | apply State.enter_keeps | apply State.powerActive_keeps | apply State.modPlay_keeps | apply State.askRestart_keeps | apply State.abortSlice_keeps | apply State.modShunts_keeps | apply State.putCells_keeps | apply State.reviewAll_keeps) | split | rfl | intro _ | dsimp only | assumption

theorem State.runCmd_keepsEq {s₀ s u₁ : State} {a₁} {t : Nat}
    (e : State.runCmd s t = (a₁, u₁)) (h : Keeps s₀ s) : Keeps s₀ u₁ := by
  have k := State.runCmd_keeps h t
  rw [e] at k
  exact k

theorem State.swapBanks_keeps {s₀ s : State} (h : Keeps s₀ s) :
    Keeps s₀ (State.swapBanks s) := by
  unfold State.swapBanks
  (try dsimp only)
  repeat' first | with_reducible assumption | (with_reducible first | apply State.setSegs_keeps | apply State.modPlay_keeps | apply State.reviewAll_keeps) | split | rfl | intro _ | dsimp only | assumption

theorem State.directSwap_keeps {s₀ s : State} (h : Keeps s₀ s) : Keeps s₀ (s.directSwap.getD s) := by
  unfold State.directSwap
  split
  · rw [Option.getD_some]
    exact State.modPlay_keeps h _
  · exact h


theorem execSwapApplied_keeps {s₀ s : State} (h : Keeps s₀ s) :
    KeepsOut s₀ (execSwapApplied s) := by
  unfold execSwapApplied
  (try dsimp only)
  repeat' first | with_reducible assumption | (with_reducible first | apply State.done_keeps | apply State.swapBanks_keeps | apply State.modPlay_keeps) | split | rfl | intro _ | dsimp only | assumption

end Sys2Proof.Machine
end

