-- ==== Sys2Proof/Laws/KeepsSpcRows.lean ====
section
/-!
SUPPORT. What the operations of Machine/SpcRows.lean keep: the queue, what has left, the free values, canonical memory.
-/

namespace Sys2Proof.Machine

theorem State.dropFrame_keeps {s₀ s : State} (h : Keeps s₀ s) :
    Keeps s₀ (State.dropFrame s) := by
  unfold State.dropFrame
  (try dsimp only)
  repeat' first | with_reducible assumption | (with_reducible first | apply State.modSpc_keeps) | split | rfl | intro _ | dsimp only | assumption

theorem State.takeFrame_keeps {s₀ s : State} (h : Keeps s₀ s) (f : BitVec 64) (external : Bool) :
    Keeps s₀ (State.takeFrame s f external) := by
  unfold State.takeFrame
  (try dsimp only)
  repeat' first | with_reducible assumption | (with_reducible first | apply State.judgeFrame_keeps | apply State.signFrom_keeps | apply State.inhibit_keeps | apply State.raise_keeps) | split | rfl | intro _ | refine State.judgeFrame_keepsEq (by assumption) ?_ | dsimp only | assumption

theorem State.stepFrame_keeps {s₀ s : State} (h : Keeps s₀ s) (f : BitVec 64) :
    Keeps s₀ (State.stepFrame s f) := by
  unfold State.stepFrame
  (try dsimp only)
  repeat' first | with_reducible assumption | (with_reducible first | apply State.dropFrame_keeps | apply State.stepValid_keeps | apply State.takeFrame_keeps) | split | rfl | intro _ | dsimp only | assumption

theorem execSetFrame_keeps {s₀ s : State} (h : Keeps s₀ s) (ext : Option (BitVec 64)) :
    KeepsOut s₀ (execSetFrame ext s) := by
  unfold execSetFrame
  (try dsimp only)
  repeat' first | with_reducible assumption | (with_reducible first | apply State.stepFrame_keeps | apply State.done_keeps | apply State.modSpc_keeps | apply State.takeFrame_keeps) | split | rfl | intro _ | dsimp only | assumption

theorem execStepIdle_keeps {s₀ s : State} (h : Keeps s₀ s) (f : BitVec 64) :
    KeepsOut s₀ (execStepIdle f s) := by
  unfold execStepIdle
  (try dsimp only)
  repeat' first | with_reducible assumption | (with_reducible first | apply State.stepFrame_keeps | apply State.done_keeps) | split | rfl | intro _ | dsimp only | assumption

theorem execStepFrameDropped_keeps {s₀ s : State} (h : Keeps s₀ s) (f : BitVec 64) :
    KeepsOut s₀ (execStepFrameDropped f s) := by
  unfold execStepFrameDropped
  (try dsimp only)
  repeat' first | with_reducible assumption | (with_reducible first | apply State.stepFrame_keeps | apply State.done_keeps) | split | rfl | intro _ | dsimp only | assumption

theorem State.stepDown_keeps {s₀ s : State} (h : Keeps s₀ s) :
    Keeps s₀ (State.stepDown s) := by
  unfold State.stepDown
  (try dsimp only)
  repeat' first | with_reducible assumption | (with_reducible first | apply State.nakPending_keeps | apply State.raise_keeps) | split | rfl | intro _ | dsimp only | assumption

theorem execStepLinkLost_keeps {s₀ s : State} (h : Keeps s₀ s) :
    KeepsOut s₀ (execStepLinkLost s) := by
  unfold execStepLinkLost
  (try dsimp only)
  repeat' first | with_reducible assumption | (with_reducible first | apply State.modSpc_keeps | apply State.stepDown_keeps | apply State.done_keeps) | split | rfl | intro _ | dsimp only | assumption

theorem State.checkNoPhase_keeps {s₀ s : State} (h : Keeps s₀ s) :
    Keeps s₀ (State.checkNoPhase s) := by
  unfold State.checkNoPhase
  (try dsimp only)
  repeat' first | with_reducible assumption | (with_reducible first | apply State.inhibit_keeps | apply State.raise_keeps) | split | rfl | intro _ | dsimp only | assumption

theorem State.phasesChanged_keeps {s₀ s : State} (h : Keeps s₀ s) :
    Keeps s₀ (State.phasesChanged s) := by
  unfold State.phasesChanged
  (try dsimp only)
  repeat' first | with_reducible assumption | (with_reducible first | apply State.releasePhase_keeps | apply State.modSpc_keeps | apply State.checkNoPhase_keeps | apply State.capacityChanged_keeps | apply State.addPhases_keeps | apply State.recentre_keeps | apply State.settleNoPhase_keeps | apply each_keeps) | split | rfl | intro _ | dsimp only | assumption

theorem State.failPhase_keeps {s₀ s : State} (h : Keeps s₀ s) (p : Phase) (c : PhaseCause) :
    Keeps s₀ (State.failPhase s p c) := by
  unfold State.failPhase
  (try dsimp only)
  repeat' first | with_reducible assumption | (with_reducible first | apply State.modPhase_keeps | apply State.endToggle_keeps | apply State.modSpc_keeps | apply State.phasesChanged_keeps | apply State.raise_keeps) | split | rfl | intro _ | dsimp only | assumption

theorem execAddTimeout_keeps {s₀ s : State} (h : Keeps s₀ s) (p : Phase) :
    KeepsOut s₀ (execAddTimeout p s) := by
  unfold execAddTimeout
  (try dsimp only)
  repeat' first | with_reducible assumption | (with_reducible first | apply State.failPhase_keeps | apply State.done_keeps) | split | rfl | intro _ | dsimp only | assumption

theorem execPhaseFailed_keeps {s₀ s : State} (h : Keeps s₀ s) (p : Phase) (c : PhaseCause) :
    KeepsOut s₀ (execPhaseFailed p c s) := by
  unfold execPhaseFailed
  (try dsimp only)
  repeat' first | with_reducible assumption | (with_reducible first | apply State.failPhase_keeps | apply State.done_keeps) | split | rfl | intro _ | dsimp only | assumption

theorem State.clearFailed_keeps {s₀ s : State} (h : Keeps s₀ s) (bits : Nat) :
    Keeps s₀ (State.clearFailed s bits) := by
  unfold State.clearFailed
  (try dsimp only)
  repeat' first | with_reducible assumption | (with_reducible first | apply State.modPhase_keeps | apply State.phasesChanged_keeps | apply each_keeps) | split | rfl | intro _ | dsimp only | assumption

theorem execPhaseShed_keeps {s₀ s : State} (h : Keeps s₀ s) :
    KeepsOut s₀ (execPhaseShed s) := by
  unfold execPhaseShed
  (try dsimp only)
  repeat' first | with_reducible assumption | (with_reducible first | apply State.modPhase_keeps | apply State.modSpc_keeps | apply State.recentre_keeps | apply State.done_keeps) | split | rfl | intro _ | dsimp only | assumption

theorem execPhasesReleased_keeps {s₀ s : State} (h : Keeps s₀ s) :
    KeepsOut s₀ (execPhasesReleased s) := by
  unfold execPhasesReleased
  (try dsimp only)
  repeat' first | with_reducible assumption | (with_reducible first | apply State.stageOff_keeps | apply State.modSpc_keeps | apply State.done_keeps) | split | rfl | intro _ | dsimp only | assumption

theorem State.clampWidths_keeps {s₀ s : State} (h : Keeps s₀ s) :
    Keeps s₀ (State.clampWidths s) := by
  unfold State.clampWidths
  (try dsimp only)
  repeat' first | with_reducible assumption | (with_reducible first | apply State.modSpc_keeps) | split | rfl | intro _ | dsimp only | assumption

theorem State.adaptWidth_keeps {s₀ s : State} (h : Keeps s₀ s) (p : Phase) (periodNs : Nat) :
    Keeps s₀ (State.adaptWidth s p periodNs) := by
  unfold State.adaptWidth
  (try dsimp only)
  repeat' first | with_reducible assumption | (with_reducible first | apply State.freeBits_keeps | apply State.modPhase_keeps) | split | rfl | intro _ | dsimp only | assumption

theorem State.interleave_keeps {s₀ s : State} (h : Keeps s₀ s) (p : Phase) :
    Keeps s₀ (State.interleave s p) := by
  unfold State.interleave
  (try dsimp only)
  repeat' first | with_reducible assumption | (with_reducible first | apply State.freeBits_keeps | apply State.modPhase_keeps) | split | rfl | intro _ | dsimp only | assumption

theorem execPhaseSwitch_keeps {s₀ s : State} (h : Keeps s₀ s) (p : Phase) (code : Nat) :
    KeepsOut s₀ (execPhaseSwitch p code s) := by
  unfold execPhaseSwitch
  (try dsimp only)
  repeat' first | with_reducible assumption | (with_reducible first | apply State.done_keeps | apply State.modPhase_keeps | apply State.adaptWidth_keeps | apply State.interleave_keeps) | split | rfl | intro _ | dsimp only | assumption

theorem execWindowRescale_keeps {s₀ s : State} (h : Keeps s₀ s) :
    KeepsOut s₀ (execWindowRescale s) := by
  unfold execWindowRescale
  (try dsimp only)
  repeat' first | with_reducible assumption | (with_reducible first | apply State.modPhase_keeps | apply State.modSpc_keeps | apply State.done_keeps | apply each_keeps) | split | rfl | intro _ | dsimp only | assumption

theorem State.watchV_keeps {s₀ s : State} (h : Keeps s₀ s) :
    Keeps s₀ (State.watchV s) := by
  unfold State.watchV
  (try dsimp only)
  repeat' first | with_reducible assumption | (with_reducible first | apply State.modSpc_keeps | apply State.endInhibit_keeps) | split | rfl | intro _ | dsimp only | assumption

theorem execVstring_keeps {s₀ s : State} (h : Keeps s₀ s) :
    KeepsOut s₀ (execVstring s) := by
  unfold execVstring
  (try dsimp only)
  repeat' first | with_reducible assumption | (with_reducible first | apply State.inhibit_keeps | apply State.raise_keeps | apply State.done_keeps) | split | rfl | intro _ | dsimp only | assumption

theorem State.takeCodes_keeps {s₀ s : State} (h : Keeps s₀ s) (codes : List (List Nat)) :
    Keeps s₀ (State.takeCodes s codes) := by
  unfold State.takeCodes
  (try dsimp only)
  repeat' first | with_reducible assumption | (with_reducible first | apply State.modSpc_keeps) | split | rfl | intro _ | dsimp only | assumption

theorem State.settleHand_keeps {s₀ s : State} (h : Keeps s₀ s) :
    Keeps s₀ (State.settleHand s) := by
  unfold State.settleHand
  (try dsimp only)
  repeat' first | with_reducible assumption | (with_reducible first | apply State.modPhase_keeps | apply State.releasePhase_keeps | apply State.modSpc_keeps | apply each_keeps) | split | rfl | intro _ | dsimp only | assumption

theorem State.toggleStep_keeps {s₀ s : State} (h : Keeps s₀ s) :
    Keeps s₀ (State.toggleStep s) := by
  unfold State.toggleStep
  (try dsimp only)
  repeat' first | with_reducible assumption | (with_reducible first | apply State.modPhase_keeps | apply State.modSpc_keeps) | split | rfl | intro _ | dsimp only | assumption

theorem State.settleAdded_keeps {s₀ s : State} (h : Keeps s₀ s) :
    Keeps s₀ (State.settleAdded s) := by
  unfold State.settleAdded
  (try dsimp only)
  repeat' first | with_reducible assumption | (with_reducible first | apply State.modPhase_keeps | apply each_keeps) | split | rfl | intro _ | dsimp only | assumption

theorem State.rampOne_keeps {s₀ s : State} (h : Keeps s₀ s) :
    Keeps s₀ (State.rampOne s) := by
  unfold State.rampOne
  (try dsimp only)
  repeat' first | with_reducible assumption | (with_reducible first | apply State.modSpc_keeps) | split | rfl | intro _ | dsimp only | assumption

theorem State.spcTimers_keeps {s₀ s : State} (h : Keeps s₀ s) :
    Keeps s₀ (State.spcTimers s) := by
  unfold State.spcTimers
  (try dsimp only)
  repeat' first | with_reducible assumption | (with_reducible first | apply State.modSpc_keeps) | split | rfl | intro _ | dsimp only | assumption

theorem execRampStep_keeps {s₀ s : State} (h : Keeps s₀ s) (codes : List (List Nat)) :
    KeepsOut s₀ (execRampStep codes s) := by
  unfold execRampStep
  (try dsimp only)
  repeat' first | with_reducible assumption | (with_reducible first | apply State.done_keeps | apply State.modSpc_keeps | apply State.takeCodes_keeps | apply State.settleAdded_keeps | apply State.stepOutIdle_keeps | apply State.toggleStep_keeps | apply State.settleHand_keeps | apply State.rampOne_keeps | apply State.recentre_keeps | apply State.addPhase_keeps | apply State.spcTimers_keeps | apply State.stageOff_keeps | apply State.watchV_keeps | apply State.answerLast_keeps | apply State.settleNoPhase_keeps) | split | rfl | intro _ | dsimp only | assumption

theorem execDwellComplete_keeps {s₀ s : State} (h : Keeps s₀ s) :
    KeepsOut s₀ (execDwellComplete s) := by
  unfold execDwellComplete
  (try dsimp only)
  repeat' first | with_reducible assumption | (with_reducible first | apply State.answerLast_keeps | apply State.done_keeps | apply State.modSpc_keeps | apply State.sendAnswer_keeps) | split | rfl | intro _ | dsimp only | assumption

theorem execDeadlineMiss_keeps {s₀ s : State} (h : Keeps s₀ s) :
    KeepsOut s₀ (execDeadlineMiss s) := by
  unfold execDeadlineMiss
  (try dsimp only)
  repeat' first | with_reducible assumption | (with_reducible first | apply State.modSpc_keeps | apply State.raise_keeps | apply State.done_keeps) | split | rfl | intro _ | dsimp only | assumption

theorem State.unresolvedTest_keeps {s₀ s : State} (h : Keeps s₀ s) (d : Int) :
    Keeps s₀ (State.unresolvedTest s d) := by
  unfold State.unresolvedTest
  (try dsimp only)
  repeat' first | with_reducible assumption | (with_reducible first | apply State.modSpc_keeps | apply State.raise_keeps) | split | rfl | intro _ | dsimp only | assumption

theorem State.startToggle_keeps {s₀ s : State} (h : Keeps s₀ s) :
    Keeps s₀ (State.startToggle s) := by
  unfold State.startToggle
  (try dsimp only)
  repeat' first | with_reducible assumption | (with_reducible first | apply State.modSpc_keeps | apply State.addPhase_keeps | apply State.unresolvedTest_keeps | apply State.capacityChanged_keeps) | split | rfl | intro _ | dsimp only | assumption

theorem execToggleTest_keeps {s₀ s : State} (h : Keeps s₀ s) :
    KeepsOut s₀ (execToggleTest s) := by
  unfold execToggleTest
  (try dsimp only)
  repeat' first | with_reducible assumption | (with_reducible first | apply State.startToggle_keeps | apply State.done_keeps) | split | rfl | intro _ | dsimp only | assumption

theorem execToggleTestEnd_keeps {s₀ s : State} (h : Keeps s₀ s) :
    KeepsOut s₀ (execToggleTestEnd s) := by
  unfold execToggleTestEnd
  (try dsimp only)
  repeat' first | with_reducible assumption | (with_reducible first | apply State.done_keeps | apply State.endToggle_keeps | apply State.modSpc_keeps | apply State.failPhase_keeps | apply State.capacityChanged_keeps | apply State.unresolvedTest_keeps) | split | rfl | intro _ | dsimp only | assumption

theorem execToggleRetry_keeps {s₀ s : State} (h : Keeps s₀ s) :
    KeepsOut s₀ (execToggleRetry s) := by
  unfold execToggleRetry
  (try dsimp only)
  repeat' first | with_reducible assumption | (with_reducible first | apply State.done_keeps | apply State.startToggle_keeps | apply State.modSpc_keeps) | split | rfl | intro _ | dsimp only | assumption

theorem execPeak_keeps {s₀ s : State} (h : Keeps s₀ s) (p : Phase) (code : Nat) :
    KeepsOut s₀ (execPeak p code s) := by
  unfold execPeak
  (try dsimp only)
  repeat' first | with_reducible assumption | (with_reducible first | apply State.modPhase_keeps | apply State.done_keeps | apply State.inhibit_keeps | apply State.raise_keeps) | split | rfl | intro _ | dsimp only | assumption

theorem execPeakClear_keeps {s₀ s : State} (h : Keeps s₀ s) (codes : List Nat) :
    KeepsOut s₀ (execPeakClear codes s) := by
  unfold execPeakClear
  (try dsimp only)
  repeat' first | with_reducible assumption | (with_reducible first | apply State.modSpc_keeps | apply State.endInhibit_keeps | apply State.done_keeps) | split | rfl | intro _ | dsimp only | assumption

theorem State.wroteSpcEn_keeps {s₀ s : State} (h : Keeps s₀ s) (was now : Bool) :
    Keeps s₀ (State.wroteSpcEn s was now) := by
  unfold State.wroteSpcEn
  (try dsimp only)
  repeat' first | with_reducible assumption | (with_reducible first | apply State.modSpc_keeps | apply State.stageOff_keeps | apply State.nakPending_keeps | apply State.endToggle_keeps | apply State.retarget_keeps | apply State.signFrom_keeps) | split | rfl | intro _ | dsimp only | assumption

theorem State.wroteCapacity_keeps {s₀ s : State} (h : Keeps s₀ s) :
    Keeps s₀ (State.wroteCapacity s) := by
  unfold State.wroteCapacity
  (try dsimp only)
  repeat' first | with_reducible assumption | (with_reducible first | apply State.phasesChanged_keeps) | split | rfl | intro _ | dsimp only | assumption

theorem State.wroteStepCtrl_keeps {s₀ s : State} (h : Keeps s₀ s) (sourceChanged : Bool) :
    Keeps s₀ (State.wroteStepCtrl s sourceChanged) := by
  unfold State.wroteStepCtrl
  (try dsimp only)
  repeat' first | with_reducible assumption | (with_reducible first | apply State.modSpc_keeps | apply State.stepDown_keeps) | split | rfl | intro _ | dsimp only | assumption

theorem State.orphanRamp_keeps {s₀ s : State} (h : Keeps s₀ s) (rate : Nat) :
    Keeps s₀ (State.orphanRamp s rate) := by
  unfold State.orphanRamp
  (try dsimp only)
  repeat' first | with_reducible assumption | (with_reducible first | apply State.nakPending_keeps | apply State.endToggle_keeps | apply State.retarget_keeps | apply State.modSpc_keeps) | split | rfl | intro _ | dsimp only | assumption

end Sys2Proof.Machine
end

