-- ==== Sys2Proof/Laws/KeepsMeasure.lean ====
section
/-!
SUPPORT. What the operations of Machine/Measure.lean keep: the queue, what has left, the free values, canonical memory.
-/

namespace Sys2Proof.Machine

theorem State.streamOut_keeps {s₀ s : State} (h : Keeps s₀ s) (g : Seg) (w : BitVec 64) :
    Keeps s₀ (State.streamOut s g w) := by
  unfold State.streamOut
  (try dsimp only)
  repeat' first | with_reducible assumption | (with_reducible first | apply State.modShunts_keeps | apply State.sendUp_keeps) | split | rfl | intro _ | dsimp only | assumption

theorem State.streamCell_keeps {s₀ s : State} (h : Keeps s₀ s) (k : Cell) (kind source : Nat) (x : Sample) (value : Int) :
    Keeps s₀ (State.streamCell s k kind source x value) := by
  unfold State.streamCell
  (try dsimp only)
  repeat' first | with_reducible assumption | (with_reducible first | apply State.streamOut_keeps) | split | rfl | intro _ | dsimp only | assumption

theorem State.release_keeps {s₀ s : State} (h : Keeps s₀ s) (k : Cell) (x : Sample) :
    Keeps s₀ (State.release s k x) := by
  unfold State.release
  (try dsimp only)
  repeat' first | with_reducible assumption | (with_reducible first | apply State.modMeas_keeps | apply State.sendUp_keeps | apply State.streamCell_keeps) | split | rfl | intro _ | dsimp only | assumption

theorem State.releaseOcv_keeps {s₀ s : State} (h : Keeps s₀ s) (k : Cell) (x : Sample) :
    Keeps s₀ (State.releaseOcv s k x) := by
  unfold State.releaseOcv
  (try dsimp only)
  repeat' first | with_reducible assumption | (with_reducible first | apply State.modMeas_keeps | apply State.sendUp_keeps | apply State.streamCell_keeps) | split | rfl | intro _ | dsimp only | assumption

theorem State.releaseAs_keeps {s₀ s : State} (h : Keeps s₀ s) (k : Cell) (h : Held) (valid : Bool) :
    Keeps s₀ (State.releaseAs s k h valid) := by
  unfold State.releaseAs
  (try dsimp only)
  repeat' first | with_reducible assumption | (with_reducible first | apply State.releaseOcv_keeps | apply State.release_keeps) | split | rfl | intro _ | dsimp only | assumption

theorem State.hold_keeps {s₀ s : State} (h : Keeps s₀ s) (k : Cell) (h : Held) :
    Keeps s₀ (State.hold s k h) := by
  unfold State.hold
  (try dsimp only)
  repeat' first | with_reducible assumption | (with_reducible first | apply State.releaseAs_keeps | apply State.modMeas_keeps) | split | rfl | intro _ | dsimp only | assumption

theorem State.output_keeps {s₀ s : State} (h : Keeps s₀ s) (k : Cell) (x : Sample) :
    Keeps s₀ (State.output s k x) := by
  unfold State.output
  (try dsimp only)
  repeat' first | with_reducible assumption | (with_reducible first | apply State.hold_keeps) | split | rfl | intro _ | dsimp only | assumption

theorem State.loseCover_keeps {s₀ s : State} (h : Keeps s₀ s) (k : Cell) :
    Keeps s₀ (State.loseCover s k) := by
  unfold State.loseCover
  (try dsimp only)
  repeat' first | with_reducible assumption | (with_reducible first | apply State.modMeas_keeps | apply State.countDist_keeps) | split | rfl | intro _ | dsimp only | assumption

theorem execCoverTimeout_keeps {s₀ s : State} (h : Keeps s₀ s) (k : Cell) :
    KeepsOut s₀ (execCoverTimeout k s) := by
  unfold execCoverTimeout
  (try dsimp only)
  repeat' first | with_reducible assumption | (with_reducible first | apply State.done_keeps | apply State.modMeas_keeps | apply State.loseCover_keeps | apply State.releaseAs_keeps) | split | rfl | intro _ | dsimp only | assumption

theorem State.resumeCover_keeps {s₀ s : State} (h : Keeps s₀ s) (k : Cell) (t : Nat) :
    Keeps s₀ (State.resumeCover s k t) := by
  unfold State.resumeCover
  (try dsimp only)
  repeat' first | with_reducible assumption | (with_reducible first | apply State.countDist_keeps | apply State.modMeas_keeps) | split | rfl | intro _ | dsimp only | assumption

theorem State.coverTo_keeps {s₀ s : State} (h : Keeps s₀ s) (k : Cell) (t : Nat) :
    Keeps s₀ (State.coverTo s k t) := by
  unfold State.coverTo
  (try dsimp only)
  repeat' first | with_reducible assumption | (with_reducible first | apply State.resumeCover_keeps | apply State.modMeas_keeps | apply State.releaseAs_keeps | apply each_keeps) | split | rfl | intro _ | dsimp only | assumption

theorem State.gateSlot_keeps {s₀ s : State} (h : Keeps s₀ s) (k : Cell) (e : Nat) (v : Int) (sat : Bool) :
    Keeps s₀ (State.gateSlot s k e v sat) := by
  unfold State.gateSlot
  (try dsimp only)
  repeat' first | with_reducible assumption | (with_reducible first | apply State.modMeas_keeps | apply State.output_keeps) | split | rfl | intro _ | dsimp only | assumption

theorem State.restartFilter_keeps {s₀ s : State} (h : Keeps s₀ s) (k : Cell) (e : Nat) :
    Keeps s₀ (State.restartFilter s k e) := by
  unfold State.restartFilter
  (try dsimp only)
  repeat' first | with_reducible assumption | (with_reducible first | apply State.modMeas_keeps | apply State.output_keeps) | split | rfl | intro _ | dsimp only | assumption

theorem State.windowStart_keeps {s₀ s : State} (h : Keeps s₀ s) (k : Cell) (e : Nat) :
    Keeps s₀ (State.windowStart s k e) := by
  unfold State.windowStart
  (try dsimp only)
  repeat' first | with_reducible assumption | (with_reducible first | apply State.modMeas_keeps) | split | rfl | intro _ | dsimp only | assumption

theorem State.ocvSlot_keeps {s₀ s : State} (h : Keeps s₀ s) (k : Cell) (e : Nat) (v : Int) (sat : Bool) :
    Keeps s₀ (State.ocvSlot s k e v sat) := by
  unfold State.ocvSlot
  (try dsimp only)
  repeat' first | with_reducible assumption | (with_reducible first | apply State.modMeas_keeps) | split | rfl | intro _ | dsimp only | assumption

theorem State.ocvEnd_keeps {s₀ s : State} (h : Keeps s₀ s) (k : Cell) (e : Nat) :
    Keeps s₀ (State.ocvEnd s k e) := by
  unfold State.ocvEnd
  (try dsimp only)
  repeat' first | with_reducible assumption | (with_reducible first | apply State.modMeas_keeps | apply State.hold_keeps) | split | rfl | intro _ | dsimp only | assumption

theorem State.sendBurst_keeps {s₀ s : State} (h : Keeps s₀ s) (k : Cell) (b : Burst) :
    Keeps s₀ (State.sendBurst s k b) := by
  unfold State.sendBurst
  (try dsimp only)
  repeat' first | with_reducible assumption | (with_reducible first | apply State.sendUp_keeps | apply State.streamOut_keeps | apply each_keeps) | split | rfl | intro _ | dsimp only | assumption

theorem State.burstSlot_keeps {s₀ s : State} (h : Keeps s₀ s) (k : Cell) (e : Nat) (v : Int) :
    Keeps s₀ (State.burstSlot s k e v) := by
  unfold State.burstSlot
  (try dsimp only)
  repeat' first | with_reducible assumption | (with_reducible first | apply State.modMeas_keeps | apply State.sendBurst_keeps | apply each_keeps) | split | rfl | intro _ | dsimp only | assumption

theorem execSlotConversion_keeps {s₀ s : State} (h : Keeps s₀ s) (k : Cell) (uv : Int) :
    KeepsOut s₀ (execSlotConversion k uv s) := by
  unfold execSlotConversion
  (try dsimp only)
  repeat' first | with_reducible assumption | (with_reducible first | apply State.done_keeps | apply State.modMeas_keeps | apply State.gateSlot_keeps | apply State.ocvSlot_keeps | apply State.restartFilter_keeps | apply State.windowStart_keeps | apply State.ocvEnd_keeps | apply State.burstSlot_keeps) | split | rfl | intro _ | dsimp only | assumption

theorem State.servedSlots_keeps {s₀ s : State} (h : Keeps s₀ s) (k : Cell) (v : Int) (a b : Nat) :
    Keeps s₀ (State.servedSlots s k v a b) := by
  unfold State.servedSlots
  (try dsimp only)
  repeat' first | with_reducible assumption | (with_reducible first | apply State.gateSlot_keeps | apply State.ocvSlot_keeps | apply each_keeps) | split | rfl | intro _ | dsimp only | assumption

theorem State.takeOver_keeps {s₀ s : State} (h : Keeps s₀ s) (k : Cell) :
    Keeps s₀ (State.takeOver s k) := by
  unfold State.takeOver
  (try dsimp only)
  repeat' first | with_reducible assumption | (with_reducible first | apply State.modMeas_keeps | apply State.segReport_keeps) | split | rfl | intro _ | dsimp only | assumption

theorem State.giveBack_keeps {s₀ s : State} (h : Keeps s₀ s) (k : Cell) :
    Keeps s₀ (State.giveBack s k) := by
  unfold State.giveBack
  (try dsimp only)
  repeat' first | with_reducible assumption | (with_reducible first | apply State.modMeas_keeps | apply State.segReport_keeps) | split | rfl | intro _ | dsimp only | assumption

theorem State.crossCheck_keeps {s₀ s : State} (h : Keeps s₀ s) (k : Cell) (miss : Bool) :
    Keeps s₀ (State.crossCheck s k miss) := by
  unfold State.crossCheck
  (try dsimp only)
  repeat' first | with_reducible assumption | (with_reducible first | apply State.modMeas_keeps | apply State.giveBack_keeps | apply State.takeOver_keeps | apply State.segReport_keeps) | split | rfl | intro _ | dsimp only | assumption

theorem State.cellVisit_keeps {s₀ s : State} (h : Keeps s₀ s) (k : Cell) (raw : Int) (a z : Nat) :
    Keeps s₀ (State.cellVisit s k raw a z) := by
  unfold State.cellVisit
  (try dsimp only)
  repeat' first | with_reducible assumption | (with_reducible first | apply State.modMeas_keeps | apply State.sendUp_keeps | apply State.output_keeps | apply State.streamCell_keeps | apply State.servedSlots_keeps | apply State.crossCheck_keeps) | split | rfl | intro _ | dsimp only | assumption

theorem State.stackVisit_keeps {s₀ s : State} (h : Keeps s₀ s) (g : Seg) (raw : Int) (a z : Nat) :
    Keeps s₀ (State.stackVisit s g raw a z) := by
  unfold State.stackVisit
  (try dsimp only)
  repeat' first | with_reducible assumption | (with_reducible first | apply State.modSeg_keeps | apply State.streamOut_keeps | apply State.modShunts_keeps | apply State.segReport_keeps) | split | rfl | intro _ | dsimp only | assumption

theorem execVerifierVisit_keeps {s₀ s : State} (h : Keeps s₀ s) (ch : Channel) (value : Int) :
    KeepsOut s₀ (execVerifierVisit ch value s) := by
  unfold execVerifierVisit
  (try dsimp only)
  repeat' first | with_reducible assumption | (with_reducible first | apply State.done_keeps | apply State.modSeg_keeps | apply State.cellVisit_keeps | apply State.stackVisit_keeps) | split | rfl | intro _ | dsimp only | assumption

theorem execNoCrosscheck_keeps {s₀ s : State} (h : Keeps s₀ s) (k : Cell) :
    KeepsOut s₀ (execNoCrosscheck k s) := by
  unfold execNoCrosscheck
  (try dsimp only)
  repeat' first | with_reducible assumption | (with_reducible first | apply State.modMeas_keeps | apply State.segReport_keeps | apply State.done_keeps) | split | rfl | intro _ | dsimp only | assumption

theorem execCapture_keeps {s₀ s : State} (h : Keeps s₀ s) (k : Cell) (samples : List Int) :
    KeepsOut s₀ (execCapture k samples s) := by
  unfold execCapture
  (try dsimp only)
  repeat' first | with_reducible assumption | (with_reducible first | apply State.done_keeps | apply State.modShunts_keeps | apply State.segReport_keeps | apply State.modMeas_keeps) | split | rfl | intro _ | dsimp only | assumption

theorem State.contactUnder_keeps {s₀ s : State} (h : Keeps s₀ s) (k : Cell) (rp rn i : Int) (satP satN : Bool) (z : Nat) :
    Keeps s₀ (State.contactUnder s k rp rn i satP satN z) := by
  unfold State.contactUnder
  (try dsimp only)
  repeat' first | with_reducible assumption | (with_reducible first | apply State.park_keeps | apply State.modMeas_keeps | apply State.contactRecord_keeps | apply State.modAna_keeps | apply State.contactSummary_keeps | apply State.raise_keeps) | split | rfl | intro _ | dsimp only | assumption

theorem State.contactOpen_keeps {s₀ s : State} (h : Keeps s₀ s) (k : Cell) (pos neg : Int) (satP satN : Bool) (z : Nat) :
    Keeps s₀ (State.contactOpen s k pos neg satP satN z) := by
  unfold State.contactOpen
  (try dsimp only)
  repeat' first | with_reducible assumption | (with_reducible first | apply State.disturb_keeps | apply State.contactRecord_keeps | apply State.park_keeps | apply State.raise_keeps) | split | rfl | intro _ | dsimp only | assumption

theorem State.streamContact_keeps {s₀ s : State} (h : Keeps s₀ s) (k : Cell) (pos neg : Int) (satP satN : Bool) (z : Nat) :
    Keeps s₀ (State.streamContact s k pos neg satP satN z) := by
  unfold State.streamContact
  (try dsimp only)
  repeat' first | with_reducible assumption | (with_reducible first | apply State.streamOut_keeps) | split | rfl | intro _ | dsimp only | assumption

theorem execContactVisit_keeps {s₀ s : State} (h : Keeps s₀ s) (k : Cell) (pos neg : Int) (satP satN : Bool) :
    KeepsOut s₀ (execContactVisit k pos neg satP satN s) := by
  unfold execContactVisit
  (try dsimp only)
  repeat' first | with_reducible assumption | (with_reducible first | apply State.done_keeps | apply State.modSeg_keeps | apply State.modMeas_keeps | apply State.sendUp_keeps | apply State.output_keeps | apply State.streamContact_keeps | apply State.contactUnder_keeps | apply State.contactOpen_keeps) | split | rfl | intro _ | dsimp only | assumption

theorem State.checkShunts_keeps {s₀ s : State} (h : Keeps s₀ s) :
    Keeps s₀ (State.checkShunts s) := by
  unfold State.checkShunts
  (try dsimp only)
  repeat' first | with_reducible assumption | (with_reducible first | apply State.modShunts_keeps | apply State.raise_keeps) | split | rfl | intro _ | dsimp only | assumption

theorem State.quietSlot_keeps {s₀ s : State} (h : Keeps s₀ s) (slot : Nat) (b t : Option Int) :
    Keeps s₀ (State.quietSlot s slot b t) := by
  unfold State.quietSlot
  (try dsimp only)
  repeat' first | with_reducible assumption | (with_reducible first | apply State.modRes_keeps) | split | rfl | intro _ | dsimp only | assumption

theorem State.streamShunt_keeps {s₀ s : State} (h : Keeps s₀ s) (g : Seg) (slot : Nat) (x : Int × Nat × Bool) :
    Keeps s₀ (State.streamShunt s g slot x) := by
  unfold State.streamShunt
  (try dsimp only)
  repeat' first | with_reducible assumption | (with_reducible first | apply State.streamOut_keeps) | split | rfl | intro _ | dsimp only | assumption

theorem State.streamSlots_keeps {s₀ s : State} (h : Keeps s₀ s) (slot : Nat) (b t : Option Int) :
    Keeps s₀ (State.streamSlots s slot b t) := by
  unfold State.streamSlots
  (try dsimp only)
  repeat' first | with_reducible assumption | (with_reducible first | apply State.modShunts_keeps | apply State.streamShunt_keeps) | split | rfl | intro _ | dsimp only | assumption

theorem State.sendSlots_keeps {s₀ s : State} (h : Keeps s₀ s) (slot : Nat) (it : Option Int) :
    Keeps s₀ (State.sendSlots s slot it) := by
  unfold State.sendSlots
  (try dsimp only)
  repeat' first | with_reducible assumption | (with_reducible first | apply State.modShunts_keeps | apply State.sendDown_keeps | apply each_keeps) | split | rfl | intro _ | dsimp only | assumption

theorem execShuntSlotMean_keeps {s₀ s : State} (h : Keeps s₀ s) (bottomRaw topRaw : Option Int) :
    KeepsOut s₀ (execShuntSlotMean bottomRaw topRaw s) := by
  unfold execShuntSlotMean
  (try dsimp only)
  repeat' first | with_reducible assumption | (with_reducible first | apply State.done_keeps | apply State.modShunts_keeps | apply State.quietSlot_keeps | apply State.modPlay_keeps | apply State.modRes_keeps | apply State.streamSlots_keeps | apply State.sendSlots_keeps | apply State.checkShunts_keeps) | split | rfl | intro _ | dsimp only | assumption

theorem execShuntCompare_keeps {s₀ s : State} (h : Keeps s₀ s) :
    KeepsOut s₀ (execShuntCompare s) := by
  unfold execShuntCompare
  (try dsimp only)
  repeat' first | with_reducible assumption | (with_reducible first | apply State.done_keeps | apply State.modShunts_keeps | apply State.modSpc_keeps | apply State.raise_keeps) | split | rfl | intro _ | dsimp only | assumption

theorem State.readmit_keeps {s₀ s : State} (h : Keeps s₀ s) (bits : Nat) :
    Keeps s₀ (State.readmit s bits) := by
  unfold State.readmit
  (try dsimp only)
  repeat' first | with_reducible assumption | (with_reducible first | apply State.modShunts_keeps | apply State.checkShunts_keeps) | split | rfl | intro _ | dsimp only | assumption

theorem State.streamStart_keeps {s₀ s : State} (h : Keeps s₀ s) (segs : BitVec 16) (kinds : BitVec 8) (cells : BitVec 256) :
    Keeps s₀ (State.streamStart s segs kinds cells).2 := by
  unfold State.streamStart
  (try dsimp only)
  repeat' first | with_reducible assumption | (with_reducible first | apply State.modShunts_keeps | apply State.sendDown_keeps | apply each_keeps) | split | rfl | intro _ | dsimp only | assumption

theorem State.streamStart_keepsEq {s₀ s u₁ : State} {a₁} {segs : BitVec 16} {kinds : BitVec 8} {cells : BitVec 256}
    (e : State.streamStart s segs kinds cells = (a₁, u₁)) (h : Keeps s₀ s) : Keeps s₀ u₁ := by
  have k := State.streamStart_keeps h segs kinds cells
  rw [e] at k
  exact k

theorem State.streamStop_keeps {s₀ s : State} (h : Keeps s₀ s) :
    Keeps s₀ (State.streamStop s) := by
  unfold State.streamStop
  (try dsimp only)
  repeat' first | with_reducible assumption | (with_reducible first | apply State.modShunts_keeps | apply State.sendDown_keeps | apply each_keeps) | split | rfl | intro _ | dsimp only | assumption

theorem execStreamMark_keeps {s₀ s : State} (h : Keeps s₀ s) (g : Seg) :
    KeepsOut s₀ (execStreamMark g s) := by
  unfold execStreamMark
  (try dsimp only)
  repeat' first | with_reducible assumption | (with_reducible first | apply State.modShunts_keeps | apply State.streamOut_keeps | apply State.done_keeps) | split | rfl | intro _ | dsimp only | assumption

end Sys2Proof.Machine
end

