-- ==== Sys2Proof/Laws/KeepsAnalysis.lean ====
section
/-!
SUPPORT. What the operations of Machine/Analysis.lean keep: the queue, what has left, the free values, canonical memory.
-/

namespace Sys2Proof.Machine

theorem execZeroEstimate_keeps {s₀ s : State} (h : Keeps s₀ s) :
    KeepsOut s₀ (execZeroEstimate s) := by
  unfold execZeroEstimate
  (try dsimp only)
  repeat' first | with_reducible assumption | (with_reducible first | apply State.done_keeps | apply State.modRes_keeps) | split | rfl | intro _ | dsimp only | assumption

theorem execZeroStale_keeps {s₀ s : State} (h : Keeps s₀ s) :
    KeepsOut s₀ (execZeroStale s) := by
  unfold execZeroStale
  (try dsimp only)
  repeat' first | with_reducible assumption | (with_reducible first | apply State.modRes_keeps | apply State.raise_keeps | apply State.done_keeps) | split | rfl | intro _ | dsimp only | assumption

theorem execTally_keeps {s₀ s : State} (h : Keeps s₀ s) :
    KeepsOut s₀ (execTally s) := by
  unfold execTally
  (try dsimp only)
  repeat' first | with_reducible assumption | (with_reducible first | apply State.tallyRecord_keeps | apply State.modRes_keeps | apply State.done_keeps | apply each_keeps) | split | rfl | intro _ | dsimp only | assumption

theorem State.snapshots_keeps {s₀ s : State} (h : Keeps s₀ s) (t : Nat) :
    Keeps s₀ (State.snapshots s t) := by
  unfold State.snapshots
  (try dsimp only)
  repeat' first | with_reducible assumption | (with_reducible first | apply State.snapshotRecord_keeps | apply each_keeps) | split | rfl | intro _ | dsimp only | assumption

theorem execCellSnapshot_keeps {s₀ s : State} (h : Keeps s₀ s) :
    KeepsOut s₀ (execCellSnapshot s) := by
  unfold execCellSnapshot
  (try dsimp only)
  repeat' first | with_reducible assumption | (with_reducible first | apply State.snapshots_keeps | apply State.modRes_keeps | apply State.done_keeps) | split | rfl | intro _ | dsimp only | assumption

theorem State.wroteAnaCtrl_keeps {s₀ s : State} (h : Keeps s₀ s) (v : Word) :
    Keeps s₀ (State.wroteAnaCtrl s v) := by
  unfold State.wroteAnaCtrl
  (try dsimp only)
  repeat' first | with_reducible assumption | (with_reducible first | apply State.modRes_keeps | apply State.kvalAll_keeps | apply State.kvalClear_keeps | apply each_keeps) | split | rfl | intro _ | dsimp only | assumption

theorem execEdgeR_keeps {s₀ s : State} (h : Keeps s₀ s) (k : Cell) :
    KeepsOut s₀ (execEdgeR k s) := by
  unfold execEdgeR
  (try dsimp only)
  repeat' first | with_reducible assumption | (with_reducible first | apply State.done_keeps | apply State.modAna_keeps | apply State.edgeRecord_keeps) | split | rfl | intro _ | dsimp only | assumption

theorem State.sweepCmd_keeps {s₀ s : State} (h : Keeps s₀ s) (id plan t : Nat) (cells : BitVec 256) :
    Keeps s₀ (State.sweepCmd s id plan t cells).2 := by
  unfold State.sweepCmd
  (try dsimp only)
  repeat' first | with_reducible assumption | (with_reducible first | apply State.modRes_keeps | apply State.sendDown_keeps | apply each_keeps) | split | rfl | intro _ | dsimp only | assumption

theorem State.sweepCmd_keepsEq {s₀ s u₁ : State} {a₁} {id plan t : Nat} {cells : BitVec 256}
    (e : State.sweepCmd s id plan t cells = (a₁, u₁)) (h : Keeps s₀ s) : Keeps s₀ u₁ := by
  have k := State.sweepCmd_keeps h id plan t cells
  rw [e] at k
  exact k

end Sys2Proof.Machine
end

