-- ==== Sys2Proof/Laws/KeepsPower.lean ====
section
/-!
SUPPORT. What the operations of Machine/Power.lean keep: the queue, what has left, the free values, canonical memory.
-/

namespace Sys2Proof.Machine

theorem State.setPower_keeps {s₀ s : State} (h : Keeps s₀ s) (p : PowerState) :
    Keeps s₀ (State.setPower s p) := by
  unfold State.setPower
  (try dsimp only)
  repeat' first | with_reducible assumption | (with_reducible first | apply State.abortSlice_keeps | apply State.modPwr_keeps) | split | rfl | intro _ | dsimp only | assumption

theorem State.stopEntry_keeps {s₀ s : State} (h : Keeps s₀ s) :
    Keeps s₀ (State.stopEntry s) := by
  unfold State.stopEntry
  (try dsimp only)
  repeat' first | with_reducible assumption | (with_reducible first | apply State.modPwr_keeps) | split | rfl | intro _ | dsimp only | assumption

theorem State.evaluatePower_keeps {s₀ s : State} (h : Keeps s₀ s) :
    Keeps s₀ (State.evaluatePower s) := by
  unfold State.evaluatePower
  (try dsimp only)
  repeat' first | with_reducible assumption | (with_reducible first | apply State.modPwr_keeps | apply State.sendDown_keeps | apply State.abortSlice_keeps | apply State.stopEntry_keeps | apply State.setPower_keeps | apply each_keeps) | split | rfl | intro _ | dsimp only | assumption

theorem execPowerEvaluate_keeps {s₀ s : State} (h : Keeps s₀ s) :
    KeepsOut s₀ (execPowerEvaluate s) := by
  unfold execPowerEvaluate
  (try dsimp only)
  repeat' first | with_reducible assumption | (with_reducible first | apply State.evaluatePower_keeps | apply State.done_keeps) | split | rfl | intro _ | dsimp only | assumption

theorem State.leaveDoze_keeps {s₀ s : State} (h : Keeps s₀ s) :
    Keeps s₀ (State.leaveDoze s) := by
  unfold State.leaveDoze
  (try dsimp only)
  repeat' first | with_reducible assumption | (with_reducible first | apply State.stopEntry_keeps | apply State.setPower_keeps | apply State.nextSlice_keeps) | split | rfl | intro _ | dsimp only | assumption

theorem State.noteCommand_keeps {s₀ s : State} (h : Keeps s₀ s) :
    Keeps s₀ (State.noteCommand s) := by
  unfold State.noteCommand
  (try dsimp only)
  repeat' first | with_reducible assumption | (with_reducible first | apply State.modPwr_keeps | apply State.leaveDoze_keeps | apply State.stopEntry_keeps) | split | rfl | intro _ | dsimp only | assumption

theorem execDozeExit_keeps {s₀ s : State} (h : Keeps s₀ s) :
    KeepsOut s₀ (execDozeExit s) := by
  unfold execDozeExit
  (try dsimp only)
  repeat' first | with_reducible assumption | (with_reducible first | apply State.leaveDoze_keeps | apply State.done_keeps) | split | rfl | intro _ | dsimp only | assumption

theorem State.copyDrydown_keeps {s₀ s : State} (h : Keeps s₀ s) :
    Keeps s₀ (State.copyDrydown s) := by
  unfold State.copyDrydown
  (try dsimp only)
  repeat' first | with_reducible assumption | (with_reducible first | apply State.modSeg_keeps | apply each_keeps) | split | rfl | intro _ | dsimp only | assumption

theorem State.segToPatrol_keeps {s₀ s : State} (h : Keeps s₀ s) (g : Seg) (first : Nat) :
    Keeps s₀ (State.segToPatrol s g first) := by
  unfold State.segToPatrol
  (try dsimp only)
  repeat' first | with_reducible assumption | (with_reducible first | apply State.captureWindow_keeps | apply State.modLink_keeps | apply State.modSeg_keeps | apply State.startTimer_keeps | apply State.modCell_keeps | apply each_keeps) | split | rfl | intro _ | dsimp only | assumption

theorem execDrydownEntered_keeps {s₀ s : State} (h : Keeps s₀ s) :
    KeepsOut s₀ (execDrydownEntered s) := by
  unfold execDrydownEntered
  (try dsimp only)
  repeat' first | with_reducible assumption | (with_reducible first | apply State.done_keeps | apply State.stopEntry_keeps | apply State.abortSlice_keeps | apply State.stageOff_keeps | apply State.enter_keeps | apply State.setPower_keeps | apply State.modPwr_keeps | apply State.segToPatrol_keeps | apply State.copyDrydown_keeps | apply each_keeps) | split | rfl | intro _ | dsimp only | assumption

theorem State.dormantPatrol_keeps {s₀ s : State} (h : Keeps s₀ s) (g : Seg) :
    Keeps s₀ (State.dormantPatrol s g) := by
  unfold State.dormantPatrol
  (try dsimp only)
  repeat' first | with_reducible assumption | (with_reducible first | apply State.modSeg_keeps) | split | rfl | intro _ | dsimp only | assumption

theorem State.startExit_keeps {s₀ s : State} (h : Keeps s₀ s) :
    Keeps s₀ (State.startExit s) := by
  unfold State.startExit
  (try dsimp only)
  repeat' first | with_reducible assumption | (with_reducible first | apply State.segRouse_keeps | apply State.modPwr_keeps | apply each_keeps) | split | rfl | intro _ | dsimp only | assumption

theorem execDrydownExit_keeps {s₀ s : State} (h : Keeps s₀ s) :
    KeepsOut s₀ (execDrydownExit s) := by
  unfold execDrydownExit
  (try dsimp only)
  repeat' first | with_reducible assumption | (with_reducible first | apply State.done_keeps | apply State.modPwr_keeps | apply State.enter_keeps | apply State.drydownLeft_keeps | apply State.modBist_keeps | apply State.answerWakes_keeps | apply State.setPower_keeps) | split | rfl | intro _ | dsimp only | assumption

theorem State.wakeCmd_keeps {s₀ s : State} (h : Keeps s₀ s) (o : Origin) :
    Keeps s₀ (State.wakeCmd s o).1 := by
  unfold State.wakeCmd
  (try dsimp only)
  repeat' first | with_reducible assumption | (with_reducible first | apply State.startExit_keeps | apply State.modPwr_keeps) | split | rfl | intro _ | dsimp only | assumption

theorem State.wakeCmd_keepsEq {s₀ s u₁ : State} {a₁} {o : Origin}
    (e : State.wakeCmd s o = (u₁, a₁)) (h : Keeps s₀ s) : Keeps s₀ u₁ := by
  have k := State.wakeCmd_keeps h o
  rw [e] at k
  exact k

theorem State.budgetWritten_keeps {s₀ s : State} (h : Keeps s₀ s) :
    Keeps s₀ (State.budgetWritten s) := by
  unfold State.budgetWritten
  (try dsimp only)
  repeat' first | with_reducible assumption | (with_reducible first | apply State.startExit_keeps | apply State.modPwr_keeps | apply State.evaluatePower_keeps) | split | rfl | intro _ | dsimp only | assumption

theorem State.powerBudgetCmd_keeps {s₀ s : State} (h : Keeps s₀ s) (us : Word) :
    Keeps s₀ (State.powerBudgetCmd s us) := by
  unfold State.powerBudgetCmd
  (try dsimp only)
  repeat' first | with_reducible assumption | (with_reducible first | apply State.setFld_keeps | apply State.budgetWritten_keeps) | split | rfl | intro _ | dsimp only | assumption

theorem State.wokenBySymbol_keeps {s₀ s : State} (h : Keeps s₀ s) :
    Keeps s₀ (State.wokenBySymbol s) := by
  unfold State.wokenBySymbol
  (try dsimp only)
  repeat' first | with_reducible assumption | (with_reducible first | apply State.startExit_keeps | apply State.modPwr_keeps | apply State.leaveDoze_keeps | apply State.stopEntry_keeps | apply State.setPower_keeps) | split | rfl | intro _ | dsimp only | assumption

theorem State.wroteWakeCause_keeps {s₀ s : State} (h : Keeps s₀ s) (v : Word) :
    Keeps s₀ (State.wroteWakeCause s v) := by
  unfold State.wroteWakeCause
  (try dsimp only)
  repeat' first | with_reducible assumption | (with_reducible first | apply State.modPwr_keeps | apply State.setPins_keeps) | split | rfl | intro _ | dsimp only | assumption

theorem State.beginPatrol_keeps {s₀ s : State} (h : Keeps s₀ s) (g : Seg) (f : Segment → Segment)
    (hf : ∀ x, (f x).win = x.win) : Keeps s₀ (s.beginPatrol g f) := by
  unfold State.beginPatrol
  dsimp only
  repeat' first | with_reducible assumption | with_reducible first | apply State.modSeg_keeps | apply State.modMeas_keeps | apply each_keeps | split | exact hf _ | rfl | intro _


theorem State.patrolBeacon_keeps {s₀ s : State} (h : Keeps s₀ s) (g : Seg) :
    Keeps s₀ (State.patrolBeacon s g) := by
  unfold State.patrolBeacon
  (try dsimp only)
  repeat' first | with_reducible assumption | (with_reducible first | apply State.modLink_keeps) | split | rfl | intro _ | dsimp only | assumption

theorem execPatrol_keeps {s₀ s : State} (h : Keeps s₀ s) (g : Seg) :
    KeepsOut s₀ (execPatrol g s) := by
  unfold execPatrol
  (try dsimp only)
  repeat' first | with_reducible assumption | (with_reducible first | apply State.done_keeps | apply State.beginPatrol_keeps | apply State.patrolBeacon_keeps) | split | rfl | intro _ | dsimp only | assumption

theorem execConfirmationPatrol_keeps {s₀ s : State} (h : Keeps s₀ s) (g : Seg) :
    KeepsOut s₀ (execConfirmationPatrol g s) := by
  unfold execConfirmationPatrol
  (try dsimp only)
  repeat' first | with_reducible assumption | (with_reducible first | apply State.done_keeps | apply State.beginPatrol_keeps) | split | rfl | intro _ | dsimp only | assumption

theorem State.writeLog_keeps {s₀ s : State} (h : Keeps s₀ s) (g : Seg) (e : LogEntry) :
    Keeps s₀ (State.writeLog s g e) := by
  unfold State.writeLog
  (try dsimp only)
  repeat' first | with_reducible assumption | (with_reducible first | apply State.modSeg_keeps) | split | rfl | intro _ | dsimp only | assumption

theorem State.patrolKval_keeps {s₀ s : State} (h : Keeps s₀ s) (g : Seg) (w : Nat) (dieTemp : Int) (cells : List Patrolled) :
    Keeps s₀ (State.patrolKval s g w dieTemp cells) := by
  unfold State.patrolKval
  (try dsimp only)
  repeat' first | with_reducible assumption | (with_reducible first | apply State.modTemp_keeps | apply State.kvalSample_keeps | apply each_keeps) | split | rfl | intro _ | dsimp only | assumption

theorem State.patrolFindings_keeps {s₀ s : State} (h : Keeps s₀ s) (g : Seg) (x : Segment) (w stackMv : Nat) (dieTemp : Int) (cells : List Patrolled) :
    Keeps s₀ (State.patrolFindings s g x w stackMv dieTemp cells) := by
  unfold State.patrolFindings
  (try dsimp only)
  repeat' first | with_reducible assumption | (with_reducible first | apply State.writeLog_keeps | apply State.modSeg_keeps | apply State.modLink_keeps | apply State.report_keeps | apply foldl_keeps) | split | rfl | intro _ | dsimp only | assumption

theorem State.closeWindow_keeps {s₀ s : State} (h : Keeps s₀ s) (g : Seg) (w stackMv : Nat) (dieTemp : Int) (cells : List Patrolled) :
    Keeps s₀ (State.closeWindow s g w stackMv dieTemp cells) := by
  unfold State.closeWindow
  (try dsimp only)
  repeat' first | with_reducible assumption | (with_reducible first | apply State.modSeg_keeps | apply State.modTherm_keeps | apply State.patrolKval_keeps | apply State.patrolFindings_keeps) | split | rfl | intro _ | dsimp only | assumption

theorem execPatrolWindowEnd_keeps {s₀ s : State} (h : Keeps s₀ s) (g : Seg) (stackMv : Nat) (dieTemp : Int) (cells : List PatrolCell) :
    KeepsOut s₀ (execPatrolWindowEnd g stackMv dieTemp cells s) := by
  unfold execPatrolWindowEnd
  (try dsimp only)
  repeat' first | with_reducible assumption | (with_reducible first | apply State.done_keeps | apply State.closeWindow_keeps) | split | rfl | intro _ | dsimp only | assumption

theorem State.sendWake_keeps {s₀ s : State} (h : Keeps s₀ s) :
    Keeps s₀ (State.sendWake s) := by
  unfold State.sendWake
  (try dsimp only)
  repeat' first | with_reducible assumption | (with_reducible first | apply State.emit_keeps) | split | rfl | intro _ | dsimp only | assumption

theorem State.countAnomaly_keeps {s₀ s : State} (h : Keeps s₀ s) (g : Seg) (a : Anomaly) :
    Keeps s₀ (State.countAnomaly s g a) := by
  unfold State.countAnomaly
  (try dsimp only)
  repeat' first | with_reducible assumption | (with_reducible first | apply State.modPwr_keeps | apply State.startExit_keeps | apply State.setPins_keeps | apply State.sendWake_keeps) | split | rfl | intro _ | dsimp only | assumption

theorem execPatrolReport_keeps {s₀ s : State} (h : Keeps s₀ s) (g : Seg) :
    KeepsOut s₀ (execPatrolReport g s) := by
  unfold execPatrolReport
  (try dsimp only)
  repeat' first | with_reducible assumption | (with_reducible first | apply State.done_keeps | apply State.modLink_keeps | apply State.modPwr_keeps | apply State.countAnomaly_keeps | apply each_keeps) | split | rfl | intro _ | dsimp only | assumption

theorem execSegLost_keeps {s₀ s : State} (h : Keeps s₀ s) (g : Seg) :
    KeepsOut s₀ (execSegLost g s) := by
  unfold execSegLost
  (try dsimp only)
  repeat' first | with_reducible assumption | (with_reducible first | apply State.countAnomaly_keeps | apply State.done_keeps) | split | rfl | intro _ | dsimp only | assumption

theorem execStackLow_keeps {s₀ s : State} (h : Keeps s₀ s) (g : Seg) (mv : Nat) :
    KeepsOut s₀ (execStackLow g mv s) := by
  unfold execStackLow
  (try dsimp only)
  repeat' first | with_reducible assumption | (with_reducible first | apply State.modSeg_keeps | apply State.enter_keeps | apply State.done_keeps) | split | rfl | intro _ | dsimp only | assumption

end Sys2Proof.Machine
end

