-- ==== Sys2Proof/Laws/KeepsFlaconCheck.lean ====
section
/-!
SUPPORT. What the operations of Machine/FlaconCheck.lean keep: the queue, what has left, the free values, canonical memory.
-/

namespace Sys2Proof.Machine

theorem State.noteVerdict_keeps {s₀ s : State} (h : Keeps s₀ s) (v : Verdict) :
    Keeps s₀ (State.noteVerdict s v) := by
  unfold State.noteVerdict
  (try dsimp only)
  repeat' first | with_reducible assumption | (with_reducible first | apply State.modPlay_keeps) | split | rfl | intro _ | dsimp only | assumption

end Sys2Proof.Machine
end

