-- ==== Sys2Proof/Laws/KeepsNvmOps.lean ====
section
/-!
SUPPORT. What the operations of Machine/NvmOps.lean keep: the queue, what has left, the free values, canonical memory.
-/

namespace Sys2Proof.Machine

theorem State.countErase_keeps {s₀ s : State} (h : Keeps s₀ s) (key : Nat) :
    Keeps s₀ (State.countErase s key) := by
  unfold State.countErase
  (try dsimp only)
  repeat' first | with_reducible assumption | (with_reducible first | apply State.modNvm_keeps | apply State.raise_keeps) | split | rfl | intro _ | dsimp only | assumption

theorem State.imageDamaged_keeps {s₀ s : State} (h : Keeps s₀ s) (region : Nat) (trailer : Bool) :
    Keeps s₀ (State.imageDamaged s region trailer) := by
  unfold State.imageDamaged
  (try dsimp only)
  repeat' first | with_reducible assumption | (with_reducible first | apply State.modNvm_keeps | apply State.raise_keeps) | split | rfl | intro _ | dsimp only | assumption

theorem State.judgedFromFlash_keeps {s₀ s : State} (h : Keeps s₀ s) (region : Nat) (l : List Byte) :
    Keeps s₀ (State.judgedFromFlash s region l) := by
  unfold State.judgedFromFlash
  (try dsimp only)
  repeat' first | with_reducible assumption | (with_reducible first | apply State.imageDamaged_keeps | apply State.raise_keeps | apply State.modNvm_keeps) | split | rfl | intro _ | dsimp only | assumption

theorem State.writeConfig_keeps {s₀ s : State} (h : Keeps s₀ s) (key corrections : List Byte) (o : Origin) :
    Keeps s₀ (State.writeConfig s key corrections o) := by
  unfold State.writeConfig
  (try dsimp only)
  repeat' first | with_reducible assumption | (with_reducible first | apply State.pushJob_keeps) | split | rfl | intro _ | dsimp only | assumption

theorem State.startRepair_keeps {s₀ s : State} (h : Keeps s₀ s) :
    Keeps s₀ (State.startRepair s) := by
  unfold State.startRepair
  (try dsimp only)
  repeat' first | with_reducible assumption | (with_reducible first | apply State.modNvm_keeps | apply State.pushJob_keeps | apply State.writeConfig_keeps) | split | rfl | intro _ | dsimp only | assumption

theorem State.repairTarget_keeps {s₀ s : State} (h : Keeps s₀ s) (region : Nat) (trailer : Bool) (sector : Nat) :
    Keeps s₀ (State.repairTarget s region trailer sector) := by
  unfold State.repairTarget
  (try dsimp only)
  repeat' first | with_reducible assumption | (with_reducible first | apply State.pushRepair_keeps) | split | rfl | intro _ | dsimp only | assumption

theorem State.beginStore_keeps {s₀ s : State} (h : Keeps s₀ s) (i : Nat) (o : Origin) (st : Status) :
    Keeps s₀ (State.beginStore s i o st).1 := by
  unfold State.beginStore
  (try dsimp only)
  repeat' first | with_reducible assumption | (with_reducible first | apply State.countRefusal_keeps | apply State.appendRecord_keeps | apply State.modNvm_keeps | apply State.pushJob_keeps | apply State.store_keeps) | split | rfl | intro _ | dsimp only | assumption

theorem State.beginStore_keepsEq {s₀ s u₁ : State} {a₁} {i : Nat} {o : Origin} {st : Status}
    (e : State.beginStore s i o st = (u₁, a₁)) (h : Keeps s₀ s) : Keeps s₀ u₁ := by
  have k := State.beginStore_keeps h i o st
  rw [e] at k
  exact k

theorem State.emptyStaged_keeps {s₀ s : State} (h : Keeps s₀ s) (source : Nat) :
    Keeps s₀ (State.emptyStaged s source) := by
  unfold State.emptyStaged
  (try dsimp only)
  repeat' first | with_reducible assumption | (with_reducible first | apply State.modPlay_keeps) | split | rfl | intro _ | dsimp only | assumption

theorem State.flaconLoad_keeps {s₀ s : State} (h : Keeps s₀ s) (slot : Option (Fin 8)) (offset total : Nat) (data : List Byte) :
    Keeps s₀ (State.flaconLoad s slot offset total data).2 := by
  unfold State.flaconLoad
  (try dsimp only)
  repeat' first | with_reducible assumption | (with_reducible first | apply State.emptyStaged_keeps | apply State.modPlay_keeps | apply State.noteVerdict_keeps | apply State.judgedFromFlash_keeps | apply State.startRepair_keeps) | split | rfl | intro _ | dsimp only | assumption

theorem State.flaconLoad_keepsEq {s₀ s u₁ : State} {a₁} {slot : Option (Fin 8)} {offset total : Nat} {data : List Byte}
    (e : State.flaconLoad s slot offset total data = (a₁, u₁)) (h : Keeps s₀ s) : Keeps s₀ u₁ := by
  have k := State.flaconLoad_keeps h slot offset total data
  rw [e] at k
  exact k

theorem State.sendShare_keeps {s₀ s : State} (h : Keeps s₀ s) (g : Seg) (bank : Nat) (l : List Byte) :
    Keeps s₀ (State.sendShare s g bank l) := by
  unfold State.sendShare
  (try dsimp only)
  repeat' first | with_reducible assumption | (with_reducible first | apply State.sendDown_keeps | apply each_keeps) | split | rfl | intro _ | dsimp only | assumption

theorem State.concludeVerify_keeps {s₀ s : State} (h : Keeps s₀ s) :
    Keeps s₀ (State.concludeVerify s).1 := by
  unfold State.concludeVerify
  (try dsimp only)
  repeat' first | with_reducible assumption | (with_reducible first | apply State.modPlay_keeps | apply State.store_keeps | apply State.beginStore_keeps) | split | rfl | intro _ | refine State.beginStore_keepsEq (by assumption) ?_ | dsimp only | assumption

theorem State.concludeVerify_keepsEq {s₀ s u₁ : State} {a₁} 
    (e : State.concludeVerify s = (u₁, a₁)) (h : Keeps s₀ s) : Keeps s₀ u₁ := by
  have k := State.concludeVerify_keeps h 
  rw [e] at k
  exact k

theorem State.verifyAnswer_keeps {s₀ s : State} (h : Keeps s₀ s) (g : Seg) (st : Status) :
    Keeps s₀ (State.verifyAnswer s g st) := by
  unfold State.verifyAnswer
  (try dsimp only)
  repeat' first | with_reducible assumption | (with_reducible first | apply State.modPlay_keeps | apply State.concludeVerify_keeps | apply State.replyLate_keeps) | split | rfl | intro _ | refine State.concludeVerify_keepsEq (by assumption) ?_ | dsimp only | assumption

theorem State.flaconVerify_keeps {s₀ s : State} (h : Keeps s₀ s) (o : Origin) (store : Option (Fin 8)) :
    Keeps s₀ (State.flaconVerify s o store).2 := by
  unfold State.flaconVerify
  (try dsimp only)
  repeat' first | with_reducible assumption | (with_reducible first | apply State.unverify_keeps | apply State.noteVerdict_keeps | apply State.sendShare_keeps | apply State.modPlay_keeps | apply State.store_keeps | apply State.concludeVerify_keeps | apply each_keeps) | split | rfl | intro _ | refine State.concludeVerify_keepsEq (by assumption) ?_ | dsimp only | assumption

theorem State.flaconVerify_keepsEq {s₀ s u₁ : State} {a₁} {o : Origin} {store : Option (Fin 8)}
    (e : State.flaconVerify s o store = (a₁, u₁)) (h : Keeps s₀ s) : Keeps s₀ u₁ := by
  have k := State.flaconVerify_keeps h o store
  rw [e] at k
  exact k

theorem State.flaconErase_keeps {s₀ s : State} (h : Keeps s₀ s) (o : Origin) (target : Nat) :
    Keeps s₀ (State.flaconErase s o target).2 := by
  unfold State.flaconErase
  (try dsimp only)
  repeat' first | with_reducible assumption | (with_reducible first | apply State.emptyStaged_keeps | apply State.countRefusal_keeps | apply State.appendRecord_keeps | apply State.modNvm_keeps | apply State.pushJob_keeps) | split | rfl | intro _ | dsimp only | assumption

theorem State.flaconErase_keepsEq {s₀ s u₁ : State} {a₁} {o : Origin} {target : Nat}
    (e : State.flaconErase s o target = (a₁, u₁)) (h : Keeps s₀ s) : Keeps s₀ u₁ := by
  have k := State.flaconErase_keeps h o target
  rw [e] at k
  exact k

theorem State.setFwState_keeps {s₀ s : State} (h : Keeps s₀ s) (slot code : Nat) :
    Keeps s₀ (State.setFwState s slot code) := by
  unfold State.setFwState
  (try dsimp only)
  repeat' first | with_reducible assumption | (with_reducible first | apply State.modNvm_keeps) | split | rfl | intro _ | dsimp only | assumption

theorem State.orRefused_keeps {s₀ s : State} (h : Keeps s₀ s) {k : State → Option Result × State}
    (hk : Keeps s₀ (k s).2) : Keeps s₀ (s.orRefused k).2 := by
  unfold State.orRefused
  split
  · exact State.countRefusal_keeps h _
  · exact hk


theorem State.fwBegin_keeps {s₀ s : State} (h : Keeps s₀ s) (o : Origin) (total version : Nat) :
    Keeps s₀ (State.fwBegin s o total version).2 := by
  unfold State.fwBegin
  (try dsimp only)
  repeat' first | with_reducible assumption | (with_reducible first | apply State.orRefused_keeps | apply State.appendRecord_keeps | apply State.setFwState_keeps | apply State.modNvm_keeps | apply State.pushJob_keeps) | split | rfl | intro _ | dsimp only | assumption

theorem State.fwBegin_keepsEq {s₀ s u₁ : State} {a₁} {o : Origin} {total version : Nat}
    (e : State.fwBegin s o total version = (a₁, u₁)) (h : Keeps s₀ s) : Keeps s₀ u₁ := by
  have k := State.fwBegin_keeps h o total version
  rw [e] at k
  exact k

theorem State.fwChunk_keeps {s₀ s : State} (h : Keeps s₀ s) (o : Origin) (offset : Nat) (data : List Byte) :
    Keeps s₀ (State.fwChunk s o offset data).2 := by
  unfold State.fwChunk
  (try dsimp only)
  repeat' first | with_reducible assumption | (with_reducible first | apply State.orRefused_keeps | apply State.pushJob_keeps) | split | rfl | intro _ | dsimp only | assumption

theorem State.fwChunk_keepsEq {s₀ s u₁ : State} {a₁} {o : Origin} {offset : Nat} {data : List Byte}
    (e : State.fwChunk s o offset data = (a₁, u₁)) (h : Keeps s₀ s) : Keeps s₀ u₁ := by
  have k := State.fwChunk_keeps h o offset data
  rw [e] at k
  exact k

theorem State.fwVerify_keeps {s₀ s : State} (h : Keeps s₀ s) (o : Origin) :
    Keeps s₀ (State.fwVerify s o).2 := by
  unfold State.fwVerify
  (try dsimp only)
  repeat' first | with_reducible assumption | (with_reducible first | apply State.judgedFromFlash_keeps | apply State.orRefused_keeps | apply State.appendRecord_keeps | apply State.setFwState_keeps | apply State.modNvm_keeps | apply State.pushJob_keeps) | split | rfl | intro _ | dsimp only | assumption

theorem State.fwVerify_keepsEq {s₀ s u₁ : State} {a₁} {o : Origin}
    (e : State.fwVerify s o = (a₁, u₁)) (h : Keeps s₀ s) : Keeps s₀ u₁ := by
  have k := State.fwVerify_keeps h o
  rw [e] at k
  exact k

theorem State.fwActivate_keeps {s₀ s : State} (h : Keeps s₀ s) (o : Origin) :
    Keeps s₀ (State.fwActivate s o).2 := by
  unfold State.fwActivate
  (try dsimp only)
  repeat' first | with_reducible assumption | (with_reducible first | apply State.orRefused_keeps | apply State.pushJob_keeps) | split | rfl | intro _ | dsimp only | assumption

theorem State.fwActivate_keepsEq {s₀ s u₁ : State} {a₁} {o : Origin}
    (e : State.fwActivate s o = (a₁, u₁)) (h : Keeps s₀ s) : Keeps s₀ u₁ := by
  have k := State.fwActivate_keeps h o
  rw [e] at k
  exact k

theorem State.fwAbort_keeps {s₀ s : State} (h : Keeps s₀ s) :
    Keeps s₀ (State.fwAbort s).2 := by
  unfold State.fwAbort
  (try dsimp only)
  repeat' first | with_reducible assumption | (with_reducible first | apply State.setFwState_keeps | apply State.modNvm_keeps) | split | rfl | intro _ | dsimp only | assumption

theorem State.fwAbort_keepsEq {s₀ s u₁ : State} {a₁} 
    (e : State.fwAbort s = (a₁, u₁)) (h : Keeps s₀ s) : Keeps s₀ u₁ := by
  have k := State.fwAbort_keeps h 
  rw [e] at k
  exact k

theorem State.fwKey_keeps {s₀ s : State} (h : Keeps s₀ s) (o : Origin) (key : List Byte) :
    Keeps s₀ (State.fwKey s o key).2 := by
  unfold State.fwKey
  (try dsimp only)
  repeat' first | with_reducible assumption | (with_reducible first | apply State.orRefused_keeps | apply State.writeConfig_keeps) | split | rfl | intro _ | dsimp only | assumption

theorem State.fwKey_keepsEq {s₀ s u₁ : State} {a₁} {o : Origin} {key : List Byte}
    (e : State.fwKey s o key = (a₁, u₁)) (h : Keeps s₀ s) : Keeps s₀ u₁ := by
  have k := State.fwKey_keeps h o key
  rw [e] at k
  exact k

theorem State.endRecord_keeps {s₀ s : State} (h : Keeps s₀ s) (kind : Nat) (payload : List Byte) (region : Nat) (o : Origin)
    (op : Nat) (r : Result) {k : State → State} (hk : Keeps s₀ (k s)) :
    Keeps s₀ (s.endRecord kind payload region o op r k) := by
  unfold State.endRecord
  split
  · exact State.replyLate_keeps (State.countRefusal_keeps h _) _ _ _
  · exact State.pushJob_keeps (State.appendRecord_keeps hk _ _) _


theorem State.endJob_keeps {s₀ s : State} (h : Keeps s₀ s) (j : Job) :
    Keeps s₀ (State.endJob s j) := by
  unfold State.endJob
  (try dsimp only)
  repeat' first | with_reducible assumption | (with_reducible first | apply State.replyLate_keeps | apply State.store_keeps | apply State.countErase_keeps | apply State.modNvm_keeps | apply State.endRecord_keeps | apply State.fwBegin_keeps | apply State.fwChunk_keeps | apply State.fwActivate_keeps | apply State.setFwState_keeps | apply State.modGlb_keeps | apply State.countRefusal_keeps | apply State.appendRecord_keeps | apply State.repairTarget_keeps | apply State.journal_keeps) | split | rfl | intro _ | refine State.fwBegin_keepsEq (by assumption) ?_ | refine State.fwChunk_keepsEq (by assumption) ?_ | refine State.fwActivate_keepsEq (by assumption) ?_ | dsimp only | assumption

theorem State.endJobs_keeps {s₀ s : State} (h : Keeps s₀ s) (n : Nat) : Keeps s₀ (State.endJobs n s) := by
  induction n generalizing s with
  | zero => exact h
  | succ n ih =>
    unfold State.endJobs
    repeat' first | with_reducible assumption | with_reducible first | apply ih | apply State.startRepair_keeps | apply State.endJob_keeps | apply State.modNvm_keeps | split | exact Nvm.settle_keeps _


theorem State.failOp_keeps {s₀ s : State} (h : Keeps s₀ s) (j : Job) (op : FlashOp) (rest : List Job) :
    Keeps s₀ (s.failOp j op rest) := by
  unfold State.failOp
  dsimp only
  repeat' first | with_reducible assumption | with_reducible first | apply State.modNvm_keeps | apply State.raise_keeps | apply State.freeBits_keeps | apply State.replyLate_keeps | apply State.endJobs_keeps | split | exact Nvm.failBegin_flash _ _ | rfl


theorem FlashOp.apply_wf (m : List (Nat × Byte)) (op : FlashOp) (h : Sparse.wf erased m = true) :
    Sparse.wf erased (op.apply m) = true := by
  cases op with
  | program a l => exact Sparse.putAll_wf erased l m a h
  | eraseSector a => exact Sparse.filter_wf erased _ m h
  | eraseBlock a => exact Sparse.filter_wf erased _ m h

theorem State.endOp_keeps {s₀ s : State} (h : Keeps s₀ s) (erase ok : Bool) :
    Keeps s₀ (State.endOp s erase ok) := by
  unfold State.endOp
  split
  · exact h
  · split
    · exact h
    · split
      · exact h
      · split
        · exact h
        · split
          · exact State.failOp_keeps h _ _ _
          · next op ops _ _ _ =>
            have hN := fun f : Nvm → List Job => State.modNvm_keepsWf h
              (fun n => { n with flash := op.apply n.flash, jobs := f n }) (FlashOp.apply_wf _ op)
            dsimp only
            split
            · exact State.endJobs_keeps (State.countErase_keeps (hN _) _) _
            · exact State.endJobs_keeps (hN _) _


theorem execPageProgrammed_keeps {s₀ s : State} (h : Keeps s₀ s) (ok : Bool) :
    KeepsOut s₀ (execPageProgrammed ok s) := by
  unfold execPageProgrammed
  (try dsimp only)
  repeat' first | with_reducible assumption | (with_reducible first | apply State.endOp_keeps | apply State.done_keeps) | split | rfl | intro _ | dsimp only | assumption

theorem execEraseDone_keeps {s₀ s : State} (h : Keeps s₀ s) (ok : Bool) :
    KeepsOut s₀ (execEraseDone ok s) := by
  unfold execEraseDone
  (try dsimp only)
  repeat' first | with_reducible assumption | (with_reducible first | apply State.endOp_keeps | apply State.done_keeps) | split | rfl | intro _ | dsimp only | assumption

theorem State.collectLog_keeps {s₀ s : State} (h : Keeps s₀ s) (g : Seg) :
    Keeps s₀ (State.collectLog s g) := by
  unfold State.collectLog
  (try dsimp only)
  repeat' first | with_reducible assumption | (with_reducible first | apply State.compareTimer_keeps | apply State.modSeg_keeps | apply State.appendRecord_keeps | apply each_keeps) | split | rfl | intro _ | dsimp only | assumption

theorem State.collectLogs_keeps {s₀ s : State} (h : Keeps s₀ s) :
    Keeps s₀ (State.collectLogs s) := by
  unfold State.collectLogs
  (try dsimp only)
  repeat' first | with_reducible assumption | (with_reducible first | apply State.collectLog_keeps | apply each_keeps) | split | rfl | intro _ | dsimp only | assumption

end Sys2Proof.Machine
end

