-- ==== Sys2Proof/Laws/KeepsLinkRows.lean ====
section
/-!
SUPPORT. What the operations of Machine/LinkRows.lean keep: the queue, what has left, the free values, canonical memory.
-/

namespace Sys2Proof.Machine

theorem execBeaconTx_keeps {s₀ s : State} (h : Keeps s₀ s) :
    KeepsOut s₀ (execBeaconTx s) := by
  unfold execBeaconTx
  (try dsimp only)
  repeat' first | with_reducible assumption | (with_reducible first | apply State.done_keeps | apply State.modLink_keeps | apply State.sendDown_keeps | apply each_keeps) | split | rfl | intro _ | dsimp only | assumption

theorem State.parkIn_keeps {s₀ s : State} (h : Keeps s₀ s) (g : Seg) (code : Nat) :
    Keeps s₀ (State.parkIn s g code) := by
  unfold State.parkIn
  (try dsimp only)
  repeat' first | with_reducible assumption | (with_reducible first | apply State.park_keeps | apply each_keeps) | split | rfl | intro _ | dsimp only | assumption

theorem State.takeBeacon_keeps {s₀ s : State} (h : Keeps s₀ s) (g : Seg) (c : Class) (halt patrol : Bool) :
    Keeps s₀ (State.takeBeacon s g c halt patrol) := by
  unfold State.takeBeacon
  (try dsimp only)
  repeat' first | with_reducible assumption | (with_reducible first | apply State.modLink_keeps | apply State.modSeg_keeps | apply State.startTimer_keeps) | split | rfl | intro _ | dsimp only | assumption

theorem execDownlinkBeacon_keeps {s₀ s : State} (h : Keeps s₀ s) (g : Seg) (crcOk : Bool) :
    KeepsOut s₀ (execDownlinkBeacon g crcOk s) := by
  unfold execDownlinkBeacon
  (try dsimp only)
  repeat' first | with_reducible assumption | (with_reducible first | apply State.done_keeps | apply State.modLink_keeps | apply State.takeBeacon_keeps | apply State.parkIn_keeps) | split | rfl | intro _ | dsimp only | assumption

theorem State.tellNeighbour_keeps {s₀ s : State} (h : Keeps s₀ s) (j : Cell) (l : List EdgeRec) :
    Keeps s₀ (State.tellNeighbour s j l) := by
  unfold State.tellNeighbour
  (try dsimp only)
  repeat' first | with_reducible assumption | (with_reducible first | apply State.sendDown_keeps) | split | rfl | intro _ | dsimp only | assumption

theorem execUplinkBeacon_keeps {s₀ s : State} (h : Keeps s₀ s) (g : Seg) (crcOk : Bool) :
    KeepsOut s₀ (execUplinkBeacon g crcOk s) := by
  unfold execUplinkBeacon
  (try dsimp only)
  repeat' first | with_reducible assumption | (with_reducible first | apply State.done_keeps | apply State.modLink_keeps | apply State.report_keeps | apply State.tellNeighbour_keeps | apply State.watchV_keeps | apply each_keeps) | split | rfl | intro _ | dsimp only | assumption

theorem execParkSymbolReceived_keeps {s₀ s : State} (h : Keeps s₀ s) (g : Seg) :
    KeepsOut s₀ (execParkSymbolReceived g s) := by
  unfold execParkSymbolReceived
  (try dsimp only)
  repeat' first | with_reducible assumption | (with_reducible first | apply State.modSeg_keeps | apply State.modLink_keeps | apply State.parkSegment_keeps | apply State.done_keeps) | split | rfl | intro _ | dsimp only | assumption

theorem execLinkSilence_keeps {s₀ s : State} (h : Keeps s₀ s) (g : Seg) :
    KeepsOut s₀ (execLinkSilence g s) := by
  unfold execLinkSilence
  (try dsimp only)
  repeat' first | with_reducible assumption | (with_reducible first | apply State.parkSegment_keeps | apply State.startTimer_keeps | apply State.dormantPatrol_keeps | apply State.modSeg_keeps | apply State.done_keeps) | split | rfl | intro _ | dsimp only | assumption

theorem execSpanTrained_keeps {s₀ s : State} (h : Keeps s₀ s) (g : Seg) (trips : List Nat) :
    KeepsOut s₀ (execSpanTrained g trips s) := by
  unfold execSpanTrained
  (try dsimp only)
  repeat' first | with_reducible assumption | (with_reducible first | apply State.linkTrained_keeps | apply State.checkShunts_keeps | apply State.nextSlice_keeps | apply State.sendDown_keeps | apply State.done_keeps) | split | rfl | intro _ | dsimp only | assumption

theorem execCarrierLost_keeps {s₀ s : State} (h : Keeps s₀ s) (g : Seg) (carrier : Bool) :
    KeepsOut s₀ (execCarrierLost g carrier s) := by
  unfold execCarrierLost
  (try dsimp only)
  repeat' first | with_reducible assumption | (with_reducible first | apply State.modLink_keeps | apply State.raise_keeps | apply State.done_keeps) | split | rfl | intro _ | dsimp only | assumption

theorem execBackgroundTraining_keeps {s₀ s : State} (h : Keeps s₀ s) (g : Seg) (passed : Bool) :
    KeepsOut s₀ (execBackgroundTraining g passed s) := by
  unfold execBackgroundTraining
  (try dsimp only)
  repeat' first | with_reducible assumption | (with_reducible first | apply State.modLink_keeps | apply State.done_keeps) | split | rfl | intro _ | dsimp only | assumption

theorem State.releaseHeld_keeps {s₀ s : State} (h : Keeps s₀ s) (k : Cell) :
    Keeps s₀ (State.releaseHeld s k) := by
  unfold State.releaseHeld
  (try dsimp only)
  repeat' first | with_reducible assumption | (with_reducible first | apply State.releaseAs_keeps | apply State.modMeas_keeps | apply State.loseCover_keeps | apply each_keeps) | split | rfl | intro _ | dsimp only | assumption

theorem State.loseLink_keeps {s₀ s : State} (h : Keeps s₀ s) (g : Seg) :
    Keeps s₀ (State.loseLink s g) := by
  unfold State.loseLink
  (try dsimp only)
  repeat' first | with_reducible assumption | (with_reducible first | apply State.abortSegSlice_keeps | apply State.captureWindow_keeps | apply State.modLink_keeps | apply State.raise_keeps | apply State.checkShunts_keeps | apply State.releaseHeld_keeps | apply State.verifyAnswer_keeps | apply each_keeps) | split | rfl | intro _ | dsimp only | assumption

theorem execLinkLost_keeps {s₀ s : State} (h : Keeps s₀ s) (g : Seg) :
    KeepsOut s₀ (execLinkLost g s) := by
  unfold execLinkLost
  (try dsimp only)
  repeat' first | with_reducible assumption | (with_reducible first | apply State.loseLink_keeps | apply State.done_keeps) | split | rfl | intro _ | dsimp only | assumption

theorem execSpanResend_keeps {s₀ s : State} (h : Keeps s₀ s) (g : Seg) (up : Bool) :
    KeepsOut s₀ (execSpanResend g up s) := by
  unfold execSpanResend
  (try dsimp only)
  repeat' first | with_reducible assumption | (with_reducible first | apply State.modLink_keeps | apply State.done_keeps) | split | rfl | intro _ | dsimp only | assumption

theorem State.takeDown_keeps {s₀ s : State} (h : Keeps s₀ s) (g : Seg) :
    Keeps s₀ (State.takeDown s g) := by
  unfold State.takeDown
  (try dsimp only)
  repeat' first | with_reducible assumption | (with_reducible first | apply State.modLink_keeps) | split | rfl | intro _ | dsimp only | assumption

theorem State.takeUp_keeps {s₀ s : State} (h : Keeps s₀ s) (g : Seg) :
    Keeps s₀ (State.takeUp s g) := by
  unfold State.takeUp
  (try dsimp only)
  repeat' first | with_reducible assumption | (with_reducible first | apply State.modLink_keeps) | split | rfl | intro _ | dsimp only | assumption

theorem State.applyWindow_keeps {s₀ s : State} (h : Keeps s₀ s) (g : Seg) (off : Nat) (v mask : Word) :
    Keeps s₀ (State.applyWindow s g off v mask) := by
  have key : ∀ w, Keeps s₀ (s.modSeg g (fun x => { x with win := Sparse.put resetOf x.win off w })) := fun w =>
    State.modSeg_keepsWf h g _ (fun x hx => Sparse.put_wf resetOf x.win off w hx)
  unfold State.applyWindow
  dsimp only
  split
  · split
    · exact State.releaseKeeper_keeps h g
    · exact h
  · split
    · split
      · exact State.wroteCellCfg_keeps (key _) _ _ _ _ _
      · exact key _
    · exact h


theorem execConfig_keeps {s₀ s : State} (h : Keeps s₀ s) (g : Seg) :
    KeepsOut s₀ (execConfig g s) := by
  unfold execConfig
  (try dsimp only)
  repeat' first | with_reducible assumption | (with_reducible first | apply State.done_keeps | apply State.takeDown_keeps | apply State.modSeg_keeps | apply State.applyWindow_keeps | apply State.sendUp_keeps) | split | rfl | intro _ | dsimp only | assumption

theorem execRead_keeps {s₀ s : State} (h : Keeps s₀ s) (g : Seg) :
    KeepsOut s₀ (execRead g s) := by
  unfold execRead
  (try dsimp only)
  repeat' first | with_reducible assumption | (with_reducible first | apply State.done_keeps | apply State.takeDown_keeps | apply State.sendUp_keeps) | split | rfl | intro _ | dsimp only | assumption

theorem execShare_keeps {s₀ s : State} (h : Keeps s₀ s) (g : Seg) :
    KeepsOut s₀ (execShare g s) := by
  unfold execShare
  (try dsimp only)
  repeat' first | with_reducible assumption | (with_reducible first | apply State.done_keeps | apply State.takeDown_keeps | apply State.modSeg_keeps | apply State.sendUp_keeps) | split | rfl | intro _ | dsimp only | assumption

theorem execTimeMessage_keeps {s₀ s : State} (h : Keeps s₀ s) (g : Seg) (trip : Nat) :
    KeepsOut s₀ (execTimeMessage g trip s) := by
  unfold execTimeMessage
  (try dsimp only)
  repeat' first | with_reducible assumption | (with_reducible first | apply State.done_keeps | apply State.takeDown_keeps | apply State.compareTimer_keeps | apply State.modSeg_keeps | apply State.modLink_keeps) | split | rfl | intro _ | dsimp only | assumption

theorem execIslot_keeps {s₀ s : State} (h : Keeps s₀ s) (g : Seg) :
    KeepsOut s₀ (execIslot g s) := by
  unfold execIslot
  (try dsimp only)
  repeat' first | with_reducible assumption | (with_reducible first | apply State.done_keeps | apply State.takeDown_keeps | apply State.modSeg_keeps | apply State.sendUp_keeps | apply each_keeps) | split | rfl | intro _ | dsimp only | assumption

theorem execNeighbour_keeps {s₀ s : State} (h : Keeps s₀ s) (g : Seg) :
    KeepsOut s₀ (execNeighbour g s) := by
  unfold execNeighbour
  (try dsimp only)
  repeat' first | with_reducible assumption | (with_reducible first | apply State.done_keeps | apply State.takeDown_keeps | apply State.neighbourMoved_keeps | apply State.disturb_keeps | apply State.coverTo_keeps | apply each_keeps) | split | rfl | intro _ | dsimp only | assumption

theorem State.segmentAction_keeps {s₀ s : State} (h : Keeps s₀ s) (g : Seg) (c : SegCmd) :
    Keeps s₀ (State.segmentAction s g c) := by
  unfold State.segmentAction
  (try dsimp only)
  repeat' first | with_reducible assumption | (with_reducible first | apply State.release_keeps | apply State.releaseCell_keeps | apply State.modSeg_keeps | apply State.modShunts_keeps | apply State.abortSegSlice_keeps | apply State.segDieReset_keeps | apply each_keeps) | split | rfl | intro _ | dsimp only | assumption

theorem execSegmentCmd_keeps {s₀ s : State} (h : Keeps s₀ s) (g : Seg) :
    KeepsOut s₀ (execSegmentCmd g s) := by
  unfold execSegmentCmd
  (try dsimp only)
  repeat' first | with_reducible assumption | (with_reducible first | apply State.done_keeps | apply State.takeDown_keeps | apply State.segmentAction_keeps | apply State.sendUp_keeps) | split | rfl | intro _ | dsimp only | assumption

theorem execEdge_keeps {s₀ s : State} (h : Keeps s₀ s) (g : Seg) :
    KeepsOut s₀ (execEdge g s) := by
  unfold execEdge
  (try dsimp only)
  repeat' first | with_reducible assumption | (with_reducible first | apply State.done_keeps | apply State.takeUp_keeps | apply State.countMod_keeps | apply State.modAna_keeps | apply State.tellNeighbour_keeps) | split | rfl | intro _ | dsimp only | assumption

theorem execFaultMessage_keeps {s₀ s : State} (h : Keeps s₀ s) (g : Seg) :
    KeepsOut s₀ (execFaultMessage g s) := by
  unfold execFaultMessage
  (try dsimp only)
  repeat' first | with_reducible assumption | (with_reducible first | apply State.done_keeps | apply State.takeUp_keeps | apply State.modFlt_keeps | apply State.recordAndReact_keeps | apply State.modLink_keeps | apply State.report_keeps) | split | rfl | intro _ | dsimp only | assumption

theorem execOutput_keeps {s₀ s : State} (h : Keeps s₀ s) (g : Seg) :
    KeepsOut s₀ (execOutput g s) := by
  unfold execOutput
  (try dsimp only)
  repeat' first | with_reducible assumption | (with_reducible first | apply State.output_keeps | apply State.done_keeps | apply State.takeUp_keeps | apply State.dqdvOutput_keeps | apply State.kvalSample_keeps) | split | rfl | intro _ | dsimp only | assumption

theorem State.addSums_keeps {s₀ s : State} (h : Keeps s₀ s) (k : Cell) (x : Sums) :
    Keeps s₀ (State.addSums s k x) := by
  unfold State.addSums
  (try dsimp only)
  repeat' first | with_reducible assumption | (with_reducible first | apply State.modAna_keeps) | split | rfl | intro _ | dsimp only | assumption

theorem execSums_keeps {s₀ s : State} (h : Keeps s₀ s) (g : Seg) :
    KeepsOut s₀ (execSums g s) := by
  unfold execSums
  (try dsimp only)
  repeat' first | with_reducible assumption | (with_reducible first | apply State.done_keeps | apply State.takeUp_keeps | apply State.addSums_keeps) | split | rfl | intro _ | dsimp only | assumption

theorem execBurst_keeps {s₀ s : State} (h : Keeps s₀ s) (g : Seg) :
    KeepsOut s₀ (execBurst g s) := by
  unfold execBurst
  (try dsimp only)
  repeat' first | with_reducible assumption | (with_reducible first | apply State.done_keeps | apply State.takeUp_keeps | apply State.modAna_keeps) | split | rfl | intro _ | dsimp only | assumption

theorem State.placeStream_keeps {s₀ s : State} (h : Keeps s₀ s) (position g : Nat) (ws : List (BitVec 64)) :
    Keeps s₀ (State.placeStream s position g ws) := by
  unfold State.placeStream
  extract_lets gap all setGap put t lost
  have hput : ∀ (b : State × Nat × Bool) grp, Keeps s₀ b.1 → Keeps s₀ (put b grp).1 := by
    intro b grp hb
    simp only [put]
    split
    · exact hb
    · split
      · next e => exact State.placeEntry_keepsEq e hb
      · exact hb
  have hfold : ∀ (l : List (List (BitVec 64))) (b : State × Nat × Bool), Keeps s₀ b.1 → Keeps s₀ (l.foldl put b).1 := by
    intro l
    induction l with
    | nil => exact fun _ hb => hb
    | cons a l ih => exact fun b hb => ih _ (hput b a hb)
  exact State.modHost_keeps (hfold _ _ h) _


theorem execStream_keeps {s₀ s : State} (h : Keeps s₀ s) (g : Seg) :
    KeepsOut s₀ (execStream g s) := by
  unfold execStream
  (try dsimp only)
  repeat' first | with_reducible assumption | (with_reducible first | apply State.done_keeps | apply State.takeUp_keeps | apply State.placeStream_keeps | apply State.toHead_keeps | apply each_keeps) | split | rfl | intro _ | dsimp only | assumption

theorem execSegmentRsp_keeps {s₀ s : State} (h : Keeps s₀ s) (g : Seg) :
    KeepsOut s₀ (execSegmentRsp g s) := by
  unfold execSegmentRsp
  (try dsimp only)
  repeat' first | with_reducible assumption | (with_reducible first | apply State.takeUp_keeps | apply State.store_keeps | apply State.replyLate_keeps | apply State.done_keeps | apply State.modLink_keeps | apply State.verifyAnswer_keeps) | split | rfl | intro _ | dsimp only | assumption

theorem execSegmentImagePush_keeps {s₀ s : State} (h : Keeps s₀ s) (g : Seg) :
    KeepsOut s₀ (execSegmentImagePush g s) := by
  unfold execSegmentImagePush
  (try dsimp only)
  repeat' first | with_reducible assumption | (with_reducible first | apply State.sendShare_keeps | apply State.done_keeps) | split | rfl | intro _ | dsimp only | assumption

theorem execLogRetentionEnd_keeps {s₀ s : State} (h : Keeps s₀ s) (g : Seg) (mv : Nat) :
    KeepsOut s₀ (execLogRetentionEnd g mv s) := by
  unfold execLogRetentionEnd
  (try dsimp only)
  repeat' first | with_reducible assumption | (with_reducible first | apply State.modSeg_keeps | apply State.done_keeps) | split | rfl | intro _ | dsimp only | assumption

theorem execFeedLoss_keeps {s₀ s : State} (h : Keeps s₀ s) (g : Seg) :
    KeepsOut s₀ (execFeedLoss g s) := by
  unfold execFeedLoss
  (try dsimp only)
  repeat' first | with_reducible assumption | (with_reducible first | apply State.modSeg_keeps | apply State.raise_keeps | apply State.abortSegSlice_keeps | apply State.segDieReset_keeps | apply State.linkToDown_keeps | apply State.done_keeps) | split | rfl | intro _ | dsimp only | assumption

theorem execSegFeedRestore_keeps {s₀ s : State} (h : Keeps s₀ s) (g : Seg) (volts : Nat) :
    KeepsOut s₀ (execSegFeedRestore g volts s) := by
  unfold execSegFeedRestore
  (try dsimp only)
  repeat' first | with_reducible assumption | (with_reducible first | apply State.modSeg_keeps | apply State.done_keeps | apply State.retrainLink_keeps) | split | rfl | intro _ | dsimp only | assumption

end Sys2Proof.Machine
end

