-- ==== Sys2Proof/Laws/KeepsLoopPorts.lean ====
section
/-!
SUPPORT. What the operations of Machine/LoopPorts.lean keep: the queue, what has left, the free values, canonical memory.
-/

namespace Sys2Proof.Machine

theorem State.confirmSlot_keeps {s₀ s : State} (h : Keeps s₀ s) :
    Keeps s₀ (State.confirmSlot s) := by
  unfold State.confirmSlot
  (try dsimp only)
  repeat' first | with_reducible assumption | (with_reducible first | apply State.journal_keeps | apply State.pushJob_keeps | apply State.modNvm_keeps | apply State.modGlb_keeps) | split | rfl | intro _ | dsimp only | assumption

theorem State.tryReady_keeps {s₀ s : State} (h : Keeps s₀ s) :
    Keeps s₀ (State.tryReady s) := by
  unfold State.tryReady
  (try dsimp only)
  repeat' first | with_reducible assumption | (with_reducible first | apply State.abortSlice_keeps | apply State.enter_keeps | apply State.confirmSlot_keeps) | split | rfl | intro _ | dsimp only | assumption

theorem State.tryUp_keeps {s₀ s : State} (h : Keeps s₀ s) (p : Port) :
    Keeps s₀ (State.tryUp s p) := by
  unfold State.tryUp
  (try dsimp only)
  repeat' first | with_reducible assumption | (with_reducible first | apply State.enterUp_keeps) | split | rfl | intro _ | dsimp only | assumption

theorem State.noteValid_keeps {s₀ s : State} (h : Keeps s₀ s) (p : Port) (lack : Nat) :
    Keeps s₀ (State.noteValid s p lack) := by
  unfold State.noteValid
  (try dsimp only)
  repeat' first | with_reducible assumption | (with_reducible first | apply State.modPort_keeps | apply State.modLoop_keeps | apply State.ackPort_keeps | apply State.tryUp_keeps) | split | rfl | intro _ | dsimp only | assumption

theorem State.arrive_keeps {s₀ s : State} (h : Keeps s₀ s) (p : Port) (t : Nat) (f : Frame) {k : State → State}
    (hk : ∀ s, Keeps s₀ s → Keeps s₀ (k s)) : Keeps s₀ (s.arrive p t f k) := by
  unfold State.arrive
  dsimp only
  repeat' first | with_reducible assumption | with_reducible first | apply hk | apply State.noteValid_keeps | apply State.modPort_keeps | split


theorem State.relay_keeps {s₀ s : State} (h : Keeps s₀ s) (p : Port) (f : Frame) (hop rx : Nat) :
    Keeps s₀ (State.relay s p f hop rx) := by
  unfold State.relay
  (try dsimp only)
  repeat' first | with_reducible assumption | (with_reducible first | apply State.enqueue_keeps | apply State.modPort_keeps) | split | rfl | intro _ | dsimp only | assumption

theorem State.forward_keeps {s₀ s : State} (h : Keeps s₀ s) (p : Port) (f : Frame) (hop : Nat) :
    Keeps s₀ (State.forward s p f hop) := by
  unfold State.forward
  (try dsimp only)
  repeat' first | with_reducible assumption | (with_reducible first | apply State.relay_keeps) | split | rfl | intro _ | dsimp only | assumption

theorem State.sendBack_keeps {s₀ s : State} (h : Keeps s₀ s) (p : Port) (ftype : Nat) (head : Bool) (info : Nat) (payload : List Byte) :
    Keeps s₀ (State.sendBack s p ftype head info payload) := by
  unfold State.sendBack
  (try dsimp only)
  repeat' first | with_reducible assumption | (with_reducible first | apply State.sendFrame_keeps) | split | rfl | intro _ | dsimp only | assumption

theorem State.noRouteBack_keeps {s₀ s : State} (h : Keeps s₀ s) (p : Port) (f : Frame) :
    Keeps s₀ (State.noRouteBack s p f) := by
  unfold State.noRouteBack
  (try dsimp only)
  repeat' first | with_reducible assumption | (with_reducible first | apply State.sendBack_keeps) | split | rfl | intro _ | dsimp only | assumption

theorem State.transit_keeps {s₀ s : State} (h : Keeps s₀ s) (p : Port) (f : Frame) {k : State → State}
    (hk : ∀ s, Keeps s₀ s → Keeps s₀ (k s)) : Keeps s₀ (s.transit p f k) := by
  unfold State.transit
  repeat' first | with_reducible assumption | with_reducible first | apply hk | apply State.forward_keeps | apply State.noRouteBack_keeps | split


theorem State.passOn_keeps {s₀ s : State} (h : Keeps s₀ s) (p : Port) (f : Frame) :
    Keeps s₀ (State.passOn s p f) := by
  unfold State.passOn
  (try dsimp only)
  repeat' first | with_reducible assumption | (with_reducible first | apply State.forward_keeps) | split | rfl | intro _ | dsimp only | assumption

theorem State.noteBreak_keeps {s₀ s : State} (h : Keeps s₀ s) (p : Port) (q : Nat) :
    Keeps s₀ (State.noteBreak s p q) := by
  unfold State.noteBreak
  (try dsimp only)
  repeat' first | with_reducible assumption | (with_reducible first | apply State.modLoop_keeps) | split | rfl | intro _ | dsimp only | assumption

theorem State.clearBreak_keeps {s₀ s : State} (h : Keeps s₀ s) (q : Nat) :
    Keeps s₀ (State.clearBreak s q) := by
  unfold State.clearBreak
  (try dsimp only)
  repeat' first | with_reducible assumption | (with_reducible first | apply State.modLoop_keeps) | split | rfl | intro _ | dsimp only | assumption

end Sys2Proof.Machine
end

