-- ==== Sys2Proof/Laws/KeepsLoopRows.lean ====
section
/-!
SUPPORT. What the operations of Machine/LoopRows.lean keep: the queue, what has left, the free values, canonical memory.
-/

namespace Sys2Proof.Machine

theorem State.takePong_keeps {s₀ s : State} (h : Keeps s₀ s) (p : Port) (id turn : Nat) :
    Keeps s₀ (State.takePong s p id turn) := by
  unfold State.takePong
  (try dsimp only)
  repeat' first | with_reducible assumption | (with_reducible first | apply State.modPort_keeps) | split | rfl | intro _ | dsimp only | assumption

theorem State.checkPartner_keeps {s₀ s : State} (h : Keeps s₀ s) (p : Port) (pos : Nat) :
    Keeps s₀ (State.checkPartner s p pos) := by
  unfold State.checkPartner
  (try dsimp only)
  repeat' first | with_reducible assumption | (with_reducible first | apply State.modPort_keeps | apply State.raise_keeps) | split | rfl | intro _ | dsimp only | assumption

theorem State.takeIdle_keeps {s₀ s : State} (h : Keeps s₀ s) (p : Port) (l : List Byte) :
    Keeps s₀ (State.takeIdle s p l) := by
  unfold State.takeIdle
  (try dsimp only)
  repeat' first | with_reducible assumption | (with_reducible first | apply State.modPort_keeps | apply State.takePong_keeps | apply State.checkPartner_keeps | apply State.tryUp_keeps) | split | rfl | intro _ | dsimp only | assumption

theorem execIdle_keeps {s₀ s : State} (h : Keeps s₀ s) (p : Port) (f : Frame) :
    KeepsOut s₀ (execIdle p f s) := by
  unfold execIdle
  (try dsimp only)
  repeat' first | with_reducible assumption | (with_reducible first | apply State.arrive_keeps | apply State.takeIdle_keeps | apply State.done_keeps) | split | rfl | intro _ | dsimp only | assumption

theorem execIdleSend_keeps {s₀ s : State} (h : Keeps s₀ s) (p : Port) :
    KeepsOut s₀ (execIdleSend p s) := by
  unfold execIdleSend
  (try dsimp only)
  repeat' first | with_reducible assumption | (with_reducible first | apply State.done_keeps | apply State.serve_keeps | apply State.modPort_keeps | apply State.startFrame_keeps) | split | rfl | intro _ | dsimp only | assumption

theorem execPortDown_keeps {s₀ s : State} (h : Keeps s₀ s) (p : Port) :
    KeepsOut s₀ (execPortDown p s) := by
  unfold execPortDown
  (try dsimp only)
  repeat' first | with_reducible assumption | (with_reducible first | apply State.restartPort_keeps | apply State.done_keeps) | split | rfl | intro _ | dsimp only | assumption

theorem execPortTrainingTimeout_keeps {s₀ s : State} (h : Keeps s₀ s) (p : Port) :
    KeepsOut s₀ (execPortTrainingTimeout p s) := by
  unfold execPortTrainingTimeout
  (try dsimp only)
  repeat' first | with_reducible assumption | (with_reducible first | apply State.trainPort_keeps | apply State.done_keeps) | split | rfl | intro _ | dsimp only | assumption

theorem execRetransmit_keeps {s₀ s : State} (h : Keeps s₀ s) (p : Port) :
    KeepsOut s₀ (execRetransmit p s) := by
  unfold execRetransmit
  (try dsimp only)
  repeat' first | with_reducible assumption | (with_reducible first | apply State.modPort_keeps | apply State.serve_keeps | apply State.done_keeps) | split | rfl | intro _ | dsimp only | assumption

theorem State.abortCopy_keeps {s₀ s : State} (h : Keeps s₀ s) (p : Port) (f : Frame) :
    Keeps s₀ (State.abortCopy s p f) := by
  unfold State.abortCopy
  (try dsimp only)
  repeat' first | with_reducible assumption | (with_reducible first | apply State.emit_keeps | apply State.modPort_keeps) | split | rfl | intro _ | dsimp only | assumption

theorem execLoopFrameError_keeps {s₀ s : State} (h : Keeps s₀ s) (p : Port) (e : FrameError) (f : Option Frame) :
    KeepsOut s₀ (execLoopFrameError p e f s) := by
  unfold execLoopFrameError
  (try dsimp only)
  repeat' first | with_reducible assumption | (with_reducible first | apply State.done_keeps | apply State.abortCopy_keeps | apply State.modPort_keeps) | split | rfl | intro _ | dsimp only | assumption

theorem State.headRsp_keeps {s₀ s : State} (h : Keeps s₀ s) (f : Frame) :
    Keeps s₀ (State.headRsp s f) := by
  unfold State.headRsp
  (try dsimp only)
  repeat' first | with_reducible assumption | (with_reducible first | apply State.notice_keeps | apply State.completeTag_keeps) | split | rfl | intro _ | dsimp only | assumption

theorem execRsp_keeps {s₀ s : State} (h : Keeps s₀ s) (p : Port) (f : Frame) :
    KeepsOut s₀ (execRsp p f s) := by
  unfold execRsp
  (try dsimp only)
  repeat' first | with_reducible assumption | (with_reducible first | apply State.arrive_keeps | apply State.headRsp_keeps | apply State.transit_keeps | apply State.done_keeps) | split | rfl | intro _ | dsimp only | assumption

theorem State.takeLinkEvent_keeps {s₀ s : State} (h : Keeps s₀ s) (p : Port) (l : List Byte) :
    Keeps s₀ (State.takeLinkEvent s p l) := by
  unfold State.takeLinkEvent
  (try dsimp only)
  repeat' first | with_reducible assumption | (with_reducible first | apply State.noteBreak_keeps | apply State.censusBroken_keeps | apply State.clearBreak_keeps) | split | rfl | intro _ | dsimp only | assumption

theorem execEvent_keeps {s₀ s : State} (h : Keeps s₀ s) (p : Port) (f : Frame) :
    KeepsOut s₀ (execEvent p f s) := by
  unfold execEvent
  (try dsimp only)
  repeat' first | with_reducible assumption | (with_reducible first | apply State.arrive_keeps | apply State.notice_keeps | apply State.takeLinkEvent_keeps | apply State.passOn_keeps | apply State.transit_keeps | apply State.done_keeps) | split | rfl | intro _ | dsimp only | assumption

theorem State.takeRecord_keeps {s₀ s : State} (h : Keeps s₀ s) (r : List Byte) :
    Keeps s₀ (State.takeRecord s r) := by
  unfold State.takeRecord
  (try dsimp only)
  repeat' first | with_reducible assumption | (with_reducible first | apply State.modLoop_keeps | apply State.sweepPlaced_keeps) | split | rfl | intro _ | refine State.placeEntry_keepsEq (by assumption) ?_ | dsimp only | assumption

theorem State.headRes_keeps {s₀ s : State} (h : Keeps s₀ s) (f : Frame) :
    Keeps s₀ (State.headRes s f) := by
  unfold State.headRes
  (try dsimp only)
  repeat' first | with_reducible assumption | (with_reducible first | apply State.takeRecord_keeps | apply State.placeStream_keeps | apply State.sweepEnded_keeps | apply each_keeps) | split | rfl | intro _ | dsimp only | assumption

theorem State.takeFigures_keeps {s₀ s : State} (h : Keeps s₀ s) (headPos placed retired : Nat) :
    Keeps s₀ (State.takeFigures s headPos placed retired) := by
  unfold State.takeFigures
  (try dsimp only)
  repeat' first | with_reducible assumption | (with_reducible first | apply State.modLoop_keeps | apply State.modRes_keeps | apply State.endEpisode_keeps) | split | rfl | intro _ | dsimp only | assumption

theorem State.takeRetire_keeps {s₀ s : State} (h : Keeps s₀ s) (l : List Byte) :
    Keeps s₀ (State.takeRetire s l) := by
  unfold State.takeRetire
  (try dsimp only)
  repeat' first | with_reducible assumption | (with_reducible first | apply State.takeFigures_keeps | apply each_keeps) | split | rfl | intro _ | dsimp only | assumption

theorem execRes_keeps {s₀ s : State} (h : Keeps s₀ s) (p : Port) (f : Frame) :
    KeepsOut s₀ (execRes p f s) := by
  unfold execRes
  (try dsimp only)
  repeat' first | with_reducible assumption | (with_reducible first | apply State.arrive_keeps | apply State.headRes_keeps | apply State.takeRetire_keeps | apply State.passOn_keeps | apply State.transit_keeps | apply State.done_keeps) | split | rfl | intro _ | dsimp only | assumption

theorem State.sendRetire_keeps {s₀ s : State} (h : Keeps s₀ s) (items : List (Nat × Nat × Nat)) :
    Keeps s₀ (State.sendRetire s items) := by
  unfold State.sendRetire
  (try dsimp only)
  repeat' first | with_reducible assumption | (with_reducible first | apply State.sendFrame_keeps | apply each_keeps) | split | rfl | intro _ | dsimp only | assumption

theorem execRetireNotice_keeps {s₀ s : State} (h : Keeps s₀ s) :
    KeepsOut s₀ (execRetireNotice s) := by
  unfold execRetireNotice
  (try dsimp only)
  repeat' first | with_reducible assumption | (with_reducible first | apply State.modLoop_keeps | apply State.sendRetire_keeps | apply State.done_keeps | apply each_keeps) | split | rfl | intro _ | dsimp only | assumption

theorem execRecordResend_keeps {s₀ s : State} (h : Keeps s₀ s) :
    KeepsOut s₀ (execRecordResend s) := by
  unfold execRecordResend
  (try dsimp only)
  repeat' first | with_reducible assumption | (with_reducible first | apply State.deliverSlot_keeps | apply State.done_keeps | apply each_keeps) | split | rfl | intro _ | dsimp only | assumption

theorem State.takeParkAll_keeps {s₀ s : State} (h : Keeps s₀ s) (id : Nat) :
    Keeps s₀ (State.takeParkAll s id) := by
  unfold State.takeParkAll
  (try dsimp only)
  repeat' first | with_reducible assumption | (with_reducible first | apply State.modLoop_keeps | apply State.abortSlice_keeps | apply State.haltNow_keeps | apply State.raise_keeps) | split | rfl | intro _ | dsimp only | assumption

theorem execParkAll_keeps {s₀ s : State} (h : Keeps s₀ s) (p : Port) (f : Frame) :
    KeepsOut s₀ (execParkAll p f s) := by
  unfold execParkAll
  (try dsimp only)
  repeat' first | with_reducible assumption | (with_reducible first | apply State.arrive_keeps | apply State.takeParkAll_keeps | apply State.forward_keeps | apply State.done_keeps) | split | rfl | intro _ | dsimp only | assumption

theorem State.measureLatency_keeps {s₀ s : State} (h : Keeps s₀ s) :
    Keeps s₀ (State.measureLatency s) := by
  unfold State.measureLatency
  (try dsimp only)
  repeat' first | with_reducible assumption | (with_reducible first | apply State.modPort_keeps | apply each_keeps) | split | rfl | intro _ | dsimp only | assumption

theorem State.censusCmd_keeps {s₀ s : State} (h : Keeps s₀ s) (o : Origin) :
    Keeps s₀ (State.censusCmd s o).1 := by
  unfold State.censusCmd
  (try dsimp only)
  repeat' first | with_reducible assumption | (with_reducible first | apply State.freeBits_keeps | apply State.modLoop_keeps | apply State.measureLatency_keeps | apply State.sendFrame_keeps) | split | rfl | intro _ | dsimp only | assumption

theorem State.censusCmd_keepsEq {s₀ s u₁ : State} {a₁} {o : Origin}
    (e : State.censusCmd s o = (u₁, a₁)) (h : Keeps s₀ s) : Keeps s₀ u₁ := by
  have k := State.censusCmd_keeps h o
  rw [e] at k
  exact k

theorem State.adopt_keeps {s₀ s : State} (h : Keeps s₀ s) (gen position n : Nat) (topo : Bool) :
    Keeps s₀ (State.adopt s gen position n topo) := by
  unfold State.adopt
  (try dsimp only)
  repeat' first | with_reducible assumption | (with_reducible first | apply State.modLoop_keeps | apply State.serve_keeps | apply State.tryReady_keeps) | split | rfl | intro _ | dsimp only | assumption

theorem State.tryAssign_keeps {s₀ s : State} (h : Keeps s₀ s) :
    Keeps s₀ (State.tryAssign s) := by
  unfold State.tryAssign
  (try dsimp only)
  repeat' first | with_reducible assumption | (with_reducible first | apply State.modLoop_keeps | apply State.sendFrame_keeps | apply State.adopt_keeps | apply State.replyLate_keeps) | split | rfl | intro _ | dsimp only | assumption

theorem State.takeProbe_keeps {s₀ s : State} (h : Keeps s₀ s) (p : Port) (f : Frame) :
    Keeps s₀ (State.takeProbe s p f) := by
  unfold State.takeProbe
  (try dsimp only)
  repeat' first | with_reducible assumption | (with_reducible first | apply State.modLoop_keeps | apply State.tryAssign_keeps | apply State.measureLatency_keeps | apply State.sendFrame_keeps | apply State.passOn_keeps) | split | rfl | intro _ | dsimp only | assumption

theorem execProbe_keeps {s₀ s : State} (h : Keeps s₀ s) (p : Port) (f : Frame) :
    KeepsOut s₀ (execProbe p f s) := by
  unfold execProbe
  (try dsimp only)
  repeat' first | with_reducible assumption | (with_reducible first | apply State.arrive_keeps | apply State.takeProbe_keeps | apply State.done_keeps) | split | rfl | intro _ | dsimp only | assumption

theorem State.takeReply_keeps {s₀ s : State} (h : Keeps s₀ s) (l : List Byte) :
    Keeps s₀ (State.takeReply s l) := by
  unfold State.takeReply
  (try dsimp only)
  repeat' first | with_reducible assumption | (with_reducible first | apply State.notice_keeps | apply State.modLoop_keeps | apply State.tryAssign_keeps) | split | rfl | intro _ | dsimp only | assumption

theorem execReply_keeps {s₀ s : State} (h : Keeps s₀ s) (p : Port) (f : Frame) :
    KeepsOut s₀ (execReply p f s) := by
  unfold execReply
  (try dsimp only)
  repeat' first | with_reducible assumption | (with_reducible first | apply State.arrive_keeps | apply State.takeReply_keeps | apply State.transit_keeps | apply State.done_keeps) | split | rfl | intro _ | dsimp only | assumption

theorem State.takeAssign_keeps {s₀ s : State} (h : Keeps s₀ s) (p : Port) (f : Frame) :
    Keeps s₀ (State.takeAssign s p f) := by
  unfold State.takeAssign
  (try dsimp only)
  repeat' first | with_reducible assumption | (with_reducible first | apply State.adopt_keeps | apply State.passOn_keeps) | split | rfl | intro _ | dsimp only | assumption

theorem execAssign_keeps {s₀ s : State} (h : Keeps s₀ s) (p : Port) (f : Frame) :
    KeepsOut s₀ (execAssign p f s) := by
  unfold execAssign
  (try dsimp only)
  repeat' first | with_reducible assumption | (with_reducible first | apply State.arrive_keeps | apply State.takeAssign_keeps | apply State.done_keeps) | split | rfl | intro _ | dsimp only | assumption

theorem execCensusTimeout_keeps {s₀ s : State} (h : Keeps s₀ s) :
    KeepsOut s₀ (execCensusTimeout s) := by
  unfold execCensusTimeout
  (try dsimp only)
  repeat' first | with_reducible assumption | (with_reducible first | apply State.modLoop_keeps | apply State.replyLate_keeps | apply State.done_keeps) | split | rfl | intro _ | dsimp only | assumption

theorem execOrphan_keeps {s₀ s : State} (h : Keeps s₀ s) :
    KeepsOut s₀ (execOrphan s) := by
  unfold execOrphan
  (try dsimp only)
  repeat' first | with_reducible assumption | (with_reducible first | apply State.done_keeps | apply State.modLoop_keeps | apply State.raise_keeps | apply State.leaveRun_keeps | apply State.leaveOpenAll_keeps | apply State.orphanRamp_keeps | apply State.abortSlice_keeps | apply State.enter_keeps | apply State.powerActive_keeps) | split | rfl | intro _ | dsimp only | assumption

theorem execOrphanPark_keeps {s₀ s : State} (h : Keeps s₀ s) :
    KeepsOut s₀ (execOrphanPark s) := by
  unfold execOrphanPark
  (try dsimp only)
  repeat' first | with_reducible assumption | (with_reducible first | apply State.orphanRamp_keeps | apply State.modLoop_keeps | apply State.parkSymbol_keeps | apply State.done_keeps) | split | rfl | intro _ | dsimp only | assumption

theorem execWakeSymbol_keeps {s₀ s : State} (h : Keeps s₀ s) (p : Port) :
    KeepsOut s₀ (execWakeSymbol p s) := by
  unfold execWakeSymbol
  (try dsimp only)
  repeat' first | with_reducible assumption | (with_reducible first | apply State.done_keeps | apply State.modLoop_keeps | apply State.notice_keeps | apply State.emit_keeps | apply State.wokenBySymbol_keeps) | split | rfl | intro _ | dsimp only | assumption

end Sys2Proof.Machine
end

