-- ==== Sys2Proof/Laws/KeepsTimeRows.lean ====
section
/-!
SUPPORT. What the operations of Machine/TimeRows.lean keep: the queue, what has left, the free values, canonical memory.
-/

namespace Sys2Proof.Machine

theorem State.shiftTimers_keeps {s₀ s : State} (h : Keeps s₀ s) (d : Int) :
    Keeps s₀ (State.shiftTimers s d) := by
  unfold State.shiftTimers
  (try dsimp only)
  repeat' first | with_reducible assumption | (with_reducible first | apply State.modLoop_keeps | apply State.setLinks_keeps | apply State.setSegs_keeps | apply State.modHost_keeps | apply State.modGlb_keeps | apply State.modPwr_keeps | apply State.modTu_keeps | apply State.modSpc_keeps | apply State.modTherm_keeps | apply State.modBist_keeps | apply State.setMeas_keeps | apply State.modFlt_keeps | apply State.modRes_keeps) | split | rfl | intro _ | dsimp only | assumption

theorem State.setTime_keeps {s₀ s : State} (h : Keeps s₀ s) (t : Nat) :
    Keeps s₀ (State.setTime s t) := by
  unfold State.setTime
  (try dsimp only)
  repeat' first | with_reducible assumption | (with_reducible first | apply State.shiftTimers_keeps | apply State.setNow_keeps | apply State.modTu_keeps) | split | rfl | intro _ | dsimp only | assumption

theorem State.beginSlew_keeps {s₀ s : State} (h : Keeps s₀ s) (off : Int) :
    Keeps s₀ (State.beginSlew s off) := by
  unfold State.beginSlew
  (try dsimp only)
  repeat' first | with_reducible assumption | (with_reducible first | apply State.modTu_keeps | apply State.raise_keeps) | split | rfl | intro _ | dsimp only | assumption

theorem State.judgeLock_keeps {s₀ s : State} (h : Keeps s₀ s) (off : Int) (fresh : Bool) :
    Keeps s₀ (State.judgeLock s off fresh) := by
  unfold State.judgeLock
  (try dsimp only)
  repeat' first | with_reducible assumption | (with_reducible first | apply State.modTu_keeps) | split | rfl | intro _ | dsimp only | assumption

theorem State.takeOffset_keeps {s₀ s : State} (h : Keeps s₀ s) (off : Int) :
    Keeps s₀ (State.takeOffset s off) := by
  unfold State.takeOffset
  (try dsimp only)
  repeat' first | with_reducible assumption | (with_reducible first | apply State.modTu_keeps | apply State.judgeLock_keeps | apply State.setTime_keeps | apply State.beginSlew_keeps) | split | rfl | intro _ | dsimp only | assumption

theorem State.chooseSource_keeps {s₀ s : State} (h : Keeps s₀ s) (p : Port) :
    Keeps s₀ (State.chooseSource s p) := by
  unfold State.chooseSource
  (try dsimp only)
  repeat' first | with_reducible assumption | (with_reducible first | apply State.modTu_keeps) | split | rfl | intro _ | dsimp only | assumption

theorem State.takeTime_keeps {s₀ s : State} (h : Keeps s₀ s) (p : Port) (f : Frame) (rx : Nat) :
    Keeps s₀ (State.takeTime s p f rx) := by
  unfold State.takeTime
  (try dsimp only)
  repeat' first | with_reducible assumption | (with_reducible first | apply State.hold_keeps | apply State.modTu_keeps | apply State.chooseSource_keeps | apply State.takeOffset_keeps) | split | rfl | intro _ | dsimp only | assumption

theorem State.passTime_keeps {s₀ s : State} (h : Keeps s₀ s) (p : Port) (f : Frame) (rx : Nat) :
    Keeps s₀ (State.passTime s p f rx) := by
  unfold State.passTime
  (try dsimp only)
  repeat' first | with_reducible assumption | (with_reducible first | apply State.relay_keeps) | split | rfl | intro _ | dsimp only | assumption

theorem execTime_keeps {s₀ s : State} (h : Keeps s₀ s) (p : Port) (f : Frame) (rx : Nat) :
    KeepsOut s₀ (execTime p f rx s) := by
  unfold execTime
  (try dsimp only)
  repeat' first | with_reducible assumption | (with_reducible first | apply State.arrive_keeps | apply State.passTime_keeps | apply State.takeTime_keeps | apply State.done_keeps) | split | rfl | intro _ | dsimp only | assumption

theorem State.dropSource_keeps {s₀ s : State} (h : Keeps s₀ s) (p : Port) :
    Keeps s₀ (State.dropSource s p) := by
  unfold State.dropSource
  (try dsimp only)
  repeat' first | with_reducible assumption | (with_reducible first | apply State.modTu_keeps | apply State.hold_keeps) | split | rfl | intro _ | dsimp only | assumption

theorem execSourceLost_keeps {s₀ s : State} (h : Keeps s₀ s) (p : Port) :
    KeepsOut s₀ (execSourceLost p s) := by
  unfold execSourceLost
  (try dsimp only)
  repeat' first | with_reducible assumption | (with_reducible first | apply State.dropSource_keeps | apply State.done_keeps) | split | rfl | intro _ | dsimp only | assumption

theorem execPtmDialogue_keeps {s₀ s : State} (h : Keeps s₀ s) (ok : Bool) (master : Nat) :
    KeepsOut s₀ (execPtmDialogue ok master s) := by
  unfold execPtmDialogue
  (try dsimp only)
  repeat' first | with_reducible assumption | (with_reducible first | apply State.done_keeps | apply State.modTu_keeps | apply State.takeOffset_keeps) | split | rfl | intro _ | dsimp only | assumption

theorem execTimeFrameTx_keeps {s₀ s : State} (h : Keeps s₀ s) :
    KeepsOut s₀ (execTimeFrameTx s) := by
  unfold execTimeFrameTx
  (try dsimp only)
  repeat' first | with_reducible assumption | (with_reducible first | apply State.done_keeps | apply State.modLoop_keeps | apply State.sendFrame_keeps | apply each_keeps) | split | rfl | intro _ | dsimp only | assumption

theorem execHoldover_keeps {s₀ s : State} (h : Keeps s₀ s) :
    KeepsOut s₀ (execHoldover s) := by
  unfold execHoldover
  (try dsimp only)
  repeat' first | with_reducible assumption | (with_reducible first | apply State.modTu_keeps | apply State.raise_keeps | apply State.done_keeps) | split | rfl | intro _ | dsimp only | assumption

theorem execHoldoverLimit_keeps {s₀ s : State} (h : Keeps s₀ s) :
    KeepsOut s₀ (execHoldoverLimit s) := by
  unfold execHoldoverLimit
  (try dsimp only)
  repeat' first | with_reducible assumption | (with_reducible first | apply State.modTu_keeps | apply State.raise_keeps | apply State.done_keeps) | split | rfl | intro _ | dsimp only | assumption

theorem State.followOff_keeps {s₀ s : State} (h : Keeps s₀ s) :
    Keeps s₀ (State.followOff s) := by
  unfold State.followOff
  (try dsimp only)
  repeat' first | with_reducible assumption | (with_reducible first | apply State.modTu_keeps) | split | rfl | intro _ | dsimp only | assumption

end Sys2Proof.Machine
end

