-- ==== Sys2Proof/Laws/KeepsHostRows.lean ====
section
/-!
SUPPORT. What the operations of Machine/HostRows.lean keep: the queue, what has left, the free values, canonical memory.
-/

namespace Sys2Proof.Machine

theorem State.flushNotices_keeps {s₀ s : State} (h : Keeps s₀ s) (n : Nat) : Keeps s₀ (State.flushNotices n s) := by
  induction n generalizing s with
  | zero => exact h
  | succ n ih =>
    unfold State.flushNotices
    repeat' first | with_reducible assumption | with_reducible first | apply ih | apply State.modHost_keeps | split
    exact State.placeEntry_keepsEq (by assumption) h


theorem State.placeWaiting_keeps {s₀ s : State} (h : Keeps s₀ s) :
    Keeps s₀ (State.placeWaiting s) := by
  unfold State.placeWaiting
  (try dsimp only)
  repeat' first | with_reducible assumption | (with_reducible first | apply State.deliverSlot_keeps | apply State.flushNotices_keeps | apply each_keeps) | split | rfl | intro _ | dsimp only | assumption

theorem State.enableHost_keeps {s₀ s : State} (h : Keeps s₀ s) :
    Keeps s₀ (State.enableHost s) := by
  unfold State.enableHost
  (try dsimp only)
  repeat' first | with_reducible assumption | (with_reducible first | apply State.setFld_keeps | apply State.modHost_keeps | apply State.placeWaiting_keeps | apply State.hostErr_keeps) | split | rfl | intro _ | dsimp only | assumption

theorem State.disableHost_keeps {s₀ s : State} (h : Keeps s₀ s) :
    Keeps s₀ (State.disableHost s) := by
  unfold State.disableHost
  (try dsimp only)
  repeat' first | with_reducible assumption | (with_reducible first | apply State.setFld_keeps | apply State.modHost_keeps) | split | rfl | intro _ | dsimp only | assumption

theorem State.doorbell_keeps {s₀ s : State} (h : Keeps s₀ s) :
    Keeps s₀ (State.doorbell s) := by
  unfold State.doorbell
  (try dsimp only)
  repeat' first | with_reducible assumption | (with_reducible first | apply State.stopEntry_keeps | apply State.setPower_keeps) | split | rfl | intro _ | dsimp only | assumption

theorem State.doorbellError_keeps {s₀ s : State} (h : Keeps s₀ s) (bits : BitVec 10) :
    Keeps s₀ (State.doorbellError s bits) := by
  unfold State.doorbellError
  (try dsimp only)
  repeat' first | with_reducible assumption | (with_reducible first | apply State.hostErr_keeps | apply State.hostError_keeps) | split | rfl | intro _ | dsimp only | assumption

theorem execDbCmdTail_keeps {s₀ s : State} (h : Keeps s₀ s) (value : BitVec 16) :
    KeepsOut s₀ (execDbCmdTail value s) := by
  unfold execDbCmdTail
  (try dsimp only)
  repeat' first | with_reducible assumption | (with_reducible first | apply State.done_keeps | apply State.doorbell_keeps | apply State.modHost_keeps | apply State.doorbellError_keeps) | split | rfl | intro _ | dsimp only | assumption

theorem execDbCplHead_keeps {s₀ s : State} (h : Keeps s₀ s) (value : BitVec 16) :
    KeepsOut s₀ (execDbCplHead value s) := by
  unfold execDbCplHead
  (try dsimp only)
  repeat' first | with_reducible assumption | (with_reducible first | apply State.done_keeps | apply State.doorbell_keeps | apply State.modHost_keeps | apply State.doorbellError_keeps) | split | rfl | intro _ | dsimp only | assumption

theorem State.retire_keeps {s₀ s : State} (h : Keeps s₀ s) (e : Placed) :
    Keeps s₀ (State.retire s e) := by
  unfold State.retire
  (try dsimp only)
  repeat' first | with_reducible assumption | (with_reducible first | apply State.modRes_keeps | apply State.modLoop_keeps) | split | rfl | intro _ | dsimp only | assumption

theorem execDbResHead_keeps {s₀ s : State} (h : Keeps s₀ s) (ring : Fin 4) (value : BitVec 16) :
    KeepsOut s₀ (execDbResHead ring value s) := by
  unfold execDbResHead
  (try dsimp only)
  repeat' first | with_reducible assumption | (with_reducible first | apply State.done_keeps | apply State.doorbell_keeps | apply State.retire_keeps | apply State.modHost_keeps | apply State.endEpisode_keeps | apply State.placeWaiting_keeps | apply State.doorbellError_keeps | apply each_keeps) | split | rfl | intro _ | dsimp only | assumption

theorem execCmdTimeout_keeps {s₀ s : State} (h : Keeps s₀ s) (tag : Nat) :
    KeepsOut s₀ (execCmdTimeout tag s) := by
  unfold execCmdTimeout
  (try dsimp only)
  repeat' first | with_reducible assumption | (with_reducible first | apply State.done_keeps | apply State.completeTag_keeps | apply State.modHost_keeps | apply State.raise_keeps) | split | rfl | intro _ | dsimp only | assumption

theorem execCoalesceTimeout_keeps {s₀ s : State} (h : Keeps s₀ s) (ring : Fin 5) :
    KeepsOut s₀ (execCoalesceTimeout ring s) := by
  unfold execCoalesceTimeout
  (try dsimp only)
  repeat' first | with_reducible assumption | (with_reducible first | apply State.modHost_keeps | apply State.msix_keeps | apply State.done_keeps) | split | rfl | intro _ | dsimp only | assumption

theorem State.hostAway_keeps {s₀ s : State} (h : Keeps s₀ s) :
    Keeps s₀ (State.hostAway s) := by
  unfold State.hostAway
  (try dsimp only)
  repeat' first | with_reducible assumption | (with_reducible first | apply State.modHost_keeps) | split | rfl | intro _ | dsimp only | assumption

theorem execHostReset_keeps {s₀ s : State} (h : Keeps s₀ s) (flr : Bool) :
    KeepsOut s₀ (execHostReset flr s) := by
  unfold execHostReset
  (try dsimp only)
  repeat' first | with_reducible assumption | (with_reducible first | apply State.done_keeps | apply State.hostDomainReset_keeps | apply State.modHost_keeps | apply State.setPins_keeps | apply State.hostAway_keeps | apply State.raise_keeps) | split | rfl | intro _ | dsimp only | assumption

theorem execPcieLinkDown_keeps {s₀ s : State} (h : Keeps s₀ s) :
    KeepsOut s₀ (execPcieLinkDown s) := by
  unfold execPcieLinkDown
  (try dsimp only)
  repeat' first | with_reducible assumption | (with_reducible first | apply State.modHost_keeps | apply State.hostAway_keeps | apply State.raise_keeps | apply State.done_keeps) | split | rfl | intro _ | dsimp only | assumption

theorem execPcieLinkUp_keeps {s₀ s : State} (h : Keeps s₀ s) :
    KeepsOut s₀ (execPcieLinkUp s) := by
  unfold execPcieLinkUp
  (try dsimp only)
  repeat' first | with_reducible assumption | (with_reducible first | apply State.done_keeps | apply State.modHost_keeps | apply State.setPins_keeps | apply State.modLoop_keeps | apply State.tryReady_keeps) | split | rfl | intro _ | dsimp only | assumption

theorem State.fetchResult_keeps {s₀ s : State} (h : Keeps s₀ s) (slot gen : Nat) :
    Keeps s₀ (State.fetchResult s slot gen).2 := by
  unfold State.fetchResult
  (try dsimp only)
  repeat' first | with_reducible assumption | (with_reducible first | apply State.modSlot_keeps) | split | rfl | intro _ | dsimp only | assumption

theorem State.fetchResult_keepsEq {s₀ s u₁ : State} {a₁} {slot gen : Nat}
    (e : State.fetchResult s slot gen = (a₁, u₁)) (h : Keeps s₀ s) : Keeps s₀ u₁ := by
  have k := State.fetchResult_keeps h slot gen
  rw [e] at k
  exact k

theorem State.takeMarks_keeps {s₀ s : State} (h : Keeps s₀ s) (o : Origin) (items : List (Nat × Nat × Nat)) :
    Keeps s₀ (State.takeMarks s o items).2 := by
  unfold State.takeMarks
  (try dsimp only)
  repeat' first | with_reducible assumption | (with_reducible first | apply State.modLoop_keeps | apply each_keeps) | split | rfl | intro _ | dsimp only | assumption

theorem State.takeMarks_keepsEq {s₀ s u₁ : State} {a₁} {o : Origin} {items : List (Nat × Nat × Nat)}
    (e : State.takeMarks s o items = (a₁, u₁)) (h : Keeps s₀ s) : Keeps s₀ u₁ := by
  have k := State.takeMarks_keeps h o items
  rw [e] at k
  exact k

end Sys2Proof.Machine
end

