-- ==== Sys2Proof/Laws/KeepsSelfTest.lean ====
section
/-!
SUPPORT. What the operations of Machine/SelfTest.lean keep: the queue, what has left, the free values, canonical memory.
-/

namespace Sys2Proof.Machine

theorem State.endSlow_keeps {s₀ s : State} (h : Keeps s₀ s) (channels : List HouseChannel) :
    Keeps s₀ (State.endSlow s channels) := by
  unfold State.endSlow
  (try dsimp only)
  repeat' first | with_reducible assumption | (with_reducible first | apply State.modTherm_keeps | apply State.raise_keeps | apply State.finishBistRun_keeps | apply each_keeps) | split | rfl | intro _ | dsimp only | assumption

theorem execSlowRoundEnd_keeps {s₀ s : State} (h : Keeps s₀ s) (channels : List HouseChannel) :
    KeepsOut s₀ (execSlowRoundEnd channels s) := by
  unfold execSlowRoundEnd
  (try dsimp only)
  repeat' first | with_reducible assumption | (with_reducible first | apply State.endSlow_keeps | apply State.done_keeps) | split | rfl | intro _ | dsimp only | assumption

theorem State.bistCmd_keeps {s₀ s : State} (h : Keeps s₀ s) (o : Origin) (n : Option Slice) :
    Keeps s₀ (State.bistCmd s o n).1 := by
  unfold State.bistCmd
  (try dsimp only)
  repeat' first | with_reducible assumption | (with_reducible first | apply State.modBist_keeps | apply State.nextSlice_keeps) | split | rfl | intro _ | dsimp only | assumption

theorem State.bistCmd_keepsEq {s₀ s u₁ : State} {a₁} {o : Origin} {n : Option Slice}
    (e : State.bistCmd s o n = (u₁, a₁)) (h : Keeps s₀ s) : Keeps s₀ u₁ := by
  have k := State.bistCmd_keeps h o n
  rw [e] at k
  exact k

theorem State.finishRelease_keeps {s₀ s : State} (h : Keeps s₀ s) :
    Keeps s₀ (State.finishRelease s) := by
  unfold State.finishRelease
  (try dsimp only)
  repeat' first | with_reducible assumption | (with_reducible first | apply State.judgeRelease_keeps | apply State.modBist_keeps | apply State.replyLate_keeps) | split | rfl | intro _ | refine State.judgeRelease_keepsEq (by assumption) ?_ | dsimp only | assumption

theorem State.releaseCmd_keeps {s₀ s : State} (h : Keeps s₀ s) (o : Origin) (cells : BitVec 256) :
    Keeps s₀ (State.releaseCmd s o cells).1 := by
  unfold State.releaseCmd
  (try dsimp only)
  repeat' first | with_reducible assumption | (with_reducible first | apply State.judgeRelease_keeps | apply State.modBist_keeps | apply State.nextSlice_keeps) | split | rfl | intro _ | refine State.judgeRelease_keepsEq (by assumption) ?_ | dsimp only | assumption

theorem State.releaseCmd_keepsEq {s₀ s u₁ : State} {a₁} {o : Origin} {cells : BitVec 256}
    (e : State.releaseCmd s o cells = (u₁, a₁)) (h : Keeps s₀ s) : Keeps s₀ u₁ := by
  have k := State.releaseCmd_keeps h o cells
  rw [e] at k
  exact k

theorem execReleaseJudged_keeps {s₀ s : State} (h : Keeps s₀ s) :
    KeepsOut s₀ (execReleaseJudged s) := by
  unfold execReleaseJudged
  (try dsimp only)
  repeat' first | with_reducible assumption | (with_reducible first | apply State.finishRelease_keeps | apply State.done_keeps) | split | rfl | intro _ | dsimp only | assumption

theorem State.afterSlice_keeps {s₀ s : State} (h : Keeps s₀ s) (n : Slice) (kind : BistMode) (passed : Bool) :
    Keeps s₀ (State.afterSlice s n kind passed) := by
  unfold State.afterSlice
  (try dsimp only)
  repeat' first | with_reducible assumption | (with_reducible first | apply State.modBist_keeps | apply State.nextSlice_keeps | apply State.endOfQueue_keeps | apply State.release_keeps) | split | rfl | intro _ | dsimp only | assumption

theorem execSliceEnd_keeps {s₀ s : State} (h : Keeps s₀ s) (steps : Nat) (sigOk : Bool) :
    KeepsOut s₀ (execSliceEnd steps sigOk s) := by
  unfold execSliceEnd
  (try dsimp only)
  repeat' first | with_reducible assumption | (with_reducible first | apply State.done_keeps | apply State.abortSlice_keeps | apply State.freeBlock_keeps | apply State.passSlice_keeps | apply State.failSlice_keeps | apply State.afterSlice_keeps) | split | rfl | intro _ | dsimp only | assumption

theorem State.skipSlice_keeps {s₀ s : State} (h : Keeps s₀ s) :
    Keeps s₀ (State.skipSlice s) := by
  unfold State.skipSlice
  (try dsimp only)
  repeat' first | with_reducible assumption | (with_reducible first | apply State.modBist_keeps) | split | rfl | intro _ | dsimp only | assumption

theorem State.startOrSkip_keeps {s₀ s : State} (h : Keeps s₀ s) (n : Slice) :
    Keeps s₀ (State.startOrSkip s n) := by
  unfold State.startOrSkip
  (try dsimp only)
  repeat' first | with_reducible assumption | (with_reducible first | apply State.startSlice_keeps | apply State.skipSlice_keeps) | split | rfl | intro _ | dsimp only | assumption

theorem State.periodicChoice_keeps {s₀ s : State} (h : Keeps s₀ s) :
    Keeps s₀ (State.periodicChoice s) := by
  unfold State.periodicChoice
  (try dsimp only)
  repeat' first | with_reducible assumption | (with_reducible first | apply State.startOrSkip_keeps | apply State.modBist_keeps) | split | rfl | intro _ | dsimp only | assumption

theorem State.abortWaiting_keeps {s₀ s : State} (h : Keeps s₀ s) :
    Keeps s₀ (State.abortWaiting s) := by
  unfold State.abortWaiting
  (try dsimp only)
  repeat' first | with_reducible assumption | (with_reducible first | apply State.modBist_keeps | apply State.endOfQueue_keeps) | split | rfl | intro _ | dsimp only | assumption

theorem execPeriodicSlice_keeps {s₀ s : State} (h : Keeps s₀ s) :
    KeepsOut s₀ (execPeriodicSlice s) := by
  unfold execPeriodicSlice
  (try dsimp only)
  repeat' first | with_reducible assumption | (with_reducible first | apply State.done_keeps | apply State.nextSlice_keeps | apply State.modBist_keeps | apply State.abortWaiting_keeps | apply State.periodicChoice_keeps) | split | rfl | intro _ | dsimp only | assumption

theorem State.enterTest_keeps {s₀ s : State} (h : Keeps s₀ s) :
    Keeps s₀ (State.enterTest s) := by
  unfold State.enterTest
  (try dsimp only)
  repeat' first | with_reducible assumption | (with_reducible first | apply State.enter_keeps | apply State.modGlb_keeps | apply State.haltNow_keeps | apply State.modBist_keeps | apply State.nextSlice_keeps) | split | rfl | intro _ | dsimp only | assumption

theorem State.judgeLastFeed_keeps {s₀ s : State} (h : Keeps s₀ s) :
    Keeps s₀ (State.judgeLastFeed s) := by
  unfold State.judgeLastFeed
  (try dsimp only)
  repeat' first | with_reducible assumption | (with_reducible first | apply State.modGlb_keeps | apply State.raise_keeps) | split | rfl | intro _ | dsimp only | assumption

theorem execStartupTestEnd_keeps {s₀ s : State} (h : Keeps s₀ s) :
    KeepsOut s₀ (execStartupTestEnd s) := by
  unfold execStartupTestEnd
  (try dsimp only)
  repeat' first | with_reducible assumption | (with_reducible first | apply State.done_keeps | apply State.judgeLastFeed_keeps | apply State.failSlice_keeps | apply State.modBist_keeps | apply State.settle_keeps | apply State.modGlb_keeps | apply State.trainPorts_keeps | apply State.haltNow_keeps | apply State.tryReady_keeps | apply each_keeps) | split | rfl | intro _ | dsimp only | assumption

theorem State.startScan_keeps {s₀ s : State} (h : Keeps s₀ s) (c : Fin 4) (o : Option Origin) :
    Keeps s₀ (State.startScan s c o).2 := by
  unfold State.startScan
  (try dsimp only)
  repeat' first | with_reducible assumption | (with_reducible first | apply State.modChk_keeps) | split | rfl | intro _ | dsimp only | assumption

theorem State.startScan_keepsEq {s₀ s u₁ : State} {a₁} {c : Fin 4} {o : Option Origin}
    (e : State.startScan s c o = (a₁, u₁)) (h : Keeps s₀ s) : Keeps s₀ u₁ := by
  have k := State.startScan_keeps h c o
  rw [e] at k
  exact k

theorem State.checkCmd_keeps {s₀ s : State} (h : Keeps s₀ s) (o : Origin) (c : Fin 4) :
    Keeps s₀ (State.checkCmd s o c).1 := by
  unfold State.checkCmd
  (try dsimp only)
  repeat' first | with_reducible assumption | (with_reducible first | apply State.startScan_keeps) | split | rfl | intro _ | refine State.startScan_keepsEq (by assumption) ?_ | dsimp only | assumption

theorem State.checkCmd_keepsEq {s₀ s u₁ : State} {a₁} {o : Origin} {c : Fin 4}
    (e : State.checkCmd s o c = (u₁, a₁)) (h : Keeps s₀ s) : Keeps s₀ u₁ := by
  have k := State.checkCmd_keeps h o c
  rw [e] at k
  exact k

theorem State.scanBytes_keeps {s₀ s : State} (h : Keeps s₀ s) (start len : Nat) :
    Keeps s₀ (State.scanBytes s start len).2 := by
  unfold State.scanBytes
  (try dsimp only)
  repeat' first | with_reducible assumption | (with_reducible first | apply State.freeBits_keeps | apply foldl_keeps) | split | rfl | intro _ | dsimp only | assumption

theorem State.scanBytes_keepsEq {s₀ s u₁ : State} {a₁} {start len : Nat}
    (e : State.scanBytes s start len = (a₁, u₁)) (h : Keeps s₀ s) : Keeps s₀ u₁ := by
  have k := State.scanBytes_keeps h start len
  rw [e] at k
  exact k

theorem execScanDone_keeps {s₀ s : State} (h : Keeps s₀ s) (c : Fin 4) :
    KeepsOut s₀ (execScanDone c s) := by
  unfold execScanDone
  (try dsimp only)
  repeat' first | with_reducible assumption | (with_reducible first | apply State.scanBytes_keeps | apply State.modChk_keeps | apply State.done_keeps | apply State.replyLate_keeps) | split | rfl | intro _ | refine State.scanBytes_keepsEq (by assumption) ?_ | dsimp only | assumption

end Sys2Proof.Machine
end

