-- ==== Sys2Proof/Laws/KeepsStartup.lean ====
section
/-!
SUPPORT. What the operations of Machine/Startup.lean keep: the queue, what has left, the free values, canonical memory.
-/

namespace Sys2Proof.Machine

theorem State.powerOn_keeps {s₀ s : State} (h : Keeps s₀ s) : Keeps s₀ (State.powerOn s) :=
  ⟨h.pending, h.free, h.out, fun m => by
    have hm := (Memory.wf_iff s).1 (h.mem m)
    refine (Memory.wf_iff _).2 ⟨rfl, hm.2.1, fun x hx => ?_⟩
    simp only [State.powerOn, Vec.map, List.mem_map] at hx
    obtain ⟨y, hy, rfl⟩ := hx
    rfl⟩


theorem execAuxInRange_keeps {s₀ s : State} (h : Keeps s₀ s) (mv : Nat) :
    KeepsOut s₀ (execAuxInRange mv s) := by
  unfold execAuxInRange
  (try dsimp only)
  repeat' first | with_reducible assumption | (with_reducible first | apply State.powerOn_keeps | apply State.done_keeps) | split | rfl | intro _ | dsimp only | assumption

theorem State.segAuxLost_keeps {s₀ s : State} (h : Keeps s₀ s) (g : Seg) :
    Keeps s₀ (State.segAuxLost s g) := by
  unfold State.segAuxLost
  (try dsimp only)
  repeat' first | with_reducible assumption | (with_reducible first | apply State.captureWindow_keeps | apply State.modLink_keeps | apply State.modSeg_keeps | apply State.dormantPatrol_keeps) | split | rfl | intro _ | dsimp only | assumption

theorem execAuxOutOfRange_keeps {s₀ s : State} (h : Keeps s₀ s) (mv : Nat) :
    KeepsOut s₀ (execAuxOutOfRange mv s) := by
  unfold execAuxOutOfRange
  (try dsimp only)
  repeat' first | with_reducible assumption | (with_reducible first | apply State.stageOff_keeps | apply State.abandonWrites_keeps | apply State.leaveOpenAll_keeps | apply State.segAuxLost_keeps | apply State.modPwr_keeps | apply State.setPins_keeps | apply State.modGlb_keeps | apply State.enter_keeps | apply State.done_keeps | apply each_keeps) | split | rfl | intro _ | dsimp only | assumption

theorem execShutdownLatchClear_keeps {s₀ s : State} (h : Keeps s₀ s) (belowMs : Nat) :
    KeepsOut s₀ (execShutdownLatchClear belowMs s) := by
  unfold execShutdownLatchClear
  (try dsimp only)
  repeat' first | with_reducible assumption | (with_reducible first | apply State.done_keeps | apply State.freeBool_keeps | apply State.modTherm_keeps) | split | rfl | intro _ | dsimp only | assumption

theorem execAuxMonitorUpdate_keeps {s₀ s : State} (h : Keeps s₀ s) (mv : Nat) :
    KeepsOut s₀ (execAuxMonitorUpdate mv s) := by
  unfold execAuxMonitorUpdate
  (try dsimp only)
  repeat' first | with_reducible assumption | (with_reducible first | apply State.modPwr_keeps | apply State.raise_keeps | apply State.startRepair_keeps | apply State.done_keeps) | split | rfl | intro _ | dsimp only | assumption

theorem State.trySlot_keeps {s₀ s : State} (h : Keeps s₀ s) (slot : Nat) :
    Keeps s₀ (State.trySlot s slot).2 := by
  unfold State.trySlot
  (try dsimp only)
  repeat' first | with_reducible assumption | (with_reducible first | apply State.judgedFromFlash_keeps | apply State.raise_keeps) | split | rfl | intro _ | dsimp only | assumption

theorem State.trySlot_keepsEq {s₀ s u₁ : State} {a₁} {slot : Nat}
    (e : State.trySlot s slot = (a₁, u₁)) (h : Keeps s₀ s) : Keeps s₀ u₁ := by
  have k := State.trySlot_keeps h slot
  rw [e] at k
  exact k

theorem State.trySlots_keeps {s₀ s : State} (h : Keeps s₀ s) (l : List Nat) : Keeps s₀ (s.trySlots l).2 := by
  induction l generalizing s with
  | nil => exact h
  | cons a t ih =>
    unfold State.trySlots
    have ha := State.trySlot_keeps h a
    generalize s.trySlot a = r at ha ⊢
    by_cases hr : r.1 = true
    · simpa only [hr, if_true] using ha
    · simpa only [hr, Bool.false_eq_true, if_false] using ih ha


theorem State.slotOrder_keeps {s₀ s : State} (h : Keeps s₀ s) : Keeps s₀ (State.slotOrder s).2 := by
  unfold State.slotOrder
  split
  · exact h
  · next q r _ =>
    dsimp only
    have hd : Keeps s₀ (if r.status == .checkValueDamaged then s.imageDamaged 0 false else s) := by
      split
      · exact State.imageDamaged_keeps h _ _
      · exact h
    generalize (if r.status == .checkValueDamaged then s.imageDamaged 0 false else s) = s₁ at hd ⊢
    split
    · exact State.raise_keeps (State.modNvm_keeps hd _ rfl) _ _ _ _ _ _
    · dsimp only
      split
      · exact State.modGlb_keeps hd _
      · exact hd

theorem State.slotOrder_keepsEq {s₀ s u₁ : State} {a₁} (e : State.slotOrder s = (a₁, u₁)) (h : Keeps s₀ s) :
    Keeps s₀ u₁ := by
  have k := State.slotOrder_keeps h
  rw [e] at k
  exact k


theorem State.findWritePoint_keeps {s₀ s : State} (h : Keeps s₀ s) :
    Keeps s₀ (State.findWritePoint s) := by
  unfold State.findWritePoint
  (try dsimp only)
  repeat' first | with_reducible assumption | (with_reducible first | apply State.modNvm_keeps | apply State.raise_keeps) | split | rfl | intro _ | dsimp only | assumption

theorem State.recoverSlot_keeps {s₀ s : State} (h : Keeps s₀ s) (l : List JRec) (region : Nat) :
    Keeps s₀ (State.recoverSlot l s region) := by
  unfold State.recoverSlot
  (try dsimp only)
  repeat' first | with_reducible assumption | (with_reducible first | apply State.modNvm_keeps | apply State.raise_keeps) | split | rfl | intro _ | dsimp only | assumption

theorem State.recoverRepair_keeps {s₀ s : State} (h : Keeps s₀ s) (l : List JRec) (r : JRec) :
    Keeps s₀ (State.recoverRepair l s r) := by
  unfold State.recoverRepair
  (try dsimp only)
  repeat' first | with_reducible assumption | (with_reducible first | apply State.repairTarget_keeps) | split | rfl | intro _ | dsimp only | assumption

theorem State.recoverJournal_keeps {s₀ s : State} (h : Keeps s₀ s) : Keeps s₀ (State.recoverJournal s) := by
  unfold State.recoverJournal
  extract_lets l s₁ s₂ s₃ s₄ s₅ s₆
  have h₁ : Keeps s₀ s₁ := State.findWritePoint_keeps h
  clear_value s₁
  have h₂ : Keeps s₀ s₂ := State.modNvm_keeps h₁ _ (by rfl)
  clear_value s₂
  have h₄ : Keeps s₀ s₄ := each_keeps _ (each_keeps _ h₂ (fun _ _ k => State.recoverSlot_keeps k _ _))
    (fun _ _ k => State.recoverRepair_keeps k _ _)
  clear_value s₄
  have h₆ : Keeps s₀ s₆ := State.setFwState_keeps (State.setFwState_keeps h₄ _ _) _ _
  clear_value s₆
  split
  · exact State.raise_keeps (State.modNvm_keeps h₆ _ rfl) _ _ _ _ _ _
  · exact h₆


theorem State.loadConfig_keeps {s₀ s : State} (h : Keeps s₀ s) :
    Keeps s₀ (State.loadConfig s) := by
  unfold State.loadConfig
  (try dsimp only)
  repeat' first | with_reducible assumption | (with_reducible first | apply State.modNvm_keeps | apply State.judgedFromFlash_keeps | apply State.raise_keeps) | split | rfl | intro _ | dsimp only | assumption

theorem State.loadCalibration_keeps {s₀ s : State} (h : Keeps s₀ s) : Keeps s₀ (State.loadCalibration s) := by
  unfold State.loadCalibration
  extract_lets base l c fixes header trailer st same s₁ s₂
  have h₁ : Keeps s₀ s₁ := State.modNvm_keeps h _ rfl
  have h₂ : Keeps s₀ s₂ := by
    simp only [s₂]
    split
    · exact State.imageDamaged_keeps h₁ _ _
    · exact h₁
  clear_value s₂ st same
  split
  · exact State.raise_keeps h₂ _ _ _ _ _ _
  · exact State.modTherm_keeps h₂ _


theorem State.bootRom_keeps {s₀ s : State} (h : Keeps s₀ s) : Keeps s₀ (State.bootRom s) := by
  unfold State.bootRom
  extract_lets s₁ s₂
  have h₂ : Keeps s₀ s₂ := State.modNvm_keeps (State.modPwr_keeps h _) _ rfl
  clear_value s₂
  have h₃ := State.slotOrder_keeps h₂
  generalize s₂.slotOrder = r at h₃ ⊢
  obtain ⟨order, s₃⟩ := r
  dsimp only at h₃ ⊢
  have h₄ := State.trySlots_keeps h₃ order
  generalize s₃.trySlots order = q at h₄ ⊢
  obtain ⟨o, s₄⟩ := q
  cases o with
  | none => exact State.trainPorts_keeps (State.modGlb_keeps (State.findWritePoint_keeps h₄) _)
  | some slot => exact State.modGlb_keeps (State.modNvm_keeps h₄ _ rfl) _


theorem execPowerOnReset_keeps {s₀ s : State} (h : Keeps s₀ s) (headEn : Bool) :
    KeepsOut s₀ (execPowerOnReset headEn s) := by
  unfold execPowerOnReset
  (try dsimp only)
  repeat' first | with_reducible assumption | (with_reducible first | apply State.modGlb_keeps | apply State.modPwr_keeps | apply State.shutdownNow_keeps | apply State.done_keeps | apply State.bootRom_keeps) | split | rfl | intro _ | dsimp only | assumption

theorem execFirmwareStart_keeps {s₀ s : State} (h : Keeps s₀ s) :
    KeepsOut s₀ (execFirmwareStart s) := by
  unfold execFirmwareStart
  (try dsimp only)
  repeat' first | with_reducible assumption | (with_reducible first | apply State.recoverJournal_keeps | apply State.loadConfig_keeps | apply State.loadCalibration_keeps | apply State.modGlb_keeps | apply State.startRepair_keeps | apply State.done_keeps) | split | rfl | intro _ | dsimp only | assumption

theorem State.tryTest_keeps {s₀ s : State} (h : Keeps s₀ s) :
    Keeps s₀ (State.tryTest s) := by
  unfold State.tryTest
  (try dsimp only)
  repeat' first | with_reducible assumption | (with_reducible first | apply State.enterTest_keeps) | split | rfl | intro _ | dsimp only | assumption

theorem State.judgeFeed_keeps {s₀ s : State} (h : Keeps s₀ s) (g : Seg) (ok : Bool) (volts stackMv : Nat) :
    Keeps s₀ (State.judgeFeed s g ok volts stackMv) := by
  unfold State.judgeFeed
  (try dsimp only)
  repeat' first | with_reducible assumption | (with_reducible first | apply State.modSeg_keeps | apply State.trainLink_keeps | apply State.raise_keeps) | split | rfl | intro _ | dsimp only | assumption

theorem execFeedEnable_keeps {s₀ s : State} (h : Keeps s₀ s) (prevOk : Bool) (prevVolts prevStack : Nat) :
    KeepsOut s₀ (execFeedEnable prevOk prevVolts prevStack s) := by
  unfold execFeedEnable
  (try dsimp only)
  repeat' first | with_reducible assumption | (with_reducible first | apply State.tryTest_keeps | apply State.done_keeps | apply State.setFld_keeps | apply State.modGlb_keeps | apply State.judgeFeed_keeps) | split | rfl | intro _ | dsimp only | assumption

theorem execSequencerStart_keeps {s₀ s : State} (h : Keeps s₀ s) (g : Seg) :
    KeepsOut s₀ (execSequencerStart g s) := by
  unfold execSequencerStart
  (try dsimp only)
  repeat' first | with_reducible assumption | (with_reducible first | apply State.modSeg_keeps | apply State.modMeas_keeps | apply State.modCell_keeps | apply State.nextSlice_keeps | apply State.tryTest_keeps | apply State.done_keeps | apply each_keeps) | split | rfl | intro _ | dsimp only | assumption

theorem execTrainingTimeout_keeps {s₀ s : State} (h : Keeps s₀ s) (g : Seg) (c0 c1 : Bool) (trips : List Nat) :
    KeepsOut s₀ (execTrainingTimeout g c0 c1 trips s) := by
  unfold execTrainingTimeout
  (try dsimp only)
  repeat' first | with_reducible assumption | (with_reducible first | apply State.done_keeps | apply State.linkTrained_keeps | apply State.checkShunts_keeps | apply State.nextSlice_keeps | apply State.sendDown_keeps | apply State.raise_keeps | apply State.modLink_keeps | apply State.tryTest_keeps) | split | rfl | intro _ | dsimp only | assumption

theorem execDrydownLogCollect_keeps {s₀ s : State} (h : Keeps s₀ s) :
    KeepsOut s₀ (execDrydownLogCollect s) := by
  unfold execDrydownLogCollect
  (try dsimp only)
  repeat' first | with_reducible assumption | (with_reducible first | apply State.collectLogs_keeps | apply State.done_keeps) | split | rfl | intro _ | dsimp only | assumption

theorem State.segModuleReset_keeps {s₀ s : State} (h : Keeps s₀ s) (g : Seg) : Keeps s₀ (State.segModuleReset s g) := by
  unfold State.segModuleReset
  extract_lets x kp s₁ s₂
  have h₁ : Keeps s₀ s₁ := by
    simp only [s₁]
    split
    · exact State.segDieReset_keeps (State.abortSegSlice_keeps h g) g _
    · split
      · exact each_keeps _ (State.modSeg_keepsWf h g _ (fun _ _ => rfl)) (fun _ _ hs => State.modCell_keeps hs _ _)
      · exact h
  have h₂ : Keeps s₀ s₂ := State.modSeg_keeps h₁ g _ (by intro; rfl)
  exact State.modLink_keeps h₂ g _


theorem Nvm.resetNow_wf (n : Nvm) (h : Sparse.wf erased n.flash = true) : Sparse.wf erased n.resetNow.flash = true := by
  unfold Nvm.resetNow
  dsimp only
  split
  · split
    · exact FlashOp.apply_wf _ _ h
    · exact h
  · exact h

theorem State.resetTo_keeps {s₀ s : State} (h : Keeps s₀ s) (code : Nat) : Keeps s₀ (State.resetTo s code) := by
  unfold State.resetTo
  extract_lets s₁ s₂
  have k : Keeps s₀ s₂ := each_keeps _ (State.setNow_keeps (State.shiftTimers_keeps h _) _)
    (fun _ g hs => State.segModuleReset_keeps hs g)
  clear_value s₂
  exact ⟨k.pending, k.free, k.out, fun m => by
    have hm := (Memory.wf_iff s₂).1 (k.mem m)
    exact (Memory.wf_iff _).2 ⟨Sparse.filter_wf resetOf _ _ hm.1, Nvm.resetNow_wf _ hm.2.1, hm.2.2⟩⟩


theorem execResetApply_keeps {s₀ s : State} (h : Keeps s₀ s) :
    KeepsOut s₀ (execResetApply s) := by
  unfold execResetApply
  (try dsimp only)
  repeat' first | with_reducible assumption | (with_reducible first | apply State.resetTo_keeps | apply State.raise_keeps | apply State.bootRom_keeps | apply State.done_keeps) | split | rfl | intro _ | dsimp only | assumption

theorem execResetN_keeps {s₀ s : State} (h : Keeps s₀ s) (lowNs : Nat) :
    KeepsOut s₀ (execResetN lowNs s) := by
  unfold execResetN
  (try dsimp only)
  repeat' first | with_reducible assumption | (with_reducible first | apply State.done_keeps | apply State.freeBool_keeps | apply State.requestReset_keeps) | split | rfl | intro _ | dsimp only | assumption

theorem execWatchdog_keeps {s₀ s : State} (h : Keeps s₀ s) :
    KeepsOut s₀ (execWatchdog s) := by
  unfold execWatchdog
  (try dsimp only)
  repeat' first | with_reducible assumption | (with_reducible first | apply State.requestReset_keeps | apply State.done_keeps) | split | rfl | intro _ | dsimp only | assumption

theorem execRecoveryReset_keeps {s₀ s : State} (h : Keeps s₀ s) :
    KeepsOut s₀ (execRecoveryReset s) := by
  unfold execRecoveryReset
  (try dsimp only)
  repeat' first | with_reducible assumption | (with_reducible first | apply State.modGlb_keeps | apply State.requestReset_keeps | apply State.done_keeps) | split | rfl | intro _ | dsimp only | assumption

end Sys2Proof.Machine
end

