-- ==== Sys2Proof/Laws/KeepsRegRead.lean ====
section
/-!
SUPPORT. What the operations of Machine/RegRead.lean keep: the queue, what has left, the free values, canonical memory.
-/

namespace Sys2Proof.Machine

theorem State.readAt_keeps {s₀ s : State} (h : Keeps s₀ s) (off : Nat) (bar : Bool) :
    Keeps s₀ (State.readAt s off bar).2 := by
  unfold State.readAt
  (try dsimp only)
  repeat' first | with_reducible assumption | (with_reducible first | apply State.modTu_keeps) | split | rfl | intro _ | dsimp only | assumption

theorem State.readAt_keepsEq {s₀ s u₁ : State} {a₁} {off : Nat} {bar : Bool}
    (e : State.readAt s off bar = (a₁, u₁)) (h : Keeps s₀ s) : Keeps s₀ u₁ := by
  have k := State.readAt_keeps h off bar
  rw [e] at k
  exact k

theorem State.readMany_keeps {s₀ s : State} (h : Keeps s₀ s) (off n : Nat) : Keeps s₀ (s.readMany off n).2 := by
  induction n generalizing s off with
  | zero => exact h
  | succ n ih =>
    unfold State.readMany
    exact ih (State.readAt_keeps h _ _) _


end Sys2Proof.Machine
end

