-- ==== Sys2Proof/Laws/KeepsRegWrite.lean ====
section
/-!
SUPPORT. What the operations of Machine/RegWrite.lean keep: the queue, what has left, the free values, canonical memory.
-/

namespace Sys2Proof.Machine

theorem State.writePwr_keeps {s₀ s : State} (h : Keeps s₀ s) (off : Nat) (new v : Word) :
    Keeps s₀ (State.writePwr s off new v) := by
  unfold State.writePwr
  (try dsimp only)
  repeat' first | with_reducible assumption | (with_reducible first | apply State.store_keeps | apply State.setPower_keeps | apply State.budgetWritten_keeps | apply State.copyDrydown_keeps | apply State.wroteWakeCause_keeps) | split | rfl | intro _ | dsimp only | assumption

theorem State.writeHost_keeps {s₀ s : State} (h : Keeps s₀ s) (off : Nat) (new v : Word) :
    Keeps s₀ (State.writeHost s off new v) := by
  unfold State.writeHost
  (try dsimp only)
  repeat' first | with_reducible assumption | (with_reducible first | apply State.setFld_keeps | apply State.disableHost_keeps | apply State.resetRings_keeps | apply State.store_keeps | apply State.enableHost_keeps | apply State.modHost_keeps) | split | rfl | intro _ | dsimp only | assumption

theorem State.writeLoop_keeps {s₀ s : State} (h : Keeps s₀ s) (off : Nat) (old new v : Word) :
    Keeps s₀ (State.writeLoop s off old new v) := by
  unfold State.writeLoop
  (try dsimp only)
  repeat' first | with_reducible assumption | (with_reducible first | apply State.store_keeps | apply State.restartPort_keeps | apply State.retrainPort_keeps | apply State.modLoop_keeps) | split | rfl | intro _ | dsimp only | assumption

theorem State.writeTime_keeps {s₀ s : State} (h : Keeps s₀ s) (off : Nat) (new v : Word) :
    Keeps s₀ (State.writeTime s off new v) := by
  unfold State.writeTime
  (try dsimp only)
  repeat' first | with_reducible assumption | (with_reducible first | apply State.modTu_keeps | apply State.setTime_keeps | apply State.beginSlew_keeps | apply State.store_keeps | apply State.followOff_keeps) | split | rfl | intro _ | dsimp only | assumption

theorem State.writePlay_keeps {s₀ s : State} (h : Keeps s₀ s) (off : Nat) (new v : Word) :
    Keeps s₀ (State.writePlay s off new v) := by
  unfold State.writePlay
  (try dsimp only)
  repeat' first | with_reducible assumption | (with_reducible first | apply State.directSwap_keeps | apply State.store_keeps | apply State.unverify_keeps) | split | rfl | intro _ | dsimp only | assumption

theorem State.writeSpc_keeps {s₀ s : State} (h : Keeps s₀ s) (off : Nat) (old new v : Word) :
    Keeps s₀ (State.writeSpc s off old new v) := by
  unfold State.writeSpc
  (try dsimp only)
  repeat' first | with_reducible assumption | (with_reducible first | apply State.store_keeps | apply State.wroteSpcEn_keeps | apply State.wroteCapacity_keeps | apply State.clearFailed_keeps | apply State.clampWidths_keeps | apply State.wroteStepCtrl_keeps) | split | rfl | intro _ | dsimp only | assumption

theorem State.writeMeas_keeps {s₀ s : State} (h : Keeps s₀ s) (off : Nat) (old new v : Word) :
    Keeps s₀ (State.writeMeas s off old new v) := by
  unfold State.writeMeas
  (try dsimp only)
  repeat' first | with_reducible assumption | (with_reducible first | apply State.store_keeps | apply State.modMeas_keeps | apply State.readmit_keeps | apply State.unverify_keeps | apply each_keeps) | split | rfl | intro _ | dsimp only | assumption

theorem State.writeAna_keeps {s₀ s : State} (h : Keeps s₀ s) (off : Nat) (new v : Word) :
    Keeps s₀ (State.writeAna s off new v) := by
  unfold State.writeAna
  (try dsimp only)
  repeat' first | with_reducible assumption | (with_reducible first | apply State.wroteAnaCtrl_keeps | apply State.store_keeps) | split | rfl | intro _ | dsimp only | assumption

theorem State.writeTherm_keeps {s₀ s : State} (h : Keeps s₀ s) (off : Nat) (new v : Word) :
    Keeps s₀ (State.writeTherm s off new v) := by
  unfold State.writeTherm
  (try dsimp only)
  repeat' first | with_reducible assumption | (with_reducible first | apply State.store_keeps | apply State.startSlow_keeps) | split | rfl | intro _ | dsimp only | assumption

theorem State.writeFlt_keeps {s₀ s : State} (h : Keeps s₀ s) (off : Nat) (new v : Word) :
    Keeps s₀ (State.writeFlt s off new v) := by
  unfold State.writeFlt
  (try dsimp only)
  repeat' first | with_reducible assumption | (with_reducible first | apply State.store_keeps | apply State.wroteFltCtrl_keeps | apply State.wroteFltClear_keeps) | split | rfl | intro _ | dsimp only | assumption

theorem State.writeChk_keeps {s₀ s : State} (h : Keeps s₀ s) (off : Nat) (new v : Word) :
    Keeps s₀ (State.writeChk s off new v) := by
  unfold State.writeChk
  (try dsimp only)
  repeat' first | with_reducible assumption | (with_reducible first | apply State.store_keeps | apply State.abortScan_keeps | apply State.startScan_keeps | apply State.modChk_keeps) | split | rfl | intro _ | refine State.startScan_keepsEq (by assumption) ?_ | dsimp only | assumption

theorem State.writeNvm_keeps {s₀ s : State} (h : Keeps s₀ s) (off : Nat) (new v : Word) :
    Keeps s₀ (State.writeNvm s off new v) := by
  unfold State.writeNvm
  (try dsimp only)
  repeat' first | with_reducible assumption | (with_reducible first | apply State.store_keeps | apply State.startRepair_keeps | apply State.collectLogs_keeps) | split | rfl | intro _ | dsimp only | assumption

theorem State.feedOff_keeps {s₀ s : State} (h : Keeps s₀ s) (g : Seg) :
    Keeps s₀ (State.feedOff s g) := by
  unfold State.feedOff
  (try dsimp only)
  repeat' first | with_reducible assumption | (with_reducible first | apply State.abortSegSlice_keeps | apply State.segFeedOff_keeps | apply State.modSeg_keeps) | split | rfl | intro _ | dsimp only | assumption

theorem State.writeSegHub_keeps {s₀ s : State} (h : Keeps s₀ s) (off : Nat) (old new v : Word) :
    Keeps s₀ (State.writeSegHub s off old new v) := by
  unfold State.writeSegHub
  (try dsimp only)
  repeat' first | with_reducible assumption | (with_reducible first | apply State.store_keeps | apply State.segResetAsked_keeps | apply State.retrainLink_keeps | apply State.feedOff_keeps | apply State.modSeg_keeps) | split | rfl | intro _ | dsimp only | assumption

theorem State.writeHub_keeps {s₀ s : State} (h : Keeps s₀ s) (off : Nat) (old new v : Word) :
    Keeps s₀ (State.writeHub s off old new v) := by
  unfold State.writeHub
  (try dsimp only)
  repeat' first | with_reducible assumption | (with_reducible first | apply State.writeSegHub_keeps | apply State.requestReset_keeps | apply State.store_keeps | apply State.writePwr_keeps | apply State.writeHost_keeps | apply State.writeLoop_keeps | apply State.writeTime_keeps | apply State.writePlay_keeps | apply State.writeSpc_keeps | apply State.writeMeas_keeps | apply State.writeAna_keeps | apply State.writeTherm_keeps | apply State.writeFlt_keeps | apply State.writeChk_keeps | apply State.writeNvm_keeps) | split | rfl | intro _ | dsimp only | assumption

theorem State.wakeBlock_keeps {s₀ s : State} (h : Keeps s₀ s) (off : Nat) :
    Keeps s₀ (State.wakeBlock s off) := by
  unfold State.wakeBlock
  (try dsimp only)
  repeat' first | with_reducible assumption | (with_reducible first | apply State.stopEntry_keeps | apply State.setPower_keeps) | split | rfl | intro _ | dsimp only | assumption

theorem State.stagedLast_keeps {s₀ s : State} (h : Keeps s₀ s) (off : Nat) (d : RegDef) :
    Keeps s₀ (State.stagedLast s off d) := by
  unfold State.stagedLast
  (try dsimp only)
  repeat' first | with_reducible assumption | (with_reducible first | apply State.writeHub_keeps | apply each_keeps) | split | rfl | intro _ | dsimp only | assumption

theorem State.loopLast_keeps {s₀ s : State} (h : Keeps s₀ s) (off : Nat) (d : RegDef) (o : Origin) :
    Keeps s₀ (State.loopLast s off d o) := by
  unfold State.loopLast
  (try dsimp only)
  repeat' first | with_reducible assumption | (with_reducible first | apply State.writeHub_keeps | apply each_keeps) | split | rfl | intro _ | dsimp only | assumption

theorem State.directWrite_keeps {s₀ s : State} (h : Keeps s₀ s) (off : Nat) (d : RegDef) (w : Wr) :
    Keeps s₀ (State.directWrite s off d w).1 := by
  unfold State.directWrite
  (try dsimp only)
  repeat' first | with_reducible assumption | (with_reducible first | apply State.sendDown_keeps | apply State.writeHub_keeps | apply State.stagedLast_keeps | apply State.loopLast_keeps) | split | rfl | intro _ | dsimp only | assumption

theorem State.directWrite_keepsEq {s₀ s u₁ : State} {a₁} {off : Nat} {d : RegDef} {w : Wr}
    (e : State.directWrite s off d w = (u₁, a₁)) (h : Keeps s₀ s) : Keeps s₀ u₁ := by
  have k := State.directWrite_keeps h off d w
  rw [e] at k
  exact k

theorem State.stageWrite_keeps {s₀ s : State} (h : Keeps s₀ s) (off : Nat) (d : RegDef) (w : Wr) :
    Keeps s₀ (State.stageWrite s off d w).1 := by
  unfold State.stageWrite
  (try dsimp only)
  repeat' first | with_reducible assumption | (with_reducible first | apply State.modAcc_keeps | apply State.modPlay_keeps | apply State.sendDown_keeps) | split | rfl | intro _ | dsimp only | assumption

theorem State.stageWrite_keepsEq {s₀ s u₁ : State} {a₁} {off : Nat} {d : RegDef} {w : Wr}
    (e : State.stageWrite s off d w = (u₁, a₁)) (h : Keeps s₀ s) : Keeps s₀ u₁ := by
  have k := State.stageWrite_keeps h off d w
  rw [e] at k
  exact k

theorem State.writeReg_keeps {s₀ s : State} (h : Keeps s₀ s) (off : Nat) (w : Wr) :
    Keeps s₀ (State.writeReg s off w).1 := by
  unfold State.writeReg
  (try dsimp only)
  repeat' first | with_reducible assumption | (with_reducible first | apply State.wakeBlock_keeps | apply State.directWrite_keeps | apply State.stageWrite_keeps) | split | rfl | intro _ | refine State.directWrite_keepsEq (by assumption) ?_ | refine State.stageWrite_keepsEq (by assumption) ?_ | dsimp only | assumption

theorem State.writeReg_keepsEq {s₀ s u₁ : State} {a₁} {off : Nat} {w : Wr}
    (e : State.writeReg s off w = (u₁, a₁)) (h : Keeps s₀ s) : Keeps s₀ u₁ := by
  have k := State.writeReg_keeps h off w
  rw [e] at k
  exact k

end Sys2Proof.Machine
end

