-- ==== Sys2Proof/Laws/KeepsAccordOps.lean ====
section
/-!
SUPPORT. What the operations of Machine/AccordOps.lean keep: the queue, what has left, the free values, canonical memory.
-/

namespace Sys2Proof.Machine

theorem State.accordAnswer_keeps {s₀ s : State} (h : Keeps s₀ s) (st : Status) :
    Keeps s₀ (State.accordAnswer s st).1 := by
  unfold State.accordAnswer
  (try dsimp only)
  repeat' first | with_reducible assumption | (with_reducible first | apply State.modAcc_keeps) | split | rfl | intro _ | dsimp only | assumption

theorem State.accordAnswer_keepsEq {s₀ s u₁ : State} {a₁} {st : Status}
    (e : State.accordAnswer s st = (u₁, a₁)) (h : Keeps s₀ s) : Keeps s₀ u₁ := by
  have k := State.accordAnswer_keeps h st
  rw [e] at k
  exact k

theorem State.accordBegin_keeps {s₀ s : State} (h : Keeps s₀ s) (id : BitVec 16) :
    Keeps s₀ (State.accordBegin s id).1 := by
  unfold State.accordBegin
  (try dsimp only)
  repeat' first | with_reducible assumption | (with_reducible first | apply State.accordAnswer_keeps | apply State.modAcc_keeps) | split | rfl | intro _ | refine State.accordAnswer_keepsEq (by assumption) ?_ | dsimp only | assumption

theorem State.accordBegin_keepsEq {s₀ s u₁ : State} {a₁} {id : BitVec 16}
    (e : State.accordBegin s id = (u₁, a₁)) (h : Keeps s₀ s) : Keeps s₀ u₁ := by
  have k := State.accordBegin_keeps h id
  rw [e] at k
  exact k

theorem State.accordPrepare_keeps {s₀ s : State} (h : Keeps s₀ s) (id : BitVec 16) (count t : Nat) :
    Keeps s₀ (State.accordPrepare s id count t).1 := by
  unfold State.accordPrepare
  (try dsimp only)
  repeat' first | with_reducible assumption | (with_reducible first | apply State.accordAnswer_keeps | apply State.modAcc_keeps) | split | rfl | intro _ | refine State.accordAnswer_keepsEq (by assumption) ?_ | dsimp only | assumption

theorem State.accordPrepare_keepsEq {s₀ s u₁ : State} {a₁} {id : BitVec 16} {count t : Nat}
    (e : State.accordPrepare s id count t = (u₁, a₁)) (h : Keeps s₀ s) : Keeps s₀ u₁ := by
  have k := State.accordPrepare_keeps h id count t
  rw [e] at k
  exact k

theorem State.splitNow_keeps {s₀ s : State} (h : Keeps s₀ s) :
    Keeps s₀ (State.splitNow s) := by
  unfold State.splitNow
  (try dsimp only)
  repeat' first | with_reducible assumption | (with_reducible first | apply State.rollBack_keeps | apply State.raise_keeps) | split | rfl | intro _ | dsimp only | assumption

theorem State.accordCommit_keeps {s₀ s : State} (h : Keeps s₀ s) (id : BitVec 16) (t : Nat) :
    Keeps s₀ (State.accordCommit s id t).1 := by
  unfold State.accordCommit
  (try dsimp only)
  repeat' first | with_reducible assumption | (with_reducible first | apply State.accordAnswer_keeps | apply State.modAcc_keeps | apply State.sendDown_keeps | apply State.splitNow_keeps | apply each_keeps) | split | rfl | intro _ | refine State.accordAnswer_keepsEq (by assumption) ?_ | dsimp only | assumption

theorem State.accordCommit_keepsEq {s₀ s u₁ : State} {a₁} {id : BitVec 16} {t : Nat}
    (e : State.accordCommit s id t = (u₁, a₁)) (h : Keeps s₀ s) : Keeps s₀ u₁ := by
  have k := State.accordCommit_keeps h id t
  rw [e] at k
  exact k

theorem State.accordAbort_keeps {s₀ s : State} (h : Keeps s₀ s) (id : BitVec 16) :
    Keeps s₀ (State.accordAbort s id).1 := by
  unfold State.accordAbort
  (try dsimp only)
  repeat' first | with_reducible assumption | (with_reducible first | apply State.modAcc_keeps | apply State.accordAnswer_keeps | apply State.rollBack_keeps) | split | rfl | intro _ | refine State.accordAnswer_keepsEq (by assumption) ?_ | dsimp only | assumption

theorem State.accordAbort_keepsEq {s₀ s u₁ : State} {a₁} {id : BitVec 16}
    (e : State.accordAbort s id = (u₁, a₁)) (h : Keeps s₀ s) : Keeps s₀ u₁ := by
  have k := State.accordAbort_keeps h id
  rw [e] at k
  exact k

theorem State.stagedFails_keeps {s₀ s : State} (h : Keeps s₀ s) :
    Keeps s₀ (State.stagedFails s) := by
  unfold State.stagedFails
  (try dsimp only)
  repeat' first | with_reducible assumption | (with_reducible first | apply State.modAcc_keeps) | split | rfl | intro _ | dsimp only | assumption

theorem State.stagedSwap_keeps {s₀ s : State} (h : Keeps s₀ s) :
    Keeps s₀ (State.stagedSwap s) := by
  unfold State.stagedSwap
  (try dsimp only)
  repeat' first | with_reducible assumption | (with_reducible first | apply State.swapBanks_keeps | apply State.stagedFails_keeps | apply State.raise_keeps) | split | rfl | intro _ | dsimp only | assumption

theorem State.applyOne_keeps {s₀ s : State} (h : Keeps s₀ s) (w : Staged) (last : Bool) :
    Keeps s₀ (State.applyOne s w last) := by
  unfold State.applyOne
  (try dsimp only)
  repeat' first | with_reducible assumption | (with_reducible first | apply State.applyWindow_keeps | apply State.store_keeps | apply State.stagedFails_keeps | apply State.writeHub_keeps | apply State.stagedSwap_keeps) | split | rfl | intro _ | dsimp only | assumption

theorem State.applyStaged_keeps {s₀ s : State} (h : Keeps s₀ s) (l : List Staged) : Keeps s₀ (State.applyStaged l s) := by
  induction l generalizing s with
  | nil => exact h
  | cons w t ih =>
    unfold State.applyStaged
    exact ih (State.applyOne_keeps h _ _)


theorem State.commitNow_keeps {s₀ s : State} (h : Keeps s₀ s) :
    Keeps s₀ (State.commitNow s) := by
  unfold State.commitNow
  (try dsimp only)
  repeat' first | with_reducible assumption | (with_reducible first | apply State.applyStaged_keeps | apply State.modSeg_keeps | apply State.sendDown_keeps | apply State.modAcc_keeps | apply State.modPlay_keeps | apply State.raise_keeps | apply each_keeps) | split | rfl | intro _ | dsimp only | assumption

theorem execAccordApply_keeps {s₀ s : State} (h : Keeps s₀ s) :
    KeepsOut s₀ (execAccordApply s) := by
  unfold execAccordApply
  (try dsimp only)
  repeat' first | with_reducible assumption | (with_reducible first | apply State.commitNow_keeps | apply State.done_keeps) | split | rfl | intro _ | dsimp only | assumption

theorem execGraceExpiry_keeps {s₀ s : State} (h : Keeps s₀ s) :
    KeepsOut s₀ (execGraceExpiry s) := by
  unfold execGraceExpiry
  (try dsimp only)
  repeat' first | with_reducible assumption | (with_reducible first | apply State.splitNow_keeps | apply State.done_keeps) | split | rfl | intro _ | dsimp only | assumption

end Sys2Proof.Machine
end

