-- ==== Sys2Proof/Laws/KeepsCommands.lean ====
section
/-!
SUPPORT. What the operations of Machine/Commands.lean keep: the queue, what has left, the free values, canonical memory.
-/

namespace Sys2Proof.Machine

theorem State.gated_keeps {s₀ s : State} (h : Keeps s₀ s) (o : Origin) (op : Nat) (mild : Bool)
    {k : State → State × Option Result} (hk : ∀ s, Keeps s₀ s → Keeps s₀ (k s).1) : Keeps s₀ (s.gated o op mild k).1 := by
  unfold State.gated
  dsimp only
  repeat' first | with_reducible assumption | with_reducible first | apply hk | apply State.noteCommand_keeps | split


theorem State.now__keeps {s₀ s : State} (h : Keeps s₀ s) (r : Result) :
    Keeps s₀ (State.now_ s r).1 := by
  unfold State.now_
  (try dsimp only)
  repeat' first | with_reducible assumption | split

theorem State.now__keepsEq {s₀ s u₁ : State} {a₁} {r : Result}
    (e : State.now_ s r = (u₁, a₁)) (h : Keeps s₀ s) : Keeps s₀ u₁ := by
  have k := State.now__keeps h r
  rw [e] at k
  exact k

theorem State.ends_keeps {s₀ s : State} (h : Keeps s₀ s) (st : Status) :
    Keeps s₀ (State.ends s st).1 := by
  unfold State.ends
  (try dsimp only)
  repeat' first | with_reducible assumption | split

theorem State.ends_keepsEq {s₀ s u₁ : State} {a₁} {st : Status}
    (e : State.ends s st = (u₁, a₁)) (h : Keeps s₀ s) : Keeps s₀ u₁ := by
  have k := State.ends_keeps h st
  rw [e] at k
  exact k

theorem State.afterBar_keeps {s₀ s : State} (h : Keeps s₀ s) (off : Nat) (o : Origin) :
    Keeps s₀ (State.afterBar s off o) := by
  unfold State.afterBar
  (try dsimp only)
  repeat' first | with_reducible assumption | (with_reducible first | apply State.writeReg_keeps | apply each_keeps) | split | rfl | intro _ | refine State.writeReg_keepsEq (by assumption) ?_ | dsimp only | assumption

theorem State.doRegRead_keeps {s₀ s : State} (h : Keeps s₀ s) (o : Origin) (off : Nat) :
    Keeps s₀ (State.doRegRead s o off).1 := by
  unfold State.doRegRead
  (try dsimp only)
  repeat' first | with_reducible assumption | (with_reducible first | apply State.gated_keeps | apply State.ends_keeps | apply State.now__keeps | apply State.afterBar_keeps | apply State.readAt_keeps) | split | rfl | intro _ | refine State.ends_keepsEq (by assumption) ?_ | refine State.now__keepsEq (by assumption) ?_ | refine State.readAt_keepsEq (by assumption) ?_ | dsimp only | assumption

theorem State.doRegRead_keepsEq {s₀ s u₁ : State} {a₁} {o : Origin} {off : Nat}
    (e : State.doRegRead s o off = (u₁, a₁)) (h : Keeps s₀ s) : Keeps s₀ u₁ := by
  have k := State.doRegRead_keeps h o off
  rw [e] at k
  exact k

theorem State.doReadBlock_keeps {s₀ s : State} (h : Keeps s₀ s) (o : Origin) (off count : Nat) :
    Keeps s₀ (State.doReadBlock s o off count).1 := by
  unfold State.doReadBlock
  (try dsimp only)
  repeat' first | with_reducible assumption | (with_reducible first | apply State.gated_keeps | apply State.ends_keeps | apply State.readMany_keeps | apply State.now__keeps) | split | rfl | intro _ | refine State.ends_keepsEq (by assumption) ?_ | refine State.now__keepsEq (by assumption) ?_ | dsimp only | assumption

theorem State.doReadBlock_keepsEq {s₀ s u₁ : State} {a₁} {o : Origin} {off count : Nat}
    (e : State.doReadBlock s o off count = (u₁, a₁)) (h : Keeps s₀ s) : Keeps s₀ u₁ := by
  have k := State.doReadBlock_keeps h o off count
  rw [e] at k
  exact k

theorem State.doRegWrite_keeps {s₀ s : State} (h : Keeps s₀ s) (off : Nat) (w : Wr) :
    Keeps s₀ (State.doRegWrite s off w).1 := by
  unfold State.doRegWrite
  (try dsimp only)
  repeat' first | with_reducible assumption | (with_reducible first | apply State.gated_keeps | apply State.modHost_keeps | apply State.writeReg_keeps) | split | rfl | intro _ | refine State.writeReg_keepsEq (by assumption) ?_ | dsimp only | assumption

theorem State.doRegWrite_keepsEq {s₀ s u₁ : State} {a₁} {off : Nat} {w : Wr}
    (e : State.doRegWrite s off w = (u₁, a₁)) (h : Keeps s₀ s) : Keeps s₀ u₁ := by
  have k := State.doRegWrite_keeps h off w
  rw [e] at k
  exact k

theorem State.doCensus_keeps {s₀ s : State} (h : Keeps s₀ s) (o : Origin) :
    Keeps s₀ (State.doCensus s o).1 := by
  unfold State.doCensus
  (try dsimp only)
  repeat' first | with_reducible assumption | (with_reducible first | apply State.gated_keeps | apply State.censusCmd_keeps) | split | rfl | intro _ | refine State.censusCmd_keepsEq (by assumption) ?_ | dsimp only | assumption

theorem State.doCensus_keepsEq {s₀ s u₁ : State} {a₁} {o : Origin}
    (e : State.doCensus s o = (u₁, a₁)) (h : Keeps s₀ s) : Keeps s₀ u₁ := by
  have k := State.doCensus_keeps h o
  rw [e] at k
  exact k

theorem State.doPing_keeps {s₀ s : State} (h : Keeps s₀ s) (o : Origin) :
    Keeps s₀ (State.doPing s o).1 := by
  unfold State.doPing
  (try dsimp only)
  repeat' first | with_reducible assumption | (with_reducible first | apply State.gated_keeps | apply State.now__keeps) | split | rfl | intro _ | refine State.now__keepsEq (by assumption) ?_ | dsimp only | assumption

theorem State.doPing_keepsEq {s₀ s u₁ : State} {a₁} {o : Origin}
    (e : State.doPing s o = (u₁, a₁)) (h : Keeps s₀ s) : Keeps s₀ u₁ := by
  have k := State.doPing_keeps h o
  rw [e] at k
  exact k

theorem State.doLoad_keeps {s₀ s : State} (h : Keeps s₀ s) (o : Origin) (slot : Option (Fin 8)) (offset total : Nat) (data : List Byte) :
    Keeps s₀ (State.doLoad s o slot offset total data).1 := by
  unfold State.doLoad
  (try dsimp only)
  repeat' first | with_reducible assumption | (with_reducible first | apply State.gated_keeps | apply State.flaconLoad_keeps | apply State.now__keeps) | split | rfl | intro _ | refine State.flaconLoad_keepsEq (by assumption) ?_ | refine State.now__keepsEq (by assumption) ?_ | dsimp only | assumption

theorem State.doLoad_keepsEq {s₀ s u₁ : State} {a₁} {o : Origin} {slot : Option (Fin 8)} {offset total : Nat} {data : List Byte}
    (e : State.doLoad s o slot offset total data = (u₁, a₁)) (h : Keeps s₀ s) : Keeps s₀ u₁ := by
  have k := State.doLoad_keeps h o slot offset total data
  rw [e] at k
  exact k

theorem State.doVerify_keeps {s₀ s : State} (h : Keeps s₀ s) (o : Origin) (store : Option (Fin 8)) :
    Keeps s₀ (State.doVerify s o store).1 :=
  State.gated_keeps h _ _ _ (fun _ hs => State.flaconVerify_keeps hs o store)

theorem State.doVerify_keepsEq {s₀ s u₁ : State} {a₁} {o : Origin} {store : Option (Fin 8)}
    (e : State.doVerify s o store = (u₁, a₁)) (h : Keeps s₀ s) : Keeps s₀ u₁ := by
  have k := State.doVerify_keeps h o store
  rw [e] at k
  exact k


theorem State.doErase_keeps {s₀ s : State} (h : Keeps s₀ s) (o : Origin) (target : Nat) :
    Keeps s₀ (State.doErase s o target).1 :=
  State.gated_keeps h _ _ _ (fun _ hs => State.flaconErase_keeps hs o target)

theorem State.doErase_keepsEq {s₀ s u₁ : State} {a₁} {o : Origin} {target : Nat}
    (e : State.doErase s o target = (u₁, a₁)) (h : Keeps s₀ s) : Keeps s₀ u₁ := by
  have k := State.doErase_keeps h o target
  rw [e] at k
  exact k


theorem State.doAccord_keeps {s₀ s : State} (h : Keeps s₀ s) (o : Origin) (op : Nat) {k : State → State × Status}
    (hk : ∀ s, Keeps s₀ s → Keeps s₀ (k s).1) : Keeps s₀ (s.doAccord o op k).1 := by
  unfold State.doAccord
  have g := State.gated_keeps h o op false (k := fun s =>
    if s.among [.ready, .run] then
      let r := k s
      r.1.ends r.2
    else s.ends .rejected) (fun s hs => by
      dsimp only
      split
      · exact State.ends_keeps (hk s hs) _
      · exact State.ends_keeps hs _)
  generalize s.gated o op false (fun s =>
    if s.among [.ready, .run] then
      let r := k s
      r.1.ends r.2
    else s.ends .rejected) = x at g ⊢
  obtain ⟨t, r⟩ := x
  cases r with
  | none => exact g
  | some r =>
    have g' : Keeps s₀ t := g
    dsimp only
    exact State.modAcc_keeps g' _


theorem State.doSweep_keeps {s₀ s : State} (h : Keeps s₀ s) (o : Origin) (id plan t : Nat) (cells : BitVec 256) :
    Keeps s₀ (State.doSweep s o id plan t cells).1 := by
  unfold State.doSweep
  (try dsimp only)
  repeat' first | with_reducible assumption | (with_reducible first | apply State.gated_keeps | apply State.ends_keeps | apply State.sweepCmd_keeps) | split | rfl | intro _ | refine State.ends_keepsEq (by assumption) ?_ | refine State.sweepCmd_keepsEq (by assumption) ?_ | dsimp only | assumption

theorem State.doSweep_keepsEq {s₀ s u₁ : State} {a₁} {o : Origin} {id plan t : Nat} {cells : BitVec 256}
    (e : State.doSweep s o id plan t cells = (u₁, a₁)) (h : Keeps s₀ s) : Keeps s₀ u₁ := by
  have k := State.doSweep_keeps h o id plan t cells
  rw [e] at k
  exact k

theorem State.doFetch_keeps {s₀ s : State} (h : Keeps s₀ s) (o : Origin) (slot gen : Nat) :
    Keeps s₀ (State.doFetch s o slot gen).1 := by
  unfold State.doFetch
  (try dsimp only)
  repeat' first | with_reducible assumption | (with_reducible first | apply State.gated_keeps | apply State.ends_keeps | apply State.fetchResult_keeps | apply State.now__keeps) | split | rfl | intro _ | refine State.ends_keepsEq (by assumption) ?_ | refine State.fetchResult_keepsEq (by assumption) ?_ | refine State.now__keepsEq (by assumption) ?_ | dsimp only | assumption

theorem State.doFetch_keepsEq {s₀ s u₁ : State} {a₁} {o : Origin} {slot gen : Nat}
    (e : State.doFetch s o slot gen = (u₁, a₁)) (h : Keeps s₀ s) : Keeps s₀ u₁ := by
  have k := State.doFetch_keeps h o slot gen
  rw [e] at k
  exact k

theorem State.doMarks_keeps {s₀ s : State} (h : Keeps s₀ s) (o : Origin) (items : List (Nat × Nat × Nat)) :
    Keeps s₀ (State.doMarks s o items).1 := by
  unfold State.doMarks
  (try dsimp only)
  repeat' first | with_reducible assumption | (with_reducible first | apply State.gated_keeps | apply State.takeMarks_keeps | apply State.now__keeps) | split | rfl | intro _ | refine State.takeMarks_keepsEq (by assumption) ?_ | refine State.now__keepsEq (by assumption) ?_ | dsimp only | assumption

theorem State.doMarks_keepsEq {s₀ s u₁ : State} {a₁} {o : Origin} {items : List (Nat × Nat × Nat)}
    (e : State.doMarks s o items = (u₁, a₁)) (h : Keeps s₀ s) : Keeps s₀ u₁ := by
  have k := State.doMarks_keeps h o items
  rw [e] at k
  exact k

theorem State.doStreamStart_keeps {s₀ s : State} (h : Keeps s₀ s) (o : Origin) (segs : BitVec 16) (kinds : BitVec 8) (cells : BitVec 256) :
    Keeps s₀ (State.doStreamStart s o segs kinds cells).1 := by
  unfold State.doStreamStart
  (try dsimp only)
  repeat' first | with_reducible assumption | (with_reducible first | apply State.gated_keeps | apply State.streamStart_keeps | apply State.ends_keeps) | split | rfl | intro _ | refine State.streamStart_keepsEq (by assumption) ?_ | refine State.ends_keepsEq (by assumption) ?_ | dsimp only | assumption

theorem State.doStreamStart_keepsEq {s₀ s u₁ : State} {a₁} {o : Origin} {segs : BitVec 16} {kinds : BitVec 8} {cells : BitVec 256}
    (e : State.doStreamStart s o segs kinds cells = (u₁, a₁)) (h : Keeps s₀ s) : Keeps s₀ u₁ := by
  have k := State.doStreamStart_keeps h o segs kinds cells
  rw [e] at k
  exact k

theorem State.doStreamStop_keeps {s₀ s : State} (h : Keeps s₀ s) (o : Origin) :
    Keeps s₀ (State.doStreamStop s o).1 := by
  unfold State.doStreamStop
  (try dsimp only)
  repeat' first | with_reducible assumption | (with_reducible first | apply State.gated_keeps | apply State.streamStop_keeps | apply State.ends_keeps) | split | rfl | intro _ | refine State.ends_keepsEq (by assumption) ?_ | dsimp only | assumption

theorem State.doStreamStop_keepsEq {s₀ s u₁ : State} {a₁} {o : Origin}
    (e : State.doStreamStop s o = (u₁, a₁)) (h : Keeps s₀ s) : Keeps s₀ u₁ := by
  have k := State.doStreamStop_keeps h o
  rw [e] at k
  exact k

theorem State.doRun_keeps {s₀ s : State} (h : Keeps s₀ s) (o : Origin) (t : Nat) :
    Keeps s₀ (State.doRun s o t).1 := by
  unfold State.doRun
  (try dsimp only)
  repeat' first | with_reducible assumption | (with_reducible first | apply State.gated_keeps | apply State.ends_keeps | apply State.runCmd_keeps) | split | rfl | intro _ | refine State.ends_keepsEq (by assumption) ?_ | refine State.runCmd_keepsEq (by assumption) ?_ | dsimp only | assumption

theorem State.doRun_keepsEq {s₀ s u₁ : State} {a₁} {o : Origin} {t : Nat}
    (e : State.doRun s o t = (u₁, a₁)) (h : Keeps s₀ s) : Keeps s₀ u₁ := by
  have k := State.doRun_keeps h o t
  rw [e] at k
  exact k

theorem State.toReady_keeps {s₀ s : State} (h : Keeps s₀ s) :
    Keeps s₀ (State.toReady s) := by
  unfold State.toReady
  (try dsimp only)
  repeat' first | with_reducible assumption | (with_reducible first | apply State.enter_keeps | apply State.modPlay_keeps | apply State.setLinks_keeps) | split | rfl | intro _ | dsimp only | assumption

theorem State.leaveHalt_keeps {s₀ s : State} (h : Keeps s₀ s) :
    Keeps s₀ (State.leaveHalt s) := by
  unfold State.leaveHalt
  (try dsimp only)
  repeat' first | with_reducible assumption | (with_reducible first | apply State.abortSlice_keeps | apply State.toReady_keeps | apply State.endInhibit_keeps | apply State.modBist_keeps | apply State.nextSlice_keeps | apply State.confirmSlot_keeps) | split | rfl | intro _ | dsimp only | assumption

theorem State.doStop_keeps {s₀ s : State} (h : Keeps s₀ s) (o : Origin) :
    Keeps s₀ (State.doStop s o).1 := by
  unfold State.doStop
  (try dsimp only)
  repeat' first | with_reducible assumption | (with_reducible first | apply State.gated_keeps | apply State.ends_keeps | apply State.stopRun_keeps | apply State.leaveHalt_keeps | apply State.abortSlice_keeps | apply State.toReady_keeps | apply State.modSpc_keeps | apply State.orphanRamp_keeps) | split | rfl | intro _ | refine State.ends_keepsEq (by assumption) ?_ | refine State.stopRun_keepsEq (by assumption) ?_ | dsimp only | assumption

theorem State.doStop_keepsEq {s₀ s u₁ : State} {a₁} {o : Origin}
    (e : State.doStop s o = (u₁, a₁)) (h : Keeps s₀ s) : Keeps s₀ u₁ := by
  have k := State.doStop_keeps h o
  rw [e] at k
  exact k

theorem State.doHalt_keeps {s₀ s : State} (h : Keeps s₀ s) (o : Origin) :
    Keeps s₀ (State.doHalt s o).1 := by
  unfold State.doHalt
  (try dsimp only)
  repeat' first | with_reducible assumption | (with_reducible first | apply State.gated_keeps | apply State.ends_keeps | apply State.abortSlice_keeps | apply State.haltNow_keeps) | split | rfl | intro _ | refine State.ends_keepsEq (by assumption) ?_ | dsimp only | assumption

theorem State.doHalt_keepsEq {s₀ s u₁ : State} {a₁} {o : Origin}
    (e : State.doHalt s o = (u₁, a₁)) (h : Keeps s₀ s) : Keeps s₀ u₁ := by
  have k := State.doHalt_keeps h o
  rw [e] at k
  exact k

theorem State.doRelease_keeps {s₀ s : State} (h : Keeps s₀ s) (o : Origin) (cells : BitVec 256) :
    Keeps s₀ (State.doRelease s o cells).1 := by
  unfold State.doRelease
  (try dsimp only)
  repeat' first | with_reducible assumption | (with_reducible first | apply State.gated_keeps | apply State.releaseCmd_keeps) | split | rfl | intro _ | refine State.releaseCmd_keepsEq (by assumption) ?_ | dsimp only | assumption

theorem State.doRelease_keepsEq {s₀ s u₁ : State} {a₁} {o : Origin} {cells : BitVec 256}
    (e : State.doRelease s o cells = (u₁, a₁)) (h : Keeps s₀ s) : Keeps s₀ u₁ := by
  have k := State.doRelease_keeps h o cells
  rw [e] at k
  exact k

theorem State.doFaultRead_keeps {s₀ s : State} (h : Keeps s₀ s) (o : Origin) (what from_ : Nat) :
    Keeps s₀ (State.doFaultRead s o what from_).1 := by
  unfold State.doFaultRead
  (try dsimp only)
  repeat' first | with_reducible assumption | (with_reducible first | apply State.gated_keeps | apply State.faultRead_keeps | apply State.now__keeps) | split | rfl | intro _ | refine State.faultRead_keepsEq (by assumption) ?_ | refine State.now__keepsEq (by assumption) ?_ | dsimp only | assumption

theorem State.doFaultRead_keepsEq {s₀ s u₁ : State} {a₁} {o : Origin} {what from_ : Nat}
    (e : State.doFaultRead s o what from_ = (u₁, a₁)) (h : Keeps s₀ s) : Keeps s₀ u₁ := by
  have k := State.doFaultRead_keeps h o what from_
  rw [e] at k
  exact k

theorem State.doFaultClear_keeps {s₀ s : State} (h : Keeps s₀ s) (o : Origin) (id : Nat) :
    Keeps s₀ (State.doFaultClear s o id).1 := by
  unfold State.doFaultClear
  (try dsimp only)
  repeat' first | with_reducible assumption | (with_reducible first | apply State.gated_keeps | apply State.clearFaults_keeps | apply State.modFlt_keeps | apply State.ends_keeps) | split | rfl | intro _ | refine State.clearFaults_keepsEq (by assumption) ?_ | refine State.ends_keepsEq (by assumption) ?_ | dsimp only | assumption

theorem State.doFaultClear_keepsEq {s₀ s u₁ : State} {a₁} {o : Origin} {id : Nat}
    (e : State.doFaultClear s o id = (u₁, a₁)) (h : Keeps s₀ s) : Keeps s₀ u₁ := by
  have k := State.doFaultClear_keeps h o id
  rw [e] at k
  exact k

theorem State.doBist_keeps {s₀ s : State} (h : Keeps s₀ s) (o : Origin) (n : Option Slice) :
    Keeps s₀ (State.doBist s o n).1 := by
  unfold State.doBist
  (try dsimp only)
  repeat' first | with_reducible assumption | (with_reducible first | apply State.gated_keeps | apply State.bistCmd_keeps) | split | rfl | intro _ | refine State.bistCmd_keepsEq (by assumption) ?_ | dsimp only | assumption

theorem State.doBist_keepsEq {s₀ s u₁ : State} {a₁} {o : Origin} {n : Option Slice}
    (e : State.doBist s o n = (u₁, a₁)) (h : Keeps s₀ s) : Keeps s₀ u₁ := by
  have k := State.doBist_keeps h o n
  rw [e] at k
  exact k

theorem State.doScan_keeps {s₀ s : State} (h : Keeps s₀ s) (o : Origin) (c : Fin 4) :
    Keeps s₀ (State.doScan s o c).1 := by
  unfold State.doScan
  (try dsimp only)
  repeat' first | with_reducible assumption | (with_reducible first | apply State.gated_keeps | apply State.checkCmd_keeps) | split | rfl | intro _ | refine State.checkCmd_keepsEq (by assumption) ?_ | dsimp only | assumption

theorem State.doScan_keepsEq {s₀ s u₁ : State} {a₁} {o : Origin} {c : Fin 4}
    (e : State.doScan s o c = (u₁, a₁)) (h : Keeps s₀ s) : Keeps s₀ u₁ := by
  have k := State.doScan_keeps h o c
  rw [e] at k
  exact k

theorem State.doBudget_keeps {s₀ s : State} (h : Keeps s₀ s) (o : Origin) (us : Word) :
    Keeps s₀ (State.doBudget s o us).1 := by
  unfold State.doBudget
  (try dsimp only)
  repeat' first | with_reducible assumption | (with_reducible first | apply State.gated_keeps | apply State.powerBudgetCmd_keeps | apply State.ends_keeps) | split | rfl | intro _ | refine State.ends_keepsEq (by assumption) ?_ | dsimp only | assumption

theorem State.doBudget_keepsEq {s₀ s u₁ : State} {a₁} {o : Origin} {us : Word}
    (e : State.doBudget s o us = (u₁, a₁)) (h : Keeps s₀ s) : Keeps s₀ u₁ := by
  have k := State.doBudget_keeps h o us
  rw [e] at k
  exact k

theorem State.doWake_keeps {s₀ s : State} (h : Keeps s₀ s) (o : Origin) :
    Keeps s₀ (State.doWake s o).1 := by
  unfold State.doWake
  (try dsimp only)
  repeat' first | with_reducible assumption | (with_reducible first | apply State.gated_keeps | apply State.wakeCmd_keeps) | split | rfl | intro _ | refine State.wakeCmd_keepsEq (by assumption) ?_ | dsimp only | assumption

theorem State.doWake_keepsEq {s₀ s u₁ : State} {a₁} {o : Origin}
    (e : State.doWake s o = (u₁, a₁)) (h : Keeps s₀ s) : Keeps s₀ u₁ := by
  have k := State.doWake_keeps h o
  rw [e] at k
  exact k

theorem State.doLogRead_keeps {s₀ s : State} (h : Keeps s₀ s) (o : Origin) (source index : Nat) :
    Keeps s₀ (State.doLogRead s o source index).1 := by
  unfold State.doLogRead
  (try dsimp only)
  repeat' first | with_reducible assumption | (with_reducible first | apply State.gated_keeps | apply State.now__keeps) | split | rfl | intro _ | refine State.now__keepsEq (by assumption) ?_ | dsimp only | assumption

theorem State.doLogRead_keepsEq {s₀ s u₁ : State} {a₁} {o : Origin} {source index : Nat}
    (e : State.doLogRead s o source index = (u₁, a₁)) (h : Keeps s₀ s) : Keeps s₀ u₁ := by
  have k := State.doLogRead_keeps h o source index
  rw [e] at k
  exact k

theorem State.doFw_keeps {s₀ s : State} (h : Keeps s₀ s) (o : Origin) {k : State → Option Result × State}
    (hk : ∀ s, Keeps s₀ s → Keeps s₀ (k s).2) : Keeps s₀ (s.doFw o k).1 := by
  unfold State.doFw
  exact State.gated_keeps h _ _ _ hk


theorem State.fwPhase_keeps {s₀ s : State} (h : Keeps s₀ s) (o : Origin) (l : List Byte) :
    Keeps s₀ (State.fwPhase s o l).1 := by
  unfold State.fwPhase
  (try dsimp only)
  repeat' first | with_reducible assumption | (with_reducible first | apply State.doFw_keeps | apply State.fwBegin_keeps | apply State.fwChunk_keeps | apply State.fwVerify_keeps | apply State.fwActivate_keeps | apply State.fwAbort_keeps | apply State.fwKey_keeps) | split | rfl | intro _ | refine State.fwBegin_keepsEq (by assumption) ?_ | refine State.fwChunk_keepsEq (by assumption) ?_ | refine State.fwVerify_keepsEq (by assumption) ?_ | refine State.fwActivate_keepsEq (by assumption) ?_ | refine State.fwAbort_keepsEq (by assumption) ?_ | refine State.fwKey_keepsEq (by assumption) ?_ | dsimp only | assumption

theorem State.fwPhase_keepsEq {s₀ s u₁ : State} {a₁} {o : Origin} {l : List Byte}
    (e : State.fwPhase s o l = (u₁, a₁)) (h : Keeps s₀ s) : Keeps s₀ u₁ := by
  have k := State.fwPhase_keeps h o l
  rw [e] at k
  exact k

theorem State.perform_keeps {s₀ s : State} (h : Keeps s₀ s) (o : Origin) (op : Nat) (l : List Byte) :
    Keeps s₀ (State.perform s o op l).1 := by
  unfold State.perform
  (try dsimp only)
  repeat' first | with_reducible assumption | (with_reducible first | apply State.gated_keeps | apply State.ends_keeps | apply State.doRegRead_keeps | apply State.doRegWrite_keeps | apply State.doReadBlock_keeps | apply State.doCensus_keeps | apply State.doPing_keeps | apply State.doLoad_keeps | apply State.doVerify_keeps | apply State.doErase_keeps | apply State.doAccord_keeps | apply State.accordBegin_keeps | apply State.accordPrepare_keeps | apply State.accordCommit_keeps | apply State.accordAbort_keeps | apply State.doSweep_keeps | apply State.doFetch_keeps | apply State.doMarks_keeps | apply State.doStreamStart_keeps | apply State.doStreamStop_keeps | apply State.doRun_keeps | apply State.doStop_keeps | apply State.doHalt_keeps | apply State.doRelease_keeps | apply State.doFaultRead_keeps | apply State.doFaultClear_keeps | apply State.doBist_keeps | apply State.doScan_keeps | apply State.doBudget_keeps | apply State.doWake_keeps | apply State.doLogRead_keeps | apply State.fwPhase_keeps) | split | rfl | intro _ | refine State.ends_keepsEq (by assumption) ?_ | refine State.doRegRead_keepsEq (by assumption) ?_ | refine State.doRegWrite_keepsEq (by assumption) ?_ | refine State.doReadBlock_keepsEq (by assumption) ?_ | refine State.doCensus_keepsEq (by assumption) ?_ | refine State.doPing_keepsEq (by assumption) ?_ | refine State.doLoad_keepsEq (by assumption) ?_ | refine State.accordBegin_keepsEq (by assumption) ?_ | refine State.accordPrepare_keepsEq (by assumption) ?_ | refine State.accordCommit_keepsEq (by assumption) ?_ | refine State.accordAbort_keepsEq (by assumption) ?_ | refine State.doSweep_keepsEq (by assumption) ?_ | refine State.doFetch_keepsEq (by assumption) ?_ | refine State.doMarks_keepsEq (by assumption) ?_ | refine State.doStreamStart_keepsEq (by assumption) ?_ | refine State.doStreamStop_keepsEq (by assumption) ?_ | refine State.doRun_keepsEq (by assumption) ?_ | refine State.doStop_keepsEq (by assumption) ?_ | refine State.doHalt_keepsEq (by assumption) ?_ | refine State.doRelease_keepsEq (by assumption) ?_ | refine State.doFaultRead_keepsEq (by assumption) ?_ | refine State.doFaultClear_keepsEq (by assumption) ?_ | refine State.doBist_keepsEq (by assumption) ?_ | refine State.doScan_keepsEq (by assumption) ?_ | refine State.doBudget_keepsEq (by assumption) ?_ | refine State.doWake_keepsEq (by assumption) ?_ | refine State.doLogRead_keepsEq (by assumption) ?_ | refine State.fwPhase_keepsEq (by assumption) ?_ | dsimp only | assumption

theorem State.perform_keepsEq {s₀ s u₁ : State} {a₁} {o : Origin} {op : Nat} {l : List Byte}
    (e : State.perform s o op l = (u₁, a₁)) (h : Keeps s₀ s) : Keeps s₀ u₁ := by
  have k := State.perform_keeps h o op l
  rw [e] at k
  exact k

theorem State.barReply_keeps {s₀ s : State} (h : Keeps s₀ s) (off : Nat) (r : Result) :
    Keeps s₀ (State.barReply s off r) := by
  unfold State.barReply
  (try dsimp only)
  repeat' first | with_reducible assumption | (with_reducible first | apply State.emit_keeps | apply State.freeBits_keeps) | split | rfl | intro _ | dsimp only | assumption

theorem State.conclude_keeps {s₀ : State} (o : Origin) (op : Nat) {r : State × Option Result} (h : Keeps s₀ r.1) :
    Keeps s₀ (State.conclude o op r) := by
  obtain ⟨s, r⟩ := r
  cases r <;> cases o <;> unfold State.conclude <;> dsimp only at h ⊢ <;>
    repeat' first | with_reducible assumption | with_reducible first | apply State.reply_keeps | apply State.modLoop_keeps | split


theorem State.arrives_keeps {s₀ s : State} (h : Keeps s₀ s) (o : Origin) (op : Nat)
    {k : State → State × Option Result} (hk : ∀ s, Keeps s₀ s → Keeps s₀ (k s).1) : Keeps s₀ (s.arrives o op k) := by
  unfold State.arrives
  repeat' first | with_reducible assumption | with_reducible first | apply hk | apply State.conclude_keeps | apply State.reply_keeps | split


end Sys2Proof.Machine
end

