-- ==== Sys2Proof/Laws/KeepsRegRows.lean ====
section
/-!
SUPPORT. What the operations of Machine/RegRows.lean keep: the queue, what has left, the free values, canonical memory.
-/

namespace Sys2Proof.Machine

theorem State.writeRow_keeps {s₀ s : State} (h : Keeps s₀ s) (off : Nat) (isRow : Wr → Bool) (w : Wr) :
    Keeps s₀ (State.writeRow s off isRow w) := by
  unfold State.writeRow
  (try dsimp only)
  repeat' first | with_reducible assumption | (with_reducible first | apply State.arrives_keeps | apply State.doRegWrite_keeps) | split | rfl | intro _ | refine State.doRegWrite_keepsEq (by assumption) ?_ | dsimp only | assumption

theorem State.doWindowWrite_keeps {s₀ s : State} (h : Keeps s₀ s) (g : Seg) (off : Nat) (w : Wr) :
    Keeps s₀ (State.doWindowWrite s g off w).1 := by
  unfold State.doWindowWrite
  (try dsimp only)
  repeat' first | with_reducible assumption | (with_reducible first | apply State.gated_keeps | apply State.wakeBlock_keeps | apply State.applyWindow_keeps | apply State.store_keeps | apply State.ends_keeps | apply State.writeReg_keeps) | split | rfl | intro _ | refine State.ends_keepsEq (by assumption) ?_ | refine State.writeReg_keepsEq (by assumption) ?_ | dsimp only | assumption

theorem State.doWindowWrite_keepsEq {s₀ s u₁ : State} {a₁} {g : Seg} {off : Nat} {w : Wr}
    (e : State.doWindowWrite s g off w = (u₁, a₁)) (h : Keeps s₀ s) : Keeps s₀ u₁ := by
  have k := State.doWindowWrite_keeps h g off w
  rw [e] at k
  exact k

theorem State.windowRow_keeps {s₀ s : State} (h : Keeps s₀ s) (g : Seg) (off : Nat) (isRow : Wr → Bool) (w : Wr) :
    Keeps s₀ (State.windowRow s g off isRow w) := by
  unfold State.windowRow
  (try dsimp only)
  repeat' first | with_reducible assumption | (with_reducible first | apply State.arrives_keeps | apply State.doWindowWrite_keeps) | split | rfl | intro _ | refine State.doWindowWrite_keepsEq (by assumption) ?_ | dsimp only | assumption

theorem execResetReq_keeps {s₀ s : State} (h : Keeps s₀ s) (w : Wr) :
    KeepsOut s₀ (execResetReq w s) := by
  unfold execResetReq
  (try dsimp only)
  repeat' first | with_reducible assumption | (with_reducible first | apply State.writeRow_keeps | apply State.done_keeps) | split | rfl | intro _ | dsimp only | assumption

theorem execFltClear_keeps {s₀ s : State} (h : Keeps s₀ s) (w : Wr) :
    KeepsOut s₀ (execFltClear w s) := by
  unfold execFltClear
  (try dsimp only)
  repeat' first | with_reducible assumption | (with_reducible first | apply State.writeRow_keeps | apply State.done_keeps) | split | rfl | intro _ | dsimp only | assumption

theorem execFirstRearm_keeps {s₀ s : State} (h : Keeps s₀ s) (w : Wr) :
    KeepsOut s₀ (execFirstRearm w s) := by
  unfold execFirstRearm
  (try dsimp only)
  repeat' first | with_reducible assumption | (with_reducible first | apply State.writeRow_keeps | apply State.done_keeps) | split | rfl | intro _ | dsimp only | assumption

theorem execOvfClear_keeps {s₀ s : State} (h : Keeps s₀ s) (w : Wr) :
    KeepsOut s₀ (execOvfClear w s) := by
  unfold execOvfClear
  (try dsimp only)
  repeat' first | with_reducible assumption | (with_reducible first | apply State.writeRow_keeps | apply State.done_keeps) | split | rfl | intro _ | dsimp only | assumption

theorem execCountClear_keeps {s₀ s : State} (h : Keeps s₀ s) (w : Wr) :
    KeepsOut s₀ (execCountClear w s) := by
  unfold execCountClear
  (try dsimp only)
  repeat' first | with_reducible assumption | (with_reducible first | apply State.writeRow_keeps | apply State.done_keeps) | split | rfl | intro _ | dsimp only | assumption

theorem execSlowRound_keeps {s₀ s : State} (h : Keeps s₀ s) (w : Option Wr) :
    KeepsOut s₀ (execSlowRound w s) := by
  unfold execSlowRound
  (try dsimp only)
  repeat' first | with_reducible assumption | (with_reducible first | apply State.writeRow_keeps | apply State.done_keeps | apply State.startSlow_keeps) | split | rfl | intro _ | dsimp only | assumption

theorem execKeeperRelease_keeps {s₀ s : State} (h : Keeps s₀ s) (g : Seg) (w : Wr) :
    KeepsOut s₀ (execKeeperRelease g w s) := by
  unfold execKeeperRelease
  (try dsimp only)
  repeat' first | with_reducible assumption | (with_reducible first | apply State.windowRow_keeps | apply State.done_keeps) | split | rfl | intro _ | dsimp only | assumption

theorem execParkReq_keeps {s₀ s : State} (h : Keeps s₀ s) (k : Cell) (w : Wr) :
    KeepsOut s₀ (execParkReq k w s) := by
  unfold execParkReq
  (try dsimp only)
  repeat' first | with_reducible assumption | (with_reducible first | apply State.windowRow_keeps | apply State.done_keeps) | split | rfl | intro _ | dsimp only | assumption

theorem execOpenReqSet_keeps {s₀ s : State} (h : Keeps s₀ s) (k : Cell) (w : Wr) :
    KeepsOut s₀ (execOpenReqSet k w s) := by
  unfold execOpenReqSet
  (try dsimp only)
  repeat' first | with_reducible assumption | (with_reducible first | apply State.windowRow_keeps | apply State.done_keeps) | split | rfl | intro _ | dsimp only | assumption

theorem execOpenReqClear_keeps {s₀ s : State} (h : Keeps s₀ s) (k : Cell) (w : Wr) :
    KeepsOut s₀ (execOpenReqClear k w s) := by
  unfold execOpenReqClear
  (try dsimp only)
  repeat' first | with_reducible assumption | (with_reducible first | apply State.windowRow_keeps | apply State.done_keeps) | split | rfl | intro _ | dsimp only | assumption

theorem execSwap_keeps {s₀ s : State} (h : Keeps s₀ s) (w : Wr) :
    KeepsOut s₀ (execSwap w s) := by
  unfold execSwap
  (try dsimp only)
  repeat' first | with_reducible assumption | (with_reducible first | apply State.writeRow_keeps | apply State.done_keeps) | split | rfl | intro _ | dsimp only | assumption

theorem execPhaseReturn_keeps {s₀ s : State} (h : Keeps s₀ s) (w : Wr) :
    KeepsOut s₀ (execPhaseReturn w s) := by
  unfold execPhaseReturn
  (try dsimp only)
  repeat' first | with_reducible assumption | (with_reducible first | apply State.writeRow_keeps | apply State.done_keeps) | split | rfl | intro _ | dsimp only | assumption

theorem execSpcCtrlEn_keeps {s₀ s : State} (h : Keeps s₀ s) (w : Wr) :
    KeepsOut s₀ (execSpcCtrlEn w s) := by
  unfold execSpcCtrlEn
  (try dsimp only)
  repeat' first | with_reducible assumption | (with_reducible first | apply State.writeRow_keeps | apply State.done_keeps) | split | rfl | intro _ | dsimp only | assumption

theorem execStepCtrlSource_keeps {s₀ s : State} (h : Keeps s₀ s) (w : Wr) :
    KeepsOut s₀ (execStepCtrlSource w s) := by
  unfold execStepCtrlSource
  (try dsimp only)
  repeat' first | with_reducible assumption | (with_reducible first | apply State.writeRow_keeps | apply State.done_keeps) | split | rfl | intro _ | dsimp only | assumption

theorem execShuntReadmit_keeps {s₀ s : State} (h : Keeps s₀ s) (w : Wr) :
    KeepsOut s₀ (execShuntReadmit w s) := by
  unfold execShuntReadmit
  (try dsimp only)
  repeat' first | with_reducible assumption | (with_reducible first | apply State.writeRow_keeps | apply State.done_keeps) | split | rfl | intro _ | dsimp only | assumption

theorem execGuardWrite_keeps {s₀ s : State} (h : Keeps s₀ s) (w : Wr) :
    KeepsOut s₀ (execGuardWrite w s) := by
  unfold execGuardWrite
  (try dsimp only)
  repeat' first | with_reducible assumption | (with_reducible first | apply State.writeRow_keeps | apply State.done_keeps) | split | rfl | intro _ | dsimp only | assumption

theorem execSnapNow_keeps {s₀ s : State} (h : Keeps s₀ s) (w : Wr) :
    KeepsOut s₀ (execSnapNow w s) := by
  unfold execSnapNow
  (try dsimp only)
  repeat' first | with_reducible assumption | (with_reducible first | apply State.writeRow_keeps | apply State.done_keeps) | split | rfl | intro _ | dsimp only | assumption

theorem execKvalSnap_keeps {s₀ s : State} (h : Keeps s₀ s) (w : Wr) :
    KeepsOut s₀ (execKvalSnap w s) := by
  unfold execKvalSnap
  (try dsimp only)
  repeat' first | with_reducible assumption | (with_reducible first | apply State.writeRow_keeps | apply State.done_keeps) | split | rfl | intro _ | dsimp only | assumption

theorem execKvalReset_keeps {s₀ s : State} (h : Keeps s₀ s) (w : Wr) :
    KeepsOut s₀ (execKvalReset w s) := by
  unfold execKvalReset
  (try dsimp only)
  repeat' first | with_reducible assumption | (with_reducible first | apply State.writeRow_keeps | apply State.done_keeps) | split | rfl | intro _ | dsimp only | assumption

theorem execAnomalyClear_keeps {s₀ s : State} (h : Keeps s₀ s) (w : Wr) :
    KeepsOut s₀ (execAnomalyClear w s) := by
  unfold execAnomalyClear
  (try dsimp only)
  repeat' first | with_reducible assumption | (with_reducible first | apply State.writeRow_keeps | apply State.done_keeps) | split | rfl | intro _ | dsimp only | assumption

theorem execDrydownCfgCopy_keeps {s₀ s : State} (h : Keeps s₀ s) (cfg : Bool) (w : Wr) :
    KeepsOut s₀ (execDrydownCfgCopy cfg w s) := by
  unfold execDrydownCfgCopy
  (try dsimp only)
  repeat' first | with_reducible assumption | (with_reducible first | apply State.writeRow_keeps | apply State.done_keeps) | split | rfl | intro _ | dsimp only | assumption

theorem execLinkRetrain_keeps {s₀ s : State} (h : Keeps s₀ s) (g : Seg) (w : Wr) :
    KeepsOut s₀ (execLinkRetrain g w s) := by
  unfold execLinkRetrain
  (try dsimp only)
  repeat' first | with_reducible assumption | (with_reducible first | apply State.writeRow_keeps | apply State.done_keeps) | split | rfl | intro _ | dsimp only | assumption

theorem execSegReset_keeps {s₀ s : State} (h : Keeps s₀ s) (g : Seg) (w : Wr) :
    KeepsOut s₀ (execSegReset g w s) := by
  unfold execSegReset
  (try dsimp only)
  repeat' first | with_reducible assumption | (with_reducible first | apply State.writeRow_keeps | apply State.done_keeps) | split | rfl | intro _ | dsimp only | assumption

theorem execPortEnable_keeps {s₀ s : State} (h : Keeps s₀ s) (w : Wr) :
    KeepsOut s₀ (execPortEnable w s) := by
  unfold execPortEnable
  (try dsimp only)
  repeat' first | with_reducible assumption | (with_reducible first | apply State.writeRow_keeps | apply State.done_keeps) | split | rfl | intro _ | dsimp only | assumption

theorem execRetrain_keeps {s₀ s : State} (h : Keeps s₀ s) (w : Wr) :
    KeepsOut s₀ (execRetrain w s) := by
  unfold execRetrain
  (try dsimp only)
  repeat' first | with_reducible assumption | (with_reducible first | apply State.writeRow_keeps | apply State.done_keeps) | split | rfl | intro _ | dsimp only | assumption

theorem execTimeNowWrite_keeps {s₀ s : State} (h : Keeps s₀ s) (hi lo : Wr) :
    KeepsOut s₀ (execTimeNowWrite hi lo s) := by
  unfold execTimeNowWrite
  (try dsimp only)
  repeat' first | with_reducible assumption | (with_reducible first | apply State.writeRow_keeps | apply State.done_keeps) | split | rfl | intro _ | dsimp only | assumption

theorem execFollowOff_keeps {s₀ s : State} (h : Keeps s₀ s) (w : Wr) :
    KeepsOut s₀ (execFollowOff w s) := by
  unfold execFollowOff
  (try dsimp only)
  repeat' first | with_reducible assumption | (with_reducible first | apply State.writeRow_keeps | apply State.done_keeps) | split | rfl | intro _ | dsimp only | assumption

theorem State.barRead_keeps {s₀ s : State} (h : Keeps s₀ s) (off : Nat) :
    Keeps s₀ (State.barRead s off) := by
  unfold State.barRead
  (try dsimp only)
  repeat' first | with_reducible assumption | (with_reducible first | apply State.doRegRead_keeps | apply State.barReply_keeps) | split | rfl | intro _ | refine State.doRegRead_keepsEq (by assumption) ?_ | dsimp only | assumption

theorem State.answerReads_keeps {s₀ s : State} (h : Keeps s₀ s) :
    Keeps s₀ (State.answerReads s) := by
  unfold State.answerReads
  (try dsimp only)
  repeat' first | with_reducible assumption | (with_reducible first | apply State.modHost_keeps | apply State.barRead_keeps | apply each_keeps) | split | rfl | intro _ | dsimp only | assumption

theorem State.idle_keeps {s₀ s : State} (h : Keeps s₀ s) :
    Keeps s₀ (State.idle s) := by
  unfold State.idle
  (try dsimp only)
  repeat' first | with_reducible assumption | (with_reducible first | apply State.answerReads_keeps | apply State.idleTick_keeps) | split | rfl | intro _ | dsimp only | assumption

theorem execRegRead_keeps {s₀ s : State} (h : Keeps s₀ s) (o : Origin) (offset : Nat) :
    KeepsOut s₀ (execRegRead o offset s) := by
  unfold execRegRead
  (try dsimp only)
  repeat' first | with_reducible assumption | (with_reducible first | apply State.done_keeps | apply State.modHost_keeps | apply State.barRead_keeps | apply State.arrives_keeps | apply State.doRegRead_keeps) | split | rfl | intro _ | refine State.doRegRead_keepsEq (by assumption) ?_ | dsimp only | assumption

theorem execRegReadBlock_keeps {s₀ s : State} (h : Keeps s₀ s) (o : Origin) (offset count : Nat) :
    KeepsOut s₀ (execRegReadBlock o offset count s) := by
  unfold execRegReadBlock
  (try dsimp only)
  repeat' first | with_reducible assumption | (with_reducible first | apply State.arrives_keeps | apply State.doReadBlock_keeps | apply State.done_keeps) | split | rfl | intro _ | refine State.doReadBlock_keepsEq (by assumption) ?_ | dsimp only | assumption

theorem execRegWrite_keeps {s₀ s : State} (h : Keeps s₀ s) (offset : Nat) (w : Wr) :
    KeepsOut s₀ (execRegWrite offset w s) := by
  unfold execRegWrite
  (try dsimp only)
  repeat' first | with_reducible assumption | (with_reducible first | apply State.emit_keeps | apply State.done_keeps | apply State.writeRow_keeps) | split | rfl | intro _ | dsimp only | assumption

theorem execFlaconPolicyWrite_keeps {s₀ s : State} (h : Keeps s₀ s) (w : Wr) :
    KeepsOut s₀ (execFlaconPolicyWrite w s) := by
  unfold execFlaconPolicyWrite
  (try dsimp only)
  repeat' first | with_reducible assumption | (with_reducible first | apply State.writeRow_keeps | apply State.done_keeps) | split | rfl | intro _ | dsimp only | assumption

theorem execLogCopy_keeps {s₀ s : State} (h : Keeps s₀ s) (w : Wr) :
    KeepsOut s₀ (execLogCopy w s) := by
  unfold execLogCopy
  (try dsimp only)
  repeat' first | with_reducible assumption | (with_reducible first | apply State.writeRow_keeps | apply State.done_keeps) | split | rfl | intro _ | dsimp only | assumption

theorem execHostEnable_keeps {s₀ s : State} (h : Keeps s₀ s) (w : Wr) :
    KeepsOut s₀ (execHostEnable w s) := by
  unfold execHostEnable
  (try dsimp only)
  repeat' first | with_reducible assumption | (with_reducible first | apply State.writeRow_keeps | apply State.done_keeps) | split | rfl | intro _ | dsimp only | assumption

theorem execResetRings_keeps {s₀ s : State} (h : Keeps s₀ s) (w : Wr) :
    KeepsOut s₀ (execResetRings w s) := by
  unfold execResetRings
  (try dsimp only)
  repeat' first | with_reducible assumption | (with_reducible first | apply State.writeRow_keeps | apply State.done_keeps) | split | rfl | intro _ | dsimp only | assumption

theorem execScanStart_keeps {s₀ s : State} (h : Keeps s₀ s) (c : Fin 4) (w : Wr) :
    KeepsOut s₀ (execScanStart c w s) := by
  unfold execScanStart
  (try dsimp only)
  repeat' first | with_reducible assumption | (with_reducible first | apply State.writeRow_keeps | apply State.done_keeps) | split | rfl | intro _ | dsimp only | assumption

theorem execScanAbort_keeps {s₀ s : State} (h : Keeps s₀ s) (c : Fin 4) (w : Wr) :
    KeepsOut s₀ (execScanAbort c w s) := by
  unfold execScanAbort
  (try dsimp only)
  repeat' first | with_reducible assumption | (with_reducible first | apply State.writeRow_keeps | apply State.done_keeps) | split | rfl | intro _ | dsimp only | assumption

end Sys2Proof.Machine
end

