-- ==== Sys2Proof/Laws/KeepsCommandRows.lean ====
section
/-!
SUPPORT. What the operations of Machine/CommandRows.lean keep: the queue, what has left, the free values, canonical memory.
-/

namespace Sys2Proof.Machine

theorem State.actBcast_keeps {s₀ s : State} (h : Keeps s₀ s) (op : Nat) (l : List Byte) :
    Keeps s₀ (State.actBcast s op l).1 := by
  unfold State.actBcast
  (try dsimp only)
  repeat' first | with_reducible assumption | (with_reducible first | apply State.perform_keeps | apply State.ends_keeps) | split | rfl | intro _ | refine State.perform_keepsEq (by assumption) ?_ | refine State.ends_keepsEq (by assumption) ?_ | dsimp only | assumption

theorem State.actBcast_keepsEq {s₀ s u₁ : State} {a₁} {op : Nat} {l : List Byte}
    (e : State.actBcast s op l = (u₁, a₁)) (h : Keeps s₀ s) : Keeps s₀ u₁ := by
  have k := State.actBcast_keeps h op l
  rw [e] at k
  exact k

theorem State.hearBcast_keeps {s₀ s : State} (h : Keeps s₀ s) (f : Frame) :
    Keeps s₀ (State.hearBcast s f).1 := by
  unfold State.hearBcast
  (try dsimp only)
  repeat' first | with_reducible assumption | (with_reducible first | apply State.modLoop_keeps | apply State.actBcast_keeps) | split | rfl | intro _ | refine State.actBcast_keepsEq (by assumption) ?_ | dsimp only | assumption

theorem State.hearBcast_keepsEq {s₀ s u₁ : State} {a₁} {f : Frame}
    (e : State.hearBcast s f = (u₁, a₁)) (h : Keeps s₀ s) : Keeps s₀ u₁ := by
  have k := State.hearBcast_keeps h f
  rw [e] at k
  exact k

theorem State.memberBcast_keeps {s₀ s : State} (h : Keeps s₀ s) (p : Port) (f : Frame) :
    Keeps s₀ (State.memberBcast s p f) := by
  unfold State.memberBcast
  (try dsimp only)
  repeat' first | with_reducible assumption | (with_reducible first | apply State.hearBcast_keeps | apply State.toHead_keeps | apply State.forward_keeps) | split | rfl | intro _ | refine State.hearBcast_keepsEq (by assumption) ?_ | dsimp only | assumption

theorem State.takeCmd_keeps {s₀ s : State} (h : Keeps s₀ s) (p : Port) (f : Frame) :
    Keeps s₀ (State.takeCmd s p f) := by
  unfold State.takeCmd
  (try dsimp only)
  repeat' first | with_reducible assumption | (with_reducible first | apply State.arrives_keeps | apply State.perform_keeps) | split | rfl | intro _ | refine State.perform_keepsEq (by assumption) ?_ | dsimp only | assumption

theorem State.headCmd_keeps {s₀ s : State} (h : Keeps s₀ s) (p : Port) (f : Frame) :
    Keeps s₀ (State.headCmd s p f) := by
  unfold State.headCmd
  (try dsimp only)
  repeat' first | with_reducible assumption | (with_reducible first | apply State.completeTag_keeps | apply State.hearBcast_keeps | apply State.sendBack_keeps | apply State.takeCmd_keeps) | split | rfl | intro _ | refine State.hearBcast_keepsEq (by assumption) ?_ | dsimp only | assumption

theorem execCmd_keeps {s₀ s : State} (h : Keeps s₀ s) (p : Port) (f : Frame) :
    KeepsOut s₀ (execCmd p f s) := by
  unfold execCmd
  (try dsimp only)
  repeat' first | with_reducible assumption | (with_reducible first | apply State.arrive_keeps | apply State.headCmd_keeps | apply State.memberBcast_keeps | apply State.transit_keeps | apply State.takeCmd_keeps | apply State.done_keeps) | split | rfl | intro _ | dsimp only | assumption

theorem State.turnAway_keeps {s₀ s : State} (h : Keeps s₀ s) (o : Outstanding) (st : Status) :
    Keeps s₀ (State.turnAway s o st) := by
  unfold State.turnAway
  (try dsimp only)
  repeat' first | with_reducible assumption | (with_reducible first | apply State.completeTag_keeps) | split | rfl | intro _ | dsimp only | assumption

theorem State.leftHead_keeps {s₀ s : State} (h : Keeps s₀ s) (tag : Nat) :
    Keeps s₀ (State.leftHead s tag) := by
  unfold State.leftHead
  (try dsimp only)
  repeat' first | with_reducible assumption | (with_reducible first | apply State.modHost_keeps) | split | rfl | intro _ | dsimp only | assumption

theorem State.broadcastHalt_keeps {s₀ s : State} (h : Keeps s₀ s) (o : Outstanding) :
    Keeps s₀ (State.broadcastHalt s o) := by
  unfold State.broadcastHalt
  (try dsimp only)
  repeat' first | with_reducible assumption | (with_reducible first | apply State.modLoop_keeps | apply State.enqueue_keeps | apply State.haltNow_keeps | apply State.completeTag_keeps | apply each_keeps) | split | rfl | intro _ | dsimp only | assumption

theorem State.broadcast_keeps {s₀ s : State} (h : Keeps s₀ s) (o : Outstanding) (way : Nat) (l : List Byte) :
    Keeps s₀ (State.broadcast s o way l) := by
  unfold State.broadcast
  (try dsimp only)
  repeat' first | with_reducible assumption | (with_reducible first | apply State.modHost_keeps | apply State.perform_keeps | apply State.sendFrame_keeps | apply State.leftHead_keeps | apply State.completeTag_keeps) | split | rfl | intro _ | refine State.perform_keepsEq (by assumption) ?_ | dsimp only | assumption

theorem State.launch_keeps {s₀ s : State} (h : Keeps s₀ s) (o : Outstanding) (b : List Byte) :
    Keeps s₀ (State.launch s o b) := by
  unfold State.launch
  (try dsimp only)
  repeat' first | with_reducible assumption | (with_reducible first | apply State.turnAway_keeps | apply State.hostErr_keeps | apply State.broadcastHalt_keeps | apply State.broadcast_keeps | apply State.arrives_keeps | apply State.perform_keeps | apply State.sendFrame_keeps | apply State.leftHead_keeps) | split | rfl | intro _ | refine State.perform_keepsEq (by assumption) ?_ | dsimp only | assumption

theorem State.startWaiting_keeps {s₀ s : State} (h : Keeps s₀ s) (n : Nat) : Keeps s₀ (State.startWaiting n s) := by
  induction n generalizing s with
  | zero => exact h
  | succ n ih =>
    unfold State.startWaiting
    repeat' first | with_reducible assumption | with_reducible first | apply ih | apply State.launch_keeps | apply State.modHost_keeps | split


theorem State.startAll_keeps {s₀ s : State} (h : Keeps s₀ s) :
    Keeps s₀ (State.startAll s) := by
  unfold State.startAll
  (try dsimp only)
  repeat' first | with_reducible assumption | (with_reducible first | apply State.startWaiting_keeps) | split | rfl | intro _ | dsimp only | assumption

theorem State.fetch_keeps {s₀ s : State} (h : Keeps s₀ s) (d : List Byte) (buf : Option (List Byte)) :
    Keeps s₀ (State.fetch s d buf) := by
  unfold State.fetch
  (try dsimp only)
  repeat' first | with_reducible assumption | (with_reducible first | apply State.freeBits_keeps | apply State.modHost_keeps | apply State.startAll_keeps) | split | rfl | intro _ | dsimp only | assumption

theorem execDescriptorFetch_keeps {s₀ s : State} (h : Keeps s₀ s) (desc buf : Option (List Byte)) :
    KeepsOut s₀ (execDescriptorFetch desc buf s) := by
  unfold execDescriptorFetch
  (try dsimp only)
  repeat' first | with_reducible assumption | (with_reducible first | apply State.done_keeps | apply State.startAll_keeps | apply State.hostErr_keeps | apply State.hostError_keeps | apply State.fetch_keeps) | split | rfl | intro _ | dsimp only | assumption

theorem execCompletion_keeps {s₀ s : State} (h : Keeps s₀ s) :
    KeepsOut s₀ (execCompletion s) := by
  unfold execCompletion
  (try dsimp only)
  repeat' first | with_reducible assumption | (with_reducible first | apply State.flushCpl_keeps | apply State.startAll_keeps | apply State.done_keeps) | split | rfl | intro _ | dsimp only | assumption

theorem execFaultRead_keeps {s₀ s : State} (h : Keeps s₀ s) (o : Origin) (what from_ : Nat) :
    KeepsOut s₀ (execFaultRead o what from_ s) := by
  unfold execFaultRead
  (try dsimp only)
  repeat' first | with_reducible assumption | (with_reducible first | apply State.arrives_keeps | apply State.doFaultRead_keeps | apply State.done_keeps) | split | rfl | intro _ | refine State.doFaultRead_keepsEq (by assumption) ?_ | dsimp only | assumption

theorem execFaultClear_keeps {s₀ s : State} (h : Keeps s₀ s) (o : Origin) (id : BitVec 16) :
    KeepsOut s₀ (execFaultClear o id s) := by
  unfold execFaultClear
  (try dsimp only)
  repeat' first | with_reducible assumption | (with_reducible first | apply State.arrives_keeps | apply State.doFaultClear_keeps | apply State.done_keeps) | split | rfl | intro _ | refine State.doFaultClear_keepsEq (by assumption) ?_ | dsimp only | assumption

theorem execReleasePark_keeps {s₀ s : State} (h : Keeps s₀ s) (o : Origin) (cells : BitVec 256) :
    KeepsOut s₀ (execReleasePark o cells s) := by
  unfold execReleasePark
  (try dsimp only)
  repeat' first | with_reducible assumption | (with_reducible first | apply State.arrives_keeps | apply State.doRelease_keeps | apply State.done_keeps) | split | rfl | intro _ | refine State.doRelease_keepsEq (by assumption) ?_ | dsimp only | assumption

theorem execRun_keeps {s₀ s : State} (h : Keeps s₀ s) (o : Origin) (t : Nat) :
    KeepsOut s₀ (execRun o t s) := by
  unfold execRun
  (try dsimp only)
  repeat' first | with_reducible assumption | (with_reducible first | apply State.arrives_keeps | apply State.doRun_keeps | apply State.done_keeps) | split | rfl | intro _ | refine State.doRun_keepsEq (by assumption) ?_ | dsimp only | assumption

theorem execStop_keeps {s₀ s : State} (h : Keeps s₀ s) (o : Origin) :
    KeepsOut s₀ (execStop o s) := by
  unfold execStop
  (try dsimp only)
  repeat' first | with_reducible assumption | (with_reducible first | apply State.arrives_keeps | apply State.doStop_keeps | apply State.done_keeps) | split | rfl | intro _ | refine State.doStop_keepsEq (by assumption) ?_ | dsimp only | assumption

theorem execHalt_keeps {s₀ s : State} (h : Keeps s₀ s) (o : Origin) :
    KeepsOut s₀ (execHalt o s) := by
  unfold execHalt
  (try dsimp only)
  repeat' first | with_reducible assumption | (with_reducible first | apply State.arrives_keeps | apply State.doHalt_keeps | apply State.done_keeps) | split | rfl | intro _ | refine State.doHalt_keepsEq (by assumption) ?_ | dsimp only | assumption

theorem execSweep_keeps {s₀ s : State} (h : Keeps s₀ s) (o : Origin) (id plan t : Nat) (cells : BitVec 256) :
    KeepsOut s₀ (execSweep o id plan t cells s) := by
  unfold execSweep
  (try dsimp only)
  repeat' first | with_reducible assumption | (with_reducible first | apply State.arrives_keeps | apply State.doSweep_keeps | apply State.done_keeps) | split | rfl | intro _ | refine State.doSweep_keepsEq (by assumption) ?_ | dsimp only | assumption

theorem execStreamStart_keeps {s₀ s : State} (h : Keeps s₀ s) (o : Origin) (segs : BitVec 16) (kinds : BitVec 8) (cells : BitVec 256) :
    KeepsOut s₀ (execStreamStart o segs kinds cells s) := by
  unfold execStreamStart
  (try dsimp only)
  repeat' first | with_reducible assumption | (with_reducible first | apply State.arrives_keeps | apply State.doStreamStart_keeps | apply State.done_keeps) | split | rfl | intro _ | refine State.doStreamStart_keepsEq (by assumption) ?_ | dsimp only | assumption

theorem execStreamStop_keeps {s₀ s : State} (h : Keeps s₀ s) (o : Origin) :
    KeepsOut s₀ (execStreamStop o s) := by
  unfold execStreamStop
  (try dsimp only)
  repeat' first | with_reducible assumption | (with_reducible first | apply State.arrives_keeps | apply State.doStreamStop_keeps | apply State.done_keeps) | split | rfl | intro _ | refine State.doStreamStop_keepsEq (by assumption) ?_ | dsimp only | assumption

theorem execPowerBudget_keeps {s₀ s : State} (h : Keeps s₀ s) (o : Origin) (us : Word) :
    KeepsOut s₀ (execPowerBudget o us s) := by
  unfold execPowerBudget
  (try dsimp only)
  repeat' first | with_reducible assumption | (with_reducible first | apply State.arrives_keeps | apply State.doBudget_keeps | apply State.done_keeps) | split | rfl | intro _ | refine State.doBudget_keepsEq (by assumption) ?_ | dsimp only | assumption

theorem execWake_keeps {s₀ s : State} (h : Keeps s₀ s) (o : Origin) :
    KeepsOut s₀ (execWake o s) := by
  unfold execWake
  (try dsimp only)
  repeat' first | with_reducible assumption | (with_reducible first | apply State.arrives_keeps | apply State.doWake_keeps | apply State.done_keeps) | split | rfl | intro _ | refine State.doWake_keepsEq (by assumption) ?_ | dsimp only | assumption

theorem execCensus_keeps {s₀ s : State} (h : Keeps s₀ s) (o : Origin) :
    KeepsOut s₀ (execCensus o s) := by
  unfold execCensus
  (try dsimp only)
  repeat' first | with_reducible assumption | (with_reducible first | apply State.arrives_keeps | apply State.doCensus_keeps | apply State.done_keeps) | split | rfl | intro _ | refine State.doCensus_keepsEq (by assumption) ?_ | dsimp only | assumption

theorem execLoopPing_keeps {s₀ s : State} (h : Keeps s₀ s) (o : Origin) :
    KeepsOut s₀ (execLoopPing o s) := by
  unfold execLoopPing
  (try dsimp only)
  repeat' first | with_reducible assumption | (with_reducible first | apply State.arrives_keeps | apply State.doPing_keeps | apply State.done_keeps) | split | rfl | intro _ | refine State.doPing_keepsEq (by assumption) ?_ | dsimp only | assumption

theorem execAccordBegin_keeps {s₀ s : State} (h : Keeps s₀ s) (o : Origin) (id : BitVec 16) :
    KeepsOut s₀ (execAccordBegin o id s) := by
  unfold execAccordBegin
  (try dsimp only)
  repeat' first | with_reducible assumption | (with_reducible first | apply State.arrives_keeps | apply State.doAccord_keeps | apply State.accordBegin_keeps | apply State.done_keeps) | split | rfl | intro _ | refine State.accordBegin_keepsEq (by assumption) ?_ | dsimp only | assumption

theorem execAccordPrepare_keeps {s₀ s : State} (h : Keeps s₀ s) (o : Origin) (id : BitVec 16) (count t : Nat) :
    KeepsOut s₀ (execAccordPrepare o id count t s) := by
  unfold execAccordPrepare
  (try dsimp only)
  repeat' first | with_reducible assumption | (with_reducible first | apply State.arrives_keeps | apply State.doAccord_keeps | apply State.accordPrepare_keeps | apply State.done_keeps) | split | rfl | intro _ | refine State.accordPrepare_keepsEq (by assumption) ?_ | dsimp only | assumption

theorem execAccordCommit_keeps {s₀ s : State} (h : Keeps s₀ s) (o : Origin) (id : BitVec 16) (t : Nat) :
    KeepsOut s₀ (execAccordCommit o id t s) := by
  unfold execAccordCommit
  (try dsimp only)
  repeat' first | with_reducible assumption | (with_reducible first | apply State.arrives_keeps | apply State.doAccord_keeps | apply State.accordCommit_keeps | apply State.done_keeps) | split | rfl | intro _ | refine State.accordCommit_keepsEq (by assumption) ?_ | dsimp only | assumption

theorem execAccordAbort_keeps {s₀ s : State} (h : Keeps s₀ s) (o : Origin) (id : BitVec 16) :
    KeepsOut s₀ (execAccordAbort o id s) := by
  unfold execAccordAbort
  (try dsimp only)
  repeat' first | with_reducible assumption | (with_reducible first | apply State.arrives_keeps | apply State.doAccord_keeps | apply State.accordAbort_keeps | apply State.done_keeps) | split | rfl | intro _ | refine State.accordAbort_keepsEq (by assumption) ?_ | dsimp only | assumption

theorem execFlaconLoad_keeps {s₀ s : State} (h : Keeps s₀ s) (o : Origin) (slot : Option (Fin 8)) (offset total : Nat) (data : List Byte) :
    KeepsOut s₀ (execFlaconLoad o slot offset total data s) := by
  unfold execFlaconLoad
  (try dsimp only)
  repeat' first | with_reducible assumption | (with_reducible first | apply State.arrives_keeps | apply State.doLoad_keeps | apply State.done_keeps) | split | rfl | intro _ | refine State.doLoad_keepsEq (by assumption) ?_ | dsimp only | assumption

theorem execFlaconVerify_keeps {s₀ s : State} (h : Keeps s₀ s) (o : Origin) (store : Option (Fin 8)) :
    KeepsOut s₀ (execFlaconVerify o store s) := by
  unfold execFlaconVerify
  (try dsimp only)
  repeat' first | with_reducible assumption | (with_reducible first | apply State.arrives_keeps | apply State.doVerify_keeps | apply State.store_keeps | apply State.done_keeps) | split | rfl | intro _ | dsimp only | assumption

theorem execFlaconErase_keeps {s₀ s : State} (h : Keeps s₀ s) (o : Origin) (target : BitVec 8) :
    KeepsOut s₀ (execFlaconErase o target s) := by
  unfold execFlaconErase
  (try dsimp only)
  repeat' first | with_reducible assumption | (with_reducible first | apply State.arrives_keeps | apply State.doErase_keeps | apply State.done_keeps) | split | rfl | intro _ | dsimp only | assumption

theorem execResultFetch_keeps {s₀ s : State} (h : Keeps s₀ s) (o : Origin) (slot gen : Nat) :
    KeepsOut s₀ (execResultFetch o slot gen s) := by
  unfold execResultFetch
  (try dsimp only)
  repeat' first | with_reducible assumption | (with_reducible first | apply State.arrives_keeps | apply State.doFetch_keeps | apply State.done_keeps) | split | rfl | intro _ | refine State.doFetch_keepsEq (by assumption) ?_ | dsimp only | assumption

theorem execMarks_keeps {s₀ s : State} (h : Keeps s₀ s) (o : Origin) (items : List (Nat × Nat × Nat)) :
    KeepsOut s₀ (execMarks o items s) := by
  unfold execMarks
  (try dsimp only)
  repeat' first | with_reducible assumption | (with_reducible first | apply State.arrives_keeps | apply State.doMarks_keeps | apply State.done_keeps) | split | rfl | intro _ | refine State.doMarks_keepsEq (by assumption) ?_ | dsimp only | assumption

theorem execNvmLogRead_keeps {s₀ s : State} (h : Keeps s₀ s) (o : Origin) (source index : Nat) :
    KeepsOut s₀ (execNvmLogRead o source index s) := by
  unfold execNvmLogRead
  (try dsimp only)
  repeat' first | with_reducible assumption | (with_reducible first | apply State.arrives_keeps | apply State.doLogRead_keeps | apply State.done_keeps) | split | rfl | intro _ | refine State.doLogRead_keepsEq (by assumption) ?_ | dsimp only | assumption

theorem execBistRun_keeps {s₀ s : State} (h : Keeps s₀ s) (o : Origin) (n : Option Slice) :
    KeepsOut s₀ (execBistRun o n s) := by
  unfold execBistRun
  (try dsimp only)
  repeat' first | with_reducible assumption | (with_reducible first | apply State.arrives_keeps | apply State.doBist_keeps | apply State.done_keeps) | split | rfl | intro _ | refine State.doBist_keepsEq (by assumption) ?_ | dsimp only | assumption

theorem execCheckScan_keeps {s₀ s : State} (h : Keeps s₀ s) (o : Origin) (c : Fin 4) :
    KeepsOut s₀ (execCheckScan o c s) := by
  unfold execCheckScan
  (try dsimp only)
  repeat' first | with_reducible assumption | (with_reducible first | apply State.arrives_keeps | apply State.doScan_keeps | apply State.done_keeps) | split | rfl | intro _ | refine State.doScan_keepsEq (by assumption) ?_ | dsimp only | assumption

theorem execBegin_keeps {s₀ s : State} (h : Keeps s₀ s) (o : Origin) (total version : Nat) :
    KeepsOut s₀ (execBegin o total version s) := by
  unfold execBegin
  (try dsimp only)
  repeat' first | with_reducible assumption | (with_reducible first | apply State.arrives_keeps | apply State.doFw_keeps | apply State.fwBegin_keeps | apply State.done_keeps) | split | rfl | intro _ | refine State.fwBegin_keepsEq (by assumption) ?_ | dsimp only | assumption

theorem execChunk_keeps {s₀ s : State} (h : Keeps s₀ s) (o : Origin) (offset : Nat) (data : List Byte) :
    KeepsOut s₀ (execChunk o offset data s) := by
  unfold execChunk
  (try dsimp only)
  repeat' first | with_reducible assumption | (with_reducible first | apply State.arrives_keeps | apply State.doFw_keeps | apply State.fwChunk_keeps | apply State.done_keeps) | split | rfl | intro _ | refine State.fwChunk_keepsEq (by assumption) ?_ | dsimp only | assumption

theorem execVerify_keeps {s₀ s : State} (h : Keeps s₀ s) (o : Origin) :
    KeepsOut s₀ (execVerify o s) := by
  unfold execVerify
  (try dsimp only)
  repeat' first | with_reducible assumption | (with_reducible first | apply State.arrives_keeps | apply State.doFw_keeps | apply State.fwVerify_keeps | apply State.done_keeps) | split | rfl | intro _ | refine State.fwVerify_keepsEq (by assumption) ?_ | dsimp only | assumption

theorem execActivate_keeps {s₀ s : State} (h : Keeps s₀ s) (o : Origin) :
    KeepsOut s₀ (execActivate o s) := by
  unfold execActivate
  (try dsimp only)
  repeat' first | with_reducible assumption | (with_reducible first | apply State.arrives_keeps | apply State.doFw_keeps | apply State.fwActivate_keeps | apply State.done_keeps) | split | rfl | intro _ | refine State.fwActivate_keepsEq (by assumption) ?_ | dsimp only | assumption

theorem execAbort_keeps {s₀ s : State} (h : Keeps s₀ s) (o : Origin) :
    KeepsOut s₀ (execAbort o s) := by
  unfold execAbort
  (try dsimp only)
  repeat' first | with_reducible assumption | (with_reducible first | apply State.arrives_keeps | apply State.doFw_keeps | apply State.fwAbort_keeps | apply State.done_keeps) | split | rfl | intro _ | refine State.fwAbort_keepsEq (by assumption) ?_ | dsimp only | assumption

theorem execFlaconKey_keeps {s₀ s : State} (h : Keeps s₀ s) (o : Origin) (key : List Byte) :
    KeepsOut s₀ (execFlaconKey o key s) := by
  unfold execFlaconKey
  (try dsimp only)
  repeat' first | with_reducible assumption | (with_reducible first | apply State.arrives_keeps | apply State.doFw_keeps | apply State.fwKey_keeps | apply State.done_keeps) | split | rfl | intro _ | refine State.fwKey_keepsEq (by assumption) ?_ | dsimp only | assumption

end Sys2Proof.Machine
end

