-- ==== Sys2Proof/Laws/Taken.lean ====
section
/-!
SUPPORT. A command that is taken: `arrives` and `gated` come down to the judgement of its opcode.
-/

namespace Sys2Proof.Machine

theorem State.powered_iff (s : State) : s.powered = true ↔ s.glb.st ≠ .off ∧ s.glb.st ≠ .dormant := by
  unfold State.powered State.st
  cases s.glb.st <;> simp

/-- A command that reaches its judgement is concluded with what it answers. -/
theorem State.arrives_reaches {s : State} {o : Origin} {op : Nat} (h : s.reaches o op = true)
    (k : State → State × Option Result) : s.arrives o op k = State.conclude o op (k s) := by
  unfold State.reaches at h
  simp only [Bool.and_eq_true] at h
  obtain ⟨hp, ho⟩ := h
  unfold State.arrives
  rw [if_neg (by simp [hp])]
  cases o with
  | bar0 => exact if_pos (by simpa using ho)
  | loop a b c =>
    have : ¬ 128 ≤ s.loop.inFlight := by simpa using ho
    exact if_neg this
  | ring a => rfl
  | bcast => rfl

theorem State.gated_taken (s : State) (o : Origin) (op : Nat) (mild : Bool) (k : State → State × Option Result) :
    s.gated o op mild k = match (s.taken o).refusal op mild with
      | some st => (s.taken o, some (Result.of st))
      | none => k (s.taken o) := by
  unfold State.gated State.taken
  cases o <;> rfl

/-- A command that the module state refuses is answered with the status of the refusal. -/
theorem State.arrives_refused {s : State} {o : Origin} {op : Nat} {mild : Bool} {st : Status} (h : s.reaches o op = true)
    (hr : (s.taken o).refusal op mild = some st) (k : State → State × Option Result) :
    s.arrives o op (fun s => s.gated o op mild k) = (s.taken o).reply o op (Result.of st) := by
  rw [State.arrives_reaches h, State.gated_taken, hr]
  rfl

/-- A command that is accepted is judged by its opcode. -/
theorem State.arrives_accepts {s : State} {o : Origin} {op : Nat} {mild : Bool} (h : s.accepts o op mild = true)
    (k : State → State × Option Result) :
    s.arrives o op (fun s => s.gated o op mild k) = State.conclude o op (k (s.taken o)) := by
  unfold State.accepts at h
  simp only [Bool.and_eq_true, Option.isNone_iff_eq_none] at h
  rw [State.arrives_reaches h.1, State.gated_taken, h.2]

/-- A command answered at once. -/
theorem State.conclude_some (o : Origin) (op : Nat) (s : State) (r : Result) :
    State.conclude o op (s, some r) = s.reply o op r := rfl

/-- A frame that a port takes is acted on. -/
theorem State.arrive_takes {s : State} {p : Port} {t : Nat} {f : Frame} (h : s.takes p t f = true) (k : State → State) :
    s.arrive p t f k = k (s.heard p t f) := by
  unfold State.takes State.heard at h
  unfold State.arrive State.heard
  simp only [Bool.and_eq_true, bne_iff_ne, beq_iff_eq, ne_eq] at h
  obtain ⟨⟨⟨h1, h2⟩, h3⟩, h4⟩ := h
  rw [if_neg (by simp [h1, h2, h3])]
  cases ht : isSequenced t with
  | false => simp
  | true =>
    simp only [ht, Bool.not_true, Bool.false_or, Bool.and_eq_true, beq_iff_eq, if_true] at h4
    obtain ⟨h5, h6⟩ := h4
    simp [h5, h6]

/-- A BAR0 write is turned into a direct one. -/
theorem Wr.direct_origin (w : Wr) : (Wr.direct w).origin = w.origin := by
  unfold Wr.direct
  split <;> simp_all

end Sys2Proof.Machine
end

