-- ==== Sys2Proof/Laws/TouchFaults.lean ====
section
/-!
SUPPORT. Which parts of the state the operations of Machine/Faults.lean may change.
-/

namespace Sys2Proof.Machine

-- One theorem at a time, which bounds the memory of the whole package's compile.
set_option Elab.async false

theorem State.faultRead_touch {μ : Nat} {s₀ s : State} (h : TouchM μ s₀ s) (what from_ : Nat)
    (hm : Nat.land 1048576 μ = 1048576 := by first | (apply sub_trans; rotate_left; (with_reducible assumption); rfl) | rfl) : TouchM μ s₀ (State.faultRead s what from_).2 := by
  unfold State.faultRead
  (try dsimp only)
  repeat' first | with_reducible assumption | (with_reducible first | apply State.modFlt_touch) | split | exact (rfl : Nat.land _ _ = _) | exact sub_trans rfl hm | intro _ | dsimp only | assumption

theorem State.faultRead_touchEq {μ : Nat} {s₀ s u₁ : State} {a₁} {what from_ : Nat}
    (e : State.faultRead s what from_ = (a₁, u₁)) (h : TouchM μ s₀ s) (hm : Nat.land 1048576 μ = 1048576 := by first | (apply sub_trans; rotate_left; (with_reducible assumption); rfl) | rfl) : TouchM μ s₀ u₁ := by
  have k := State.faultRead_touch h what from_ hm
  rw [e] at k
  exact k

theorem execFaultEntry_touch (s : State) (x : Src) (g : Option Seg) (k : Option Cell) (a0 a1 a2 : Word) : TouchOut 106496000 s (execFaultEntry x g k a0 a1 a2 s) := by
  have h := TouchM.refl 106496000 s
  unfold execFaultEntry
  (try dsimp only)
  repeat' first | with_reducible assumption | (with_reducible first | apply State.abortScan_touch | apply State.report_touch | apply State.done_touch | apply each_touch) | split | exact (rfl : Nat.land _ _ = _) | exact sub_trans rfl hm | intro _ | dsimp only | assumption

theorem execIntakeMove_touch (s : State) : TouchOut 1048576 s (execIntakeMove s) := by
  have h := TouchM.refl 1048576 s
  unfold execIntakeMove
  (try dsimp only)
  repeat' first | with_reducible assumption | (with_reducible first | apply State.done_touch | apply State.modFlt_touch) | split | exact (rfl : Nat.land _ _ = _) | exact sub_trans rfl hm | intro _ | dsimp only | assumption

theorem execHaltDecision_touch (s : State) : TouchOut 54116278 s (execHaltDecision s) := by
  have h := TouchM.refl 54116278 s
  unfold execHaltDecision
  (try dsimp only)
  repeat' first | with_reducible assumption | (with_reducible first | apply State.done_touch | apply State.haltNow_touch) | split | exact (rfl : Nat.land _ _ = _) | exact sub_trans rfl hm | intro _ | dsimp only | assumption

theorem execHaltRequest_touch (s : State) (g : Seg) : TouchOut 54116278 s (execHaltRequest g s) := by
  have h := TouchM.refl 54116278 s
  unfold execHaltRequest
  (try dsimp only)
  repeat' first | with_reducible assumption | (with_reducible first | apply State.modLink_touch | apply State.abortSlice_touch | apply State.markSticky_touch | apply State.modFlt_touch | apply State.haltNow_touch | apply State.done_touch) | split | exact (rfl : Nat.land _ _ = _) | exact sub_trans rfl hm | intro _ | dsimp only | assumption

theorem execEstopNLow_touch (s : State) (lowNs : Nat) : TouchOut 101714052 s (execEstopNLow lowNs s) := by
  have h := TouchM.refl 101714052 s
  unfold execEstopNLow
  (try dsimp only)
  repeat' first | with_reducible assumption | (with_reducible first | apply State.freeBool_touch | apply State.setPins_touch | apply State.inhibit_touch | apply State.stageOff_touch | apply State.raise_touch | apply State.done_touch) | split | exact (rfl : Nat.land _ _ = _) | exact sub_trans rfl hm | intro _ | dsimp only | assumption

theorem execEstopNHigh_touch (s : State) : TouchOut 2052 s (execEstopNHigh s) := by
  have h := TouchM.refl 2052 s
  unfold execEstopNHigh
  (try dsimp only)
  repeat' first | with_reducible assumption | (with_reducible first | apply State.setPins_touch | apply State.endInhibit_touch | apply State.done_touch) | split | exact (rfl : Nat.land _ _ = _) | exact sub_trans rfl hm | intro _ | dsimp only | assumption

theorem execPhFltNLow_touch (s : State) (lowNs : Nat) : TouchOut 101714052 s (execPhFltNLow lowNs s) := by
  have h := TouchM.refl 101714052 s
  unfold execPhFltNLow
  (try dsimp only)
  repeat' first | with_reducible assumption | (with_reducible first | apply State.freeBool_touch | apply State.setPins_touch | apply State.inhibit_touch | apply State.stageOff_touch | apply State.raise_touch | apply State.done_touch) | split | exact (rfl : Nat.land _ _ = _) | exact sub_trans rfl hm | intro _ | dsimp only | assumption

theorem execPhFltNHigh_touch (s : State) : TouchOut 2052 s (execPhFltNHigh s) := by
  have h := TouchM.refl 2052 s
  unfold execPhFltNHigh
  (try dsimp only)
  repeat' first | with_reducible assumption | (with_reducible first | apply State.setPins_touch | apply State.endInhibit_touch | apply State.done_touch) | split | exact (rfl : Nat.land _ _ = _) | exact sub_trans rfl hm | intro _ | dsimp only | assumption

theorem State.wroteFltClear_touch {μ : Nat} {s₀ s : State} (h : TouchM μ s₀ s) (id : Nat)
    (hm : Nat.land 1048576 μ = 1048576 := by first | (apply sub_trans; rotate_left; (with_reducible assumption); rfl) | rfl) : TouchM μ s₀ (State.wroteFltClear s id) := by
  unfold State.wroteFltClear
  (try dsimp only)
  repeat' first | with_reducible assumption | (with_reducible first | apply State.clearFaults_touch | apply State.modFlt_touch) | split | exact (rfl : Nat.land _ _ = _) | exact sub_trans rfl hm | intro _ | refine State.clearFaults_touchEq (by assumption) ?_ | dsimp only | assumption

theorem State.wroteFltCtrl_touch {μ : Nat} {s₀ s : State} (h : TouchM μ s₀ s) (v : Word)
    (hm : Nat.land 1048576 μ = 1048576 := by first | (apply sub_trans; rotate_left; (with_reducible assumption); rfl) | rfl) : TouchM μ s₀ (State.wroteFltCtrl s v) := by
  unfold State.wroteFltCtrl
  (try dsimp only)
  repeat' first | with_reducible assumption | (with_reducible first | apply State.modFlt_touch) | split | exact (rfl : Nat.land _ _ = _) | exact sub_trans rfl hm | intro _ | dsimp only | assumption

end Sys2Proof.Machine
end

