-- ==== Sys2Proof/Laws/TouchThermal.lean ====
section
/-!
SUPPORT. Which parts of the state the operations of Machine/Thermal.lean may change.
-/

namespace Sys2Proof.Machine

-- One theorem at a time, which bounds the memory of the whole package's compile.
set_option Elab.async false

theorem State.reviewHolds_touch {μ : Nat} {s₀ s : State} (h : TouchM μ s₀ s) (k : Cell)
    (hm : Nat.land 16 μ = 16 := by first | (apply sub_trans; rotate_left; (with_reducible assumption); rfl) | rfl) : TouchM μ s₀ (State.reviewHolds s k) := by
  unfold State.reviewHolds
  (try dsimp only)
  repeat' first | with_reducible assumption | (with_reducible first | apply State.setHold_touch) | split | exact (rfl : Nat.land _ _ = _) | exact sub_trans rfl hm | intro _ | dsimp only | assumption

theorem State.reviewAll_touch {μ : Nat} {s₀ s : State} (h : TouchM μ s₀ s)
    (hm : Nat.land 16 μ = 16 := by first | (apply sub_trans; rotate_left; (with_reducible assumption); rfl) | rfl) : TouchM μ s₀ (State.reviewAll s) := by
  unfold State.reviewAll
  (try dsimp only)
  repeat' first | with_reducible assumption | (with_reducible first | apply State.reviewHolds_touch | apply each_touch) | split | exact (rfl : Nat.land _ _ = _) | exact sub_trans rfl hm | intro _ | dsimp only | assumption

theorem State.signFrom_touch {μ : Nat} {s₀ s : State} (h : TouchM μ s₀ s) (old : Int)
    (hm : Nat.land 16 μ = 16 := by first | (apply sub_trans; rotate_left; (with_reducible assumption); rfl) | rfl) : TouchM μ s₀ (State.signFrom s old) := by
  unfold State.signFrom
  (try dsimp only)
  repeat' first | with_reducible assumption | (with_reducible first | apply State.reviewAll_touch) | split | exact (rfl : Nat.land _ _ = _) | exact sub_trans rfl hm | intro _ | dsimp only | assumption

theorem State.ntcAct_touch {μ : Nat} {s₀ s : State} (h : TouchM μ s₀ s) (old : Vec CellTemp 256) (rs : List Nat) (k : Cell)
    (hm : Nat.land 1052720 μ = 1052720 := by first | (apply sub_trans; rotate_left; (with_reducible assumption); rfl) | rfl) : TouchM μ s₀ (State.ntcAct s old rs k) := by
  unfold State.ntcAct
  (try dsimp only)
  repeat' first | with_reducible assumption | (with_reducible first | apply State.raise_touch | apply State.park_touch) | split | exact (rfl : Nat.land _ _ = _) | exact sub_trans rfl hm | intro _ | dsimp only | assumption

theorem execNtcSample_touch (s : State) (rs : List Nat) : TouchOut 1052784 s (execNtcSample rs s) := by
  have h := TouchM.refl 1052784 s
  unfold execNtcSample
  (try dsimp only)
  repeat' first | with_reducible assumption | (with_reducible first | apply State.setTemps_touch | apply State.ntcAct_touch | apply State.reviewAll_touch | apply State.done_touch | apply each_touch) | split | exact (rfl : Nat.land _ _ = _) | exact sub_trans rfl hm | intro _ | dsimp only | assumption

theorem State.nearCheck_touch {μ : Nat} {s₀ s : State} (h : TouchM μ s₀ s)
    (hm : Nat.land 16384 μ = 16384 := by first | (apply sub_trans; rotate_left; (with_reducible assumption); rfl) | rfl) : TouchM μ s₀ (State.nearCheck s) := by
  unfold State.nearCheck
  (try dsimp only)
  repeat' first | with_reducible assumption | (with_reducible first | apply State.modTherm_touch) | split | exact (rfl : Nat.land _ _ = _) | exact sub_trans rfl hm | intro _ | dsimp only | assumption

theorem State.dieAct_touch {μ : Nat} {s₀ s : State} (h : TouchM μ s₀ s) (old : Vec DieTemp 17) (i : Nat)
    (hm : Nat.land 1048576 μ = 1048576 := by first | (apply sub_trans; rotate_left; (with_reducible assumption); rfl) | rfl) : TouchM μ s₀ (State.dieAct s old i) := by
  unfold State.dieAct
  (try dsimp only)
  repeat' first | with_reducible assumption | (with_reducible first | apply State.raise_touch) | split | exact (rfl : Nat.land _ _ = _) | exact sub_trans rfl hm | intro _ | dsimp only | assumption

theorem execThermalSample_touch (s : State) (rs : List Int) : TouchOut 1064960 s (execThermalSample rs s) := by
  have h := TouchM.refl 1064960 s
  unfold execThermalSample
  (try dsimp only)
  repeat' first | with_reducible assumption | (with_reducible first | apply State.modTherm_touch | apply State.dieAct_touch | apply State.nearCheck_touch | apply State.done_touch | apply each_touch) | split | exact (rfl : Nat.land _ _ = _) | exact sub_trans rfl hm | intro _ | dsimp only | assumption

theorem execModelStep_touch (s : State) : TouchOut 16400 s (execModelStep s) := by
  have h := TouchM.refl 16400 s
  unfold execModelStep
  (try dsimp only)
  repeat' first | with_reducible assumption | (with_reducible first | apply State.putCells_touch | apply State.modTherm_touch | apply State.nearCheck_touch | apply State.done_touch) | split | exact (rfl : Nat.land _ _ = _) | exact sub_trans rfl hm | intro _ | dsimp only | assumption

theorem execShutdown_touch (s : State) (i : Fin 33) : TouchOut 129892278 s (execShutdown i s) := by
  have h := TouchM.refl 129892278 s
  unfold execShutdown
  (try dsimp only)
  repeat' first | with_reducible assumption | (with_reducible first | apply State.shutdownNow_touch | apply State.done_touch) | split | exact (rfl : Nat.land _ _ = _) | exact sub_trans rfl hm | intro _ | dsimp only | assumption

theorem State.startSlow_touch {μ : Nat} {s₀ s : State} (h : TouchM μ s₀ s)
    (hm : Nat.land 2113536 μ = 2113536 := by first | (apply sub_trans; rotate_left; (with_reducible assumption); rfl) | rfl) : TouchM μ s₀ (State.startSlow s) := by
  unfold State.startSlow
  (try dsimp only)
  repeat' first | with_reducible assumption | (with_reducible first | apply State.modTherm_touch | apply State.modBist_touch) | split | exact (rfl : Nat.land _ _ = _) | exact sub_trans rfl hm | intro _ | dsimp only | assumption

end Sys2Proof.Machine
end

