-- ==== Sys2Proof/Laws/TouchCellRows.lean ====
section
/-!
SUPPORT. Which parts of the state the operations of Machine/CellRows.lean may change.
-/

namespace Sys2Proof.Machine

-- One theorem at a time, which bounds the memory of the whole package's compile.
set_option Elab.async false

theorem State.countSeg_touch {μ : Nat} {s₀ s : State} (h : TouchM μ s₀ s) (g : Seg) (slot : Nat)
    (hm : Nat.land 1536 μ = 1536 := by first | (apply sub_trans; rotate_left; (with_reducible assumption); rfl) | rfl) : TouchM μ s₀ (State.countSeg s g slot) := by
  unfold State.countSeg
  (try dsimp only)
  repeat' first | with_reducible assumption | (with_reducible first | apply State.modPlay_touch | apply State.segReport_touch) | split | exact (rfl : Nat.land _ _ = _) | exact sub_trans rfl hm | intro _ | dsimp only | assumption

theorem State.countMod_touch {μ : Nat} {s₀ s : State} (h : TouchM μ s₀ s) (slot : Nat)
    (hm : Nat.land 1049600 μ = 1049600 := by first | (apply sub_trans; rotate_left; (with_reducible assumption); rfl) | rfl) : TouchM μ s₀ (State.countMod s slot) := by
  unfold State.countMod
  (try dsimp only)
  repeat' first | with_reducible assumption | (with_reducible first | apply State.modPlay_touch | apply State.raise_touch) | split | exact (rfl : Nat.land _ _ = _) | exact sub_trans rfl hm | intro _ | dsimp only | assumption

theorem execScheduledEdge_touch (s : State) (k : Cell) : TouchOut 1808 s (execScheduledEdge k s) := by
  have h := TouchM.refl 1808 s
  unfold execScheduledEdge
  (try dsimp only)
  repeat' first | with_reducible assumption | (with_reducible first | apply State.done_touch | apply State.modCell_touch | apply State.reviewHolds_touch | apply State.modSeg_touch | apply State.commutate_touch | apply State.countSeg_touch) | split | exact (rfl : Nat.land _ _ = _) | exact sub_trans rfl hm | intro _ | dsimp only | assumption

theorem execCommutationStep_touch (s : State) (k : Cell) : TouchOut 528 s (execCommutationStep k s) := by
  have h := TouchM.refl 528 s
  unfold execCommutationStep
  (try dsimp only)
  repeat' first | with_reducible assumption | (with_reducible first | apply State.done_touch | apply State.modCell_touch | apply State.gateFailure_touch) | split | exact (rfl : Nat.land _ _ = _) | exact sub_trans rfl hm | intro _ | dsimp only | assumption

theorem State.completeTransition_touch {μ : Nat} {s₀ s : State} (h : TouchM μ s₀ s) (k : Cell) (t : Transition)
    (hm : Nat.land 35206832 μ = 35206832 := by first | (apply sub_trans; rotate_left; (with_reducible assumption); rfl) | rfl) : TouchM μ s₀ (State.completeTransition s k t) := by
  unfold State.completeTransition
  (try dsimp only)
  repeat' first | with_reducible assumption | (with_reducible first | apply State.modCell_touch | apply State.modMeas_touch | apply State.sendUp_touch | apply State.disturbNear_touch | apply State.kvalClear_touch | apply State.afterTransition_touch | apply State.countSeg_touch | apply each_touch) | split | exact (rfl : Nat.land _ _ = _) | exact sub_trans rfl hm | intro _ | dsimp only | assumption

theorem execStepConfirmed_touch (s : State) (k : Cell) : TouchOut 35206832 s (execStepConfirmed k s) := by
  have h := TouchM.refl 35206832 s
  unfold execStepConfirmed
  (try dsimp only)
  repeat' first | with_reducible assumption | (with_reducible first | apply State.done_touch | apply State.completeTransition_touch | apply State.modCell_touch) | split | exact (rfl : Nat.land _ _ = _) | exact sub_trans rfl hm | intro _ | dsimp only | assumption

theorem execStepUnconfirmed_touch (s : State) (k : Cell) : TouchOut 528 s (execStepUnconfirmed k s) := by
  have h := TouchM.refl 528 s
  unfold execStepUnconfirmed
  (try dsimp only)
  repeat' first | with_reducible assumption | (with_reducible first | apply State.done_touch | apply State.gateFailure_touch) | split | exact (rfl : Nat.land _ _ = _) | exact sub_trans rfl hm | intro _ | dsimp only | assumption

theorem execNoPath_touch (s : State) (k : Cell) : TouchOut 528 s (execNoPath k s) := by
  have h := TouchM.refl 528 s
  unfold execNoPath
  (try dsimp only)
  repeat' first | with_reducible assumption | (with_reducible first | apply State.done_touch | apply State.modCell_touch | apply State.segReport_touch) | split | exact (rfl : Nat.land _ _ = _) | exact sub_trans rfl hm | intro _ | dsimp only | assumption

theorem execOvTrip_touch (s : State) (k : Cell) (v : Int) : TouchOut 4656 s (execOvTrip k v s) := by
  have h := TouchM.refl 4656 s
  unfold execOvTrip
  (try dsimp only)
  repeat' first | with_reducible assumption | (with_reducible first | apply State.park_touch | apply State.segReport_touch | apply State.done_touch) | split | exact (rfl : Nat.land _ _ = _) | exact sub_trans rfl hm | intro _ | dsimp only | assumption

theorem execUvTrip_touch (s : State) (k : Cell) (v : Int) : TouchOut 4656 s (execUvTrip k v s) := by
  have h := TouchM.refl 4656 s
  unfold execUvTrip
  (try dsimp only)
  repeat' first | with_reducible assumption | (with_reducible first | apply State.park_touch | apply State.segReport_touch | apply State.done_touch) | split | exact (rfl : Nat.land _ _ = _) | exact sub_trans rfl hm | intro _ | dsimp only | assumption

theorem execClampDetect_touch (s : State) (k : Cell) : TouchOut 4656 s (execClampDetect k s) := by
  have h := TouchM.refl 4656 s
  unfold execClampDetect
  (try dsimp only)
  repeat' first | with_reducible assumption | (with_reducible first | apply State.park_touch | apply State.segReport_touch | apply State.done_touch) | split | exact (rfl : Nat.land _ _ = _) | exact sub_trans rfl hm | intro _ | dsimp only | assumption

theorem execKeeperTrip_touch (s : State) (g : Seg) (supplyFailed : Bool) : TouchOut 272 s (execKeeperTrip g supplyFailed s) := by
  have h := TouchM.refl 272 s
  unfold execKeeperTrip
  (try dsimp only)
  repeat' first | with_reducible assumption | (with_reducible first | apply State.keeperTrips_touch | apply State.modSeg_touch | apply State.done_touch) | split | exact (rfl : Nat.land _ _ = _) | exact sub_trans rfl hm | intro _ | dsimp only | assumption

theorem execKeeperHoldExpiry_touch (s : State) (g : Seg) : TouchOut 272 s (execKeeperHoldExpiry g s) := by
  have h := TouchM.refl 272 s
  unfold execKeeperHoldExpiry
  (try dsimp only)
  repeat' first | with_reducible assumption | (with_reducible first | apply State.done_touch | apply State.modSeg_touch | apply State.modCell_touch | apply each_touch) | split | exact (rfl : Nat.land _ _ = _) | exact sub_trans rfl hm | intro _ | dsimp only | assumption

theorem State.releaseKeeper_touch {μ : Nat} {s₀ s : State} (h : TouchM μ s₀ s) (g : Seg)
    (hm : Nat.land 272 μ = 272 := by first | (apply sub_trans; rotate_left; (with_reducible assumption); rfl) | rfl) : TouchM μ s₀ (State.releaseKeeper s g) := by
  unfold State.releaseKeeper
  (try dsimp only)
  repeat' first | with_reducible assumption | (with_reducible first | apply State.modSeg_touch | apply State.modCell_touch | apply each_touch) | split | exact (rfl : Nat.land _ _ = _) | exact sub_trans rfl hm | intro _ | dsimp only | assumption

theorem State.openCell_touch {μ : Nat} {s₀ s : State} (h : TouchM μ s₀ s) (k : Cell)
    (hm : Nat.land 4144 μ = 4144 := by first | (apply sub_trans; rotate_left; (with_reducible assumption); rfl) | rfl) : TouchM μ s₀ (State.openCell s k) := by
  unfold State.openCell
  (try dsimp only)
  repeat' first | with_reducible assumption | (with_reducible first | apply State.modCell_touch | apply State.disturbOpen_touch) | split | exact (rfl : Nat.land _ _ = _) | exact sub_trans rfl hm | intro _ | dsimp only | assumption

theorem State.closeCell_touch {μ : Nat} {s₀ s : State} (h : TouchM μ s₀ s) (k : Cell)
    (hm : Nat.land 4144 μ = 4144 := by first | (apply sub_trans; rotate_left; (with_reducible assumption); rfl) | rfl) : TouchM μ s₀ (State.closeCell s k) := by
  unfold State.closeCell
  (try dsimp only)
  repeat' first | with_reducible assumption | (with_reducible first | apply State.leaveOpen_touch) | split | exact (rfl : Nat.land _ _ = _) | exact sub_trans rfl hm | intro _ | dsimp only | assumption

theorem State.wroteCellCfg_touch {μ : Nat} {s₀ s : State} (h : TouchM μ s₀ s) (k : Cell) (old v mask : Word) (corner : Nat)
    (hm : Nat.land 4144 μ = 4144 := by first | (apply sub_trans; rotate_left; (with_reducible assumption); rfl) | rfl) : TouchM μ s₀ (State.wroteCellCfg s k old v mask corner) := by
  unfold State.wroteCellCfg
  (try dsimp only)
  repeat' first | with_reducible assumption | (with_reducible first | apply State.modMeas_touch | apply State.reviewHolds_touch | apply State.park_touch | apply State.openCell_touch | apply State.closeCell_touch) | split | exact (rfl : Nat.land _ _ = _) | exact sub_trans rfl hm | intro _ | dsimp only | assumption

theorem State.releaseCell_touch {μ : Nat} {s₀ s : State} (h : TouchM μ s₀ s) (k : Cell)
    (hm : Nat.land 16 μ = 16 := by first | (apply sub_trans; rotate_left; (with_reducible assumption); rfl) | rfl) : TouchM μ s₀ (State.releaseCell s k) := by
  unfold State.releaseCell
  (try dsimp only)
  repeat' first | with_reducible assumption | (with_reducible first | apply State.modCell_touch) | split | exact (rfl : Nat.land _ _ = _) | exact sub_trans rfl hm | intro _ | dsimp only | assumption

theorem State.judgeRelease_touch {μ : Nat} {s₀ s : State} (h : TouchM μ s₀ s) (cells : BitVec 256)
    (hm : Nat.land 512 μ = 512 := by first | (apply sub_trans; rotate_left; (with_reducible assumption); rfl) | rfl) : TouchM μ s₀ (State.judgeRelease s cells).2 := by
  unfold State.judgeRelease
  (try dsimp only)
  repeat' first | with_reducible assumption | (with_reducible first | apply State.sendDown_touch | apply each_touch) | split | exact (rfl : Nat.land _ _ = _) | exact sub_trans rfl hm | intro _ | dsimp only | assumption

theorem State.judgeRelease_touchEq {μ : Nat} {s₀ s u₁ : State} {a₁} {cells : BitVec 256}
    (e : State.judgeRelease s cells = (a₁, u₁)) (h : TouchM μ s₀ s) (hm : Nat.land 512 μ = 512 := by first | (apply sub_trans; rotate_left; (with_reducible assumption); rfl) | rfl) : TouchM μ s₀ u₁ := by
  have k := State.judgeRelease_touch h cells hm
  rw [e] at k
  exact k

end Sys2Proof.Machine
end

