-- ==== Sys2Proof/Laws/TouchPlayer.lean ====
section
/-!
SUPPORT. Which parts of the state the operations of Machine/Player.lean may change.
-/

namespace Sys2Proof.Machine

-- One theorem at a time, which bounds the memory of the whole package's compile.
set_option Elab.async false

theorem State.sendTarget_touch {μ : Nat} {s₀ s : State} (h : TouchM μ s₀ s) (target : Int) (zero : Bool)
    (hm : Nat.land 3072 μ = 3072 := by first | (apply sub_trans; rotate_left; (with_reducible assumption); rfl) | rfl) : TouchM μ s₀ (State.sendTarget s target zero) := by
  unfold State.sendTarget
  (try dsimp only)
  repeat' first | with_reducible assumption | (with_reducible first | apply State.modSpc_touch | apply State.modPlay_touch) | split | exact (rfl : Nat.land _ _ = _) | exact sub_trans rfl hm | intro _ | dsimp only | assumption

theorem State.feedPlans_touch {μ : Nat} {s₀ s : State} (h : TouchM μ s₀ s)
    (hm : Nat.land 2048 μ = 2048 := by first | (apply sub_trans; rotate_left; (with_reducible assumption); rfl) | rfl) : TouchM μ s₀ (State.feedPlans s) := by
  unfold State.feedPlans
  (try dsimp only)
  repeat' first | with_reducible assumption | (with_reducible first | apply State.modSpc_touch) | split | exact (rfl : Nat.land _ _ = _) | exact sub_trans rfl hm | intro _ | dsimp only | assumption

theorem State.planAll_touch {μ : Nat} {s₀ s : State} (h : TouchM μ s₀ s) (entry exit_ : Bool)
    (hm : Nat.land 2064 μ = 2064 := by first | (apply sub_trans; rotate_left; (with_reducible assumption); rfl) | rfl) : TouchM μ s₀ (State.planAll s entry exit_) := by
  unfold State.planAll
  (try dsimp only)
  repeat' first | with_reducible assumption | (with_reducible first | apply State.putCells_touch | apply State.feedPlans_touch) | split | exact (rfl : Nat.land _ _ = _) | exact sub_trans rfl hm | intro _ | dsimp only | assumption

theorem State.beginStep_touch {μ : Nat} {s₀ s : State} (h : TouchM μ s₀ s) (i : Nat)
    (hm : Nat.land 11408 μ = 11408 := by first | (apply sub_trans; rotate_left; (with_reducible assumption); rfl) | rfl) : TouchM μ s₀ (State.beginStep s i) := by
  unfold State.beginStep
  (try dsimp only)
  repeat' first | with_reducible assumption | (with_reducible first | apply State.clearStep_touch | apply State.modPlay_touch | apply State.setHold_touch | apply State.beginHold_touch | apply State.sendTarget_touch | apply each_touch) | split | exact (rfl : Nat.land _ _ = _) | exact sub_trans rfl hm | intro _ | dsimp only | assumption

theorem execRunStart_touch (s : State) : TouchOut 11408 s (execRunStart s) := by
  have h := TouchM.refl 11408 s
  unfold execRunStart
  (try dsimp only)
  repeat' first | with_reducible assumption | (with_reducible first | apply State.modPlay_touch | apply State.beginStep_touch | apply State.done_touch) | split | exact (rfl : Nat.land _ _ = _) | exact sub_trans rfl hm | intro _ | dsimp only | assumption

theorem State.entryCycle_touch {μ : Nat} {s₀ s : State} (h : TouchM μ s₀ s)
    (hm : Nat.land 11408 μ = 11408 := by first | (apply sub_trans; rotate_left; (with_reducible assumption); rfl) | rfl) : TouchM μ s₀ (State.entryCycle s) := by
  unfold State.entryCycle
  (try dsimp only)
  repeat' first | with_reducible assumption | (with_reducible first | apply State.putCells_touch | apply State.modPlay_touch | apply State.modRes_touch | apply State.setAna_touch | apply State.planAll_touch) | split | exact (rfl : Nat.land _ _ = _) | exact sub_trans rfl hm | intro _ | dsimp only | assumption

theorem State.setDerated_touch {μ : Nat} {s₀ s : State} (h : TouchM μ s₀ s)
    (hm : Nat.land 1049600 μ = 1049600 := by first | (apply sub_trans; rotate_left; (with_reducible assumption); rfl) | rfl) : TouchM μ s₀ (State.setDerated s) := by
  unfold State.setDerated
  (try dsimp only)
  repeat' first | with_reducible assumption | (with_reducible first | apply State.modPlay_touch | apply State.raise_touch) | split | exact (rfl : Nat.land _ _ = _) | exact sub_trans rfl hm | intro _ | dsimp only | assumption

theorem State.clearDerated_touch {μ : Nat} {s₀ s : State} (h : TouchM μ s₀ s)
    (hm : Nat.land 1024 μ = 1024 := by first | (apply sub_trans; rotate_left; (with_reducible assumption); rfl) | rfl) : TouchM μ s₀ (State.clearDerated s) := by
  unfold State.clearDerated
  (try dsimp only)
  repeat' first | with_reducible assumption | (with_reducible first | apply State.modPlay_touch) | split | exact (rfl : Nat.land _ _ = _) | exact sub_trans rfl hm | intro _ | dsimp only | assumption

theorem State.countTime_touch {μ : Nat} {s₀ s : State} (h : TouchM μ s₀ s)
    (hm : Nat.land 1024 μ = 1024 := by first | (apply sub_trans; rotate_left; (with_reducible assumption); rfl) | rfl) : TouchM μ s₀ (State.countTime s) := by
  unfold State.countTime
  (try dsimp only)
  repeat' first | with_reducible assumption | (with_reducible first | apply State.modPlay_touch) | split | exact (rfl : Nat.land _ _ = _) | exact sub_trans rfl hm | intro _ | dsimp only | assumption

theorem State.evaluateDone_touch {μ : Nat} {s₀ s : State} (h : TouchM μ s₀ s) (m z : Nat) (walking : Bool) (k : Cell)
    (hm : Nat.land 34152576 μ = 34152576 := by first | (apply sub_trans; rotate_left; (with_reducible assumption); rfl) | rfl) : TouchM μ s₀ (State.evaluateDone s m z walking k) := by
  unfold State.evaluateDone
  (try dsimp only)
  repeat' first | with_reducible assumption | (with_reducible first | apply State.modAna_touch | apply State.taperRecord_touch) | split | exact (rfl : Nat.land _ _ = _) | exact sub_trans rfl hm | intro _ | dsimp only | assumption

theorem State.evaluateAll_touch {μ : Nat} {s₀ s : State} (h : TouchM μ s₀ s) (m z : Nat) (l : List (Cell × Bool))
    (hm : Nat.land 34152576 μ = 34152576 := by first | (apply sub_trans; rotate_left; (with_reducible assumption); rfl) | rfl) : TouchM μ s₀ (State.evaluateAll s m z l) := by
  unfold State.evaluateAll
  (try dsimp only)
  repeat' first | with_reducible assumption | (with_reducible first | apply State.evaluateDone_touch | apply each_touch) | split | exact (rfl : Nat.land _ _ = _) | exact sub_trans rfl hm | intro _ | dsimp only | assumption

theorem State.takeDone_touch {μ : Nat} {s₀ s : State} (h : TouchM μ s₀ s) (m : Nat) (k : Cell)
    (hm : Nat.land 144 μ = 144 := by first | (apply sub_trans; rotate_left; (with_reducible assumption); rfl) | rfl) : TouchM μ s₀ (State.takeDone s m k) := by
  unfold State.takeDone
  (try dsimp only)
  repeat' first | with_reducible assumption | (with_reducible first | apply State.modAna_touch | apply State.beginHold_touch) | split | exact (rfl : Nat.land _ _ = _) | exact sub_trans rfl hm | intro _ | dsimp only | assumption

theorem State.startWalk_touch {μ : Nat} {s₀ s : State} (h : TouchM μ s₀ s) (k : Cell) (freq base : Nat)
    (hm : Nat.land 144 μ = 144 := by first | (apply sub_trans; rotate_left; (with_reducible assumption); rfl) | rfl) : TouchM μ s₀ (State.startWalk s k freq base) := by
  unfold State.startWalk
  (try dsimp only)
  repeat' first | with_reducible assumption | (with_reducible first | apply State.modCell_touch | apply State.modAna_touch) | split | exact (rfl : Nat.land _ _ = _) | exact sub_trans rfl hm | intro _ | dsimp only | assumption

theorem State.advanceWalk_touch {μ : Nat} {s₀ s : State} (h : TouchM μ s₀ s) (more : Bool) (k : Cell)
    (hm : Nat.land 34152592 μ = 34152592 := by first | (apply sub_trans; rotate_left; (with_reducible assumption); rfl) | rfl) : TouchM μ s₀ (State.advanceWalk s more k) := by
  unfold State.advanceWalk
  (try dsimp only)
  repeat' first | with_reducible assumption | (with_reducible first | apply State.modCell_touch | apply State.modAna_touch | apply State.sweepRecord_touch | apply State.startWalk_touch) | split | exact (rfl : Nat.land _ _ = _) | exact sub_trans rfl hm | intro _ | dsimp only | assumption

theorem execSweepStart_touch (s : State) : TouchOut 34152592 s (execSweepStart s) := by
  have h := TouchM.refl 34152592 s
  unfold execSweepStart
  (try dsimp only)
  repeat' first | with_reducible assumption | (with_reducible first | apply State.done_touch | apply State.modRes_touch | apply State.sweepRecord_touch | apply State.startWalk_touch | apply State.putCells_touch | apply State.endSweep_touch | apply each_touch) | split | exact (rfl : Nat.land _ _ = _) | exact sub_trans rfl hm | intro _ | dsimp only | assumption

theorem State.idleCells_touch {μ : Nat} {s₀ s : State} (h : TouchM μ s₀ s)
    (hm : Nat.land 16 μ = 16 := by first | (apply sub_trans; rotate_left; (with_reducible assumption); rfl) | rfl) : TouchM μ s₀ (State.idleCells s) := by
  unfold State.idleCells
  (try dsimp only)
  repeat' first | with_reducible assumption | (with_reducible first | apply State.modCell_touch | apply State.beginHold_touch | apply each_touch) | split | exact (rfl : Nat.land _ _ = _) | exact sub_trans rfl hm | intro _ | dsimp only | assumption

theorem State.answerStop_touch {μ : Nat} {s₀ s : State} (h : TouchM μ s₀ s)
    (hm : Nat.land 50921472 μ = 50921472 := by first | (apply sub_trans; rotate_left; (with_reducible assumption); rfl) | rfl) : TouchM μ s₀ (State.answerStop s) := by
  unfold State.answerStop
  (try dsimp only)
  repeat' first | with_reducible assumption | (with_reducible first | apply State.setStop_touch | apply State.replyLate_touch) | split | exact (rfl : Nat.land _ _ = _) | exact sub_trans rfl hm | intro _ | dsimp only | assumption

theorem State.finishRun_touch {μ : Nat} {s₀ s : State} (h : TouchM μ s₀ s)
    (hm : Nat.land 54083506 μ = 54083506 := by first | (apply sub_trans; rotate_left; (with_reducible assumption); rfl) | rfl) : TouchM μ s₀ (State.finishRun s) := by
  unfold State.finishRun
  (try dsimp only)
  repeat' first | with_reducible assumption | (with_reducible first | apply State.endStep_touch | apply State.clearStep_touch | apply State.enter_touch | apply State.modPlay_touch | apply State.idleCells_touch | apply State.askRestart_touch | apply State.abortSlice_touch | apply State.dropSweep_touch | apply State.reviewAll_touch | apply State.answerStop_touch) | split | exact (rfl : Nat.land _ _ = _) | exact sub_trans rfl hm | intro _ | dsimp only | assumption

theorem State.tryFinish_touch {μ : Nat} {s₀ s : State} (h : TouchM μ s₀ s)
    (hm : Nat.land 54083506 μ = 54083506 := by first | (apply sub_trans; rotate_left; (with_reducible assumption); rfl) | rfl) : TouchM μ s₀ (State.tryFinish s) := by
  unfold State.tryFinish
  (try dsimp only)
  repeat' first | with_reducible assumption | (with_reducible first | apply State.finishRun_touch) | split | exact (rfl : Nat.land _ _ = _) | exact sub_trans rfl hm | intro _ | dsimp only | assumption

theorem State.beginStopping_touch {μ : Nat} {s₀ s : State} (h : TouchM μ s₀ s) (code : Nat) (inExit : Bool)
    (hm : Nat.land 34155664 μ = 34155664 := by first | (apply sub_trans; rotate_left; (with_reducible assumption); rfl) | rfl) : TouchM μ s₀ (State.beginStopping s code inExit) := by
  unfold State.beginStopping
  (try dsimp only)
  repeat' first | with_reducible assumption | (with_reducible first | apply State.cutSweep_touch | apply State.endSweep_touch | apply State.modPlay_touch | apply State.sendTarget_touch | apply each_touch) | split | exact (rfl : Nat.land _ _ = _) | exact sub_trans rfl hm | intro _ | dsimp only | assumption

theorem State.stopRun_touch {μ : Nat} {s₀ s : State} (h : TouchM μ s₀ s) (o : Origin)
    (hm : Nat.land 54083506 μ = 54083506 := by first | (apply sub_trans; rotate_left; (with_reducible assumption); rfl) | rfl) : TouchM μ s₀ (State.stopRun s o).1 := by
  unfold State.stopRun
  (try dsimp only)
  repeat' first | with_reducible assumption | (with_reducible first | apply State.finishRun_touch | apply State.setStop_touch | apply State.beginStopping_touch) | split | exact (rfl : Nat.land _ _ = _) | exact sub_trans rfl hm | intro _ | dsimp only | assumption

theorem State.stopRun_touchEq {μ : Nat} {s₀ s u₁ : State} {a₁} {o : Origin}
    (e : State.stopRun s o = (u₁, a₁)) (h : TouchM μ s₀ s) (hm : Nat.land 54083506 μ = 54083506 := by first | (apply sub_trans; rotate_left; (with_reducible assumption); rfl) | rfl) : TouchM μ s₀ u₁ := by
  have k := State.stopRun_touch h o hm
  rw [e] at k
  exact k

theorem State.closeStep_touch {μ : Nat} {s₀ s : State} (h : TouchM μ s₀ s)
    (hm : Nat.land 35202192 μ = 35202192 := by first | (apply sub_trans; rotate_left; (with_reducible assumption); rfl) | rfl) : TouchM μ s₀ (State.closeStep s) := by
  unfold State.closeStep
  (try dsimp only)
  repeat' first | with_reducible assumption | (with_reducible first | apply State.endStep_touch | apply State.clearStep_touch) | split | exact (rfl : Nat.land _ _ = _) | exact sub_trans rfl hm | intro _ | dsimp only | assumption

theorem State.playBoundary_touch {μ : Nat} {s₀ s : State} (h : TouchM μ s₀ s) (m : Nat)
    (hm : Nat.land 34155664 μ = 34155664 := by first | (apply sub_trans; rotate_left; (with_reducible assumption); rfl) | rfl) : TouchM μ s₀ (State.playBoundary s m) := by
  unfold State.playBoundary
  (try dsimp only)
  repeat' first | with_reducible assumption | (with_reducible first | apply State.countTime_touch | apply State.takeDone_touch | apply State.modPlay_touch | apply State.advanceWalk_touch | apply State.endSweep_touch | apply State.evaluateAll_touch | apply State.putCells_touch | apply State.sendTarget_touch | apply State.planAll_touch | apply State.cutSweep_touch | apply State.beginStopping_touch | apply each_touch) | split | exact (rfl : Nat.land _ _ = _) | exact sub_trans rfl hm | intro _ | dsimp only | assumption

theorem execCycleBoundary_touch (s : State) : TouchOut 54083506 s (execCycleBoundary s) := by
  have h := TouchM.refl 54083506 s
  unfold execCycleBoundary
  (try dsimp only)
  repeat' first | with_reducible assumption | (with_reducible first | apply State.done_touch | apply State.modPlay_touch | apply State.playBoundary_touch | apply State.entryCycle_touch | apply State.closeStep_touch | apply State.beginStep_touch | apply State.tryFinish_touch | apply State.planAll_touch) | split | exact (rfl : Nat.land _ _ = _) | exact sub_trans rfl hm | intro _ | dsimp only | assumption

theorem State.moveCell_touch {μ : Nat} {s₀ s : State} (h : TouchM μ s₀ s) (k : Cell)
    (hm : Nat.land 16 μ = 16 := by first | (apply sub_trans; rotate_left; (with_reducible assumption); rfl) | rfl) : TouchM μ s₀ (State.moveCell s k) := by
  unfold State.moveCell
  (try dsimp only)
  repeat' first | with_reducible assumption | (with_reducible first | apply State.modCell_touch) | split | exact (rfl : Nat.land _ _ = _) | exact sub_trans rfl hm | intro _ | dsimp only | assumption

theorem execRungMove_touch (s : State) (g : Seg) : TouchOut 16 s (execRungMove g s) := by
  have h := TouchM.refl 16 s
  unfold execRungMove
  (try dsimp only)
  repeat' first | with_reducible assumption | (with_reducible first | apply State.moveCell_touch | apply State.done_touch | apply each_touch) | split | exact (rfl : Nat.land _ _ = _) | exact sub_trans rfl hm | intro _ | dsimp only | assumption

theorem State.takeAnswer_touch {μ : Nat} {s₀ s : State} (h : TouchM μ s₀ s) (a : Answer)
    (hm : Nat.land 1049600 μ = 1049600 := by first | (apply sub_trans; rotate_left; (with_reducible assumption); rfl) | rfl) : TouchM μ s₀ (State.takeAnswer s a) := by
  unfold State.takeAnswer
  (try dsimp only)
  repeat' first | with_reducible assumption | (with_reducible first | apply State.modPlay_touch | apply State.clearDerated_touch | apply State.setDerated_touch | apply State.raise_touch) | split | exact (rfl : Nat.land _ _ = _) | exact sub_trans rfl hm | intro _ | dsimp only | assumption

theorem State.noteAnswer_touch {μ : Nat} {s₀ s : State} (h : TouchM μ s₀ s) (a : Answer)
    (hm : Nat.land 1049600 μ = 1049600 := by first | (apply sub_trans; rotate_left; (with_reducible assumption); rfl) | rfl) : TouchM μ s₀ (State.noteAnswer s a) := by
  unfold State.noteAnswer
  (try dsimp only)
  repeat' first | with_reducible assumption | (with_reducible first | apply State.modPlay_touch | apply State.clearDerated_touch | apply State.setDerated_touch) | split | exact (rfl : Nat.land _ _ = _) | exact sub_trans rfl hm | intro _ | dsimp only | assumption

theorem execFrameAnswer_touch (s : State) : TouchOut 54083506 s (execFrameAnswer s) := by
  have h := TouchM.refl 54083506 s
  unfold execFrameAnswer
  (try dsimp only)
  repeat' first | with_reducible assumption | (with_reducible first | apply State.done_touch | apply State.modSpc_touch | apply State.noteAnswer_touch | apply State.takeAnswer_touch | apply State.beginStep_touch | apply State.tryFinish_touch) | split | exact (rfl : Nat.land _ _ = _) | exact sub_trans rfl hm | intro _ | dsimp only | assumption

theorem execFrameDeadline_touch (s : State) : TouchOut 1048576 s (execFrameDeadline s) := by
  have h := TouchM.refl 1048576 s
  unfold execFrameDeadline
  (try dsimp only)
  repeat' first | with_reducible assumption | (with_reducible first | apply State.raise_touch | apply State.done_touch) | split | exact (rfl : Nat.land _ _ = _) | exact sub_trans rfl hm | intro _ | dsimp only | assumption

theorem State.runCmd_touch {μ : Nat} {s₀ s : State} (h : TouchM μ s₀ s) (t : Nat)
    (hm : Nat.land 37330482 μ = 37330482 := by first | (apply sub_trans; rotate_left; (with_reducible assumption); rfl) | rfl) : TouchM μ s₀ (State.runCmd s t).2 := by
  unfold State.runCmd
  (try dsimp only)
  repeat' first | with_reducible assumption | (with_reducible first | apply State.enter_touch | apply State.powerActive_touch | apply State.modPlay_touch | apply State.askRestart_touch | apply State.abortSlice_touch | apply State.modShunts_touch | apply State.putCells_touch | apply State.reviewAll_touch) | split | exact (rfl : Nat.land _ _ = _) | exact sub_trans rfl hm | intro _ | dsimp only | assumption

theorem State.runCmd_touchEq {μ : Nat} {s₀ s u₁ : State} {a₁} {t : Nat}
    (e : State.runCmd s t = (a₁, u₁)) (h : TouchM μ s₀ s) (hm : Nat.land 37330482 μ = 37330482 := by first | (apply sub_trans; rotate_left; (with_reducible assumption); rfl) | rfl) : TouchM μ s₀ u₁ := by
  have k := State.runCmd_touch h t hm
  rw [e] at k
  exact k

theorem State.swapBanks_touch {μ : Nat} {s₀ s : State} (h : TouchM μ s₀ s)
    (hm : Nat.land 1296 μ = 1296 := by first | (apply sub_trans; rotate_left; (with_reducible assumption); rfl) | rfl) : TouchM μ s₀ (State.swapBanks s) := by
  unfold State.swapBanks
  (try dsimp only)
  repeat' first | with_reducible assumption | (with_reducible first | apply State.setSegs_touch | apply State.modPlay_touch | apply State.reviewAll_touch) | split | exact (rfl : Nat.land _ _ = _) | exact sub_trans rfl hm | intro _ | dsimp only | assumption

theorem State.directSwap_touch {μ : Nat} {s₀ s : State} (h : TouchM μ s₀ s) (hm : Nat.land 1024 μ = 1024 := by first | (apply sub_trans; rotate_left; (with_reducible assumption); rfl) | rfl) :
    TouchM μ s₀ (s.directSwap.getD s) := by
  unfold State.directSwap
  split
  · rw [Option.getD_some]
    exact State.modPlay_touch h _
  · exact h

theorem execSwapApplied_touch (s : State) : TouchOut 1296 s (execSwapApplied s) := by
  have h := TouchM.refl 1296 s
  unfold execSwapApplied
  (try dsimp only)
  repeat' first | with_reducible assumption | (with_reducible first | apply State.done_touch | apply State.swapBanks_touch | apply State.modPlay_touch) | split | exact (rfl : Nat.land _ _ = _) | exact sub_trans rfl hm | intro _ | dsimp only | assumption

end Sys2Proof.Machine
end

