-- ==== Sys2Proof/Laws/TouchSpcRows.lean ====
section
/-!
SUPPORT. Which parts of the state the operations of Machine/SpcRows.lean may change.
-/

namespace Sys2Proof.Machine

-- One theorem at a time, which bounds the memory of the whole package's compile.
set_option Elab.async false

theorem State.dropFrame_touch {μ : Nat} {s₀ s : State} (h : TouchM μ s₀ s)
    (hm : Nat.land 2048 μ = 2048 := by first | (apply sub_trans; rotate_left; (with_reducible assumption); rfl) | rfl) : TouchM μ s₀ (State.dropFrame s) := by
  unfold State.dropFrame
  (try dsimp only)
  repeat' first | with_reducible assumption | (with_reducible first | apply State.modSpc_touch) | split | exact (rfl : Nat.land _ _ = _) | exact sub_trans rfl hm | intro _ | dsimp only | assumption

theorem State.takeFrame_touch {μ : Nat} {s₀ s : State} (h : TouchM μ s₀ s) (f : BitVec 64) (external : Bool)
    (hm : Nat.land 34605204 μ = 34605204 := by first | (apply sub_trans; rotate_left; (with_reducible assumption); rfl) | rfl) : TouchM μ s₀ (State.takeFrame s f external) := by
  unfold State.takeFrame
  (try dsimp only)
  repeat' first | with_reducible assumption | (with_reducible first | apply State.judgeFrame_touch | apply State.signFrom_touch | apply State.inhibit_touch | apply State.raise_touch) | split | exact (rfl : Nat.land _ _ = _) | exact sub_trans rfl hm | intro _ | refine State.judgeFrame_touchEq (by assumption) ?_ | dsimp only | assumption

theorem State.stepFrame_touch {μ : Nat} {s₀ s : State} (h : TouchM μ s₀ s) (f : BitVec 64)
    (hm : Nat.land 34605204 μ = 34605204 := by first | (apply sub_trans; rotate_left; (with_reducible assumption); rfl) | rfl) : TouchM μ s₀ (State.stepFrame s f) := by
  unfold State.stepFrame
  (try dsimp only)
  repeat' first | with_reducible assumption | (with_reducible first | apply State.dropFrame_touch | apply State.stepValid_touch | apply State.takeFrame_touch) | split | exact (rfl : Nat.land _ _ = _) | exact sub_trans rfl hm | intro _ | dsimp only | assumption

theorem execSetFrame_touch (s : State) (ext : Option (BitVec 64)) : TouchOut 34605204 s (execSetFrame ext s) := by
  have h := TouchM.refl 34605204 s
  unfold execSetFrame
  (try dsimp only)
  repeat' first | with_reducible assumption | (with_reducible first | apply State.stepFrame_touch | apply State.done_touch | apply State.modSpc_touch | apply State.takeFrame_touch) | split | exact (rfl : Nat.land _ _ = _) | exact sub_trans rfl hm | intro _ | dsimp only | assumption

theorem execStepIdle_touch (s : State) (f : BitVec 64) : TouchOut 34605204 s (execStepIdle f s) := by
  have h := TouchM.refl 34605204 s
  unfold execStepIdle
  (try dsimp only)
  repeat' first | with_reducible assumption | (with_reducible first | apply State.stepFrame_touch | apply State.done_touch) | split | exact (rfl : Nat.land _ _ = _) | exact sub_trans rfl hm | intro _ | dsimp only | assumption

theorem execStepFrameDropped_touch (s : State) (f : BitVec 64) : TouchOut 34605204 s (execStepFrameDropped f s) := by
  have h := TouchM.refl 34605204 s
  unfold execStepFrameDropped
  (try dsimp only)
  repeat' first | with_reducible assumption | (with_reducible first | apply State.stepFrame_touch | apply State.done_touch) | split | exact (rfl : Nat.land _ _ = _) | exact sub_trans rfl hm | intro _ | dsimp only | assumption

theorem State.stepDown_touch {μ : Nat} {s₀ s : State} (h : TouchM μ s₀ s)
    (hm : Nat.land 34605056 μ = 34605056 := by first | (apply sub_trans; rotate_left; (with_reducible assumption); rfl) | rfl) : TouchM μ s₀ (State.stepDown s) := by
  unfold State.stepDown
  (try dsimp only)
  repeat' first | with_reducible assumption | (with_reducible first | apply State.nakPending_touch | apply State.raise_touch) | split | exact (rfl : Nat.land _ _ = _) | exact sub_trans rfl hm | intro _ | dsimp only | assumption

theorem execStepLinkLost_touch (s : State) : TouchOut 34605056 s (execStepLinkLost s) := by
  have h := TouchM.refl 34605056 s
  unfold execStepLinkLost
  (try dsimp only)
  repeat' first | with_reducible assumption | (with_reducible first | apply State.modSpc_touch | apply State.stepDown_touch | apply State.done_touch) | split | exact (rfl : Nat.land _ _ = _) | exact sub_trans rfl hm | intro _ | dsimp only | assumption

theorem State.checkNoPhase_touch {μ : Nat} {s₀ s : State} (h : TouchM μ s₀ s)
    (hm : Nat.land 34605188 μ = 34605188 := by first | (apply sub_trans; rotate_left; (with_reducible assumption); rfl) | rfl) : TouchM μ s₀ (State.checkNoPhase s) := by
  unfold State.checkNoPhase
  (try dsimp only)
  repeat' first | with_reducible assumption | (with_reducible first | apply State.inhibit_touch | apply State.raise_touch) | split | exact (rfl : Nat.land _ _ = _) | exact sub_trans rfl hm | intro _ | dsimp only | assumption

theorem State.phasesChanged_touch {μ : Nat} {s₀ s : State} (h : TouchM μ s₀ s)
    (hm : Nat.land 34605188 μ = 34605188 := by first | (apply sub_trans; rotate_left; (with_reducible assumption); rfl) | rfl) : TouchM μ s₀ (State.phasesChanged s) := by
  unfold State.phasesChanged
  (try dsimp only)
  repeat' first | with_reducible assumption | (with_reducible first | apply State.releasePhase_touch | apply State.modSpc_touch | apply State.checkNoPhase_touch | apply State.capacityChanged_touch | apply State.addPhases_touch | apply State.recentre_touch | apply State.settleNoPhase_touch | apply each_touch) | split | exact (rfl : Nat.land _ _ = _) | exact sub_trans rfl hm | intro _ | dsimp only | assumption

theorem State.failPhase_touch {μ : Nat} {s₀ s : State} (h : TouchM μ s₀ s) (p : Phase) (c : PhaseCause)
    (hm : Nat.land 34605188 μ = 34605188 := by first | (apply sub_trans; rotate_left; (with_reducible assumption); rfl) | rfl) : TouchM μ s₀ (State.failPhase s p c) := by
  unfold State.failPhase
  (try dsimp only)
  repeat' first | with_reducible assumption | (with_reducible first | apply State.modPhase_touch | apply State.endToggle_touch | apply State.modSpc_touch | apply State.phasesChanged_touch | apply State.raise_touch) | split | exact (rfl : Nat.land _ _ = _) | exact sub_trans rfl hm | intro _ | dsimp only | assumption

theorem execAddTimeout_touch (s : State) (p : Phase) : TouchOut 34605188 s (execAddTimeout p s) := by
  have h := TouchM.refl 34605188 s
  unfold execAddTimeout
  (try dsimp only)
  repeat' first | with_reducible assumption | (with_reducible first | apply State.failPhase_touch | apply State.done_touch) | split | exact (rfl : Nat.land _ _ = _) | exact sub_trans rfl hm | intro _ | dsimp only | assumption

theorem execPhaseFailed_touch (s : State) (p : Phase) (c : PhaseCause) : TouchOut 34605188 s (execPhaseFailed p c s) := by
  have h := TouchM.refl 34605188 s
  unfold execPhaseFailed
  (try dsimp only)
  repeat' first | with_reducible assumption | (with_reducible first | apply State.failPhase_touch | apply State.done_touch) | split | exact (rfl : Nat.land _ _ = _) | exact sub_trans rfl hm | intro _ | dsimp only | assumption

theorem State.clearFailed_touch {μ : Nat} {s₀ s : State} (h : TouchM μ s₀ s) (bits : Nat)
    (hm : Nat.land 34605188 μ = 34605188 := by first | (apply sub_trans; rotate_left; (with_reducible assumption); rfl) | rfl) : TouchM μ s₀ (State.clearFailed s bits) := by
  unfold State.clearFailed
  (try dsimp only)
  repeat' first | with_reducible assumption | (with_reducible first | apply State.modPhase_touch | apply State.phasesChanged_touch | apply each_touch) | split | exact (rfl : Nat.land _ _ = _) | exact sub_trans rfl hm | intro _ | dsimp only | assumption

theorem execPhaseShed_touch (s : State) : TouchOut 2048 s (execPhaseShed s) := by
  have h := TouchM.refl 2048 s
  unfold execPhaseShed
  (try dsimp only)
  repeat' first | with_reducible assumption | (with_reducible first | apply State.modPhase_touch | apply State.modSpc_touch | apply State.recentre_touch | apply State.done_touch) | split | exact (rfl : Nat.land _ _ = _) | exact sub_trans rfl hm | intro _ | dsimp only | assumption

theorem execPhasesReleased_touch (s : State) : TouchOut 2052 s (execPhasesReleased s) := by
  have h := TouchM.refl 2052 s
  unfold execPhasesReleased
  (try dsimp only)
  repeat' first | with_reducible assumption | (with_reducible first | apply State.stageOff_touch | apply State.modSpc_touch | apply State.done_touch) | split | exact (rfl : Nat.land _ _ = _) | exact sub_trans rfl hm | intro _ | dsimp only | assumption

theorem State.clampWidths_touch {μ : Nat} {s₀ s : State} (h : TouchM μ s₀ s)
    (hm : Nat.land 2048 μ = 2048 := by first | (apply sub_trans; rotate_left; (with_reducible assumption); rfl) | rfl) : TouchM μ s₀ (State.clampWidths s) := by
  unfold State.clampWidths
  (try dsimp only)
  repeat' first | with_reducible assumption | (with_reducible first | apply State.modSpc_touch) | split | exact (rfl : Nat.land _ _ = _) | exact sub_trans rfl hm | intro _ | dsimp only | assumption

theorem State.adaptWidth_touch {μ : Nat} {s₀ s : State} (h : TouchM μ s₀ s) (p : Phase) (periodNs : Nat)
    (hm : Nat.land 67110912 μ = 67110912 := by first | (apply sub_trans; rotate_left; (with_reducible assumption); rfl) | rfl) : TouchM μ s₀ (State.adaptWidth s p periodNs) := by
  unfold State.adaptWidth
  (try dsimp only)
  repeat' first | with_reducible assumption | (with_reducible first | apply State.freeBits_touch | apply State.modPhase_touch) | split | exact (rfl : Nat.land _ _ = _) | exact sub_trans rfl hm | intro _ | dsimp only | assumption

theorem State.interleave_touch {μ : Nat} {s₀ s : State} (h : TouchM μ s₀ s) (p : Phase)
    (hm : Nat.land 67110912 μ = 67110912 := by first | (apply sub_trans; rotate_left; (with_reducible assumption); rfl) | rfl) : TouchM μ s₀ (State.interleave s p) := by
  unfold State.interleave
  (try dsimp only)
  repeat' first | with_reducible assumption | (with_reducible first | apply State.freeBits_touch | apply State.modPhase_touch) | split | exact (rfl : Nat.land _ _ = _) | exact sub_trans rfl hm | intro _ | dsimp only | assumption

theorem execPhaseSwitch_touch (s : State) (p : Phase) (code : Nat) : TouchOut 67110912 s (execPhaseSwitch p code s) := by
  have h := TouchM.refl 67110912 s
  unfold execPhaseSwitch
  (try dsimp only)
  repeat' first | with_reducible assumption | (with_reducible first | apply State.done_touch | apply State.modPhase_touch | apply State.adaptWidth_touch | apply State.interleave_touch) | split | exact (rfl : Nat.land _ _ = _) | exact sub_trans rfl hm | intro _ | dsimp only | assumption

theorem execWindowRescale_touch (s : State) : TouchOut 2048 s (execWindowRescale s) := by
  have h := TouchM.refl 2048 s
  unfold execWindowRescale
  (try dsimp only)
  repeat' first | with_reducible assumption | (with_reducible first | apply State.modPhase_touch | apply State.modSpc_touch | apply State.done_touch | apply each_touch) | split | exact (rfl : Nat.land _ _ = _) | exact sub_trans rfl hm | intro _ | dsimp only | assumption

theorem State.watchV_touch {μ : Nat} {s₀ s : State} (h : TouchM μ s₀ s)
    (hm : Nat.land 2048 μ = 2048 := by first | (apply sub_trans; rotate_left; (with_reducible assumption); rfl) | rfl) : TouchM μ s₀ (State.watchV s) := by
  unfold State.watchV
  (try dsimp only)
  repeat' first | with_reducible assumption | (with_reducible first | apply State.modSpc_touch | apply State.endInhibit_touch) | split | exact (rfl : Nat.land _ _ = _) | exact sub_trans rfl hm | intro _ | dsimp only | assumption

theorem execVstring_touch (s : State) : TouchOut 34605188 s (execVstring s) := by
  have h := TouchM.refl 34605188 s
  unfold execVstring
  (try dsimp only)
  repeat' first | with_reducible assumption | (with_reducible first | apply State.inhibit_touch | apply State.raise_touch | apply State.done_touch) | split | exact (rfl : Nat.land _ _ = _) | exact sub_trans rfl hm | intro _ | dsimp only | assumption

theorem State.takeCodes_touch {μ : Nat} {s₀ s : State} (h : TouchM μ s₀ s) (codes : List (List Nat))
    (hm : Nat.land 2048 μ = 2048 := by first | (apply sub_trans; rotate_left; (with_reducible assumption); rfl) | rfl) : TouchM μ s₀ (State.takeCodes s codes) := by
  unfold State.takeCodes
  (try dsimp only)
  repeat' first | with_reducible assumption | (with_reducible first | apply State.modSpc_touch) | split | exact (rfl : Nat.land _ _ = _) | exact sub_trans rfl hm | intro _ | dsimp only | assumption

theorem State.settleHand_touch {μ : Nat} {s₀ s : State} (h : TouchM μ s₀ s)
    (hm : Nat.land 2048 μ = 2048 := by first | (apply sub_trans; rotate_left; (with_reducible assumption); rfl) | rfl) : TouchM μ s₀ (State.settleHand s) := by
  unfold State.settleHand
  (try dsimp only)
  repeat' first | with_reducible assumption | (with_reducible first | apply State.modPhase_touch | apply State.releasePhase_touch | apply State.modSpc_touch | apply each_touch) | split | exact (rfl : Nat.land _ _ = _) | exact sub_trans rfl hm | intro _ | dsimp only | assumption

theorem State.toggleStep_touch {μ : Nat} {s₀ s : State} (h : TouchM μ s₀ s)
    (hm : Nat.land 2048 μ = 2048 := by first | (apply sub_trans; rotate_left; (with_reducible assumption); rfl) | rfl) : TouchM μ s₀ (State.toggleStep s) := by
  unfold State.toggleStep
  (try dsimp only)
  repeat' first | with_reducible assumption | (with_reducible first | apply State.modPhase_touch | apply State.modSpc_touch) | split | exact (rfl : Nat.land _ _ = _) | exact sub_trans rfl hm | intro _ | dsimp only | assumption

theorem State.settleAdded_touch {μ : Nat} {s₀ s : State} (h : TouchM μ s₀ s)
    (hm : Nat.land 2048 μ = 2048 := by first | (apply sub_trans; rotate_left; (with_reducible assumption); rfl) | rfl) : TouchM μ s₀ (State.settleAdded s) := by
  unfold State.settleAdded
  (try dsimp only)
  repeat' first | with_reducible assumption | (with_reducible first | apply State.modPhase_touch | apply each_touch) | split | exact (rfl : Nat.land _ _ = _) | exact sub_trans rfl hm | intro _ | dsimp only | assumption

theorem State.rampOne_touch {μ : Nat} {s₀ s : State} (h : TouchM μ s₀ s)
    (hm : Nat.land 2048 μ = 2048 := by first | (apply sub_trans; rotate_left; (with_reducible assumption); rfl) | rfl) : TouchM μ s₀ (State.rampOne s) := by
  unfold State.rampOne
  (try dsimp only)
  repeat' first | with_reducible assumption | (with_reducible first | apply State.modSpc_touch) | split | exact (rfl : Nat.land _ _ = _) | exact sub_trans rfl hm | intro _ | dsimp only | assumption

theorem State.spcTimers_touch {μ : Nat} {s₀ s : State} (h : TouchM μ s₀ s)
    (hm : Nat.land 2048 μ = 2048 := by first | (apply sub_trans; rotate_left; (with_reducible assumption); rfl) | rfl) : TouchM μ s₀ (State.spcTimers s) := by
  unfold State.spcTimers
  (try dsimp only)
  repeat' first | with_reducible assumption | (with_reducible first | apply State.modSpc_touch) | split | exact (rfl : Nat.land _ _ = _) | exact sub_trans rfl hm | intro _ | dsimp only | assumption

theorem execRampStep_touch (s : State) (codes : List (List Nat)) : TouchOut 33556484 s (execRampStep codes s) := by
  have h := TouchM.refl 33556484 s
  unfold execRampStep
  (try dsimp only)
  repeat' first | with_reducible assumption | (with_reducible first | apply State.done_touch | apply State.modSpc_touch | apply State.takeCodes_touch | apply State.settleAdded_touch | apply State.stepOutIdle_touch | apply State.toggleStep_touch | apply State.settleHand_touch | apply State.rampOne_touch | apply State.recentre_touch | apply State.addPhase_touch | apply State.spcTimers_touch | apply State.stageOff_touch | apply State.watchV_touch | apply State.answerLast_touch | apply State.settleNoPhase_touch) | split | exact (rfl : Nat.land _ _ = _) | exact sub_trans rfl hm | intro _ | dsimp only | assumption

theorem execDwellComplete_touch (s : State) : TouchOut 33556480 s (execDwellComplete s) := by
  have h := TouchM.refl 33556480 s
  unfold execDwellComplete
  (try dsimp only)
  repeat' first | with_reducible assumption | (with_reducible first | apply State.answerLast_touch | apply State.done_touch | apply State.modSpc_touch | apply State.sendAnswer_touch) | split | exact (rfl : Nat.land _ _ = _) | exact sub_trans rfl hm | intro _ | dsimp only | assumption

theorem execDeadlineMiss_touch (s : State) : TouchOut 1050624 s (execDeadlineMiss s) := by
  have h := TouchM.refl 1050624 s
  unfold execDeadlineMiss
  (try dsimp only)
  repeat' first | with_reducible assumption | (with_reducible first | apply State.modSpc_touch | apply State.raise_touch | apply State.done_touch) | split | exact (rfl : Nat.land _ _ = _) | exact sub_trans rfl hm | intro _ | dsimp only | assumption

theorem State.unresolvedTest_touch {μ : Nat} {s₀ s : State} (h : TouchM μ s₀ s) (d : Int)
    (hm : Nat.land 1050624 μ = 1050624 := by first | (apply sub_trans; rotate_left; (with_reducible assumption); rfl) | rfl) : TouchM μ s₀ (State.unresolvedTest s d) := by
  unfold State.unresolvedTest
  (try dsimp only)
  repeat' first | with_reducible assumption | (with_reducible first | apply State.modSpc_touch | apply State.raise_touch) | split | exact (rfl : Nat.land _ _ = _) | exact sub_trans rfl hm | intro _ | dsimp only | assumption

theorem State.startToggle_touch {μ : Nat} {s₀ s : State} (h : TouchM μ s₀ s)
    (hm : Nat.land 1050624 μ = 1050624 := by first | (apply sub_trans; rotate_left; (with_reducible assumption); rfl) | rfl) : TouchM μ s₀ (State.startToggle s) := by
  unfold State.startToggle
  (try dsimp only)
  repeat' first | with_reducible assumption | (with_reducible first | apply State.modSpc_touch | apply State.addPhase_touch | apply State.unresolvedTest_touch | apply State.capacityChanged_touch) | split | exact (rfl : Nat.land _ _ = _) | exact sub_trans rfl hm | intro _ | dsimp only | assumption

theorem execToggleTest_touch (s : State) : TouchOut 1050624 s (execToggleTest s) := by
  have h := TouchM.refl 1050624 s
  unfold execToggleTest
  (try dsimp only)
  repeat' first | with_reducible assumption | (with_reducible first | apply State.startToggle_touch | apply State.done_touch) | split | exact (rfl : Nat.land _ _ = _) | exact sub_trans rfl hm | intro _ | dsimp only | assumption

theorem execToggleTestEnd_touch (s : State) : TouchOut 34605188 s (execToggleTestEnd s) := by
  have h := TouchM.refl 34605188 s
  unfold execToggleTestEnd
  (try dsimp only)
  repeat' first | with_reducible assumption | (with_reducible first | apply State.done_touch | apply State.endToggle_touch | apply State.modSpc_touch | apply State.failPhase_touch | apply State.capacityChanged_touch | apply State.unresolvedTest_touch) | split | exact (rfl : Nat.land _ _ = _) | exact sub_trans rfl hm | intro _ | dsimp only | assumption

theorem execToggleRetry_touch (s : State) : TouchOut 1050624 s (execToggleRetry s) := by
  have h := TouchM.refl 1050624 s
  unfold execToggleRetry
  (try dsimp only)
  repeat' first | with_reducible assumption | (with_reducible first | apply State.done_touch | apply State.startToggle_touch | apply State.modSpc_touch) | split | exact (rfl : Nat.land _ _ = _) | exact sub_trans rfl hm | intro _ | dsimp only | assumption

theorem execPeak_touch (s : State) (p : Phase) (code : Nat) : TouchOut 34605188 s (execPeak p code s) := by
  have h := TouchM.refl 34605188 s
  unfold execPeak
  (try dsimp only)
  repeat' first | with_reducible assumption | (with_reducible first | apply State.modPhase_touch | apply State.done_touch | apply State.inhibit_touch | apply State.raise_touch) | split | exact (rfl : Nat.land _ _ = _) | exact sub_trans rfl hm | intro _ | dsimp only | assumption

theorem execPeakClear_touch (s : State) (codes : List Nat) : TouchOut 2048 s (execPeakClear codes s) := by
  have h := TouchM.refl 2048 s
  unfold execPeakClear
  (try dsimp only)
  repeat' first | with_reducible assumption | (with_reducible first | apply State.modSpc_touch | apply State.endInhibit_touch | apply State.done_touch) | split | exact (rfl : Nat.land _ _ = _) | exact sub_trans rfl hm | intro _ | dsimp only | assumption

theorem State.wroteSpcEn_touch {μ : Nat} {s₀ s : State} (h : TouchM μ s₀ s) (was now : Bool)
    (hm : Nat.land 33556628 μ = 33556628 := by first | (apply sub_trans; rotate_left; (with_reducible assumption); rfl) | rfl) : TouchM μ s₀ (State.wroteSpcEn s was now) := by
  unfold State.wroteSpcEn
  (try dsimp only)
  repeat' first | with_reducible assumption | (with_reducible first | apply State.modSpc_touch | apply State.stageOff_touch | apply State.nakPending_touch | apply State.endToggle_touch | apply State.retarget_touch | apply State.signFrom_touch) | split | exact (rfl : Nat.land _ _ = _) | exact sub_trans rfl hm | intro _ | dsimp only | assumption

theorem State.wroteCapacity_touch {μ : Nat} {s₀ s : State} (h : TouchM μ s₀ s)
    (hm : Nat.land 34605188 μ = 34605188 := by first | (apply sub_trans; rotate_left; (with_reducible assumption); rfl) | rfl) : TouchM μ s₀ (State.wroteCapacity s) := by
  unfold State.wroteCapacity
  (try dsimp only)
  repeat' first | with_reducible assumption | (with_reducible first | apply State.phasesChanged_touch) | split | exact (rfl : Nat.land _ _ = _) | exact sub_trans rfl hm | intro _ | dsimp only | assumption

theorem State.wroteStepCtrl_touch {μ : Nat} {s₀ s : State} (h : TouchM μ s₀ s) (sourceChanged : Bool)
    (hm : Nat.land 34605056 μ = 34605056 := by first | (apply sub_trans; rotate_left; (with_reducible assumption); rfl) | rfl) : TouchM μ s₀ (State.wroteStepCtrl s sourceChanged) := by
  unfold State.wroteStepCtrl
  (try dsimp only)
  repeat' first | with_reducible assumption | (with_reducible first | apply State.modSpc_touch | apply State.stepDown_touch) | split | exact (rfl : Nat.land _ _ = _) | exact sub_trans rfl hm | intro _ | dsimp only | assumption

theorem State.orphanRamp_touch {μ : Nat} {s₀ s : State} (h : TouchM μ s₀ s) (rate : Nat)
    (hm : Nat.land 33556608 μ = 33556608 := by first | (apply sub_trans; rotate_left; (with_reducible assumption); rfl) | rfl) : TouchM μ s₀ (State.orphanRamp s rate) := by
  unfold State.orphanRamp
  (try dsimp only)
  repeat' first | with_reducible assumption | (with_reducible first | apply State.nakPending_touch | apply State.endToggle_touch | apply State.retarget_touch | apply State.modSpc_touch) | split | exact (rfl : Nat.land _ _ = _) | exact sub_trans rfl hm | intro _ | dsimp only | assumption

end Sys2Proof.Machine
end

