-- ==== Sys2Proof/Laws/TouchMeasure.lean ====
section
/-!
SUPPORT. Which parts of the state the operations of Machine/Measure.lean may change.
-/

namespace Sys2Proof.Machine

-- One theorem at a time, which bounds the memory of the whole package's compile.
set_option Elab.async false

theorem State.streamOut_touch {μ : Nat} {s₀ s : State} (h : TouchM μ s₀ s) (g : Seg) (w : BitVec 64)
    (hm : Nat.land 4608 μ = 4608 := by first | (apply sub_trans; rotate_left; (with_reducible assumption); rfl) | rfl) : TouchM μ s₀ (State.streamOut s g w) := by
  unfold State.streamOut
  (try dsimp only)
  repeat' first | with_reducible assumption | (with_reducible first | apply State.modShunts_touch | apply State.sendUp_touch) | split | exact (rfl : Nat.land _ _ = _) | exact sub_trans rfl hm | intro _ | dsimp only | assumption

theorem State.streamCell_touch {μ : Nat} {s₀ s : State} (h : TouchM μ s₀ s) (k : Cell) (kind source : Nat) (x : Sample) (value : Int)
    (hm : Nat.land 4608 μ = 4608 := by first | (apply sub_trans; rotate_left; (with_reducible assumption); rfl) | rfl) : TouchM μ s₀ (State.streamCell s k kind source x value) := by
  unfold State.streamCell
  (try dsimp only)
  repeat' first | with_reducible assumption | (with_reducible first | apply State.streamOut_touch) | split | exact (rfl : Nat.land _ _ = _) | exact sub_trans rfl hm | intro _ | dsimp only | assumption

theorem State.release_touch {μ : Nat} {s₀ s : State} (h : TouchM μ s₀ s) (k : Cell) (x : Sample)
    (hm : Nat.land 4640 μ = 4640 := by first | (apply sub_trans; rotate_left; (with_reducible assumption); rfl) | rfl) : TouchM μ s₀ (State.release s k x) := by
  unfold State.release
  (try dsimp only)
  repeat' first | with_reducible assumption | (with_reducible first | apply State.modMeas_touch | apply State.sendUp_touch | apply State.streamCell_touch) | split | exact (rfl : Nat.land _ _ = _) | exact sub_trans rfl hm | intro _ | dsimp only | assumption

theorem State.releaseOcv_touch {μ : Nat} {s₀ s : State} (h : TouchM μ s₀ s) (k : Cell) (x : Sample)
    (hm : Nat.land 4640 μ = 4640 := by first | (apply sub_trans; rotate_left; (with_reducible assumption); rfl) | rfl) : TouchM μ s₀ (State.releaseOcv s k x) := by
  unfold State.releaseOcv
  (try dsimp only)
  repeat' first | with_reducible assumption | (with_reducible first | apply State.modMeas_touch | apply State.sendUp_touch | apply State.streamCell_touch) | split | exact (rfl : Nat.land _ _ = _) | exact sub_trans rfl hm | intro _ | dsimp only | assumption

theorem State.releaseAs_touch {μ : Nat} {s₀ s : State} (h : TouchM μ s₀ s) (k : Cell) (h : Held) (valid : Bool)
    (hm : Nat.land 4640 μ = 4640 := by first | (apply sub_trans; rotate_left; (with_reducible assumption); rfl) | rfl) : TouchM μ s₀ (State.releaseAs s k h valid) := by
  unfold State.releaseAs
  (try dsimp only)
  repeat' first | with_reducible assumption | (with_reducible first | apply State.release_touch | apply State.releaseOcv_touch) | split | exact (rfl : Nat.land _ _ = _) | exact sub_trans rfl hm | intro _ | dsimp only | assumption

theorem State.hold_touch {μ : Nat} {s₀ s : State} (h : TouchM μ s₀ s) (k : Cell) (h : Held)
    (hm : Nat.land 4640 μ = 4640 := by first | (apply sub_trans; rotate_left; (with_reducible assumption); rfl) | rfl) : TouchM μ s₀ (State.hold s k h) := by
  unfold State.hold
  (try dsimp only)
  repeat' first | with_reducible assumption | (with_reducible first | apply State.releaseAs_touch | apply State.modMeas_touch) | split | exact (rfl : Nat.land _ _ = _) | exact sub_trans rfl hm | intro _ | dsimp only | assumption

theorem State.output_touch {μ : Nat} {s₀ s : State} (h : TouchM μ s₀ s) (k : Cell) (x : Sample)
    (hm : Nat.land 4640 μ = 4640 := by first | (apply sub_trans; rotate_left; (with_reducible assumption); rfl) | rfl) : TouchM μ s₀ (State.output s k x) := by
  unfold State.output
  (try dsimp only)
  repeat' first | with_reducible assumption | (with_reducible first | apply State.hold_touch) | split | exact (rfl : Nat.land _ _ = _) | exact sub_trans rfl hm | intro _ | dsimp only | assumption

theorem State.loseCover_touch {μ : Nat} {s₀ s : State} (h : TouchM μ s₀ s) (k : Cell)
    (hm : Nat.land 4128 μ = 4128 := by first | (apply sub_trans; rotate_left; (with_reducible assumption); rfl) | rfl) : TouchM μ s₀ (State.loseCover s k) := by
  unfold State.loseCover
  (try dsimp only)
  repeat' first | with_reducible assumption | (with_reducible first | apply State.modMeas_touch | apply State.countDist_touch) | split | exact (rfl : Nat.land _ _ = _) | exact sub_trans rfl hm | intro _ | dsimp only | assumption

theorem execCoverTimeout_touch (s : State) (k : Cell) : TouchOut 4640 s (execCoverTimeout k s) := by
  have h := TouchM.refl 4640 s
  unfold execCoverTimeout
  (try dsimp only)
  repeat' first | with_reducible assumption | (with_reducible first | apply State.done_touch | apply State.modMeas_touch | apply State.loseCover_touch | apply State.releaseAs_touch) | split | exact (rfl : Nat.land _ _ = _) | exact sub_trans rfl hm | intro _ | dsimp only | assumption

theorem State.resumeCover_touch {μ : Nat} {s₀ s : State} (h : TouchM μ s₀ s) (k : Cell) (t : Nat)
    (hm : Nat.land 4128 μ = 4128 := by first | (apply sub_trans; rotate_left; (with_reducible assumption); rfl) | rfl) : TouchM μ s₀ (State.resumeCover s k t) := by
  unfold State.resumeCover
  (try dsimp only)
  repeat' first | with_reducible assumption | (with_reducible first | apply State.countDist_touch | apply State.modMeas_touch) | split | exact (rfl : Nat.land _ _ = _) | exact sub_trans rfl hm | intro _ | dsimp only | assumption

theorem State.coverTo_touch {μ : Nat} {s₀ s : State} (h : TouchM μ s₀ s) (k : Cell) (t : Nat)
    (hm : Nat.land 4640 μ = 4640 := by first | (apply sub_trans; rotate_left; (with_reducible assumption); rfl) | rfl) : TouchM μ s₀ (State.coverTo s k t) := by
  unfold State.coverTo
  (try dsimp only)
  repeat' first | with_reducible assumption | (with_reducible first | apply State.resumeCover_touch | apply State.modMeas_touch | apply State.releaseAs_touch | apply each_touch) | split | exact (rfl : Nat.land _ _ = _) | exact sub_trans rfl hm | intro _ | dsimp only | assumption

theorem State.gateSlot_touch {μ : Nat} {s₀ s : State} (h : TouchM μ s₀ s) (k : Cell) (e : Nat) (v : Int) (sat : Bool)
    (hm : Nat.land 4640 μ = 4640 := by first | (apply sub_trans; rotate_left; (with_reducible assumption); rfl) | rfl) : TouchM μ s₀ (State.gateSlot s k e v sat) := by
  unfold State.gateSlot
  (try dsimp only)
  repeat' first | with_reducible assumption | (with_reducible first | apply State.output_touch | apply State.modMeas_touch) | split | exact (rfl : Nat.land _ _ = _) | exact sub_trans rfl hm | intro _ | dsimp only | assumption

theorem State.restartFilter_touch {μ : Nat} {s₀ s : State} (h : TouchM μ s₀ s) (k : Cell) (e : Nat)
    (hm : Nat.land 4640 μ = 4640 := by first | (apply sub_trans; rotate_left; (with_reducible assumption); rfl) | rfl) : TouchM μ s₀ (State.restartFilter s k e) := by
  unfold State.restartFilter
  (try dsimp only)
  repeat' first | with_reducible assumption | (with_reducible first | apply State.modMeas_touch | apply State.output_touch) | split | exact (rfl : Nat.land _ _ = _) | exact sub_trans rfl hm | intro _ | dsimp only | assumption

theorem State.windowStart_touch {μ : Nat} {s₀ s : State} (h : TouchM μ s₀ s) (k : Cell) (e : Nat)
    (hm : Nat.land 32 μ = 32 := by first | (apply sub_trans; rotate_left; (with_reducible assumption); rfl) | rfl) : TouchM μ s₀ (State.windowStart s k e) := by
  unfold State.windowStart
  (try dsimp only)
  repeat' first | with_reducible assumption | (with_reducible first | apply State.modMeas_touch) | split | exact (rfl : Nat.land _ _ = _) | exact sub_trans rfl hm | intro _ | dsimp only | assumption

theorem State.ocvSlot_touch {μ : Nat} {s₀ s : State} (h : TouchM μ s₀ s) (k : Cell) (e : Nat) (v : Int) (sat : Bool)
    (hm : Nat.land 32 μ = 32 := by first | (apply sub_trans; rotate_left; (with_reducible assumption); rfl) | rfl) : TouchM μ s₀ (State.ocvSlot s k e v sat) := by
  unfold State.ocvSlot
  (try dsimp only)
  repeat' first | with_reducible assumption | (with_reducible first | apply State.modMeas_touch) | split | exact (rfl : Nat.land _ _ = _) | exact sub_trans rfl hm | intro _ | dsimp only | assumption

theorem State.ocvEnd_touch {μ : Nat} {s₀ s : State} (h : TouchM μ s₀ s) (k : Cell) (e : Nat)
    (hm : Nat.land 4640 μ = 4640 := by first | (apply sub_trans; rotate_left; (with_reducible assumption); rfl) | rfl) : TouchM μ s₀ (State.ocvEnd s k e) := by
  unfold State.ocvEnd
  (try dsimp only)
  repeat' first | with_reducible assumption | (with_reducible first | apply State.modMeas_touch | apply State.hold_touch) | split | exact (rfl : Nat.land _ _ = _) | exact sub_trans rfl hm | intro _ | dsimp only | assumption

theorem State.sendBurst_touch {μ : Nat} {s₀ s : State} (h : TouchM μ s₀ s) (k : Cell) (b : Burst)
    (hm : Nat.land 4608 μ = 4608 := by first | (apply sub_trans; rotate_left; (with_reducible assumption); rfl) | rfl) : TouchM μ s₀ (State.sendBurst s k b) := by
  unfold State.sendBurst
  (try dsimp only)
  repeat' first | with_reducible assumption | (with_reducible first | apply State.sendUp_touch | apply State.streamOut_touch | apply each_touch) | split | exact (rfl : Nat.land _ _ = _) | exact sub_trans rfl hm | intro _ | dsimp only | assumption

theorem State.burstSlot_touch {μ : Nat} {s₀ s : State} (h : TouchM μ s₀ s) (k : Cell) (e : Nat) (v : Int)
    (hm : Nat.land 4640 μ = 4640 := by first | (apply sub_trans; rotate_left; (with_reducible assumption); rfl) | rfl) : TouchM μ s₀ (State.burstSlot s k e v) := by
  unfold State.burstSlot
  (try dsimp only)
  repeat' first | with_reducible assumption | (with_reducible first | apply State.modMeas_touch | apply State.sendBurst_touch | apply each_touch) | split | exact (rfl : Nat.land _ _ = _) | exact sub_trans rfl hm | intro _ | dsimp only | assumption

theorem execSlotConversion_touch (s : State) (k : Cell) (uv : Int) : TouchOut 4640 s (execSlotConversion k uv s) := by
  have h := TouchM.refl 4640 s
  unfold execSlotConversion
  (try dsimp only)
  repeat' first | with_reducible assumption | (with_reducible first | apply State.done_touch | apply State.modMeas_touch | apply State.gateSlot_touch | apply State.ocvSlot_touch | apply State.restartFilter_touch | apply State.windowStart_touch | apply State.ocvEnd_touch | apply State.burstSlot_touch) | split | exact (rfl : Nat.land _ _ = _) | exact sub_trans rfl hm | intro _ | dsimp only | assumption

theorem State.servedSlots_touch {μ : Nat} {s₀ s : State} (h : TouchM μ s₀ s) (k : Cell) (v : Int) (a b : Nat)
    (hm : Nat.land 4640 μ = 4640 := by first | (apply sub_trans; rotate_left; (with_reducible assumption); rfl) | rfl) : TouchM μ s₀ (State.servedSlots s k v a b) := by
  unfold State.servedSlots
  (try dsimp only)
  repeat' first | with_reducible assumption | (with_reducible first | apply State.gateSlot_touch | apply State.ocvSlot_touch | apply each_touch) | split | exact (rfl : Nat.land _ _ = _) | exact sub_trans rfl hm | intro _ | dsimp only | assumption

theorem State.takeOver_touch {μ : Nat} {s₀ s : State} (h : TouchM μ s₀ s) (k : Cell)
    (hm : Nat.land 544 μ = 544 := by first | (apply sub_trans; rotate_left; (with_reducible assumption); rfl) | rfl) : TouchM μ s₀ (State.takeOver s k) := by
  unfold State.takeOver
  (try dsimp only)
  repeat' first | with_reducible assumption | (with_reducible first | apply State.modMeas_touch | apply State.segReport_touch) | split | exact (rfl : Nat.land _ _ = _) | exact sub_trans rfl hm | intro _ | dsimp only | assumption

theorem State.giveBack_touch {μ : Nat} {s₀ s : State} (h : TouchM μ s₀ s) (k : Cell)
    (hm : Nat.land 544 μ = 544 := by first | (apply sub_trans; rotate_left; (with_reducible assumption); rfl) | rfl) : TouchM μ s₀ (State.giveBack s k) := by
  unfold State.giveBack
  (try dsimp only)
  repeat' first | with_reducible assumption | (with_reducible first | apply State.modMeas_touch | apply State.segReport_touch) | split | exact (rfl : Nat.land _ _ = _) | exact sub_trans rfl hm | intro _ | dsimp only | assumption

theorem State.crossCheck_touch {μ : Nat} {s₀ s : State} (h : TouchM μ s₀ s) (k : Cell) (miss : Bool)
    (hm : Nat.land 544 μ = 544 := by first | (apply sub_trans; rotate_left; (with_reducible assumption); rfl) | rfl) : TouchM μ s₀ (State.crossCheck s k miss) := by
  unfold State.crossCheck
  (try dsimp only)
  repeat' first | with_reducible assumption | (with_reducible first | apply State.modMeas_touch | apply State.giveBack_touch | apply State.takeOver_touch | apply State.segReport_touch) | split | exact (rfl : Nat.land _ _ = _) | exact sub_trans rfl hm | intro _ | dsimp only | assumption

theorem State.cellVisit_touch {μ : Nat} {s₀ s : State} (h : TouchM μ s₀ s) (k : Cell) (raw : Int) (a z : Nat)
    (hm : Nat.land 4640 μ = 4640 := by first | (apply sub_trans; rotate_left; (with_reducible assumption); rfl) | rfl) : TouchM μ s₀ (State.cellVisit s k raw a z) := by
  unfold State.cellVisit
  (try dsimp only)
  repeat' first | with_reducible assumption | (with_reducible first | apply State.modMeas_touch | apply State.sendUp_touch | apply State.streamCell_touch | apply State.servedSlots_touch | apply State.crossCheck_touch) | split | exact (rfl : Nat.land _ _ = _) | exact sub_trans rfl hm | intro _ | dsimp only | assumption

theorem State.stackVisit_touch {μ : Nat} {s₀ s : State} (h : TouchM μ s₀ s) (g : Seg) (raw : Int) (a z : Nat)
    (hm : Nat.land 4864 μ = 4864 := by first | (apply sub_trans; rotate_left; (with_reducible assumption); rfl) | rfl) : TouchM μ s₀ (State.stackVisit s g raw a z) := by
  unfold State.stackVisit
  (try dsimp only)
  repeat' first | with_reducible assumption | (with_reducible first | apply State.modSeg_touch | apply State.streamOut_touch | apply State.modShunts_touch | apply State.segReport_touch) | split | exact (rfl : Nat.land _ _ = _) | exact sub_trans rfl hm | intro _ | dsimp only | assumption

theorem execVerifierVisit_touch (s : State) (ch : Channel) (value : Int) : TouchOut 4896 s (execVerifierVisit ch value s) := by
  have h := TouchM.refl 4896 s
  unfold execVerifierVisit
  (try dsimp only)
  repeat' first | with_reducible assumption | (with_reducible first | apply State.done_touch | apply State.modSeg_touch | apply State.cellVisit_touch | apply State.stackVisit_touch) | split | exact (rfl : Nat.land _ _ = _) | exact sub_trans rfl hm | intro _ | dsimp only | assumption

theorem execNoCrosscheck_touch (s : State) (k : Cell) : TouchOut 544 s (execNoCrosscheck k s) := by
  have h := TouchM.refl 544 s
  unfold execNoCrosscheck
  (try dsimp only)
  repeat' first | with_reducible assumption | (with_reducible first | apply State.modMeas_touch | apply State.segReport_touch | apply State.done_touch) | split | exact (rfl : Nat.land _ _ = _) | exact sub_trans rfl hm | intro _ | dsimp only | assumption

theorem execCapture_touch (s : State) (k : Cell) (samples : List Int) : TouchOut 4640 s (execCapture k samples s) := by
  have h := TouchM.refl 4640 s
  unfold execCapture
  (try dsimp only)
  repeat' first | with_reducible assumption | (with_reducible first | apply State.done_touch | apply State.modShunts_touch | apply State.segReport_touch | apply State.modMeas_touch) | split | exact (rfl : Nat.land _ _ = _) | exact sub_trans rfl hm | intro _ | dsimp only | assumption

theorem State.contactUnder_touch {μ : Nat} {s₀ s : State} (h : TouchM μ s₀ s) (k : Cell) (rp rn i : Int) (satP satN : Bool) (z : Nat)
    (hm : Nat.land 35205296 μ = 35205296 := by first | (apply sub_trans; rotate_left; (with_reducible assumption); rfl) | rfl) : TouchM μ s₀ (State.contactUnder s k rp rn i satP satN z) := by
  unfold State.contactUnder
  (try dsimp only)
  repeat' first | with_reducible assumption | (with_reducible first | apply State.park_touch | apply State.modMeas_touch | apply State.contactRecord_touch | apply State.modAna_touch | apply State.contactSummary_touch | apply State.raise_touch) | split | exact (rfl : Nat.land _ _ = _) | exact sub_trans rfl hm | intro _ | dsimp only | assumption

theorem State.contactOpen_touch {μ : Nat} {s₀ s : State} (h : TouchM μ s₀ s) (k : Cell) (pos neg : Int) (satP satN : Bool) (z : Nat)
    (hm : Nat.land 35205168 μ = 35205168 := by first | (apply sub_trans; rotate_left; (with_reducible assumption); rfl) | rfl) : TouchM μ s₀ (State.contactOpen s k pos neg satP satN z) := by
  unfold State.contactOpen
  (try dsimp only)
  repeat' first | with_reducible assumption | (with_reducible first | apply State.disturb_touch | apply State.contactRecord_touch | apply State.park_touch | apply State.raise_touch) | split | exact (rfl : Nat.land _ _ = _) | exact sub_trans rfl hm | intro _ | dsimp only | assumption

theorem State.streamContact_touch {μ : Nat} {s₀ s : State} (h : TouchM μ s₀ s) (k : Cell) (pos neg : Int) (satP satN : Bool) (z : Nat)
    (hm : Nat.land 4608 μ = 4608 := by first | (apply sub_trans; rotate_left; (with_reducible assumption); rfl) | rfl) : TouchM μ s₀ (State.streamContact s k pos neg satP satN z) := by
  unfold State.streamContact
  (try dsimp only)
  repeat' first | with_reducible assumption | (with_reducible first | apply State.streamOut_touch) | split | exact (rfl : Nat.land _ _ = _) | exact sub_trans rfl hm | intro _ | dsimp only | assumption

theorem execContactVisit_touch (s : State) (k : Cell) (pos neg : Int) (satP satN : Bool) : TouchOut 35206064 s (execContactVisit k pos neg satP satN s) := by
  have h := TouchM.refl 35206064 s
  unfold execContactVisit
  (try dsimp only)
  repeat' first | with_reducible assumption | (with_reducible first | apply State.done_touch | apply State.modSeg_touch | apply State.modMeas_touch | apply State.sendUp_touch | apply State.streamContact_touch | apply State.contactUnder_touch | apply State.contactOpen_touch) | split | exact (rfl : Nat.land _ _ = _) | exact sub_trans rfl hm | intro _ | dsimp only | assumption

theorem State.checkShunts_touch {μ : Nat} {s₀ s : State} (h : TouchM μ s₀ s)
    (hm : Nat.land 1052672 μ = 1052672 := by first | (apply sub_trans; rotate_left; (with_reducible assumption); rfl) | rfl) : TouchM μ s₀ (State.checkShunts s) := by
  unfold State.checkShunts
  (try dsimp only)
  repeat' first | with_reducible assumption | (with_reducible first | apply State.modShunts_touch | apply State.raise_touch) | split | exact (rfl : Nat.land _ _ = _) | exact sub_trans rfl hm | intro _ | dsimp only | assumption

theorem State.quietSlot_touch {μ : Nat} {s₀ s : State} (h : TouchM μ s₀ s) (slot : Nat) (b t : Option Int)
    (hm : Nat.land 8192 μ = 8192 := by first | (apply sub_trans; rotate_left; (with_reducible assumption); rfl) | rfl) : TouchM μ s₀ (State.quietSlot s slot b t) := by
  unfold State.quietSlot
  (try dsimp only)
  repeat' first | with_reducible assumption | (with_reducible first | apply State.modRes_touch) | split | exact (rfl : Nat.land _ _ = _) | exact sub_trans rfl hm | intro _ | dsimp only | assumption

theorem State.streamShunt_touch {μ : Nat} {s₀ s : State} (h : TouchM μ s₀ s) (g : Seg) (slot : Nat) (x : Int × Nat × Bool)
    (hm : Nat.land 4608 μ = 4608 := by first | (apply sub_trans; rotate_left; (with_reducible assumption); rfl) | rfl) : TouchM μ s₀ (State.streamShunt s g slot x) := by
  unfold State.streamShunt
  (try dsimp only)
  repeat' first | with_reducible assumption | (with_reducible first | apply State.streamOut_touch) | split | exact (rfl : Nat.land _ _ = _) | exact sub_trans rfl hm | intro _ | dsimp only | assumption

theorem State.streamSlots_touch {μ : Nat} {s₀ s : State} (h : TouchM μ s₀ s) (slot : Nat) (b t : Option Int)
    (hm : Nat.land 4608 μ = 4608 := by first | (apply sub_trans; rotate_left; (with_reducible assumption); rfl) | rfl) : TouchM μ s₀ (State.streamSlots s slot b t) := by
  unfold State.streamSlots
  (try dsimp only)
  repeat' first | with_reducible assumption | (with_reducible first | apply State.modShunts_touch | apply State.streamShunt_touch) | split | exact (rfl : Nat.land _ _ = _) | exact sub_trans rfl hm | intro _ | dsimp only | assumption

theorem State.sendSlots_touch {μ : Nat} {s₀ s : State} (h : TouchM μ s₀ s) (slot : Nat) (it : Option Int)
    (hm : Nat.land 4608 μ = 4608 := by first | (apply sub_trans; rotate_left; (with_reducible assumption); rfl) | rfl) : TouchM μ s₀ (State.sendSlots s slot it) := by
  unfold State.sendSlots
  (try dsimp only)
  repeat' first | with_reducible assumption | (with_reducible first | apply State.modShunts_touch | apply State.sendDown_touch | apply each_touch) | split | exact (rfl : Nat.land _ _ = _) | exact sub_trans rfl hm | intro _ | dsimp only | assumption

theorem execShuntSlotMean_touch (s : State) (bottomRaw topRaw : Option Int) : TouchOut 1062400 s (execShuntSlotMean bottomRaw topRaw s) := by
  have h := TouchM.refl 1062400 s
  unfold execShuntSlotMean
  (try dsimp only)
  repeat' first | with_reducible assumption | (with_reducible first | apply State.done_touch | apply State.modShunts_touch | apply State.quietSlot_touch | apply State.modPlay_touch | apply State.modRes_touch | apply State.streamSlots_touch | apply State.sendSlots_touch | apply State.checkShunts_touch) | split | exact (rfl : Nat.land _ _ = _) | exact sub_trans rfl hm | intro _ | dsimp only | assumption

theorem execShuntCompare_touch (s : State) : TouchOut 1054720 s (execShuntCompare s) := by
  have h := TouchM.refl 1054720 s
  unfold execShuntCompare
  (try dsimp only)
  repeat' first | with_reducible assumption | (with_reducible first | apply State.done_touch | apply State.modShunts_touch | apply State.modSpc_touch | apply State.raise_touch) | split | exact (rfl : Nat.land _ _ = _) | exact sub_trans rfl hm | intro _ | dsimp only | assumption

theorem State.readmit_touch {μ : Nat} {s₀ s : State} (h : TouchM μ s₀ s) (bits : Nat)
    (hm : Nat.land 1052672 μ = 1052672 := by first | (apply sub_trans; rotate_left; (with_reducible assumption); rfl) | rfl) : TouchM μ s₀ (State.readmit s bits) := by
  unfold State.readmit
  (try dsimp only)
  repeat' first | with_reducible assumption | (with_reducible first | apply State.modShunts_touch | apply State.checkShunts_touch) | split | exact (rfl : Nat.land _ _ = _) | exact sub_trans rfl hm | intro _ | dsimp only | assumption

theorem State.streamStart_touch {μ : Nat} {s₀ s : State} (h : TouchM μ s₀ s) (segs : BitVec 16) (kinds : BitVec 8) (cells : BitVec 256)
    (hm : Nat.land 4608 μ = 4608 := by first | (apply sub_trans; rotate_left; (with_reducible assumption); rfl) | rfl) : TouchM μ s₀ (State.streamStart s segs kinds cells).2 := by
  unfold State.streamStart
  (try dsimp only)
  repeat' first | with_reducible assumption | (with_reducible first | apply State.modShunts_touch | apply State.sendDown_touch | apply each_touch) | split | exact (rfl : Nat.land _ _ = _) | exact sub_trans rfl hm | intro _ | dsimp only | assumption

theorem State.streamStart_touchEq {μ : Nat} {s₀ s u₁ : State} {a₁} {segs : BitVec 16} {kinds : BitVec 8} {cells : BitVec 256}
    (e : State.streamStart s segs kinds cells = (a₁, u₁)) (h : TouchM μ s₀ s) (hm : Nat.land 4608 μ = 4608 := by first | (apply sub_trans; rotate_left; (with_reducible assumption); rfl) | rfl) : TouchM μ s₀ u₁ := by
  have k := State.streamStart_touch h segs kinds cells hm
  rw [e] at k
  exact k

theorem State.streamStop_touch {μ : Nat} {s₀ s : State} (h : TouchM μ s₀ s)
    (hm : Nat.land 4608 μ = 4608 := by first | (apply sub_trans; rotate_left; (with_reducible assumption); rfl) | rfl) : TouchM μ s₀ (State.streamStop s) := by
  unfold State.streamStop
  (try dsimp only)
  repeat' first | with_reducible assumption | (with_reducible first | apply State.modShunts_touch | apply State.sendDown_touch | apply each_touch) | split | exact (rfl : Nat.land _ _ = _) | exact sub_trans rfl hm | intro _ | dsimp only | assumption

theorem execStreamMark_touch (s : State) (g : Seg) : TouchOut 4608 s (execStreamMark g s) := by
  have h := TouchM.refl 4608 s
  unfold execStreamMark
  (try dsimp only)
  repeat' first | with_reducible assumption | (with_reducible first | apply State.modShunts_touch | apply State.streamOut_touch | apply State.done_touch) | split | exact (rfl : Nat.land _ _ = _) | exact sub_trans rfl hm | intro _ | dsimp only | assumption

end Sys2Proof.Machine
end

