-- ==== Sys2Proof/Laws/TouchAnalysis.lean ====
section
/-!
SUPPORT. Which parts of the state the operations of Machine/Analysis.lean may change.
-/

namespace Sys2Proof.Machine

-- One theorem at a time, which bounds the memory of the whole package's compile.
set_option Elab.async false

theorem execZeroEstimate_touch (s : State) : TouchOut 8192 s (execZeroEstimate s) := by
  have h := TouchM.refl 8192 s
  unfold execZeroEstimate
  (try dsimp only)
  repeat' first | with_reducible assumption | (with_reducible first | apply State.done_touch | apply State.modRes_touch) | split | exact (rfl : Nat.land _ _ = _) | exact sub_trans rfl hm | intro _ | dsimp only | assumption

theorem execZeroStale_touch (s : State) : TouchOut 1056768 s (execZeroStale s) := by
  have h := TouchM.refl 1056768 s
  unfold execZeroStale
  (try dsimp only)
  repeat' first | with_reducible assumption | (with_reducible first | apply State.modRes_touch | apply State.raise_touch | apply State.done_touch) | split | exact (rfl : Nat.land _ _ = _) | exact sub_trans rfl hm | intro _ | dsimp only | assumption

theorem execTally_touch (s : State) : TouchOut 34152448 s (execTally s) := by
  have h := TouchM.refl 34152448 s
  unfold execTally
  (try dsimp only)
  repeat' first | with_reducible assumption | (with_reducible first | apply State.tallyRecord_touch | apply State.modRes_touch | apply State.done_touch | apply each_touch) | split | exact (rfl : Nat.land _ _ = _) | exact sub_trans rfl hm | intro _ | dsimp only | assumption

theorem State.snapshots_touch {μ : Nat} {s₀ s : State} (h : TouchM μ s₀ s) (t : Nat)
    (hm : Nat.land 34152448 μ = 34152448 := by first | (apply sub_trans; rotate_left; (with_reducible assumption); rfl) | rfl) : TouchM μ s₀ (State.snapshots s t) := by
  unfold State.snapshots
  (try dsimp only)
  repeat' first | with_reducible assumption | (with_reducible first | apply State.snapshotRecord_touch | apply each_touch) | split | exact (rfl : Nat.land _ _ = _) | exact sub_trans rfl hm | intro _ | dsimp only | assumption

theorem execCellSnapshot_touch (s : State) : TouchOut 34152448 s (execCellSnapshot s) := by
  have h := TouchM.refl 34152448 s
  unfold execCellSnapshot
  (try dsimp only)
  repeat' first | with_reducible assumption | (with_reducible first | apply State.snapshots_touch | apply State.modRes_touch | apply State.done_touch) | split | exact (rfl : Nat.land _ _ = _) | exact sub_trans rfl hm | intro _ | dsimp only | assumption

theorem State.wroteAnaCtrl_touch {μ : Nat} {s₀ s : State} (h : TouchM μ s₀ s) (v : Word)
    (hm : Nat.land 35201152 μ = 35201152 := by first | (apply sub_trans; rotate_left; (with_reducible assumption); rfl) | rfl) : TouchM μ s₀ (State.wroteAnaCtrl s v) := by
  unfold State.wroteAnaCtrl
  (try dsimp only)
  repeat' first | with_reducible assumption | (with_reducible first | apply State.modRes_touch | apply State.kvalAll_touch | apply State.kvalClear_touch | apply each_touch) | split | exact (rfl : Nat.land _ _ = _) | exact sub_trans rfl hm | intro _ | dsimp only | assumption

theorem execEdgeR_touch (s : State) (k : Cell) : TouchOut 34152576 s (execEdgeR k s) := by
  have h := TouchM.refl 34152576 s
  unfold execEdgeR
  (try dsimp only)
  repeat' first | with_reducible assumption | (with_reducible first | apply State.done_touch | apply State.modAna_touch | apply State.edgeRecord_touch) | split | exact (rfl : Nat.land _ _ = _) | exact sub_trans rfl hm | intro _ | dsimp only | assumption

theorem State.sweepCmd_touch {μ : Nat} {s₀ s : State} (h : TouchM μ s₀ s) (id plan t : Nat) (cells : BitVec 256)
    (hm : Nat.land 8704 μ = 8704 := by first | (apply sub_trans; rotate_left; (with_reducible assumption); rfl) | rfl) : TouchM μ s₀ (State.sweepCmd s id plan t cells).2 := by
  unfold State.sweepCmd
  (try dsimp only)
  repeat' first | with_reducible assumption | (with_reducible first | apply State.modRes_touch | apply State.sendDown_touch | apply each_touch) | split | exact (rfl : Nat.land _ _ = _) | exact sub_trans rfl hm | intro _ | dsimp only | assumption

theorem State.sweepCmd_touchEq {μ : Nat} {s₀ s u₁ : State} {a₁} {id plan t : Nat} {cells : BitVec 256}
    (e : State.sweepCmd s id plan t cells = (a₁, u₁)) (h : TouchM μ s₀ s) (hm : Nat.land 8704 μ = 8704 := by first | (apply sub_trans; rotate_left; (with_reducible assumption); rfl) | rfl) : TouchM μ s₀ u₁ := by
  have k := State.sweepCmd_touch h id plan t cells hm
  rw [e] at k
  exact k

end Sys2Proof.Machine
end

