-- ==== Sys2Proof/Laws/TouchPower.lean ====
section
/-!
SUPPORT. Which parts of the state the operations of Machine/Power.lean may change.
-/

namespace Sys2Proof.Machine

-- One theorem at a time, which bounds the memory of the whole package's compile.
set_option Elab.async false

theorem State.setPower_touch {μ : Nat} {s₀ s : State} (h : TouchM μ s₀ s) (p : PowerState)
    (hm : Nat.land 37329456 μ = 37329456 := by first | (apply sub_trans; rotate_left; (with_reducible assumption); rfl) | rfl) : TouchM μ s₀ (State.setPower s p) := by
  unfold State.setPower
  (try dsimp only)
  repeat' first | with_reducible assumption | (with_reducible first | apply State.abortSlice_touch | apply State.modPwr_touch) | split | exact (rfl : Nat.land _ _ = _) | exact sub_trans rfl hm | intro _ | dsimp only | assumption

theorem State.stopEntry_touch {μ : Nat} {s₀ s : State} (h : TouchM μ s₀ s)
    (hm : Nat.land 32768 μ = 32768 := by first | (apply sub_trans; rotate_left; (with_reducible assumption); rfl) | rfl) : TouchM μ s₀ (State.stopEntry s) := by
  unfold State.stopEntry
  (try dsimp only)
  repeat' first | with_reducible assumption | (with_reducible first | apply State.modPwr_touch) | split | exact (rfl : Nat.land _ _ = _) | exact sub_trans rfl hm | intro _ | dsimp only | assumption

theorem State.evaluatePower_touch {μ : Nat} {s₀ s : State} (h : TouchM μ s₀ s)
    (hm : Nat.land 37329456 μ = 37329456 := by first | (apply sub_trans; rotate_left; (with_reducible assumption); rfl) | rfl) : TouchM μ s₀ (State.evaluatePower s) := by
  unfold State.evaluatePower
  (try dsimp only)
  repeat' first | with_reducible assumption | (with_reducible first | apply State.modPwr_touch | apply State.sendDown_touch | apply State.abortSlice_touch | apply State.stopEntry_touch | apply State.setPower_touch | apply each_touch) | split | exact (rfl : Nat.land _ _ = _) | exact sub_trans rfl hm | intro _ | dsimp only | assumption

theorem execPowerEvaluate_touch (s : State) : TouchOut 37329456 s (execPowerEvaluate s) := by
  have h := TouchM.refl 37329456 s
  unfold execPowerEvaluate
  (try dsimp only)
  repeat' first | with_reducible assumption | (with_reducible first | apply State.evaluatePower_touch | apply State.done_touch) | split | exact (rfl : Nat.land _ _ = _) | exact sub_trans rfl hm | intro _ | dsimp only | assumption

theorem State.leaveDoze_touch {μ : Nat} {s₀ s : State} (h : TouchM μ s₀ s)
    (hm : Nat.land 37329456 μ = 37329456 := by first | (apply sub_trans; rotate_left; (with_reducible assumption); rfl) | rfl) : TouchM μ s₀ (State.leaveDoze s) := by
  unfold State.leaveDoze
  (try dsimp only)
  repeat' first | with_reducible assumption | (with_reducible first | apply State.stopEntry_touch | apply State.setPower_touch | apply State.nextSlice_touch) | split | exact (rfl : Nat.land _ _ = _) | exact sub_trans rfl hm | intro _ | dsimp only | assumption

theorem State.noteCommand_touch {μ : Nat} {s₀ s : State} (h : TouchM μ s₀ s)
    (hm : Nat.land 37329456 μ = 37329456 := by first | (apply sub_trans; rotate_left; (with_reducible assumption); rfl) | rfl) : TouchM μ s₀ (State.noteCommand s) := by
  unfold State.noteCommand
  (try dsimp only)
  repeat' first | with_reducible assumption | (with_reducible first | apply State.modPwr_touch | apply State.leaveDoze_touch | apply State.stopEntry_touch) | split | exact (rfl : Nat.land _ _ = _) | exact sub_trans rfl hm | intro _ | dsimp only | assumption

theorem execDozeExit_touch (s : State) : TouchOut 37329456 s (execDozeExit s) := by
  have h := TouchM.refl 37329456 s
  unfold execDozeExit
  (try dsimp only)
  repeat' first | with_reducible assumption | (with_reducible first | apply State.leaveDoze_touch | apply State.done_touch) | split | exact (rfl : Nat.land _ _ = _) | exact sub_trans rfl hm | intro _ | dsimp only | assumption

theorem State.copyDrydown_touch {μ : Nat} {s₀ s : State} (h : TouchM μ s₀ s)
    (hm : Nat.land 256 μ = 256 := by first | (apply sub_trans; rotate_left; (with_reducible assumption); rfl) | rfl) : TouchM μ s₀ (State.copyDrydown s) := by
  unfold State.copyDrydown
  (try dsimp only)
  repeat' first | with_reducible assumption | (with_reducible first | apply State.modSeg_touch | apply each_touch) | split | exact (rfl : Nat.land _ _ = _) | exact sub_trans rfl hm | intro _ | dsimp only | assumption

theorem State.segToPatrol_touch {μ : Nat} {s₀ s : State} (h : TouchM μ s₀ s) (g : Seg) (first : Nat)
    (hm : Nat.land 67109648 μ = 67109648 := by first | (apply sub_trans; rotate_left; (with_reducible assumption); rfl) | rfl) : TouchM μ s₀ (State.segToPatrol s g first) := by
  unfold State.segToPatrol
  (try dsimp only)
  repeat' first | with_reducible assumption | (with_reducible first | apply State.captureWindow_touch | apply State.modLink_touch | apply State.modSeg_touch | apply State.startTimer_touch | apply State.modCell_touch | apply each_touch) | split | exact (rfl : Nat.land _ _ = _) | exact sub_trans rfl hm | intro _ | dsimp only | assumption

theorem execDrydownEntered_touch (s : State) : TouchOut 104438582 s (execDrydownEntered s) := by
  have h := TouchM.refl 104438582 s
  unfold execDrydownEntered
  (try dsimp only)
  repeat' first | with_reducible assumption | (with_reducible first | apply State.done_touch | apply State.stopEntry_touch | apply State.abortSlice_touch | apply State.stageOff_touch | apply State.enter_touch | apply State.setPower_touch | apply State.modPwr_touch | apply State.segToPatrol_touch | apply State.copyDrydown_touch | apply each_touch) | split | exact (rfl : Nat.land _ _ = _) | exact sub_trans rfl hm | intro _ | dsimp only | assumption

theorem State.dormantPatrol_touch {μ : Nat} {s₀ s : State} (h : TouchM μ s₀ s) (g : Seg)
    (hm : Nat.land 256 μ = 256 := by first | (apply sub_trans; rotate_left; (with_reducible assumption); rfl) | rfl) : TouchM μ s₀ (State.dormantPatrol s g) := by
  unfold State.dormantPatrol
  (try dsimp only)
  repeat' first | with_reducible assumption | (with_reducible first | apply State.modSeg_touch) | split | exact (rfl : Nat.land _ _ = _) | exact sub_trans rfl hm | intro _ | dsimp only | assumption

theorem State.startExit_touch {μ : Nat} {s₀ s : State} (h : TouchM μ s₀ s)
    (hm : Nat.land 33568 μ = 33568 := by first | (apply sub_trans; rotate_left; (with_reducible assumption); rfl) | rfl) : TouchM μ s₀ (State.startExit s) := by
  unfold State.startExit
  (try dsimp only)
  repeat' first | with_reducible assumption | (with_reducible first | apply State.segRouse_touch | apply State.modPwr_touch | apply each_touch) | split | exact (rfl : Nat.land _ _ = _) | exact sub_trans rfl hm | intro _ | dsimp only | assumption

theorem execDrydownExit_touch (s : State) : TouchOut 37337906 s (execDrydownExit s) := by
  have h := TouchM.refl 37337906 s
  unfold execDrydownExit
  (try dsimp only)
  repeat' first | with_reducible assumption | (with_reducible first | apply State.done_touch | apply State.modPwr_touch | apply State.enter_touch | apply State.drydownLeft_touch | apply State.modBist_touch | apply State.answerWakes_touch | apply State.setPower_touch) | split | exact (rfl : Nat.land _ _ = _) | exact sub_trans rfl hm | intro _ | dsimp only | assumption

theorem State.wakeCmd_touch {μ : Nat} {s₀ s : State} (h : TouchM μ s₀ s) (o : Origin)
    (hm : Nat.land 33568 μ = 33568 := by first | (apply sub_trans; rotate_left; (with_reducible assumption); rfl) | rfl) : TouchM μ s₀ (State.wakeCmd s o).1 := by
  unfold State.wakeCmd
  (try dsimp only)
  repeat' first | with_reducible assumption | (with_reducible first | apply State.startExit_touch | apply State.modPwr_touch) | split | exact (rfl : Nat.land _ _ = _) | exact sub_trans rfl hm | intro _ | dsimp only | assumption

theorem State.wakeCmd_touchEq {μ : Nat} {s₀ s u₁ : State} {a₁} {o : Origin}
    (e : State.wakeCmd s o = (u₁, a₁)) (h : TouchM μ s₀ s) (hm : Nat.land 33568 μ = 33568 := by first | (apply sub_trans; rotate_left; (with_reducible assumption); rfl) | rfl) : TouchM μ s₀ u₁ := by
  have k := State.wakeCmd_touch h o hm
  rw [e] at k
  exact k

theorem State.budgetWritten_touch {μ : Nat} {s₀ s : State} (h : TouchM μ s₀ s)
    (hm : Nat.land 37329712 μ = 37329712 := by first | (apply sub_trans; rotate_left; (with_reducible assumption); rfl) | rfl) : TouchM μ s₀ (State.budgetWritten s) := by
  unfold State.budgetWritten
  (try dsimp only)
  repeat' first | with_reducible assumption | (with_reducible first | apply State.startExit_touch | apply State.modPwr_touch | apply State.evaluatePower_touch) | split | exact (rfl : Nat.land _ _ = _) | exact sub_trans rfl hm | intro _ | dsimp only | assumption

theorem State.powerBudgetCmd_touch {μ : Nat} {s₀ s : State} (h : TouchM μ s₀ s) (us : Word)
    (hm : Nat.land 37329720 μ = 37329720 := by first | (apply sub_trans; rotate_left; (with_reducible assumption); rfl) | rfl) : TouchM μ s₀ (State.powerBudgetCmd s us) := by
  unfold State.powerBudgetCmd
  (try dsimp only)
  repeat' first | with_reducible assumption | (with_reducible first | apply State.setFld_touch | apply State.budgetWritten_touch) | split | exact (rfl : Nat.land _ _ = _) | exact sub_trans rfl hm | intro _ | dsimp only | assumption

theorem State.wokenBySymbol_touch {μ : Nat} {s₀ s : State} (h : TouchM μ s₀ s)
    (hm : Nat.land 37329712 μ = 37329712 := by first | (apply sub_trans; rotate_left; (with_reducible assumption); rfl) | rfl) : TouchM μ s₀ (State.wokenBySymbol s) := by
  unfold State.wokenBySymbol
  (try dsimp only)
  repeat' first | with_reducible assumption | (with_reducible first | apply State.startExit_touch | apply State.modPwr_touch | apply State.leaveDoze_touch | apply State.stopEntry_touch | apply State.setPower_touch) | split | exact (rfl : Nat.land _ _ = _) | exact sub_trans rfl hm | intro _ | dsimp only | assumption

theorem State.wroteWakeCause_touch {μ : Nat} {s₀ s : State} (h : TouchM μ s₀ s) (v : Word)
    (hm : Nat.land 32772 μ = 32772 := by first | (apply sub_trans; rotate_left; (with_reducible assumption); rfl) | rfl) : TouchM μ s₀ (State.wroteWakeCause s v) := by
  unfold State.wroteWakeCause
  (try dsimp only)
  repeat' first | with_reducible assumption | (with_reducible first | apply State.modPwr_touch | apply State.setPins_touch) | split | exact (rfl : Nat.land _ _ = _) | exact sub_trans rfl hm | intro _ | dsimp only | assumption

theorem State.beginPatrol_touch {μ : Nat} {s₀ s : State} (h : TouchM μ s₀ s) (g : Seg) (f : Segment → Segment)
    (hm : Nat.land 288 μ = 288 := by first | (apply sub_trans; rotate_left; (with_reducible assumption); rfl) | rfl) : TouchM μ s₀ (State.beginPatrol s g f) := by
  unfold State.beginPatrol
  (try dsimp only)
  repeat' first | with_reducible assumption | (with_reducible first | apply State.modSeg_touch | apply State.modMeas_touch | apply each_touch) | split | exact (rfl : Nat.land _ _ = _) | exact sub_trans rfl hm | intro _ | dsimp only | assumption

theorem State.patrolBeacon_touch {μ : Nat} {s₀ s : State} (h : TouchM μ s₀ s) (g : Seg)
    (hm : Nat.land 512 μ = 512 := by first | (apply sub_trans; rotate_left; (with_reducible assumption); rfl) | rfl) : TouchM μ s₀ (State.patrolBeacon s g) := by
  unfold State.patrolBeacon
  (try dsimp only)
  repeat' first | with_reducible assumption | (with_reducible first | apply State.modLink_touch) | split | exact (rfl : Nat.land _ _ = _) | exact sub_trans rfl hm | intro _ | dsimp only | assumption

theorem execPatrol_touch (s : State) (g : Seg) : TouchOut 800 s (execPatrol g s) := by
  have h := TouchM.refl 800 s
  unfold execPatrol
  (try dsimp only)
  repeat' first | with_reducible assumption | (with_reducible first | apply State.done_touch | apply State.beginPatrol_touch | apply State.patrolBeacon_touch) | split | exact (rfl : Nat.land _ _ = _) | exact sub_trans rfl hm | intro _ | dsimp only | assumption

theorem execConfirmationPatrol_touch (s : State) (g : Seg) : TouchOut 288 s (execConfirmationPatrol g s) := by
  have h := TouchM.refl 288 s
  unfold execConfirmationPatrol
  (try dsimp only)
  repeat' first | with_reducible assumption | (with_reducible first | apply State.done_touch | apply State.beginPatrol_touch) | split | exact (rfl : Nat.land _ _ = _) | exact sub_trans rfl hm | intro _ | dsimp only | assumption

theorem State.writeLog_touch {μ : Nat} {s₀ s : State} (h : TouchM μ s₀ s) (g : Seg) (e : LogEntry)
    (hm : Nat.land 256 μ = 256 := by first | (apply sub_trans; rotate_left; (with_reducible assumption); rfl) | rfl) : TouchM μ s₀ (State.writeLog s g e) := by
  unfold State.writeLog
  (try dsimp only)
  repeat' first | with_reducible assumption | (with_reducible first | apply State.modSeg_touch) | split | exact (rfl : Nat.land _ _ = _) | exact sub_trans rfl hm | intro _ | dsimp only | assumption

theorem State.patrolKval_touch {μ : Nat} {s₀ s : State} (h : TouchM μ s₀ s) (g : Seg) (w : Nat) (dieTemp : Int) (cells : List Patrolled)
    (hm : Nat.land 192 μ = 192 := by first | (apply sub_trans; rotate_left; (with_reducible assumption); rfl) | rfl) : TouchM μ s₀ (State.patrolKval s g w dieTemp cells) := by
  unfold State.patrolKval
  (try dsimp only)
  repeat' first | with_reducible assumption | (with_reducible first | apply State.modTemp_touch | apply State.kvalSample_touch | apply each_touch) | split | exact (rfl : Nat.land _ _ = _) | exact sub_trans rfl hm | intro _ | dsimp only | assumption

theorem State.patrolFindings_touch {μ : Nat} {s₀ s : State} (h : TouchM μ s₀ s) (g : Seg) (x : Segment) (w stackMv : Nat) (dieTemp : Int) (cells : List Patrolled)
    (hm : Nat.land 768 μ = 768 := by first | (apply sub_trans; rotate_left; (with_reducible assumption); rfl) | rfl) : TouchM μ s₀ (State.patrolFindings s g x w stackMv dieTemp cells) := by
  unfold State.patrolFindings
  (try dsimp only)
  repeat' first | with_reducible assumption | (with_reducible first | apply State.writeLog_touch | apply State.modSeg_touch | apply State.modLink_touch | apply foldl_touch) | split | exact (rfl : Nat.land _ _ = _) | exact sub_trans rfl hm | intro _ | dsimp only | assumption

theorem State.closeWindow_touch {μ : Nat} {s₀ s : State} (h : TouchM μ s₀ s) (g : Seg) (w stackMv : Nat) (dieTemp : Int) (cells : List Patrolled)
    (hm : Nat.land 17344 μ = 17344 := by first | (apply sub_trans; rotate_left; (with_reducible assumption); rfl) | rfl) : TouchM μ s₀ (State.closeWindow s g w stackMv dieTemp cells) := by
  unfold State.closeWindow
  (try dsimp only)
  repeat' first | with_reducible assumption | (with_reducible first | apply State.modSeg_touch | apply State.modTherm_touch | apply State.patrolKval_touch | apply State.patrolFindings_touch) | split | exact (rfl : Nat.land _ _ = _) | exact sub_trans rfl hm | intro _ | dsimp only | assumption

theorem execPatrolWindowEnd_touch (s : State) (g : Seg) (stackMv : Nat) (dieTemp : Int) (cells : List PatrolCell) : TouchOut 17344 s (execPatrolWindowEnd g stackMv dieTemp cells s) := by
  have h := TouchM.refl 17344 s
  unfold execPatrolWindowEnd
  (try dsimp only)
  repeat' first | with_reducible assumption | (with_reducible first | apply State.done_touch | apply State.closeWindow_touch) | split | exact (rfl : Nat.land _ _ = _) | exact sub_trans rfl hm | intro _ | dsimp only | assumption

theorem State.sendWake_touch {μ : Nat} {s₀ s : State} (h : TouchM μ s₀ s)
    (hm : Nat.land 33554432 μ = 33554432 := by first | (apply sub_trans; rotate_left; (with_reducible assumption); rfl) | rfl) : TouchM μ s₀ (State.sendWake s) := by
  unfold State.sendWake
  (try dsimp only)
  repeat' first | with_reducible assumption | (with_reducible first | apply State.emit_touch) | split | exact (rfl : Nat.land _ _ = _) | exact sub_trans rfl hm | intro _ | dsimp only | assumption

theorem State.countAnomaly_touch {μ : Nat} {s₀ s : State} (h : TouchM μ s₀ s) (g : Seg) (a : Anomaly)
    (hm : Nat.land 33588004 μ = 33588004 := by first | (apply sub_trans; rotate_left; (with_reducible assumption); rfl) | rfl) : TouchM μ s₀ (State.countAnomaly s g a) := by
  unfold State.countAnomaly
  (try dsimp only)
  repeat' first | with_reducible assumption | (with_reducible first | apply State.modPwr_touch | apply State.startExit_touch | apply State.setPins_touch | apply State.sendWake_touch) | split | exact (rfl : Nat.land _ _ = _) | exact sub_trans rfl hm | intro _ | dsimp only | assumption

theorem execPatrolReport_touch (s : State) (g : Seg) : TouchOut 33588004 s (execPatrolReport g s) := by
  have h := TouchM.refl 33588004 s
  unfold execPatrolReport
  (try dsimp only)
  repeat' first | with_reducible assumption | (with_reducible first | apply State.done_touch | apply State.modLink_touch | apply State.modPwr_touch | apply State.countAnomaly_touch | apply each_touch) | split | exact (rfl : Nat.land _ _ = _) | exact sub_trans rfl hm | intro _ | dsimp only | assumption

theorem execSegLost_touch (s : State) (g : Seg) : TouchOut 33588004 s (execSegLost g s) := by
  have h := TouchM.refl 33588004 s
  unfold execSegLost
  (try dsimp only)
  repeat' first | with_reducible assumption | (with_reducible first | apply State.countAnomaly_touch | apply State.done_touch) | split | exact (rfl : Nat.land _ _ = _) | exact sub_trans rfl hm | intro _ | dsimp only | assumption

theorem execStackLow_touch (s : State) (g : Seg) (mv : Nat) : TouchOut 258 s (execStackLow g mv s) := by
  have h := TouchM.refl 258 s
  unfold execStackLow
  (try dsimp only)
  repeat' first | with_reducible assumption | (with_reducible first | apply State.modSeg_touch | apply State.enter_touch | apply State.done_touch) | split | exact (rfl : Nat.land _ _ = _) | exact sub_trans rfl hm | intro _ | dsimp only | assumption

end Sys2Proof.Machine
end

