-- ==== Sys2Proof/Laws/TouchFlaconCheck.lean ====
section
/-!
SUPPORT. Which parts of the state the operations of Machine/FlaconCheck.lean may change.
-/

namespace Sys2Proof.Machine

theorem State.noteVerdict_touch {μ : Nat} {s₀ s : State} (h : TouchM μ s₀ s) (v : Verdict)
    (hm : Nat.land 1024 μ = 1024 := by first | (apply sub_trans; rotate_left; (with_reducible assumption); rfl) | rfl) : TouchM μ s₀ (State.noteVerdict s v) := by
  unfold State.noteVerdict
  (try dsimp only)
  repeat' first | with_reducible assumption | (with_reducible first | apply State.modPlay_touch) | split | exact (rfl : Nat.land _ _ = _) | exact sub_trans rfl hm | intro _ | dsimp only | assumption

end Sys2Proof.Machine
end

