-- ==== Sys2Proof/Laws/TouchNvmOps.lean ====
section
/-!
SUPPORT. Which parts of the state the operations of Machine/NvmOps.lean may change.
-/

namespace Sys2Proof.Machine

-- One theorem at a time, which bounds the memory of the whole package's compile.
set_option Elab.async false

theorem State.countErase_touch {μ : Nat} {s₀ s : State} (h : TouchM μ s₀ s) (key : Nat)
    (hm : Nat.land 9437184 μ = 9437184 := by first | (apply sub_trans; rotate_left; (with_reducible assumption); rfl) | rfl) : TouchM μ s₀ (State.countErase s key) := by
  unfold State.countErase
  (try dsimp only)
  repeat' first | with_reducible assumption | (with_reducible first | apply State.modNvm_touch | apply State.raise_touch) | split | exact (rfl : Nat.land _ _ = _) | exact sub_trans rfl hm | intro _ | dsimp only | assumption

theorem State.imageDamaged_touch {μ : Nat} {s₀ s : State} (h : TouchM μ s₀ s) (region : Nat) (trailer : Bool)
    (hm : Nat.land 9437184 μ = 9437184 := by first | (apply sub_trans; rotate_left; (with_reducible assumption); rfl) | rfl) : TouchM μ s₀ (State.imageDamaged s region trailer) := by
  unfold State.imageDamaged
  (try dsimp only)
  repeat' first | with_reducible assumption | (with_reducible first | apply State.modNvm_touch | apply State.raise_touch) | split | exact (rfl : Nat.land _ _ = _) | exact sub_trans rfl hm | intro _ | dsimp only | assumption

theorem State.judgedFromFlash_touch {μ : Nat} {s₀ s : State} (h : TouchM μ s₀ s) (region : Nat) (l : List Byte)
    (hm : Nat.land 9437184 μ = 9437184 := by first | (apply sub_trans; rotate_left; (with_reducible assumption); rfl) | rfl) : TouchM μ s₀ (State.judgedFromFlash s region l) := by
  unfold State.judgedFromFlash
  (try dsimp only)
  repeat' first | with_reducible assumption | (with_reducible first | apply State.imageDamaged_touch | apply State.raise_touch | apply State.modNvm_touch) | split | exact (rfl : Nat.land _ _ = _) | exact sub_trans rfl hm | intro _ | dsimp only | assumption

theorem State.writeConfig_touch {μ : Nat} {s₀ s : State} (h : TouchM μ s₀ s) (key corrections : List Byte) (o : Origin)
    (hm : Nat.land 8388608 μ = 8388608 := by first | (apply sub_trans; rotate_left; (with_reducible assumption); rfl) | rfl) : TouchM μ s₀ (State.writeConfig s key corrections o) := by
  unfold State.writeConfig
  (try dsimp only)
  repeat' first | with_reducible assumption | (with_reducible first | apply State.pushJob_touch) | split | exact (rfl : Nat.land _ _ = _) | exact sub_trans rfl hm | intro _ | dsimp only | assumption

theorem State.startRepair_touch {μ : Nat} {s₀ s : State} (h : TouchM μ s₀ s)
    (hm : Nat.land 8388608 μ = 8388608 := by first | (apply sub_trans; rotate_left; (with_reducible assumption); rfl) | rfl) : TouchM μ s₀ (State.startRepair s) := by
  unfold State.startRepair
  (try dsimp only)
  repeat' first | with_reducible assumption | (with_reducible first | apply State.modNvm_touch | apply State.pushJob_touch | apply State.writeConfig_touch) | split | exact (rfl : Nat.land _ _ = _) | exact sub_trans rfl hm | intro _ | dsimp only | assumption

theorem State.repairTarget_touch {μ : Nat} {s₀ s : State} (h : TouchM μ s₀ s) (region : Nat) (trailer : Bool) (sector : Nat)
    (hm : Nat.land 8388608 μ = 8388608 := by first | (apply sub_trans; rotate_left; (with_reducible assumption); rfl) | rfl) : TouchM μ s₀ (State.repairTarget s region trailer sector) := by
  unfold State.repairTarget
  (try dsimp only)
  repeat' first | with_reducible assumption | (with_reducible first | apply State.pushRepair_touch) | split | exact (rfl : Nat.land _ _ = _) | exact sub_trans rfl hm | intro _ | dsimp only | assumption

theorem State.beginStore_touch {μ : Nat} {s₀ s : State} (h : TouchM μ s₀ s) (i : Nat) (o : Origin) (st : Status)
    (hm : Nat.land 8388608 μ = 8388608 := by first | (apply sub_trans; rotate_left; (with_reducible assumption); rfl) | rfl) : TouchM μ s₀ (State.beginStore s i o st).1 := by
  unfold State.beginStore
  (try dsimp only)
  repeat' first | with_reducible assumption | (with_reducible first | apply State.countRefusal_touch | apply State.appendRecord_touch | apply State.modNvm_touch | apply State.pushJob_touch) | split | exact (rfl : Nat.land _ _ = _) | exact sub_trans rfl hm | intro _ | dsimp only | assumption

theorem State.beginStore_touchEq {μ : Nat} {s₀ s u₁ : State} {a₁} {i : Nat} {o : Origin} {st : Status}
    (e : State.beginStore s i o st = (u₁, a₁)) (h : TouchM μ s₀ s) (hm : Nat.land 8388608 μ = 8388608 := by first | (apply sub_trans; rotate_left; (with_reducible assumption); rfl) | rfl) : TouchM μ s₀ u₁ := by
  have k := State.beginStore_touch h i o st hm
  rw [e] at k
  exact k

theorem State.emptyStaged_touch {μ : Nat} {s₀ s : State} (h : TouchM μ s₀ s) (source : Nat)
    (hm : Nat.land 1024 μ = 1024 := by first | (apply sub_trans; rotate_left; (with_reducible assumption); rfl) | rfl) : TouchM μ s₀ (State.emptyStaged s source) := by
  unfold State.emptyStaged
  (try dsimp only)
  repeat' first | with_reducible assumption | (with_reducible first | apply State.modPlay_touch) | split | exact (rfl : Nat.land _ _ = _) | exact sub_trans rfl hm | intro _ | dsimp only | assumption

theorem State.flaconLoad_touch {μ : Nat} {s₀ s : State} (h : TouchM μ s₀ s) (slot : Option (Fin 8)) (offset total : Nat) (data : List Byte)
    (hm : Nat.land 9438208 μ = 9438208 := by first | (apply sub_trans; rotate_left; (with_reducible assumption); rfl) | rfl) : TouchM μ s₀ (State.flaconLoad s slot offset total data).2 := by
  unfold State.flaconLoad
  (try dsimp only)
  repeat' first | with_reducible assumption | (with_reducible first | apply State.emptyStaged_touch | apply State.modPlay_touch | apply State.noteVerdict_touch | apply State.judgedFromFlash_touch | apply State.startRepair_touch) | split | exact (rfl : Nat.land _ _ = _) | exact sub_trans rfl hm | intro _ | dsimp only | assumption

theorem State.flaconLoad_touchEq {μ : Nat} {s₀ s u₁ : State} {a₁} {slot : Option (Fin 8)} {offset total : Nat} {data : List Byte}
    (e : State.flaconLoad s slot offset total data = (a₁, u₁)) (h : TouchM μ s₀ s) (hm : Nat.land 9438208 μ = 9438208 := by first | (apply sub_trans; rotate_left; (with_reducible assumption); rfl) | rfl) : TouchM μ s₀ u₁ := by
  have k := State.flaconLoad_touch h slot offset total data hm
  rw [e] at k
  exact k

theorem State.sendShare_touch {μ : Nat} {s₀ s : State} (h : TouchM μ s₀ s) (g : Seg) (bank : Nat) (l : List Byte)
    (hm : Nat.land 512 μ = 512 := by first | (apply sub_trans; rotate_left; (with_reducible assumption); rfl) | rfl) : TouchM μ s₀ (State.sendShare s g bank l) := by
  unfold State.sendShare
  (try dsimp only)
  repeat' first | with_reducible assumption | (with_reducible first | apply State.sendDown_touch | apply each_touch) | split | exact (rfl : Nat.land _ _ = _) | exact sub_trans rfl hm | intro _ | dsimp only | assumption

theorem State.concludeVerify_touch {μ : Nat} {s₀ s : State} (h : TouchM μ s₀ s)
    (hm : Nat.land 8389640 μ = 8389640 := by first | (apply sub_trans; rotate_left; (with_reducible assumption); rfl) | rfl) : TouchM μ s₀ (State.concludeVerify s).1 := by
  unfold State.concludeVerify
  (try dsimp only)
  repeat' first | with_reducible assumption | (with_reducible first | apply State.modPlay_touch | apply State.store_touch | apply State.beginStore_touch) | split | exact (rfl : Nat.land _ _ = _) | exact sub_trans rfl hm | intro _ | refine State.beginStore_touchEq (by assumption) ?_ | dsimp only | assumption

theorem State.concludeVerify_touchEq {μ : Nat} {s₀ s u₁ : State} {a₁} 
    (e : State.concludeVerify s = (u₁, a₁)) (h : TouchM μ s₀ s) (hm : Nat.land 8389640 μ = 8389640 := by first | (apply sub_trans; rotate_left; (with_reducible assumption); rfl) | rfl) : TouchM μ s₀ u₁ := by
  have k := State.concludeVerify_touch h  hm
  rw [e] at k
  exact k

theorem State.verifyAnswer_touch {μ : Nat} {s₀ s : State} (h : TouchM μ s₀ s) (g : Seg) (st : Status)
    (hm : Nat.land 42533896 μ = 42533896 := by first | (apply sub_trans; rotate_left; (with_reducible assumption); rfl) | rfl) : TouchM μ s₀ (State.verifyAnswer s g st) := by
  unfold State.verifyAnswer
  (try dsimp only)
  repeat' first | with_reducible assumption | (with_reducible first | apply State.modPlay_touch | apply State.concludeVerify_touch | apply State.replyLate_touch) | split | exact (rfl : Nat.land _ _ = _) | exact sub_trans rfl hm | intro _ | refine State.concludeVerify_touchEq (by assumption) ?_ | dsimp only | assumption

theorem State.flaconVerify_touch {μ : Nat} {s₀ s : State} (h : TouchM μ s₀ s) (o : Origin) (store : Option (Fin 8))
    (hm : Nat.land 8390152 μ = 8390152 := by first | (apply sub_trans; rotate_left; (with_reducible assumption); rfl) | rfl) : TouchM μ s₀ (State.flaconVerify s o store).2 := by
  unfold State.flaconVerify
  (try dsimp only)
  repeat' first | with_reducible assumption | (with_reducible first | apply State.unverify_touch | apply State.noteVerdict_touch | apply State.sendShare_touch | apply State.modPlay_touch | apply State.concludeVerify_touch | apply each_touch) | split | exact (rfl : Nat.land _ _ = _) | exact sub_trans rfl hm | intro _ | refine State.concludeVerify_touchEq (by assumption) ?_ | dsimp only | assumption

theorem State.flaconVerify_touchEq {μ : Nat} {s₀ s u₁ : State} {a₁} {o : Origin} {store : Option (Fin 8)}
    (e : State.flaconVerify s o store = (a₁, u₁)) (h : TouchM μ s₀ s) (hm : Nat.land 8390152 μ = 8390152 := by first | (apply sub_trans; rotate_left; (with_reducible assumption); rfl) | rfl) : TouchM μ s₀ u₁ := by
  have k := State.flaconVerify_touch h o store hm
  rw [e] at k
  exact k

theorem State.flaconErase_touch {μ : Nat} {s₀ s : State} (h : TouchM μ s₀ s) (o : Origin) (target : Nat)
    (hm : Nat.land 8389632 μ = 8389632 := by first | (apply sub_trans; rotate_left; (with_reducible assumption); rfl) | rfl) : TouchM μ s₀ (State.flaconErase s o target).2 := by
  unfold State.flaconErase
  (try dsimp only)
  repeat' first | with_reducible assumption | (with_reducible first | apply State.emptyStaged_touch | apply State.countRefusal_touch | apply State.appendRecord_touch | apply State.modNvm_touch | apply State.pushJob_touch) | split | exact (rfl : Nat.land _ _ = _) | exact sub_trans rfl hm | intro _ | dsimp only | assumption

theorem State.flaconErase_touchEq {μ : Nat} {s₀ s u₁ : State} {a₁} {o : Origin} {target : Nat}
    (e : State.flaconErase s o target = (a₁, u₁)) (h : TouchM μ s₀ s) (hm : Nat.land 8389632 μ = 8389632 := by first | (apply sub_trans; rotate_left; (with_reducible assumption); rfl) | rfl) : TouchM μ s₀ u₁ := by
  have k := State.flaconErase_touch h o target hm
  rw [e] at k
  exact k

theorem State.setFwState_touch {μ : Nat} {s₀ s : State} (h : TouchM μ s₀ s) (slot code : Nat)
    (hm : Nat.land 8388608 μ = 8388608 := by first | (apply sub_trans; rotate_left; (with_reducible assumption); rfl) | rfl) : TouchM μ s₀ (State.setFwState s slot code) := by
  unfold State.setFwState
  (try dsimp only)
  repeat' first | with_reducible assumption | (with_reducible first | apply State.modNvm_touch) | split | exact (rfl : Nat.land _ _ = _) | exact sub_trans rfl hm | intro _ | dsimp only | assumption

theorem State.orRefused_touch {μ : Nat} {s₀ s : State} (h : TouchM μ s₀ s) {k : State → Option Result × State}
    (hk : TouchM μ s₀ (k s).2)
    (hm : Nat.land 8388608 μ = 8388608 := by first | (apply sub_trans; rotate_left; (with_reducible assumption); rfl) | rfl) : TouchM μ s₀ (s.orRefused k).2 := by
  unfold State.orRefused
  split
  · exact State.countRefusal_touch h _
  · exact hk


theorem State.fwBegin_touch {μ : Nat} {s₀ s : State} (h : TouchM μ s₀ s) (o : Origin) (total version : Nat)
    (hm : Nat.land 8388608 μ = 8388608 := by first | (apply sub_trans; rotate_left; (with_reducible assumption); rfl) | rfl) : TouchM μ s₀ (State.fwBegin s o total version).2 := by
  unfold State.fwBegin
  (try dsimp only)
  repeat' first | with_reducible assumption | (with_reducible first | apply State.orRefused_touch | apply State.appendRecord_touch | apply State.setFwState_touch | apply State.modNvm_touch | apply State.pushJob_touch) | split | exact (rfl : Nat.land _ _ = _) | exact sub_trans rfl hm | intro _ | dsimp only | assumption

theorem State.fwBegin_touchEq {μ : Nat} {s₀ s u₁ : State} {a₁} {o : Origin} {total version : Nat}
    (e : State.fwBegin s o total version = (a₁, u₁)) (h : TouchM μ s₀ s) (hm : Nat.land 8388608 μ = 8388608 := by first | (apply sub_trans; rotate_left; (with_reducible assumption); rfl) | rfl) : TouchM μ s₀ u₁ := by
  have k := State.fwBegin_touch h o total version hm
  rw [e] at k
  exact k

theorem State.fwChunk_touch {μ : Nat} {s₀ s : State} (h : TouchM μ s₀ s) (o : Origin) (offset : Nat) (data : List Byte)
    (hm : Nat.land 8388608 μ = 8388608 := by first | (apply sub_trans; rotate_left; (with_reducible assumption); rfl) | rfl) : TouchM μ s₀ (State.fwChunk s o offset data).2 := by
  unfold State.fwChunk
  (try dsimp only)
  repeat' first | with_reducible assumption | (with_reducible first | apply State.orRefused_touch | apply State.pushJob_touch) | split | exact (rfl : Nat.land _ _ = _) | exact sub_trans rfl hm | intro _ | dsimp only | assumption

theorem State.fwChunk_touchEq {μ : Nat} {s₀ s u₁ : State} {a₁} {o : Origin} {offset : Nat} {data : List Byte}
    (e : State.fwChunk s o offset data = (a₁, u₁)) (h : TouchM μ s₀ s) (hm : Nat.land 8388608 μ = 8388608 := by first | (apply sub_trans; rotate_left; (with_reducible assumption); rfl) | rfl) : TouchM μ s₀ u₁ := by
  have k := State.fwChunk_touch h o offset data hm
  rw [e] at k
  exact k

theorem State.fwVerify_touch {μ : Nat} {s₀ s : State} (h : TouchM μ s₀ s) (o : Origin)
    (hm : Nat.land 9437184 μ = 9437184 := by first | (apply sub_trans; rotate_left; (with_reducible assumption); rfl) | rfl) : TouchM μ s₀ (State.fwVerify s o).2 := by
  unfold State.fwVerify
  (try dsimp only)
  repeat' first | with_reducible assumption | (with_reducible first | apply State.judgedFromFlash_touch | apply State.orRefused_touch | apply State.appendRecord_touch | apply State.setFwState_touch | apply State.modNvm_touch | apply State.pushJob_touch) | split | exact (rfl : Nat.land _ _ = _) | exact sub_trans rfl hm | intro _ | dsimp only | assumption

theorem State.fwVerify_touchEq {μ : Nat} {s₀ s u₁ : State} {a₁} {o : Origin}
    (e : State.fwVerify s o = (a₁, u₁)) (h : TouchM μ s₀ s) (hm : Nat.land 9437184 μ = 9437184 := by first | (apply sub_trans; rotate_left; (with_reducible assumption); rfl) | rfl) : TouchM μ s₀ u₁ := by
  have k := State.fwVerify_touch h o hm
  rw [e] at k
  exact k

theorem State.fwActivate_touch {μ : Nat} {s₀ s : State} (h : TouchM μ s₀ s) (o : Origin)
    (hm : Nat.land 8388608 μ = 8388608 := by first | (apply sub_trans; rotate_left; (with_reducible assumption); rfl) | rfl) : TouchM μ s₀ (State.fwActivate s o).2 := by
  unfold State.fwActivate
  (try dsimp only)
  repeat' first | with_reducible assumption | (with_reducible first | apply State.orRefused_touch | apply State.pushJob_touch) | split | exact (rfl : Nat.land _ _ = _) | exact sub_trans rfl hm | intro _ | dsimp only | assumption

theorem State.fwActivate_touchEq {μ : Nat} {s₀ s u₁ : State} {a₁} {o : Origin}
    (e : State.fwActivate s o = (a₁, u₁)) (h : TouchM μ s₀ s) (hm : Nat.land 8388608 μ = 8388608 := by first | (apply sub_trans; rotate_left; (with_reducible assumption); rfl) | rfl) : TouchM μ s₀ u₁ := by
  have k := State.fwActivate_touch h o hm
  rw [e] at k
  exact k

theorem State.fwAbort_touch {μ : Nat} {s₀ s : State} (h : TouchM μ s₀ s)
    (hm : Nat.land 8388608 μ = 8388608 := by first | (apply sub_trans; rotate_left; (with_reducible assumption); rfl) | rfl) : TouchM μ s₀ (State.fwAbort s).2 := by
  unfold State.fwAbort
  (try dsimp only)
  repeat' first | with_reducible assumption | (with_reducible first | apply State.setFwState_touch | apply State.modNvm_touch) | split | exact (rfl : Nat.land _ _ = _) | exact sub_trans rfl hm | intro _ | dsimp only | assumption

theorem State.fwAbort_touchEq {μ : Nat} {s₀ s u₁ : State} {a₁} 
    (e : State.fwAbort s = (a₁, u₁)) (h : TouchM μ s₀ s) (hm : Nat.land 8388608 μ = 8388608 := by first | (apply sub_trans; rotate_left; (with_reducible assumption); rfl) | rfl) : TouchM μ s₀ u₁ := by
  have k := State.fwAbort_touch h  hm
  rw [e] at k
  exact k

theorem State.fwKey_touch {μ : Nat} {s₀ s : State} (h : TouchM μ s₀ s) (o : Origin) (key : List Byte)
    (hm : Nat.land 8388608 μ = 8388608 := by first | (apply sub_trans; rotate_left; (with_reducible assumption); rfl) | rfl) : TouchM μ s₀ (State.fwKey s o key).2 := by
  unfold State.fwKey
  (try dsimp only)
  repeat' first | with_reducible assumption | (with_reducible first | apply State.orRefused_touch | apply State.writeConfig_touch) | split | exact (rfl : Nat.land _ _ = _) | exact sub_trans rfl hm | intro _ | dsimp only | assumption

theorem State.fwKey_touchEq {μ : Nat} {s₀ s u₁ : State} {a₁} {o : Origin} {key : List Byte}
    (e : State.fwKey s o key = (a₁, u₁)) (h : TouchM μ s₀ s) (hm : Nat.land 8388608 μ = 8388608 := by first | (apply sub_trans; rotate_left; (with_reducible assumption); rfl) | rfl) : TouchM μ s₀ u₁ := by
  have k := State.fwKey_touch h o key hm
  rw [e] at k
  exact k

theorem State.endRecord_touch {μ : Nat} {s₀ s : State} (h : TouchM μ s₀ s) (kind : Nat) (payload : List Byte) (region : Nat) (o : Origin)
    (op : Nat) (r : Result) {k : State → State} (hk : TouchM μ s₀ (k s))
    (hm : Nat.land 42532864 μ = 42532864 := by first | (apply sub_trans; rotate_left; (with_reducible assumption); rfl) | rfl) : TouchM μ s₀ (s.endRecord kind payload region o op r k) := by
  unfold State.endRecord
  split
  · exact State.replyLate_touch (State.countRefusal_touch h _) _ _ _
  · exact State.pushJob_touch (State.appendRecord_touch hk _ _) _


theorem State.endJob_touch {μ : Nat} {s₀ s : State} (h : TouchM μ s₀ s) (j : Job)
    (hm : Nat.land 43581442 μ = 43581442 := by first | (apply sub_trans; rotate_left; (with_reducible assumption); rfl) | rfl) : TouchM μ s₀ (State.endJob s j) := by
  unfold State.endJob
  (try dsimp only)
  repeat' first | with_reducible assumption | (with_reducible first | apply State.replyLate_touch | apply State.countErase_touch | apply State.modNvm_touch | apply State.endRecord_touch | apply State.setFwState_touch | apply State.modGlb_touch | apply State.countRefusal_touch | apply State.appendRecord_touch | apply State.repairTarget_touch | apply State.journal_touch) | split | exact (rfl : Nat.land _ _ = _) | exact sub_trans rfl hm | intro _ | dsimp only | assumption

theorem State.endJobs_touch {μ : Nat} {s₀ s : State} (h : TouchM μ s₀ s) (n : Nat)
    (hm : Nat.land 43581442 μ = 43581442 := by first | (apply sub_trans; rotate_left; (with_reducible assumption); rfl) | rfl) : TouchM μ s₀ (State.endJobs n s) := by
  induction n generalizing s with
  | zero => exact h
  | succ n ih =>
    unfold State.endJobs
    repeat' first | with_reducible assumption | with_reducible first | apply ih | apply State.startRepair_touch | apply State.endJob_touch | apply State.modNvm_touch | split | exact (rfl : Nat.land _ _ = _) | exact sub_trans rfl hm


theorem State.failOp_touch {μ : Nat} {s₀ s : State} (h : TouchM μ s₀ s) (j : Job) (op : FlashOp) (rest : List Job)
    (hm : Nat.land 110690306 μ = 110690306 := by first | (apply sub_trans; rotate_left; (with_reducible assumption); rfl) | rfl) : TouchM μ s₀ (State.failOp s j op rest) := by
  unfold State.failOp
  (try dsimp only)
  repeat' first | with_reducible assumption | (with_reducible first | apply State.modNvm_touch | apply State.raise_touch | apply State.freeBits_touch | apply State.replyLate_touch | apply State.endJobs_touch) | split | exact (rfl : Nat.land _ _ = _) | exact sub_trans rfl hm | intro _ | dsimp only | assumption

theorem State.endOp_touch {μ : Nat} {s₀ s : State} (h : TouchM μ s₀ s) (erase ok : Bool)
    (hm : Nat.land 110690306 μ = 110690306 := by first | (apply sub_trans; rotate_left; (with_reducible assumption); rfl) | rfl) : TouchM μ s₀ (State.endOp s erase ok) := by
  unfold State.endOp
  (try dsimp only)
  repeat' first | with_reducible assumption | (with_reducible first | apply State.failOp_touch | apply State.modNvm_touch | apply State.countErase_touch | apply State.endJobs_touch) | split | exact (rfl : Nat.land _ _ = _) | exact sub_trans rfl hm | intro _ | dsimp only | assumption

theorem execPageProgrammed_touch (s : State) (ok : Bool) : TouchOut 110690306 s (execPageProgrammed ok s) := by
  have h := TouchM.refl 110690306 s
  unfold execPageProgrammed
  (try dsimp only)
  repeat' first | with_reducible assumption | (with_reducible first | apply State.endOp_touch | apply State.done_touch) | split | exact (rfl : Nat.land _ _ = _) | exact sub_trans rfl hm | intro _ | dsimp only | assumption

theorem execEraseDone_touch (s : State) (ok : Bool) : TouchOut 110690306 s (execEraseDone ok s) := by
  have h := TouchM.refl 110690306 s
  unfold execEraseDone
  (try dsimp only)
  repeat' first | with_reducible assumption | (with_reducible first | apply State.endOp_touch | apply State.done_touch) | split | exact (rfl : Nat.land _ _ = _) | exact sub_trans rfl hm | intro _ | dsimp only | assumption

theorem State.collectLog_touch {μ : Nat} {s₀ s : State} (h : TouchM μ s₀ s) (g : Seg)
    (hm : Nat.land 8389376 μ = 8389376 := by first | (apply sub_trans; rotate_left; (with_reducible assumption); rfl) | rfl) : TouchM μ s₀ (State.collectLog s g) := by
  unfold State.collectLog
  (try dsimp only)
  repeat' first | with_reducible assumption | (with_reducible first | apply State.compareTimer_touch | apply State.modSeg_touch | apply State.appendRecord_touch | apply each_touch) | split | exact (rfl : Nat.land _ _ = _) | exact sub_trans rfl hm | intro _ | dsimp only | assumption

theorem State.collectLogs_touch {μ : Nat} {s₀ s : State} (h : TouchM μ s₀ s)
    (hm : Nat.land 8389376 μ = 8389376 := by first | (apply sub_trans; rotate_left; (with_reducible assumption); rfl) | rfl) : TouchM μ s₀ (State.collectLogs s) := by
  unfold State.collectLogs
  (try dsimp only)
  repeat' first | with_reducible assumption | (with_reducible first | apply State.collectLog_touch | apply each_touch) | split | exact (rfl : Nat.land _ _ = _) | exact sub_trans rfl hm | intro _ | dsimp only | assumption

end Sys2Proof.Machine
end

