-- ==== Sys2Proof/Laws/TouchLinkRows.lean ====
section
/-!
SUPPORT. Which parts of the state the operations of Machine/LinkRows.lean may change.
-/

namespace Sys2Proof.Machine

-- One theorem at a time, which bounds the memory of the whole package's compile.
set_option Elab.async false

theorem execBeaconTx_touch (s : State) : TouchOut 512 s (execBeaconTx s) := by
  have h := TouchM.refl 512 s
  unfold execBeaconTx
  (try dsimp only)
  repeat' first | with_reducible assumption | (with_reducible first | apply State.done_touch | apply State.modLink_touch | apply State.sendDown_touch | apply each_touch) | split | exact (rfl : Nat.land _ _ = _) | exact sub_trans rfl hm | intro _ | dsimp only | assumption

theorem State.parkIn_touch {μ : Nat} {s₀ s : State} (h : TouchM μ s₀ s) (g : Seg) (code : Nat)
    (hm : Nat.land 4144 μ = 4144 := by first | (apply sub_trans; rotate_left; (with_reducible assumption); rfl) | rfl) : TouchM μ s₀ (State.parkIn s g code) := by
  unfold State.parkIn
  (try dsimp only)
  repeat' first | with_reducible assumption | (with_reducible first | apply State.park_touch | apply each_touch) | split | exact (rfl : Nat.land _ _ = _) | exact sub_trans rfl hm | intro _ | dsimp only | assumption

theorem State.takeBeacon_touch {μ : Nat} {s₀ s : State} (h : TouchM μ s₀ s) (g : Seg) (c : Class) (halt patrol : Bool)
    (hm : Nat.land 67109632 μ = 67109632 := by first | (apply sub_trans; rotate_left; (with_reducible assumption); rfl) | rfl) : TouchM μ s₀ (State.takeBeacon s g c halt patrol) := by
  unfold State.takeBeacon
  (try dsimp only)
  repeat' first | with_reducible assumption | (with_reducible first | apply State.modLink_touch | apply State.modSeg_touch | apply State.startTimer_touch) | split | exact (rfl : Nat.land _ _ = _) | exact sub_trans rfl hm | intro _ | dsimp only | assumption

theorem execDownlinkBeacon_touch (s : State) (g : Seg) (crcOk : Bool) : TouchOut 67113776 s (execDownlinkBeacon g crcOk s) := by
  have h := TouchM.refl 67113776 s
  unfold execDownlinkBeacon
  (try dsimp only)
  repeat' first | with_reducible assumption | (with_reducible first | apply State.done_touch | apply State.modLink_touch | apply State.takeBeacon_touch | apply State.parkIn_touch) | split | exact (rfl : Nat.land _ _ = _) | exact sub_trans rfl hm | intro _ | dsimp only | assumption

theorem State.tellNeighbour_touch {μ : Nat} {s₀ s : State} (h : TouchM μ s₀ s) (j : Cell) (l : List EdgeRec)
    (hm : Nat.land 512 μ = 512 := by first | (apply sub_trans; rotate_left; (with_reducible assumption); rfl) | rfl) : TouchM μ s₀ (State.tellNeighbour s j l) := by
  unfold State.tellNeighbour
  (try dsimp only)
  repeat' first | with_reducible assumption | (with_reducible first | apply State.sendDown_touch) | split | exact (rfl : Nat.land _ _ = _) | exact sub_trans rfl hm | intro _ | dsimp only | assumption

theorem execUplinkBeacon_touch (s : State) (g : Seg) (crcOk : Bool) : TouchOut 2560 s (execUplinkBeacon g crcOk s) := by
  have h := TouchM.refl 2560 s
  unfold execUplinkBeacon
  (try dsimp only)
  repeat' first | with_reducible assumption | (with_reducible first | apply State.done_touch | apply State.modLink_touch | apply State.tellNeighbour_touch | apply State.watchV_touch | apply each_touch) | split | exact (rfl : Nat.land _ _ = _) | exact sub_trans rfl hm | intro _ | dsimp only | assumption

theorem execParkSymbolReceived_touch (s : State) (g : Seg) : TouchOut 4912 s (execParkSymbolReceived g s) := by
  have h := TouchM.refl 4912 s
  unfold execParkSymbolReceived
  (try dsimp only)
  repeat' first | with_reducible assumption | (with_reducible first | apply State.modSeg_touch | apply State.modLink_touch | apply State.parkSegment_touch | apply State.done_touch) | split | exact (rfl : Nat.land _ _ = _) | exact sub_trans rfl hm | intro _ | dsimp only | assumption

theorem execLinkSilence_touch (s : State) (g : Seg) : TouchOut 67113264 s (execLinkSilence g s) := by
  have h := TouchM.refl 67113264 s
  unfold execLinkSilence
  (try dsimp only)
  repeat' first | with_reducible assumption | (with_reducible first | apply State.parkSegment_touch | apply State.startTimer_touch | apply State.dormantPatrol_touch | apply State.modSeg_touch | apply State.done_touch) | split | exact (rfl : Nat.land _ _ = _) | exact sub_trans rfl hm | intro _ | dsimp only | assumption

theorem execSpanTrained_touch (s : State) (g : Seg) (trips : List Nat) : TouchOut 3150608 s (execSpanTrained g trips s) := by
  have h := TouchM.refl 3150608 s
  unfold execSpanTrained
  (try dsimp only)
  repeat' first | with_reducible assumption | (with_reducible first | apply State.linkTrained_touch | apply State.checkShunts_touch | apply State.nextSlice_touch | apply State.sendDown_touch | apply State.done_touch) | split | exact (rfl : Nat.land _ _ = _) | exact sub_trans rfl hm | intro _ | dsimp only | assumption

theorem execCarrierLost_touch (s : State) (g : Seg) (carrier : Bool) : TouchOut 1049088 s (execCarrierLost g carrier s) := by
  have h := TouchM.refl 1049088 s
  unfold execCarrierLost
  (try dsimp only)
  repeat' first | with_reducible assumption | (with_reducible first | apply State.modLink_touch | apply State.raise_touch | apply State.done_touch) | split | exact (rfl : Nat.land _ _ = _) | exact sub_trans rfl hm | intro _ | dsimp only | assumption

theorem execBackgroundTraining_touch (s : State) (g : Seg) (passed : Bool) : TouchOut 512 s (execBackgroundTraining g passed s) := by
  have h := TouchM.refl 512 s
  unfold execBackgroundTraining
  (try dsimp only)
  repeat' first | with_reducible assumption | (with_reducible first | apply State.modLink_touch | apply State.done_touch) | split | exact (rfl : Nat.land _ _ = _) | exact sub_trans rfl hm | intro _ | dsimp only | assumption

theorem State.releaseHeld_touch {μ : Nat} {s₀ s : State} (h : TouchM μ s₀ s) (k : Cell)
    (hm : Nat.land 4640 μ = 4640 := by first | (apply sub_trans; rotate_left; (with_reducible assumption); rfl) | rfl) : TouchM μ s₀ (State.releaseHeld s k) := by
  unfold State.releaseHeld
  (try dsimp only)
  repeat' first | with_reducible assumption | (with_reducible first | apply State.releaseAs_touch | apply State.modMeas_touch | apply State.loseCover_touch | apply each_touch) | split | exact (rfl : Nat.land _ _ = _) | exact sub_trans rfl hm | intro _ | dsimp only | assumption

theorem State.loseLink_touch {μ : Nat} {s₀ s : State} (h : TouchM μ s₀ s) (g : Seg)
    (hm : Nat.land 45686328 μ = 45686328 := by first | (apply sub_trans; rotate_left; (with_reducible assumption); rfl) | rfl) : TouchM μ s₀ (State.loseLink s g) := by
  unfold State.loseLink
  (try dsimp only)
  repeat' first | with_reducible assumption | (with_reducible first | apply State.abortSegSlice_touch | apply State.captureWindow_touch | apply State.modLink_touch | apply State.raise_touch | apply State.checkShunts_touch | apply State.releaseHeld_touch | apply State.verifyAnswer_touch | apply each_touch) | split | exact (rfl : Nat.land _ _ = _) | exact sub_trans rfl hm | intro _ | dsimp only | assumption

theorem execLinkLost_touch (s : State) (g : Seg) : TouchOut 45686328 s (execLinkLost g s) := by
  have h := TouchM.refl 45686328 s
  unfold execLinkLost
  (try dsimp only)
  repeat' first | with_reducible assumption | (with_reducible first | apply State.loseLink_touch | apply State.done_touch) | split | exact (rfl : Nat.land _ _ = _) | exact sub_trans rfl hm | intro _ | dsimp only | assumption

theorem execSpanResend_touch (s : State) (g : Seg) (up : Bool) : TouchOut 512 s (execSpanResend g up s) := by
  have h := TouchM.refl 512 s
  unfold execSpanResend
  (try dsimp only)
  repeat' first | with_reducible assumption | (with_reducible first | apply State.modLink_touch | apply State.done_touch) | split | exact (rfl : Nat.land _ _ = _) | exact sub_trans rfl hm | intro _ | dsimp only | assumption

theorem State.takeDown_touch {μ : Nat} {s₀ s : State} (h : TouchM μ s₀ s) (g : Seg)
    (hm : Nat.land 512 μ = 512 := by first | (apply sub_trans; rotate_left; (with_reducible assumption); rfl) | rfl) : TouchM μ s₀ (State.takeDown s g) := by
  unfold State.takeDown
  (try dsimp only)
  repeat' first | with_reducible assumption | (with_reducible first | apply State.modLink_touch) | split | exact (rfl : Nat.land _ _ = _) | exact sub_trans rfl hm | intro _ | dsimp only | assumption

theorem State.takeUp_touch {μ : Nat} {s₀ s : State} (h : TouchM μ s₀ s) (g : Seg)
    (hm : Nat.land 512 μ = 512 := by first | (apply sub_trans; rotate_left; (with_reducible assumption); rfl) | rfl) : TouchM μ s₀ (State.takeUp s g) := by
  unfold State.takeUp
  (try dsimp only)
  repeat' first | with_reducible assumption | (with_reducible first | apply State.modLink_touch) | split | exact (rfl : Nat.land _ _ = _) | exact sub_trans rfl hm | intro _ | dsimp only | assumption

theorem State.applyWindow_touch {μ : Nat} {s₀ s : State} (h : TouchM μ s₀ s) (g : Seg) (off : Nat) (v mask : Word)
    (hm : Nat.land 4400 μ = 4400 := by first | (apply sub_trans; rotate_left; (with_reducible assumption); rfl) | rfl) : TouchM μ s₀ (State.applyWindow s g off v mask) := by
  unfold State.applyWindow
  (try dsimp only)
  repeat' first | with_reducible assumption | (with_reducible first | apply State.releaseKeeper_touch | apply State.modSeg_touch | apply State.wroteCellCfg_touch) | split | exact (rfl : Nat.land _ _ = _) | exact sub_trans rfl hm | intro _ | dsimp only | assumption

theorem execConfig_touch (s : State) (g : Seg) : TouchOut 4912 s (execConfig g s) := by
  have h := TouchM.refl 4912 s
  unfold execConfig
  (try dsimp only)
  repeat' first | with_reducible assumption | (with_reducible first | apply State.done_touch | apply State.takeDown_touch | apply State.modSeg_touch | apply State.applyWindow_touch | apply State.sendUp_touch) | split | exact (rfl : Nat.land _ _ = _) | exact sub_trans rfl hm | intro _ | dsimp only | assumption

theorem execRead_touch (s : State) (g : Seg) : TouchOut 512 s (execRead g s) := by
  have h := TouchM.refl 512 s
  unfold execRead
  (try dsimp only)
  repeat' first | with_reducible assumption | (with_reducible first | apply State.done_touch | apply State.takeDown_touch | apply State.sendUp_touch) | split | exact (rfl : Nat.land _ _ = _) | exact sub_trans rfl hm | intro _ | dsimp only | assumption

theorem execShare_touch (s : State) (g : Seg) : TouchOut 768 s (execShare g s) := by
  have h := TouchM.refl 768 s
  unfold execShare
  (try dsimp only)
  repeat' first | with_reducible assumption | (with_reducible first | apply State.done_touch | apply State.takeDown_touch | apply State.modSeg_touch | apply State.sendUp_touch) | split | exact (rfl : Nat.land _ _ = _) | exact sub_trans rfl hm | intro _ | dsimp only | assumption

theorem execTimeMessage_touch (s : State) (g : Seg) (trip : Nat) : TouchOut 768 s (execTimeMessage g trip s) := by
  have h := TouchM.refl 768 s
  unfold execTimeMessage
  (try dsimp only)
  repeat' first | with_reducible assumption | (with_reducible first | apply State.done_touch | apply State.takeDown_touch | apply State.compareTimer_touch | apply State.modSeg_touch | apply State.modLink_touch) | split | exact (rfl : Nat.land _ _ = _) | exact sub_trans rfl hm | intro _ | dsimp only | assumption

theorem execIslot_touch (s : State) (g : Seg) : TouchOut 768 s (execIslot g s) := by
  have h := TouchM.refl 768 s
  unfold execIslot
  (try dsimp only)
  repeat' first | with_reducible assumption | (with_reducible first | apply State.done_touch | apply State.takeDown_touch | apply State.modSeg_touch | apply State.sendUp_touch | apply each_touch) | split | exact (rfl : Nat.land _ _ = _) | exact sub_trans rfl hm | intro _ | dsimp only | assumption

theorem execNeighbour_touch (s : State) (g : Seg) : TouchOut 4640 s (execNeighbour g s) := by
  have h := TouchM.refl 4640 s
  unfold execNeighbour
  (try dsimp only)
  repeat' first | with_reducible assumption | (with_reducible first | apply State.done_touch | apply State.takeDown_touch | apply State.neighbourMoved_touch | apply State.disturb_touch | apply State.coverTo_touch | apply each_touch) | split | exact (rfl : Nat.land _ _ = _) | exact sub_trans rfl hm | intro _ | dsimp only | assumption

theorem State.segmentAction_touch {μ : Nat} {s₀ s : State} (h : TouchM μ s₀ s) (g : Seg) (c : SegCmd)
    (hm : Nat.land 37297968 μ = 37297968 := by first | (apply sub_trans; rotate_left; (with_reducible assumption); rfl) | rfl) : TouchM μ s₀ (State.segmentAction s g c) := by
  unfold State.segmentAction
  (try dsimp only)
  repeat' first | with_reducible assumption | (with_reducible first | apply State.releaseCell_touch | apply State.modSeg_touch | apply State.modShunts_touch | apply State.abortSegSlice_touch | apply State.segDieReset_touch | apply each_touch) | split | exact (rfl : Nat.land _ _ = _) | exact sub_trans rfl hm | intro _ | dsimp only | assumption

theorem execSegmentCmd_touch (s : State) (g : Seg) : TouchOut 37297968 s (execSegmentCmd g s) := by
  have h := TouchM.refl 37297968 s
  unfold execSegmentCmd
  (try dsimp only)
  repeat' first | with_reducible assumption | (with_reducible first | apply State.done_touch | apply State.takeDown_touch | apply State.segmentAction_touch | apply State.sendUp_touch) | split | exact (rfl : Nat.land _ _ = _) | exact sub_trans rfl hm | intro _ | dsimp only | assumption

theorem execEdge_touch (s : State) (g : Seg) : TouchOut 1050240 s (execEdge g s) := by
  have h := TouchM.refl 1050240 s
  unfold execEdge
  (try dsimp only)
  repeat' first | with_reducible assumption | (with_reducible first | apply State.done_touch | apply State.takeUp_touch | apply State.countMod_touch | apply State.modAna_touch | apply State.tellNeighbour_touch) | split | exact (rfl : Nat.land _ _ = _) | exact sub_trans rfl hm | intro _ | dsimp only | assumption

theorem execFaultMessage_touch (s : State) (g : Seg) : TouchOut 133808062 s (execFaultMessage g s) := by
  have h := TouchM.refl 133808062 s
  unfold execFaultMessage
  (try dsimp only)
  repeat' first | with_reducible assumption | (with_reducible first | apply State.done_touch | apply State.takeUp_touch | apply State.modFlt_touch | apply State.recordAndReact_touch | apply State.modLink_touch | apply State.report_touch) | split | exact (rfl : Nat.land _ _ = _) | exact sub_trans rfl hm | intro _ | dsimp only | assumption

theorem execOutput_touch (s : State) (g : Seg) : TouchOut 34153088 s (execOutput g s) := by
  have h := TouchM.refl 34153088 s
  unfold execOutput
  (try dsimp only)
  repeat' first | with_reducible assumption | (with_reducible first | apply State.done_touch | apply State.takeUp_touch | apply State.dqdvOutput_touch | apply State.kvalSample_touch) | split | exact (rfl : Nat.land _ _ = _) | exact sub_trans rfl hm | intro _ | dsimp only | assumption

theorem State.addSums_touch {μ : Nat} {s₀ s : State} (h : TouchM μ s₀ s) (k : Cell) (x : Sums)
    (hm : Nat.land 128 μ = 128 := by first | (apply sub_trans; rotate_left; (with_reducible assumption); rfl) | rfl) : TouchM μ s₀ (State.addSums s k x) := by
  unfold State.addSums
  (try dsimp only)
  repeat' first | with_reducible assumption | (with_reducible first | apply State.modAna_touch) | split | exact (rfl : Nat.land _ _ = _) | exact sub_trans rfl hm | intro _ | dsimp only | assumption

theorem execSums_touch (s : State) (g : Seg) : TouchOut 640 s (execSums g s) := by
  have h := TouchM.refl 640 s
  unfold execSums
  (try dsimp only)
  repeat' first | with_reducible assumption | (with_reducible first | apply State.done_touch | apply State.takeUp_touch | apply State.addSums_touch) | split | exact (rfl : Nat.land _ _ = _) | exact sub_trans rfl hm | intro _ | dsimp only | assumption

theorem execBurst_touch (s : State) (g : Seg) : TouchOut 640 s (execBurst g s) := by
  have h := TouchM.refl 640 s
  unfold execBurst
  (try dsimp only)
  repeat' first | with_reducible assumption | (with_reducible first | apply State.done_touch | apply State.takeUp_touch | apply State.modAna_touch) | split | exact (rfl : Nat.land _ _ = _) | exact sub_trans rfl hm | intro _ | dsimp only | assumption

theorem State.placeStream_touch {μ : Nat} {s₀ s : State} (h : TouchM μ s₀ s) (position g : Nat) (ws : List (BitVec 64))
    (hm : Nat.land 34078720 μ = 34078720 := by first | (apply sub_trans; rotate_left; (with_reducible assumption); rfl) | rfl) : TouchM μ s₀ (State.placeStream s position g ws) := by
  unfold State.placeStream
  extract_lets gap all setGap put t lost
  have hput : ∀ (b : State × Nat × Bool) grp, TouchM μ s₀ b.1 → TouchM μ s₀ (put b grp).1 := by
    intro b grp hb
    simp only [put]
    split
    · exact hb
    · split
      · next e => exact State.placeEntry_touchEq e hb
      · exact hb
  have hfold : ∀ (l : List (List (BitVec 64))) (b : State × Nat × Bool), TouchM μ s₀ b.1 → TouchM μ s₀ (l.foldl put b).1 := by
    intro l
    induction l with
    | nil => exact fun _ hb => hb
    | cons a l ih => exact fun b hb => ih _ (hput b a hb)
  exact State.modHost_touch (hfold _ _ h) _


theorem execStream_touch (s : State) (g : Seg) : TouchOut 34144768 s (execStream g s) := by
  have h := TouchM.refl 34144768 s
  unfold execStream
  (try dsimp only)
  repeat' first | with_reducible assumption | (with_reducible first | apply State.done_touch | apply State.takeUp_touch | apply State.placeStream_touch | apply State.toHead_touch | apply each_touch) | split | exact (rfl : Nat.land _ _ = _) | exact sub_trans rfl hm | intro _ | dsimp only | assumption

theorem execSegmentRsp_touch (s : State) (g : Seg) : TouchOut 42534408 s (execSegmentRsp g s) := by
  have h := TouchM.refl 42534408 s
  unfold execSegmentRsp
  (try dsimp only)
  repeat' first | with_reducible assumption | (with_reducible first | apply State.takeUp_touch | apply State.store_touch | apply State.replyLate_touch | apply State.done_touch | apply State.modLink_touch | apply State.verifyAnswer_touch) | split | exact (rfl : Nat.land _ _ = _) | exact sub_trans rfl hm | intro _ | dsimp only | assumption

theorem execSegmentImagePush_touch (s : State) (g : Seg) : TouchOut 512 s (execSegmentImagePush g s) := by
  have h := TouchM.refl 512 s
  unfold execSegmentImagePush
  (try dsimp only)
  repeat' first | with_reducible assumption | (with_reducible first | apply State.sendShare_touch | apply State.done_touch) | split | exact (rfl : Nat.land _ _ = _) | exact sub_trans rfl hm | intro _ | dsimp only | assumption

theorem execLogRetentionEnd_touch (s : State) (g : Seg) (mv : Nat) : TouchOut 256 s (execLogRetentionEnd g mv s) := by
  have h := TouchM.refl 256 s
  unfold execLogRetentionEnd
  (try dsimp only)
  repeat' first | with_reducible assumption | (with_reducible first | apply State.modSeg_touch | apply State.done_touch) | split | exact (rfl : Nat.land _ _ = _) | exact sub_trans rfl hm | intro _ | dsimp only | assumption

theorem execFeedLoss_touch (s : State) (g : Seg) : TouchOut 37297968 s (execFeedLoss g s) := by
  have h := TouchM.refl 37297968 s
  unfold execFeedLoss
  (try dsimp only)
  repeat' first | with_reducible assumption | (with_reducible first | apply State.modSeg_touch | apply State.raise_touch | apply State.abortSegSlice_touch | apply State.segDieReset_touch | apply State.linkToDown_touch | apply State.done_touch) | split | exact (rfl : Nat.land _ _ = _) | exact sub_trans rfl hm | intro _ | dsimp only | assumption

theorem execSegFeedRestore_touch (s : State) (g : Seg) (volts : Nat) : TouchOut 768 s (execSegFeedRestore g volts s) := by
  have h := TouchM.refl 768 s
  unfold execSegFeedRestore
  (try dsimp only)
  repeat' first | with_reducible assumption | (with_reducible first | apply State.modSeg_touch | apply State.done_touch | apply State.retrainLink_touch) | split | exact (rfl : Nat.land _ _ = _) | exact sub_trans rfl hm | intro _ | dsimp only | assumption

end Sys2Proof.Machine
end

