-- ==== Sys2Proof/Laws/TouchLoopPorts.lean ====
section
/-!
SUPPORT. Which parts of the state the operations of Machine/LoopPorts.lean may change.
-/

namespace Sys2Proof.Machine

-- One theorem at a time, which bounds the memory of the whole package's compile.
set_option Elab.async false

theorem State.confirmSlot_touch {μ : Nat} {s₀ s : State} (h : TouchM μ s₀ s)
    (hm : Nat.land 8388610 μ = 8388610 := by first | (apply sub_trans; rotate_left; (with_reducible assumption); rfl) | rfl) : TouchM μ s₀ (State.confirmSlot s) := by
  unfold State.confirmSlot
  (try dsimp only)
  repeat' first | with_reducible assumption | (with_reducible first | apply State.journal_touch | apply State.pushJob_touch | apply State.modNvm_touch | apply State.modGlb_touch) | split | exact (rfl : Nat.land _ _ = _) | exact sub_trans rfl hm | intro _ | dsimp only | assumption

theorem State.tryReady_touch {μ : Nat} {s₀ s : State} (h : TouchM μ s₀ s)
    (hm : Nat.land 45685298 μ = 45685298 := by first | (apply sub_trans; rotate_left; (with_reducible assumption); rfl) | rfl) : TouchM μ s₀ (State.tryReady s) := by
  unfold State.tryReady
  (try dsimp only)
  repeat' first | with_reducible assumption | (with_reducible first | apply State.abortSlice_touch | apply State.enter_touch | apply State.confirmSlot_touch) | split | exact (rfl : Nat.land _ _ = _) | exact sub_trans rfl hm | intro _ | dsimp only | assumption

theorem State.tryUp_touch {μ : Nat} {s₀ s : State} (h : TouchM μ s₀ s) (p : Port)
    (hm : Nat.land 33619968 μ = 33619968 := by first | (apply sub_trans; rotate_left; (with_reducible assumption); rfl) | rfl) : TouchM μ s₀ (State.tryUp s p) := by
  unfold State.tryUp
  (try dsimp only)
  repeat' first | with_reducible assumption | (with_reducible first | apply State.enterUp_touch) | split | exact (rfl : Nat.land _ _ = _) | exact sub_trans rfl hm | intro _ | dsimp only | assumption

theorem State.noteValid_touch {μ : Nat} {s₀ s : State} (h : TouchM μ s₀ s) (p : Port) (lack : Nat)
    (hm : Nat.land 33619968 μ = 33619968 := by first | (apply sub_trans; rotate_left; (with_reducible assumption); rfl) | rfl) : TouchM μ s₀ (State.noteValid s p lack) := by
  unfold State.noteValid
  (try dsimp only)
  repeat' first | with_reducible assumption | (with_reducible first | apply State.modPort_touch | apply State.modLoop_touch | apply State.ackPort_touch | apply State.tryUp_touch) | split | exact (rfl : Nat.land _ _ = _) | exact sub_trans rfl hm | intro _ | dsimp only | assumption

theorem State.arrive_touch {μ : Nat} {s₀ s : State} (h : TouchM μ s₀ s) (p : Port) (t : Nat) (f : Frame) {k : State → State}
    (hk : ∀ s, TouchM μ s₀ s → TouchM μ s₀ (k s))
    (hm : Nat.land 33619968 μ = 33619968 := by first | (apply sub_trans; rotate_left; (with_reducible assumption); rfl) | rfl) : TouchM μ s₀ (s.arrive p t f k) := by
  unfold State.arrive
  dsimp only
  repeat' first | with_reducible assumption | with_reducible first | apply hk | apply State.noteValid_touch | apply State.modPort_touch | split | exact (rfl : Nat.land _ _ = _) | exact sub_trans rfl hm


theorem State.relay_touch {μ : Nat} {s₀ s : State} (h : TouchM μ s₀ s) (p : Port) (f : Frame) (hop rx : Nat)
    (hm : Nat.land 33619968 μ = 33619968 := by first | (apply sub_trans; rotate_left; (with_reducible assumption); rfl) | rfl) : TouchM μ s₀ (State.relay s p f hop rx) := by
  unfold State.relay
  (try dsimp only)
  repeat' first | with_reducible assumption | (with_reducible first | apply State.enqueue_touch | apply State.modPort_touch) | split | exact (rfl : Nat.land _ _ = _) | exact sub_trans rfl hm | intro _ | dsimp only | assumption

theorem State.forward_touch {μ : Nat} {s₀ s : State} (h : TouchM μ s₀ s) (p : Port) (f : Frame) (hop : Nat)
    (hm : Nat.land 33619968 μ = 33619968 := by first | (apply sub_trans; rotate_left; (with_reducible assumption); rfl) | rfl) : TouchM μ s₀ (State.forward s p f hop) := by
  unfold State.forward
  (try dsimp only)
  repeat' first | with_reducible assumption | (with_reducible first | apply State.relay_touch) | split | exact (rfl : Nat.land _ _ = _) | exact sub_trans rfl hm | intro _ | dsimp only | assumption

theorem State.sendBack_touch {μ : Nat} {s₀ s : State} (h : TouchM μ s₀ s) (p : Port) (ftype : Nat) (head : Bool) (info : Nat) (payload : List Byte)
    (hm : Nat.land 33619968 μ = 33619968 := by first | (apply sub_trans; rotate_left; (with_reducible assumption); rfl) | rfl) : TouchM μ s₀ (State.sendBack s p ftype head info payload) := by
  unfold State.sendBack
  (try dsimp only)
  repeat' first | with_reducible assumption | (with_reducible first | apply State.sendFrame_touch) | split | exact (rfl : Nat.land _ _ = _) | exact sub_trans rfl hm | intro _ | dsimp only | assumption

theorem State.noRouteBack_touch {μ : Nat} {s₀ s : State} (h : TouchM μ s₀ s) (p : Port) (f : Frame)
    (hm : Nat.land 33619968 μ = 33619968 := by first | (apply sub_trans; rotate_left; (with_reducible assumption); rfl) | rfl) : TouchM μ s₀ (State.noRouteBack s p f) := by
  unfold State.noRouteBack
  (try dsimp only)
  repeat' first | with_reducible assumption | (with_reducible first | apply State.sendBack_touch) | split | exact (rfl : Nat.land _ _ = _) | exact sub_trans rfl hm | intro _ | dsimp only | assumption

theorem State.transit_touch {μ : Nat} {s₀ s : State} (h : TouchM μ s₀ s) (p : Port) (f : Frame) {k : State → State}
    (hk : ∀ s, TouchM μ s₀ s → TouchM μ s₀ (k s))
    (hm : Nat.land 33619968 μ = 33619968 := by first | (apply sub_trans; rotate_left; (with_reducible assumption); rfl) | rfl) : TouchM μ s₀ (s.transit p f k) := by
  unfold State.transit
  repeat' first | with_reducible assumption | with_reducible first | apply hk | apply State.forward_touch | apply State.noRouteBack_touch | split | exact (rfl : Nat.land _ _ = _) | exact sub_trans rfl hm


theorem State.passOn_touch {μ : Nat} {s₀ s : State} (h : TouchM μ s₀ s) (p : Port) (f : Frame)
    (hm : Nat.land 33619968 μ = 33619968 := by first | (apply sub_trans; rotate_left; (with_reducible assumption); rfl) | rfl) : TouchM μ s₀ (State.passOn s p f) := by
  unfold State.passOn
  (try dsimp only)
  repeat' first | with_reducible assumption | (with_reducible first | apply State.forward_touch) | split | exact (rfl : Nat.land _ _ = _) | exact sub_trans rfl hm | intro _ | dsimp only | assumption

theorem State.noteBreak_touch {μ : Nat} {s₀ s : State} (h : TouchM μ s₀ s) (p : Port) (q : Nat)
    (hm : Nat.land 65536 μ = 65536 := by first | (apply sub_trans; rotate_left; (with_reducible assumption); rfl) | rfl) : TouchM μ s₀ (State.noteBreak s p q) := by
  unfold State.noteBreak
  (try dsimp only)
  repeat' first | with_reducible assumption | (with_reducible first | apply State.modLoop_touch) | split | exact (rfl : Nat.land _ _ = _) | exact sub_trans rfl hm | intro _ | dsimp only | assumption

theorem State.clearBreak_touch {μ : Nat} {s₀ s : State} (h : TouchM μ s₀ s) (q : Nat)
    (hm : Nat.land 65536 μ = 65536 := by first | (apply sub_trans; rotate_left; (with_reducible assumption); rfl) | rfl) : TouchM μ s₀ (State.clearBreak s q) := by
  unfold State.clearBreak
  (try dsimp only)
  repeat' first | with_reducible assumption | (with_reducible first | apply State.modLoop_touch) | split | exact (rfl : Nat.land _ _ = _) | exact sub_trans rfl hm | intro _ | dsimp only | assumption

end Sys2Proof.Machine
end

