-- ==== Sys2Proof/Laws/TouchLoopRows.lean ====
section
/-!
SUPPORT. Which parts of the state the operations of Machine/LoopRows.lean may change.
-/

namespace Sys2Proof.Machine

-- One theorem at a time, which bounds the memory of the whole package's compile.
set_option Elab.async false

theorem State.takePong_touch {μ : Nat} {s₀ s : State} (h : TouchM μ s₀ s) (p : Port) (id turn : Nat)
    (hm : Nat.land 65536 μ = 65536 := by first | (apply sub_trans; rotate_left; (with_reducible assumption); rfl) | rfl) : TouchM μ s₀ (State.takePong s p id turn) := by
  unfold State.takePong
  (try dsimp only)
  repeat' first | with_reducible assumption | (with_reducible first | apply State.modPort_touch) | split | exact (rfl : Nat.land _ _ = _) | exact sub_trans rfl hm | intro _ | dsimp only | assumption

theorem State.checkPartner_touch {μ : Nat} {s₀ s : State} (h : TouchM μ s₀ s) (p : Port) (pos : Nat)
    (hm : Nat.land 1114112 μ = 1114112 := by first | (apply sub_trans; rotate_left; (with_reducible assumption); rfl) | rfl) : TouchM μ s₀ (State.checkPartner s p pos) := by
  unfold State.checkPartner
  (try dsimp only)
  repeat' first | with_reducible assumption | (with_reducible first | apply State.modPort_touch | apply State.raise_touch) | split | exact (rfl : Nat.land _ _ = _) | exact sub_trans rfl hm | intro _ | dsimp only | assumption

theorem State.takeIdle_touch {μ : Nat} {s₀ s : State} (h : TouchM μ s₀ s) (p : Port) (l : List Byte)
    (hm : Nat.land 34668544 μ = 34668544 := by first | (apply sub_trans; rotate_left; (with_reducible assumption); rfl) | rfl) : TouchM μ s₀ (State.takeIdle s p l) := by
  unfold State.takeIdle
  (try dsimp only)
  repeat' first | with_reducible assumption | (with_reducible first | apply State.modPort_touch | apply State.takePong_touch | apply State.checkPartner_touch | apply State.tryUp_touch) | split | exact (rfl : Nat.land _ _ = _) | exact sub_trans rfl hm | intro _ | dsimp only | assumption

theorem execIdle_touch (s : State) (p : Port) (f : Frame) : TouchOut 34668544 s (execIdle p f s) := by
  have h := TouchM.refl 34668544 s
  unfold execIdle
  (try dsimp only)
  repeat' first | with_reducible assumption | (with_reducible first | apply State.arrive_touch | apply State.takeIdle_touch | apply State.done_touch) | split | exact (rfl : Nat.land _ _ = _) | exact sub_trans rfl hm | intro _ | dsimp only | assumption

theorem execIdleSend_touch (s : State) (p : Port) : TouchOut 33619968 s (execIdleSend p s) := by
  have h := TouchM.refl 33619968 s
  unfold execIdleSend
  (try dsimp only)
  repeat' first | with_reducible assumption | (with_reducible first | apply State.done_touch | apply State.serve_touch | apply State.modPort_touch | apply State.startFrame_touch) | split | exact (rfl : Nat.land _ _ = _) | exact sub_trans rfl hm | intro _ | dsimp only | assumption

theorem execPortDown_touch (s : State) (p : Port) : TouchOut 35192832 s (execPortDown p s) := by
  have h := TouchM.refl 35192832 s
  unfold execPortDown
  (try dsimp only)
  repeat' first | with_reducible assumption | (with_reducible first | apply State.restartPort_touch | apply State.done_touch) | split | exact (rfl : Nat.land _ _ = _) | exact sub_trans rfl hm | intro _ | dsimp only | assumption

theorem execPortTrainingTimeout_touch (s : State) (p : Port) : TouchOut 65536 s (execPortTrainingTimeout p s) := by
  have h := TouchM.refl 65536 s
  unfold execPortTrainingTimeout
  (try dsimp only)
  repeat' first | with_reducible assumption | (with_reducible first | apply State.trainPort_touch | apply State.done_touch) | split | exact (rfl : Nat.land _ _ = _) | exact sub_trans rfl hm | intro _ | dsimp only | assumption

theorem execRetransmit_touch (s : State) (p : Port) : TouchOut 33619968 s (execRetransmit p s) := by
  have h := TouchM.refl 33619968 s
  unfold execRetransmit
  (try dsimp only)
  repeat' first | with_reducible assumption | (with_reducible first | apply State.modPort_touch | apply State.serve_touch | apply State.done_touch) | split | exact (rfl : Nat.land _ _ = _) | exact sub_trans rfl hm | intro _ | dsimp only | assumption

theorem State.abortCopy_touch {μ : Nat} {s₀ s : State} (h : TouchM μ s₀ s) (p : Port) (f : Frame)
    (hm : Nat.land 33619968 μ = 33619968 := by first | (apply sub_trans; rotate_left; (with_reducible assumption); rfl) | rfl) : TouchM μ s₀ (State.abortCopy s p f) := by
  unfold State.abortCopy
  (try dsimp only)
  repeat' first | with_reducible assumption | (with_reducible first | apply State.emit_touch | apply State.modPort_touch) | split | exact (rfl : Nat.land _ _ = _) | exact sub_trans rfl hm | intro _ | dsimp only | assumption

theorem execLoopFrameError_touch (s : State) (p : Port) (e : FrameError) (f : Option Frame) : TouchOut 33619968 s (execLoopFrameError p e f s) := by
  have h := TouchM.refl 33619968 s
  unfold execLoopFrameError
  (try dsimp only)
  repeat' first | with_reducible assumption | (with_reducible first | apply State.done_touch | apply State.abortCopy_touch | apply State.modPort_touch) | split | exact (rfl : Nat.land _ _ = _) | exact sub_trans rfl hm | intro _ | dsimp only | assumption

theorem State.headRsp_touch {μ : Nat} {s₀ s : State} (h : TouchM μ s₀ s) (f : Frame)
    (hm : Nat.land 34078720 μ = 34078720 := by first | (apply sub_trans; rotate_left; (with_reducible assumption); rfl) | rfl) : TouchM μ s₀ (State.headRsp s f) := by
  unfold State.headRsp
  (try dsimp only)
  repeat' first | with_reducible assumption | (with_reducible first | apply State.notice_touch | apply State.completeTag_touch) | split | exact (rfl : Nat.land _ _ = _) | exact sub_trans rfl hm | intro _ | dsimp only | assumption

theorem execRsp_touch (s : State) (p : Port) (f : Frame) : TouchOut 34144256 s (execRsp p f s) := by
  have h := TouchM.refl 34144256 s
  unfold execRsp
  (try dsimp only)
  repeat' first | with_reducible assumption | (with_reducible first | apply State.arrive_touch | apply State.headRsp_touch | apply State.transit_touch | apply State.done_touch) | split | exact (rfl : Nat.land _ _ = _) | exact sub_trans rfl hm | intro _ | dsimp only | assumption

theorem State.takeLinkEvent_touch {μ : Nat} {s₀ s : State} (h : TouchM μ s₀ s) (p : Port) (l : List Byte)
    (hm : Nat.land 34144256 μ = 34144256 := by first | (apply sub_trans; rotate_left; (with_reducible assumption); rfl) | rfl) : TouchM μ s₀ (State.takeLinkEvent s p l) := by
  unfold State.takeLinkEvent
  (try dsimp only)
  repeat' first | with_reducible assumption | (with_reducible first | apply State.noteBreak_touch | apply State.censusBroken_touch | apply State.clearBreak_touch) | split | exact (rfl : Nat.land _ _ = _) | exact sub_trans rfl hm | intro _ | dsimp only | assumption

theorem execEvent_touch (s : State) (p : Port) (f : Frame) : TouchOut 34144256 s (execEvent p f s) := by
  have h := TouchM.refl 34144256 s
  unfold execEvent
  (try dsimp only)
  repeat' first | with_reducible assumption | (with_reducible first | apply State.arrive_touch | apply State.notice_touch | apply State.takeLinkEvent_touch | apply State.passOn_touch | apply State.transit_touch | apply State.done_touch) | split | exact (rfl : Nat.land _ _ = _) | exact sub_trans rfl hm | intro _ | dsimp only | assumption

theorem State.takeRecord_touch {μ : Nat} {s₀ s : State} (h : TouchM μ s₀ s) (r : List Byte)
    (hm : Nat.land 34144256 μ = 34144256 := by first | (apply sub_trans; rotate_left; (with_reducible assumption); rfl) | rfl) : TouchM μ s₀ (State.takeRecord s r) := by
  unfold State.takeRecord
  (try dsimp only)
  repeat' first | with_reducible assumption | (with_reducible first | apply State.modLoop_touch | apply State.sweepPlaced_touch) | split | exact (rfl : Nat.land _ _ = _) | exact sub_trans rfl hm | intro _ | refine State.placeEntry_touchEq (by assumption) ?_ | dsimp only | assumption

theorem State.headRes_touch {μ : Nat} {s₀ s : State} (h : TouchM μ s₀ s) (f : Frame)
    (hm : Nat.land 34144256 μ = 34144256 := by first | (apply sub_trans; rotate_left; (with_reducible assumption); rfl) | rfl) : TouchM μ s₀ (State.headRes s f) := by
  unfold State.headRes
  (try dsimp only)
  repeat' first | with_reducible assumption | (with_reducible first | apply State.takeRecord_touch | apply State.placeStream_touch | apply State.sweepEnded_touch | apply each_touch) | split | exact (rfl : Nat.land _ _ = _) | exact sub_trans rfl hm | intro _ | dsimp only | assumption

theorem State.takeFigures_touch {μ : Nat} {s₀ s : State} (h : TouchM μ s₀ s) (headPos placed retired : Nat)
    (hm : Nat.land 73728 μ = 73728 := by first | (apply sub_trans; rotate_left; (with_reducible assumption); rfl) | rfl) : TouchM μ s₀ (State.takeFigures s headPos placed retired) := by
  unfold State.takeFigures
  (try dsimp only)
  repeat' first | with_reducible assumption | (with_reducible first | apply State.modLoop_touch | apply State.modRes_touch | apply State.endEpisode_touch) | split | exact (rfl : Nat.land _ _ = _) | exact sub_trans rfl hm | intro _ | dsimp only | assumption

theorem State.takeRetire_touch {μ : Nat} {s₀ s : State} (h : TouchM μ s₀ s) (l : List Byte)
    (hm : Nat.land 73728 μ = 73728 := by first | (apply sub_trans; rotate_left; (with_reducible assumption); rfl) | rfl) : TouchM μ s₀ (State.takeRetire s l) := by
  unfold State.takeRetire
  (try dsimp only)
  repeat' first | with_reducible assumption | (with_reducible first | apply State.takeFigures_touch | apply each_touch) | split | exact (rfl : Nat.land _ _ = _) | exact sub_trans rfl hm | intro _ | dsimp only | assumption

theorem execRes_touch (s : State) (p : Port) (f : Frame) : TouchOut 34152448 s (execRes p f s) := by
  have h := TouchM.refl 34152448 s
  unfold execRes
  (try dsimp only)
  repeat' first | with_reducible assumption | (with_reducible first | apply State.arrive_touch | apply State.headRes_touch | apply State.takeRetire_touch | apply State.passOn_touch | apply State.transit_touch | apply State.done_touch) | split | exact (rfl : Nat.land _ _ = _) | exact sub_trans rfl hm | intro _ | dsimp only | assumption

theorem State.sendRetire_touch {μ : Nat} {s₀ s : State} (h : TouchM μ s₀ s) (items : List (Nat × Nat × Nat))
    (hm : Nat.land 33619968 μ = 33619968 := by first | (apply sub_trans; rotate_left; (with_reducible assumption); rfl) | rfl) : TouchM μ s₀ (State.sendRetire s items) := by
  unfold State.sendRetire
  (try dsimp only)
  repeat' first | with_reducible assumption | (with_reducible first | apply State.sendFrame_touch | apply each_touch) | split | exact (rfl : Nat.land _ _ = _) | exact sub_trans rfl hm | intro _ | dsimp only | assumption

theorem execRetireNotice_touch (s : State) : TouchOut 33619968 s (execRetireNotice s) := by
  have h := TouchM.refl 33619968 s
  unfold execRetireNotice
  (try dsimp only)
  repeat' first | with_reducible assumption | (with_reducible first | apply State.modLoop_touch | apply State.sendRetire_touch | apply State.done_touch | apply each_touch) | split | exact (rfl : Nat.land _ _ = _) | exact sub_trans rfl hm | intro _ | dsimp only | assumption

theorem execRecordResend_touch (s : State) : TouchOut 34152448 s (execRecordResend s) := by
  have h := TouchM.refl 34152448 s
  unfold execRecordResend
  (try dsimp only)
  repeat' first | with_reducible assumption | (with_reducible first | apply State.deliverSlot_touch | apply State.done_touch | apply each_touch) | split | exact (rfl : Nat.land _ _ = _) | exact sub_trans rfl hm | intro _ | dsimp only | assumption

theorem State.takeParkAll_touch {μ : Nat} {s₀ s : State} (h : TouchM μ s₀ s) (id : Nat)
    (hm : Nat.land 54116278 μ = 54116278 := by first | (apply sub_trans; rotate_left; (with_reducible assumption); rfl) | rfl) : TouchM μ s₀ (State.takeParkAll s id) := by
  unfold State.takeParkAll
  (try dsimp only)
  repeat' first | with_reducible assumption | (with_reducible first | apply State.modLoop_touch | apply State.abortSlice_touch | apply State.haltNow_touch | apply State.raise_touch) | split | exact (rfl : Nat.land _ _ = _) | exact sub_trans rfl hm | intro _ | dsimp only | assumption

theorem execParkAll_touch (s : State) (p : Port) (f : Frame) : TouchOut 54116278 s (execParkAll p f s) := by
  have h := TouchM.refl 54116278 s
  unfold execParkAll
  (try dsimp only)
  repeat' first | with_reducible assumption | (with_reducible first | apply State.arrive_touch | apply State.takeParkAll_touch | apply State.forward_touch | apply State.done_touch) | split | exact (rfl : Nat.land _ _ = _) | exact sub_trans rfl hm | intro _ | dsimp only | assumption

theorem State.measureLatency_touch {μ : Nat} {s₀ s : State} (h : TouchM μ s₀ s)
    (hm : Nat.land 65536 μ = 65536 := by first | (apply sub_trans; rotate_left; (with_reducible assumption); rfl) | rfl) : TouchM μ s₀ (State.measureLatency s) := by
  unfold State.measureLatency
  (try dsimp only)
  repeat' first | with_reducible assumption | (with_reducible first | apply State.modPort_touch | apply each_touch) | split | exact (rfl : Nat.land _ _ = _) | exact sub_trans rfl hm | intro _ | dsimp only | assumption

theorem State.censusCmd_touch {μ : Nat} {s₀ s : State} (h : TouchM μ s₀ s) (o : Origin)
    (hm : Nat.land 100728832 μ = 100728832 := by first | (apply sub_trans; rotate_left; (with_reducible assumption); rfl) | rfl) : TouchM μ s₀ (State.censusCmd s o).1 := by
  unfold State.censusCmd
  (try dsimp only)
  repeat' first | with_reducible assumption | (with_reducible first | apply State.freeBits_touch | apply State.modLoop_touch | apply State.measureLatency_touch | apply State.sendFrame_touch) | split | exact (rfl : Nat.land _ _ = _) | exact sub_trans rfl hm | intro _ | dsimp only | assumption

theorem State.censusCmd_touchEq {μ : Nat} {s₀ s u₁ : State} {a₁} {o : Origin}
    (e : State.censusCmd s o = (u₁, a₁)) (h : TouchM μ s₀ s) (hm : Nat.land 100728832 μ = 100728832 := by first | (apply sub_trans; rotate_left; (with_reducible assumption); rfl) | rfl) : TouchM μ s₀ u₁ := by
  have k := State.censusCmd_touch h o hm
  rw [e] at k
  exact k

theorem State.adopt_touch {μ : Nat} {s₀ s : State} (h : TouchM μ s₀ s) (gen position n : Nat) (topo : Bool)
    (hm : Nat.land 45685298 μ = 45685298 := by first | (apply sub_trans; rotate_left; (with_reducible assumption); rfl) | rfl) : TouchM μ s₀ (State.adopt s gen position n topo) := by
  unfold State.adopt
  (try dsimp only)
  repeat' first | with_reducible assumption | (with_reducible first | apply State.modLoop_touch | apply State.serve_touch | apply State.tryReady_touch) | split | exact (rfl : Nat.land _ _ = _) | exact sub_trans rfl hm | intro _ | dsimp only | assumption

theorem State.tryAssign_touch {μ : Nat} {s₀ s : State} (h : TouchM μ s₀ s)
    (hm : Nat.land 45685298 μ = 45685298 := by first | (apply sub_trans; rotate_left; (with_reducible assumption); rfl) | rfl) : TouchM μ s₀ (State.tryAssign s) := by
  unfold State.tryAssign
  (try dsimp only)
  repeat' first | with_reducible assumption | (with_reducible first | apply State.modLoop_touch | apply State.sendFrame_touch | apply State.adopt_touch | apply State.replyLate_touch) | split | exact (rfl : Nat.land _ _ = _) | exact sub_trans rfl hm | intro _ | dsimp only | assumption

theorem State.takeProbe_touch {μ : Nat} {s₀ s : State} (h : TouchM μ s₀ s) (p : Port) (f : Frame)
    (hm : Nat.land 45685298 μ = 45685298 := by first | (apply sub_trans; rotate_left; (with_reducible assumption); rfl) | rfl) : TouchM μ s₀ (State.takeProbe s p f) := by
  unfold State.takeProbe
  (try dsimp only)
  repeat' first | with_reducible assumption | (with_reducible first | apply State.modLoop_touch | apply State.tryAssign_touch | apply State.measureLatency_touch | apply State.sendFrame_touch | apply State.passOn_touch) | split | exact (rfl : Nat.land _ _ = _) | exact sub_trans rfl hm | intro _ | dsimp only | assumption

theorem execProbe_touch (s : State) (p : Port) (f : Frame) : TouchOut 45685298 s (execProbe p f s) := by
  have h := TouchM.refl 45685298 s
  unfold execProbe
  (try dsimp only)
  repeat' first | with_reducible assumption | (with_reducible first | apply State.arrive_touch | apply State.takeProbe_touch | apply State.done_touch) | split | exact (rfl : Nat.land _ _ = _) | exact sub_trans rfl hm | intro _ | dsimp only | assumption

theorem State.takeReply_touch {μ : Nat} {s₀ s : State} (h : TouchM μ s₀ s) (l : List Byte)
    (hm : Nat.land 45685298 μ = 45685298 := by first | (apply sub_trans; rotate_left; (with_reducible assumption); rfl) | rfl) : TouchM μ s₀ (State.takeReply s l) := by
  unfold State.takeReply
  (try dsimp only)
  repeat' first | with_reducible assumption | (with_reducible first | apply State.notice_touch | apply State.modLoop_touch | apply State.tryAssign_touch) | split | exact (rfl : Nat.land _ _ = _) | exact sub_trans rfl hm | intro _ | dsimp only | assumption

theorem execReply_touch (s : State) (p : Port) (f : Frame) : TouchOut 45685298 s (execReply p f s) := by
  have h := TouchM.refl 45685298 s
  unfold execReply
  (try dsimp only)
  repeat' first | with_reducible assumption | (with_reducible first | apply State.arrive_touch | apply State.takeReply_touch | apply State.transit_touch | apply State.done_touch) | split | exact (rfl : Nat.land _ _ = _) | exact sub_trans rfl hm | intro _ | dsimp only | assumption

theorem State.takeAssign_touch {μ : Nat} {s₀ s : State} (h : TouchM μ s₀ s) (p : Port) (f : Frame)
    (hm : Nat.land 45685298 μ = 45685298 := by first | (apply sub_trans; rotate_left; (with_reducible assumption); rfl) | rfl) : TouchM μ s₀ (State.takeAssign s p f) := by
  unfold State.takeAssign
  (try dsimp only)
  repeat' first | with_reducible assumption | (with_reducible first | apply State.adopt_touch | apply State.passOn_touch) | split | exact (rfl : Nat.land _ _ = _) | exact sub_trans rfl hm | intro _ | dsimp only | assumption

theorem execAssign_touch (s : State) (p : Port) (f : Frame) : TouchOut 45685298 s (execAssign p f s) := by
  have h := TouchM.refl 45685298 s
  unfold execAssign
  (try dsimp only)
  repeat' first | with_reducible assumption | (with_reducible first | apply State.arrive_touch | apply State.takeAssign_touch | apply State.done_touch) | split | exact (rfl : Nat.land _ _ = _) | exact sub_trans rfl hm | intro _ | dsimp only | assumption

theorem execCensusTimeout_touch (s : State) : TouchOut 34144256 s (execCensusTimeout s) := by
  have h := TouchM.refl 34144256 s
  unfold execCensusTimeout
  (try dsimp only)
  repeat' first | with_reducible assumption | (with_reducible first | apply State.modLoop_touch | apply State.replyLate_touch | apply State.done_touch) | split | exact (rfl : Nat.land _ _ = _) | exact sub_trans rfl hm | intro _ | dsimp only | assumption

theorem execOrphan_touch (s : State) : TouchOut 54116274 s (execOrphan s) := by
  have h := TouchM.refl 54116274 s
  unfold execOrphan
  (try dsimp only)
  repeat' first | with_reducible assumption | (with_reducible first | apply State.done_touch | apply State.modLoop_touch | apply State.raise_touch | apply State.leaveRun_touch | apply State.leaveOpenAll_touch | apply State.orphanRamp_touch | apply State.abortSlice_touch | apply State.enter_touch | apply State.powerActive_touch) | split | exact (rfl : Nat.land _ _ = _) | exact sub_trans rfl hm | intro _ | dsimp only | assumption

theorem execOrphanPark_touch (s : State) : TouchOut 33622656 s (execOrphanPark s) := by
  have h := TouchM.refl 33622656 s
  unfold execOrphanPark
  (try dsimp only)
  repeat' first | with_reducible assumption | (with_reducible first | apply State.orphanRamp_touch | apply State.modLoop_touch | apply State.parkSymbol_touch | apply State.done_touch) | split | exact (rfl : Nat.land _ _ = _) | exact sub_trans rfl hm | intro _ | dsimp only | assumption

theorem execWakeSymbol_touch (s : State) (p : Port) : TouchOut 37329712 s (execWakeSymbol p s) := by
  have h := TouchM.refl 37329712 s
  unfold execWakeSymbol
  (try dsimp only)
  repeat' first | with_reducible assumption | (with_reducible first | apply State.done_touch | apply State.modLoop_touch | apply State.notice_touch | apply State.emit_touch | apply State.wokenBySymbol_touch) | split | exact (rfl : Nat.land _ _ = _) | exact sub_trans rfl hm | intro _ | dsimp only | assumption

end Sys2Proof.Machine
end

