-- ==== Sys2Proof/Laws/TouchTimeRows.lean ====
section
/-!
SUPPORT. Which parts of the state the operations of Machine/TimeRows.lean may change.
-/

namespace Sys2Proof.Machine

-- One theorem at a time, which bounds the memory of the whole package's compile.
set_option Elab.async false

theorem State.shiftTimers_touch {μ : Nat} {s₀ s : State} (h : TouchM μ s₀ s) (d : Int)
    (hm : Nat.land 3926818 μ = 3926818 := by first | (apply sub_trans; rotate_left; (with_reducible assumption); rfl) | rfl) : TouchM μ s₀ (State.shiftTimers s d) := by
  unfold State.shiftTimers
  (try dsimp only)
  repeat' first | with_reducible assumption | (with_reducible first | apply State.modLoop_touch | apply State.setLinks_touch | apply State.setSegs_touch | apply State.modHost_touch | apply State.modGlb_touch | apply State.modPwr_touch | apply State.modTu_touch | apply State.modSpc_touch | apply State.modTherm_touch | apply State.modBist_touch | apply State.setMeas_touch | apply State.modFlt_touch | apply State.modRes_touch) | split | exact (rfl : Nat.land _ _ = _) | exact sub_trans rfl hm | intro _ | dsimp only | assumption

theorem State.setTime_touch {μ : Nat} {s₀ s : State} (h : TouchM μ s₀ s) (t : Nat)
    (hm : Nat.land 3926819 μ = 3926819 := by first | (apply sub_trans; rotate_left; (with_reducible assumption); rfl) | rfl) : TouchM μ s₀ (State.setTime s t) := by
  unfold State.setTime
  (try dsimp only)
  repeat' first | with_reducible assumption | (with_reducible first | apply State.shiftTimers_touch | apply State.setNow_touch | apply State.modTu_touch) | split | exact (rfl : Nat.land _ _ = _) | exact sub_trans rfl hm | intro _ | dsimp only | assumption

theorem State.beginSlew_touch {μ : Nat} {s₀ s : State} (h : TouchM μ s₀ s) (off : Int)
    (hm : Nat.land 1179648 μ = 1179648 := by first | (apply sub_trans; rotate_left; (with_reducible assumption); rfl) | rfl) : TouchM μ s₀ (State.beginSlew s off) := by
  unfold State.beginSlew
  (try dsimp only)
  repeat' first | with_reducible assumption | (with_reducible first | apply State.modTu_touch | apply State.raise_touch) | split | exact (rfl : Nat.land _ _ = _) | exact sub_trans rfl hm | intro _ | dsimp only | assumption

theorem State.judgeLock_touch {μ : Nat} {s₀ s : State} (h : TouchM μ s₀ s) (off : Int) (fresh : Bool)
    (hm : Nat.land 131072 μ = 131072 := by first | (apply sub_trans; rotate_left; (with_reducible assumption); rfl) | rfl) : TouchM μ s₀ (State.judgeLock s off fresh) := by
  unfold State.judgeLock
  (try dsimp only)
  repeat' first | with_reducible assumption | (with_reducible first | apply State.modTu_touch) | split | exact (rfl : Nat.land _ _ = _) | exact sub_trans rfl hm | intro _ | dsimp only | assumption

theorem State.takeOffset_touch {μ : Nat} {s₀ s : State} (h : TouchM μ s₀ s) (off : Int)
    (hm : Nat.land 3926819 μ = 3926819 := by first | (apply sub_trans; rotate_left; (with_reducible assumption); rfl) | rfl) : TouchM μ s₀ (State.takeOffset s off) := by
  unfold State.takeOffset
  (try dsimp only)
  repeat' first | with_reducible assumption | (with_reducible first | apply State.modTu_touch | apply State.judgeLock_touch | apply State.setTime_touch | apply State.beginSlew_touch) | split | exact (rfl : Nat.land _ _ = _) | exact sub_trans rfl hm | intro _ | dsimp only | assumption

theorem State.chooseSource_touch {μ : Nat} {s₀ s : State} (h : TouchM μ s₀ s) (p : Port)
    (hm : Nat.land 131072 μ = 131072 := by first | (apply sub_trans; rotate_left; (with_reducible assumption); rfl) | rfl) : TouchM μ s₀ (State.chooseSource s p) := by
  unfold State.chooseSource
  (try dsimp only)
  repeat' first | with_reducible assumption | (with_reducible first | apply State.modTu_touch) | split | exact (rfl : Nat.land _ _ = _) | exact sub_trans rfl hm | intro _ | dsimp only | assumption

theorem State.takeTime_touch {μ : Nat} {s₀ s : State} (h : TouchM μ s₀ s) (p : Port) (f : Frame) (rx : Nat)
    (hm : Nat.land 3926819 μ = 3926819 := by first | (apply sub_trans; rotate_left; (with_reducible assumption); rfl) | rfl) : TouchM μ s₀ (State.takeTime s p f rx) := by
  unfold State.takeTime
  (try dsimp only)
  repeat' first | with_reducible assumption | (with_reducible first | apply State.modTu_touch | apply State.chooseSource_touch | apply State.takeOffset_touch) | split | exact (rfl : Nat.land _ _ = _) | exact sub_trans rfl hm | intro _ | dsimp only | assumption

theorem State.passTime_touch {μ : Nat} {s₀ s : State} (h : TouchM μ s₀ s) (p : Port) (f : Frame) (rx : Nat)
    (hm : Nat.land 33619968 μ = 33619968 := by first | (apply sub_trans; rotate_left; (with_reducible assumption); rfl) | rfl) : TouchM μ s₀ (State.passTime s p f rx) := by
  unfold State.passTime
  (try dsimp only)
  repeat' first | with_reducible assumption | (with_reducible first | apply State.relay_touch) | split | exact (rfl : Nat.land _ _ = _) | exact sub_trans rfl hm | intro _ | dsimp only | assumption

theorem execTime_touch (s : State) (p : Port) (f : Frame) (rx : Nat) : TouchOut 37481251 s (execTime p f rx s) := by
  have h := TouchM.refl 37481251 s
  unfold execTime
  (try dsimp only)
  repeat' first | with_reducible assumption | (with_reducible first | apply State.arrive_touch | apply State.passTime_touch | apply State.takeTime_touch | apply State.done_touch) | split | exact (rfl : Nat.land _ _ = _) | exact sub_trans rfl hm | intro _ | dsimp only | assumption

theorem State.dropSource_touch {μ : Nat} {s₀ s : State} (h : TouchM μ s₀ s) (p : Port)
    (hm : Nat.land 131072 μ = 131072 := by first | (apply sub_trans; rotate_left; (with_reducible assumption); rfl) | rfl) : TouchM μ s₀ (State.dropSource s p) := by
  unfold State.dropSource
  (try dsimp only)
  repeat' first | with_reducible assumption | (with_reducible first | apply State.modTu_touch) | split | exact (rfl : Nat.land _ _ = _) | exact sub_trans rfl hm | intro _ | dsimp only | assumption

theorem execSourceLost_touch (s : State) (p : Port) : TouchOut 131072 s (execSourceLost p s) := by
  have h := TouchM.refl 131072 s
  unfold execSourceLost
  (try dsimp only)
  repeat' first | with_reducible assumption | (with_reducible first | apply State.dropSource_touch | apply State.done_touch) | split | exact (rfl : Nat.land _ _ = _) | exact sub_trans rfl hm | intro _ | dsimp only | assumption

theorem execPtmDialogue_touch (s : State) (ok : Bool) (master : Nat) : TouchOut 3926819 s (execPtmDialogue ok master s) := by
  have h := TouchM.refl 3926819 s
  unfold execPtmDialogue
  (try dsimp only)
  repeat' first | with_reducible assumption | (with_reducible first | apply State.done_touch | apply State.modTu_touch | apply State.takeOffset_touch) | split | exact (rfl : Nat.land _ _ = _) | exact sub_trans rfl hm | intro _ | dsimp only | assumption

theorem execTimeFrameTx_touch (s : State) : TouchOut 33619968 s (execTimeFrameTx s) := by
  have h := TouchM.refl 33619968 s
  unfold execTimeFrameTx
  (try dsimp only)
  repeat' first | with_reducible assumption | (with_reducible first | apply State.done_touch | apply State.modLoop_touch | apply State.sendFrame_touch | apply each_touch) | split | exact (rfl : Nat.land _ _ = _) | exact sub_trans rfl hm | intro _ | dsimp only | assumption

theorem execHoldover_touch (s : State) : TouchOut 1179648 s (execHoldover s) := by
  have h := TouchM.refl 1179648 s
  unfold execHoldover
  (try dsimp only)
  repeat' first | with_reducible assumption | (with_reducible first | apply State.modTu_touch | apply State.raise_touch | apply State.done_touch) | split | exact (rfl : Nat.land _ _ = _) | exact sub_trans rfl hm | intro _ | dsimp only | assumption

theorem execHoldoverLimit_touch (s : State) : TouchOut 1179648 s (execHoldoverLimit s) := by
  have h := TouchM.refl 1179648 s
  unfold execHoldoverLimit
  (try dsimp only)
  repeat' first | with_reducible assumption | (with_reducible first | apply State.modTu_touch | apply State.raise_touch | apply State.done_touch) | split | exact (rfl : Nat.land _ _ = _) | exact sub_trans rfl hm | intro _ | dsimp only | assumption

theorem State.followOff_touch {μ : Nat} {s₀ s : State} (h : TouchM μ s₀ s)
    (hm : Nat.land 131072 μ = 131072 := by first | (apply sub_trans; rotate_left; (with_reducible assumption); rfl) | rfl) : TouchM μ s₀ (State.followOff s) := by
  unfold State.followOff
  (try dsimp only)
  repeat' first | with_reducible assumption | (with_reducible first | apply State.modTu_touch) | split | exact (rfl : Nat.land _ _ = _) | exact sub_trans rfl hm | intro _ | dsimp only | assumption

end Sys2Proof.Machine
end

