-- ==== Sys2Proof/Laws/TouchHostRows.lean ====
section
/-!
SUPPORT. Which parts of the state the operations of Machine/HostRows.lean may change.
-/

namespace Sys2Proof.Machine

-- One theorem at a time, which bounds the memory of the whole package's compile.
set_option Elab.async false

theorem State.flushNotices_touch {μ : Nat} {s₀ s : State} (h : TouchM μ s₀ s) (n : Nat)
    (hm : Nat.land 34078720 μ = 34078720 := by first | (apply sub_trans; rotate_left; (with_reducible assumption); rfl) | rfl) : TouchM μ s₀ (State.flushNotices n s) := by
  induction n generalizing s with
  | zero => exact h
  | succ n ih =>
    unfold State.flushNotices
    repeat' first | with_reducible assumption | with_reducible first | apply ih | apply State.modHost_touch | split | exact (rfl : Nat.land _ _ = _) | exact sub_trans rfl hm
    exact State.placeEntry_touchEq (by assumption) h


theorem State.placeWaiting_touch {μ : Nat} {s₀ s : State} (h : TouchM μ s₀ s)
    (hm : Nat.land 34152448 μ = 34152448 := by first | (apply sub_trans; rotate_left; (with_reducible assumption); rfl) | rfl) : TouchM μ s₀ (State.placeWaiting s) := by
  unfold State.placeWaiting
  (try dsimp only)
  repeat' first | with_reducible assumption | (with_reducible first | apply State.deliverSlot_touch | apply State.flushNotices_touch | apply each_touch) | split | exact (rfl : Nat.land _ _ = _) | exact sub_trans rfl hm | intro _ | dsimp only | assumption

theorem State.enableHost_touch {μ : Nat} {s₀ s : State} (h : TouchM μ s₀ s)
    (hm : Nat.land 35201032 μ = 35201032 := by first | (apply sub_trans; rotate_left; (with_reducible assumption); rfl) | rfl) : TouchM μ s₀ (State.enableHost s) := by
  unfold State.enableHost
  (try dsimp only)
  repeat' first | with_reducible assumption | (with_reducible first | apply State.setFld_touch | apply State.modHost_touch | apply State.placeWaiting_touch | apply State.hostErr_touch) | split | exact (rfl : Nat.land _ _ = _) | exact sub_trans rfl hm | intro _ | dsimp only | assumption

theorem State.disableHost_touch {μ : Nat} {s₀ s : State} (h : TouchM μ s₀ s)
    (hm : Nat.land 524296 μ = 524296 := by first | (apply sub_trans; rotate_left; (with_reducible assumption); rfl) | rfl) : TouchM μ s₀ (State.disableHost s) := by
  unfold State.disableHost
  (try dsimp only)
  repeat' first | with_reducible assumption | (with_reducible first | apply State.setFld_touch | apply State.modHost_touch) | split | exact (rfl : Nat.land _ _ = _) | exact sub_trans rfl hm | intro _ | dsimp only | assumption

theorem State.doorbell_touch {μ : Nat} {s₀ s : State} (h : TouchM μ s₀ s)
    (hm : Nat.land 37329456 μ = 37329456 := by first | (apply sub_trans; rotate_left; (with_reducible assumption); rfl) | rfl) : TouchM μ s₀ (State.doorbell s) := by
  unfold State.doorbell
  (try dsimp only)
  repeat' first | with_reducible assumption | (with_reducible first | apply State.stopEntry_touch | apply State.setPower_touch) | split | exact (rfl : Nat.land _ _ = _) | exact sub_trans rfl hm | intro _ | dsimp only | assumption

theorem State.doorbellError_touch {μ : Nat} {s₀ s : State} (h : TouchM μ s₀ s) (bits : BitVec 10)
    (hm : Nat.land 35127296 μ = 35127296 := by first | (apply sub_trans; rotate_left; (with_reducible assumption); rfl) | rfl) : TouchM μ s₀ (State.doorbellError s bits) := by
  unfold State.doorbellError
  (try dsimp only)
  repeat' first | with_reducible assumption | (with_reducible first | apply State.hostErr_touch | apply State.hostError_touch) | split | exact (rfl : Nat.land _ _ = _) | exact sub_trans rfl hm | intro _ | dsimp only | assumption

theorem execDbCmdTail_touch (s : State) (value : BitVec 16) : TouchOut 37329456 s (execDbCmdTail value s) := by
  have h := TouchM.refl 37329456 s
  unfold execDbCmdTail
  (try dsimp only)
  repeat' first | with_reducible assumption | (with_reducible first | apply State.done_touch | apply State.doorbell_touch | apply State.modHost_touch | apply State.doorbellError_touch) | split | exact (rfl : Nat.land _ _ = _) | exact sub_trans rfl hm | intro _ | dsimp only | assumption

theorem execDbCplHead_touch (s : State) (value : BitVec 16) : TouchOut 37329456 s (execDbCplHead value s) := by
  have h := TouchM.refl 37329456 s
  unfold execDbCplHead
  (try dsimp only)
  repeat' first | with_reducible assumption | (with_reducible first | apply State.done_touch | apply State.doorbell_touch | apply State.modHost_touch | apply State.doorbellError_touch) | split | exact (rfl : Nat.land _ _ = _) | exact sub_trans rfl hm | intro _ | dsimp only | assumption

theorem State.retire_touch {μ : Nat} {s₀ s : State} (h : TouchM μ s₀ s) (e : Placed)
    (hm : Nat.land 73728 μ = 73728 := by first | (apply sub_trans; rotate_left; (with_reducible assumption); rfl) | rfl) : TouchM μ s₀ (State.retire s e) := by
  unfold State.retire
  (try dsimp only)
  repeat' first | with_reducible assumption | (with_reducible first | apply State.modRes_touch | apply State.modLoop_touch) | split | exact (rfl : Nat.land _ _ = _) | exact sub_trans rfl hm | intro _ | dsimp only | assumption

theorem execDbResHead_touch (s : State) (ring : Fin 4) (value : BitVec 16) : TouchOut 37337648 s (execDbResHead ring value s) := by
  have h := TouchM.refl 37337648 s
  unfold execDbResHead
  (try dsimp only)
  repeat' first | with_reducible assumption | (with_reducible first | apply State.done_touch | apply State.doorbell_touch | apply State.retire_touch | apply State.modHost_touch | apply State.endEpisode_touch | apply State.placeWaiting_touch | apply State.doorbellError_touch | apply each_touch) | split | exact (rfl : Nat.land _ _ = _) | exact sub_trans rfl hm | intro _ | dsimp only | assumption

theorem execCmdTimeout_touch (s : State) (tag : Nat) : TouchOut 35127296 s (execCmdTimeout tag s) := by
  have h := TouchM.refl 35127296 s
  unfold execCmdTimeout
  (try dsimp only)
  repeat' first | with_reducible assumption | (with_reducible first | apply State.done_touch | apply State.completeTag_touch | apply State.modHost_touch | apply State.raise_touch) | split | exact (rfl : Nat.land _ _ = _) | exact sub_trans rfl hm | intro _ | dsimp only | assumption

theorem execCoalesceTimeout_touch (s : State) (ring : Fin 5) : TouchOut 34078720 s (execCoalesceTimeout ring s) := by
  have h := TouchM.refl 34078720 s
  unfold execCoalesceTimeout
  (try dsimp only)
  repeat' first | with_reducible assumption | (with_reducible first | apply State.modHost_touch | apply State.msix_touch | apply State.done_touch) | split | exact (rfl : Nat.land _ _ = _) | exact sub_trans rfl hm | intro _ | dsimp only | assumption

theorem State.hostAway_touch {μ : Nat} {s₀ s : State} (h : TouchM μ s₀ s)
    (hm : Nat.land 524288 μ = 524288 := by first | (apply sub_trans; rotate_left; (with_reducible assumption); rfl) | rfl) : TouchM μ s₀ (State.hostAway s) := by
  unfold State.hostAway
  (try dsimp only)
  repeat' first | with_reducible assumption | (with_reducible first | apply State.modHost_touch) | split | exact (rfl : Nat.land _ _ = _) | exact sub_trans rfl hm | intro _ | dsimp only | assumption

theorem execHostReset_touch (s : State) (flr : Bool) : TouchOut 35201036 s (execHostReset flr s) := by
  have h := TouchM.refl 35201036 s
  unfold execHostReset
  (try dsimp only)
  repeat' first | with_reducible assumption | (with_reducible first | apply State.done_touch | apply State.hostDomainReset_touch | apply State.modHost_touch | apply State.setPins_touch | apply State.hostAway_touch | apply State.raise_touch) | split | exact (rfl : Nat.land _ _ = _) | exact sub_trans rfl hm | intro _ | dsimp only | assumption

theorem execPcieLinkDown_touch (s : State) : TouchOut 1572864 s (execPcieLinkDown s) := by
  have h := TouchM.refl 1572864 s
  unfold execPcieLinkDown
  (try dsimp only)
  repeat' first | with_reducible assumption | (with_reducible first | apply State.modHost_touch | apply State.hostAway_touch | apply State.raise_touch | apply State.done_touch) | split | exact (rfl : Nat.land _ _ = _) | exact sub_trans rfl hm | intro _ | dsimp only | assumption

theorem execPcieLinkUp_touch (s : State) : TouchOut 45685302 s (execPcieLinkUp s) := by
  have h := TouchM.refl 45685302 s
  unfold execPcieLinkUp
  (try dsimp only)
  repeat' first | with_reducible assumption | (with_reducible first | apply State.done_touch | apply State.modHost_touch | apply State.setPins_touch | apply State.modLoop_touch | apply State.tryReady_touch) | split | exact (rfl : Nat.land _ _ = _) | exact sub_trans rfl hm | intro _ | dsimp only | assumption

theorem State.fetchResult_touch {μ : Nat} {s₀ s : State} (h : TouchM μ s₀ s) (slot gen : Nat)
    (hm : Nat.land 8192 μ = 8192 := by first | (apply sub_trans; rotate_left; (with_reducible assumption); rfl) | rfl) : TouchM μ s₀ (State.fetchResult s slot gen).2 := by
  unfold State.fetchResult
  (try dsimp only)
  repeat' first | with_reducible assumption | (with_reducible first | apply State.modSlot_touch) | split | exact (rfl : Nat.land _ _ = _) | exact sub_trans rfl hm | intro _ | dsimp only | assumption

theorem State.fetchResult_touchEq {μ : Nat} {s₀ s u₁ : State} {a₁} {slot gen : Nat}
    (e : State.fetchResult s slot gen = (a₁, u₁)) (h : TouchM μ s₀ s) (hm : Nat.land 8192 μ = 8192 := by first | (apply sub_trans; rotate_left; (with_reducible assumption); rfl) | rfl) : TouchM μ s₀ u₁ := by
  have k := State.fetchResult_touch h slot gen hm
  rw [e] at k
  exact k

theorem State.takeMarks_touch {μ : Nat} {s₀ s : State} (h : TouchM μ s₀ s) (o : Origin) (items : List (Nat × Nat × Nat))
    (hm : Nat.land 65536 μ = 65536 := by first | (apply sub_trans; rotate_left; (with_reducible assumption); rfl) | rfl) : TouchM μ s₀ (State.takeMarks s o items).2 := by
  unfold State.takeMarks
  (try dsimp only)
  repeat' first | with_reducible assumption | (with_reducible first | apply State.modLoop_touch | apply each_touch) | split | exact (rfl : Nat.land _ _ = _) | exact sub_trans rfl hm | intro _ | dsimp only | assumption

theorem State.takeMarks_touchEq {μ : Nat} {s₀ s u₁ : State} {a₁} {o : Origin} {items : List (Nat × Nat × Nat)}
    (e : State.takeMarks s o items = (a₁, u₁)) (h : TouchM μ s₀ s) (hm : Nat.land 65536 μ = 65536 := by first | (apply sub_trans; rotate_left; (with_reducible assumption); rfl) | rfl) : TouchM μ s₀ u₁ := by
  have k := State.takeMarks_touch h o items hm
  rw [e] at k
  exact k

end Sys2Proof.Machine
end

