-- ==== Sys2Proof/Laws/TouchSelfTest.lean ====
section
/-!
SUPPORT. Which parts of the state the operations of Machine/SelfTest.lean may change.
-/

namespace Sys2Proof.Machine

-- One theorem at a time, which bounds the memory of the whole package's compile.
set_option Elab.async false

theorem State.endSlow_touch {μ : Nat} {s₀ s : State} (h : TouchM μ s₀ s) (channels : List HouseChannel)
    (hm : Nat.land 37306368 μ = 37306368 := by first | (apply sub_trans; rotate_left; (with_reducible assumption); rfl) | rfl) : TouchM μ s₀ (State.endSlow s channels) := by
  unfold State.endSlow
  (try dsimp only)
  repeat' first | with_reducible assumption | (with_reducible first | apply State.modTherm_touch | apply State.raise_touch | apply State.finishBistRun_touch | apply each_touch) | split | exact (rfl : Nat.land _ _ = _) | exact sub_trans rfl hm | intro _ | dsimp only | assumption

theorem execSlowRoundEnd_touch (s : State) (channels : List HouseChannel) : TouchOut 37306368 s (execSlowRoundEnd channels s) := by
  have h := TouchM.refl 37306368 s
  unfold execSlowRoundEnd
  (try dsimp only)
  repeat' first | with_reducible assumption | (with_reducible first | apply State.endSlow_touch | apply State.done_touch) | split | exact (rfl : Nat.land _ _ = _) | exact sub_trans rfl hm | intro _ | dsimp only | assumption

theorem State.bistCmd_touch {μ : Nat} {s₀ s : State} (h : TouchM μ s₀ s) (o : Origin) (n : Option Slice)
    (hm : Nat.land 2097152 μ = 2097152 := by first | (apply sub_trans; rotate_left; (with_reducible assumption); rfl) | rfl) : TouchM μ s₀ (State.bistCmd s o n).1 := by
  unfold State.bistCmd
  (try dsimp only)
  repeat' first | with_reducible assumption | (with_reducible first | apply State.modBist_touch | apply State.nextSlice_touch) | split | exact (rfl : Nat.land _ _ = _) | exact sub_trans rfl hm | intro _ | dsimp only | assumption

theorem State.bistCmd_touchEq {μ : Nat} {s₀ s u₁ : State} {a₁} {o : Origin} {n : Option Slice}
    (e : State.bistCmd s o n = (u₁, a₁)) (h : TouchM μ s₀ s) (hm : Nat.land 2097152 μ = 2097152 := by first | (apply sub_trans; rotate_left; (with_reducible assumption); rfl) | rfl) : TouchM μ s₀ u₁ := by
  have k := State.bistCmd_touch h o n hm
  rw [e] at k
  exact k

theorem State.finishRelease_touch {μ : Nat} {s₀ s : State} (h : TouchM μ s₀ s)
    (hm : Nat.land 36241920 μ = 36241920 := by first | (apply sub_trans; rotate_left; (with_reducible assumption); rfl) | rfl) : TouchM μ s₀ (State.finishRelease s) := by
  unfold State.finishRelease
  (try dsimp only)
  repeat' first | with_reducible assumption | (with_reducible first | apply State.judgeRelease_touch | apply State.modBist_touch | apply State.replyLate_touch) | split | exact (rfl : Nat.land _ _ = _) | exact sub_trans rfl hm | intro _ | refine State.judgeRelease_touchEq (by assumption) ?_ | dsimp only | assumption

theorem State.releaseCmd_touch {μ : Nat} {s₀ s : State} (h : TouchM μ s₀ s) (o : Origin) (cells : BitVec 256)
    (hm : Nat.land 2097664 μ = 2097664 := by first | (apply sub_trans; rotate_left; (with_reducible assumption); rfl) | rfl) : TouchM μ s₀ (State.releaseCmd s o cells).1 := by
  unfold State.releaseCmd
  (try dsimp only)
  repeat' first | with_reducible assumption | (with_reducible first | apply State.judgeRelease_touch | apply State.modBist_touch | apply State.nextSlice_touch) | split | exact (rfl : Nat.land _ _ = _) | exact sub_trans rfl hm | intro _ | refine State.judgeRelease_touchEq (by assumption) ?_ | dsimp only | assumption

theorem State.releaseCmd_touchEq {μ : Nat} {s₀ s u₁ : State} {a₁} {o : Origin} {cells : BitVec 256}
    (e : State.releaseCmd s o cells = (u₁, a₁)) (h : TouchM μ s₀ s) (hm : Nat.land 2097664 μ = 2097664 := by first | (apply sub_trans; rotate_left; (with_reducible assumption); rfl) | rfl) : TouchM μ s₀ u₁ := by
  have k := State.releaseCmd_touch h o cells hm
  rw [e] at k
  exact k

theorem execReleaseJudged_touch (s : State) : TouchOut 36241920 s (execReleaseJudged s) := by
  have h := TouchM.refl 36241920 s
  unfold execReleaseJudged
  (try dsimp only)
  repeat' first | with_reducible assumption | (with_reducible first | apply State.finishRelease_touch | apply State.done_touch) | split | exact (rfl : Nat.land _ _ = _) | exact sub_trans rfl hm | intro _ | dsimp only | assumption

theorem State.afterSlice_touch {μ : Nat} {s₀ s : State} (h : TouchM μ s₀ s) (n : Slice) (kind : BistMode) (passed : Bool)
    (hm : Nat.land 36241408 μ = 36241408 := by first | (apply sub_trans; rotate_left; (with_reducible assumption); rfl) | rfl) : TouchM μ s₀ (State.afterSlice s n kind passed) := by
  unfold State.afterSlice
  (try dsimp only)
  repeat' first | with_reducible assumption | (with_reducible first | apply State.modBist_touch | apply State.nextSlice_touch | apply State.endOfQueue_touch) | split | exact (rfl : Nat.land _ _ = _) | exact sub_trans rfl hm | intro _ | dsimp only | assumption

theorem execSliceEnd_touch (s : State) (steps : Nat) (sigOk : Bool) : TouchOut 37296688 s (execSliceEnd steps sigOk s) := by
  have h := TouchM.refl 37296688 s
  unfold execSliceEnd
  (try dsimp only)
  repeat' first | with_reducible assumption | (with_reducible first | apply State.done_touch | apply State.abortSlice_touch | apply State.freeBlock_touch | apply State.passSlice_touch | apply State.failSlice_touch | apply State.afterSlice_touch) | split | exact (rfl : Nat.land _ _ = _) | exact sub_trans rfl hm | intro _ | dsimp only | assumption

theorem State.skipSlice_touch {μ : Nat} {s₀ s : State} (h : TouchM μ s₀ s)
    (hm : Nat.land 2097152 μ = 2097152 := by first | (apply sub_trans; rotate_left; (with_reducible assumption); rfl) | rfl) : TouchM μ s₀ (State.skipSlice s) := by
  unfold State.skipSlice
  (try dsimp only)
  repeat' first | with_reducible assumption | (with_reducible first | apply State.modBist_touch) | split | exact (rfl : Nat.land _ _ = _) | exact sub_trans rfl hm | intro _ | dsimp only | assumption

theorem State.startOrSkip_touch {μ : Nat} {s₀ s : State} (h : TouchM μ s₀ s) (n : Slice)
    (hm : Nat.land 2097152 μ = 2097152 := by first | (apply sub_trans; rotate_left; (with_reducible assumption); rfl) | rfl) : TouchM μ s₀ (State.startOrSkip s n) := by
  unfold State.startOrSkip
  (try dsimp only)
  repeat' first | with_reducible assumption | (with_reducible first | apply State.startSlice_touch | apply State.skipSlice_touch) | split | exact (rfl : Nat.land _ _ = _) | exact sub_trans rfl hm | intro _ | dsimp only | assumption

theorem State.periodicChoice_touch {μ : Nat} {s₀ s : State} (h : TouchM μ s₀ s)
    (hm : Nat.land 2097152 μ = 2097152 := by first | (apply sub_trans; rotate_left; (with_reducible assumption); rfl) | rfl) : TouchM μ s₀ (State.periodicChoice s) := by
  unfold State.periodicChoice
  (try dsimp only)
  repeat' first | with_reducible assumption | (with_reducible first | apply State.startOrSkip_touch | apply State.modBist_touch) | split | exact (rfl : Nat.land _ _ = _) | exact sub_trans rfl hm | intro _ | dsimp only | assumption

theorem State.abortWaiting_touch {μ : Nat} {s₀ s : State} (h : TouchM μ s₀ s)
    (hm : Nat.land 36241408 μ = 36241408 := by first | (apply sub_trans; rotate_left; (with_reducible assumption); rfl) | rfl) : TouchM μ s₀ (State.abortWaiting s) := by
  unfold State.abortWaiting
  (try dsimp only)
  repeat' first | with_reducible assumption | (with_reducible first | apply State.modBist_touch | apply State.endOfQueue_touch) | split | exact (rfl : Nat.land _ _ = _) | exact sub_trans rfl hm | intro _ | dsimp only | assumption

theorem execPeriodicSlice_touch (s : State) : TouchOut 36241408 s (execPeriodicSlice s) := by
  have h := TouchM.refl 36241408 s
  unfold execPeriodicSlice
  (try dsimp only)
  repeat' first | with_reducible assumption | (with_reducible first | apply State.done_touch | apply State.nextSlice_touch | apply State.modBist_touch | apply State.abortWaiting_touch | apply State.periodicChoice_touch) | split | exact (rfl : Nat.land _ _ = _) | exact sub_trans rfl hm | intro _ | dsimp only | assumption

theorem State.enterTest_touch {μ : Nat} {s₀ s : State} (h : TouchM μ s₀ s)
    (hm : Nat.land 54116278 μ = 54116278 := by first | (apply sub_trans; rotate_left; (with_reducible assumption); rfl) | rfl) : TouchM μ s₀ (State.enterTest s) := by
  unfold State.enterTest
  (try dsimp only)
  repeat' first | with_reducible assumption | (with_reducible first | apply State.enter_touch | apply State.modGlb_touch | apply State.haltNow_touch | apply State.modBist_touch | apply State.nextSlice_touch) | split | exact (rfl : Nat.land _ _ = _) | exact sub_trans rfl hm | intro _ | dsimp only | assumption

theorem State.judgeLastFeed_touch {μ : Nat} {s₀ s : State} (h : TouchM μ s₀ s)
    (hm : Nat.land 1048578 μ = 1048578 := by first | (apply sub_trans; rotate_left; (with_reducible assumption); rfl) | rfl) : TouchM μ s₀ (State.judgeLastFeed s) := by
  unfold State.judgeLastFeed
  (try dsimp only)
  repeat' first | with_reducible assumption | (with_reducible first | apply State.modGlb_touch | apply State.raise_touch) | split | exact (rfl : Nat.land _ _ = _) | exact sub_trans rfl hm | intro _ | dsimp only | assumption

theorem execStartupTestEnd_touch (s : State) : TouchOut 133808062 s (execStartupTestEnd s) := by
  have h := TouchM.refl 133808062 s
  unfold execStartupTestEnd
  (try dsimp only)
  repeat' first | with_reducible assumption | (with_reducible first | apply State.done_touch | apply State.judgeLastFeed_touch | apply State.failSlice_touch | apply State.modBist_touch | apply State.settle_touch | apply State.modGlb_touch | apply State.trainPorts_touch | apply State.haltNow_touch | apply State.tryReady_touch | apply each_touch) | split | exact (rfl : Nat.land _ _ = _) | exact sub_trans rfl hm | intro _ | dsimp only | assumption

theorem State.startScan_touch {μ : Nat} {s₀ s : State} (h : TouchM μ s₀ s) (c : Fin 4) (o : Option Origin)
    (hm : Nat.land 4194304 μ = 4194304 := by first | (apply sub_trans; rotate_left; (with_reducible assumption); rfl) | rfl) : TouchM μ s₀ (State.startScan s c o).2 := by
  unfold State.startScan
  (try dsimp only)
  repeat' first | with_reducible assumption | (with_reducible first | apply State.modChk_touch) | split | exact (rfl : Nat.land _ _ = _) | exact sub_trans rfl hm | intro _ | dsimp only | assumption

theorem State.startScan_touchEq {μ : Nat} {s₀ s u₁ : State} {a₁} {c : Fin 4} {o : Option Origin}
    (e : State.startScan s c o = (a₁, u₁)) (h : TouchM μ s₀ s) (hm : Nat.land 4194304 μ = 4194304 := by first | (apply sub_trans; rotate_left; (with_reducible assumption); rfl) | rfl) : TouchM μ s₀ u₁ := by
  have k := State.startScan_touch h c o hm
  rw [e] at k
  exact k

theorem State.checkCmd_touch {μ : Nat} {s₀ s : State} (h : TouchM μ s₀ s) (o : Origin) (c : Fin 4)
    (hm : Nat.land 4194304 μ = 4194304 := by first | (apply sub_trans; rotate_left; (with_reducible assumption); rfl) | rfl) : TouchM μ s₀ (State.checkCmd s o c).1 := by
  unfold State.checkCmd
  (try dsimp only)
  repeat' first | with_reducible assumption | (with_reducible first | apply State.startScan_touch) | split | exact (rfl : Nat.land _ _ = _) | exact sub_trans rfl hm | intro _ | refine State.startScan_touchEq (by assumption) ?_ | dsimp only | assumption

theorem State.checkCmd_touchEq {μ : Nat} {s₀ s u₁ : State} {a₁} {o : Origin} {c : Fin 4}
    (e : State.checkCmd s o c = (u₁, a₁)) (h : TouchM μ s₀ s) (hm : Nat.land 4194304 μ = 4194304 := by first | (apply sub_trans; rotate_left; (with_reducible assumption); rfl) | rfl) : TouchM μ s₀ u₁ := by
  have k := State.checkCmd_touch h o c hm
  rw [e] at k
  exact k

theorem State.scanBytes_touch {μ : Nat} {s₀ s : State} (h : TouchM μ s₀ s) (start len : Nat)
    (hm : Nat.land 67108864 μ = 67108864 := by first | (apply sub_trans; rotate_left; (with_reducible assumption); rfl) | rfl) : TouchM μ s₀ (State.scanBytes s start len).2 := by
  unfold State.scanBytes
  (try dsimp only)
  repeat' first | with_reducible assumption | (with_reducible first | apply State.freeBits_touch | apply foldl_touch) | split | exact (rfl : Nat.land _ _ = _) | exact sub_trans rfl hm | intro _ | dsimp only | assumption

theorem State.scanBytes_touchEq {μ : Nat} {s₀ s u₁ : State} {a₁} {start len : Nat}
    (e : State.scanBytes s start len = (a₁, u₁)) (h : TouchM μ s₀ s) (hm : Nat.land 67108864 μ = 67108864 := by first | (apply sub_trans; rotate_left; (with_reducible assumption); rfl) | rfl) : TouchM μ s₀ u₁ := by
  have k := State.scanBytes_touch h start len hm
  rw [e] at k
  exact k

theorem execScanDone_touch (s : State) (c : Fin 4) : TouchOut 105447424 s (execScanDone c s) := by
  have h := TouchM.refl 105447424 s
  unfold execScanDone
  (try dsimp only)
  repeat' first | with_reducible assumption | (with_reducible first | apply State.scanBytes_touch | apply State.modChk_touch | apply State.done_touch | apply State.replyLate_touch) | split | exact (rfl : Nat.land _ _ = _) | exact sub_trans rfl hm | intro _ | refine State.scanBytes_touchEq (by assumption) ?_ | dsimp only | assumption

end Sys2Proof.Machine
end

