-- ==== Sys2Proof/Laws/TouchStartup.lean ====
section
/-!
SUPPORT. Which parts of the state the operations of Machine/Startup.lean may change.
-/

namespace Sys2Proof.Machine

-- One theorem at a time, which bounds the memory of the whole package's compile.
set_option Elab.async false

theorem State.powerOn_touch {μ : Nat} {s₀ s : State} (h : TouchM μ s₀ s) (hm : Nat.land 33554431 μ = 33554431 := by first | (apply sub_trans; rotate_left; (with_reducible assumption); rfl) | rfl) : TouchM μ s₀ s.powerOn :=
  h.then (m' := 33554431) ⟨fun p hp => by cases p <;> first | rfl | exact absurd hp (by decide)⟩ hm

theorem execAuxInRange_touch (s : State) (mv : Nat) : TouchOut 33554431 s (execAuxInRange mv s) := by
  have h := TouchM.refl 33554431 s
  unfold execAuxInRange
  (try dsimp only)
  repeat' first | with_reducible assumption | (with_reducible first | apply State.powerOn_touch | apply State.done_touch) | split | exact (rfl : Nat.land _ _ = _) | exact sub_trans rfl hm | intro _ | dsimp only | assumption

theorem State.segAuxLost_touch {μ : Nat} {s₀ s : State} (h : TouchM μ s₀ s) (g : Seg)
    (hm : Nat.land 768 μ = 768 := by first | (apply sub_trans; rotate_left; (with_reducible assumption); rfl) | rfl) : TouchM μ s₀ (State.segAuxLost s g) := by
  unfold State.segAuxLost
  (try dsimp only)
  repeat' first | with_reducible assumption | (with_reducible first | apply State.captureWindow_touch | apply State.modLink_touch | apply State.modSeg_touch | apply State.dormantPatrol_touch) | split | exact (rfl : Nat.land _ _ = _) | exact sub_trans rfl hm | intro _ | dsimp only | assumption

theorem execAuxOutOfRange_touch (s : State) (mv : Nat) : TouchOut 109681462 s (execAuxOutOfRange mv s) := by
  have h := TouchM.refl 109681462 s
  unfold execAuxOutOfRange
  (try dsimp only)
  repeat' first | with_reducible assumption | (with_reducible first | apply State.stageOff_touch | apply State.abandonWrites_touch | apply State.leaveOpenAll_touch | apply State.segAuxLost_touch | apply State.modPwr_touch | apply State.setPins_touch | apply State.modGlb_touch | apply State.enter_touch | apply State.done_touch | apply each_touch) | split | exact (rfl : Nat.land _ _ = _) | exact sub_trans rfl hm | intro _ | dsimp only | assumption

theorem execShutdownLatchClear_touch (s : State) (belowMs : Nat) : TouchOut 67125248 s (execShutdownLatchClear belowMs s) := by
  have h := TouchM.refl 67125248 s
  unfold execShutdownLatchClear
  (try dsimp only)
  repeat' first | with_reducible assumption | (with_reducible first | apply State.done_touch | apply State.freeBool_touch | apply State.modTherm_touch) | split | exact (rfl : Nat.land _ _ = _) | exact sub_trans rfl hm | intro _ | dsimp only | assumption

theorem execAuxMonitorUpdate_touch (s : State) (mv : Nat) : TouchOut 9469952 s (execAuxMonitorUpdate mv s) := by
  have h := TouchM.refl 9469952 s
  unfold execAuxMonitorUpdate
  (try dsimp only)
  repeat' first | with_reducible assumption | (with_reducible first | apply State.modPwr_touch | apply State.raise_touch | apply State.startRepair_touch | apply State.done_touch) | split | exact (rfl : Nat.land _ _ = _) | exact sub_trans rfl hm | intro _ | dsimp only | assumption

theorem State.trySlot_touch {μ : Nat} {s₀ s : State} (h : TouchM μ s₀ s) (slot : Nat)
    (hm : Nat.land 9437184 μ = 9437184 := by first | (apply sub_trans; rotate_left; (with_reducible assumption); rfl) | rfl) : TouchM μ s₀ (State.trySlot s slot).2 := by
  unfold State.trySlot
  (try dsimp only)
  repeat' first | with_reducible assumption | (with_reducible first | apply State.judgedFromFlash_touch | apply State.raise_touch) | split | exact (rfl : Nat.land _ _ = _) | exact sub_trans rfl hm | intro _ | dsimp only | assumption

theorem State.trySlot_touchEq {μ : Nat} {s₀ s u₁ : State} {a₁} {slot : Nat}
    (e : State.trySlot s slot = (a₁, u₁)) (h : TouchM μ s₀ s) (hm : Nat.land 9437184 μ = 9437184 := by first | (apply sub_trans; rotate_left; (with_reducible assumption); rfl) | rfl) : TouchM μ s₀ u₁ := by
  have k := State.trySlot_touch h slot hm
  rw [e] at k
  exact k

theorem State.trySlots_touch {μ : Nat} {s₀ s : State} (h : TouchM μ s₀ s) (l : List Nat)
    (hm : Nat.land 9437184 μ = 9437184 := by first | (apply sub_trans; rotate_left; (with_reducible assumption); rfl) | rfl) : TouchM μ s₀ (s.trySlots l).2 := by
  induction l generalizing s with
  | nil => exact h
  | cons a t ih =>
    unfold State.trySlots
    have ha := State.trySlot_touch h a
    generalize s.trySlot a = r at ha ⊢
    by_cases hr : r.1 = true
    · simpa only [hr, if_true] using ha
    · simpa only [hr, Bool.false_eq_true, if_false] using ih ha


theorem State.slotOrder_touch {μ : Nat} {s₀ s : State} (h : TouchM μ s₀ s)
    (hm : Nat.land 9437186 μ = 9437186 := by first | (apply sub_trans; rotate_left; (with_reducible assumption); rfl) | rfl) : TouchM μ s₀ (State.slotOrder s).2 := by
  unfold State.slotOrder
  split
  · exact h
  · next q r _ =>
    dsimp only
    have hd : TouchM μ s₀ (if r.status == .checkValueDamaged then s.imageDamaged 0 false else s) := by
      split
      · exact State.imageDamaged_touch h _ _
      · exact h
    generalize (if r.status == .checkValueDamaged then s.imageDamaged 0 false else s) = s₁ at hd ⊢
    split
    · exact State.raise_touch (State.modNvm_touch hd _) _ _ _ _ _ _
    · dsimp only
      split
      · exact State.modGlb_touch hd _
      · exact hd

theorem State.slotOrder_touchEq {μ : Nat} {s₀ s u₁ : State} {a₁} (e : State.slotOrder s = (a₁, u₁)) (h : TouchM μ s₀ s)
    (hm : Nat.land 9437186 μ = 9437186 := by first | (apply sub_trans; rotate_left; (with_reducible assumption); rfl) | rfl) : TouchM μ s₀ u₁ := by
  have k := State.slotOrder_touch h hm
  rw [e] at k
  exact k


theorem State.findWritePoint_touch {μ : Nat} {s₀ s : State} (h : TouchM μ s₀ s)
    (hm : Nat.land 9437184 μ = 9437184 := by first | (apply sub_trans; rotate_left; (with_reducible assumption); rfl) | rfl) : TouchM μ s₀ (State.findWritePoint s) := by
  unfold State.findWritePoint
  (try dsimp only)
  repeat' first | with_reducible assumption | (with_reducible first | apply State.modNvm_touch | apply State.raise_touch) | split | exact (rfl : Nat.land _ _ = _) | exact sub_trans rfl hm | intro _ | dsimp only | assumption

theorem State.recoverSlot_touch {μ : Nat} {s₀ s : State} (h : TouchM μ s₀ s) (l : List JRec) (region : Nat)
    (hm : Nat.land 9437184 μ = 9437184 := by first | (apply sub_trans; rotate_left; (with_reducible assumption); rfl) | rfl) : TouchM μ s₀ (State.recoverSlot l s region) := by
  unfold State.recoverSlot
  (try dsimp only)
  repeat' first | with_reducible assumption | (with_reducible first | apply State.modNvm_touch | apply State.raise_touch) | split | exact (rfl : Nat.land _ _ = _) | exact sub_trans rfl hm | intro _ | dsimp only | assumption

theorem State.recoverRepair_touch {μ : Nat} {s₀ s : State} (h : TouchM μ s₀ s) (l : List JRec) (r : JRec)
    (hm : Nat.land 8388608 μ = 8388608 := by first | (apply sub_trans; rotate_left; (with_reducible assumption); rfl) | rfl) : TouchM μ s₀ (State.recoverRepair l s r) := by
  unfold State.recoverRepair
  (try dsimp only)
  repeat' first | with_reducible assumption | (with_reducible first | apply State.repairTarget_touch) | split | exact (rfl : Nat.land _ _ = _) | exact sub_trans rfl hm | intro _ | dsimp only | assumption

theorem State.recoverJournal_touch {μ : Nat} {s₀ s : State} (h : TouchM μ s₀ s)
    (hm : Nat.land 9437184 μ = 9437184 := by first | (apply sub_trans; rotate_left; (with_reducible assumption); rfl) | rfl) : TouchM μ s₀ (State.recoverJournal s) := by
  unfold State.recoverJournal
  extract_lets l s₁ s₂ s₃ s₄ s₅ s₆
  have h₁ : TouchM μ s₀ s₁ := State.findWritePoint_touch h
  clear_value s₁
  have h₂ : TouchM μ s₀ s₂ := State.modNvm_touch h₁ _
  clear_value s₂
  have h₄ : TouchM μ s₀ s₄ := each_touch _ (each_touch _ h₂ (fun _ _ k => State.recoverSlot_touch k _ _))
    (fun _ _ k => State.recoverRepair_touch k _ _)
  clear_value s₄
  have h₆ : TouchM μ s₀ s₆ := State.setFwState_touch (State.setFwState_touch h₄ _ _) _ _
  clear_value s₆
  split
  · exact State.raise_touch (State.modNvm_touch h₆ _) _ _ _ _ _ _
  · exact h₆


theorem State.loadConfig_touch {μ : Nat} {s₀ s : State} (h : TouchM μ s₀ s)
    (hm : Nat.land 9437184 μ = 9437184 := by first | (apply sub_trans; rotate_left; (with_reducible assumption); rfl) | rfl) : TouchM μ s₀ (State.loadConfig s) := by
  unfold State.loadConfig
  (try dsimp only)
  repeat' first | with_reducible assumption | (with_reducible first | apply State.modNvm_touch | apply State.judgedFromFlash_touch | apply State.raise_touch) | split | exact (rfl : Nat.land _ _ = _) | exact sub_trans rfl hm | intro _ | dsimp only | assumption

theorem State.loadCalibration_touch {μ : Nat} {s₀ s : State} (h : TouchM μ s₀ s)
    (hm : Nat.land 9453568 μ = 9453568 := by first | (apply sub_trans; rotate_left; (with_reducible assumption); rfl) | rfl) : TouchM μ s₀ (State.loadCalibration s) := by
  unfold State.loadCalibration
  extract_lets base l c fixes header trailer st same s₁ s₂
  have h₁ : TouchM μ s₀ s₁ := State.modNvm_touch h _
  have h₂ : TouchM μ s₀ s₂ := by
    simp only [s₂]
    split
    · exact State.imageDamaged_touch h₁ _ _
    · exact h₁
  clear_value s₂ st same
  split
  · exact State.raise_touch h₂ _ _ _ _ _ _
  · exact State.modTherm_touch h₂ _


theorem State.bootRom_touch {μ : Nat} {s₀ s : State} (h : TouchM μ s₀ s)
    (hm : Nat.land 9535490 μ = 9535490 := by first | (apply sub_trans; rotate_left; (with_reducible assumption); rfl) | rfl) : TouchM μ s₀ (State.bootRom s) := by
  unfold State.bootRom
  extract_lets s₁ s₂
  have h₂ : TouchM μ s₀ s₂ := State.modNvm_touch (State.modPwr_touch h _) _
  clear_value s₂
  have h₃ := State.slotOrder_touch h₂
  generalize s₂.slotOrder = r at h₃ ⊢
  obtain ⟨order, s₃⟩ := r
  dsimp only at h₃ ⊢
  have h₄ := State.trySlots_touch h₃ order
  generalize s₃.trySlots order = q at h₄ ⊢
  obtain ⟨o, s₄⟩ := q
  cases o with
  | none => exact State.trainPorts_touch (State.modGlb_touch (State.findWritePoint_touch h₄) _)
  | some slot => exact State.modGlb_touch (State.modNvm_touch h₄ _) _


theorem execPowerOnReset_touch (s : State) (headEn : Bool) : TouchOut 129892278 s (execPowerOnReset headEn s) := by
  have h := TouchM.refl 129892278 s
  unfold execPowerOnReset
  (try dsimp only)
  repeat' first | with_reducible assumption | (with_reducible first | apply State.modGlb_touch | apply State.modPwr_touch | apply State.shutdownNow_touch | apply State.done_touch | apply State.bootRom_touch) | split | exact (rfl : Nat.land _ _ = _) | exact sub_trans rfl hm | intro _ | dsimp only | assumption

theorem execFirmwareStart_touch (s : State) : TouchOut 9453570 s (execFirmwareStart s) := by
  have h := TouchM.refl 9453570 s
  unfold execFirmwareStart
  (try dsimp only)
  repeat' first | with_reducible assumption | (with_reducible first | apply State.recoverJournal_touch | apply State.loadConfig_touch | apply State.loadCalibration_touch | apply State.modGlb_touch | apply State.startRepair_touch | apply State.done_touch) | split | exact (rfl : Nat.land _ _ = _) | exact sub_trans rfl hm | intro _ | dsimp only | assumption

theorem State.tryTest_touch {μ : Nat} {s₀ s : State} (h : TouchM μ s₀ s)
    (hm : Nat.land 54116278 μ = 54116278 := by first | (apply sub_trans; rotate_left; (with_reducible assumption); rfl) | rfl) : TouchM μ s₀ (State.tryTest s) := by
  unfold State.tryTest
  (try dsimp only)
  repeat' first | with_reducible assumption | (with_reducible first | apply State.enterTest_touch) | split | exact (rfl : Nat.land _ _ = _) | exact sub_trans rfl hm | intro _ | dsimp only | assumption

theorem State.judgeFeed_touch {μ : Nat} {s₀ s : State} (h : TouchM μ s₀ s) (g : Seg) (ok : Bool) (volts stackMv : Nat)
    (hm : Nat.land 1049344 μ = 1049344 := by first | (apply sub_trans; rotate_left; (with_reducible assumption); rfl) | rfl) : TouchM μ s₀ (State.judgeFeed s g ok volts stackMv) := by
  unfold State.judgeFeed
  (try dsimp only)
  repeat' first | with_reducible assumption | (with_reducible first | apply State.modSeg_touch | apply State.trainLink_touch | apply State.raise_touch) | split | exact (rfl : Nat.land _ _ = _) | exact sub_trans rfl hm | intro _ | dsimp only | assumption

theorem execFeedEnable_touch (s : State) (prevOk : Bool) (prevVolts prevStack : Nat) : TouchOut 54116286 s (execFeedEnable prevOk prevVolts prevStack s) := by
  have h := TouchM.refl 54116286 s
  unfold execFeedEnable
  (try dsimp only)
  repeat' first | with_reducible assumption | (with_reducible first | apply State.tryTest_touch | apply State.done_touch | apply State.setFld_touch | apply State.modGlb_touch | apply State.judgeFeed_touch) | split | exact (rfl : Nat.land _ _ = _) | exact sub_trans rfl hm | intro _ | dsimp only | assumption

theorem execSequencerStart_touch (s : State) (g : Seg) : TouchOut 54116278 s (execSequencerStart g s) := by
  have h := TouchM.refl 54116278 s
  unfold execSequencerStart
  (try dsimp only)
  repeat' first | with_reducible assumption | (with_reducible first | apply State.modSeg_touch | apply State.modMeas_touch | apply State.modCell_touch | apply State.nextSlice_touch | apply State.tryTest_touch | apply State.done_touch | apply each_touch) | split | exact (rfl : Nat.land _ _ = _) | exact sub_trans rfl hm | intro _ | dsimp only | assumption

theorem execTrainingTimeout_touch (s : State) (g : Seg) (c0 c1 : Bool) (trips : List Nat) : TouchOut 54116278 s (execTrainingTimeout g c0 c1 trips s) := by
  have h := TouchM.refl 54116278 s
  unfold execTrainingTimeout
  (try dsimp only)
  repeat' first | with_reducible assumption | (with_reducible first | apply State.done_touch | apply State.linkTrained_touch | apply State.checkShunts_touch | apply State.nextSlice_touch | apply State.sendDown_touch | apply State.raise_touch | apply State.modLink_touch | apply State.tryTest_touch) | split | exact (rfl : Nat.land _ _ = _) | exact sub_trans rfl hm | intro _ | dsimp only | assumption

theorem execDrydownLogCollect_touch (s : State) : TouchOut 8389376 s (execDrydownLogCollect s) := by
  have h := TouchM.refl 8389376 s
  unfold execDrydownLogCollect
  (try dsimp only)
  repeat' first | with_reducible assumption | (with_reducible first | apply State.collectLogs_touch | apply State.done_touch) | split | exact (rfl : Nat.land _ _ = _) | exact sub_trans rfl hm | intro _ | dsimp only | assumption

theorem State.segModuleReset_touch {μ : Nat} {s₀ s : State} (h : TouchM μ s₀ s) (g : Seg)
    (hm : Nat.land 37297968 μ = 37297968 := by first | (apply sub_trans; rotate_left; (with_reducible assumption); rfl) | rfl) : TouchM μ s₀ (State.segModuleReset s g) := by
  unfold State.segModuleReset
  (try dsimp only)
  repeat' first | with_reducible assumption | (with_reducible first | apply State.abortSegSlice_touch | apply State.segDieReset_touch | apply State.modCell_touch | apply State.modSeg_touch | apply State.dormantPatrol_touch | apply State.modLink_touch | apply each_touch) | split | exact (rfl : Nat.land _ _ = _) | exact sub_trans rfl hm | intro _ | dsimp only | assumption

theorem State.resetTo_touch {μ : Nat} {s₀ s : State} (h : TouchM μ s₀ s) (code : Nat) (hm : Nat.land 67108863 μ = 67108863 := by first | (apply sub_trans; rotate_left; (with_reducible assumption); rfl) | rfl) : TouchM μ s₀ (s.resetTo code) := by
  refine h.then ?_ hm
  unfold State.resetTo
  extract_lets s₁ s₂
  have k : TouchM 67108863 s s₂ := each_touch _ (State.setNow_touch (State.shiftTimers_touch (TouchM.refl _ s) _) _)
    (fun _ g hs => State.segModuleReset_touch hs g)
  clear_value s₂
  exact ⟨fun p hp => by cases p <;> first | exact absurd hp (by decide) | exact k.same _ hp⟩

theorem execResetApply_touch (s : State) : TouchOut 67108863 s (execResetApply s) := by
  have h := TouchM.refl 67108863 s
  unfold execResetApply
  (try dsimp only)
  repeat' first | with_reducible assumption | (with_reducible first | apply State.resetTo_touch | apply State.raise_touch | apply State.bootRom_touch | apply State.done_touch) | split | exact (rfl : Nat.land _ _ = _) | exact sub_trans rfl hm | intro _ | dsimp only | assumption

theorem execResetN_touch (s : State) (lowNs : Nat) : TouchOut 104405558 s (execResetN lowNs s) := by
  have h := TouchM.refl 104405558 s
  unfold execResetN
  (try dsimp only)
  repeat' first | with_reducible assumption | (with_reducible first | apply State.done_touch | apply State.freeBool_touch | apply State.requestReset_touch) | split | exact (rfl : Nat.land _ _ = _) | exact sub_trans rfl hm | intro _ | dsimp only | assumption

theorem execWatchdog_touch (s : State) : TouchOut 37296694 s (execWatchdog s) := by
  have h := TouchM.refl 37296694 s
  unfold execWatchdog
  (try dsimp only)
  repeat' first | with_reducible assumption | (with_reducible first | apply State.requestReset_touch | apply State.done_touch) | split | exact (rfl : Nat.land _ _ = _) | exact sub_trans rfl hm | intro _ | dsimp only | assumption

theorem execRecoveryReset_touch (s : State) : TouchOut 37296694 s (execRecoveryReset s) := by
  have h := TouchM.refl 37296694 s
  unfold execRecoveryReset
  (try dsimp only)
  repeat' first | with_reducible assumption | (with_reducible first | apply State.modGlb_touch | apply State.requestReset_touch | apply State.done_touch) | split | exact (rfl : Nat.land _ _ = _) | exact sub_trans rfl hm | intro _ | dsimp only | assumption

end Sys2Proof.Machine
end

