-- ==== Sys2Proof/Laws/TouchRegRead.lean ====
section
/-!
SUPPORT. Which parts of the state the operations of Machine/RegRead.lean may change.
-/

namespace Sys2Proof.Machine

-- One theorem at a time, which bounds the memory of the whole package's compile.
set_option Elab.async false

theorem State.readAt_touch {μ : Nat} {s₀ s : State} (h : TouchM μ s₀ s) (off : Nat) (bar : Bool)
    (hm : Nat.land 131072 μ = 131072 := by first | (apply sub_trans; rotate_left; (with_reducible assumption); rfl) | rfl) : TouchM μ s₀ (State.readAt s off bar).2 := by
  unfold State.readAt
  (try dsimp only)
  repeat' first | with_reducible assumption | (with_reducible first | apply State.modTu_touch) | split | exact (rfl : Nat.land _ _ = _) | exact sub_trans rfl hm | intro _ | dsimp only | assumption

theorem State.readAt_touchEq {μ : Nat} {s₀ s u₁ : State} {a₁} {off : Nat} {bar : Bool}
    (e : State.readAt s off bar = (a₁, u₁)) (h : TouchM μ s₀ s) (hm : Nat.land 131072 μ = 131072 := by first | (apply sub_trans; rotate_left; (with_reducible assumption); rfl) | rfl) : TouchM μ s₀ u₁ := by
  have k := State.readAt_touch h off bar hm
  rw [e] at k
  exact k

theorem State.readMany_touch {μ : Nat} {s₀ s : State} (h : TouchM μ s₀ s) (off n : Nat)
    (hm : Nat.land 131072 μ = 131072 := by first | (apply sub_trans; rotate_left; (with_reducible assumption); rfl) | rfl) : TouchM μ s₀ (s.readMany off n).2 := by
  induction n generalizing s off with
  | zero => exact h
  | succ n ih =>
    unfold State.readMany
    exact ih (State.readAt_touch h _ _) _


end Sys2Proof.Machine
end

