-- ==== Sys2Proof/Laws/TouchRegWrite.lean ====
section
/-!
SUPPORT. Which parts of the state the operations of Machine/RegWrite.lean may change.
-/

namespace Sys2Proof.Machine

-- One theorem at a time, which bounds the memory of the whole package's compile.
set_option Elab.async false

theorem State.writePwr_touch {μ : Nat} {s₀ s : State} (h : TouchM μ s₀ s) (off : Nat) (new v : Word)
    (hm : Nat.land 37329724 μ = 37329724 := by first | (apply sub_trans; rotate_left; (with_reducible assumption); rfl) | rfl) : TouchM μ s₀ (State.writePwr s off new v) := by
  unfold State.writePwr
  (try dsimp only)
  repeat' first | with_reducible assumption | (with_reducible first | apply State.store_touch | apply State.setPower_touch | apply State.budgetWritten_touch | apply State.copyDrydown_touch | apply State.wroteWakeCause_touch) | split | exact (rfl : Nat.land _ _ = _) | exact sub_trans rfl hm | intro _ | dsimp only | assumption

theorem State.writeHost_touch {μ : Nat} {s₀ s : State} (h : TouchM μ s₀ s) (off : Nat) (new v : Word)
    (hm : Nat.land 35201032 μ = 35201032 := by first | (apply sub_trans; rotate_left; (with_reducible assumption); rfl) | rfl) : TouchM μ s₀ (State.writeHost s off new v) := by
  unfold State.writeHost
  (try dsimp only)
  repeat' first | with_reducible assumption | (with_reducible first | apply State.setFld_touch | apply State.disableHost_touch | apply State.resetRings_touch | apply State.store_touch | apply State.enableHost_touch | apply State.modHost_touch) | split | exact (rfl : Nat.land _ _ = _) | exact sub_trans rfl hm | intro _ | dsimp only | assumption

theorem State.writeLoop_touch {μ : Nat} {s₀ s : State} (h : TouchM μ s₀ s) (off : Nat) (old new v : Word)
    (hm : Nat.land 35192840 μ = 35192840 := by first | (apply sub_trans; rotate_left; (with_reducible assumption); rfl) | rfl) : TouchM μ s₀ (State.writeLoop s off old new v) := by
  unfold State.writeLoop
  (try dsimp only)
  repeat' first | with_reducible assumption | (with_reducible first | apply State.store_touch | apply State.restartPort_touch | apply State.retrainPort_touch | apply State.modLoop_touch) | split | exact (rfl : Nat.land _ _ = _) | exact sub_trans rfl hm | intro _ | dsimp only | assumption

theorem State.writeTime_touch {μ : Nat} {s₀ s : State} (h : TouchM μ s₀ s) (off : Nat) (new v : Word)
    (hm : Nat.land 3926827 μ = 3926827 := by first | (apply sub_trans; rotate_left; (with_reducible assumption); rfl) | rfl) : TouchM μ s₀ (State.writeTime s off new v) := by
  unfold State.writeTime
  (try dsimp only)
  repeat' first | with_reducible assumption | (with_reducible first | apply State.modTu_touch | apply State.setTime_touch | apply State.beginSlew_touch | apply State.store_touch | apply State.followOff_touch) | split | exact (rfl : Nat.land _ _ = _) | exact sub_trans rfl hm | intro _ | dsimp only | assumption

theorem State.writePlay_touch {μ : Nat} {s₀ s : State} (h : TouchM μ s₀ s) (off : Nat) (new v : Word)
    (hm : Nat.land 1032 μ = 1032 := by first | (apply sub_trans; rotate_left; (with_reducible assumption); rfl) | rfl) : TouchM μ s₀ (State.writePlay s off new v) := by
  unfold State.writePlay
  (try dsimp only)
  repeat' first | with_reducible assumption | (with_reducible first | apply State.directSwap_touch | apply State.store_touch | apply State.unverify_touch) | split | exact (rfl : Nat.land _ _ = _) | exact sub_trans rfl hm | intro _ | dsimp only | assumption

theorem State.writeSpc_touch {μ : Nat} {s₀ s : State} (h : TouchM μ s₀ s) (off : Nat) (old new v : Word)
    (hm : Nat.land 34605212 μ = 34605212 := by first | (apply sub_trans; rotate_left; (with_reducible assumption); rfl) | rfl) : TouchM μ s₀ (State.writeSpc s off old new v) := by
  unfold State.writeSpc
  (try dsimp only)
  repeat' first | with_reducible assumption | (with_reducible first | apply State.store_touch | apply State.wroteSpcEn_touch | apply State.wroteCapacity_touch | apply State.clearFailed_touch | apply State.clampWidths_touch | apply State.wroteStepCtrl_touch) | split | exact (rfl : Nat.land _ _ = _) | exact sub_trans rfl hm | intro _ | dsimp only | assumption

theorem State.writeMeas_touch {μ : Nat} {s₀ s : State} (h : TouchM μ s₀ s) (off : Nat) (old new v : Word)
    (hm : Nat.land 1053736 μ = 1053736 := by first | (apply sub_trans; rotate_left; (with_reducible assumption); rfl) | rfl) : TouchM μ s₀ (State.writeMeas s off old new v) := by
  unfold State.writeMeas
  (try dsimp only)
  repeat' first | with_reducible assumption | (with_reducible first | apply State.store_touch | apply State.modMeas_touch | apply State.readmit_touch | apply State.unverify_touch | apply each_touch) | split | exact (rfl : Nat.land _ _ = _) | exact sub_trans rfl hm | intro _ | dsimp only | assumption

theorem State.writeAna_touch {μ : Nat} {s₀ s : State} (h : TouchM μ s₀ s) (off : Nat) (new v : Word)
    (hm : Nat.land 35201160 μ = 35201160 := by first | (apply sub_trans; rotate_left; (with_reducible assumption); rfl) | rfl) : TouchM μ s₀ (State.writeAna s off new v) := by
  unfold State.writeAna
  (try dsimp only)
  repeat' first | with_reducible assumption | (with_reducible first | apply State.wroteAnaCtrl_touch | apply State.store_touch) | split | exact (rfl : Nat.land _ _ = _) | exact sub_trans rfl hm | intro _ | dsimp only | assumption

theorem State.writeTherm_touch {μ : Nat} {s₀ s : State} (h : TouchM μ s₀ s) (off : Nat) (new v : Word)
    (hm : Nat.land 2113544 μ = 2113544 := by first | (apply sub_trans; rotate_left; (with_reducible assumption); rfl) | rfl) : TouchM μ s₀ (State.writeTherm s off new v) := by
  unfold State.writeTherm
  (try dsimp only)
  repeat' first | with_reducible assumption | (with_reducible first | apply State.store_touch | apply State.startSlow_touch) | split | exact (rfl : Nat.land _ _ = _) | exact sub_trans rfl hm | intro _ | dsimp only | assumption

theorem State.writeFlt_touch {μ : Nat} {s₀ s : State} (h : TouchM μ s₀ s) (off : Nat) (new v : Word)
    (hm : Nat.land 1048584 μ = 1048584 := by first | (apply sub_trans; rotate_left; (with_reducible assumption); rfl) | rfl) : TouchM μ s₀ (State.writeFlt s off new v) := by
  unfold State.writeFlt
  (try dsimp only)
  repeat' first | with_reducible assumption | (with_reducible first | apply State.store_touch | apply State.wroteFltCtrl_touch | apply State.wroteFltClear_touch) | split | exact (rfl : Nat.land _ _ = _) | exact sub_trans rfl hm | intro _ | dsimp only | assumption

theorem State.writeChk_touch {μ : Nat} {s₀ s : State} (h : TouchM μ s₀ s) (off : Nat) (new v : Word)
    (hm : Nat.land 105447432 μ = 105447432 := by first | (apply sub_trans; rotate_left; (with_reducible assumption); rfl) | rfl) : TouchM μ s₀ (State.writeChk s off new v) := by
  unfold State.writeChk
  (try dsimp only)
  repeat' first | with_reducible assumption | (with_reducible first | apply State.store_touch | apply State.abortScan_touch | apply State.startScan_touch | apply State.modChk_touch) | split | exact (rfl : Nat.land _ _ = _) | exact sub_trans rfl hm | intro _ | refine State.startScan_touchEq (by assumption) ?_ | dsimp only | assumption

theorem State.writeNvm_touch {μ : Nat} {s₀ s : State} (h : TouchM μ s₀ s) (off : Nat) (new v : Word)
    (hm : Nat.land 8389384 μ = 8389384 := by first | (apply sub_trans; rotate_left; (with_reducible assumption); rfl) | rfl) : TouchM μ s₀ (State.writeNvm s off new v) := by
  unfold State.writeNvm
  (try dsimp only)
  repeat' first | with_reducible assumption | (with_reducible first | apply State.store_touch | apply State.startRepair_touch | apply State.collectLogs_touch) | split | exact (rfl : Nat.land _ _ = _) | exact sub_trans rfl hm | intro _ | dsimp only | assumption

theorem State.feedOff_touch {μ : Nat} {s₀ s : State} (h : TouchM μ s₀ s) (g : Seg)
    (hm : Nat.land 37297968 μ = 37297968 := by first | (apply sub_trans; rotate_left; (with_reducible assumption); rfl) | rfl) : TouchM μ s₀ (State.feedOff s g) := by
  unfold State.feedOff
  (try dsimp only)
  repeat' first | with_reducible assumption | (with_reducible first | apply State.abortSegSlice_touch | apply State.segFeedOff_touch | apply State.modSeg_touch) | split | exact (rfl : Nat.land _ _ = _) | exact sub_trans rfl hm | intro _ | dsimp only | assumption

theorem State.writeSegHub_touch {μ : Nat} {s₀ s : State} (h : TouchM μ s₀ s) (off : Nat) (old new v : Word)
    (hm : Nat.land 37297976 μ = 37297976 := by first | (apply sub_trans; rotate_left; (with_reducible assumption); rfl) | rfl) : TouchM μ s₀ (State.writeSegHub s off old new v) := by
  unfold State.writeSegHub
  (try dsimp only)
  repeat' first | with_reducible assumption | (with_reducible first | apply State.store_touch | apply State.segResetAsked_touch | apply State.retrainLink_touch | apply State.feedOff_touch | apply State.modSeg_touch) | split | exact (rfl : Nat.land _ _ = _) | exact sub_trans rfl hm | intro _ | dsimp only | assumption

theorem State.writeHub_touch {μ : Nat} {s₀ s : State} (h : TouchM μ s₀ s) (off : Nat) (old new v : Word)
    (hm : Nat.land 117178303 μ = 117178303 := by first | (apply sub_trans; rotate_left; (with_reducible assumption); rfl) | rfl) : TouchM μ s₀ (State.writeHub s off old new v) := by
  unfold State.writeHub
  (try dsimp only)
  repeat' first | with_reducible assumption | (with_reducible first | apply State.writeSegHub_touch | apply State.requestReset_touch | apply State.store_touch | apply State.writePwr_touch | apply State.writeHost_touch | apply State.writeLoop_touch | apply State.writeTime_touch | apply State.writePlay_touch | apply State.writeSpc_touch | apply State.writeMeas_touch | apply State.writeAna_touch | apply State.writeTherm_touch | apply State.writeFlt_touch | apply State.writeChk_touch | apply State.writeNvm_touch) | split | exact (rfl : Nat.land _ _ = _) | exact sub_trans rfl hm | intro _ | dsimp only | assumption

theorem State.wakeBlock_touch {μ : Nat} {s₀ s : State} (h : TouchM μ s₀ s) (off : Nat)
    (hm : Nat.land 37329456 μ = 37329456 := by first | (apply sub_trans; rotate_left; (with_reducible assumption); rfl) | rfl) : TouchM μ s₀ (State.wakeBlock s off) := by
  unfold State.wakeBlock
  (try dsimp only)
  repeat' first | with_reducible assumption | (with_reducible first | apply State.stopEntry_touch | apply State.setPower_touch) | split | exact (rfl : Nat.land _ _ = _) | exact sub_trans rfl hm | intro _ | dsimp only | assumption

theorem State.stagedLast_touch {μ : Nat} {s₀ s : State} (h : TouchM μ s₀ s) (off : Nat) (d : RegDef)
    (hm : Nat.land 117178303 μ = 117178303 := by first | (apply sub_trans; rotate_left; (with_reducible assumption); rfl) | rfl) : TouchM μ s₀ (State.stagedLast s off d) := by
  unfold State.stagedLast
  (try dsimp only)
  repeat' first | with_reducible assumption | (with_reducible first | apply State.writeHub_touch | apply each_touch) | split | exact (rfl : Nat.land _ _ = _) | exact sub_trans rfl hm | intro _ | dsimp only | assumption

theorem State.loopLast_touch {μ : Nat} {s₀ s : State} (h : TouchM μ s₀ s) (off : Nat) (d : RegDef) (o : Origin)
    (hm : Nat.land 117178303 μ = 117178303 := by first | (apply sub_trans; rotate_left; (with_reducible assumption); rfl) | rfl) : TouchM μ s₀ (State.loopLast s off d o) := by
  unfold State.loopLast
  (try dsimp only)
  repeat' first | with_reducible assumption | (with_reducible first | apply State.writeHub_touch | apply each_touch) | split | exact (rfl : Nat.land _ _ = _) | exact sub_trans rfl hm | intro _ | dsimp only | assumption

theorem State.directWrite_touch {μ : Nat} {s₀ s : State} (h : TouchM μ s₀ s) (off : Nat) (d : RegDef) (w : Wr)
    (hm : Nat.land 117178303 μ = 117178303 := by first | (apply sub_trans; rotate_left; (with_reducible assumption); rfl) | rfl) : TouchM μ s₀ (State.directWrite s off d w).1 := by
  unfold State.directWrite
  (try dsimp only)
  repeat' first | with_reducible assumption | (with_reducible first | apply State.sendDown_touch | apply State.writeHub_touch | apply State.stagedLast_touch | apply State.loopLast_touch) | split | exact (rfl : Nat.land _ _ = _) | exact sub_trans rfl hm | intro _ | dsimp only | assumption

theorem State.directWrite_touchEq {μ : Nat} {s₀ s u₁ : State} {a₁} {off : Nat} {d : RegDef} {w : Wr}
    (e : State.directWrite s off d w = (u₁, a₁)) (h : TouchM μ s₀ s) (hm : Nat.land 117178303 μ = 117178303 := by first | (apply sub_trans; rotate_left; (with_reducible assumption); rfl) | rfl) : TouchM μ s₀ u₁ := by
  have k := State.directWrite_touch h off d w hm
  rw [e] at k
  exact k

theorem State.stageWrite_touch {μ : Nat} {s₀ s : State} (h : TouchM μ s₀ s) (off : Nat) (d : RegDef) (w : Wr)
    (hm : Nat.land 263680 μ = 263680 := by first | (apply sub_trans; rotate_left; (with_reducible assumption); rfl) | rfl) : TouchM μ s₀ (State.stageWrite s off d w).1 := by
  unfold State.stageWrite
  (try dsimp only)
  repeat' first | with_reducible assumption | (with_reducible first | apply State.modAcc_touch | apply State.modPlay_touch | apply State.sendDown_touch) | split | exact (rfl : Nat.land _ _ = _) | exact sub_trans rfl hm | intro _ | dsimp only | assumption

theorem State.stageWrite_touchEq {μ : Nat} {s₀ s u₁ : State} {a₁} {off : Nat} {d : RegDef} {w : Wr}
    (e : State.stageWrite s off d w = (u₁, a₁)) (h : TouchM μ s₀ s) (hm : Nat.land 263680 μ = 263680 := by first | (apply sub_trans; rotate_left; (with_reducible assumption); rfl) | rfl) : TouchM μ s₀ u₁ := by
  have k := State.stageWrite_touch h off d w hm
  rw [e] at k
  exact k

theorem State.writeReg_touch {μ : Nat} {s₀ s : State} (h : TouchM μ s₀ s) (off : Nat) (w : Wr)
    (hm : Nat.land 117440447 μ = 117440447 := by first | (apply sub_trans; rotate_left; (with_reducible assumption); rfl) | rfl) : TouchM μ s₀ (State.writeReg s off w).1 := by
  unfold State.writeReg
  (try dsimp only)
  repeat' first | with_reducible assumption | (with_reducible first | apply State.wakeBlock_touch | apply State.directWrite_touch | apply State.stageWrite_touch) | split | exact (rfl : Nat.land _ _ = _) | exact sub_trans rfl hm | intro _ | refine State.directWrite_touchEq (by assumption) ?_ | refine State.stageWrite_touchEq (by assumption) ?_ | dsimp only | assumption

theorem State.writeReg_touchEq {μ : Nat} {s₀ s u₁ : State} {a₁} {off : Nat} {w : Wr}
    (e : State.writeReg s off w = (u₁, a₁)) (h : TouchM μ s₀ s) (hm : Nat.land 117440447 μ = 117440447 := by first | (apply sub_trans; rotate_left; (with_reducible assumption); rfl) | rfl) : TouchM μ s₀ u₁ := by
  have k := State.writeReg_touch h off w hm
  rw [e] at k
  exact k

end Sys2Proof.Machine
end

