-- ==== Sys2Proof/Laws/TouchAccordOps.lean ====
section
/-!
SUPPORT. Which parts of the state the operations of Machine/AccordOps.lean may change.
-/

namespace Sys2Proof.Machine

-- One theorem at a time, which bounds the memory of the whole package's compile.
set_option Elab.async false

theorem State.accordAnswer_touch {μ : Nat} {s₀ s : State} (h : TouchM μ s₀ s) (st : Status)
    (hm : Nat.land 262144 μ = 262144 := by first | (apply sub_trans; rotate_left; (with_reducible assumption); rfl) | rfl) : TouchM μ s₀ (State.accordAnswer s st).1 := by
  unfold State.accordAnswer
  (try dsimp only)
  repeat' first | with_reducible assumption | (with_reducible first | apply State.modAcc_touch) | split | exact (rfl : Nat.land _ _ = _) | exact sub_trans rfl hm | intro _ | dsimp only | assumption

theorem State.accordAnswer_touchEq {μ : Nat} {s₀ s u₁ : State} {a₁} {st : Status}
    (e : State.accordAnswer s st = (u₁, a₁)) (h : TouchM μ s₀ s) (hm : Nat.land 262144 μ = 262144 := by first | (apply sub_trans; rotate_left; (with_reducible assumption); rfl) | rfl) : TouchM μ s₀ u₁ := by
  have k := State.accordAnswer_touch h st hm
  rw [e] at k
  exact k

theorem State.accordBegin_touch {μ : Nat} {s₀ s : State} (h : TouchM μ s₀ s) (id : BitVec 16)
    (hm : Nat.land 262144 μ = 262144 := by first | (apply sub_trans; rotate_left; (with_reducible assumption); rfl) | rfl) : TouchM μ s₀ (State.accordBegin s id).1 := by
  unfold State.accordBegin
  (try dsimp only)
  repeat' first | with_reducible assumption | (with_reducible first | apply State.accordAnswer_touch | apply State.modAcc_touch) | split | exact (rfl : Nat.land _ _ = _) | exact sub_trans rfl hm | intro _ | refine State.accordAnswer_touchEq (by assumption) ?_ | dsimp only | assumption

theorem State.accordBegin_touchEq {μ : Nat} {s₀ s u₁ : State} {a₁} {id : BitVec 16}
    (e : State.accordBegin s id = (u₁, a₁)) (h : TouchM μ s₀ s) (hm : Nat.land 262144 μ = 262144 := by first | (apply sub_trans; rotate_left; (with_reducible assumption); rfl) | rfl) : TouchM μ s₀ u₁ := by
  have k := State.accordBegin_touch h id hm
  rw [e] at k
  exact k

theorem State.accordPrepare_touch {μ : Nat} {s₀ s : State} (h : TouchM μ s₀ s) (id : BitVec 16) (count t : Nat)
    (hm : Nat.land 262144 μ = 262144 := by first | (apply sub_trans; rotate_left; (with_reducible assumption); rfl) | rfl) : TouchM μ s₀ (State.accordPrepare s id count t).1 := by
  unfold State.accordPrepare
  (try dsimp only)
  repeat' first | with_reducible assumption | (with_reducible first | apply State.accordAnswer_touch | apply State.modAcc_touch) | split | exact (rfl : Nat.land _ _ = _) | exact sub_trans rfl hm | intro _ | refine State.accordAnswer_touchEq (by assumption) ?_ | dsimp only | assumption

theorem State.accordPrepare_touchEq {μ : Nat} {s₀ s u₁ : State} {a₁} {id : BitVec 16} {count t : Nat}
    (e : State.accordPrepare s id count t = (u₁, a₁)) (h : TouchM μ s₀ s) (hm : Nat.land 262144 μ = 262144 := by first | (apply sub_trans; rotate_left; (with_reducible assumption); rfl) | rfl) : TouchM μ s₀ u₁ := by
  have k := State.accordPrepare_touch h id count t hm
  rw [e] at k
  exact k

theorem State.splitNow_touch {μ : Nat} {s₀ s : State} (h : TouchM μ s₀ s)
    (hm : Nat.land 1312256 μ = 1312256 := by first | (apply sub_trans; rotate_left; (with_reducible assumption); rfl) | rfl) : TouchM μ s₀ (State.splitNow s) := by
  unfold State.splitNow
  (try dsimp only)
  repeat' first | with_reducible assumption | (with_reducible first | apply State.rollBack_touch | apply State.raise_touch) | split | exact (rfl : Nat.land _ _ = _) | exact sub_trans rfl hm | intro _ | dsimp only | assumption

theorem State.accordCommit_touch {μ : Nat} {s₀ s : State} (h : TouchM μ s₀ s) (id : BitVec 16) (t : Nat)
    (hm : Nat.land 1312256 μ = 1312256 := by first | (apply sub_trans; rotate_left; (with_reducible assumption); rfl) | rfl) : TouchM μ s₀ (State.accordCommit s id t).1 := by
  unfold State.accordCommit
  (try dsimp only)
  repeat' first | with_reducible assumption | (with_reducible first | apply State.accordAnswer_touch | apply State.modAcc_touch | apply State.sendDown_touch | apply State.splitNow_touch | apply each_touch) | split | exact (rfl : Nat.land _ _ = _) | exact sub_trans rfl hm | intro _ | refine State.accordAnswer_touchEq (by assumption) ?_ | dsimp only | assumption

theorem State.accordCommit_touchEq {μ : Nat} {s₀ s u₁ : State} {a₁} {id : BitVec 16} {t : Nat}
    (e : State.accordCommit s id t = (u₁, a₁)) (h : TouchM μ s₀ s) (hm : Nat.land 1312256 μ = 1312256 := by first | (apply sub_trans; rotate_left; (with_reducible assumption); rfl) | rfl) : TouchM μ s₀ u₁ := by
  have k := State.accordCommit_touch h id t hm
  rw [e] at k
  exact k

theorem State.accordAbort_touch {μ : Nat} {s₀ s : State} (h : TouchM μ s₀ s) (id : BitVec 16)
    (hm : Nat.land 263680 μ = 263680 := by first | (apply sub_trans; rotate_left; (with_reducible assumption); rfl) | rfl) : TouchM μ s₀ (State.accordAbort s id).1 := by
  unfold State.accordAbort
  (try dsimp only)
  repeat' first | with_reducible assumption | (with_reducible first | apply State.modAcc_touch | apply State.accordAnswer_touch | apply State.rollBack_touch) | split | exact (rfl : Nat.land _ _ = _) | exact sub_trans rfl hm | intro _ | refine State.accordAnswer_touchEq (by assumption) ?_ | dsimp only | assumption

theorem State.accordAbort_touchEq {μ : Nat} {s₀ s u₁ : State} {a₁} {id : BitVec 16}
    (e : State.accordAbort s id = (u₁, a₁)) (h : TouchM μ s₀ s) (hm : Nat.land 263680 μ = 263680 := by first | (apply sub_trans; rotate_left; (with_reducible assumption); rfl) | rfl) : TouchM μ s₀ u₁ := by
  have k := State.accordAbort_touch h id hm
  rw [e] at k
  exact k

theorem State.stagedFails_touch {μ : Nat} {s₀ s : State} (h : TouchM μ s₀ s)
    (hm : Nat.land 262144 μ = 262144 := by first | (apply sub_trans; rotate_left; (with_reducible assumption); rfl) | rfl) : TouchM μ s₀ (State.stagedFails s) := by
  unfold State.stagedFails
  (try dsimp only)
  repeat' first | with_reducible assumption | (with_reducible first | apply State.modAcc_touch) | split | exact (rfl : Nat.land _ _ = _) | exact sub_trans rfl hm | intro _ | dsimp only | assumption

theorem State.stagedSwap_touch {μ : Nat} {s₀ s : State} (h : TouchM μ s₀ s)
    (hm : Nat.land 1312016 μ = 1312016 := by first | (apply sub_trans; rotate_left; (with_reducible assumption); rfl) | rfl) : TouchM μ s₀ (State.stagedSwap s) := by
  unfold State.stagedSwap
  (try dsimp only)
  repeat' first | with_reducible assumption | (with_reducible first | apply State.swapBanks_touch | apply State.stagedFails_touch | apply State.raise_touch) | split | exact (rfl : Nat.land _ _ = _) | exact sub_trans rfl hm | intro _ | dsimp only | assumption

theorem State.applyOne_touch {μ : Nat} {s₀ s : State} (h : TouchM μ s₀ s) (w : Staged) (last : Bool)
    (hm : Nat.land 117440447 μ = 117440447 := by first | (apply sub_trans; rotate_left; (with_reducible assumption); rfl) | rfl) : TouchM μ s₀ (State.applyOne s w last) := by
  unfold State.applyOne
  (try dsimp only)
  repeat' first | with_reducible assumption | (with_reducible first | apply State.applyWindow_touch | apply State.store_touch | apply State.stagedFails_touch | apply State.writeHub_touch | apply State.stagedSwap_touch) | split | exact (rfl : Nat.land _ _ = _) | exact sub_trans rfl hm | intro _ | dsimp only | assumption

theorem State.applyStaged_touch {μ : Nat} {s₀ s : State} (h : TouchM μ s₀ s) (l : List Staged)
    (hm : Nat.land 117440447 μ = 117440447 := by first | (apply sub_trans; rotate_left; (with_reducible assumption); rfl) | rfl) : TouchM μ s₀ (State.applyStaged l s) := by
  induction l generalizing s with
  | nil => exact h
  | cons w t ih =>
    unfold State.applyStaged
    exact ih (State.applyOne_touch h _ _)


theorem State.commitNow_touch {μ : Nat} {s₀ s : State} (h : TouchM μ s₀ s)
    (hm : Nat.land 117440447 μ = 117440447 := by first | (apply sub_trans; rotate_left; (with_reducible assumption); rfl) | rfl) : TouchM μ s₀ (State.commitNow s) := by
  unfold State.commitNow
  (try dsimp only)
  repeat' first | with_reducible assumption | (with_reducible first | apply State.applyStaged_touch | apply State.modSeg_touch | apply State.sendDown_touch | apply State.modAcc_touch | apply State.modPlay_touch | apply State.raise_touch | apply each_touch) | split | exact (rfl : Nat.land _ _ = _) | exact sub_trans rfl hm | intro _ | dsimp only | assumption

theorem execAccordApply_touch (s : State) : TouchOut 117440447 s (execAccordApply s) := by
  have h := TouchM.refl 117440447 s
  unfold execAccordApply
  (try dsimp only)
  repeat' first | with_reducible assumption | (with_reducible first | apply State.commitNow_touch | apply State.done_touch) | split | exact (rfl : Nat.land _ _ = _) | exact sub_trans rfl hm | intro _ | dsimp only | assumption

theorem execGraceExpiry_touch (s : State) : TouchOut 1312256 s (execGraceExpiry s) := by
  have h := TouchM.refl 1312256 s
  unfold execGraceExpiry
  (try dsimp only)
  repeat' first | with_reducible assumption | (with_reducible first | apply State.splitNow_touch | apply State.done_touch) | split | exact (rfl : Nat.land _ _ = _) | exact sub_trans rfl hm | intro _ | dsimp only | assumption

end Sys2Proof.Machine
end

