-- ==== Sys2Proof/Laws/TouchCommands.lean ====
section
/-!
SUPPORT. Which parts of the state the operations of Machine/Commands.lean may change.
-/

namespace Sys2Proof.Machine

-- One theorem at a time, which bounds the memory of the whole package's compile.
set_option Elab.async false

theorem State.gated_touch {μ : Nat} {s₀ s : State} (h : TouchM μ s₀ s) (o : Origin) (op : Nat) (mild : Bool)
    {k : State → State × Option Result} (hk : ∀ s, TouchM μ s₀ s → TouchM μ s₀ (k s).1)
    (hm : Nat.land 37329456 μ = 37329456 := by first | (apply sub_trans; rotate_left; (with_reducible assumption); rfl) | rfl) : TouchM μ s₀ (s.gated o op mild k).1 := by
  unfold State.gated
  dsimp only
  repeat' first | with_reducible assumption | with_reducible first | apply hk | apply State.noteCommand_touch | split | exact (rfl : Nat.land _ _ = _) | exact sub_trans rfl hm


theorem State.now__touch {μ : Nat} {s₀ s : State} (h : TouchM μ s₀ s) (r : Result)
    (hm : Nat.land 0 μ = 0 := by first | (apply sub_trans; rotate_left; (with_reducible assumption); rfl) | rfl) : TouchM μ s₀ (State.now_ s r).1 := by
  unfold State.now_
  (try dsimp only)
  repeat' first | with_reducible assumption | split

theorem State.now__touchEq {μ : Nat} {s₀ s u₁ : State} {a₁} {r : Result}
    (e : State.now_ s r = (u₁, a₁)) (h : TouchM μ s₀ s) (hm : Nat.land 0 μ = 0 := by first | (apply sub_trans; rotate_left; (with_reducible assumption); rfl) | rfl) : TouchM μ s₀ u₁ := by
  have k := State.now__touch h r hm
  rw [e] at k
  exact k

theorem State.ends_touch {μ : Nat} {s₀ s : State} (h : TouchM μ s₀ s) (st : Status)
    (hm : Nat.land 0 μ = 0 := by first | (apply sub_trans; rotate_left; (with_reducible assumption); rfl) | rfl) : TouchM μ s₀ (State.ends s st).1 := by
  unfold State.ends
  (try dsimp only)
  repeat' first | with_reducible assumption | split

theorem State.ends_touchEq {μ : Nat} {s₀ s u₁ : State} {a₁} {st : Status}
    (e : State.ends s st = (u₁, a₁)) (h : TouchM μ s₀ s) (hm : Nat.land 0 μ = 0 := by first | (apply sub_trans; rotate_left; (with_reducible assumption); rfl) | rfl) : TouchM μ s₀ u₁ := by
  have k := State.ends_touch h st hm
  rw [e] at k
  exact k

theorem State.afterBar_touch {μ : Nat} {s₀ s : State} (h : TouchM μ s₀ s) (off : Nat) (o : Origin)
    (hm : Nat.land 117440447 μ = 117440447 := by first | (apply sub_trans; rotate_left; (with_reducible assumption); rfl) | rfl) : TouchM μ s₀ (State.afterBar s off o) := by
  unfold State.afterBar
  (try dsimp only)
  repeat' first | with_reducible assumption | (with_reducible first | apply State.writeReg_touch | apply each_touch) | split | exact (rfl : Nat.land _ _ = _) | exact sub_trans rfl hm | intro _ | refine State.writeReg_touchEq (by assumption) ?_ | dsimp only | assumption

theorem State.doRegRead_touch {μ : Nat} {s₀ s : State} (h : TouchM μ s₀ s) (o : Origin) (off : Nat)
    (hm : Nat.land 117440447 μ = 117440447 := by first | (apply sub_trans; rotate_left; (with_reducible assumption); rfl) | rfl) : TouchM μ s₀ (State.doRegRead s o off).1 := by
  unfold State.doRegRead
  (try dsimp only)
  repeat' first | with_reducible assumption | (with_reducible first | apply State.gated_touch | apply State.ends_touch | apply State.now__touch | apply State.afterBar_touch | apply State.readAt_touch) | split | exact (rfl : Nat.land _ _ = _) | exact sub_trans rfl hm | intro _ | refine State.ends_touchEq (by assumption) ?_ | refine State.now__touchEq (by assumption) ?_ | refine State.readAt_touchEq (by assumption) ?_ | dsimp only | assumption

theorem State.doRegRead_touchEq {μ : Nat} {s₀ s u₁ : State} {a₁} {o : Origin} {off : Nat}
    (e : State.doRegRead s o off = (u₁, a₁)) (h : TouchM μ s₀ s) (hm : Nat.land 117440447 μ = 117440447 := by first | (apply sub_trans; rotate_left; (with_reducible assumption); rfl) | rfl) : TouchM μ s₀ u₁ := by
  have k := State.doRegRead_touch h o off hm
  rw [e] at k
  exact k

theorem State.doReadBlock_touch {μ : Nat} {s₀ s : State} (h : TouchM μ s₀ s) (o : Origin) (off count : Nat)
    (hm : Nat.land 37460528 μ = 37460528 := by first | (apply sub_trans; rotate_left; (with_reducible assumption); rfl) | rfl) : TouchM μ s₀ (State.doReadBlock s o off count).1 := by
  unfold State.doReadBlock
  (try dsimp only)
  repeat' first | with_reducible assumption | (with_reducible first | apply State.gated_touch | apply State.ends_touch | apply State.readMany_touch | apply State.now__touch) | split | exact (rfl : Nat.land _ _ = _) | exact sub_trans rfl hm | intro _ | refine State.ends_touchEq (by assumption) ?_ | refine State.now__touchEq (by assumption) ?_ | dsimp only | assumption

theorem State.doReadBlock_touchEq {μ : Nat} {s₀ s u₁ : State} {a₁} {o : Origin} {off count : Nat}
    (e : State.doReadBlock s o off count = (u₁, a₁)) (h : TouchM μ s₀ s) (hm : Nat.land 37460528 μ = 37460528 := by first | (apply sub_trans; rotate_left; (with_reducible assumption); rfl) | rfl) : TouchM μ s₀ u₁ := by
  have k := State.doReadBlock_touch h o off count hm
  rw [e] at k
  exact k

theorem State.doRegWrite_touch {μ : Nat} {s₀ s : State} (h : TouchM μ s₀ s) (off : Nat) (w : Wr)
    (hm : Nat.land 117440447 μ = 117440447 := by first | (apply sub_trans; rotate_left; (with_reducible assumption); rfl) | rfl) : TouchM μ s₀ (State.doRegWrite s off w).1 := by
  unfold State.doRegWrite
  (try dsimp only)
  repeat' first | with_reducible assumption | (with_reducible first | apply State.gated_touch | apply State.modHost_touch | apply State.writeReg_touch) | split | exact (rfl : Nat.land _ _ = _) | exact sub_trans rfl hm | intro _ | refine State.writeReg_touchEq (by assumption) ?_ | dsimp only | assumption

theorem State.doRegWrite_touchEq {μ : Nat} {s₀ s u₁ : State} {a₁} {off : Nat} {w : Wr}
    (e : State.doRegWrite s off w = (u₁, a₁)) (h : TouchM μ s₀ s) (hm : Nat.land 117440447 μ = 117440447 := by first | (apply sub_trans; rotate_left; (with_reducible assumption); rfl) | rfl) : TouchM μ s₀ u₁ := by
  have k := State.doRegWrite_touch h off w hm
  rw [e] at k
  exact k

theorem State.doCensus_touch {μ : Nat} {s₀ s : State} (h : TouchM μ s₀ s) (o : Origin)
    (hm : Nat.land 104438320 μ = 104438320 := by first | (apply sub_trans; rotate_left; (with_reducible assumption); rfl) | rfl) : TouchM μ s₀ (State.doCensus s o).1 := by
  unfold State.doCensus
  (try dsimp only)
  repeat' first | with_reducible assumption | (with_reducible first | apply State.gated_touch | apply State.censusCmd_touch) | split | exact (rfl : Nat.land _ _ = _) | exact sub_trans rfl hm | intro _ | refine State.censusCmd_touchEq (by assumption) ?_ | dsimp only | assumption

theorem State.doCensus_touchEq {μ : Nat} {s₀ s u₁ : State} {a₁} {o : Origin}
    (e : State.doCensus s o = (u₁, a₁)) (h : TouchM μ s₀ s) (hm : Nat.land 104438320 μ = 104438320 := by first | (apply sub_trans; rotate_left; (with_reducible assumption); rfl) | rfl) : TouchM μ s₀ u₁ := by
  have k := State.doCensus_touch h o hm
  rw [e] at k
  exact k

theorem State.doPing_touch {μ : Nat} {s₀ s : State} (h : TouchM μ s₀ s) (o : Origin)
    (hm : Nat.land 37329456 μ = 37329456 := by first | (apply sub_trans; rotate_left; (with_reducible assumption); rfl) | rfl) : TouchM μ s₀ (State.doPing s o).1 := by
  unfold State.doPing
  (try dsimp only)
  repeat' first | with_reducible assumption | (with_reducible first | apply State.gated_touch | apply State.now__touch) | split | exact (rfl : Nat.land _ _ = _) | exact sub_trans rfl hm | intro _ | refine State.now__touchEq (by assumption) ?_ | dsimp only | assumption

theorem State.doPing_touchEq {μ : Nat} {s₀ s u₁ : State} {a₁} {o : Origin}
    (e : State.doPing s o = (u₁, a₁)) (h : TouchM μ s₀ s) (hm : Nat.land 37329456 μ = 37329456 := by first | (apply sub_trans; rotate_left; (with_reducible assumption); rfl) | rfl) : TouchM μ s₀ u₁ := by
  have k := State.doPing_touch h o hm
  rw [e] at k
  exact k

theorem State.doLoad_touch {μ : Nat} {s₀ s : State} (h : TouchM μ s₀ s) (o : Origin) (slot : Option (Fin 8)) (offset total : Nat) (data : List Byte)
    (hm : Nat.land 45719088 μ = 45719088 := by first | (apply sub_trans; rotate_left; (with_reducible assumption); rfl) | rfl) : TouchM μ s₀ (State.doLoad s o slot offset total data).1 := by
  unfold State.doLoad
  (try dsimp only)
  repeat' first | with_reducible assumption | (with_reducible first | apply State.gated_touch | apply State.flaconLoad_touch | apply State.now__touch) | split | exact (rfl : Nat.land _ _ = _) | exact sub_trans rfl hm | intro _ | refine State.flaconLoad_touchEq (by assumption) ?_ | refine State.now__touchEq (by assumption) ?_ | dsimp only | assumption

theorem State.doLoad_touchEq {μ : Nat} {s₀ s u₁ : State} {a₁} {o : Origin} {slot : Option (Fin 8)} {offset total : Nat} {data : List Byte}
    (e : State.doLoad s o slot offset total data = (u₁, a₁)) (h : TouchM μ s₀ s) (hm : Nat.land 45719088 μ = 45719088 := by first | (apply sub_trans; rotate_left; (with_reducible assumption); rfl) | rfl) : TouchM μ s₀ u₁ := by
  have k := State.doLoad_touch h o slot offset total data hm
  rw [e] at k
  exact k

theorem State.doVerify_touch {μ : Nat} {s₀ s : State} (h : TouchM μ s₀ s) (o : Origin) (store : Option (Fin 8))
    (hm : Nat.land 45719096 μ = 45719096 := by first | (apply sub_trans; rotate_left; (with_reducible assumption); rfl) | rfl) : TouchM μ s₀ (State.doVerify s o store).1 :=
  State.gated_touch h _ _ _ (fun _ hs => State.flaconVerify_touch hs o store)

theorem State.doVerify_touchEq {μ : Nat} {s₀ s u₁ : State} {a₁} {o : Origin} {store : Option (Fin 8)}
    (e : State.doVerify s o store = (u₁, a₁)) (h : TouchM μ s₀ s)
    (hm : Nat.land 45719096 μ = 45719096 := by first | (apply sub_trans; rotate_left; (with_reducible assumption); rfl) | rfl) : TouchM μ s₀ u₁ := by
  have k := State.doVerify_touch h o store hm
  rw [e] at k
  exact k


theorem State.doErase_touch {μ : Nat} {s₀ s : State} (h : TouchM μ s₀ s) (o : Origin) (target : Nat)
    (hm : Nat.land 45719088 μ = 45719088 := by first | (apply sub_trans; rotate_left; (with_reducible assumption); rfl) | rfl) : TouchM μ s₀ (State.doErase s o target).1 :=
  State.gated_touch h _ _ _ (fun _ hs => State.flaconErase_touch hs o target)

theorem State.doErase_touchEq {μ : Nat} {s₀ s u₁ : State} {a₁} {o : Origin} {target : Nat}
    (e : State.doErase s o target = (u₁, a₁)) (h : TouchM μ s₀ s)
    (hm : Nat.land 45719088 μ = 45719088 := by first | (apply sub_trans; rotate_left; (with_reducible assumption); rfl) | rfl) : TouchM μ s₀ u₁ := by
  have k := State.doErase_touch h o target hm
  rw [e] at k
  exact k


theorem State.doAccord_touch {μ : Nat} {s₀ s : State} (h : TouchM μ s₀ s) (o : Origin) (op : Nat) {k : State → State × Status}
    (hk : ∀ s, TouchM μ s₀ s → TouchM μ s₀ (k s).1)
    (hm : Nat.land 37591600 μ = 37591600 := by first | (apply sub_trans; rotate_left; (with_reducible assumption); rfl) | rfl) : TouchM μ s₀ (s.doAccord o op k).1 := by
  unfold State.doAccord
  have g := State.gated_touch h o op false (k := fun s =>
    if s.among [.ready, .run] then
      let r := k s
      r.1.ends r.2
    else s.ends .rejected) (fun s hs => by
      dsimp only
      split
      · exact State.ends_touch (hk s hs) _
      · exact State.ends_touch hs _)
  generalize s.gated o op false (fun s =>
    if s.among [.ready, .run] then
      let r := k s
      r.1.ends r.2
    else s.ends .rejected) = x at g ⊢
  obtain ⟨t, r⟩ := x
  cases r with
  | none => exact g
  | some r =>
    have g' : TouchM μ s₀ t := g
    dsimp only
    exact State.modAcc_touch g' _


theorem State.doSweep_touch {μ : Nat} {s₀ s : State} (h : TouchM μ s₀ s) (o : Origin) (id plan t : Nat) (cells : BitVec 256)
    (hm : Nat.land 37337648 μ = 37337648 := by first | (apply sub_trans; rotate_left; (with_reducible assumption); rfl) | rfl) : TouchM μ s₀ (State.doSweep s o id plan t cells).1 := by
  unfold State.doSweep
  (try dsimp only)
  repeat' first | with_reducible assumption | (with_reducible first | apply State.gated_touch | apply State.ends_touch | apply State.sweepCmd_touch) | split | exact (rfl : Nat.land _ _ = _) | exact sub_trans rfl hm | intro _ | refine State.ends_touchEq (by assumption) ?_ | refine State.sweepCmd_touchEq (by assumption) ?_ | dsimp only | assumption

theorem State.doSweep_touchEq {μ : Nat} {s₀ s u₁ : State} {a₁} {o : Origin} {id plan t : Nat} {cells : BitVec 256}
    (e : State.doSweep s o id plan t cells = (u₁, a₁)) (h : TouchM μ s₀ s) (hm : Nat.land 37337648 μ = 37337648 := by first | (apply sub_trans; rotate_left; (with_reducible assumption); rfl) | rfl) : TouchM μ s₀ u₁ := by
  have k := State.doSweep_touch h o id plan t cells hm
  rw [e] at k
  exact k

theorem State.doFetch_touch {μ : Nat} {s₀ s : State} (h : TouchM μ s₀ s) (o : Origin) (slot gen : Nat)
    (hm : Nat.land 37337648 μ = 37337648 := by first | (apply sub_trans; rotate_left; (with_reducible assumption); rfl) | rfl) : TouchM μ s₀ (State.doFetch s o slot gen).1 := by
  unfold State.doFetch
  (try dsimp only)
  repeat' first | with_reducible assumption | (with_reducible first | apply State.gated_touch | apply State.ends_touch | apply State.fetchResult_touch | apply State.now__touch) | split | exact (rfl : Nat.land _ _ = _) | exact sub_trans rfl hm | intro _ | refine State.ends_touchEq (by assumption) ?_ | refine State.fetchResult_touchEq (by assumption) ?_ | refine State.now__touchEq (by assumption) ?_ | dsimp only | assumption

theorem State.doFetch_touchEq {μ : Nat} {s₀ s u₁ : State} {a₁} {o : Origin} {slot gen : Nat}
    (e : State.doFetch s o slot gen = (u₁, a₁)) (h : TouchM μ s₀ s) (hm : Nat.land 37337648 μ = 37337648 := by first | (apply sub_trans; rotate_left; (with_reducible assumption); rfl) | rfl) : TouchM μ s₀ u₁ := by
  have k := State.doFetch_touch h o slot gen hm
  rw [e] at k
  exact k

theorem State.doMarks_touch {μ : Nat} {s₀ s : State} (h : TouchM μ s₀ s) (o : Origin) (items : List (Nat × Nat × Nat))
    (hm : Nat.land 37329456 μ = 37329456 := by first | (apply sub_trans; rotate_left; (with_reducible assumption); rfl) | rfl) : TouchM μ s₀ (State.doMarks s o items).1 := by
  unfold State.doMarks
  (try dsimp only)
  repeat' first | with_reducible assumption | (with_reducible first | apply State.gated_touch | apply State.takeMarks_touch | apply State.now__touch) | split | exact (rfl : Nat.land _ _ = _) | exact sub_trans rfl hm | intro _ | refine State.takeMarks_touchEq (by assumption) ?_ | refine State.now__touchEq (by assumption) ?_ | dsimp only | assumption

theorem State.doMarks_touchEq {μ : Nat} {s₀ s u₁ : State} {a₁} {o : Origin} {items : List (Nat × Nat × Nat)}
    (e : State.doMarks s o items = (u₁, a₁)) (h : TouchM μ s₀ s) (hm : Nat.land 37329456 μ = 37329456 := by first | (apply sub_trans; rotate_left; (with_reducible assumption); rfl) | rfl) : TouchM μ s₀ u₁ := by
  have k := State.doMarks_touch h o items hm
  rw [e] at k
  exact k

theorem State.doStreamStart_touch {μ : Nat} {s₀ s : State} (h : TouchM μ s₀ s) (o : Origin) (segs : BitVec 16) (kinds : BitVec 8) (cells : BitVec 256)
    (hm : Nat.land 37329456 μ = 37329456 := by first | (apply sub_trans; rotate_left; (with_reducible assumption); rfl) | rfl) : TouchM μ s₀ (State.doStreamStart s o segs kinds cells).1 := by
  unfold State.doStreamStart
  (try dsimp only)
  repeat' first | with_reducible assumption | (with_reducible first | apply State.gated_touch | apply State.streamStart_touch | apply State.ends_touch) | split | exact (rfl : Nat.land _ _ = _) | exact sub_trans rfl hm | intro _ | refine State.streamStart_touchEq (by assumption) ?_ | refine State.ends_touchEq (by assumption) ?_ | dsimp only | assumption

theorem State.doStreamStart_touchEq {μ : Nat} {s₀ s u₁ : State} {a₁} {o : Origin} {segs : BitVec 16} {kinds : BitVec 8} {cells : BitVec 256}
    (e : State.doStreamStart s o segs kinds cells = (u₁, a₁)) (h : TouchM μ s₀ s) (hm : Nat.land 37329456 μ = 37329456 := by first | (apply sub_trans; rotate_left; (with_reducible assumption); rfl) | rfl) : TouchM μ s₀ u₁ := by
  have k := State.doStreamStart_touch h o segs kinds cells hm
  rw [e] at k
  exact k

theorem State.doStreamStop_touch {μ : Nat} {s₀ s : State} (h : TouchM μ s₀ s) (o : Origin)
    (hm : Nat.land 37329456 μ = 37329456 := by first | (apply sub_trans; rotate_left; (with_reducible assumption); rfl) | rfl) : TouchM μ s₀ (State.doStreamStop s o).1 := by
  unfold State.doStreamStop
  (try dsimp only)
  repeat' first | with_reducible assumption | (with_reducible first | apply State.gated_touch | apply State.streamStop_touch | apply State.ends_touch) | split | exact (rfl : Nat.land _ _ = _) | exact sub_trans rfl hm | intro _ | refine State.ends_touchEq (by assumption) ?_ | dsimp only | assumption

theorem State.doStreamStop_touchEq {μ : Nat} {s₀ s u₁ : State} {a₁} {o : Origin}
    (e : State.doStreamStop s o = (u₁, a₁)) (h : TouchM μ s₀ s) (hm : Nat.land 37329456 μ = 37329456 := by first | (apply sub_trans; rotate_left; (with_reducible assumption); rfl) | rfl) : TouchM μ s₀ u₁ := by
  have k := State.doStreamStop_touch h o hm
  rw [e] at k
  exact k

theorem State.doRun_touch {μ : Nat} {s₀ s : State} (h : TouchM μ s₀ s) (o : Origin) (t : Nat)
    (hm : Nat.land 37330482 μ = 37330482 := by first | (apply sub_trans; rotate_left; (with_reducible assumption); rfl) | rfl) : TouchM μ s₀ (State.doRun s o t).1 := by
  unfold State.doRun
  (try dsimp only)
  repeat' first | with_reducible assumption | (with_reducible first | apply State.gated_touch | apply State.ends_touch | apply State.runCmd_touch) | split | exact (rfl : Nat.land _ _ = _) | exact sub_trans rfl hm | intro _ | refine State.ends_touchEq (by assumption) ?_ | refine State.runCmd_touchEq (by assumption) ?_ | dsimp only | assumption

theorem State.doRun_touchEq {μ : Nat} {s₀ s u₁ : State} {a₁} {o : Origin} {t : Nat}
    (e : State.doRun s o t = (u₁, a₁)) (h : TouchM μ s₀ s) (hm : Nat.land 37330482 μ = 37330482 := by first | (apply sub_trans; rotate_left; (with_reducible assumption); rfl) | rfl) : TouchM μ s₀ u₁ := by
  have k := State.doRun_touch h o t hm
  rw [e] at k
  exact k

theorem State.toReady_touch {μ : Nat} {s₀ s : State} (h : TouchM μ s₀ s)
    (hm : Nat.land 1538 μ = 1538 := by first | (apply sub_trans; rotate_left; (with_reducible assumption); rfl) | rfl) : TouchM μ s₀ (State.toReady s) := by
  unfold State.toReady
  (try dsimp only)
  repeat' first | with_reducible assumption | (with_reducible first | apply State.enter_touch | apply State.modPlay_touch | apply State.setLinks_touch) | split | exact (rfl : Nat.land _ _ = _) | exact sub_trans rfl hm | intro _ | dsimp only | assumption

theorem State.leaveHalt_touch {μ : Nat} {s₀ s : State} (h : TouchM μ s₀ s)
    (hm : Nat.land 45686322 μ = 45686322 := by first | (apply sub_trans; rotate_left; (with_reducible assumption); rfl) | rfl) : TouchM μ s₀ (State.leaveHalt s) := by
  unfold State.leaveHalt
  (try dsimp only)
  repeat' first | with_reducible assumption | (with_reducible first | apply State.abortSlice_touch | apply State.toReady_touch | apply State.endInhibit_touch | apply State.modBist_touch | apply State.nextSlice_touch | apply State.confirmSlot_touch) | split | exact (rfl : Nat.land _ _ = _) | exact sub_trans rfl hm | intro _ | dsimp only | assumption

theorem State.doStop_touch {μ : Nat} {s₀ s : State} (h : TouchM μ s₀ s) (o : Origin)
    (hm : Nat.land 62504882 μ = 62504882 := by first | (apply sub_trans; rotate_left; (with_reducible assumption); rfl) | rfl) : TouchM μ s₀ (State.doStop s o).1 := by
  unfold State.doStop
  (try dsimp only)
  repeat' first | with_reducible assumption | (with_reducible first | apply State.gated_touch | apply State.ends_touch | apply State.stopRun_touch | apply State.leaveHalt_touch | apply State.abortSlice_touch | apply State.toReady_touch | apply State.modSpc_touch) | split | exact (rfl : Nat.land _ _ = _) | exact sub_trans rfl hm | intro _ | refine State.ends_touchEq (by assumption) ?_ | refine State.stopRun_touchEq (by assumption) ?_ | dsimp only | assumption

theorem State.doStop_touchEq {μ : Nat} {s₀ s u₁ : State} {a₁} {o : Origin}
    (e : State.doStop s o = (u₁, a₁)) (h : TouchM μ s₀ s) (hm : Nat.land 62504882 μ = 62504882 := by first | (apply sub_trans; rotate_left; (with_reducible assumption); rfl) | rfl) : TouchM μ s₀ u₁ := by
  have k := State.doStop_touch h o hm
  rw [e] at k
  exact k

theorem State.doHalt_touch {μ : Nat} {s₀ s : State} (h : TouchM μ s₀ s) (o : Origin)
    (hm : Nat.land 54116278 μ = 54116278 := by first | (apply sub_trans; rotate_left; (with_reducible assumption); rfl) | rfl) : TouchM μ s₀ (State.doHalt s o).1 := by
  unfold State.doHalt
  (try dsimp only)
  repeat' first | with_reducible assumption | (with_reducible first | apply State.gated_touch | apply State.ends_touch | apply State.abortSlice_touch | apply State.haltNow_touch) | split | exact (rfl : Nat.land _ _ = _) | exact sub_trans rfl hm | intro _ | refine State.ends_touchEq (by assumption) ?_ | dsimp only | assumption

theorem State.doHalt_touchEq {μ : Nat} {s₀ s u₁ : State} {a₁} {o : Origin}
    (e : State.doHalt s o = (u₁, a₁)) (h : TouchM μ s₀ s) (hm : Nat.land 54116278 μ = 54116278 := by first | (apply sub_trans; rotate_left; (with_reducible assumption); rfl) | rfl) : TouchM μ s₀ u₁ := by
  have k := State.doHalt_touch h o hm
  rw [e] at k
  exact k

theorem State.doRelease_touch {μ : Nat} {s₀ s : State} (h : TouchM μ s₀ s) (o : Origin) (cells : BitVec 256)
    (hm : Nat.land 37329456 μ = 37329456 := by first | (apply sub_trans; rotate_left; (with_reducible assumption); rfl) | rfl) : TouchM μ s₀ (State.doRelease s o cells).1 := by
  unfold State.doRelease
  (try dsimp only)
  repeat' first | with_reducible assumption | (with_reducible first | apply State.gated_touch | apply State.releaseCmd_touch) | split | exact (rfl : Nat.land _ _ = _) | exact sub_trans rfl hm | intro _ | refine State.releaseCmd_touchEq (by assumption) ?_ | dsimp only | assumption

theorem State.doRelease_touchEq {μ : Nat} {s₀ s u₁ : State} {a₁} {o : Origin} {cells : BitVec 256}
    (e : State.doRelease s o cells = (u₁, a₁)) (h : TouchM μ s₀ s) (hm : Nat.land 37329456 μ = 37329456 := by first | (apply sub_trans; rotate_left; (with_reducible assumption); rfl) | rfl) : TouchM μ s₀ u₁ := by
  have k := State.doRelease_touch h o cells hm
  rw [e] at k
  exact k

theorem State.doFaultRead_touch {μ : Nat} {s₀ s : State} (h : TouchM μ s₀ s) (o : Origin) (what from_ : Nat)
    (hm : Nat.land 37329456 μ = 37329456 := by first | (apply sub_trans; rotate_left; (with_reducible assumption); rfl) | rfl) : TouchM μ s₀ (State.doFaultRead s o what from_).1 := by
  unfold State.doFaultRead
  (try dsimp only)
  repeat' first | with_reducible assumption | (with_reducible first | apply State.gated_touch | apply State.faultRead_touch | apply State.now__touch) | split | exact (rfl : Nat.land _ _ = _) | exact sub_trans rfl hm | intro _ | refine State.faultRead_touchEq (by assumption) ?_ | refine State.now__touchEq (by assumption) ?_ | dsimp only | assumption

theorem State.doFaultRead_touchEq {μ : Nat} {s₀ s u₁ : State} {a₁} {o : Origin} {what from_ : Nat}
    (e : State.doFaultRead s o what from_ = (u₁, a₁)) (h : TouchM μ s₀ s) (hm : Nat.land 37329456 μ = 37329456 := by first | (apply sub_trans; rotate_left; (with_reducible assumption); rfl) | rfl) : TouchM μ s₀ u₁ := by
  have k := State.doFaultRead_touch h o what from_ hm
  rw [e] at k
  exact k

theorem State.doFaultClear_touch {μ : Nat} {s₀ s : State} (h : TouchM μ s₀ s) (o : Origin) (id : Nat)
    (hm : Nat.land 37329456 μ = 37329456 := by first | (apply sub_trans; rotate_left; (with_reducible assumption); rfl) | rfl) : TouchM μ s₀ (State.doFaultClear s o id).1 := by
  unfold State.doFaultClear
  (try dsimp only)
  repeat' first | with_reducible assumption | (with_reducible first | apply State.gated_touch | apply State.clearFaults_touch | apply State.modFlt_touch | apply State.ends_touch) | split | exact (rfl : Nat.land _ _ = _) | exact sub_trans rfl hm | intro _ | refine State.clearFaults_touchEq (by assumption) ?_ | refine State.ends_touchEq (by assumption) ?_ | dsimp only | assumption

theorem State.doFaultClear_touchEq {μ : Nat} {s₀ s u₁ : State} {a₁} {o : Origin} {id : Nat}
    (e : State.doFaultClear s o id = (u₁, a₁)) (h : TouchM μ s₀ s) (hm : Nat.land 37329456 μ = 37329456 := by first | (apply sub_trans; rotate_left; (with_reducible assumption); rfl) | rfl) : TouchM μ s₀ u₁ := by
  have k := State.doFaultClear_touch h o id hm
  rw [e] at k
  exact k

theorem State.doBist_touch {μ : Nat} {s₀ s : State} (h : TouchM μ s₀ s) (o : Origin) (n : Option Slice)
    (hm : Nat.land 37329456 μ = 37329456 := by first | (apply sub_trans; rotate_left; (with_reducible assumption); rfl) | rfl) : TouchM μ s₀ (State.doBist s o n).1 := by
  unfold State.doBist
  (try dsimp only)
  repeat' first | with_reducible assumption | (with_reducible first | apply State.gated_touch | apply State.bistCmd_touch) | split | exact (rfl : Nat.land _ _ = _) | exact sub_trans rfl hm | intro _ | refine State.bistCmd_touchEq (by assumption) ?_ | dsimp only | assumption

theorem State.doBist_touchEq {μ : Nat} {s₀ s u₁ : State} {a₁} {o : Origin} {n : Option Slice}
    (e : State.doBist s o n = (u₁, a₁)) (h : TouchM μ s₀ s) (hm : Nat.land 37329456 μ = 37329456 := by first | (apply sub_trans; rotate_left; (with_reducible assumption); rfl) | rfl) : TouchM μ s₀ u₁ := by
  have k := State.doBist_touch h o n hm
  rw [e] at k
  exact k

theorem State.doScan_touch {μ : Nat} {s₀ s : State} (h : TouchM μ s₀ s) (o : Origin) (c : Fin 4)
    (hm : Nat.land 41523760 μ = 41523760 := by first | (apply sub_trans; rotate_left; (with_reducible assumption); rfl) | rfl) : TouchM μ s₀ (State.doScan s o c).1 := by
  unfold State.doScan
  (try dsimp only)
  repeat' first | with_reducible assumption | (with_reducible first | apply State.gated_touch | apply State.checkCmd_touch) | split | exact (rfl : Nat.land _ _ = _) | exact sub_trans rfl hm | intro _ | refine State.checkCmd_touchEq (by assumption) ?_ | dsimp only | assumption

theorem State.doScan_touchEq {μ : Nat} {s₀ s u₁ : State} {a₁} {o : Origin} {c : Fin 4}
    (e : State.doScan s o c = (u₁, a₁)) (h : TouchM μ s₀ s) (hm : Nat.land 41523760 μ = 41523760 := by first | (apply sub_trans; rotate_left; (with_reducible assumption); rfl) | rfl) : TouchM μ s₀ u₁ := by
  have k := State.doScan_touch h o c hm
  rw [e] at k
  exact k

theorem State.doBudget_touch {μ : Nat} {s₀ s : State} (h : TouchM μ s₀ s) (o : Origin) (us : Word)
    (hm : Nat.land 37329720 μ = 37329720 := by first | (apply sub_trans; rotate_left; (with_reducible assumption); rfl) | rfl) : TouchM μ s₀ (State.doBudget s o us).1 := by
  unfold State.doBudget
  (try dsimp only)
  repeat' first | with_reducible assumption | (with_reducible first | apply State.gated_touch | apply State.powerBudgetCmd_touch | apply State.ends_touch) | split | exact (rfl : Nat.land _ _ = _) | exact sub_trans rfl hm | intro _ | refine State.ends_touchEq (by assumption) ?_ | dsimp only | assumption

theorem State.doBudget_touchEq {μ : Nat} {s₀ s u₁ : State} {a₁} {o : Origin} {us : Word}
    (e : State.doBudget s o us = (u₁, a₁)) (h : TouchM μ s₀ s) (hm : Nat.land 37329720 μ = 37329720 := by first | (apply sub_trans; rotate_left; (with_reducible assumption); rfl) | rfl) : TouchM μ s₀ u₁ := by
  have k := State.doBudget_touch h o us hm
  rw [e] at k
  exact k

theorem State.doWake_touch {μ : Nat} {s₀ s : State} (h : TouchM μ s₀ s) (o : Origin)
    (hm : Nat.land 37329712 μ = 37329712 := by first | (apply sub_trans; rotate_left; (with_reducible assumption); rfl) | rfl) : TouchM μ s₀ (State.doWake s o).1 := by
  unfold State.doWake
  (try dsimp only)
  repeat' first | with_reducible assumption | (with_reducible first | apply State.gated_touch | apply State.wakeCmd_touch) | split | exact (rfl : Nat.land _ _ = _) | exact sub_trans rfl hm | intro _ | refine State.wakeCmd_touchEq (by assumption) ?_ | dsimp only | assumption

theorem State.doWake_touchEq {μ : Nat} {s₀ s u₁ : State} {a₁} {o : Origin}
    (e : State.doWake s o = (u₁, a₁)) (h : TouchM μ s₀ s) (hm : Nat.land 37329712 μ = 37329712 := by first | (apply sub_trans; rotate_left; (with_reducible assumption); rfl) | rfl) : TouchM μ s₀ u₁ := by
  have k := State.doWake_touch h o hm
  rw [e] at k
  exact k

theorem State.doLogRead_touch {μ : Nat} {s₀ s : State} (h : TouchM μ s₀ s) (o : Origin) (source index : Nat)
    (hm : Nat.land 37329456 μ = 37329456 := by first | (apply sub_trans; rotate_left; (with_reducible assumption); rfl) | rfl) : TouchM μ s₀ (State.doLogRead s o source index).1 := by
  unfold State.doLogRead
  (try dsimp only)
  repeat' first | with_reducible assumption | (with_reducible first | apply State.gated_touch | apply State.now__touch) | split | exact (rfl : Nat.land _ _ = _) | exact sub_trans rfl hm | intro _ | refine State.now__touchEq (by assumption) ?_ | dsimp only | assumption

theorem State.doLogRead_touchEq {μ : Nat} {s₀ s u₁ : State} {a₁} {o : Origin} {source index : Nat}
    (e : State.doLogRead s o source index = (u₁, a₁)) (h : TouchM μ s₀ s) (hm : Nat.land 37329456 μ = 37329456 := by first | (apply sub_trans; rotate_left; (with_reducible assumption); rfl) | rfl) : TouchM μ s₀ u₁ := by
  have k := State.doLogRead_touch h o source index hm
  rw [e] at k
  exact k

theorem State.doFw_touch {μ : Nat} {s₀ s : State} (h : TouchM μ s₀ s) (o : Origin) {k : State → Option Result × State}
    (hk : ∀ s, TouchM μ s₀ s → TouchM μ s₀ (k s).2)
    (hm : Nat.land 37329456 μ = 37329456 := by first | (apply sub_trans; rotate_left; (with_reducible assumption); rfl) | rfl) : TouchM μ s₀ (s.doFw o k).1 := by
  unfold State.doFw
  exact State.gated_touch h _ _ _ hk


theorem State.fwPhase_touch {μ : Nat} {s₀ s : State} (h : TouchM μ s₀ s) (o : Origin) (l : List Byte)
    (hm : Nat.land 45718064 μ = 45718064 := by first | (apply sub_trans; rotate_left; (with_reducible assumption); rfl) | rfl) : TouchM μ s₀ (State.fwPhase s o l).1 := by
  unfold State.fwPhase
  (try dsimp only)
  repeat' first | with_reducible assumption | (with_reducible first | apply State.doFw_touch | apply State.fwBegin_touch | apply State.fwChunk_touch | apply State.fwVerify_touch | apply State.fwActivate_touch | apply State.fwAbort_touch | apply State.fwKey_touch) | split | exact (rfl : Nat.land _ _ = _) | exact sub_trans rfl hm | intro _ | refine State.fwBegin_touchEq (by assumption) ?_ | refine State.fwChunk_touchEq (by assumption) ?_ | refine State.fwVerify_touchEq (by assumption) ?_ | refine State.fwActivate_touchEq (by assumption) ?_ | refine State.fwAbort_touchEq (by assumption) ?_ | refine State.fwKey_touchEq (by assumption) ?_ | dsimp only | assumption

theorem State.fwPhase_touchEq {μ : Nat} {s₀ s u₁ : State} {a₁} {o : Origin} {l : List Byte}
    (e : State.fwPhase s o l = (u₁, a₁)) (h : TouchM μ s₀ s) (hm : Nat.land 45718064 μ = 45718064 := by first | (apply sub_trans; rotate_left; (with_reducible assumption); rfl) | rfl) : TouchM μ s₀ u₁ := by
  have k := State.fwPhase_touch h o l hm
  rw [e] at k
  exact k

theorem State.perform_touch {μ : Nat} {s₀ s : State} (h : TouchM μ s₀ s) (o : Origin) (op : Nat) (l : List Byte)
    (hm : Nat.land 134217663 μ = 134217663 := by first | (apply sub_trans; rotate_left; (with_reducible assumption); rfl) | rfl) : TouchM μ s₀ (State.perform s o op l).1 := by
  unfold State.perform
  (try dsimp only)
  repeat' first | with_reducible assumption | (with_reducible first | apply State.gated_touch | apply State.ends_touch | apply State.doRegRead_touch | apply State.doRegWrite_touch | apply State.doReadBlock_touch | apply State.doCensus_touch | apply State.doPing_touch | apply State.doLoad_touch | apply State.doVerify_touch | apply State.doErase_touch | apply State.doAccord_touch | apply State.accordBegin_touch | apply State.accordPrepare_touch | apply State.accordCommit_touch | apply State.accordAbort_touch | apply State.doSweep_touch | apply State.doFetch_touch | apply State.doMarks_touch | apply State.doStreamStart_touch | apply State.doStreamStop_touch | apply State.doRun_touch | apply State.doStop_touch | apply State.doHalt_touch | apply State.doRelease_touch | apply State.doFaultRead_touch | apply State.doFaultClear_touch | apply State.doBist_touch | apply State.doScan_touch | apply State.doBudget_touch | apply State.doWake_touch | apply State.doLogRead_touch | apply State.fwPhase_touch) | split | exact (rfl : Nat.land _ _ = _) | exact sub_trans rfl hm | intro _ | refine State.ends_touchEq (by assumption) ?_ | refine State.doRegRead_touchEq (by assumption) ?_ | refine State.doRegWrite_touchEq (by assumption) ?_ | refine State.doReadBlock_touchEq (by assumption) ?_ | refine State.doCensus_touchEq (by assumption) ?_ | refine State.doPing_touchEq (by assumption) ?_ | refine State.doLoad_touchEq (by assumption) ?_ | refine State.accordBegin_touchEq (by assumption) ?_ | refine State.accordPrepare_touchEq (by assumption) ?_ | refine State.accordCommit_touchEq (by assumption) ?_ | refine State.accordAbort_touchEq (by assumption) ?_ | refine State.doSweep_touchEq (by assumption) ?_ | refine State.doFetch_touchEq (by assumption) ?_ | refine State.doMarks_touchEq (by assumption) ?_ | refine State.doStreamStart_touchEq (by assumption) ?_ | refine State.doStreamStop_touchEq (by assumption) ?_ | refine State.doRun_touchEq (by assumption) ?_ | refine State.doStop_touchEq (by assumption) ?_ | refine State.doHalt_touchEq (by assumption) ?_ | refine State.doRelease_touchEq (by assumption) ?_ | refine State.doFaultRead_touchEq (by assumption) ?_ | refine State.doFaultClear_touchEq (by assumption) ?_ | refine State.doBist_touchEq (by assumption) ?_ | refine State.doScan_touchEq (by assumption) ?_ | refine State.doBudget_touchEq (by assumption) ?_ | refine State.doWake_touchEq (by assumption) ?_ | refine State.doLogRead_touchEq (by assumption) ?_ | refine State.fwPhase_touchEq (by assumption) ?_ | dsimp only | assumption

theorem State.perform_touchEq {μ : Nat} {s₀ s u₁ : State} {a₁} {o : Origin} {op : Nat} {l : List Byte}
    (e : State.perform s o op l = (u₁, a₁)) (h : TouchM μ s₀ s) (hm : Nat.land 134217663 μ = 134217663 := by first | (apply sub_trans; rotate_left; (with_reducible assumption); rfl) | rfl) : TouchM μ s₀ u₁ := by
  have k := State.perform_touch h o op l hm
  rw [e] at k
  exact k

theorem State.barReply_touch {μ : Nat} {s₀ s : State} (h : TouchM μ s₀ s) (off : Nat) (r : Result)
    (hm : Nat.land 100663296 μ = 100663296 := by first | (apply sub_trans; rotate_left; (with_reducible assumption); rfl) | rfl) : TouchM μ s₀ (State.barReply s off r) := by
  unfold State.barReply
  (try dsimp only)
  repeat' first | with_reducible assumption | (with_reducible first | apply State.emit_touch | apply State.freeBits_touch) | split | exact (rfl : Nat.land _ _ = _) | exact sub_trans rfl hm | intro _ | dsimp only | assumption

theorem State.conclude_touch {μ : Nat} {s₀ : State} (o : Origin) (op : Nat) {r : State × Option Result} (h : TouchM μ s₀ r.1)
    (hm : Nat.land 34144256 μ = 34144256 := by first | (apply sub_trans; rotate_left; (with_reducible assumption); rfl) | rfl) : TouchM μ s₀ (State.conclude o op r) := by
  obtain ⟨s, r⟩ := r
  cases r <;> cases o <;> unfold State.conclude <;> dsimp only at h ⊢ <;>
    repeat' first | with_reducible assumption | with_reducible first | apply State.reply_touch | apply State.modLoop_touch | split | exact (rfl : Nat.land _ _ = _) | exact sub_trans rfl hm


theorem State.arrives_touch {μ : Nat} {s₀ s : State} (h : TouchM μ s₀ s) (o : Origin) (op : Nat)
    {k : State → State × Option Result} (hk : ∀ s, TouchM μ s₀ s → TouchM μ s₀ (k s).1)
    (hm : Nat.land 34144256 μ = 34144256 := by first | (apply sub_trans; rotate_left; (with_reducible assumption); rfl) | rfl) : TouchM μ s₀ (s.arrives o op k) := by
  unfold State.arrives
  repeat' first | with_reducible assumption | with_reducible first | apply hk | apply State.conclude_touch | apply State.reply_touch | split | exact (rfl : Nat.land _ _ = _) | exact sub_trans rfl hm


end Sys2Proof.Machine
end

