-- ==== Sys2Proof/Laws/TouchRegRows.lean ====
section
/-!
SUPPORT. Which parts of the state the operations of Machine/RegRows.lean may change.
-/

namespace Sys2Proof.Machine

-- One theorem at a time, which bounds the memory of the whole package's compile.
set_option Elab.async false

theorem State.writeRow_touch {μ : Nat} {s₀ s : State} (h : TouchM μ s₀ s) (off : Nat) (isRow : Wr → Bool) (w : Wr)
    (hm : Nat.land 117440447 μ = 117440447 := by first | (apply sub_trans; rotate_left; (with_reducible assumption); rfl) | rfl) : TouchM μ s₀ (State.writeRow s off isRow w) := by
  unfold State.writeRow
  (try dsimp only)
  repeat' first | with_reducible assumption | (with_reducible first | apply State.arrives_touch | apply State.doRegWrite_touch) | split | exact (rfl : Nat.land _ _ = _) | exact sub_trans rfl hm | intro _ | refine State.doRegWrite_touchEq (by assumption) ?_ | dsimp only | assumption

theorem State.doWindowWrite_touch {μ : Nat} {s₀ s : State} (h : TouchM μ s₀ s) (g : Seg) (off : Nat) (w : Wr)
    (hm : Nat.land 117440447 μ = 117440447 := by first | (apply sub_trans; rotate_left; (with_reducible assumption); rfl) | rfl) : TouchM μ s₀ (State.doWindowWrite s g off w).1 := by
  unfold State.doWindowWrite
  (try dsimp only)
  repeat' first | with_reducible assumption | (with_reducible first | apply State.gated_touch | apply State.wakeBlock_touch | apply State.applyWindow_touch | apply State.store_touch | apply State.ends_touch | apply State.writeReg_touch) | split | exact (rfl : Nat.land _ _ = _) | exact sub_trans rfl hm | intro _ | refine State.ends_touchEq (by assumption) ?_ | refine State.writeReg_touchEq (by assumption) ?_ | dsimp only | assumption

theorem State.doWindowWrite_touchEq {μ : Nat} {s₀ s u₁ : State} {a₁} {g : Seg} {off : Nat} {w : Wr}
    (e : State.doWindowWrite s g off w = (u₁, a₁)) (h : TouchM μ s₀ s) (hm : Nat.land 117440447 μ = 117440447 := by first | (apply sub_trans; rotate_left; (with_reducible assumption); rfl) | rfl) : TouchM μ s₀ u₁ := by
  have k := State.doWindowWrite_touch h g off w hm
  rw [e] at k
  exact k

theorem State.windowRow_touch {μ : Nat} {s₀ s : State} (h : TouchM μ s₀ s) (g : Seg) (off : Nat) (isRow : Wr → Bool) (w : Wr)
    (hm : Nat.land 117440447 μ = 117440447 := by first | (apply sub_trans; rotate_left; (with_reducible assumption); rfl) | rfl) : TouchM μ s₀ (State.windowRow s g off isRow w) := by
  unfold State.windowRow
  (try dsimp only)
  repeat' first | with_reducible assumption | (with_reducible first | apply State.arrives_touch | apply State.doWindowWrite_touch) | split | exact (rfl : Nat.land _ _ = _) | exact sub_trans rfl hm | intro _ | refine State.doWindowWrite_touchEq (by assumption) ?_ | dsimp only | assumption

theorem execResetReq_touch (s : State) (w : Wr) : TouchOut 117440447 s (execResetReq w s) := by
  have h := TouchM.refl 117440447 s
  unfold execResetReq
  (try dsimp only)
  repeat' first | with_reducible assumption | (with_reducible first | apply State.writeRow_touch | apply State.done_touch) | split | exact (rfl : Nat.land _ _ = _) | exact sub_trans rfl hm | intro _ | dsimp only | assumption

theorem execFltClear_touch (s : State) (w : Wr) : TouchOut 117440447 s (execFltClear w s) := by
  have h := TouchM.refl 117440447 s
  unfold execFltClear
  (try dsimp only)
  repeat' first | with_reducible assumption | (with_reducible first | apply State.writeRow_touch | apply State.done_touch) | split | exact (rfl : Nat.land _ _ = _) | exact sub_trans rfl hm | intro _ | dsimp only | assumption

theorem execFirstRearm_touch (s : State) (w : Wr) : TouchOut 117440447 s (execFirstRearm w s) := by
  have h := TouchM.refl 117440447 s
  unfold execFirstRearm
  (try dsimp only)
  repeat' first | with_reducible assumption | (with_reducible first | apply State.writeRow_touch | apply State.done_touch) | split | exact (rfl : Nat.land _ _ = _) | exact sub_trans rfl hm | intro _ | dsimp only | assumption

theorem execOvfClear_touch (s : State) (w : Wr) : TouchOut 117440447 s (execOvfClear w s) := by
  have h := TouchM.refl 117440447 s
  unfold execOvfClear
  (try dsimp only)
  repeat' first | with_reducible assumption | (with_reducible first | apply State.writeRow_touch | apply State.done_touch) | split | exact (rfl : Nat.land _ _ = _) | exact sub_trans rfl hm | intro _ | dsimp only | assumption

theorem execCountClear_touch (s : State) (w : Wr) : TouchOut 117440447 s (execCountClear w s) := by
  have h := TouchM.refl 117440447 s
  unfold execCountClear
  (try dsimp only)
  repeat' first | with_reducible assumption | (with_reducible first | apply State.writeRow_touch | apply State.done_touch) | split | exact (rfl : Nat.land _ _ = _) | exact sub_trans rfl hm | intro _ | dsimp only | assumption

theorem execSlowRound_touch (s : State) (w : Option Wr) : TouchOut 117440447 s (execSlowRound w s) := by
  have h := TouchM.refl 117440447 s
  unfold execSlowRound
  (try dsimp only)
  repeat' first | with_reducible assumption | (with_reducible first | apply State.writeRow_touch | apply State.done_touch | apply State.startSlow_touch) | split | exact (rfl : Nat.land _ _ = _) | exact sub_trans rfl hm | intro _ | dsimp only | assumption

theorem execKeeperRelease_touch (s : State) (g : Seg) (w : Wr) : TouchOut 117440447 s (execKeeperRelease g w s) := by
  have h := TouchM.refl 117440447 s
  unfold execKeeperRelease
  (try dsimp only)
  repeat' first | with_reducible assumption | (with_reducible first | apply State.windowRow_touch | apply State.done_touch) | split | exact (rfl : Nat.land _ _ = _) | exact sub_trans rfl hm | intro _ | dsimp only | assumption

theorem execParkReq_touch (s : State) (k : Cell) (w : Wr) : TouchOut 117440447 s (execParkReq k w s) := by
  have h := TouchM.refl 117440447 s
  unfold execParkReq
  (try dsimp only)
  repeat' first | with_reducible assumption | (with_reducible first | apply State.windowRow_touch | apply State.done_touch) | split | exact (rfl : Nat.land _ _ = _) | exact sub_trans rfl hm | intro _ | dsimp only | assumption

theorem execOpenReqSet_touch (s : State) (k : Cell) (w : Wr) : TouchOut 117440447 s (execOpenReqSet k w s) := by
  have h := TouchM.refl 117440447 s
  unfold execOpenReqSet
  (try dsimp only)
  repeat' first | with_reducible assumption | (with_reducible first | apply State.windowRow_touch | apply State.done_touch) | split | exact (rfl : Nat.land _ _ = _) | exact sub_trans rfl hm | intro _ | dsimp only | assumption

theorem execOpenReqClear_touch (s : State) (k : Cell) (w : Wr) : TouchOut 117440447 s (execOpenReqClear k w s) := by
  have h := TouchM.refl 117440447 s
  unfold execOpenReqClear
  (try dsimp only)
  repeat' first | with_reducible assumption | (with_reducible first | apply State.windowRow_touch | apply State.done_touch) | split | exact (rfl : Nat.land _ _ = _) | exact sub_trans rfl hm | intro _ | dsimp only | assumption

theorem execSwap_touch (s : State) (w : Wr) : TouchOut 117440447 s (execSwap w s) := by
  have h := TouchM.refl 117440447 s
  unfold execSwap
  (try dsimp only)
  repeat' first | with_reducible assumption | (with_reducible first | apply State.writeRow_touch | apply State.done_touch) | split | exact (rfl : Nat.land _ _ = _) | exact sub_trans rfl hm | intro _ | dsimp only | assumption

theorem execPhaseReturn_touch (s : State) (w : Wr) : TouchOut 117440447 s (execPhaseReturn w s) := by
  have h := TouchM.refl 117440447 s
  unfold execPhaseReturn
  (try dsimp only)
  repeat' first | with_reducible assumption | (with_reducible first | apply State.writeRow_touch | apply State.done_touch) | split | exact (rfl : Nat.land _ _ = _) | exact sub_trans rfl hm | intro _ | dsimp only | assumption

theorem execSpcCtrlEn_touch (s : State) (w : Wr) : TouchOut 117440447 s (execSpcCtrlEn w s) := by
  have h := TouchM.refl 117440447 s
  unfold execSpcCtrlEn
  (try dsimp only)
  repeat' first | with_reducible assumption | (with_reducible first | apply State.writeRow_touch | apply State.done_touch) | split | exact (rfl : Nat.land _ _ = _) | exact sub_trans rfl hm | intro _ | dsimp only | assumption

theorem execStepCtrlSource_touch (s : State) (w : Wr) : TouchOut 117440447 s (execStepCtrlSource w s) := by
  have h := TouchM.refl 117440447 s
  unfold execStepCtrlSource
  (try dsimp only)
  repeat' first | with_reducible assumption | (with_reducible first | apply State.writeRow_touch | apply State.done_touch) | split | exact (rfl : Nat.land _ _ = _) | exact sub_trans rfl hm | intro _ | dsimp only | assumption

theorem execShuntReadmit_touch (s : State) (w : Wr) : TouchOut 117440447 s (execShuntReadmit w s) := by
  have h := TouchM.refl 117440447 s
  unfold execShuntReadmit
  (try dsimp only)
  repeat' first | with_reducible assumption | (with_reducible first | apply State.writeRow_touch | apply State.done_touch) | split | exact (rfl : Nat.land _ _ = _) | exact sub_trans rfl hm | intro _ | dsimp only | assumption

theorem execGuardWrite_touch (s : State) (w : Wr) : TouchOut 117440447 s (execGuardWrite w s) := by
  have h := TouchM.refl 117440447 s
  unfold execGuardWrite
  (try dsimp only)
  repeat' first | with_reducible assumption | (with_reducible first | apply State.writeRow_touch | apply State.done_touch) | split | exact (rfl : Nat.land _ _ = _) | exact sub_trans rfl hm | intro _ | dsimp only | assumption

theorem execSnapNow_touch (s : State) (w : Wr) : TouchOut 117440447 s (execSnapNow w s) := by
  have h := TouchM.refl 117440447 s
  unfold execSnapNow
  (try dsimp only)
  repeat' first | with_reducible assumption | (with_reducible first | apply State.writeRow_touch | apply State.done_touch) | split | exact (rfl : Nat.land _ _ = _) | exact sub_trans rfl hm | intro _ | dsimp only | assumption

theorem execKvalSnap_touch (s : State) (w : Wr) : TouchOut 117440447 s (execKvalSnap w s) := by
  have h := TouchM.refl 117440447 s
  unfold execKvalSnap
  (try dsimp only)
  repeat' first | with_reducible assumption | (with_reducible first | apply State.writeRow_touch | apply State.done_touch) | split | exact (rfl : Nat.land _ _ = _) | exact sub_trans rfl hm | intro _ | dsimp only | assumption

theorem execKvalReset_touch (s : State) (w : Wr) : TouchOut 117440447 s (execKvalReset w s) := by
  have h := TouchM.refl 117440447 s
  unfold execKvalReset
  (try dsimp only)
  repeat' first | with_reducible assumption | (with_reducible first | apply State.writeRow_touch | apply State.done_touch) | split | exact (rfl : Nat.land _ _ = _) | exact sub_trans rfl hm | intro _ | dsimp only | assumption

theorem execAnomalyClear_touch (s : State) (w : Wr) : TouchOut 117440447 s (execAnomalyClear w s) := by
  have h := TouchM.refl 117440447 s
  unfold execAnomalyClear
  (try dsimp only)
  repeat' first | with_reducible assumption | (with_reducible first | apply State.writeRow_touch | apply State.done_touch) | split | exact (rfl : Nat.land _ _ = _) | exact sub_trans rfl hm | intro _ | dsimp only | assumption

theorem execDrydownCfgCopy_touch (s : State) (cfg : Bool) (w : Wr) : TouchOut 117440447 s (execDrydownCfgCopy cfg w s) := by
  have h := TouchM.refl 117440447 s
  unfold execDrydownCfgCopy
  (try dsimp only)
  repeat' first | with_reducible assumption | (with_reducible first | apply State.writeRow_touch | apply State.done_touch) | split | exact (rfl : Nat.land _ _ = _) | exact sub_trans rfl hm | intro _ | dsimp only | assumption

theorem execLinkRetrain_touch (s : State) (g : Seg) (w : Wr) : TouchOut 117440447 s (execLinkRetrain g w s) := by
  have h := TouchM.refl 117440447 s
  unfold execLinkRetrain
  (try dsimp only)
  repeat' first | with_reducible assumption | (with_reducible first | apply State.writeRow_touch | apply State.done_touch) | split | exact (rfl : Nat.land _ _ = _) | exact sub_trans rfl hm | intro _ | dsimp only | assumption

theorem execSegReset_touch (s : State) (g : Seg) (w : Wr) : TouchOut 117440447 s (execSegReset g w s) := by
  have h := TouchM.refl 117440447 s
  unfold execSegReset
  (try dsimp only)
  repeat' first | with_reducible assumption | (with_reducible first | apply State.writeRow_touch | apply State.done_touch) | split | exact (rfl : Nat.land _ _ = _) | exact sub_trans rfl hm | intro _ | dsimp only | assumption

theorem execPortEnable_touch (s : State) (w : Wr) : TouchOut 117440447 s (execPortEnable w s) := by
  have h := TouchM.refl 117440447 s
  unfold execPortEnable
  (try dsimp only)
  repeat' first | with_reducible assumption | (with_reducible first | apply State.writeRow_touch | apply State.done_touch) | split | exact (rfl : Nat.land _ _ = _) | exact sub_trans rfl hm | intro _ | dsimp only | assumption

theorem execRetrain_touch (s : State) (w : Wr) : TouchOut 117440447 s (execRetrain w s) := by
  have h := TouchM.refl 117440447 s
  unfold execRetrain
  (try dsimp only)
  repeat' first | with_reducible assumption | (with_reducible first | apply State.writeRow_touch | apply State.done_touch) | split | exact (rfl : Nat.land _ _ = _) | exact sub_trans rfl hm | intro _ | dsimp only | assumption

theorem execTimeNowWrite_touch (s : State) (hi lo : Wr) : TouchOut 117440447 s (execTimeNowWrite hi lo s) := by
  have h := TouchM.refl 117440447 s
  unfold execTimeNowWrite
  (try dsimp only)
  repeat' first | with_reducible assumption | (with_reducible first | apply State.writeRow_touch | apply State.done_touch) | split | exact (rfl : Nat.land _ _ = _) | exact sub_trans rfl hm | intro _ | dsimp only | assumption

theorem execFollowOff_touch (s : State) (w : Wr) : TouchOut 117440447 s (execFollowOff w s) := by
  have h := TouchM.refl 117440447 s
  unfold execFollowOff
  (try dsimp only)
  repeat' first | with_reducible assumption | (with_reducible first | apply State.writeRow_touch | apply State.done_touch) | split | exact (rfl : Nat.land _ _ = _) | exact sub_trans rfl hm | intro _ | dsimp only | assumption

theorem State.barRead_touch {μ : Nat} {s₀ s : State} (h : TouchM μ s₀ s) (off : Nat)
    (hm : Nat.land 117440447 μ = 117440447 := by first | (apply sub_trans; rotate_left; (with_reducible assumption); rfl) | rfl) : TouchM μ s₀ (State.barRead s off) := by
  unfold State.barRead
  (try dsimp only)
  repeat' first | with_reducible assumption | (with_reducible first | apply State.doRegRead_touch | apply State.barReply_touch) | split | exact (rfl : Nat.land _ _ = _) | exact sub_trans rfl hm | intro _ | refine State.doRegRead_touchEq (by assumption) ?_ | dsimp only | assumption

theorem State.answerReads_touch {μ : Nat} {s₀ s : State} (h : TouchM μ s₀ s)
    (hm : Nat.land 117440447 μ = 117440447 := by first | (apply sub_trans; rotate_left; (with_reducible assumption); rfl) | rfl) : TouchM μ s₀ (State.answerReads s) := by
  unfold State.answerReads
  (try dsimp only)
  repeat' first | with_reducible assumption | (with_reducible first | apply State.modHost_touch | apply State.barRead_touch | apply each_touch) | split | exact (rfl : Nat.land _ _ = _) | exact sub_trans rfl hm | intro _ | dsimp only | assumption

theorem State.idle_touch {μ : Nat} {s₀ s : State} (h : TouchM μ s₀ s)
    (hm : Nat.land 117440447 μ = 117440447 := by first | (apply sub_trans; rotate_left; (with_reducible assumption); rfl) | rfl) : TouchM μ s₀ (State.idle s) := by
  unfold State.idle
  (try dsimp only)
  repeat' first | with_reducible assumption | (with_reducible first | apply State.answerReads_touch | apply State.idleTick_touch) | split | exact (rfl : Nat.land _ _ = _) | exact sub_trans rfl hm | intro _ | dsimp only | assumption

theorem execRegRead_touch (s : State) (o : Origin) (offset : Nat) : TouchOut 117440447 s (execRegRead o offset s) := by
  have h := TouchM.refl 117440447 s
  unfold execRegRead
  (try dsimp only)
  repeat' first | with_reducible assumption | (with_reducible first | apply State.done_touch | apply State.modHost_touch | apply State.barRead_touch | apply State.arrives_touch | apply State.doRegRead_touch) | split | exact (rfl : Nat.land _ _ = _) | exact sub_trans rfl hm | intro _ | refine State.doRegRead_touchEq (by assumption) ?_ | dsimp only | assumption

theorem execRegReadBlock_touch (s : State) (o : Origin) (offset count : Nat) : TouchOut 37460528 s (execRegReadBlock o offset count s) := by
  have h := TouchM.refl 37460528 s
  unfold execRegReadBlock
  (try dsimp only)
  repeat' first | with_reducible assumption | (with_reducible first | apply State.arrives_touch | apply State.doReadBlock_touch | apply State.done_touch) | split | exact (rfl : Nat.land _ _ = _) | exact sub_trans rfl hm | intro _ | refine State.doReadBlock_touchEq (by assumption) ?_ | dsimp only | assumption

theorem execRegWrite_touch (s : State) (offset : Nat) (w : Wr) : TouchOut 117440447 s (execRegWrite offset w s) := by
  have h := TouchM.refl 117440447 s
  unfold execRegWrite
  (try dsimp only)
  repeat' first | with_reducible assumption | (with_reducible first | apply State.emit_touch | apply State.done_touch | apply State.writeRow_touch) | split | exact (rfl : Nat.land _ _ = _) | exact sub_trans rfl hm | intro _ | dsimp only | assumption

theorem execFlaconPolicyWrite_touch (s : State) (w : Wr) : TouchOut 117440447 s (execFlaconPolicyWrite w s) := by
  have h := TouchM.refl 117440447 s
  unfold execFlaconPolicyWrite
  (try dsimp only)
  repeat' first | with_reducible assumption | (with_reducible first | apply State.writeRow_touch | apply State.done_touch) | split | exact (rfl : Nat.land _ _ = _) | exact sub_trans rfl hm | intro _ | dsimp only | assumption

theorem execLogCopy_touch (s : State) (w : Wr) : TouchOut 117440447 s (execLogCopy w s) := by
  have h := TouchM.refl 117440447 s
  unfold execLogCopy
  (try dsimp only)
  repeat' first | with_reducible assumption | (with_reducible first | apply State.writeRow_touch | apply State.done_touch) | split | exact (rfl : Nat.land _ _ = _) | exact sub_trans rfl hm | intro _ | dsimp only | assumption

theorem execHostEnable_touch (s : State) (w : Wr) : TouchOut 117440447 s (execHostEnable w s) := by
  have h := TouchM.refl 117440447 s
  unfold execHostEnable
  (try dsimp only)
  repeat' first | with_reducible assumption | (with_reducible first | apply State.writeRow_touch | apply State.done_touch) | split | exact (rfl : Nat.land _ _ = _) | exact sub_trans rfl hm | intro _ | dsimp only | assumption

theorem execResetRings_touch (s : State) (w : Wr) : TouchOut 117440447 s (execResetRings w s) := by
  have h := TouchM.refl 117440447 s
  unfold execResetRings
  (try dsimp only)
  repeat' first | with_reducible assumption | (with_reducible first | apply State.writeRow_touch | apply State.done_touch) | split | exact (rfl : Nat.land _ _ = _) | exact sub_trans rfl hm | intro _ | dsimp only | assumption

theorem execScanStart_touch (s : State) (c : Fin 4) (w : Wr) : TouchOut 117440447 s (execScanStart c w s) := by
  have h := TouchM.refl 117440447 s
  unfold execScanStart
  (try dsimp only)
  repeat' first | with_reducible assumption | (with_reducible first | apply State.writeRow_touch | apply State.done_touch) | split | exact (rfl : Nat.land _ _ = _) | exact sub_trans rfl hm | intro _ | dsimp only | assumption

theorem execScanAbort_touch (s : State) (c : Fin 4) (w : Wr) : TouchOut 117440447 s (execScanAbort c w s) := by
  have h := TouchM.refl 117440447 s
  unfold execScanAbort
  (try dsimp only)
  repeat' first | with_reducible assumption | (with_reducible first | apply State.writeRow_touch | apply State.done_touch) | split | exact (rfl : Nat.land _ _ = _) | exact sub_trans rfl hm | intro _ | dsimp only | assumption

end Sys2Proof.Machine
end

