-- ==== Sys2Proof/Laws/TouchCommandRows.lean ====
section
/-!
SUPPORT. Which parts of the state the operations of Machine/CommandRows.lean may change.
-/

namespace Sys2Proof.Machine

-- One theorem at a time, which bounds the memory of the whole package's compile.
set_option Elab.async false

theorem State.actBcast_touch {μ : Nat} {s₀ s : State} (h : TouchM μ s₀ s) (op : Nat) (l : List Byte)
    (hm : Nat.land 134217663 μ = 134217663 := by first | (apply sub_trans; rotate_left; (with_reducible assumption); rfl) | rfl) : TouchM μ s₀ (State.actBcast s op l).1 := by
  unfold State.actBcast
  (try dsimp only)
  repeat' first | with_reducible assumption | (with_reducible first | apply State.perform_touch | apply State.ends_touch) | split | exact (rfl : Nat.land _ _ = _) | exact sub_trans rfl hm | intro _ | refine State.perform_touchEq (by assumption) ?_ | refine State.ends_touchEq (by assumption) ?_ | dsimp only | assumption

theorem State.actBcast_touchEq {μ : Nat} {s₀ s u₁ : State} {a₁} {op : Nat} {l : List Byte}
    (e : State.actBcast s op l = (u₁, a₁)) (h : TouchM μ s₀ s) (hm : Nat.land 134217663 μ = 134217663 := by first | (apply sub_trans; rotate_left; (with_reducible assumption); rfl) | rfl) : TouchM μ s₀ u₁ := by
  have k := State.actBcast_touch h op l hm
  rw [e] at k
  exact k

theorem State.hearBcast_touch {μ : Nat} {s₀ s : State} (h : TouchM μ s₀ s) (f : Frame)
    (hm : Nat.land 134217663 μ = 134217663 := by first | (apply sub_trans; rotate_left; (with_reducible assumption); rfl) | rfl) : TouchM μ s₀ (State.hearBcast s f).1 := by
  unfold State.hearBcast
  (try dsimp only)
  repeat' first | with_reducible assumption | (with_reducible first | apply State.modLoop_touch | apply State.actBcast_touch) | split | exact (rfl : Nat.land _ _ = _) | exact sub_trans rfl hm | intro _ | refine State.actBcast_touchEq (by assumption) ?_ | dsimp only | assumption

theorem State.hearBcast_touchEq {μ : Nat} {s₀ s u₁ : State} {a₁} {f : Frame}
    (e : State.hearBcast s f = (u₁, a₁)) (h : TouchM μ s₀ s) (hm : Nat.land 134217663 μ = 134217663 := by first | (apply sub_trans; rotate_left; (with_reducible assumption); rfl) | rfl) : TouchM μ s₀ u₁ := by
  have k := State.hearBcast_touch h f hm
  rw [e] at k
  exact k

theorem State.memberBcast_touch {μ : Nat} {s₀ s : State} (h : TouchM μ s₀ s) (p : Port) (f : Frame)
    (hm : Nat.land 134217663 μ = 134217663 := by first | (apply sub_trans; rotate_left; (with_reducible assumption); rfl) | rfl) : TouchM μ s₀ (State.memberBcast s p f) := by
  unfold State.memberBcast
  (try dsimp only)
  repeat' first | with_reducible assumption | (with_reducible first | apply State.hearBcast_touch | apply State.toHead_touch | apply State.forward_touch) | split | exact (rfl : Nat.land _ _ = _) | exact sub_trans rfl hm | intro _ | refine State.hearBcast_touchEq (by assumption) ?_ | dsimp only | assumption

theorem State.takeCmd_touch {μ : Nat} {s₀ s : State} (h : TouchM μ s₀ s) (p : Port) (f : Frame)
    (hm : Nat.land 134217663 μ = 134217663 := by first | (apply sub_trans; rotate_left; (with_reducible assumption); rfl) | rfl) : TouchM μ s₀ (State.takeCmd s p f) := by
  unfold State.takeCmd
  (try dsimp only)
  repeat' first | with_reducible assumption | (with_reducible first | apply State.arrives_touch | apply State.perform_touch) | split | exact (rfl : Nat.land _ _ = _) | exact sub_trans rfl hm | intro _ | refine State.perform_touchEq (by assumption) ?_ | dsimp only | assumption

theorem State.headCmd_touch {μ : Nat} {s₀ s : State} (h : TouchM μ s₀ s) (p : Port) (f : Frame)
    (hm : Nat.land 134217663 μ = 134217663 := by first | (apply sub_trans; rotate_left; (with_reducible assumption); rfl) | rfl) : TouchM μ s₀ (State.headCmd s p f) := by
  unfold State.headCmd
  (try dsimp only)
  repeat' first | with_reducible assumption | (with_reducible first | apply State.completeTag_touch | apply State.hearBcast_touch | apply State.sendBack_touch | apply State.takeCmd_touch) | split | exact (rfl : Nat.land _ _ = _) | exact sub_trans rfl hm | intro _ | refine State.hearBcast_touchEq (by assumption) ?_ | dsimp only | assumption

theorem execCmd_touch (s : State) (p : Port) (f : Frame) : TouchOut 134217663 s (execCmd p f s) := by
  have h := TouchM.refl 134217663 s
  unfold execCmd
  (try dsimp only)
  repeat' first | with_reducible assumption | (with_reducible first | apply State.arrive_touch | apply State.headCmd_touch | apply State.memberBcast_touch | apply State.transit_touch | apply State.takeCmd_touch | apply State.done_touch) | split | exact (rfl : Nat.land _ _ = _) | exact sub_trans rfl hm | intro _ | dsimp only | assumption

theorem State.turnAway_touch {μ : Nat} {s₀ s : State} (h : TouchM μ s₀ s) (o : Outstanding) (st : Status)
    (hm : Nat.land 34078720 μ = 34078720 := by first | (apply sub_trans; rotate_left; (with_reducible assumption); rfl) | rfl) : TouchM μ s₀ (State.turnAway s o st) := by
  unfold State.turnAway
  (try dsimp only)
  repeat' first | with_reducible assumption | (with_reducible first | apply State.completeTag_touch) | split | exact (rfl : Nat.land _ _ = _) | exact sub_trans rfl hm | intro _ | dsimp only | assumption

theorem State.leftHead_touch {μ : Nat} {s₀ s : State} (h : TouchM μ s₀ s) (tag : Nat)
    (hm : Nat.land 524288 μ = 524288 := by first | (apply sub_trans; rotate_left; (with_reducible assumption); rfl) | rfl) : TouchM μ s₀ (State.leftHead s tag) := by
  unfold State.leftHead
  (try dsimp only)
  repeat' first | with_reducible assumption | (with_reducible first | apply State.modHost_touch) | split | exact (rfl : Nat.land _ _ = _) | exact sub_trans rfl hm | intro _ | dsimp only | assumption

theorem State.broadcastHalt_touch {μ : Nat} {s₀ s : State} (h : TouchM μ s₀ s) (o : Outstanding)
    (hm : Nat.land 54116278 μ = 54116278 := by first | (apply sub_trans; rotate_left; (with_reducible assumption); rfl) | rfl) : TouchM μ s₀ (State.broadcastHalt s o) := by
  unfold State.broadcastHalt
  (try dsimp only)
  repeat' first | with_reducible assumption | (with_reducible first | apply State.modLoop_touch | apply State.enqueue_touch | apply State.haltNow_touch | apply State.completeTag_touch | apply each_touch) | split | exact (rfl : Nat.land _ _ = _) | exact sub_trans rfl hm | intro _ | dsimp only | assumption

theorem State.broadcast_touch {μ : Nat} {s₀ s : State} (h : TouchM μ s₀ s) (o : Outstanding) (way : Nat) (l : List Byte)
    (hm : Nat.land 134217663 μ = 134217663 := by first | (apply sub_trans; rotate_left; (with_reducible assumption); rfl) | rfl) : TouchM μ s₀ (State.broadcast s o way l) := by
  unfold State.broadcast
  (try dsimp only)
  repeat' first | with_reducible assumption | (with_reducible first | apply State.modHost_touch | apply State.perform_touch | apply State.sendFrame_touch | apply State.leftHead_touch | apply State.completeTag_touch) | split | exact (rfl : Nat.land _ _ = _) | exact sub_trans rfl hm | intro _ | refine State.perform_touchEq (by assumption) ?_ | dsimp only | assumption

theorem State.launch_touch {μ : Nat} {s₀ s : State} (h : TouchM μ s₀ s) (o : Outstanding) (b : List Byte)
    (hm : Nat.land 134217663 μ = 134217663 := by first | (apply sub_trans; rotate_left; (with_reducible assumption); rfl) | rfl) : TouchM μ s₀ (State.launch s o b) := by
  unfold State.launch
  (try dsimp only)
  repeat' first | with_reducible assumption | (with_reducible first | apply State.turnAway_touch | apply State.hostErr_touch | apply State.broadcast_touch | apply State.broadcastHalt_touch | apply State.arrives_touch | apply State.perform_touch | apply State.sendFrame_touch | apply State.leftHead_touch) | split | exact (rfl : Nat.land _ _ = _) | exact sub_trans rfl hm | intro _ | refine State.perform_touchEq (by assumption) ?_ | dsimp only | assumption

theorem State.startWaiting_touch {μ : Nat} {s₀ s : State} (h : TouchM μ s₀ s) (n : Nat)
    (hm : Nat.land 134217663 μ = 134217663 := by first | (apply sub_trans; rotate_left; (with_reducible assumption); rfl) | rfl) : TouchM μ s₀ (State.startWaiting n s) := by
  induction n generalizing s with
  | zero => exact h
  | succ n ih =>
    unfold State.startWaiting
    repeat' first | with_reducible assumption | with_reducible first | apply ih | apply State.launch_touch | apply State.modHost_touch | split | exact (rfl : Nat.land _ _ = _) | exact sub_trans rfl hm


theorem State.startAll_touch {μ : Nat} {s₀ s : State} (h : TouchM μ s₀ s)
    (hm : Nat.land 134217663 μ = 134217663 := by first | (apply sub_trans; rotate_left; (with_reducible assumption); rfl) | rfl) : TouchM μ s₀ (State.startAll s) := by
  unfold State.startAll
  (try dsimp only)
  repeat' first | with_reducible assumption | (with_reducible first | apply State.startWaiting_touch) | split | exact (rfl : Nat.land _ _ = _) | exact sub_trans rfl hm | intro _ | dsimp only | assumption

theorem State.fetch_touch {μ : Nat} {s₀ s : State} (h : TouchM μ s₀ s) (d : List Byte) (buf : Option (List Byte))
    (hm : Nat.land 134217663 μ = 134217663 := by first | (apply sub_trans; rotate_left; (with_reducible assumption); rfl) | rfl) : TouchM μ s₀ (State.fetch s d buf) := by
  unfold State.fetch
  (try dsimp only)
  repeat' first | with_reducible assumption | (with_reducible first | apply State.freeBits_touch | apply State.modHost_touch | apply State.startAll_touch) | split | exact (rfl : Nat.land _ _ = _) | exact sub_trans rfl hm | intro _ | dsimp only | assumption

theorem execDescriptorFetch_touch (s : State) (desc buf : Option (List Byte)) : TouchOut 134217663 s (execDescriptorFetch desc buf s) := by
  have h := TouchM.refl 134217663 s
  unfold execDescriptorFetch
  (try dsimp only)
  repeat' first | with_reducible assumption | (with_reducible first | apply State.done_touch | apply State.startAll_touch | apply State.hostErr_touch | apply State.hostError_touch | apply State.fetch_touch) | split | exact (rfl : Nat.land _ _ = _) | exact sub_trans rfl hm | intro _ | dsimp only | assumption

theorem execCompletion_touch (s : State) : TouchOut 134217663 s (execCompletion s) := by
  have h := TouchM.refl 134217663 s
  unfold execCompletion
  (try dsimp only)
  repeat' first | with_reducible assumption | (with_reducible first | apply State.flushCpl_touch | apply State.startAll_touch | apply State.done_touch) | split | exact (rfl : Nat.land _ _ = _) | exact sub_trans rfl hm | intro _ | dsimp only | assumption

theorem execFaultRead_touch (s : State) (o : Origin) (what from_ : Nat) : TouchOut 37329456 s (execFaultRead o what from_ s) := by
  have h := TouchM.refl 37329456 s
  unfold execFaultRead
  (try dsimp only)
  repeat' first | with_reducible assumption | (with_reducible first | apply State.arrives_touch | apply State.doFaultRead_touch | apply State.done_touch) | split | exact (rfl : Nat.land _ _ = _) | exact sub_trans rfl hm | intro _ | refine State.doFaultRead_touchEq (by assumption) ?_ | dsimp only | assumption

theorem execFaultClear_touch (s : State) (o : Origin) (id : BitVec 16) : TouchOut 37329456 s (execFaultClear o id s) := by
  have h := TouchM.refl 37329456 s
  unfold execFaultClear
  (try dsimp only)
  repeat' first | with_reducible assumption | (with_reducible first | apply State.arrives_touch | apply State.doFaultClear_touch | apply State.done_touch) | split | exact (rfl : Nat.land _ _ = _) | exact sub_trans rfl hm | intro _ | refine State.doFaultClear_touchEq (by assumption) ?_ | dsimp only | assumption

theorem execReleasePark_touch (s : State) (o : Origin) (cells : BitVec 256) : TouchOut 37329456 s (execReleasePark o cells s) := by
  have h := TouchM.refl 37329456 s
  unfold execReleasePark
  (try dsimp only)
  repeat' first | with_reducible assumption | (with_reducible first | apply State.arrives_touch | apply State.doRelease_touch | apply State.done_touch) | split | exact (rfl : Nat.land _ _ = _) | exact sub_trans rfl hm | intro _ | refine State.doRelease_touchEq (by assumption) ?_ | dsimp only | assumption

theorem execRun_touch (s : State) (o : Origin) (t : Nat) : TouchOut 37330482 s (execRun o t s) := by
  have h := TouchM.refl 37330482 s
  unfold execRun
  (try dsimp only)
  repeat' first | with_reducible assumption | (with_reducible first | apply State.arrives_touch | apply State.doRun_touch | apply State.done_touch) | split | exact (rfl : Nat.land _ _ = _) | exact sub_trans rfl hm | intro _ | refine State.doRun_touchEq (by assumption) ?_ | dsimp only | assumption

theorem execStop_touch (s : State) (o : Origin) : TouchOut 62504882 s (execStop o s) := by
  have h := TouchM.refl 62504882 s
  unfold execStop
  (try dsimp only)
  repeat' first | with_reducible assumption | (with_reducible first | apply State.arrives_touch | apply State.doStop_touch | apply State.done_touch) | split | exact (rfl : Nat.land _ _ = _) | exact sub_trans rfl hm | intro _ | refine State.doStop_touchEq (by assumption) ?_ | dsimp only | assumption

theorem execHalt_touch (s : State) (o : Origin) : TouchOut 54116278 s (execHalt o s) := by
  have h := TouchM.refl 54116278 s
  unfold execHalt
  (try dsimp only)
  repeat' first | with_reducible assumption | (with_reducible first | apply State.arrives_touch | apply State.doHalt_touch | apply State.done_touch) | split | exact (rfl : Nat.land _ _ = _) | exact sub_trans rfl hm | intro _ | refine State.doHalt_touchEq (by assumption) ?_ | dsimp only | assumption

theorem execSweep_touch (s : State) (o : Origin) (id plan t : Nat) (cells : BitVec 256) : TouchOut 37337648 s (execSweep o id plan t cells s) := by
  have h := TouchM.refl 37337648 s
  unfold execSweep
  (try dsimp only)
  repeat' first | with_reducible assumption | (with_reducible first | apply State.arrives_touch | apply State.doSweep_touch | apply State.done_touch) | split | exact (rfl : Nat.land _ _ = _) | exact sub_trans rfl hm | intro _ | refine State.doSweep_touchEq (by assumption) ?_ | dsimp only | assumption

theorem execStreamStart_touch (s : State) (o : Origin) (segs : BitVec 16) (kinds : BitVec 8) (cells : BitVec 256) : TouchOut 37329456 s (execStreamStart o segs kinds cells s) := by
  have h := TouchM.refl 37329456 s
  unfold execStreamStart
  (try dsimp only)
  repeat' first | with_reducible assumption | (with_reducible first | apply State.arrives_touch | apply State.doStreamStart_touch | apply State.done_touch) | split | exact (rfl : Nat.land _ _ = _) | exact sub_trans rfl hm | intro _ | refine State.doStreamStart_touchEq (by assumption) ?_ | dsimp only | assumption

theorem execStreamStop_touch (s : State) (o : Origin) : TouchOut 37329456 s (execStreamStop o s) := by
  have h := TouchM.refl 37329456 s
  unfold execStreamStop
  (try dsimp only)
  repeat' first | with_reducible assumption | (with_reducible first | apply State.arrives_touch | apply State.doStreamStop_touch | apply State.done_touch) | split | exact (rfl : Nat.land _ _ = _) | exact sub_trans rfl hm | intro _ | refine State.doStreamStop_touchEq (by assumption) ?_ | dsimp only | assumption

theorem execPowerBudget_touch (s : State) (o : Origin) (us : Word) : TouchOut 37329720 s (execPowerBudget o us s) := by
  have h := TouchM.refl 37329720 s
  unfold execPowerBudget
  (try dsimp only)
  repeat' first | with_reducible assumption | (with_reducible first | apply State.arrives_touch | apply State.doBudget_touch | apply State.done_touch) | split | exact (rfl : Nat.land _ _ = _) | exact sub_trans rfl hm | intro _ | refine State.doBudget_touchEq (by assumption) ?_ | dsimp only | assumption

theorem execWake_touch (s : State) (o : Origin) : TouchOut 37329712 s (execWake o s) := by
  have h := TouchM.refl 37329712 s
  unfold execWake
  (try dsimp only)
  repeat' first | with_reducible assumption | (with_reducible first | apply State.arrives_touch | apply State.doWake_touch | apply State.done_touch) | split | exact (rfl : Nat.land _ _ = _) | exact sub_trans rfl hm | intro _ | refine State.doWake_touchEq (by assumption) ?_ | dsimp only | assumption

theorem execCensus_touch (s : State) (o : Origin) : TouchOut 104438320 s (execCensus o s) := by
  have h := TouchM.refl 104438320 s
  unfold execCensus
  (try dsimp only)
  repeat' first | with_reducible assumption | (with_reducible first | apply State.arrives_touch | apply State.doCensus_touch | apply State.done_touch) | split | exact (rfl : Nat.land _ _ = _) | exact sub_trans rfl hm | intro _ | refine State.doCensus_touchEq (by assumption) ?_ | dsimp only | assumption

theorem execLoopPing_touch (s : State) (o : Origin) : TouchOut 37329456 s (execLoopPing o s) := by
  have h := TouchM.refl 37329456 s
  unfold execLoopPing
  (try dsimp only)
  repeat' first | with_reducible assumption | (with_reducible first | apply State.arrives_touch | apply State.doPing_touch | apply State.done_touch) | split | exact (rfl : Nat.land _ _ = _) | exact sub_trans rfl hm | intro _ | refine State.doPing_touchEq (by assumption) ?_ | dsimp only | assumption

theorem execAccordBegin_touch (s : State) (o : Origin) (id : BitVec 16) : TouchOut 37591600 s (execAccordBegin o id s) := by
  have h := TouchM.refl 37591600 s
  unfold execAccordBegin
  (try dsimp only)
  repeat' first | with_reducible assumption | (with_reducible first | apply State.arrives_touch | apply State.doAccord_touch | apply State.accordBegin_touch | apply State.done_touch) | split | exact (rfl : Nat.land _ _ = _) | exact sub_trans rfl hm | intro _ | refine State.accordBegin_touchEq (by assumption) ?_ | dsimp only | assumption

theorem execAccordPrepare_touch (s : State) (o : Origin) (id : BitVec 16) (count t : Nat) : TouchOut 37591600 s (execAccordPrepare o id count t s) := by
  have h := TouchM.refl 37591600 s
  unfold execAccordPrepare
  (try dsimp only)
  repeat' first | with_reducible assumption | (with_reducible first | apply State.arrives_touch | apply State.doAccord_touch | apply State.accordPrepare_touch | apply State.done_touch) | split | exact (rfl : Nat.land _ _ = _) | exact sub_trans rfl hm | intro _ | refine State.accordPrepare_touchEq (by assumption) ?_ | dsimp only | assumption

theorem execAccordCommit_touch (s : State) (o : Origin) (id : BitVec 16) (t : Nat) : TouchOut 37592624 s (execAccordCommit o id t s) := by
  have h := TouchM.refl 37592624 s
  unfold execAccordCommit
  (try dsimp only)
  repeat' first | with_reducible assumption | (with_reducible first | apply State.arrives_touch | apply State.doAccord_touch | apply State.accordCommit_touch | apply State.done_touch) | split | exact (rfl : Nat.land _ _ = _) | exact sub_trans rfl hm | intro _ | refine State.accordCommit_touchEq (by assumption) ?_ | dsimp only | assumption

theorem execAccordAbort_touch (s : State) (o : Origin) (id : BitVec 16) : TouchOut 37592624 s (execAccordAbort o id s) := by
  have h := TouchM.refl 37592624 s
  unfold execAccordAbort
  (try dsimp only)
  repeat' first | with_reducible assumption | (with_reducible first | apply State.arrives_touch | apply State.doAccord_touch | apply State.accordAbort_touch | apply State.done_touch) | split | exact (rfl : Nat.land _ _ = _) | exact sub_trans rfl hm | intro _ | refine State.accordAbort_touchEq (by assumption) ?_ | dsimp only | assumption

theorem execFlaconLoad_touch (s : State) (o : Origin) (slot : Option (Fin 8)) (offset total : Nat) (data : List Byte) : TouchOut 45719088 s (execFlaconLoad o slot offset total data s) := by
  have h := TouchM.refl 45719088 s
  unfold execFlaconLoad
  (try dsimp only)
  repeat' first | with_reducible assumption | (with_reducible first | apply State.arrives_touch | apply State.doLoad_touch | apply State.done_touch) | split | exact (rfl : Nat.land _ _ = _) | exact sub_trans rfl hm | intro _ | refine State.doLoad_touchEq (by assumption) ?_ | dsimp only | assumption

theorem execFlaconVerify_touch (s : State) (o : Origin) (store : Option (Fin 8)) : TouchOut 45719096 s (execFlaconVerify o store s) := by
  have h := TouchM.refl 45719096 s
  unfold execFlaconVerify
  (try dsimp only)
  repeat' first | with_reducible assumption | (with_reducible first | apply State.arrives_touch | apply State.doVerify_touch | apply State.done_touch) | split | exact (rfl : Nat.land _ _ = _) | exact sub_trans rfl hm | intro _ | dsimp only | assumption

theorem execFlaconErase_touch (s : State) (o : Origin) (target : BitVec 8) : TouchOut 45719088 s (execFlaconErase o target s) := by
  have h := TouchM.refl 45719088 s
  unfold execFlaconErase
  (try dsimp only)
  repeat' first | with_reducible assumption | (with_reducible first | apply State.arrives_touch | apply State.doErase_touch | apply State.done_touch) | split | exact (rfl : Nat.land _ _ = _) | exact sub_trans rfl hm | intro _ | dsimp only | assumption

theorem execResultFetch_touch (s : State) (o : Origin) (slot gen : Nat) : TouchOut 37337648 s (execResultFetch o slot gen s) := by
  have h := TouchM.refl 37337648 s
  unfold execResultFetch
  (try dsimp only)
  repeat' first | with_reducible assumption | (with_reducible first | apply State.arrives_touch | apply State.doFetch_touch | apply State.done_touch) | split | exact (rfl : Nat.land _ _ = _) | exact sub_trans rfl hm | intro _ | refine State.doFetch_touchEq (by assumption) ?_ | dsimp only | assumption

theorem execMarks_touch (s : State) (o : Origin) (items : List (Nat × Nat × Nat)) : TouchOut 37329456 s (execMarks o items s) := by
  have h := TouchM.refl 37329456 s
  unfold execMarks
  (try dsimp only)
  repeat' first | with_reducible assumption | (with_reducible first | apply State.arrives_touch | apply State.doMarks_touch | apply State.done_touch) | split | exact (rfl : Nat.land _ _ = _) | exact sub_trans rfl hm | intro _ | refine State.doMarks_touchEq (by assumption) ?_ | dsimp only | assumption

theorem execNvmLogRead_touch (s : State) (o : Origin) (source index : Nat) : TouchOut 37329456 s (execNvmLogRead o source index s) := by
  have h := TouchM.refl 37329456 s
  unfold execNvmLogRead
  (try dsimp only)
  repeat' first | with_reducible assumption | (with_reducible first | apply State.arrives_touch | apply State.doLogRead_touch | apply State.done_touch) | split | exact (rfl : Nat.land _ _ = _) | exact sub_trans rfl hm | intro _ | refine State.doLogRead_touchEq (by assumption) ?_ | dsimp only | assumption

theorem execBistRun_touch (s : State) (o : Origin) (n : Option Slice) : TouchOut 37329456 s (execBistRun o n s) := by
  have h := TouchM.refl 37329456 s
  unfold execBistRun
  (try dsimp only)
  repeat' first | with_reducible assumption | (with_reducible first | apply State.arrives_touch | apply State.doBist_touch | apply State.done_touch) | split | exact (rfl : Nat.land _ _ = _) | exact sub_trans rfl hm | intro _ | refine State.doBist_touchEq (by assumption) ?_ | dsimp only | assumption

theorem execCheckScan_touch (s : State) (o : Origin) (c : Fin 4) : TouchOut 41523760 s (execCheckScan o c s) := by
  have h := TouchM.refl 41523760 s
  unfold execCheckScan
  (try dsimp only)
  repeat' first | with_reducible assumption | (with_reducible first | apply State.arrives_touch | apply State.doScan_touch | apply State.done_touch) | split | exact (rfl : Nat.land _ _ = _) | exact sub_trans rfl hm | intro _ | refine State.doScan_touchEq (by assumption) ?_ | dsimp only | assumption

theorem execBegin_touch (s : State) (o : Origin) (total version : Nat) : TouchOut 45718064 s (execBegin o total version s) := by
  have h := TouchM.refl 45718064 s
  unfold execBegin
  (try dsimp only)
  repeat' first | with_reducible assumption | (with_reducible first | apply State.arrives_touch | apply State.doFw_touch | apply State.fwBegin_touch | apply State.done_touch) | split | exact (rfl : Nat.land _ _ = _) | exact sub_trans rfl hm | intro _ | refine State.fwBegin_touchEq (by assumption) ?_ | dsimp only | assumption

theorem execChunk_touch (s : State) (o : Origin) (offset : Nat) (data : List Byte) : TouchOut 45718064 s (execChunk o offset data s) := by
  have h := TouchM.refl 45718064 s
  unfold execChunk
  (try dsimp only)
  repeat' first | with_reducible assumption | (with_reducible first | apply State.arrives_touch | apply State.doFw_touch | apply State.fwChunk_touch | apply State.done_touch) | split | exact (rfl : Nat.land _ _ = _) | exact sub_trans rfl hm | intro _ | refine State.fwChunk_touchEq (by assumption) ?_ | dsimp only | assumption

theorem execVerify_touch (s : State) (o : Origin) : TouchOut 45718064 s (execVerify o s) := by
  have h := TouchM.refl 45718064 s
  unfold execVerify
  (try dsimp only)
  repeat' first | with_reducible assumption | (with_reducible first | apply State.arrives_touch | apply State.doFw_touch | apply State.fwVerify_touch | apply State.done_touch) | split | exact (rfl : Nat.land _ _ = _) | exact sub_trans rfl hm | intro _ | refine State.fwVerify_touchEq (by assumption) ?_ | dsimp only | assumption

theorem execActivate_touch (s : State) (o : Origin) : TouchOut 45718064 s (execActivate o s) := by
  have h := TouchM.refl 45718064 s
  unfold execActivate
  (try dsimp only)
  repeat' first | with_reducible assumption | (with_reducible first | apply State.arrives_touch | apply State.doFw_touch | apply State.fwActivate_touch | apply State.done_touch) | split | exact (rfl : Nat.land _ _ = _) | exact sub_trans rfl hm | intro _ | refine State.fwActivate_touchEq (by assumption) ?_ | dsimp only | assumption

theorem execAbort_touch (s : State) (o : Origin) : TouchOut 45718064 s (execAbort o s) := by
  have h := TouchM.refl 45718064 s
  unfold execAbort
  (try dsimp only)
  repeat' first | with_reducible assumption | (with_reducible first | apply State.arrives_touch | apply State.doFw_touch | apply State.fwAbort_touch | apply State.done_touch) | split | exact (rfl : Nat.land _ _ = _) | exact sub_trans rfl hm | intro _ | refine State.fwAbort_touchEq (by assumption) ?_ | dsimp only | assumption

theorem execFlaconKey_touch (s : State) (o : Origin) (key : List Byte) : TouchOut 45718064 s (execFlaconKey o key s) := by
  have h := TouchM.refl 45718064 s
  unfold execFlaconKey
  (try dsimp only)
  repeat' first | with_reducible assumption | (with_reducible first | apply State.arrives_touch | apply State.doFw_touch | apply State.fwKey_touch | apply State.done_touch) | split | exact (rfl : Nat.land _ _ = _) | exact sub_trans rfl hm | intro _ | refine State.fwKey_touchEq (by assumption) ?_ | dsimp only | assumption

end Sys2Proof.Machine
end

