-- ==== Sys2Proof/Laws/Vec.lean ====
section
/-!
SUPPORT. Reading a table after a write.
-/

namespace Sys2Proof

variable {α β : Type} {n : Nat}

@[simp] theorem Vec.get_set_self (v : Vec α n) (i : Fin n) (a : α) : (v.set i a).get i = a := by
  simp [Vec.get, Vec.set]

theorem Vec.get_set_ne (v : Vec α n) {i j : Fin n} (a : α) (h : i ≠ j) : (v.set i a).get j = v.get j := by
  have : i.val ≠ j.val := fun e => h (Fin.ext e)
  simp [Vec.get, Vec.set, this]

@[simp] theorem Vec.get_modify_self (v : Vec α n) (i : Fin n) (f : α → α) : (v.modify i f).get i = f (v.get i) := by
  simp [Vec.modify]

theorem Vec.get_modify_ne (v : Vec α n) {i j : Fin n} (f : α → α) (h : i ≠ j) : (v.modify i f).get j = v.get j :=
  Vec.get_set_ne v _ h

theorem Vec.get_modify (v : Vec α n) (i j : Fin n) (f : α → α) :
    (v.modify i f).get j = if i = j then f (v.get j) else v.get j := by
  by_cases h : i = j
  · subst h
    simp
  · simp [h, Vec.get_modify_ne v f h]

@[simp] theorem Vec.get_map (v : Vec α n) (f : α → β) (i : Fin n) : (v.map f).get i = f (v.get i) := by
  simp [Vec.get, Vec.map]

@[simp] theorem Vec.get_fill (a : α) (i : Fin n) : (Vec.fill n a).get i = a := by
  simp [Vec.get, Vec.fill]

@[simp] theorem Vec.get_mapIdx (v : Vec α n) (f : Nat → α → β) (i : Fin n) : (v.mapIdx f).get i = f i.val (v.get i) := by
  simp [Vec.get, Vec.mapIdx]

end Sys2Proof
end

