-- ==== Sys2Proof/WellFormed.lean ====
section
/-!
DEFINITION. Commands whose operands fit the widths and counts that the spec gives them. What a command does with a
value that fits but is not allowed is its meaning's business; an operand that does not fit can reach no pin.
-/

namespace Sys2Proof

/-- Header fields of a loop frame within the widths of R267, and a payload of at most 256 bytes (R264). -/
def Frame.wf (f : Frame) : Bool :=
  decide (f.ftype < 16) && decide (f.hop < 1024) && decide (f.dist < 1024) && decide (f.lseq < 256) &&
    decide (f.lack < 256) && decide (f.info < 2048) && decide (f.payload.length ≤ 256)

/-- A loop TAG has 16 bits (R267). -/
def Origin.wf : Origin → Bool
  | .bar0 => true
  | .ring tag => decide (tag < 65536)
  | .loop tag _ _ => decide (tag < 65536)
  | .bcast => true

def Wr.wf (w : Wr) : Bool := w.origin.wf

/-- A line time has 64 bits (R5). -/
def timeWf (t : Nat) : Bool := decide (t < 18446744073709551616)

/-- Register offsets are multiples of 4 below the end of the set-up space, or any 16-bit number in a command, whose
check is the command's own (R331, R467). -/
def offsetWf (a : Nat) : Bool := decide (a < 65536)

/-- A phase sense code has 12 bits (R104). -/
def codeWf (c : Nat) : Bool := decide (c < 4096)

/-- Whether the operands of a command fit. -/
def Instr.wf : Instr → Bool
  | .auxInRange mv => decide (mv < 65536)
  | .auxOutOfRange mv => decide (mv < 65536)
  | .feedEnable _ v k => decide (v < 65536) && decide (k < 131072)
  | .resetReq w | .fltClear w | .firstRearm w | .ovfClear w | .countClear w | .keeperRelease _ w | .parkReq _ w
  | .openReqSet _ w | .openReqClear _ w | .swap w | .phaseReturn w | .spcCtrlEn w | .stepCtrlSource w
  | .shuntReadmit w | .guardWrite w | .snapNow w | .kvalSnap w | .kvalReset w | .anomalyClear w
  | .drydownCfgCopy _ w | .linkRetrain _ w | .segReset _ w | .portEnable w | .retrain w | .followOff w
  | .flaconPolicyWrite w | .logCopy w | .hostEnable w | .resetRings w | .scanStart _ w | .scanAbort _ w => w.wf
  | .slowRound w => match w with
    | some w => w.wf
    | none => true
  | .timeNowWrite hi lo => hi.wf && lo.wf
  | .faultRead o what frm => o.wf && decide (what < 256) && decide (frm < 65536)
  | .faultClear o _ | .releasePark o _ | .stop o | .halt o | .streamStart o _ _ _ | .streamStop o | .powerBudget o _
  | .wake o | .census o | .loopPing o | .accordBegin o _ | .accordAbort o _ | .flaconVerify o _ | .flaconErase o _
  | .bistRun o _ | .checkScan o _ | .verify o | .activate o | .abort o => o.wf
  | .run o t => o.wf && timeWf t
  | .sweep o id plan t _ => o.wf && decide (id < 65536) && decide (plan < 256) && timeWf t
  | .thermalSample l => decide (l.length = 17)
  | .ntcSample l => decide (l.length = 256)
  | .rampStep cs => cs.all (fun l => decide (l.length = 8) && l.all codeWf)
  | .phaseSwitch _ c => codeWf c
  | .peak _ c => codeWf c
  | .peakClear cs => decide (cs.length = 8) && cs.all codeWf
  | .capture _ l => decide (l.length = 64)
  | .patrolWindowEnd _ _ _ l => decide (l.length = 16)
  | .idle _ f | .cmd _ f | .rsp _ f | .res _ f | .event _ f | .parkAll _ f | .probe _ f | .reply _ f
  | .assign _ f => f.wf
  | .time _ f rx => f.wf && timeWf rx
  | .ptmDialogue _ m => timeWf m
  | .accordPrepare o _ n t => o.wf && decide (n < 65536) && timeWf t
  | .accordCommit o _ t => o.wf && timeWf t
  | .regRead o a => o.wf && offsetWf a
  | .regReadBlock o a n => o.wf && offsetWf a && decide (n < 256)
  | .regWrite a w => w.wf && offsetWf a
  | .flaconLoad o _ off tot _ => o.wf && decide (off < 4294967296) && decide (tot < 4294967296)
  | .resultFetch o slot g => o.wf && decide (slot < 65536) && decide (g < 65536)
  | .marks o l => o.wf && l.all (fun e => decide (e.1 < 65536))
  | .nvmLogRead o src idx => o.wf && decide (src < 256) && decide (idx < 4294967296)
  | .descriptorFetch d _ => match d with
    | some b => decide (b.length = 64)
    | none => true
  | .loopFrameError _ _ f => match f with
    | some f => f.wf
    | none => true
  | .segFeedRestore _ v => decide (v < 65536)
  | .cmdTimeout tag => decide (tag < 65536)
  | .begin o tot ver => o.wf && decide (tot < 4294967296) && decide (ver < 4294967296)
  | .chunk o off _ => o.wf && decide (off < 4294967296)
  | .flaconKey o k => o.wf && decide (k.length ≤ 256)
  | .powerOnReset _ | .firmwareStart | .segmentImagePush _ | .sequencerStart _ | .startupTestEnd
  | .drydownLogCollect | .resetN _ | .watchdog | .resetApply | .shutdownLatchClear _ | .estopNLow _ | .estopNHigh
  | .phFltNLow _ | .phFltNHigh | .hostReset _ | .pcieLinkDown | .haltDecision | .haltRequest _
  | .faultEntry _ _ _ _ _ _ | .intakeMove | .shutdown _ | .modelStep | .slowRoundEnd _ | .scheduledEdge _
  | .commutationStep _ | .stepConfirmed _ | .stepUnconfirmed _ | .noPath _ | .ovTrip _ _ | .uvTrip _ _
  | .clampDetect _ | .keeperTrip _ _ | .releaseJudged | .beaconTx | .downlinkBeacon _ _ | .uplinkBeacon _ _
  | .parkSymbolReceived _ | .linkSilence _ | .orphan | .orphanPark | .runStart | .cycleBoundary | .rungMove _
  | .frameAnswer | .frameDeadline | .swapApplied | .sweepStart | .setFrame _ | .addTimeout _ | .stepIdle _
  | .stepLinkLost | .dwellComplete | .deadlineMiss | .windowRescale | .phaseShed | .phasesReleased
  | .phaseFailed _ _ | .toggleTest | .toggleTestEnd | .toggleRetry | .vstring | .slotConversion _ _
  | .coverTimeout _ | .verifierVisit _ _ | .noCrosscheck _ | .contactVisit _ _ _ _ _ | .shuntSlotMean _ _
  | .shuntCompare | .streamMark _ | .zeroEstimate | .zeroStale | .tally | .edgeR _ | .cellSnapshot
  | .powerEvaluate | .drydownEntered | .dozeExit | .drydownExit | .patrol _ | .confirmationPatrol _
  | .patrolReport _ | .segLost _ | .stackLow _ _ | .wakeSymbol _ | .spanTrained _ _ | .trainingTimeout _ _ _ _
  | .carrierLost _ _ | .backgroundTraining _ _ | .linkLost _ | .spanResend _ _ | .config _ | .read _ | .share _
  | .timeMessage _ _ | .islot _ | .neighbour _ | .segmentCmd _ | .edge _ | .faultMessage _ | .output _ | .sums _
  | .burst _ | .segmentRsp _ | .stream _ | .idleSend _ | .portDown _ | .retransmit _ | .censusTimeout
  | .retireNotice | .recordResend | .timeFrameTx | .holdover | .holdoverLimit | .sourceLost _ | .accordApply
  | .graceExpiry | .dbCmdTail _ | .dbCplHead _ | .dbResHead _ _ | .completion | .coalesceTimeout _
  | .periodicSlice | .sliceEnd _ _ | .scanDone _ | .pageProgrammed _ | .eraseDone _ | .keeperHoldExpiry _
  | .logRetentionEnd _ _ | .feedLoss _ | .auxMonitorUpdate _ | .pcieLinkUp | .portTrainingTimeout _
  | .stepFrameDropped _ | .recoveryReset => true

end Sys2Proof
end

