-- ==== Sys2Proof/Tests/Slice0.lean ====
section
/-!
SUPPORT. Tests: for each check of WellFormed an ill-formed term that it refuses, for each statement states and operands
that meet its hypotheses clause by clause, and a few single steps whose results are worked out by hand from the spec.
-/

namespace Sys2Proof.Machine

-- One theorem at a time: each kernel evaluation would otherwise hold a thread of its own.
set_option Elab.async false

/-! ### Ill-formed operands are refused -/

/-- A loop frame whose header fields all fit. -/
def frameOk : Frame :=
  { ftype := 1, down := true, bcast := false, head := false, hop := 0, dist := 0, lseq := 0, lack := 0, info := 0, payload := [] }

/-- A direct write of all bits from the head's ring. -/
def wr (value mask : Word) : Wr := ⟨.ring 5, value, mask, 0⟩

/-- A write whose TAG does not fit. -/
def wrBad : Wr := ⟨.ring 65536, 0, 0, 0⟩

/-- An origin whose TAG does not fit. -/
def oBad : Origin := .loop 65536 false .a

theorem smoke_frame_fields : frameOk.wf = true ∧ Frame.wf { frameOk with ftype := 16 } = false ∧
    Frame.wf { frameOk with hop := 1024 } = false ∧ Frame.wf { frameOk with dist := 1024 } = false ∧
    Frame.wf { frameOk with lseq := 256 } = false ∧ Frame.wf { frameOk with lack := 256 } = false ∧
    Frame.wf { frameOk with info := 2048 } = false ∧
    Frame.wf { frameOk with payload := List.replicate 257 0 } = false := by decide +kernel

theorem smoke_origin : oBad.wf = false ∧ (Origin.ring 65536).wf = false ∧ (Origin.ring 65535).wf = true ∧
    Origin.bcast.wf = true := by decide

theorem smoke_voltages : (Instr.auxInRange 65536).wf = false ∧ (Instr.auxOutOfRange 65536).wf = false ∧
    (Instr.feedEnable true 65536 0).wf = false ∧ (Instr.feedEnable true 0 131072).wf = false ∧ (Instr.segFeedRestore 0 65536).wf = false := by decide

theorem smoke_writes : ([.resetReq wrBad, .fltClear wrBad, .firstRearm wrBad, .ovfClear wrBad, .countClear wrBad,
    .keeperRelease 0 wrBad, .parkReq 0 wrBad, .openReqSet 0 wrBad, .openReqClear 0 wrBad, .swap wrBad, .phaseReturn wrBad,
    .spcCtrlEn wrBad, .stepCtrlSource wrBad, .shuntReadmit wrBad, .guardWrite wrBad, .snapNow wrBad, .kvalSnap wrBad,
    .kvalReset wrBad, .anomalyClear wrBad, .drydownCfgCopy true wrBad, .linkRetrain 0 wrBad, .segReset 0 wrBad,
    .portEnable wrBad, .retrain wrBad, .followOff wrBad, .flaconPolicyWrite wrBad, .logCopy wrBad, .hostEnable wrBad,
    .resetRings wrBad, .scanStart 0 wrBad, .scanAbort 0 wrBad, .slowRound (some wrBad), .timeNowWrite wrBad (wr 0 0),
    .timeNowWrite (wr 0 0) wrBad, .regWrite 0 wrBad, .regWrite 65536 (wr 0 0)] : List Instr).all (fun i => !i.wf) = true := by
  decide

theorem smoke_origins : ([.faultRead oBad 0 0, .faultClear oBad 0, .releasePark oBad 0, .stop oBad, .halt oBad,
    .streamStart oBad 0 0 0, .streamStop oBad, .powerBudget oBad 0, .wake oBad, .census oBad, .loopPing oBad,
    .accordBegin oBad 0, .accordAbort oBad 0, .flaconVerify oBad none, .flaconErase oBad 0, .bistRun oBad none,
    .checkScan oBad 0, .verify oBad, .activate oBad, .abort oBad, .run oBad 0, .sweep oBad 0 0 0 0, .accordPrepare oBad 0 0 0,
    .accordCommit oBad 0 0, .regRead oBad 0, .regReadBlock oBad 0 1, .flaconLoad oBad none 0 0 [], .resultFetch oBad 0 0,
    .marks oBad [], .nvmLogRead oBad 0 0, .begin oBad 0 0, .chunk oBad 0 [], .flaconKey oBad []] : List Instr).all
      (fun i => !i.wf) = true := by decide

theorem smoke_numbers : ([.faultRead .bar0 256 0, .faultRead .bar0 0 65536, .run .bar0 18446744073709551616,
    .sweep .bar0 65536 0 0 0, .sweep .bar0 0 256 0 0, .sweep .bar0 0 0 18446744073709551616 0,
    .accordPrepare .bar0 0 65536 0, .accordPrepare .bar0 0 0 18446744073709551616, .accordCommit .bar0 0 18446744073709551616,
    .regRead .bar0 65536, .regReadBlock .bar0 65536 1, .regReadBlock .bar0 0 256, .flaconLoad .bar0 none 4294967296 0 [],
    .flaconLoad .bar0 none 0 4294967296 [], .resultFetch .bar0 65536 0, .resultFetch .bar0 0 65536,
    .marks .bar0 [(65536, 0, 0)], .nvmLogRead .bar0 256 0, .nvmLogRead .bar0 0 4294967296, .cmdTimeout 65536,
    .begin .bar0 4294967296 0, .begin .bar0 0 4294967296, .chunk .bar0 4294967296 [], .ptmDialogue true 18446744073709551616,
    .time .a frameOk 18446744073709551616] : List Instr).all (fun i => !i.wf) = true := by decide

theorem smoke_lists : ([.thermalSample [], .ntcSample [], .rampStep [[]], .peakClear [], .capture 0 [],
    .patrolWindowEnd 0 0 0 [], .descriptorFetch (some []) none, .flaconKey .bar0 (List.replicate 257 0)] : List Instr).all
      (fun i => !i.wf) = true := by decide +kernel

theorem smoke_codes : ([.rampStep [[4096, 0, 0, 0, 0, 0, 0, 0]], .phaseSwitch 0 4096, .peak 0 4096,
    .peakClear [4096, 0, 0, 0, 0, 0, 0, 0]] : List Instr).all (fun i => !i.wf) = true := by decide

theorem smoke_frames : ([.idle .a { frameOk with ftype := 16 }, .cmd .a { frameOk with ftype := 16 },
    .rsp .a { frameOk with ftype := 16 }, .res .a { frameOk with ftype := 16 }, .event .a { frameOk with ftype := 16 },
    .parkAll .a { frameOk with ftype := 16 }, .probe .a { frameOk with ftype := 16 }, .reply .a { frameOk with ftype := 16 },
    .assign .a { frameOk with ftype := 16 }, .loopFrameError .a .crc (some { frameOk with ftype := 16 }), .time .a { frameOk with ftype := 16 } 0] : List Instr).all (fun i => !i.wf) = true := by
  decide

theorem smoke_well_formed : ([.auxInRange 24000, .resetReq (wr 1 1), .slowRound none, .run .bcast 0, .tally, .beaconTx,
    .idle .b frameOk, .regReadBlock (.ring 0) 0xFFFC 60] : List Instr).all Instr.wf = true := by decide


/-! ### States for the witnesses -/

/-- READY after start-up, 20 s of line time on, at the last module of a loop or a head alone. -/
def rdy : State := { State.reset with
  now := 20000000000
  glb := { State.reset.glb with st := .ready, prev := .startupTest, phase := .firmware, feedsOn := 17, testEnded := true } }

/-- The same at a head. -/
def head : State := { rdy with glb := { rdy.glb with headEn := true } }

/-- A state put into another module state. -/
def inSt (s : State) (m : ModState) : State := { s with glb := { s.glb with st := m } }

/-- READY with every segment running, its link up on both carriers and its cells out of the keeper's hold. -/
def upS : State := { rdy with
  segs := rdy.segs.map (fun x => { x with
    st := .running, smeas := true, sdrv := true, feedOk := true, imageIn := true, timeSet := true,
    keeper := { x.keeper with holding := false, heartbeat := true } })
  links := rdy.links.map (fun l => { l with st := .up, c0 := true, c1 := true })
  cells := rdy.cells.map (fun c => { c with keepHold := false }) }

/-- The module state changed alone. -/
def offS : State := inSt State.reset .off

/-- Cell 0 changed. -/
def c0 (s : State) (f : CellPath → CellPath) : State := s.modCell 0 f

/-- A transition of four steps of cell 0 towards IN that began at a time. -/
def tr4 (t : Nat) : Transition := ⟨.four, .low, true, .isIn, none, 0, false, t, [t], [], 0, 0, none⟩

/-- A record with nothing in it. -/
def sil0 : Sillage := ⟨.gate, .notice, 0, 0, 0, 0, 0, 0, 0, 0, 0, 0⟩

/-- A report of a source. -/
def rep (x : Src) : Report := ⟨x, 0, none, none, 0, 0, 0⟩

/-! ### Witnesses: queue, memory, boot, resets -/

theorem wit_StepsOfTheQueue : ({ State.reset with pending := [.tally] } : State).pending = .tally :: [] ∧
    State.reset.pending = [] := by decide

theorem wit_MemoryCanonical : Memory.wf State.reset = true := by decide +kernel

theorem wit_PowerUpAndDown : offS.powered = false ∧ offS.settled = true ∧ (17000 : Nat) ≤ 33000 ∧
    State.reset.powered = true ∧ (15999 : Nat) < 16000 ∧ (34000 : Nat) < 34001 := by decide +kernel

theorem wit_BootRom : (State.reset.glb.st = .boot ∧ State.reset.glb.phase = .held ∧ State.reset.glb.recovery = false ∧
      State.reset.glb.cause = 0 ∧ State.reset.therm.latched = false) ∧
    ({ State.reset with therm := { State.reset.therm with latched := true } } : State).therm.latched = true ∧
    ({ State.reset with glb := { State.reset.glb with phase := .verified } } : State).glb.phase = .verified := by decide +kernel

/-- BOOT with the firmware up and one feed on, whose segment is in BOOT with its link in training. -/
def bootS : State := { State.reset with
  glb := { State.reset.glb with phase := .firmware, feedsOn := 1 }
  segs := State.reset.segs.map (fun x => { x with st := .boot })
  links := State.reset.links.map (fun l => { l with st := .training }) }

theorem wit_SegmentStart : (bootS.settled = true ∧ bootS.glb.st = .boot ∧ bootS.glb.phase = .firmware ∧
      ({ bootS with glb := { bootS.glb with feedsOn := 0 } } : State).glb.feedsOn = 0) ∧
    (0 < bootS.glb.feedsOn ∧ bootS.glb.feedsOn < 16 ∧ (bootS.segs.get (seg (bootS.glb.feedsOn - 1))).st = .boot ∧
      (bootS.links.get (seg (bootS.glb.feedsOn - 1))).st ≠ .down) ∧
    (let s := bootS.modLink 3 (fun l => { l with st := .up })
     s.settled = true ∧ s.linkUp 3 = true ∧ s.powered = true ∧ (s.segs.get 3).st = .boot ∧ (s.segs.get 3).imageIn = false) ∧
    (let s := bootS.modSeg 3 (fun x => { x with imageIn := true })
     s.glb.feedsOn < 17 ∧ (s.segs.get 3).st = .boot ∧ (s.segs.get 3).imageIn = true ∧
       (s.segs.get 3).keeper.tripped = false) := by decide +kernel

/-- STARTUP_TEST with nothing left to run. -/
def testS (held : Bool) : State := { inSt rdy .startupTest with
  glb := { rdy.glb with st := .startupTest, testEnded := false, heldHalt := held }, bist := { rdy.bist with slowDue := false } }

theorem wit_StartupTestEnd : (∀ h : Bool, (testS h).glb.st = .startupTest ∧ (testS h).glb.testEnded = false ∧
      (testS h).glb.feedsOn = 17 ∧ (testS h).bist.running = none ∧ (testS h).bist.queue = [] ∧
      (testS h).bist.slowDue = false ∧ (testS h).therm.slowBusy = none ∧ (testS h).settled = true ∧
      (testS h).glb.heldHalt = h) ∧
    (let s := { inSt rdy .startupTest with loop := { rdy.loop with valid := true } }
     s.glb.st = .startupTest ∧ s.glb.testEnded = true ∧ s.loop.valid = true ∧ s.glb.headEn = false) ∧
    (rdy.powered = true ∧ rdy.glb.phase = .firmware ∧ rdy.glb.st ≠ .drydown ∧ rdy.glb.st ≠ .shutdownLatched) := by
  decide +kernel

theorem wit_ResetRequested : (rdy.settled = true ∧ rdy.glb.resetAt = none ∧ rdy.powered = true ∧
      rdy.glb.st ≠ .shutdownLatched ∧ rdy.glb.phase = .firmware) ∧
    (let s := { rdy with glb := { rdy.glb with recoveryResetAt := some rdy.now, recovery := true } }
     s.settled = true ∧ s.glb.resetAt = none ∧ s.powered = true ∧ s.glb.st ≠ .shutdownLatched ∧
     s.glb.recoveryResetAt = some 20000000000 ∧ s.glb.recovery = true ∧ (20000000000 : Nat) ≤ s.now) := by decide +kernel

theorem wit_ResetApplied :
    let s := { rdy with glb := { rdy.glb with resetAt := some (rdy.now, 4) } }
    s.glb.resetAt = some (20000000000, 4) ∧ s.powered = true ∧ s.glb.st ≠ .shutdownLatched ∧ 20000000000 ≤ s.now := by
  decide +kernel

/-! ### Witnesses: halt path, shutdown, collector -/

theorem wit_HaltEntered : rdy.glb.st = .ready ∧ (inSt rdy .run).glb.st = .run ∧ (inSt rdy .drydown).glb.st = .drydown ∧
    (inSt rdy .orphan).glb.st = .orphan ∧ (inSt rdy .startupTest).glb.st = .startupTest ∧ State.reset.glb.st = .boot ∧
    (inSt rdy .halt).glb.st = .halt ∧ (inSt rdy .shutdownLatched).glb.st = .shutdownLatched ∧
    (inSt rdy .off).glb.st = .off ∧ (inSt rdy .dormant).glb.st = .dormant := by decide +kernel

/-- A segment whose link carries a halt request, with or without its report behind it. -/
def reqS (l : List UpMsg) : State := upS.modLink 0 (fun x => { x with haltReq := true, up := { x.up with queued := l } })

theorem wit_HaltPathCommands : rdy.glb.st ≠ .boot ∧
    (let s := reqS []
     s.linkUp 0 = true ∧ (s.links.get 0).haltReq = true ∧ s.powered = true ∧
     ((s.modLink 0 (fun l => { l with haltReq := false })).abortSlice).pendingHalt 0 = none) ∧
    (let s := reqS [.fault (rep .noPath) false]
     s.linkUp 0 = true ∧ (s.links.get 0).haltReq = true ∧ s.powered = true ∧
     ((s.modLink 0 (fun l => { l with haltReq := false })).abortSlice).pendingHalt 0 ≠ none) ∧
    rdy.powered = true ∧ rdy.settled = true ∧ (50 : Nat) ≤ 50 ∧ (20 : Nat) ≤ 20 := by decide +kernel

/-- A diode in use at 150.00 degrees. -/
def hotS : State := { rdy with therm := { rdy.therm with
  dies := rdy.therm.dies.map (fun d => { d with temp := 15000, valid := true }) } }

theorem wit_ShutdownTaken : hotS.at150 (0 : Fin 33).val = true ∧ hotS.auxComing = false ∧ rdy.powered = true ∧ rdy.glb.st ≠ .shutdownLatched := by
  decide +kernel

theorem wit_RaisedIsSticky :
    (let s := rdy.raise .estop none none 0 0 0
     s.flt.due = [] ++ (⟨.estop, rdy.now, none, none, 0, 0, 0⟩, 0) :: [] ∧ ([] : List Report).length < 4096) ∧
    ({ rdy with flt := { rdy.flt with sticky := [.estop] } } : State).flt.sticky = [.estop] ∧ rdy.settled = true := by
  decide +kernel

theorem wit_OccurrenceCounted : ¬ (rdy.flt.tickOf = Nat.max rdy.now (rep .estop).time ∧ rdy.flt.tickSrcs.contains (rep .estop).src = true) ∧
    (let s := { rdy with flt := { rdy.flt with tickOf := rdy.now, tickSrcs := [.estop] } }
     s.flt.tickOf = Nat.max s.now (rep .estop).time ∧ s.flt.tickSrcs.contains (rep .estop).src = true) := by decide +kernel

/-- An intake with one record, and a log of n records. -/
def logS (n : Nat) : State := { rdy with flt := { rdy.flt with
  intake := [sil0], intakeAt := 19999999800, log := List.replicate n sil0 } }

theorem wit_CollectorEvents : rdy.settled = true ∧ (logS 63).settled = true ∧ (logS 63).flt.intake = sil0 :: [] ∧
    (logS 63).flt.intakeAt + 200 ≤ (logS 63).now ∧ (logS 63).flt.log.length < 64 ∧ (logS 64).settled = true ∧
    (logS 64).flt.intake = sil0 :: [] ∧ (logS 64).flt.intakeAt + 200 ≤ (logS 64).now ∧ 64 ≤ (logS 64).flt.log.length := by
  decide +kernel

theorem wit_CollectorCommands : rdy.accepts (.ring 5) 0x60 false = true ∧ rdy.accepts (.ring 5) 0x61 false = true ∧
    rdy.heldSource .gate = false ∧
    ({ rdy with pins := { rdy.pins with estopN := false } } : State).heldSource .estop = true := by decide +kernel

/-! ### Witnesses: temperature -/

theorem wit_TemperatureSamples : (rdy.powered = true ∧ rdy.glb.st ≠ .drydown) ∧
    (rdy.dieReachable 0 = true ∧ ([-4001] : List Int).getD 0 0 < -4000 ∧ 16000 < ([16001] : List Int).getD 0 0) ∧
    (upS.ntcReachable (cell 0) = true ∧ upS.ntcMeasured (cell 0) = true ∧ 1355000 < ([1355001] : List Nat).getD 0 0 ∧
      ([9869] : List Nat).getD 0 0 < 9870) ∧ rdy.ntcReachable (cell 0) = false ∧
    (let s := { rdy with bist := { rdy.bist with slowDue := true } }
     s.settled = true ∧ s.powered = true ∧ s.slowRoundDue = true ∧ s.therm.slowBusy = none) ∧
    (let s := { rdy with therm := { rdy.therm with slowBusy := some 19000000000 } }
     s.therm.slowBusy = some 19000000000 ∧ 19000000000 + 1000000000 ≤ s.now ∧ s.bist.cmdAll = false) := by decide +kernel


/-- RUN with a charging set-point, from a state. -/
def runS (s : State) (target : Int) : State := { inSt s .run with spc := { s.spc with target := target } }

/-- A temperature in use of cell 0, with or without hold TEMP. -/
def tempS (x : Int) (held : Bool) : State := c0 ((runS upS 1000).modTemp 0 (fun t => { t with inUse := some x, sampled := true }))
  (fun c => { c with holdTemp := held })

theorem wit_TemperatureHold : (upS.setSign = 0 ∧ upS.tempDue 0 = false) ∧
    ((runS upS 1000).setSign ≠ 0 ∧ (runS upS 1000).excluded 0 = false ∧ ((runS upS 1000).temps.get 0).inUse = none ∧
      ((runS upS 1000).tempRange (runS upS 1000).setSign).1 ≤ ((runS upS 1000).tempRange (runS upS 1000).setSign).2) ∧
    (let s := { runS upS 1000 with regs := [(Fld.thermCellWindowChgMin.off, 0x00000A32)] }
     s.setSign ≠ 0 ∧ s.excluded 0 = false ∧ (s.tempRange s.setSign).2 < (s.tempRange s.setSign).1) ∧
    (∀ h : Bool, ∀ x ∈ ([-1, 0, 1, 99, 100, 101] : List Int),
      (tempS x h).setSign ≠ 0 ∧ (tempS x h).excluded 0 = false ∧
      ((tempS x h).tempRange (tempS x h).setSign).1 ≤ ((tempS x h).tempRange (tempS x h).setSign).2 ∧
      ((tempS x h).temps.get 0).inUse = some x ∧ ((tempS x h).cells.get 0).holdTemp = h) := by decide +kernel

/-! ### Witnesses: cell paths and keeper -/

/-- RUN with cell 0 in a state, out of every hold and with a planned edge now. -/
def edgeS (st : PathState) (toIn : Bool) (tr : Option Transition) : State :=
  c0 (runS upS 0) (fun c => { c with
    st := st, gates := (if st = .isIn then s1on else s2on), holdIdle := false, plan := [⟨20000000000, toIn, 3, 0⟩], tr := tr })

/-- The same with the edge taken, and after the holds have been reviewed. -/
def edgeB (st : PathState) (toIn : Bool) (tr : Option Transition) : State :=
  (edgeS st toIn tr).modCell 0 (fun c => { c with plan := [] })

def edgeA (st : PathState) (toIn : Bool) (tr : Option Transition) : State := (edgeB st toIn tr).reviewHolds 0

theorem wit_ScheduledEdges :
    (∀ b : Bool, ∀ st ∈ [PathState.isIn, .bypass], ((edgeS st b none).cells.get 0).plan = ⟨20000000000, b, 3, 0⟩ :: [] ∧
      (20000000000 : Nat) ≤ (edgeS st b none).now ∧ (edgeS st b none).inRun = true ∧
      ((edgeA st b none).cells.get 0).tr = none ∧ ((edgeA st b none).cells.get 0).st = st) ∧
    (edgeB .bypass true none).protectedNow 0 = false ∧
    ({ edgeB .bypass true none with pending := [.ovTrip 0 5000000] } : State).protectedNow 0 = true ∧
    ((edgeA .bypass true none).cells.get 0).held = false ∧ ((edgeA .bypass true none).cells.get 0).keepHold = false ∧
    ((edgeA .bypass true none).cells.get 0).resume = false ∧
    ((edgeS .bypass true (some (tr4 0))).cells.get 0).plan = ⟨20000000000, true, 3, 0⟩ :: [] ∧
    ((edgeA .bypass true (some (tr4 0))).cells.get 0).tr = some (tr4 0) ∧ (tr4 0).kind = .four := by decide +kernel

/-- A four-step commutation towards IN whose first step was commanded and confirmed. -/
def tr4c (t : Nat) : Transition := { tr4 t with confs := [t + 20] }

/-- Cell 0 with a transition and gates. -/
def trS (t : Transition) (g : Gates) : State := c0 upS (fun c => { c with tr := some t, gates := g })

theorem wit_CommutationSteps :
    (let t := tr4c 19999999928
     let s := trS t s2on
     (s.cells.get 0).tr = some t ∧ s.stepDue t = true) ∧
    (let t : Transition := { tr4c 19999999928 with kind := .undo, undoLeft := 1, cmds := [19999999800, 19999999900], confs := [19999999820] }
     (trS t s2on).stepDue t = true) ∧
    interlock (stepGates .four .low true 2 s2on) = interlock (stepGates .four .low true 2 s2on) ∧
    (∃ g : Gates, interlock (stepGates .four .low true 2 g) = false ∧
      (trS (tr4c 19999999928) g).stepDue (tr4c 19999999928) = true) ∧
    (∃ g : Gates, interlock (stepGates .four .low true 2 g) = true) := by
  refine ⟨by decide +kernel, by decide +kernel, rfl, ⟨⟨true, true, true, true⟩, by decide +kernel⟩, ⟨⟨false, false, false, false⟩, by decide +kernel⟩⟩

theorem wit_StepOutcomes :
    (let t := tr4 19999999888
     let s := trS t s2on
     (s.cells.get 0).tr = some t ∧ t.confs.length < answerable t ∧ s.now ≤ t.cmds.getLastD 0 + confMax t ∧
       complete { t with confs := t.confs ++ [s.now] } = false) ∧
    (let t : Transition := { tr4 0 with cmds := [19999999672, 19999999744, 19999999816, 19999999888], confs := [19999999700, 19999999770, 19999999840] }
     let s := trS t s1on
     t.confs.length < answerable t ∧ s.now ≤ t.cmds.getLastD 0 + confMax t ∧
       complete { t with confs := t.confs ++ [s.now] } = true) ∧
    (let t := tr4 19999999887
     let s := trS t s2on
     t.kind = .four ∧ t.confs.length < answerable t ∧ t.cmds.getLastD 0 + confMax t < s.now) ∧
    (let t : Transition := { tr4 0 with kind := .gateFail, target := .park, toIn := false, cmds := [19999999700, 19999999850], confs := [], undoLeft := 0 }
     let s := trS t s2on
     (s.cells.get 0).tr = some t ∧ t.kind = .gateFail ∧ t.cmds.length = 2 ∧ t.confs = [] ∧ t.undoLeft = 0 ∧
     t.cmds.getLastD 0 + 150 ≤ s.now ∧ lateCounts t.kind = true) := by
  decide +kernel

/-- Both comparators of cell 0 enabled. -/
def cmpS : State := { upS with regs := [(cellCfgOff 0, 0xFFFFFFFF &&& 0x00000030)] }

theorem wit_ParkingByTrips : upS.parkable 0 = true ∧ upS.excluded 0 = false ∧
    upS.cellFlag 0 Fld.segCellCfgOvEn = true ∧ upS.ovMicro 0 < upS.ovMicro 0 + 1 ∧
    upS.cellFlag 0 Fld.segCellCfgUvEn = true ∧ upS.uvMicro 0 - 1 < upS.uvMicro 0 ∧
    ((c0 upS (fun c => { c with st := .isIn })).cells.get 0).st = .isIn ∧
    (c0 upS (fun c => { c with st := .isIn })).parkable 0 = true ∧ ((c0 upS (fun c => { c with st := .isIn })).cells.get 0).inGap upS.now = false ∧
    (∀ st ∈ [PathState.isOpen, .isIn, .bypass, .park, .keep], ((c0 upS (fun c => { c with st := st })).cells.get 0).tr = none ∧
      ((c0 upS (fun c => { c with st := st })).cells.get 0).st = st) ∧ (1 : Nat) ≤ 12 := by decide +kernel

theorem wit_KeeperActs : ((upS.segs.get 0).keeper.tripped = false ∧ (upS.segs.get 0).keeper.holding = false) ∧
    ((State.reset.segs.get 15).keeper.tripped = false ∧
      ((State.reset.modSeg 15 (fun x => { x with st := .patrol })).segs.get 15).st = .patrol) ∧
    ((State.reset.segs.get 0).feedOk = false ∧ (State.reset.segs.get 0).onStack = false ∧
      (State.reset.segs.get 0).keeper.holding = true) := by decide +kernel

/-- Every bit that may be set in a cell's configuration and the release bits of a segment. -/
def wAll : Wr := wr 0xFFFFFFFF 0xFFFFFFFF

theorem wit_WindowWriteRows :
    (sets 1 (Wr.direct (wr 2 2)) = true ∧ upS.admits (windowOff 0 0x0C) (wr 2 2) = true ∧
      (regAt (windowOff 0 0x0C)).isSome = true) ∧
    (let n := (Fld.segCellCfgParkReq 255).lo
     let w := wr (1 <<< n) (1 <<< n)
     upS.admits (cellCfgOff 255) w = true ∧ (regAt (cellCfgOff 255)).isSome = true ∧ sets n (Wr.direct w) = true) ∧
    (let n := (Fld.segCellCfgOpenReq 0).lo
     let w := wr (1 <<< n) (1 <<< n)
     upS.admits (cellCfgOff 0) w = true ∧ sets n (Wr.direct w) = true) ∧
    (let n := (Fld.segCellCfgOpenReq 0).lo
     let w := wr 0 (1 <<< n)
     upS.admits (cellCfgOff 0) w = true ∧ clears n (Wr.direct w) = true) ∧
    (let s := upS.modSeg 3 (fun x => { x with keeper := { x.keeper with tripped := true } })
     (s.segs.get 3).keeper.tripped = true ∧ (s.segs.get 3).keeper.heartbeat = true) ∧
    upS.glb.st = .ready ∧ (upS.cells.get 0).tr = none ∧ (upS.cells.get 0).keepHold = false ∧ upS.protectedNow 0 = false ∧
      (upS.cells.get 0).st = .bypass := by decide +kernel

/-- Cell 0 parked for a cause. -/
def parkedS (n : Nat) : State := c0 upS (fun c => { c with st := .park, causes := 1 <<< (n - 1), first := n })

theorem wit_ReleasePark :
    (upS.accepts (.ring 5) 0x53 false = true ∧ (upS.taken (.ring 5)).glb.st = .ready ∧
      (upS.taken (.ring 5)).bist.relOrigin = none ∧ (upS.taken (.ring 5)).releaseSlices 1 = []) ∧
    (let s := { parkedS 11 with bist := { upS.bist with slices := upS.bist.slices.map (fun x => { x with failed := true }) } }
     s.accepts (.ring 5) 0x53 false = true ∧ (s.taken (.ring 5)).glb.st = .ready ∧
      (s.taken (.ring 5)).bist.relOrigin = none ∧ (s.taken (.ring 5)).releaseSlices 1 ≠ []) ∧
    (let s := { upS with bist := { upS.bist with relOrigin := some (.ring 5), relQueue := [], relFrom := 20000000000 } }
     s.bist.relOrigin = some (.ring 5) ∧ s.releaseRuns = false ∧ s.bist.relQueue = []) ∧
    (let s := { upS with bist := { upS.bist with relOrigin := some (.ring 5), relQueue := [0], relFrom := 19000000000 } }
     s.releaseRuns = false ∧ s.bist.relFrom + 1000000000 ≤ s.now) ∧
    (let s := c0 upS (fun c => { c with st := .park })
     (s.cells.get 0).st = .park ∧ s.allCleared 0 = true) := by decide +kernel


/-! ### Witnesses: the loop -/

/-- Both ports of a module UP. -/
def portS (s : State) (st : Nat) : State := { s with loop := { s.loop with
  a := { s.loop.a with st := st, everUp := true }, b := { s.loop.b with st := st, everUp := true } } }

/-- A frame of a type. -/
def fr (t info : Nat) (bcast : Bool) (hop : Nat) : Frame := { frameOk with ftype := t, info := info, bcast := bcast, hop := hop }

theorem wit_LoopFramesTaken : (∀ p : Port, ∀ t ∈ [0, 2, 3, 5, 6], (portS rdy 2).takes p t (fr t 0 false 0) = true ∧
      (portS head 2).takes p t (fr t 0 false 0) = true) ∧
    (∀ t ∈ [0, 2, 3, 5, 6], ((portS head 2).heard .a t (fr t 0 false 0)).isHead = true ∧
      ((portS rdy 2).heard .a t (fr t 0 false 0)).isHead = false) ∧
    u (fr 5 0 false 0).payload 2 1 = 0 ∧ u [0, 0, 1, 0] 2 1 ≠ 0 ∧
    (let s := { rdy with loop := { rdy.loop with parkIds := [(7, 19990000001)] } }
     ((7, 19990000001) ∈ s.loop.parkIds ∧ s.now < 19990000001 + 10000000) ∧ ∀ e ∈ s.loop.parkIds, e.1 ≠ 8) ∧ (fr 5 0 true 0).bcast = true ∧ (portS rdy 2).takes .a 5 (fr 5 0 true 0) = true ∧
    (portS rdy 2).takes .b 3 (fr 3 3 true 0) = true ∧ (fr 3 3 true 0).info % 4 = 3 ∧
    (let f := { fr 2 0 false 0 with lseq := 255 }
     (portS rdy 2).powered = true ∧ ((portS rdy 2).port .a).st ≠ 0 ∧ f.ftype = 2 ∧
     f.lseq ≠ (((portS rdy 2).noteValid .a f.lack).port .a).expect) := by
  refine ⟨fun p => ?_, by decide +kernel⟩
  cases p <;> decide +kernel

theorem wit_CmdFramesTaken : (portS head 2).takes .a 1 (fr 1 0 false 1) = true ∧
    ((portS head 2).heard .a 1 (fr 1 0 false 1)).isHead = true ∧
    (portS rdy 2).takes .a 1 (fr 1 0 true 0) = true ∧ ((portS rdy 2).heard .a 1 (fr 1 0 true 0)).isHead = false ∧
    (portS rdy 2).takes .a 1 (fr 1 0 false 1) = true ∧
    ((portS rdy 2).takes .a 1 (fr 1 0 false 2) = true ∧
      (((portS rdy 2).heard .a 1 (fr 1 0 false 2)).port (otherPort .a)).st = 2 ∧ (1 : Nat) < 2 ∧ (2 : Nat) ≠ 1023) ∧
    (let s := { portS rdy 2 with loop := { (portS rdy 2).loop with b := { rdy.loop.b with st := 1 } } }
     s.takes .a 1 (fr 1 0 false 1022) = true ∧ ((s.heard .a 1 (fr 1 0 false 1022)).port (otherPort .a)).st ≠ 2) := by
  decide +kernel

theorem wit_CensusFrames : (∀ i ∈ [0, 1, 2], (portS rdy 2).takes .a 7 (fr 7 i false 0) = true ∧
      (portS head 2).takes .a 7 (fr 7 i false 0) = true ∧ (fr 7 i false 0).info % 4 = i ∧
      ((portS rdy 2).heard .a 7 (fr 7 i false 0)).isHead = false ∧
      ((portS head 2).heard .a 7 (fr 7 i false 0)).isHead = true) ∧
    (let s := { head with loop := { head.loop with census := some (.ring 5, 1, 19799999999) } }
     s.settled = true ∧ s.loop.census = some (.ring 5, 1, 19799999999) ∧
     19799999999 + 1000000 * s.fld Fld.loopTimeoutTimeoutMs < s.now) ∧ rdy.glb.st ≠ .startupTest := by decide +kernel

/-- Both ports in a state, with an unacknowledged frame on port A and everything on it due. -/
def dueS (st : Nat) : State := { portS rdy st with loop := { (portS rdy st).loop with
  a := { (portS rdy st).loop.a with held := [⟨true, 0, 0, frameOk⟩], ackAt := 19999996000, lastStart := 19999999000, lastValid := 19999960000 } } }

/-- A frame that member passes on while it arrives. -/
def thruF : Frame := { fr 1 0 false 2 with lseq := 0 }

theorem wit_PortUpkeep : ((dueS 2).settled = true ∧ (dueS 2).powered = true ∧ ((dueS 2).port .a).st = 2 ∧
      ((dueS 2).port .a).lastStart + 1000 ≤ (dueS 2).now ∧ ((dueS 2).port .a).idleTx (dueS 2).now = true ∧
      ((dueS 2).port .a).pongDue = none ∧ ((dueS 2).port .a).resend = [] ∧ ((dueS 2).port .a).ready (dueS 2).now = []) ∧
    (((dueS 2).port .a).lastValid + 40000 ≤ (dueS 2).now ∧ ((dueS 2).port .a).held ≠ [] ∧
      ((dueS 2).port .a).ackAt + 4000 ≤ (dueS 2).now ∧ firstPriority (((dueS 2).port .a).ready (dueS 2).now) = none ∧
      ((dueS 2).modPort .a (fun x => { x with resend := x.held.filter (fun h => carries x h.frame.ftype) })).port .a ≠ (dueS 2).port .a) ∧
    ((dueS 1).settled = true ∧ ((dueS 1).port .a).st = 1 ∧ ((dueS 1).port .a).lastValid + 40000 ≤ (dueS 1).now) ∧
    ((portS rdy 2).cutsThrough .a thruF = true ∧ canStart ((portS rdy 2).port .b) thruF.ftype = true ∧
      ((portS rdy 2).port .b).idleTx rdy.now = true ∧ ((portS rdy 2).port .b).ready rdy.now = [] ∧
      (portS head 2).cutsThrough .a thruF = false) ∧
    (let s := { head with loop := { head.loop with lastSent := [(3, 1, 1)] } }
     s.settled = true ∧ s.powered = true ∧ s.isHead = true ∧ s.loop.lastRetire + 10000000 ≤ s.now ∧
     ∃ e ∈ s.loop.lastSent, e.1 = 3) ∧
    (rdy.isHead = false ∧ rdy.powered = true ∧ rdy.loop.lastWakeFwd = none ∧
      ({ rdy with loop := { rdy.loop with lastWakeFwd := some 19999000001 } } : State).loop.lastWakeFwd = some 19999000001 ∧
      rdy.now < 19999000001 + 1000000) := by
  refine ⟨?_, ?_, ?_, ?_, ?_, ?_⟩ <;> decide +kernel

/-- No valid frame for LOOP_TIMEOUT on either port. -/
def quietS (m : ModState) : State := inSt (portS rdy 1) m

theorem wit_OrphanEntered : (∀ m ∈ [ModState.ready, .run, .halt, .orphan, .boot, .startupTest, .shutdownLatched],
      (quietS m).settled = true ∧ (quietS m).powered = true ∧ (quietS m).loopSilent = true ∧ (quietS m).glb.st = m ∧
      (quietS m).haltMeets = false) ∧
    (let s := { quietS .ready with pending := [.estopNLow 50] }
     s.powered = true ∧ s.glb.st ≠ .drydown ∧ s.loopSilent = true ∧ s.haltMeets = true) ∧
    ((quietS .orphan).loop.orphanSent = false ∧ (quietS .orphan).spc.orphanRamp = false) := by
  refine ⟨?_, ?_, ?_⟩ <;> decide +kernel

/-! ### Witnesses: string power controller -/

/-- The SPC on, in a state, from RUN. -/
def spcS (st : SpcState) : State := { inSt rdy .run with pwr := { rdy.pwr with hubOn := 0xFF }, spc := { rdy.spc with st := st } }

/-- The SPC's own fields changed. -/
def sp (s : State) (f : Spc → Spc) : State := { s with spc := f s.spc }

/-- A Step Link frame with its CRC. -/
def withCrc (w : BitVec 64) : BitVec 64 := w ||| (BitVec.ofNat 64 (crc8 (leBytes 7 w.toNat)) <<< 56)

/-- A frame of a type, SEQ, PREEMPT and target in 50 µA, with RAMP 1 µA/µs and DEADLINE 16 µs. -/
def step8 (type seq : Nat) (pre : Bool) (target : Nat) : BitVec 64 :=
  withCrc (BitVec.ofNat 64 (type + 8 * seq + (if pre then 2048 else 0) + 4096 * target + 2 ^ 32 + 2 ^ 44))

/-- STEP_IN in use on a link in a state. -/
def inS (link : Nat) : State := { spcS .standby with regs := [(0x3800, 0x5)], spc := { (spcS .standby).spc with link := link, lastValid := 19999992000 } }

theorem wit_StepFrames :
    (let s := { spcS .standby with spc := { (spcS .standby).spc with inbox := [step8 1 1 false 0] } }
     s.spc.inbox = step8 1 1 false 0 :: [] ∧ s.externalSource = false ∧ s.spcOn = true) ∧
    ((inS 2).stepInOn = true ∧ frCrcOk (step8 1 1 false 0) = true ∧ frType (step8 1 1 false 0) = 1 ∧ (inS 2).spc.link = 2) ∧
    ((inS 1).settled = true ∧ (inS 1).stepInOn = true ∧ (inS 1).spc.link = 1) ∧
    (frCrcOk (step8 0 0 false 0) = true ∧ frType (step8 0 0 false 0) = 0) ∧
    (frCrcOk (step8 1 1 false 0 ^^^ 8) = false ∧ 1 < frType (step8 2 1 false 0)) ∧
    ((inS 2).spc.lastValid + 8000 ≤ (inS 2).now ∧ (inS 2).externalSource = true ∧ (inS 2).glb.st = .run) ∧
    (let s := { inS 2 with regs := [] }
     s.spc.link = 2 ∧ s.externalSource = false ∧ s.settled = true) := by decide +kernel

/-- The SPC out of SYNC after a frame. -/
def lastS (raw : Option (BitVec 64)) (a : Option Answer) (p : Option SpcFrame) : State :=
  { spcS .regulate with spc := { (spcS .regulate).spc with
    sync := false, lastSeq := 1, lastRaw := raw, lastAnswer := a, pending := p } }

theorem wit_FrameJudged :
    (let f := step8 1 1 false 0
     let s := lastS (some f) (some ⟨true, 1, false, 0, 0, 0⟩) none
     s.spc.sync = false ∧ frSeq f = s.spc.lastSeq ∧ s.spc.lastRaw = some f ∧ s.spc.lastAnswer = some ⟨true, 1, false, 0, 0, 0⟩) ∧
    (frSeq (step8 1 1 false 0) = (lastS (some 0) none none).spc.lastSeq ∧ (0 : BitVec 64) ≠ step8 1 1 false 0) ∧
    (frSeq (step8 1 3 false 0) ≠ ((lastS none none none).spc.lastSeq + 1) % 256) ∧
    (let s := lastS none none (some ⟨0, 0, false⟩)
     frSeq (step8 1 2 false 0) ≠ s.spc.lastSeq ∧ s.spc.pending ≠ none ∧ frPreempt (step8 1 2 false 0) = false) ∧
    (let s := { spcS .regulate with spc := { (spcS .regulate).spc with sync := true } }
     s.spc.sync = true ∧ 300000 < (frTarget (step8 1 2 false 300001)).natAbs ∧ s.frameCheck (step8 1 2 false 300000) = 0 ∧
     s.frameCheck (step8 1 2 false 300001) ≠ 0 ∧ frTarget (step8 1 2 false 300000) ≠ 0) := by decide +kernel

theorem wit_RampSteps : (spcS .regulate).spc.rampFrom = none ∧ (sp (spcS .regulate) (fun x => { x with rampFrom := some 19999999000 })).spc.rampFrom = some 19999999000 ∧
    (spcS .regulate).spcOn = true ∧
    (let s := { spcS .regulate with spc := { (spcS .regulate).spc with toggle := some 0 } }
     s.rampHeld = true) ∧
    (let s := { spcS .regulate with spc := { (spcS .regulate).spc with ramping := true, ramp := 100, delivered := -100 } }
     s.spc.ramping = true ∧ s.rampHeld = false ∧ (s.spc.delivered - s.spc.setpoint).natAbs ≤ s.spc.ramp) := by decide +kernel

/-- A dwell that ends now with a frame pending. -/
def dwellS (target : Int) : State := { spcS .regulate with spc := { (spcS .regulate).spc with
  dwellFrom := some 19999950000, target := target, delivered := 100, setpoint := 100, pending := some ⟨step8 1 1 false 2, 19999984000, true⟩ } }

theorem wit_StepAnswers : (∀ t ∈ ([2, 3] : List Int), (dwellS t).settled = true ∧ (dwellS t).spc.dwellFrom = some 19999950000 ∧
      (dwellS t).spc.st = .regulate ∧ (dwellS t).spc.setpoint = (dwellS t).spc.delivered ∧ (dwellS t).spc.toggle = none ∧
      19999950000 + 1000 * (dwellS t).fld Fld.stepAckDwellDwellUs ≤ (dwellS t).now ∧
      (dwellS t).spc.pending = some ⟨step8 1 1 false 2, 19999984000, true⟩) ∧
    (dwellS 2).spc.delivered = (dwellS 2).spc.target * 50 ∧ (dwellS 3).spc.delivered ≠ (dwellS 3).spc.target * 50 ∧
    19999984000 + 1000 * frDeadline (step8 1 1 false 2) ≤ (dwellS 2).now := by decide +kernel

/-- Two active phases. -/
def phS : State := { spcS .regulate with spc := { (spcS .regulate).spc with
  phases := (spcS .regulate).spc.phases.mapIdx (fun n p => { p with active := decide (n < 2), addedAt := (if n = 1 then some 19999950000 else none), centre := 1000 })
  answered := true, answeredAt := 19999000000, shedFrom := some 19999000000 } }

/-- Phase 0 of the two changed. -/
def ph0 (f : PhaseSt → PhaseSt) : State := phS.modPhase 0 f

theorem wit_PhaseEvents : ((phS.spc.phases.get 1).addedAt = some 19999950000 ∧ 19999950000 + 50000 ≤ phS.now ∧ phS.atShare 1 = false) ∧
    (let s := ph0 (fun x => { x with pwm := .high, switchedAt := some 19000000000 })
     (s.spc.phases.get 0).active = true ∧ (s.spc.phases.get 0).pwm = .high ∧ (s.spc.phases.get 0).switchedAt = some 19000000000 ∧
     19000000000 + 10 * s.fld Fld.spcTonMaxTonMax < s.now) ∧
    (2 ≤ ((ph0 (fun x => { x with stuckRun := 2 })).spc.phases.get 0).stuckRun ∧ 2 ≤ ((ph0 (fun x => { x with wrongRun := 2 })).spc.phases.get 0).wrongRun) ∧
    (let s := sp phS (fun x => { x with phases := x.phases.map (fun p => { p with addedAt := none }) })
     s.settled = true ∧ s.spc.shedFrom = some 19999000000 ∧ s.activePhases.getLast? = some 1 ∧ s.spc.st = .regulate ∧
      s.spc.pending = none ∧ s.spc.answered = true ∧ s.spc.toggle = none ∧
      Nat.max 19999000000 s.spc.answeredAt + 10000 * s.fld Fld.spcShedCfgShedDwell ≤ s.now ∧
      s.fld Fld.spcShedCfgMinActive < s.nActive ∧ s.fld Fld.spcShedCfgShedPct < s.fld Fld.spcShedCfgAddPct ∧ s.moving = []) ∧
    (phS.spc.target = 0 ∧ phS.spc.setpoint = 0 ∧ phS.spc.disabling = false ∧
      phS.spc.answeredAt + 10000 * phS.fld Fld.spcShedCfgShedDwell ≤ phS.now) ∧
    (∀ code ∈ [0, 2048, 4095], let s := ph0 (fun x => { x with code := 2048 })
     let x := s.spc.phases.get 0
     let low := s.codeOf 0 (s.windowCentre 0 - s.codeNano 0 * x.width / 2)
     let high := s.codeOf 0 (s.windowCentre 0 + s.codeNano 0 * x.width / 2)
     s.settled = true ∧ x.active = true ∧ s.spc.st = .regulate ∧ s.fallenTo 0 code low = decide (code = 0) ∧
     s.risenTo 0 code high = decide (code = 4095)) ∧
    (let s := { sp phS (fun x => { x with feed := [⟨0, 19999999000, true, 3300, false⟩] }) with regs := [(0x3000, 0xFFFFFFFF)] }
     s.settled = true ∧ s.flag Fld.spcCtrlFfEn = true ∧ s.spc.st = .regulate ∧ s.glb.st = .run ∧ s.feedDue ≠ []) := by
  refine ⟨?_, ?_, ?_, ?_, ?_, ?_, ?_⟩ <;> decide +kernel

/-- Every phase enabled, IPEAK and IMAX 0, |D| above LIMIT. -/
def chkS : State := { phS with
  regs := [(Fld.spcPhaseEnableEn.off, 0xFF)]
  segs := upS.segs, links := upS.links
  shunts := { phS.shunts with iShunt := some 10000000 }
  spc := { phS.spc with vOverFrom := some 19999990000, dOverFrom := some 19999980000 } }

/-- A toggle test of two phases with these D_m. -/
def togS (d : List (Option Int)) : State := sp chkS (fun x => { x with toggle := some 19999700000, toggleList := [0, 1], togD := d })

/-- The phases that such a test names. -/
def named (s : State) : List (Phase × Option Int) := (s.spc.toggleList.zip s.spc.togD).filter (fun e =>
  e.2.any (fun d => decide (2 * d.natAbs ≤ 10000 * s.fld Fld.spcXcheckCfgLimit)))

theorem wit_PowerChecks : (chkS.spcOn = true ∧ chkS.phaseEnabled 7 = true ∧ chkS.peakOver 7 2049 = true ∧ chkS.hasInh inhPeak = false) ∧
    (chkS.settled = true ∧ ∀ p : Phase, chkS.peakOver p (([2048, 2048, 2048, 2048, 2048, 2048, 2048, 2048] : List Nat).getD p.val 0) = false) ∧
    (let s := { chkS with links := chkS.links.map (fun l => { l with report := { l.report with vsum := 60000 } }) }
     s.spc.vOverFrom = some 19999990000 ∧ 19999990000 + 10000 ≤ s.now ∧ s.vLimit < s.vEst ∧ s.hasInh inhVstring = false) ∧
    (chkS.spc.dOverFrom = some 19999980000 ∧ chkS.crossReady = true ∧ chkS.spc.retryAt = none ∧ 19999980000 + 20000 ≤ chkS.now) ∧
    ((togS []).spc.toggle = some 19999700000 ∧ 19999700000 + 150000 * (togS []).spc.toggleList.length ≤ (togS []).now) ∧
    (named (togS [some 0, some 1000000]) = [(0, some 0)] ∧ (named (togS [some 0, some 0])).length ≠ 1 ∧
      (named (togS [none, none])).length ≠ 1) ∧
    ((sp chkS (fun x => { x with retryAt := some 20000000000 })).crossReady = true) ∧
    ((sp rdy (fun x => { x with retryAt := some 20000000000 })).crossReady = false ∧ (sp rdy (fun x => { x with retryAt := some 20000000000 })).settled = true) := by
  refine ⟨?_, ?_, ?_, ?_, ?_, ?_, ?_, ?_⟩ <;> decide +kernel

theorem wit_InhibitsOfTheSpc : (∀ c ∈ [0, 6], c < 7) ∧ (spcS .standby).spc.st = .standby ∧ (spcS .regulate).spc.st = .regulate ∧
    (∀ c ∈ [0, 6], let s := { spcS .inhibited with spc := { (spcS .inhibited).spc with causes := (1 : BitVec 7) <<< c } }
      s.spc.st = .inhibited ∧ (s.spc.causes &&& ~~~((1 : BitVec 7) <<< c)) = 0) := by decide +kernel


/-! ### Witnesses: the player -/

/-- The bytes of an image: those named, by offset, 0 elsewhere. -/
def imgOf (n : Nat) (l : List (Nat × Byte)) : List Byte := (List.range n).map (fun a => (find? l a).getD 0)

/-- An image with a cycle of 256 µs, two steps, every cell on one ladder in mode TAPER, and a capture window of cell 0. -/
def img1 : List Byte := imgOf 0x70 [(0x16, 1), (0x19, 1), (0x1E, 2), (0x2D, 1), (0x40, 6), (0x44, 0x60), (0x48, 16), (0x61, 3)]

/-- A run in a player state, a cycle having begun at a time. -/
def playS (st : PlayState) (start : Nat) : State := { runS upS 1000 with play := { upS.play with
  st := st, cycleStart := start, active := { upS.play.active with bytes := img1, verified := true } } }

/-- A frame of the player that waits for its answer. -/
def pf : PlayFrame := ⟨3, 1000, 19999000000, 20000000000, true⟩

/-- The player's own fields changed. -/
def pl (s : State) (f : Player → Player) : State := { s with play := f s.play }

/-- The cells after the boundary's takes of hold DONE. -/
def takenS (s : State) : State := each allCells (fun x k => x.takeDone s.play.cycles k)
  (State.countTime { s with play := { s.play with cycles := (s.play.cycles + 1) % 2 ^ 32 } })

theorem wit_TheRun :
    (let s := pl (playS .wait 0) (fun p => { p with ts := 20000000000 })
     s.glb.st = .run ∧ s.play.st = .wait ∧ s.play.ts ≤ s.now) ∧
    ((playS .hold 0).externalSource = false ∧
      ({ playS .hold 0 with regs := [(0x3800, 1)] } : State).externalSource = true) ∧
    (∀ st ∈ [PlayState.hold, .play, .exit, .stopping], (playS st 19999744000).cycling = true ∧
      (playS st 19999744000).play.cycleStart + (playS st 19999744000).tCyc ≤ (playS st 19999744000).now) ∧
    (∀ t ∈ [19999980000, 19999980001], let s := pl (playS .hold 19999744000) (fun p => { p with answeredAt := some t })
      s.play.pending = none ∧ s.play.answeredAt = some t) ∧
    ((19999980000 + 20000 ≤ (playS .hold 19999744000).play.cycleStart + (playS .hold 19999744000).tCyc) ∧
      ((playS .hold 19999744000).play.cycleStart + (playS .hold 19999744000).tCyc < 19999980001 + 20000) ∧
      (playS .hold 19999744000).settled = true ∧ some pf ≠ none) ∧
    (takenS (playS .play 19999744000)).stepEndTest ≠ 0 ∧ ((playS .play 19999744000).play.step + 1 < imgSteps (playS .play 0).active ∧
      imgSteps (playS .play 0).active ≤ (pl (playS .play 19999744000) (fun p => { p with step := 1 })).play.step + 1 ∧
      (takenS (pl (playS .play 19999744000) (fun p => { p with step := 1 }))).stepEndTest ≠ 0) ∧
    (takenS (c0 (playS .play 19999744000) (fun c => { c with st := .isIn }))).stepEndTest = 0 ∧
    (playS .exit 0).play.pending = none ∧ (playS .stopping 0).play.exitOver = false ∧ (playS .stopping 0).play.inExit = false ∧
    (let s := { (c0 (playS .play 19999999001) (fun c => { c with st := .isIn })).modSeg 0 (fun x => { x with sweepCells := 1 }) with results := { upS.results with sweepAt := some 19999999001, sweepCells := 1 } }
     s.results.sweepAt = some 19999999001 ∧ s.results.sweepOn = false ∧ s.play.st ≠ .wait ∧ s.cycling = true ∧
     19999999001 ≤ s.play.cycleStart ∧ s.now < s.play.cycleStart + 1000 ∧ inSet s.results.sweepCells 0 = true ∧
     s.play.st = .play ∧ s.inUse 0 = true ∧ (s.segs.get (segOf 0)).sweepCells.getLsbD (localOf 0) = true ∧
     inSet s.results.sweepCells 255 = false) := by
  refine ⟨?_, ?_, ?_, ?_, ?_, ?_, ?_, ?_, ?_, ?_, ?_⟩ <;> decide +kernel

/-- An answer in the SPC's outbox. -/
def ansS (a : Answer) (st : PlayState) (f : Player → Player) : State :=
  { pl (playS st 19999744000) f with spc := { (runS upS 1000).spc with answers := [a] } }

theorem wit_FramesAndMoves :
    (let a : Answer := ⟨true, 3, false, 0, 1000, 0⟩
     let s := ansS a .exit (fun p => { p with exitOver := true, pending := some pf })
     let b := State.takeAnswer { s with spc := { s.spc with answers := [] } } a
     s.spc.answers = a :: [] ∧ s.externalSource = false ∧ s.cycling = true ∧ b.play.st = .exit ∧ b.play.exitOver = true ∧
     b.play.pending = none ∧ s.play.pending = some pf ∧ pf.seq = a.seq ∧ a.unsol = false ∧ a.ack = true) ∧
    (let a : Answer := ⟨false, 3, false, 1, 1000, 0⟩
     let s := ansS a .play (fun p => { p with pending := some pf })
     let b := State.takeAnswer { s with spc := { s.spc with answers := [] } } a
     s.cycling = true ∧ b.play.st ≠ .exit ∧ a.ack = false ∧ a.cause = 1) ∧
    (let a : Answer := ⟨false, 3, false, 5, 1000, 0⟩
     pf.seq = a.seq ∧ a.unsol = false ∧ a.ack = false ∧ a.cause ≠ 1) ∧
    (let s := pl (playS .stopping 0) (fun p => { p with exitOver := true, zeroAcked := true })
     s.play.st = .stopping ∧ s.play.exitOver = true ∧ s.play.zeroAcked = true) ∧
    ((playS .play 0).play.st ≠ .stopping) ∧
    (let s := pl (playS .play 0) (fun p => { p with pending := some pf })
     s.play.pending = some pf ∧ s.cycling = true ∧ pf.deadline ≤ s.now) ∧
    (let s := c0 (playS .play 19999744001) (fun c => { c with st := .isIn })
     s.settled = true ∧ s.cycling = true ∧ s.play.st = .play ∧ s.play.cycleStart + s.tCyc ≤ s.now + 1000 ∧
     s.now < s.play.cycleStart + s.tCyc ∧ segOf 0 = 0 ∧ s.played 0 = true ∧ s.modeOf 0 = 1 ∧
     (s.cells.get 0).inService = true ∧ (s.cells.get 0).walk = none) ∧
    (let s := pl upS (fun p => { p with st := .armed, swapAt := some 20000000000, staged := { p.staged with verified := true } })
     s.play.swapAt = some 20000000000 ∧ 20000000000 ≤ s.now ∧ s.canSwap = true ∧ s.glb.st = .ready) ∧
    (let s := pl upS (fun p => { p with swapAt := some 20000000000 })
     s.canSwap = false ∧ s.settled = true) := by decide +kernel

/-! ### Witnesses: measurement -/

/-- Measurement of cell 0 changed. -/
def m0 (s : State) (k : Cell) (f : CellMeas → CellMeas) : State := s.modMeas k f

/-- A completed transition of a cell that began at a slot of a pair. -/
def edge0 (k : Cell) (slot : Nat) : EdgeRec := ⟨k, some slot, .bypassToIn, .pos, [slot + 20, slot + 90], slot, slot + 90, false, false, slot⟩

/-- Primary conversions of sixteen slots up to now for every cell. -/
def seenS (s : State) (uv : Int) : State := { s with meas := s.meas.map (fun m => { m with
  pHist := (List.range 20).map (fun i => (19999999000 - 1000 * i, uv)) }) }

/-- The verifier of every segment at a channel of its round. -/
def turnS (s : State) (n : Nat) : State := { s with segs := s.segs.map (fun x => { x with verifier := { x.verifier with next := n } }) }

/-- A run with a VERIFY window of cell 0 that began 18 µs ago. -/
def verS : State := pl (playS .play 19999982000) (fun p => { p with active := { p.active with
  bytes := imgOf 0x70 [(0x16, 1), (0x19, 1), (0x1E, 2), (0x2D, 1), (0x40, 6), (0x44, 0x60), (0x48, 16), (0x61, 2), (0x68, 18)] } })

/-- A capture pair of cell 0 that has ended. -/
def capS : State := m0 (playS .play 19999960000) 0 (fun m => { m with edgesDone := [edge0 0 19999960000] })

theorem wit_CellMeasurement :
    ((upS.segs.get (segOf 0)).smeas = true ∧ (upS.segs.get (segOf 0)).st ≠ .unpowered ∧ (upS.meas.get 0).lastSlot < upS.now / 1000 * 1000) ∧
    (∀ ocv : Bool, let h : Held := ⟨ocv, 0, 19999980000, ⟨0, 19999980000, false, true, false, false⟩⟩
     ((m0 upS 15 (fun m => { m with heldOuts := [h] })).meas.get 15).heldOuts = h :: [] ∧ h.upTo + 20000 ≤ upS.now) ∧
    (farNeighbour 16 = some 15 ∧ rdy.linkUp (segOf 15) = false) ∧
    (upS.verifyStart 0 upS.now = none ∧ (upS.segs.get (segOf 0)).verifier.free ≤ upS.now - 18000 ∧
      upS.capturing (segOf 0) (upS.now - 18000) upS.now = false ∧ upS.verifyWithin (segOf 0) (upS.now - 18000) upS.now = false ∧
      (upS.turnOf (segOf 0) (upS.now - 18000) upS.now).map Prod.fst = some (localOf 0) ∧
      upS.movedSince 0 (upS.now - 18000) = false ∧
      (m0 upS 0 (fun m => { m with edgesDone := [edge0 0 19999990000] })).movedSince 0 (upS.now - 18000) = true ∧ upS.settled = true) ∧
    (verS.verifyStart 0 verS.now = some 19999982000 ∧ (verS.segs.get (segOf 0)).verifier.free ≤ 19999982000 ∧
      verS.capturing (segOf 0) 19999982000 verS.now = false ∧ verS.flag Fld.measCtrlVerifyEn = true ∧
      verS.skips (segOf 0) 19999982000 verS.now (localOf 0) = false ∧ verS.movedSince 0 19999982000 = false) ∧
    ((upS.meas.get 0).served = false ∧ upS.primaryMean 0 19999984000 20000000000 = none ∧
      (seenS upS 3300000).primaryMean 0 19999984000 20000000000 = some 3300000) ∧
    ((upS.meas.get 0).misses - 1 < upS.fld Fld.measXcheckLimitMissN ∧
      upS.fld Fld.measXcheckLimitMissN ≤ ((m0 upS 0 (fun m => { m with misses := 7 })).meas.get 0).misses + 1 ∧
      upS.flag Fld.measCtrlTakeoverEn = true) ∧
    (let s := m0 upS 0 (fun m => { m with served := true, slicePassed := true, passes := 15 })
     (s.meas.get 0).served = true ∧ (s.meas.get 0).slicePassed = true ∧ 15 ≤ (s.meas.get 0).passes) := by
  refine ⟨?_, ?_, ?_, ?_, ?_, ?_, ?_, ?_⟩ <;> decide +kernel

theorem wit_StackVisit : let s := turnS (seenS upS 3300000) 16
    (s.segs.get 15).verifier.free ≤ 19999982000 ∧ s.capturing 15 19999982000 20000000000 = false ∧
    s.verifyWithin 15 19999982000 20000000000 = false ∧ (s.turnOf 15 19999982000 20000000000).map Prod.fst = some 16 ∧
    s.streams 15 3 = false ∧ s.classAt 15 = .low ∧ (∀ k ∈ cellsOf 15, s.primaryMean k 19999984000 20000000000 ≠ none) ∧
    (let r := s.verified 15 35200 0 65535
     ¬ (10000 * s.fld Fld.measXcheckLimitStackLimit < (1500 * r - 52800000).natAbs)) ∧
    (let r := s.verified 15 0 0 65535
     10000 * s.fld Fld.measXcheckLimitStackLimit < (1500 * r - 52800000).natAbs) ∧
    ({ s with shunts := { s.shunts with stackMiss := s.shunts.stackMiss.set 15 2 } } : State).shunts.stackMiss.get 15 = 2 := by
  decide +kernel

theorem wit_Capture : ((upS.segs.get (segOf 0)).st = .running ∧ (upS.meas.get 0).noCheckRaised = false ∧ (upS.meas.get 0).lastCheck + 1000000000 ≤ upS.now) ∧
    (capS.cycling = true ∧ ((capS.captured 0).filter (fun e => decide (capS.now < e.pairSlot + 4000 + capS.tCyc) && decide (e.pairSlot + 27500 ≤ capS.now) &&
       !((capS.meas.get 0).caps.any (fun b => b.edge.pairSlot == e.pairSlot)))).head? = some (edge0 0 19999960000) ∧
     (∀ j ∈ allCells, ∀ f ∈ capS.captured j, 4000 ≤ f.pairSlot) ∧
     (∀ j ∈ cellsOf (segOf 0), j ≠ 0 → capS.captured j = [])) := by decide +kernel

/-- A capture that meets the window of a lower cell. -/
def clashS : State :=
  let s := pl (playS .play 19999960000) (fun p => { p with active := { p.active with
    bytes := imgOf 0x80 [(0x16, 1), (0x19, 1), (0x1E, 2), (0x2D, 1), (0x40, 6), (0x44, 0x60), (0x48, 32), (0x61, 3), (0x70, 1), (0x71, 3)] } })
  m0 (m0 s 0 (fun m => { m with edgesDone := [edge0 0 19999960000] })) 1 (fun m => { m with edgesDone := [edge0 1 19999960000] })

theorem wit_CaptureClash : edge0 0 19999960000 ∈ clashS.captured 0 ∧ edge0 1 19999960000 ∈ clashS.captured 1 ∧
    (0 : Cell) ∈ cellsOf (segOf 1) ∧ (0 : Cell) < 1 ∧ clashS.shunts.clashAt ≠ some clashS.play.cycleStart := by decide +kernel

/-- Cell 0 IN for long enough, both shunts at 2 A. -/
def conS (st : PathState) : State := { c0 upS (fun c => { c with st := st, inSince := some 19000000000 }) with
  shunts := { upS.shunts with shHist := (List.range 64).map (fun i => (19999999000 - 1000 * i, some 2000000)) } }

theorem wit_ContactVisit :
    (∀ st ∈ [PathState.isIn, .isOpen], let s := conS st
      (s.segs.get (segOf 0)).smeas = true ∧ (s.segs.get (segOf 0)).st ≠ .unpowered ∧ s.linkUp (segOf 0) = true ∧
      s.flag Fld.measCtrlVerifyEn = true ∧ s.streams (segOf 0) 6 = false ∧
      s.capturing (segOf 0) (s.contactEnd - 18000) s.contactEnd = false ∧ s.nextContact (segOf 0) s.contactEnd = some 0 ∧
      (s.cells.get 0).st = st ∧ s.contactEligible 0 s.contactEnd = true ∧
      s.meanShunt (s.contactEnd - 16000) (s.contactEnd - 8000) = some 2000000 ∧
      s.meanShunt (s.contactEnd - 8000) s.contactEnd = some 2000000) ∧
    (1 ≤ upS.fld Fld.measContactLimitCount ∧ (20000 : Int) ≤ upS.contactLimit ∧ (upS.contactLimit : Int) < 20001 ∧
      upS.fld Fld.measContactLimitCount ≤ ((m0 (conS .isIn) 0 (fun m => { m with contP := 2 })).meas.get 0).contP + 1) ∧
    (((conS .isOpen).cells.get 0).tr = none ∧ 100 * (5000 : Int) ≤ 10000 * upS.fld Fld.measContactLimitOpenLimit ∧
      10000 * (upS.fld Fld.measContactLimitOpenLimit : Int) < 100 * 5001) := by
  refine ⟨?_, ?_, ?_⟩ <;> decide +kernel

theorem wit_StringMeasurement :
    (let s := { upS with shunts := { upS.shunts with iSlot := 19999999000 } }
     s.powered = true ∧ s.shunts.iSlot ≠ 0 ∧ s.now ≤ s.shunts.iSlot + 64000 ∧ s.shunts.iSlot + 1000 ≤ s.now ∧
     s.shuntServes false (s.shuntMean false (some 5)).isSome = true ∧ s.shuntMean false (some 5) ≠ none ∧
     s.shuntMean true none = none) ∧
    (let s (d : Int) (n : Nat) (b : Bool) := { upS with shunts := { upS.shunts with
       msStart := 19999000000, msB := 0, msT := 1000 * d, msN := 1000, mismatchRun := n, mismatchRaised := b } }
     (s 5000 0 false).shunts.msStart + 1000000 ≤ (s 5000 0 false).now ∧ (s 5000 0 false).shunts.msN ≠ 0 ∧
     (s 5000 0 false).shuntInUse false = true ∧ (s 5000 0 false).shuntInUse true = true ∧
     (0 - divI (s 5000 0 false).shunts.msT 1000).natAbs ≤ 10 * upS.fld Fld.measShuntXcheckLimit ∧
     10 * upS.fld Fld.measShuntXcheckLimit < (0 - divI (s 5001 0 false).shunts.msT 1000).natAbs ∧
     (s 5001 3 false).shunts.mismatchRun + 1 < upS.fld Fld.measShuntXcheckDwellMs ∧
     upS.fld Fld.measShuntXcheckDwellMs ≤ (s 5001 4 false).shunts.mismatchRun + 1 ∧
     (s 5001 4 false).shunts.mismatchRaised = false ∧ (s 5001 4 true).settled = true) ∧ upS.shunts.msN = 0 ∧
    (let s := { upS with shunts := { upS.shunts with strOn := true, strLive := 0x8000 } }
     s.shunts.strOn = true ∧ s.shunts.strLive.getLsbD (15 : Seg).val = true ∧
     s.shunts.lastMark.get 15 + 1000000 * s.fld Fld.measStreamCfgMarkMs ≤ s.now) := by decide +kernel


/-! ### Witnesses: analysis -/

/-- Analysis on in a quiet READY, the quiet time begun. -/
def anaS : State := { upS with
  pwr := { upS.pwr with hubOn := 0xFF }
  results := { upS.results with quietFrom := some 19900000000, quietSumB := 300, quietNB := 2 }
  shunts := { upS.shunts with iSlot := 20000000000 } }

/-- A burst of cell 0 with its step at a time. -/
def burst0 (d : Bool) : Burst := { edge := edge0 0 19999960000, start := 19999956000, samples := [], disturbed := d, pre := [], post := [], postOk := false }

/-- Cell 0 with a burst, in RUN, with its slots' currents on record. -/
def burstS (d : Bool) (i : Int) (n : Nat) : State :=
  let s := { playS .play 19999744000 with pwr := { upS.pwr with hubOn := 0xFF }, shunts := { upS.shunts with iHist := (List.range 12).map (fun j => (19999960000 + 1000 * j, some i)) } }
  s.modAna 0 (fun a => { a with bursts := [burst0 d], rIn := List.replicate n ⟨0, none, 0, 0, 0, true⟩, pIn := ⟨10, 1000, 4, 1000000⟩ })

/-- The same with the burst taken. -/
def burstA (d : Bool) (i : Int) (n : Nat) : State := (burstS d i n).modAna 0 (fun a => { a with bursts := [] })

theorem wit_AnalysisEngines :
    (anaS.settled = true ∧ anaS.results.quietFrom = some 19900000000 ∧ anaS.anaOn = true ∧ anaS.quiet = true ∧
      19900000000 + 100000000 ≤ anaS.now ∧ 19900000000 + 100000000 ≤ anaS.shunts.iSlot) ∧
    (let s := { anaS with now := 43300000000001, results := { anaS.results with zeroAt := some 100000000000 } }
     s.anaOn = true ∧ s.results.zeroAt = some 100000000000 ∧
     100000000000 + 3600000000000 * s.fld Fld.anaTallyCfgZeroMaxH < s.now ∧ s.results.zeroRaised = false) ∧
    (let s := { playS .play 0 with results := { upS.results with stepFrom := some 0, lastTally := 10000000000 } }
     s.glb.st = .run ∧ s.results.stepFrom ≠ none ∧ s.results.params.period ≠ 0 ∧
     s.results.lastTally + 10000000 * s.results.params.period ≤ s.now) ∧
    (anaS.fld Fld.anaTallyCfgSnapPeriod ≠ 0 ∧ anaS.results.lastSnap + 100000000 * anaS.fld Fld.anaTallyCfgSnapPeriod ≤ anaS.now) ∧
    (∀ b : Bool, let s := { anaS with results := { anaS.results with snapPending := b, lastSnap := 19999999999 } }
      s.anaOn = true ∧ s.results.snapPending = b ∧ s.now < s.results.lastSnap + 100000000 * s.fld Fld.anaTallyCfgSnapPeriod ∧
      s.settled = true) ∧
    (∀ d : Bool, ((burstS d 1000000 1).ana.get 0).bursts = burst0 d :: [] ∧ (burstS d 1000000 1).glb.st = .run ∧
      outward (burst0 d).edge = false ∧ ((burstS d 1000000 1).ana.get 0).rIn ≠ [] ∧
      (burstS d 1000000 1).anaOn = true ∧ (burstS d 1000000 1).played 0 = true ∧
      (burst0 d).edge.cls ≠ .low ∧ (burst0 d).disturbed = d ∧ (burstS d 1000000 1).settled = true) ∧
    ({ burstS false 0 0 with regs := [(Fld.anaKernelEnableKernels.off, 0xFFFFFFFF)] } : State).kernelsNow.getLsbD 1 = true ∧
    (∀ n ∈ [14, 15], (burstA false 1000000 n).currentOver 19999960090 (19999960090 + 1000 * ((burstA false 1000000 n).burstParams 0 false).t1) =
        some (List.replicate 11 1000000) ∧ ((burstA false 1000000 n).burstParams 0 false).iMin = 1000000 ∧
      ((burstA false 1000000 n).burstParams 0 false).nLog2 = 4 ∧ ((burstS false 1000000 n).ana.get 0).rIn.length = n) ∧
    (14 + 1 < 2 ^ 4 ∧ 2 ^ 4 ≤ 15 + 1) ∧
    (burstA false 999999 1).currentOver 19999960090 (19999960090 + 1000 * ((burstA false 999999 1).burstParams 0 false).t1) =
      some (List.replicate 11 999999) ∧
    (anaS.unretired < anaS.dropLevel 1 ∧ find? anaS.results.slots (anaS.results.nextSeq % 16384) = none) := by decide +kernel

theorem wit_RecordDropped (k : Nat) : ∃ s : State, s.dropLevel k ≤ s.unretired := by
  refine ⟨{ anaS with results := { anaS.results with slots := List.replicate 16384 (0, ⟨⟨1, 0, 0, 0, 0, 0, 0, 0, 0, 0, 0, 0, []⟩, 0, false, false, 0⟩) } }, ?_⟩
  unfold State.dropLevel State.unretired
  simp only [List.filter_replicate, Bool.not_false, ↓reduceIte, List.length_replicate]
  split <;> decide

/-! ### Witnesses: power and patrols -/

/-- A member in a quiet READY where DRYDOWN is enabled and the latency budget and the entry delay leave every state open. -/
def quietR (budget : Word) (en : Word) : State := { inSt rdy .ready with
  now := 70000000000, regs := [(Fld.pwrLatencyBudgetBudgetUs.off, budget), (Fld.pwrDrydownCfgEn.off, en)] }

/-- The entry to DRYDOWN under way. -/
def goingS (s : State) : State := { s with pwr := { s.pwr with going := some .drydown } }

theorem wit_PowerStates :
    (rdy.powered = true ∧ rdy.glb.st ≠ .drydown) ∧
    ((quietR 20000 0x003c0103).glb.st = .ready ∧ (quietR 20000 0x003c0103).pwr.exitFrom = none ∧
      (quietR 20000 0x003c0103).pwr.going = none) ∧
    (quietR 20000 0x003c0103).blockOf .drydown = 0 ∧
    ((quietR 200 0x003c0102).blockOf .drydown ≠ 0 ∧ (quietR 200 0x003c0102).blockOf .doze = 0) ∧
    ((quietR 199 0x003c0102).blockOf .drydown ≠ 0 ∧ (quietR 199 0x003c0102).blockOf .doze ≠ 0 ∧ (quietR 199 0x003c0102).blockOf .idle = 0) ∧
    ((quietR 0 0x003c0102).blockOf .drydown ≠ 0 ∧ (quietR 0 0x003c0102).blockOf .doze ≠ 0 ∧ (quietR 0 0x003c0102).blockOf .idle ≠ 0) ∧
    ({ rdy with pwr := { rdy.pwr with st := .doze } } : State).pwr.st = .doze ∧
    ((goingS (quietR 20000 0x003c0103)).pwr.going = some .drydown ∧ (goingS (quietR 20000 0x003c0103)).blockOf .drydown = 0) ∧
    ((goingS (quietR 0 0x003c0103)).blockOf .drydown ≠ 0 ∧ (goingS (quietR 0 0x003c0103)).settled = true) ∧
    (∀ m ∈ [ModState.ready, .drydown], let s := { inSt rdy m with pwr := { rdy.pwr with exitFrom := some 0 } }
      s.pwr.exitFrom ≠ none ∧ s.glb.st = m) ∧
    (let s := (inSt rdy .drydown).modSeg 0 (fun x => { x with st := .boot })
     s.linkUp 0 = false ∧ (s.segs.get 0).st ≠ .unpowered ∧ (s.links.get 0).trainRaised = false) ∧
    (∀ g, (rdy.segs.get g).st = .unpowered) := by decide +kernel

/-- DRYDOWN with the segments in patrol mode. -/
def patS (f : Segment → Segment) : State := { inSt rdy .drydown with
  segs := rdy.segs.map (fun x => f { x with st := .patrol, retention := false }) }

theorem wit_Patrols :
    (let s := patS (fun x => { x with patrolAt := some 20000000000, suspect := some 20000000000 })
     s.settled = true ∧ s.patrols 15 = true ∧ 20000000000 ≤ s.segTime 15 ∧ (s.segs.get 15).patrolAt = some 20000000000 ∧
     (s.segs.get 15).suspect = some 20000000000) ∧
    (let s := patS (fun x => { x with windowAt := some 19968000000 })
     (s.segs.get 0).windowAt = some 19968000000 ∧ s.patrols 0 = true ∧ 19968000000 + 32000000 ≤ s.segTime 0 ∧
     ([⟨100000, none, none⟩] : List PatrolCell)[0]? = some ⟨100000, none, none⟩) ∧
    (let s := (patS id).modLink 0 (fun l => { l with up := { l.up with queued := [.report true false [⟨1, 2, 3⟩]] } })
     s.glb.st = .drydown ∧ takeReport (s.links.get 0).up.queued = some ((true, false, [⟨1, 2, 3⟩]), [])) ∧
    (let s := { patS id with pwr := { rdy.pwr with tFirst := 19940000000, patrolNo := 0, reported := 1, exitFrom := none } }
     let n := (s.now - s.pwr.tFirst) / (1000000000 * s.fld Fld.pwrDrydownPeriodPeriodS)
     s.glb.st = .drydown ∧ s.pwr.exitFrom = none ∧ s.pwr.tFirst ≤ s.now ∧
     s.pwr.tFirst + 1000000000 * s.fld Fld.pwrDrydownPeriodPeriodS * n + 60000000 ≤ s.now ∧ s.pwr.patrolNo = n ∧
     s.pwr.reported.getLsbD (0 : Seg).val = true ∧ s.pwr.reported.getLsbD (15 : Seg).val = false ∧ s.settled = true) ∧
    (let s := { patS id with pwr := { rdy.pwr with anomalies := [(0, ⟨1, 2, 3⟩)] } }
     (((0 : Seg), (⟨1, 2, 3⟩ : Anomaly)) ∈ s.pwr.anomalies) ∧
     (∀ e ∈ s.pwr.anomalies, ¬(e.1 = 1 ∧ e.2.kind = 6 ∧ e.2.cell = 0)) ∧
     (s.fld Fld.pwrWakeCfgAnomWake).testBit (6 - 1) = true ∧ s.glb.st = .drydown ∧ s.pwr.exitFrom = none) ∧
    (let s := inSt rdy .dormant
     s.settled = true ∧ s.glb.st = .dormant ∧ (19999 : Nat) < 20000 ∧ (∀ h ∈ allSegs, h ≠ 0 → (s.segs.get h).stackMv < 20000)) ∧
    (let s := (inSt rdy .dormant).modSeg 1 (fun x => { x with stackMv := 20000 })
     (1 : Seg) ≠ 0 ∧ 20000 ≤ (s.segs.get 1).stackMv) := by
  refine ⟨?_, ?_, ?_, ?_, ?_, ?_, ?_⟩ <;> decide +kernel


/-! ### Witnesses: span links -/

/-- DRYDOWN with its exit under way. -/
def s_dry : State := { inSt upS .drydown with pwr := { upS.pwr with exitFrom := some 0 } }

/-- Every segment's link in a state, last heard long ago. -/
def lnS (st : LinkState) (f : Link → Link) : State := { upS with links := upS.links.map (fun l => f { l with st := st }) }

theorem wit_SpanLinkUpkeep :
    (upS.settled = true ∧ upS.powered = true ∧ upS.glb.st ≠ .drydown ∧ upS.now % 1000 = 0 ∧ upS.linkUp 15 = true) ∧
    (∀ halt : Bool, ∀ us ∈ [256, 0], let b := beaconWord us .pos halt true false false 0
     let s := lnS .up (fun l => { l with beacon := some b })
     (s.links.get 0).beacon = some b ∧ beaconCrcOk b = true ∧ classOfNo (b.toNat / 2 ^ 10 % 4) = some .pos ∧ s.hears 0 = true ∧
     (s.segs.get 0).timeSet = true ∧ b.toNat.testBit 12 = halt ∧ (b.toNat % 1024 = s.now / 1000 % 1024 ↔ us = 256)) ∧
    (beaconCrcOk (beaconWord 0 .pos true true false false 0 ^^^ 1) = false ∧
      (s_dry.glb.st ≠ .drydown ∨ s_dry.pwr.exitFrom ≠ none)) ∧
    (upS.linkUp 0 = true ∧ (upS.segs.get 0).st ≠ .unpowered ∧ upFrame (upS.links.get 0).lastUplink < upFrame upS.now) ∧
    (let s := lnS .single (fun l => { l with parkSym := some true })
     (s.links.get 0).parkSym = some true ∧ s.linkUp 0 = true ∧ (s.segs.get 0).st ≠ .unpowered) ∧
    ((upS.segs.get 0).st = .running ∧ (upS.links.get 0).lastDownlink + 20000 ≤ upS.now ∧ upS.glb.st ≠ .dormant ∧
      ({ inSt upS .dormant with segs := upS.segs.map (fun x => { x with onStack := true }) } : State).glb.st = .dormant) ∧
    (∀ st ∈ [LinkState.training, .lost], (lnS st id).isTraining 0 = true ∧ ((true && ((lnS st id).carriers 0).1) ≠ (false && ((lnS st id).carriers 0).2)) ∧
      ((lnS st id).links.get 0).trainFrom + 2000000 ≤ (lnS st id).now) ∧
    ((upS.links.get 0).st = .up ∧ ((lnS .single id).links.get 0).st = .single ∧ (lnS .single id).settled = true ∧
      (lnS .single id).carriers 0 = (true, true)) ∧
    ((upS.links.get 0).lastUplink + 20000 ≤ upS.now) ∧
    (let s := lnS .up (fun l => { l with
       up := { l.up with sent := [(0, .shareRsp .ok)], ackAt := 19999996000 }
       down := { l.down with sent := [(0, .read 0)], ackAt := 19999996000 } })
     s.settled = true ∧ s.linkUp 0 = true ∧ (s.links.get 0).up.sent ≠ [] ∧ (s.links.get 0).up.ackAt + 4000 ≤ s.now ∧
     (s.links.get 0).down.sent ≠ [] ∧ (s.links.get 0).down.ackAt + 4000 ≤ s.now) ∧
    ((upS.modSeg 0 (fun x => { x with shadowOk := false })).segs.get 0).shadowOk = false := by
  refine ⟨?_, ?_, ?_, ?_, ?_, ?_, ?_, ?_, ?_, ?_, ?_⟩ <;> decide +kernel

/-- A message that a segment, or the hub, takes next. -/
def dnS (m : DownMsg) : State := lnS .up (fun l => { l with down := { l.down with sent := [(l.down.expect, m)] } })
def upM (m : UpMsg) : State := { lnS .up (fun l => { l with up := { l.up with sent := [(l.up.expect, m)] } }) with
  glb := { upS.glb with headEn := true } }

/-- A sample out of disturbance with the cell IN. -/
def smp : Sample := ⟨3300000, 19999990000, false, true, false, false⟩

theorem wit_SpanMessages :
    (∀ m ∈ [DownMsg.config 0x8040 0 0 false (.ring 5), .config 0x8040 0 0 true (.ring 5), .read 0, .share 1 0 [] false, .share 2 0 [] true,
        .share 1 0 [] true, .time 0 0, .islot 0 [some 0, none], .neighbour 15 0 [edge0 15 0], .cmd .reset, .cmd (.release 1)],
      (dnS m).linkUp 0 = true ∧ ((dnS m).segs.get 0).st ≠ .unpowered ∧ expected ((dnS m).links.get 0).down = some m) ∧
    farNeighbour 15 = some 16 ∧
    (∀ m ∈ [UpMsg.edge (edge0 0 0), .fault (rep .noPath) false, .fault (rep .noPath) true, .output 0 0 smp, .output 0 1 smp,
        .output 0 1 { smp with disturbed := true }, .sums 0 ⟨0, 1000, 1, 1, 1000, none⟩, .burstPart 0 [1], .burst 0 (burst0 false), .stream [],
        .rsp 0x8040 0 .ok (some (.ring 5)), .rsp 0x8040 0 .ok none, .cmdRsp .ok, .shareRsp .ok],
      (upM m).linkUp 0 = true ∧ (upM m).powered = true ∧ expected ((upM m).links.get 0).up = some m ∧ (upM m).isHead = true) ∧
    (smp.disturbed = false ∧ smp.isIn = true ∧ smp.sat = false) ∧
    (let s := { upM (.output 0 1 smp) with regs := [(Fld.anaKernelEnableKernels.off, 0xFFFFFFFF)], pwr := { upS.pwr with hubOn := 0xFF } }
     s.kvalRuns (s.ana.get 0).kval = true) ∧
    (let s := { upM (.sums 0 ⟨0, 1000, 1, 1, 1000, none⟩) with results := { upS.results with stepFrom := some 0 } }
     s.results.stepFrom ≠ none ∧ (s.ana.get 0).sumTo ≤ 0 ∧ 0 < ((s.modAna 0 (fun a => { a with sumTo := 1 })).ana.get 0).sumTo ∧
     upS.results.stepFrom = none) ∧
    (let s := upM (.fault (rep .noPath) false)
     ((rep .noPath).src, (0 : Seg)) ∉ s.flt.awaited ∧
     ((rep .noPath).src, (0 : Seg)) ∈ ({ s with flt := { s.flt with awaited := [(.noPath, 0)] } } : State).flt.awaited) := by
  refine ⟨?_, ?_, ?_, ?_, ?_, ?_, ?_⟩ <;> decide +kernel

/-! ### Witnesses: supplies, time, host port -/

theorem wit_Supplies :
    (let s := (inSt rdy .dormant).modSeg 0 (fun x => { x with retention := true })
     s.settled = true ∧ (s.glb.st = .dormant ∨ s.glb.st = .off) ∧ (s.segs.get 0).retention = true ∧ (5999 : Nat) < 6000) ∧
    (∀ mv ∈ [19999, 20000], let s := { upS.modSeg 0 (fun x => { x with stackMv := mv }) with regs := [(0x8010, 1)] }
      s.powered = true ∧ (s.segs.get 0).feedOk = true ∧ s.flag (Fld.segFeedCtrlFeedEn 0) = true ∧ (s.segs.get 0).stackMv = mv) ∧
    (∀ st ∈ [SegState.running, .unpowered], ∀ en : Bool, let s := { upS.modSeg 0 (fun x => { x with st := st, feedRestoreAt := some 20000000000 }) with regs := (bif en then [(0x8010, 1)] else []) }
      s.settled = true ∧ (s.segs.get 0).feedRestoreAt = some 20000000000 ∧ 20000000000 ≤ s.now ∧ (s.segs.get 0).st = st ∧ s.powered = true ∧
      s.flag (Fld.segFeedCtrlFeedEn 0) = en) ∧
    ((∃ mv : Nat, 20000 ≤ mv) ∧ (19999 : Nat) < 20000 ∧ (∀ b : Bool, ({ rdy with pwr := { rdy.pwr with nvmOk := b } } : State).pwr.nvmOk = b)) := by
  refine ⟨?_, ?_, ?_, ⟨20000, ?_⟩, ?_, ?_⟩ <;> decide +kernel

/-- A unit of time that follows a source in a state. -/
def tuS (s : State) (st : Nat) : State := { s with tu := { s.tu with st := st, src := 1, lastSource := 19000000000, candA := some (19997000000, 1, false, true), holdFrom := some 19000000000 } }

theorem wit_LineTime :
    ((portS rdy 2).takes .a 4 (fr 4 0 false 0) = true ∧ (portS head 2).takes .a 4 (fr 4 0 false 0) = true ∧
      ((portS rdy 2).heard .a 4 (fr 4 0 false 0)).isHead = false) ∧
    ((tuS rdy 2).flag Fld.timeCtrlFollow = true ∧ (tuS rdy 2).portAllowed .a = true ∧ (tuS rdy 2).tu.src = srcCode .a) ∧
    (let s := { head with regs := [(Fld.timePtmCfgPtmEn.off, 0xFFFFFFFF)] }
     s.settled = true ∧ s.powered = true ∧ s.followsPtm = true) ∧
    (let s := { head with regs := [(Fld.timeCtrlTxEn.off, 0xFFFFFFFF)] }
     s.settled = true ∧ s.powered = true ∧ s.isHead = true ∧ s.flag Fld.timeCtrlTxEn = true ∧ s.now % 1000000 = 0) ∧
    ((tuS rdy 2).tu.cand .a = some (19997000000, 1, false, true) ∧ (tuS rdy 2).isHead = false ∧ 19997000000 + 3000000 ≤ (tuS rdy 2).now) ∧
    (∀ st ∈ [1, 2], (tuS rdy st).powered = true ∧ (tuS rdy st).flag Fld.timeCtrlFollow = true ∧ (tuS rdy st).isHead = false ∧ (tuS rdy st).tu.st = st ∧ (tuS rdy st).tu.lastSource + (tuS rdy st).sourceTimeout ≤ (tuS rdy st).now) ∧
    (let s := { tuS rdy 3 with now := 19000000000 + 1000000000 * rdy.fld Fld.timeHoldoverLimitS + 1 }
     s.tu.holdFrom = some 19000000000 ∧ s.powered = true ∧ s.tu.st = 3 ∧ s.tu.limitRaised = false ∧
     19000000000 + 1000000000 * s.fld Fld.timeHoldoverLimitS < s.now) ∧
    (let s := { rdy with regs := [(Fld.timeCtrlFollow.off, 1 <<< Fld.timeCtrlStepEn.lo)] }
     s.flag Fld.timeCtrlFollow = false ∧ s.stepPermitted = true ∧ ({ inSt s .run with regs := [(Fld.timeCtrlFollow.off, 0)] } : State).stepPermitted = false) ∧
    rdy.flag Fld.timeCtrlFollow = true ∧ rdy.tu.hiWritten = none := by
  refine ⟨?_, ?_, ?_, ?_, ?_, ?_, ?_, ?_, ?_, ?_⟩ <;> decide +kernel

/-- A host port that is enabled, with a ring of 16 commands, one outstanding, entries held. -/
def hostS : State := { head with host := { head.host with
  st := 1, linkUp := true, cmdSize := 16, cmdTail := 3, cmdHead := 2
  outstanding := [⟨7, 0, 0x11, 2, true, false, 0, some 0⟩]
  cpl := { head.host.cpl with size := 16, prod := 3, cons := 1, unsignalled := 1, firstAt := 0 }
  res := head.host.res.map (fun r => { r with size := 16, prod := 2, cons := 1, unsignalled := 1, firstAt := 0 }) } }

theorem wit_HostPortRows : hostS.hostPowered = true ∧ hostS.host.linkUp = true ∧
    (ahead 18 hostS.doorbell.host.cmdTail ≤ hostS.doorbell.host.cmdSize ∧ ahead 18 hostS.doorbell.host.cmdHead ≤ hostS.doorbell.host.cmdSize) ∧
    (hostS.doorbell.host.cmdSize < ahead 20 hostS.doorbell.host.cmdTail) ∧
    (hostS.doorbell.host.cmdSize < ahead 19 hostS.doorbell.host.cmdHead) ∧
    (ahead 3 hostS.doorbell.host.cpl.cons ≤ hostS.doorbell.host.cpl.held ∧ hostS.doorbell.host.cpl.held < ahead 4 hostS.doorbell.host.cpl.cons) ∧
    (∀ r ∈ [(0 : Fin 4), 3], ahead 2 (hostS.doorbell.host.res.get r).cons ≤ (hostS.doorbell.host.res.get r).held ∧
      (hostS.doorbell.host.res.get r).held < ahead 3 (hostS.doorbell.host.res.get r).cons) ∧
    (hostS.startAll.host.st = 1 ∧ hostS.startAll.host.cmdTail ≠ hostS.startAll.host.cmdHead ∧ hostS.startAll.host.outstanding.length < 1024) ∧
    (hostS.host.outstanding.find? (fun x => x.tag == 7) = some ⟨7, 0, 0x11, 2, true, false, 0, some 0⟩ ∧
      0 + 1000000 * hostS.fld Fld.hostCtrlCmdTimeoutMs ≤ hostS.now ∧ (∀ c ∈ hostS.host.heldCpl, c.tag ≠ 7) ∧ hostS.rspComing 7 = false) ∧
    (let s := { hostS with regs := [(Fld.hostCoalesceTimeUs.off, 0xFFFFFFFF)] }
     0 < s.fld Fld.hostCoalesceTimeUs ∧ s.host.cpl.unsignalled ≠ 0 ∧ s.host.cpl.firstAt + 1000 * s.fld Fld.hostCoalesceTimeUs ≤ s.now ∧
     (s.host.res.get 3).unsignalled ≠ 0 ∧ (s.host.res.get 3).firstAt + 1000 * s.fld Fld.hostCoalesceTimeUs ≤ s.now) := by
  refine ⟨?_, ?_, ?_, ?_, ?_, ?_, ?_, ?_, ?_, ?_⟩ <;> decide +kernel


/-! ### Witnesses: commands -/

theorem wit_CommandsRefused :
    (commandOf (.run (.ring 5) 0) = some (.ring 5, 0x50, false) ∧ State.reset.reaches (.ring 5) 0x50 = true ∧
      (State.reset.taken (.ring 5)).refusal 0x50 false = some .busy) ∧
    (commandOf (.halt (.loop 5 false .a)) = some (.loop 5 false .a, 0x52, false) ∧ rdy.powered = true ∧
      128 ≤ ({ rdy with loop := { rdy.loop with inFlight := 128 } } : State).loop.inFlight) ∧
    (∀ m ∈ [ModState.ready, .run, .halt, .orphan, .boot, .startupTest, .drydown, .shutdownLatched], (inSt rdy m).glb.st = m) ∧
    ((inSt rdy .boot).refusal 0x50 false = some .busy ∧ (inSt rdy .startupTest).refusal 0x50 false = some .busy ∧
      (inSt rdy .drydown).refusal 0x50 false = some .rejected ∧ (inSt rdy .shutdownLatched).refusal 0x50 false = some .tempInhibit) := by
  refine ⟨?_, ?_, ?_, ?_⟩ <;> decide +kernel

/-- An image whose ANALYSIS section has one sweep plan. -/
def img2 : List Byte := imgOf 0x80 [(0x16, 1), (0x19, 1), (0x1E, 2), (0x2D, 1), (0x40, 8), (0x44, 0x60), (0x48, 32), (0x60, 0x7F), (0x6F, 1)]

/-- A run of that image, SWEEP-Z in force. -/
def sweepS : State := { pl { playS .play 0 with regs := [(Fld.anaKernelEnableKernels.off, 0xFFFFFFFF)] } (fun p => { p with active := { p.active with bytes := img2 } }) with
  results := { upS.results with stepFrom := some 0 } }

/-- A head whose port B is UP. -/
def ringS : State := portS head 2

theorem wit_ModuleCommands :
    (let s := pl upS (fun p => { p with st := .armed, active := { p.active with bytes := img1, verified := true } })
     s.accepts (.ring 5) 0x50 false = true ∧ (s.taken (.ring 5)).overtaken = none ∧ (s.taken (.ring 5)).glb.st = .ready ∧ (s.taken (.ring 5)).hasActive = true ∧
     (s.taken (.ring 5)).play.st = .armed ∧ (∀ k ∈ allCells, ((s.taken (.ring 5)).cells.get k).st ≠ .isOpen) ∧
     (s.taken (.ring 5)).now + 100000 ≤ startTime 20000100000 ∧ startTime 20000100000 ≤ (s.taken (.ring 5)).now + 2 ^ 40 ∧
     (s.taken (.ring 5)).externalSource = false) ∧
    (let s := { rdy with pending := [.estopNLow 50] }
     s.accepts (.ring 5) 0x50 false = true ∧ s.accepts (.ring 5) 0x51 false = true ∧ (s.taken (.ring 5)).overtaken ≠ none) ∧
    (let s := { inSt rdy .orphan with loop := { rdy.loop with orphanSent := true } }
     s.accepts (.ring 5) 0x51 false = true ∧ (s.taken (.ring 5)).overtaken = none ∧ (s.taken (.ring 5)).glb.st = .orphan ∧
     (s.taken (.ring 5)).loop.silent = false ∧ (s.taken (.ring 5)).orphanBusy = false) ∧
    (let s := inSt rdy .halt
     s.accepts (.ring 5) 0x51 false = true ∧ (s.taken (.ring 5)).overtaken = none ∧ (s.taken (.ring 5)).haltUncleared = false ∧ (s.taken (.ring 5)).pins.estopN = true) ∧
    (∀ st ∈ [PlayState.wait, .hold, .play, .exit], (playS st 0).accepts (.ring 5) 0x51 false = true ∧
      ((playS st 0).taken (.ring 5)).overtaken = none ∧ ((playS st 0).taken (.ring 5)).glb.st = .run ∧ ((playS st 0).taken (.ring 5)).play.st = st) ∧
    (rdy.accepts (.ring 5) 0x52 false = true ∧ (rdy.taken (.ring 5)).shutdownComing = false ∧ (rdy.taken (.ring 5)).resetComing = false) ∧
    (let s := { hotS with pending := [.shutdown 0] }
     s.accepts (.ring 5) 0x52 false = true ∧ (s.taken (.ring 5)).shutdownComing = true) ∧
    (let s := { rdy with glb := { rdy.glb with resetAt := some (20000000000, 4) }, pending := [.resetApply] }
     s.accepts (.ring 5) 0x52 false = true ∧ (s.taken (.ring 5)).shutdownComing = false ∧ (s.taken (.ring 5)).resetComing = true) ∧
    (sweepS.accepts (.ring 5) 0x40 false = true ∧ (sweepS.taken (.ring 5)).results.sweepAt = none ∧
      (sweepS.taken (.ring 5)).results.sweepOn = false ∧ (sweepS.taken (.ring 5)).inRun = true ∧
      (sweepS.taken (.ring 5)).sweepRuns = true ∧ 0 < (sweepS.taken (.ring 5)).sweepCount ∧ setCells 5 = [0, 2] ∧
      (∀ k ∈ setCells 5, ¬(k.val + 1 < 256 ∧ inSet 5 (cell (k.val + 1)) = true) ∧ (sweepS.taken (.ring 5)).played k = true) ∧
      (sweepS.taken (.ring 5)).now ≤ 20000000000) ∧
    (upS.accepts (.ring 5) 0x42 false = true ∧ (8 : BitVec 8).getLsbD 7 = false ∧
      (∀ g : Seg, (0x8001 : BitVec 16).getLsbD g.val = true → (upS.taken (.ring 5)).streamRate g 8 0 ≤ 625000)) ∧
    (upS.accepts (.ring 5) 0x43 false = true ∧ upS.accepts (.ring 5) 0x80 false = true ∧
      (inSt rdy .drydown).accepts (.ring 5) 0x81 false = true ∧ upS.accepts (.ring 5) 0x11 false = true ∧
      upS.accepts (.ring 5) 0x81 false = true ∧ (upS.taken (.ring 5)).pwr.exitFrom = none) ∧
    (ringS.accepts (.ring 5) 0x10 false = true ∧ (ringS.taken (.ring 5)).isHead = true ∧ (ringS.taken (.ring 5)).headNo = false ∧
      (ringS.taken (.ring 5)).loop.census = none ∧ (ringS.taken (.ring 5)).loop.b.st = 2 ∧ (ringS.taken (.ring 5)).loop.brkUp = 0) := by
  refine ⟨?_, ?_, ?_, ?_, ?_, ?_, ?_, ?_, ?_, ?_, ?_, ?_⟩ <;> decide +kernel

/-- An accord of ID 5 in a state. -/
def accS (st : AccState) (f : Accord → Accord) : State := { rdy with
  acc := f { rdy.acc with st := st, id := 5, t := 20001000000 }, tu := { rdy.tu with st := 2 } }

theorem wit_AccordCommands :
    (∀ st ∈ [AccState.idle, .isOpen, .prepared, .committed, .rolledBack, .split], ∀ op ∈ [0x30, 0x31, 0x32, 0x33],
      (accS st id).accepts (.ring 5) op false = true ∧ ((accS st id).taken (.ring 5)).glb.st = .ready ∧
      ((accS st id).taken (.ring 5)).acc.st = st ∧ ((accS st id).taken (.ring 5)).sameAccord 5 = true ∧
      ((accS st id).taken (.ring 5)).sameAccord 6 = false ∧ (6 : BitVec 16).toNat ≠ ((accS st id).taken (.ring 5)).acc.id) ∧
    ((accS .isOpen id).judgePrepare 0 20001000000 = .ok ∧ 0 = (accS .isOpen id).acc.count ∧
      (accS .isOpen id).now + 1000000 ≤ 20001000000 ∧ (accS .isOpen id).tu.st = 2 ∧ (accS .isOpen id).play.swapStaged = false ∧
      (accS .isOpen id).stagedSegs = []) ∧
    ((accS .prepared id).acc.commitSeen = false ∧ (accS .prepared id).now + 50000 ≤ (accS .prepared id).acc.t ∧
      (accS .prepared (fun a => { a with t := 20000049999 })).acc.t < (accS .prepared id).now + 50000) ∧
    (let s := accS .prepared (fun a => { a with commitSeen := true, t := 20000000000 })
     s.powered = true ∧ s.acc.st = .prepared ∧ s.acc.commitSeen = true ∧ s.acc.t ≤ s.now ∧ s.shutdownComing = false ∧
     s.resetComing = false) ∧
    (let s := accS .prepared (fun a => { a with grace := 100, t := 19999999900 })
     s.acc.commitSeen = false ∧ s.acc.t + s.acc.grace ≤ s.now) := by
  refine ⟨?_, ?_, ?_, ?_, ?_⟩ <;> decide +kernel

/-- READY with the flash writable, a record in slot 16383, and a scan of four bytes set up. -/
def stoS : State := { upS with
  pwr := { upS.pwr with nvmOk := true, hubOn := 0xFF }
  regs := [(0x680C, 4)]
  results := { upS.results with slots := [(16383, ⟨⟨1, 0, 3, 0, 0, 0, 0, 0, 0, 0, 0, 0, []⟩, 0, false, false, 0⟩)] } }

/-- A firmware update of eight bytes with some received. -/
def fwS (n : Nat) : State := { stoS with nvm := { stoS.nvm with fw := some ⟨1, 8, 1, n⟩ } }

theorem wit_StorageCommands :
    (stoS.accepts (.ring 5) 0x20 false = true ∧ (stoS.taken (.ring 5)).glb.st = .ready ∧ (stoS.taken (.ring 5)).flaconBusy = false ∧
      ([0, 0, 0, 0] : List Byte).length % 4 = 0 ∧ ([0, 0, 0, 0] : List Byte).length < 8) ∧
    (let s := pl stoS (fun p => { p with staged := { p.staged with complete := true, total := 8, bytes := [0, 0, 0, 0, 0, 0, 0, 0] } })
     s.accepts (.ring 5) 0x21 false = true ∧ (s.taken (.ring 5)).flaconBusy = false ∧ (s.taken (.ring 5)).play.staged.complete = true ∧
     ((s.taken (.ring 5)).judgeVerify (s.taken (.ring 5)).play.staged.total (s.taken (.ring 5)).play.staged.bytes).rule ≠ 0 ∧
     (s.taken (.ring 5)).linkUp 0 = true) ∧
    (let s := pl stoS (fun p => { p with loading := some (8, 4) })
     s.accepts (.ring 5) 0x20 false = true ∧ (s.taken (.ring 5)).glb.st = .ready ∧ (s.taken (.ring 5)).flaconBusy = false ∧
     (s.taken (.ring 5)).play.loading = some (8, 4) ∧ (4 : Nat) + ([0, 0, 0, 0] : List Byte).length = 8) ∧
    (stoS.accepts (.ring 5) 0x22 false = true ∧ (stoS.taken (.ring 5)).writeRefusal = none ∧ stoS.accepts (.ring 5) 0x41 true = true ∧
      (find? (stoS.taken (.ring 5)).results.slots 16383).isSome = true ∧ (16383 : Nat) < 16384) ∧
    (let s := { head with host := { head.host with outstanding := [⟨5, 0, 0x41, 0, true, false, 0, some 0⟩] } }
     s.accepts (.ring 5) 0x41 false = true ∧ (s.taken (.ring 5)).isHead = true ∧
     (s.taken (.ring 5)).host.outstanding.find? (fun x => x.tag == 5) = some ⟨5, 0, 0x41, 0, true, false, 0, some 0⟩) ∧
    (stoS.accepts (.ring 5) 0x90 false = true ∧ stoS.accepts (.ring 5) 0x70 false = true ∧ (stoS.taken (.ring 5)).bist.cmdOrigin = none) ∧
    (stoS.accepts (.ring 5) 0x71 false = true ∧ (stoS.taken (.ring 5)).chkLocked 0 = false ∧ (stoS.taken (.ring 5)).judgeScan 0 = .ok) ∧
    (stoS.accepts (.ring 5) 0xA0 false = true ∧ (stoS.taken (.ring 5)).flashCommand = false ∧ (stoS.taken (.ring 5)).writeRefusal = none ∧
      (stoS.taken (.ring 5)).nvm.fw = none ∧ (stoS.taken (.ring 5)).flag Fld.playFlaconPolicyLock = false) ∧
    ((fwS 4).accepts (.ring 5) 0xA0 false = true ∧ ((fwS 4).taken (.ring 5)).nvm.fw = some ⟨1, 8, 1, 4⟩ ∧ (4 : Nat) + 4 ≤ 8 ∧
      ((fwS 4).taken (.ring 5)).writeRefusal = none ∧ ((fwS 8).taken (.ring 5)).nvm.fw = some ⟨1, 8, 1, 8⟩ ∧
      ((fwS 8).taken (.ring 5)).writeRefusal = none ∧ (fwS 8).accepts (.ring 5) 0xA0 false = true) ∧
    (let s := { stoS with nvm := { stoS.nvm with slotA := 3, slotB := 3 } }
     (s.taken (.ring 5)).fwState (s.taken (.ring 5)).idleSlot = 3) ∧
    ((Origin.ring 5) ≠ .bar0 ∧ stoS.accepts (.ring 5) 0x01 true = true ∧ stoS.accepts (.ring 5) 0x01 false = true ∧
      (stoS.taken (.ring 5)).barWrites 0 = [] ∧ stoS.accepts (.ring 5) 0x03 false = true) := by
  refine ⟨?_, ?_, ?_, ?_, ?_, ?_, ?_, ?_, ?_, ?_, ?_⟩ <;> decide +kernel

/-! ### Witnesses: register writes -/

theorem wit_RegisterWriteRows :
    writeRowOf (.ovfClear (wr 0x20 0x20)) = some (0x5800, sets 5, wr 0x20 0x20) ∧ (sets 5 (Wr.direct (wr 0x20 0x20)) = true ∧
      (regAt 0x5800).isSome = true ∧ badOffset 0x5800 = false ∧ upS.admits 0x5800 (wr 0x20 0x20) = true ∧ hubOwn 0x5800 = true) ∧
    ((regAt 0x0000).isSome = true ∧ upS.accepts (.ring 5) 0x02 false = true ∧
      (upS.taken (.ring 5)).judgeWrite 0x0000 (Wr.direct (wr 1 1)) ≠ .ok) ∧
    ((regAt (cellCfgOff 0)).isSome = true ∧ upS.admits (cellCfgOff 0) (wr 1 1) = true ∧ hubOwn (cellCfgOff 0) = false) ∧
    (let s := accS .isOpen id
     let w : Wr := ⟨.ring 5, 0x501F4, 0xFFFFFF, 5⟩
     (regAt 0x4010).isSome = true ∧ s.accepts w.origin 0x02 false = true ∧
     (s.taken w.origin).judgeWrite 0x4010 (Wr.direct w) = .ok ∧ (s.taken w.origin).hostAbsent 0x4010 = false ∧ (Wr.direct w).accord ≠ 0) ∧
    (let s := { accS .isOpen id with segs := upS.segs, links := upS.links }
     let w : Wr := ⟨.ring 5, 0x8, 0xF, 5⟩
     (regAt (cellCfgOff 0)).isSome = true ∧ s.accepts w.origin 0x02 false = true ∧
     (s.taken w.origin).judgeWrite (cellCfgOff 0) (Wr.direct w) = .ok ∧ (s.taken w.origin).hostAbsent (cellCfgOff 0) = false) ∧
    ({ hostS with pending := [.regRead .bar0 0x5808] } : State).meetsBar 0x5808 (wr 1 1) = true ∧
    ({ hostS with pending := [.regRead .bar0 0x5808] } : State).accepts (.ring 5) 0x02 false = true ∧
    (hostS.hostPowered = true ∧ badOffset 2 = true) ∧
    (let s := { rdy with regs := [(0x2008, 1 <<< Fld.timeCtrlStepEn.lo)] }
     s.admits 0x2004 (wr 1 0xFFFFFFFF) = true ∧ (s.wrote 0x2004 (wr 1 0xFFFFFFFF)).admits 0x2000 (wr 2 0xFFFFFFFF) = true) ∧
    ((wr 0 0xFFFFFFFE).mask.getLsbD 0 = false) := by
  refine ⟨rfl, ?_, ?_, ?_, ?_, ?_, ?_, ?_, ?_, ?_, ?_⟩ <;> decide +kernel

theorem wit_UnlimitedRegister : ∀ x : Word, stores 0x5808 x = x := by
  intro x
  rfl

theorem wit_RegisterEffects : (∀ n ∈ [0, 1, 2, 4, 5, 6], (0x77 : Word).getLsbD n = true ∧ (0 : Word).getLsbD n = false) ∧
    (rdy.spc.st = .disabled ∧ (0 : Word).getLsbD 0 = false ∧ (1 : Word).getLsbD 0 = true) ∧
    (fieldOf Fld.measShuntCfgExcluded (0x30 : Word) = 3 ∧ (1 : Word) ≠ 0) ∧
    upS.linkUp 0 = true ∧ rdy.flt.tickBest = none ∧
    (rdy.flag Fld.timeCtrlFollow = true ∧ rdy.flag Fld.hostCtrlEn = false ∧ rdy.chkLocked 0 = false) ∧
    (let s := pl upS (fun p => { p with st := .armed, staged := { p.staged with verified := true } })
     s.directSwap.isSome = true) ∧
    (({ rdy with regs := [(Fld.playFlaconPolicyLock.off, 0xFFFFFFFF)] } : State).flag Fld.playFlaconPolicyLock = true ∧
      rdy.flag Fld.playFlaconPolicyLock = false) := by
  refine ⟨?_, ?_, ?_, ?_, ?_, ?_, ?_⟩ <;> decide +kernel

theorem wit_StoredLimits : rdy.regs = [] ∧ fieldOf Fld.bistPeriodPeriodUs (99 : Word) < 100 ∧
    1000000 < fieldOf Fld.bistPeriodPeriodUs (1000001 : Word) ∧ (regAt 0x6008).isSome = true := by decide +kernel

theorem wit_CornerAndGuard : rdy.cellFlag 0 Fld.segCellCfgCornerOwn = false ∧
    ({ rdy with segs := rdy.segs.map (fun x => { x with win := [(0x8040, 8)] }) } : State).cellFlag 0 Fld.segCellCfgCornerOwn = true ∧
    (playS .play 0).hasActive = true ∧ rdy.hasActive = false := by
  refine ⟨?_, ?_, ?_, ?_⟩ <;> decide +kernel

/-! ### Witnesses: self-test and flash -/

/-- A slice that began at a time. -/
def sliS (n : Slice) (t : Nat) : State := { rdy with bist := { rdy.bist with running := some (n, t) } }

theorem wit_SelfTestAndFlash :
    (rdy.powered = true ∧ rdy.bist.running = none ∧ rdy.bist.queue = [] ∧ rdy.bist.rerunQueue = [] ∧ rdy.bist.relQueue = [] ∧
      rdy.bist.cmdOrigin = none ∧ rdy.periodicState = true ∧ rdy.flag Fld.bistCtrlPeriodicEn = true ∧
      rdy.bist.lastStart + 1000 * rdy.fld Fld.bistPeriodPeriodUs ≤ rdy.now) ∧
    (({ rdy with bist := { rdy.bist with abortedLast := some 63 } } : State).bist.abortedLast = some 63 ∧ rdy.canStartSlice 63 = true) ∧
    (let s := sliS 0 19999980000
     s.bist.running = some (0, 19999980000) ∧ s.preempted = false ∧ ({ s with pending := [.estopNLow 50] } : State).preempted = true ∧ slicePlanned 0 ≤ 18 ∧ s.now ≤ 19999980000 + 1000 * sliceMax 0 ∧
     19999980000 + 1000 * sliceMax 0 ≤ s.now ∧ 17 < slicePlanned 0) ∧
    (let s := sliS 0 19999979999
     19999979999 + 1000 * sliceMax 0 < s.now) ∧
    (let s (o : Option Origin) : State := { rdy with chk := rdy.chk.map (fun x => { x with st := .running, start := 0x10000000, length := 4, origin := o }) }
     ((s none).chk.get 3).st = .running ∧ (s none).chkUnderTest 3 = false ∧ 0x10000000 ≤ ((s none).chk.get 3).start ∧
     ((s none).chk.get 3).origin = none ∧ ((s (some (.ring 5))).chk.get 0).origin = some (.ring 5)) ∧
    (let p : Job := ⟨3, [.program 0 [1]], .record⟩
     let e : Job := ⟨3, [.eraseSector 0], .record⟩
     rdy.nvmTested = false ∧ ({ rdy with nvm := { rdy.nvm with jobs := [p, e] } } : State).nvm.jobs = p :: [e] ∧ FlashOp.isErase (.program 0 [1]) = false ∧
     FlashOp.isErase (.eraseSector 0) = true ∧ e.region ≠ 13) ∧
    (Sparse.wf erased [((0 : Nat), (1 : Byte))] = true ∧ (0xFFF : Nat) < 0 + 0x1000 ∧ (0xFFFF : Nat) < 0 + 0x10000) := by
  refine ⟨?_, ?_, ?_, ?_, ?_, ?_, ?_⟩ <;> decide +kernel

theorem wit_NoSliceToStart : rdy.nextSlice = rdy := by
  unfold State.nextSlice
  rw [if_neg (by decide), show rdy.bist.rerunQueue = [] from rfl, show rdy.bist.queue = [] from rfl,
    show rdy.bist.relQueue = [] from rfl]
  rfl

end Sys2Proof.Machine
end

section
/-!
PROOFS. Commutation of one cell path (chapter 02): what a report over a span link leaves alone, what a sequence that starts
does to its cell, one equation per event of a transition, and the obligations about them.
-/

namespace Sys2Proof.Machine

/-! ### Reports, causes and sequences that start -/

/-- A segment's report is sent over its link: no cell path notices. -/
@[simp] theorem State.segReport_cells (s : State) (g : Seg) (r : Report) : (s.segReport g r).cells = s.cells :=
  (State.segReport_touch (TouchM.refl 512 s) g r).same .cells rfl

@[simp] theorem CellPath.addCause_gates (c : CellPath) (code now : Nat) : (c.addCause code now).gates = c.gates := rfl

/-- A cause that is added is set. -/
theorem CellPath.hasCause_addCause (c : CellPath) {code : Nat} (now : Nat) (h : code - 1 < 12) :
    (c.addCause code now).hasCause code = true := by
  have hbit : (1 <<< (code - 1) : Nat).testBit (code - 1) = true := by
    rw [Nat.one_shiftLeft, Nat.testBit_two_pow_self]
  simp only [CellPath.hasCause, CellPath.addCause, BitVec.getLsbD_or, BitVec.natCast_eq_ofNat, BitVec.getLsbD_ofNat, hbit, h,
    decide_true, Bool.and_true, Bool.or_true]

section
variable (s : State) (k : Cell) (kind : SeqKind) (toIn : Bool) (target : PathState) (planned : Option Nat)
  (pairSlot : Nat) (late : Bool)

/-- The first step of a sequence that starts is in the cell's gates (R36, R37, R42, R46, R50). -/
@[simp] theorem State.startSeq_gates :
    ((s.startSeq k kind toIn target planned pairSlot late).cells.get k).gates =
      stepGates kind (s.classAt (segOf k)) toIn 1 (s.cells.get k).gates := by
  simp [State.startSeq]

@[simp] theorem State.startSeq_causes :
    ((s.startSeq k kind toIn target planned pairSlot late).cells.get k).causes = (s.cells.get k).causes := by
  simp [State.startSeq]

/-- The transition in progress after a sequence has started: its kind and target, step 1 commanded now. -/
theorem State.startSeq_tr :
    ∃ t, ((s.startSeq k kind toIn target planned pairSlot late).cells.get k).tr = some t ∧
      t.kind = kind ∧ t.target = target ∧ t.cmds = [s.now] := by
  simp [State.startSeq]

end

/-- Step 1 of the gate-failure sequence turns S1 off, whatever the class (R42). -/
theorem stepGates_gateFail_one (cls : Class) (toIn : Bool) (g : Gates) :
    stepGates .gateFail cls toIn 1 g = { g with s1p := false, s1n := false } := rfl

/-! ### A gate failure (R42) -/

/-- What a gate failure does to the cell paths: the cause GATE, then the sequence of R42. -/
theorem State.gateFailure_cells (s : State) (k : Cell) (step : Nat) :
    (s.gateFailure k step).cells =
      ((s.modCell k (fun c => c.addCause 4 s.now)).startSeq k .gateFail false .park none 0 false).cells :=
  State.segReport_cells _ _ _

theorem State.gateFailure_tr (s : State) (k : Cell) (step : Nat) :
    ∃ t, ((s.gateFailure k step).cells.get k).tr = some t ∧ t.kind = .gateFail ∧ t.target = .park ∧ t.cmds = [s.now] := by
  rw [State.gateFailure_cells]
  exact State.startSeq_tr _ k .gateFail false .park none 0 false

theorem State.gateFailure_hasCause (s : State) (k : Cell) (step : Nat) :
    ((s.gateFailure k step).cells.get k).hasCause 4 = true := by
  rw [State.gateFailure_cells, CellPath.hasCause, State.startSeq_causes, State.modCell_cells, Vec.get_modify_self]
  exact CellPath.hasCause_addCause _ s.now (by decide)

theorem State.gateFailure_gates (s : State) (k : Cell) (step : Nat) :
    ((s.gateFailure k step).cells.get k).gates = { (s.cells.get k).gates with s1p := false, s1n := false } := by
  rw [State.gateFailure_cells, State.startSeq_gates, stepGates_gateFail_one, State.modCell_cells, Vec.get_modify_self,
    CellPath.addCause_gates]

/-! ### COMMUTATION_STEP (R29, R36, R37, R42, R48) -/

/-- The gates that the next step of a transition asks for. -/
def Transition.nextGates (t : Transition) (g : Gates) : Gates :=
  if t.kind = .undo then undoGates t.cls t.undoLeft g else stepGates t.kind t.cls t.toIn (t.cmds.length + 1) g

/-- The transition once its next step has been commanded. -/
def Transition.commanded (t : Transition) (now : Nat) : Transition :=
  { t with cmds := t.cmds ++ [now], undoLeft := if t.kind = .undo then t.undoLeft - 1 else t.undoLeft }

/-- A step that is due is commanded where the interlock admits its gates; else the cell fails. -/
theorem exec_commutationStep_of_due {s : State} {k : Cell} {t : Transition} (htr : (s.cells.get k).tr = some t)
    (hdue : s.stepDue t = true) :
    exec (.commutationStep k) s =
      if interlock (t.nextGates (s.cells.get k).gates) = true then
        .next (s.modCell k (fun c => { c with
          gates := t.nextGates (s.cells.get k).gates, tr := some (t.commanded s.now) })).settle
      else .next (s.gateFailure k (t.cmds.length + 1)).settle := by
  change execCommutationStep k s = _
  simp only [execCommutationStep, htr, hdue, beq_iff_eq, if_true]
  rfl

/-- Settles O22: the interlock decides between the two branches of a step that is due; what a commanded step changes is
one cell path. -/
theorem commutationSteps : Obligations.CommutationSteps := by
  intro s k t htr hdue
  have hexec := exec_commutationStep_of_due htr hdue
  refine ⟨fun hrefused => ?_, fun hadmitted => ⟨_, hexec.trans (if_pos hadmitted), ?_, fun j hj => ?_, ?_⟩⟩
  · exact hexec.trans (if_neg (Bool.eq_false_iff.1 hrefused))
  · exact (State.modCell_touch (TouchM.refl 16 s) k _).touch [.cells]
  · exact Vec.get_modify_ne _ _ hj.symm
  · exact Vec.get_modify_self _ _ _

/-! ### STEP_CONFIRMED, STEP_UNCONFIRMED and NO_PATH (R41, R42) -/

/-- A confirmation that counts is noted; the last one completes the transition. Log 125: of the sequences of which a later
confirmation counts, none is too late. -/
theorem exec_stepConfirmed_of_counts {s : State} {k : Cell} {t : Transition} (htr : (s.cells.get k).tr = some t)
    (hopen : t.confs.length < answerable t)
    (hcounts : s.now ≤ t.cmds.getLastD 0 + confMax t ∨ lateCounts t.kind = true) :
    exec (.stepConfirmed k) s =
      if complete { t with confs := t.confs ++ [s.now] } = true then
        .next (s.completeTransition k { t with confs := t.confs ++ [s.now] }).settle
      else .next (s.modCell k (fun c => { c with tr := some { t with confs := t.confs ++ [s.now] } })).settle := by
  change execStepConfirmed k s = _
  simp only [execStepConfirmed, htr, if_pos (And.intro hopen hcounts)]
  rfl

/-- A step of a four-step, two-step or undone sequence that stays unconfirmed past its longest time is a gate failure. -/
theorem exec_stepUnconfirmed_of_late {s : State} {k : Cell} {t : Transition} (htr : (s.cells.get k).tr = some t)
    (hkind : t.kind = .four ∨ t.kind = .two ∨ t.kind = .undo) (hopen : t.confs.length < answerable t)
    (hlate : t.cmds.getLastD 0 + confMax t < s.now) :
    exec (.stepUnconfirmed k) s = .next (s.gateFailure k t.cmds.length).settle := by
  have hdue := And.intro hopen hlate
  change execStepUnconfirmed k s = _
  rcases hkind with h | h | h <;> simp only [execStepUnconfirmed, htr, h, if_pos hdue, State.done]

/-- NO_PATH of a gate-failure or clamp sequence whose S2 step stays unconfirmed: reported, and marked so that it is reported
once (`undoLeft` of such a sequence is that mark). -/
theorem exec_noPath_of_due {s : State} {k : Cell} {t : Transition} (htr : (s.cells.get k).tr = some t)
    (hkind : t.kind = .gateFail ∨ t.kind = .clamp) (hcmds : t.cmds.length = 2) (hconfs : t.confs = [])
    (hfirst : t.undoLeft = 0) (hlate : t.cmds.getLastD 0 + 150 ≤ s.now) :
    exec (.noPath k) s = .next ((s.modCell k (fun c => { c with tr := some { t with undoLeft := 1 } })).segReport
      (segOf k) (cellReport s.now .noPath k 0 0 0)).settle := by
  have hguard : ((t.kind == .gateFail || t.kind == .clamp) && t.cmds.length == 2 && t.confs.isEmpty && t.undoLeft == 0 &&
      decide (t.cmds.getLastD 0 + 150 ≤ s.now)) = true := by
    rcases hkind with h | h <;> simp only [h, hcmds, hconfs, hfirst, hlate] <;> rfl
  change execNoPath k s = _
  simp only [execNoPath, htr, if_pos hguard]
  rfl

/-- The end of a sequence: the cell is in its target with the switch of that state on (R32). -/
theorem CellPath.finish_eq (c : CellPath) (t : Transition) :
    (c.finish t).tr = none ∧ (c.finish t).st = t.target ∧
      (c.finish t).gates = if t.target = .isIn then s1on else s2on := by
  refine ⟨rfl, rfl, ?_⟩
  simp only [CellPath.finish, beq_iff_eq]

/-- Settles O23: one equation per event, the end of a sequence, and the start of the gate-failure sequence. -/
theorem stepOutcomes : Obligations.StepOutcomes := by
  refine ⟨?confirmed, ?unconfirmed, ?noPath, CellPath.finish_eq, ?failed⟩
  case confirmed =>
    intro s k t htr hopen hcounts
    have hexec := exec_stepConfirmed_of_counts htr hopen hcounts
    exact ⟨fun hlast => hexec.trans (if_pos hlast), fun hmore => hexec.trans (if_neg (Bool.eq_false_iff.1 hmore))⟩
  case unconfirmed =>
    intro s k t htr hkind hopen hlate
    exact exec_stepUnconfirmed_of_late htr hkind hopen hlate
  case noPath =>
    intro s k t htr hkind hcmds hconfs hfirst hlate
    exact exec_noPath_of_due htr hkind hcmds hconfs hfirst hlate
  case failed =>
    intro s k step
    obtain ⟨t, htr, hkind, htarget, hcmds⟩ := State.gateFailure_tr s k step
    exact ⟨t, htr, hkind, htarget, hcmds, State.gateFailure_hasCause s k step, State.gateFailure_gates s k step⟩

end Sys2Proof.Machine
end

section
/-!
PROOFS. Scheduled edges (chapters 02 and 03): a planned edge whose time has come is dropped for a protection event of the
same tick, or meets its cell after the holds have been reviewed.
-/

namespace Sys2Proof.Machine

/-- The state in which a cell's next planned edge has been taken from its plan. -/
def State.takeEdge (s : State) (k : Cell) (rest : List Planned) : State := s.modCell k (fun c => { c with plan := rest })

/-- What a planned edge does to its cell once the holds have been reviewed: the part of SCHEDULED_EDGE after the protection
events (`exec_scheduledEdge_of_free`). -/
def meetEdge (k : Cell) (p : Planned) (a : State) : Host.Outcome State Fault Refusal :=
  match (a.cells.get k).tr with
  | some t =>
    if t.kind == .four || t.kind == .two then (a.modCell k (fun c => { c with waiting := some p })).done else a.done
  | none =>
    match (a.cells.get k).st, p.toIn with
    | .isIn, true => (a.modSeg (segOf k) (fun x => { x with ignored := satAdd 255 x.ignored 1 })).done
    | .isIn, false => ((a.commutate k false .bypass (some p.tp) p.slot false).countSeg (segOf k) p.slot).done
    | .bypass, true =>
      if (a.cells.get k).held || (a.cells.get k).keepHold || (a.cells.get k).resume then a.done
      else ((a.commutate k true .isIn (some p.tp) p.slot false).countSeg (segOf k) p.slot).done
    | .bypass, false | .isOpen, _ | .park, _ | .keep, _ => a.done

section
variable {s : State} {k : Cell} {p : Planned} {rest : List Planned}

/-- A protection event of the edge's tick wins over it: the edge is dropped (R48). -/
theorem exec_scheduledEdge_of_protected (hplan : (s.cells.get k).plan = p :: rest) (hdue : p.tp ≤ s.now)
    (hprot : (s.takeEdge k rest).protectedNow k = true) :
    exec (.scheduledEdge k) s = .next (s.takeEdge k rest).settle := by
  have hdrop : (!(s.takeEdge k rest).inRun || (s.takeEdge k rest).protectedNow k) = true := by rw [hprot, Bool.or_true]
  change execScheduledEdge k s = _
  simp only [execScheduledEdge, hplan, if_neg (Nat.not_lt.2 hdue)]
  exact if_pos hdrop

/-- Without one, the edge meets its cell after a review of the cell's holds (R64). -/
theorem exec_scheduledEdge_of_free (hplan : (s.cells.get k).plan = p :: rest) (hdue : p.tp ≤ s.now)
    (hrun : s.inRun = true) (hprot : (s.takeEdge k rest).protectedNow k = false) :
    exec (.scheduledEdge k) s = meetEdge k p ((s.takeEdge k rest).reviewHolds k) := by
  have hrun' : (s.takeEdge k rest).inRun = true := hrun
  have hfree : ¬(!(s.takeEdge k rest).inRun || (s.takeEdge k rest).protectedNow k) = true := by
    rw [hrun', hprot]
    decide
  change execScheduledEdge k s = _
  simp only [execScheduledEdge, hplan, if_neg (Nat.not_lt.2 hdue)]
  exact if_neg hfree

end

section
variable {a : State} {k : Cell} {p : Planned}

/-- An IN cell's edge to BYPASS starts the commutation and counts in its slot (R32, R94). -/
theorem meetEdge_inToBypass (htr : (a.cells.get k).tr = none) (hst : (a.cells.get k).st = .isIn) (hto : p.toIn = false) :
    meetEdge k p a = .next ((a.commutate k false .bypass (some p.tp) p.slot false).countSeg (segOf k) p.slot).settle := by
  simp only [meetEdge, htr, hst, hto]
  rfl

/-- An IN cell's edge to IN is ignored and counted (R32). -/
theorem meetEdge_inToIn (htr : (a.cells.get k).tr = none) (hst : (a.cells.get k).st = .isIn) (hto : p.toIn = true) :
    meetEdge k p a = .next (a.modSeg (segOf k) (fun x => { x with ignored := Nat.min 255 (x.ignored + 1) })).settle := by
  simp only [meetEdge, htr, hst, hto]
  rfl

/-- The edge to IN of a BYPASS cell that nothing keeps out of circuit starts the commutation and counts in its slot. -/
theorem meetEdge_bypassToIn (htr : (a.cells.get k).tr = none) (hst : (a.cells.get k).st = .bypass) (hto : p.toIn = true)
    (hheld : (a.cells.get k).held = false) (hkeep : (a.cells.get k).keepHold = false)
    (hresume : (a.cells.get k).resume = false) :
    meetEdge k p a = .next ((a.commutate k true .isIn (some p.tp) p.slot false).countSeg (segOf k) p.slot).settle := by
  simp only [meetEdge, htr, hst, hto, hheld, hkeep, hresume]
  rfl

/-- An edge that meets a commutation waits for its end (R40). -/
theorem meetEdge_waits {t : Transition} (htr : (a.cells.get k).tr = some t) (hkind : t.kind = .four ∨ t.kind = .two) :
    meetEdge k p a = .next (a.modCell k (fun c => { c with waiting := some p })).settle := by
  have hcomm : (t.kind == .four || t.kind == .two) = true := by
    rcases hkind with h | h <;> rw [h] <;> rfl
  simp only [meetEdge, htr, if_pos hcomm]
  rfl

end

/-- Settles O21: the edge is dropped for a protection event; else what it meets after the review decides. -/
theorem scheduledEdges : Obligations.ScheduledEdges := by
  intro s k p rest hplan hdue hrun
  refine ⟨exec_scheduledEdge_of_protected hplan hdue, fun hprot htr => ⟨?toBypass, ?toSelf, ?toIn⟩, ?waits⟩
  case toBypass =>
    intro hst hto
    exact (exec_scheduledEdge_of_free hplan hdue hrun hprot).trans (meetEdge_inToBypass htr hst hto)
  case toSelf =>
    intro hst hto
    exact (exec_scheduledEdge_of_free hplan hdue hrun hprot).trans (meetEdge_inToIn htr hst hto)
  case toIn =>
    intro hst hto hheld hkeep hresume
    exact (exec_scheduledEdge_of_free hplan hdue hrun hprot).trans (meetEdge_bypassToIn htr hst hto hheld hkeep hresume)
  case waits =>
    intro t hprot htr hkind
    exact (exec_scheduledEdge_of_free hplan hdue hrun hprot).trans (meetEdge_waits htr hkind)

end Sys2Proof.Machine
end

section
/-!
PROOFS. The steps of a run (chapter 03): what leaves the player alone, how a step begins, RUN_START.
-/

namespace Sys2Proof.Machine

/-! ### What leaves the player alone -/

theorem each_play {α : Type} (l : List α) {f : State → α → State} (hf : ∀ s x, (f s x).play = s.play) (s : State) :
    (each l f s).play = s.play := by
  unfold each
  induction l generalizing s with
  | nil => rfl
  | cons a t ih => exact (ih (f s a)).trans (hf s a)

section
variable (s : State)

@[simp] theorem State.takeDone_play (m : Nat) (k : Cell) : (s.takeDone m k).play = s.play :=
  (State.takeDone_touch (TouchM.refl 144 s) m k).same .play rfl

@[simp] theorem State.advanceWalk_play (more : Bool) (k : Cell) : (s.advanceWalk more k).play = s.play :=
  (State.advanceWalk_touch (TouchM.refl 34152592 s) more k).same .play rfl

@[simp] theorem State.cutSweep_play (k : Cell) : (s.cutSweep k).play = s.play :=
  (State.cutSweep_touch (TouchM.refl 34152592 s) k).same .play rfl

@[simp] theorem State.endSweep_play : s.endSweep.play = s.play :=
  (State.endSweep_touch (TouchM.refl 34152448 s)).same .play rfl

@[simp] theorem State.evaluateAll_play (m z : Nat) (l : List (Cell × Bool)) : (s.evaluateAll m z l).play = s.play :=
  (State.evaluateAll_touch (TouchM.refl 34152576 s) m z l).same .play rfl

@[simp] theorem State.planAll_play (entry exit_ : Bool) : (s.planAll entry exit_).play = s.play :=
  (State.planAll_touch (TouchM.refl 2064 s) entry exit_).same .play rfl

@[simp] theorem State.endStep_play (t code : Nat) (incomplete : Bool) : (s.endStep t code incomplete).play = s.play :=
  (State.endStep_touch (TouchM.refl 35201168 s) t code incomplete).same .play rfl

/-- Plans touch neither the collector nor the sweep. -/
@[simp] theorem State.planAll_settled (entry exit_ : Bool) : (s.planAll entry exit_).settled = s.settled :=
  (State.planAll_touch (TouchM.refl 2064 s) entry exit_).settled

/-! ### Frames of the player (R72, R130) -/

/-- What handing a frame to the SPC may change in the player: the frame, the next SEQ, the target and the ratchet. -/
theorem State.sendTarget_play (target : Int) (zero : Bool) :
    ∃ pending seq tgt lowest, (s.sendTarget target zero).play =
      { s.play with pending := pending, seq := seq, target := tgt, lowest := lowest } := by
  unfold State.sendTarget
  split
  · exact ⟨_, _, _, _, rfl⟩
  · exact ⟨_, _, _, _, rfl⟩

@[simp] theorem State.sendTarget_st (target : Int) (zero : Bool) : (s.sendTarget target zero).play.st = s.play.st := by
  obtain ⟨_, _, _, _, h⟩ := s.sendTarget_play target zero
  rw [h]

@[simp] theorem State.sendTarget_cycleStart (target : Int) (zero : Bool) :
    (s.sendTarget target zero).play.cycleStart = s.play.cycleStart := by
  obtain ⟨_, _, _, _, h⟩ := s.sendTarget_play target zero
  rw [h]

theorem State.sendTarget_of_external (h : s.externalSource = true) (target : Int) (zero : Bool) :
    s.sendTarget target zero = s := if_pos h

/-- The target a state asks for, for the highest rung that its player has noted, is what waits for its answer. -/
theorem State.sendTarget_currentFor_pending (h : s.externalSource = false) :
    (s.sendTarget (s.currentFor s.play.h) false).play.pending = some ⟨s.play.seq,
      (s.sendTarget (s.currentFor s.play.h) false).currentFor (s.sendTarget (s.currentFor s.play.h) false).play.h, s.now,
      s.now + 1000 * (s.sendTarget (s.currentFor s.play.h) false).stepDeadlineUs, false⟩ := by
  unfold State.sendTarget
  rw [if_neg (Bool.eq_false_iff.1 h)]
  rfl

/-! ### A step begins (R70) -/

/-- The totals cleared, the player in HOLD of step i. -/
def State.enterStep (i : Nat) : State :=
  s.clearStep.modPlay (fun p => { p with
    st := .hold, step := i, stepReg := stepIdOf s.clearStep.active i, stepId := stepIdOf s.clearStep.active i,
    since := s.clearStep.now, recorded := false, endCode := 4, inExit := false, exitOver := false, lowest := none,
    answeredAt := none })

/-- The same with the holds of the step: DONE ends, the cells of mode OFF are held. -/
def State.holdForStep (i : Nat) : State :=
  each allCells (fun s k => if s.played k && s.modeOf k == 2 then
      s.beginHold k (fun c => { c with holdDone := true }) else s)
    (each allCells (fun s k => s.setHold k false (s.cells.get k).holdDone (fun b c => { c with holdDone := b }))
      (s.enterStep i))

/-- The highest START_RUNG noted in the player. -/
def State.noteStart : State := s.modPlay (fun p => { p with h := s.highestStart })

theorem State.noteStart_currentFor : s.noteStart.currentFor s.noteStart.play.h = s.currentFor s.highestStart := rfl

/-- A step begins with its holds; its frame is the last thing that it sends. -/
theorem State.beginStep_eq (i : Nat) :
    s.beginStep i = (s.holdForStep i).noteStart.sendTarget
      ((s.holdForStep i).noteStart.currentFor (s.holdForStep i).noteStart.play.h) false := by
  rw [State.noteStart_currentFor]
  rfl

theorem State.holdForStep_touch (i : Nat) : TouchM 16 (s.enterStep i) (s.holdForStep i) := by
  refine each_touch _ (each_touch _ (TouchM.refl _ _) fun t k h => State.setHold_touch h k _ _ _) fun t k h => ?_
  split
  · exact State.beginHold_touch h k _
  · exact h

theorem State.noteStart_holdForStep_touch (i : Nat) : TouchM 9360 s (s.holdForStep i).noteStart :=
  State.modPlay_touch ((State.modPlay_touch (State.clearStep_touch (TouchM.refl 9360 s)) _).then
    (s.holdForStep_touch i) rfl) _

theorem State.holdForStep_play (i : Nat) : (s.holdForStep i).play = (s.enterStep i).play :=
  (s.holdForStep_touch i).same .play rfl

/-- Where the player of a step that begins stands, before its frame. -/
theorem State.noteStart_holdForStep_play (i : Nat) :
    (s.holdForStep i).noteStart.play = { (s.enterStep i).play with h := (s.holdForStep i).highestStart } := by
  rw [← State.holdForStep_play]
  rfl

theorem State.noteStart_holdForStep_externalSource (i : Nat) :
    (s.holdForStep i).noteStart.externalSource = s.externalSource := by
  have hregs : (s.holdForStep i).noteStart.regs = s.regs := (s.noteStart_holdForStep_touch i).same .regs rfl
  simp only [State.externalSource, State.flag, State.fld, State.stored, hregs]

/-- A step begins in HOLD, in the cycle in progress. -/
theorem State.beginStep_place (i : Nat) :
    (s.beginStep i).play.st = .hold ∧ (s.beginStep i).play.step = i ∧
      (s.beginStep i).play.stepId = stepIdOf s.active i ∧ (s.beginStep i).play.cycleStart = s.play.cycleStart := by
  obtain ⟨_, _, _, _, hsent⟩ := (s.holdForStep i).noteStart.sendTarget_play
    ((s.holdForStep i).noteStart.currentFor (s.holdForStep i).noteStart.play.h) false
  rw [State.beginStep_eq, hsent, State.noteStart_holdForStep_play]
  exact ⟨rfl, rfl, rfl, rfl⟩

/-- The frame of a step that begins waits for its answer (R70, R72). -/
theorem State.beginStep_pending (i : Nat) (hint : s.externalSource = false) :
    (s.beginStep i).play.pending = some ⟨s.play.seq, (s.beginStep i).currentFor (s.beginStep i).play.h, s.now,
      s.now + 1000 * (s.beginStep i).stepDeadlineUs, false⟩ := by
  have hnow : (s.holdForStep i).noteStart.now = s.now := (s.noteStart_holdForStep_touch i).same .now rfl
  have hseq : (s.holdForStep i).noteStart.play.seq = s.play.seq := by
    rw [State.noteStart_holdForStep_play]
    rfl
  rw [State.beginStep_eq, State.sendTarget_currentFor_pending _
    ((s.noteStart_holdForStep_externalSource i).trans hint), hnow, hseq]

/-- With an external source the player sends no frame (R126). -/
theorem State.beginStep_pending_of_external (i : Nat) (hext : s.externalSource = true) :
    (s.beginStep i).play.pending = s.play.pending := by
  rw [State.beginStep_eq, State.sendTarget_of_external _ ((s.noteStart_holdForStep_externalSource i).trans hext),
    State.noteStart_holdForStep_play]
  rfl

end

/-- RUN_START at T_s begins step 0 in the run's first cycle (R93). -/
theorem exec_runStart_of_due {s : State} (hrun : s.glb.st = .run) (hwait : s.play.st = .wait) (hdue : s.play.ts ≤ s.now) :
    exec .runStart s = .next ((s.modPlay (fun p => { p with
      cycleStart := p.ts, cycles := 1, cycAbs := 0, cycN := 0 })).beginStep 0).settle := by
  have hguard : (s.inRun && s.play.st == .wait && decide (s.play.ts ≤ s.now)) = true := by
    simp only [State.inRun, State.st, hrun, hwait, hdue, beq_self_eq_true, decide_true, Bool.and_true]
  exact if_pos hguard

end Sys2Proof.Machine
end

section
/-!
PROOFS. Cycle boundaries (chapter 03): one equation per player state, and where a boundary inside the run of a step leads.
-/

namespace Sys2Proof.Machine

/-! ### CYCLE_BOUNDARY (R68, R71, R73, R93) -/

/-- A cycle boundary counts the cycle that ends. -/
def State.countCycle (s : State) : State := s.modPlay (fun p => { p with cycles := (p.cycles + 1) % 2 ^ 32 })

/-- And the next cycle begins one period on. -/
def State.nextCycle (s : State) : State := s.countCycle.modPlay (fun p => { p with cycleStart := p.cycleStart + s.tCyc })

/-- The exit cycle of a step is over: its records leave (R190). -/
def State.endExit (s : State) : State := s.closeStep.modPlay (fun p => { p with exitOver := true, inExit := false })

theorem State.clearStep_pending (s : State) : s.clearStep.play.pending = s.play.pending := rfl

theorem State.clearStep_step (s : State) : s.clearStep.play.step = s.play.step := rfl

theorem State.closeStep_pending (s : State) : s.closeStep.play.pending = s.play.pending := by
  unfold State.closeStep
  split
  · rfl
  · rw [State.clearStep_pending, State.endStep_play]

theorem State.closeStep_step (s : State) : s.closeStep.play.step = s.play.step := by
  unfold State.closeStep
  split
  · rfl
  · rw [State.clearStep_step, State.endStep_play]

section
variable {s : State} (hcyc : s.cycling = true) (hdue : s.play.cycleStart + s.tCyc ≤ s.now)
include hcyc hdue

theorem cycleBoundary_guard : ¬(!s.cycling || decide (s.now < s.play.cycleStart + s.tCyc)) = true := by
  rw [hcyc, decide_eq_false (Nat.not_lt.2 hdue)]
  decide

/-- In HOLD the entry cycle begins 20 µs after the answer, once no frame is pending (R71). -/
theorem exec_cycleBoundary_hold (hst : s.play.st = .hold) :
    exec .cycleBoundary s =
      if (s.play.answeredAt.any (fun t => decide (t + 20000 ≤ s.play.cycleStart + s.tCyc)) && s.play.pending.isNone) = true
      then .next s.nextCycle.entryCycle.settle else .next s.nextCycle.settle := by
  refine (if_neg (cycleBoundary_guard hcyc hdue)).trans ?_
  simp only [State.modPlay_play, hst]
  cases s.play.answeredAt <;> rfl

theorem exec_cycleBoundary_play (hst : s.play.st = .play) :
    exec .cycleBoundary s = .next (s.countCycle.playBoundary s.play.cycles).settle := by
  refine (if_neg (cycleBoundary_guard hcyc hdue)).trans ?_
  simp only [State.modPlay_play, hst]
  rfl

/-- After the exit cycle the next step begins, unless a frame is pending. -/
theorem exec_cycleBoundary_exit (hst : s.play.st = .exit) :
    exec .cycleBoundary s =
      if s.play.pending.isNone = true then .next (s.nextCycle.endExit.beginStep (s.play.step + 1)).settle
      else .next s.nextCycle.endExit.settle := by
  have hpending : s.nextCycle.endExit.play.pending = s.play.pending := s.nextCycle.closeStep_pending
  have hstep : s.nextCycle.endExit.stepNo = s.play.step := s.nextCycle.closeStep_step
  rw [← hpending, ← hstep]
  refine (if_neg (cycleBoundary_guard hcyc hdue)).trans ?_
  simp only [State.modPlay_play, hst]
  rfl

/-- STOPPING plays one exit cycle, and nothing after it. -/
theorem exec_cycleBoundary_stopping (hst : s.play.st = .stopping)
    (hin : s.play.exitOver = true ∨ s.play.inExit = false) :
    exec .cycleBoundary s =
      if s.play.exitOver = true then .next s.nextCycle.settle
      else .next ((s.nextCycle.modPlay (fun p => { p with inExit := true })).planAll false true).settle := by
  refine (if_neg (cycleBoundary_guard hcyc hdue)).trans ?_
  simp only [State.modPlay_play, hst]
  split
  · rfl
  · next hover => rw [if_neg (Bool.eq_false_iff.1 (hin.resolve_left hover))]; rfl

end

/-! ### A boundary inside the run of a step (R73) -/

section
variable (s : State) (m : Nat)

/-- The step's time counted, the holds DONE of cycle m taken: the state in which the end of the step is judged. -/
def State.takeHolds : State := each allCells (fun x k => x.takeDone m k) s.countTime

@[simp] theorem State.takeHolds_play : (s.takeHolds m).play = s.countTime.play :=
  each_play _ (fun t k => t.takeDone_play m k) _

theorem State.countTime_st : s.countTime.play.st = s.play.st := rfl
theorem State.countTime_step : s.countTime.play.step = s.play.step := rfl
theorem State.countTime_cycleStart : s.countTime.play.cycleStart = s.play.cycleStart := rfl
theorem State.countTime_active : s.countTime.play.active = s.play.active := rfl

theorem State.beginStopping_st (code : Nat) (inExit : Bool) : (s.beginStopping code inExit).play.st = .stopping := by
  simp only [State.beginStopping, State.sendTarget_st, State.modPlay_play]

theorem State.beginStopping_cycleStart (code : Nat) (inExit : Bool) :
    (s.beginStopping code inExit).play.cycleStart = s.play.cycleStart := by
  simp only [State.beginStopping, State.sendTarget_cycleStart, State.modPlay_play, State.endSweep_play,
    each_play _ (fun t k => State.cutSweep_play t k)]

end

/-- Where the step goes on: the next cycle begins, walks advance, cells are evaluated and take their next rungs. -/
def State.playOn (s : State) (m : Nat) : State :=
  let l := s.walkers
  let s := s.modPlay (fun p => { p with cycleStart := p.cycleStart + s.tCyc })
  let s := (each allCells (fun s k => s.advanceWalk true k) s).endSweep
  let s := s.evaluateAll m s.play.cycleStart l
  s.putCells (s.cells.map (fun c => if c.walk.isSome then c else { c with rung := c.nextRung }))

/-- The highest rung is noted, and a new target asked for where it differs and no frame is pending (R69). -/
def State.askHighest (s : State) : State :=
  let h := s.highestRung
  let s := s.modPlay (fun p => { p with h := h })
  let t := s.requiredTarget h
  if t ≠ s.play.target ∧ s.play.pending.isNone then s.sendTarget t false else s

/-- Where the step ends: the next cycle begins, walks end, cells are evaluated. -/
def State.playOut (s : State) (m code : Nat) : State :=
  let l := s.walkers
  let s := s.modPlay (fun p => { p with cycleStart := p.cycleStart + s.tCyc, endCode := code })
  let s := each allCells (fun s k => (s.advanceWalk false k).cutSweep k) s
  s.endSweep.evaluateAll m s.play.cycleStart l

/-- The exit cycle of a step that another follows, or of the run. -/
def State.enterExit (s : State) (code : Nat) : State :=
  if s.stepNo + 1 < imgSteps s.active then s.modPlay (fun p => { p with st := .exit, inExit := true, exitOver := false })
  else s.beginStopping code true

/-- A boundary inside the run of a step, from the judgement of its end on (`playBoundary_eq`). -/
def State.judgeStep (s : State) (m : Nat) : State :=
  if s.stepEndTest = 0 then (s.playOn m).askHighest.planAll false false
  else ((s.playOut m s.stepEndTest).enterExit s.stepEndTest).planAll false true

section
variable (s : State) (m : Nat)

theorem State.playBoundary_eq : s.playBoundary m = (s.takeHolds m).judgeStep m := by
  unfold State.playBoundary State.judgeStep State.takeHolds
  dsimp only
  generalize each allCells (fun x k => x.takeDone m k) s.countTime = u
  generalize u.stepEndTest = code
  cases code with
  | zero => rfl
  | succ n => rfl

theorem State.playOn_play : (s.playOn m).play = { s.play with cycleStart := s.play.cycleStart + s.tCyc } := by
  simp only [State.playOn, State.putCells_play, State.evaluateAll_play, State.endSweep_play, State.modPlay_play,
    each_play _ (fun t k => State.advanceWalk_play t true k)]

theorem State.askHighest_st : s.askHighest.play.st = s.play.st := by
  unfold State.askHighest
  dsimp only
  split
  · exact State.sendTarget_st _ _ _
  · rfl

theorem State.askHighest_cycleStart : s.askHighest.play.cycleStart = s.play.cycleStart := by
  unfold State.askHighest
  dsimp only
  split
  · exact State.sendTarget_cycleStart _ _ _
  · rfl

theorem State.playOut_play (code : Nat) :
    (s.playOut m code).play = { s.play with cycleStart := s.play.cycleStart + s.tCyc, endCode := code } := by
  simp only [State.playOut, State.evaluateAll_play, State.endSweep_play, State.modPlay_play,
    each_play _ (fun t k => (State.cutSweep_play (State.advanceWalk t false k) k).trans (State.advanceWalk_play t false k))]

theorem State.enterExit_cycleStart (code : Nat) : (s.enterExit code).play.cycleStart = s.play.cycleStart := by
  unfold State.enterExit
  split
  · rfl
  · exact State.beginStopping_cycleStart _ _ _

theorem State.enterExit_st (code : Nat) :
    (s.enterExit code).play.st = if s.stepNo + 1 < imgSteps s.active then .exit else .stopping := by
  unfold State.enterExit
  split
  · rfl
  · exact State.beginStopping_st _ _ _

theorem State.judgeStep_cycleStart : (s.judgeStep m).play.cycleStart = s.play.cycleStart + s.tCyc := by
  unfold State.judgeStep
  split
  · rw [State.planAll_play, State.askHighest_cycleStart, State.playOn_play]
  · rw [State.planAll_play, State.enterExit_cycleStart, State.playOut_play]

theorem State.judgeStep_st : (s.judgeStep m).play.st =
    if s.stepEndTest = 0 then s.play.st else if s.play.step + 1 < imgSteps s.active then .exit else .stopping := by
  unfold State.judgeStep
  split
  · rw [State.planAll_play, State.askHighest_st, State.playOn_play]
  · have hactive : (s.playOut m s.stepEndTest).active = s.active := by simp only [State.active, State.playOut_play]
    have hstep : (s.playOut m s.stepEndTest).stepNo = s.play.step := by simp only [State.stepNo, State.playOut_play]
    rw [State.planAll_play, State.enterExit_st, hactive, hstep]

theorem State.playBoundary_cycleStart : (s.playBoundary m).play.cycleStart = s.play.cycleStart + s.tCyc := by
  rw [State.playBoundary_eq, State.judgeStep_cycleStart]
  simp only [State.tCyc, State.active, State.takeHolds_play, State.countTime_cycleStart, State.countTime_active]

theorem State.playBoundary_st : (s.playBoundary m).play.st =
    if (s.takeHolds m).stepEndTest = 0 then s.play.st
    else if s.play.step + 1 < imgSteps s.active then .exit else .stopping := by
  have hactive : (s.takeHolds m).active = s.active := by
    simp only [State.active, State.takeHolds_play, State.countTime_active]
  rw [State.playBoundary_eq, State.judgeStep_st, hactive, State.takeHolds_play, State.countTime_st, State.countTime_step]

end

end Sys2Proof.Machine
end

section
/-!
PROOFS. The start of a sweep (chapters 03 and 06): each named cell in its turn; and the obligation about the run.
-/

namespace Sys2Proof.Machine

/-! ### SWEEP_START (R197, R198, R249) -/

theorem each_cells_get_of_not_mem {l : List Cell} {k : Cell} {f : State → Cell → State}
    (hf : ∀ s x, x ≠ k → (f s x).cells.get k = s.cells.get k) (hk : k ∉ l) (s : State) :
    (each l f s).cells.get k = s.cells.get k := by
  unfold each
  induction l generalizing s with
  | nil => rfl
  | cons x t ih =>
    exact (ih (List.not_mem_of_not_mem_cons hk) (f s x)).trans (hf s x (Ne.symm (List.ne_of_not_mem_cons hk)))

/-- Of a list that names a cell once: what the other cells' turns keep, and what the cell's own turn makes of it. -/
theorem each_of_mem {l : List Cell} {k : Cell} {f : State → Cell → State} {P Q : State → Prop}
    (hP : ∀ s x, x ≠ k → P s → P (f s x)) (hturn : ∀ s, P s → Q (f s k)) (hQ : ∀ s x, x ≠ k → Q s → Q (f s x))
    (hnodup : l.Nodup) (hk : k ∈ l) {s : State} (hs : P s) : Q (each l f s) := by
  unfold each
  induction l generalizing s with
  | nil => exact absurd hk List.not_mem_nil
  | cons x t ih =>
    obtain ⟨hx, ht⟩ := List.nodup_cons.1 hnodup
    by_cases hxk : x = k
    · subst hxk
      have hrest (u : State) (hu : Q u) : Q (t.foldl f u) :=
        List.foldlRecOn t f hu fun v hv y hy => hQ v y (fun e => hx (e ▸ hy)) hv
      exact hrest _ (hturn s hs)
    · exact ih ht ((List.mem_cons.1 hk).resolve_left (Ne.symm hxk)) (hP s x hxk hs)

theorem allCells_nodup : allCells.Nodup := List.nodup_finRange 256

section
variable (s : State)

/-! A record changes nothing of the sweep that is asked for. -/

theorem State.modSlot_sweepPlan (i : Nat) (f : Slot → Slot) :
    (s.modSlot i f).results.sweepPlan = s.results.sweepPlan := rfl

theorem State.deliverSlot_sweepPlan (i : Nat) : (s.deliverSlot i).results.sweepPlan = s.results.sweepPlan := by
  unfold State.deliverSlot
  split
  · rfl
  · split
    · split
      · rfl
      · split
        · rfl
        · next t hplaced =>
          have hresults : t.results = s.results :=
            (State.placeEntry_touchEq hplaced (TouchM.refl 34078720 s)).same .results rfl
          dsimp only
          split
          · rw [(State.sweepPlaced_touch (TouchM.refl 34144256 _) _ _).same .results rfl, State.modSlot_sweepPlan, hresults]
          · rw [State.modSlot_sweepPlan, hresults]
    · rw [State.modSlot_sweepPlan, (State.toHead_touch (TouchM.refl 33619968 s) _ _ _ _).same .results rfl]

theorem State.putRecord_sweepPlan (kind : Nat) (flags : BitVec 8) (cell dist time sweepId : Nat) (payload : List Byte) :
    (s.putRecord kind flags cell dist time sweepId payload).results.sweepPlan = s.results.sweepPlan := by
  unfold State.putRecord
  dsimp only
  generalize (decide (s.dropLevel kind ≤ s.unretired) || _) = full
  cases full with
  | true => rfl
  | false => exact State.deliverSlot_sweepPlan _ _

theorem State.sweepRecord_sweepPlan (k : Cell) (w : WalkState) (a : SweepAcc) (periods : Nat) (incomplete : Bool) :
    (s.sweepRecord k w a periods incomplete).results.sweepPlan = s.results.sweepPlan :=
  State.putRecord_sweepPlan _ _ _ _ _ _ _ _

/-- SWEEP_START: a sweep plays, with the limits of its records. -/
def State.armSweep : State :=
  s.modRes (fun r => { r with
    sweepOn := true, sweepRecords := 0, sweepExcl := s.fld Fld.anaSweepzCfgExclPermil
    sweepAmpl := 10000 * s.fld Fld.anaSweepzCfgMinAmpl })

/-- The CMD message that names a cell has reached its segment (R249). -/
def State.told (k : Cell) : Bool := (s.segs.get (segOf k)).sweepCells.getLsbD (localOf k)

/-- A named cell begins the walk of the sweep's first frequency, or gets a record without a period. -/
def State.joinSweep (told : Cell → Bool) (k : Cell) : State :=
  if s.play.st == .play && s.inUse k && told k then
    (s.startWalk k 0 (s.cells.get k).rung).putCells ((s.startWalk k 0 (s.cells.get k).rung).cells.modify k
      (fun c => (s.startWalk k 0 (s.cells.get k).rung).planCell false false k c))
  else
    s.sweepRecord k ⟨s.freqWalk s.results.sweepPlan 0, 0, 0, 0, (s.cells.get k).rung⟩
      (SweepAcc.start s.now (s.meas.get k).distCount) 0 true

/-- Every named cell in turn. -/
def State.joinAll : State :=
  each (allCells.filter (fun k => inSet s.results.sweepCells k)) (fun u k => u.joinSweep s.told k) s.armSweep

theorem exec_sweepStart_of_due {t : Nat} (hat : s.results.sweepAt = some t) (hoff : s.results.sweepOn = false)
    (hwait : s.play.st ≠ .wait) (hcyc : s.cycling = true) (hstart : t ≤ s.play.cycleStart)
    (hslot : s.now < s.play.cycleStart + 1000) :
    exec .sweepStart s = .next s.joinAll.endSweep.settle := by
  have hguard : (s.results.sweepOn || s.play.st == .wait || !s.cycling || decide (s.play.cycleStart < t) ||
      decide (s.play.cycleStart + 1000 ≤ s.now)) = false := by
    rw [hoff, beq_eq_false_iff_ne.2 hwait, hcyc, decide_eq_false (Nat.not_lt.2 hstart),
      decide_eq_false (Nat.not_le.2 hslot)]
    rfl
  change execSweepStart s = _
  simp only [execSweepStart, hat]
  exact if_neg (Bool.eq_false_iff.1 hguard)

theorem State.planCell_walk (entry exit_ : Bool) (k : Cell) (c : CellPath) :
    (s.planCell entry exit_ k c).walk = c.walk := by
  unfold State.planCell
  split
  · rfl
  · split
    · rfl
    · split <;> rfl

variable (told : Cell → Bool) (k : Cell)

theorem State.joinSweep_touch {s₀ : State} (h : TouchM 34152592 s₀ s) : TouchM 34152592 s₀ (s.joinSweep told k) := by
  unfold State.joinSweep
  split
  · exact State.putCells_touch (State.startWalk_touch h k 0 _) _
  · exact State.sweepRecord_touch h k _ _ _ _

theorem State.joinSweep_play : (s.joinSweep told k).play = s.play :=
  (s.joinSweep_touch told k (TouchM.refl _ s)).same .play rfl

theorem State.joinSweep_sweepPlan : (s.joinSweep told k).results.sweepPlan = s.results.sweepPlan := by
  unfold State.joinSweep
  split
  · rfl
  · exact State.sweepRecord_sweepPlan _ _ _ _ _ _

theorem State.startWalk_cells (freq base : Nat) :
    (s.startWalk k freq base).cells = s.cells.modify k (fun c => { c with
      walk := some ⟨s.freqWalk s.results.sweepPlan freq, freq, 0, 0, base⟩
      rung := s.walkRung k ⟨s.freqWalk s.results.sweepPlan freq, freq, 0, 0, base⟩ }) := rfl

/-- A cell's turn changes no other cell. -/
theorem State.joinSweep_cells_ne {j : Cell} (hne : k ≠ j) : (s.joinSweep told k).cells.get j = s.cells.get j := by
  unfold State.joinSweep
  split
  · rw [State.putCells_cells, Vec.get_modify_ne _ _ hne, State.startWalk_cells, Vec.get_modify_ne _ _ hne]
  · rw [(State.sweepRecord_touch (TouchM.refl 34152448 s) k _ _ _ _).same .cells rfl]

/-- A cell in use whose segment has been told begins its walk at its own rung. -/
theorem State.joinSweep_walk (hplay : s.play.st = .play) (huse : s.inUse k = true) (htold : told k = true) :
    ((s.joinSweep told k).cells.get k).walk =
      some ⟨s.freqWalk s.results.sweepPlan 0, 0, 0, 0, (s.cells.get k).rung⟩ := by
  have hjoins : (s.play.st == .play && s.inUse k && told k) = true := by rw [hplay, huse, htold]; rfl
  rw [State.joinSweep, if_pos hjoins, State.putCells_cells, Vec.get_modify_self, State.planCell_walk,
    State.startWalk_cells, Vec.get_modify_self]

end

/-- A named cell's turn has not come: the player, the plan asked for and the cell's path are as they were. -/
structure Unjoined (s : State) (k : Cell) (t : State) : Prop where
  play : t.play = s.play
  plan : t.results.sweepPlan = s.results.sweepPlan
  path : t.cells.get k = s.cells.get k

section
variable {s t : State} {k : Cell}

theorem Unjoined.inUse (h : Unjoined s k t) : t.inUse k = s.inUse k := by
  simp only [State.inUse, State.played, State.modeOf, State.stepNo, State.ladderOf, State.active, h.play, h.path]

theorem Unjoined.freqWalk (h : Unjoined s k t) (p i : Nat) : t.freqWalk p i = s.freqWalk p i := by
  simp only [State.freqWalk, State.planBase, State.anaOff, State.active, h.play]

/-- Another cell's turn leaves it so. -/
theorem Unjoined.joinSweep (h : Unjoined s k t) (told : Cell → Bool) {j : Cell} (hne : j ≠ k) :
    Unjoined s k (t.joinSweep told j) where
  play := (t.joinSweep_play told j).trans h.play
  plan := (t.joinSweep_sweepPlan told j).trans h.plan
  path := (t.joinSweep_cells_ne told j hne).trans h.path

end

section
variable (s : State) {k : Cell}

theorem State.joinAll_touch : TouchM 34152592 s s.joinAll :=
  each_touch _ (State.modRes_touch (TouchM.refl _ s) _) fun t j h => t.joinSweep_touch s.told j h

/-- A named cell in use whose segment has been told walks. -/
theorem State.joinAll_walk (hnamed : inSet s.results.sweepCells k = true) (hplay : s.play.st = .play)
    (huse : s.inUse k = true) (htold : s.told k = true) :
    (s.joinAll.cells.get k).walk = some ⟨s.freqWalk s.results.sweepPlan 0, 0, 0, 0, (s.cells.get k).rung⟩ := by
  refine each_of_mem (P := Unjoined s k)
    (Q := fun t => (t.cells.get k).walk = some ⟨s.freqWalk s.results.sweepPlan 0, 0, 0, 0, (s.cells.get k).rung⟩)
    ?others ?turn ?after (allCells_nodup.filter _) (List.mem_filter.2 ⟨List.mem_finRange k, hnamed⟩) ⟨rfl, rfl, rfl⟩
  case others => exact fun t j hne h => h.joinSweep s.told hne
  case turn =>
    intro t h
    rw [t.joinSweep_walk s.told k ((congrArg Player.st h.play).trans hplay) (h.inUse.trans huse) htold, h.freqWalk, h.plan,
      h.path]
  case after =>
    intro t j hne h
    rw [t.joinSweep_cells_ne s.told j hne]
    exact h

/-- A cell that is not named stays as it is. -/
theorem State.joinAll_unnamed (hnot : inSet s.results.sweepCells k = false) : s.joinAll.cells.get k = s.cells.get k :=
  each_cells_get_of_not_mem (fun t j hne => t.joinSweep_cells_ne s.told j hne)
    (fun hmem => Bool.eq_false_iff.1 hnot (List.mem_filter.1 hmem).2) _

@[simp] theorem State.endSweep_cells : s.endSweep.cells = s.cells :=
  (State.endSweep_touch (TouchM.refl 34152448 s)).same .cells rfl

end

/-! ### The obligation -/

/-- Settles O40: one equation per event and player state, and where the player stands after it. -/
theorem theRun : Obligations.TheRun := by
  refine ⟨fun s => exec_runStart_of_due, fun s i => ?step, fun s hcyc hdue => ?boundary,
    fun s t hat hoff hwait hcyc hstart hslot => ?sweep⟩
  case step =>
    obtain ⟨hst, hstep, hid, hstart⟩ := s.beginStep_place i
    exact ⟨hst, hstep, hid, hstart, s.beginStep_pending i, s.beginStep_pending_of_external i⟩
  case boundary =>
    have hstays : s.settled = true → s.nextCycle.settle = s.nextCycle := fun h => State.settle_eq h
    refine ⟨fun t hst hnone hans => ⟨fun hlate => ?entry, fun hsoon hset => ?early⟩, fun hst hpend hset => ?waits,
      fun hst => ⟨_, exec_cycleBoundary_play hcyc hdue hst, s.countCycle.playBoundary_cycleStart _, ?goesOn, ?exits, ?ends⟩,
      fun hst hnone => ?nextStep, fun hst hpend => ?exited, fun hst hexited hin hset => ?lastExit,
      fun hst hexited hset => ?stopped⟩
    case entry =>
      exact (exec_cycleBoundary_hold hcyc hdue hst).trans (if_pos (by simp [hans, hnone, hlate]))
    case early =>
      refine (exec_cycleBoundary_hold hcyc hdue hst).trans ((if_neg ?_).trans (congrArg _ (hstays hset)))
      simp [hans, hsoon]
    case waits =>
      refine (exec_cycleBoundary_hold hcyc hdue hst).trans ((if_neg ?_).trans (congrArg _ (hstays hset)))
      simp [hpend]
    case goesOn =>
      exact fun h0 => (s.countCycle.playBoundary_st _).trans ((if_pos h0).trans hst)
    case exits =>
      exact fun h0 hmore => (s.countCycle.playBoundary_st _).trans ((if_neg h0).trans (if_pos hmore))
    case ends =>
      exact fun h0 hlast => (s.countCycle.playBoundary_st _).trans ((if_neg h0).trans (if_neg (Nat.not_lt.2 hlast)))
    case nextStep =>
      exact (exec_cycleBoundary_exit hcyc hdue hst).trans (if_pos (Option.isNone_iff_eq_none.2 hnone))
    case exited =>
      exact (exec_cycleBoundary_exit hcyc hdue hst).trans (if_neg fun h => hpend (Option.isNone_iff_eq_none.1 h))
    case lastExit =>
      refine (exec_cycleBoundary_stopping hcyc hdue hst (.inr hin)).trans ((if_neg (Bool.eq_false_iff.1 hexited)).trans ?_)
      exact congrArg _ (State.settle_eq ((State.planAll_settled _ _ _).trans hset))
    case stopped =>
      refine (exec_cycleBoundary_stopping hcyc hdue hst (.inl hexited)).trans ((if_pos hexited).trans ?_)
      exact congrArg _ (hstays hset)
  case sweep =>
    refine ⟨_, exec_sweepStart_of_due s hat hoff hwait hcyc hstart hslot,
      (State.endSweep_touch s.joinAll_touch).touch [.cells, .ana, .results, .loop, .host, .out], ?named, ?unnamed⟩
    case named =>
      intro k hnamed hplay huse htold
      rw [State.endSweep_cells]
      exact s.joinAll_walk hnamed hplay huse htold
    case unnamed =>
      intro k hnot
      rw [State.endSweep_cells]
      exact s.joinAll_unnamed hnot

end Sys2Proof.Machine
end

section
/-!
PROOFS. What a register stores of a written value (chapter 16): a field limited to a range, the fields beside it, and the
registers of a hub block.
-/

namespace Sys2Proof.Machine

/-! ### A field limited to a range -/

theorem fieldOf_lt (f : Field) (w : Word) : fieldOf f w < 2 ^ f.width := Nat.mod_lt _ (Nat.two_pow_pos _)

/-- The nearest end of the range, or the value where it lies in it. -/
theorem max_min_eq_ite {lo hi n : Nat} (h : lo ≤ hi) :
    Nat.max lo (Nat.min hi n) = if n < lo then lo else if hi < n then hi else n := by
  change max lo (min hi n) = _
  split
  · omega
  · split <;> omega

/-- What a field limited to a range stores. -/
theorem fieldOf_limit {f : Field} {lo hi : Nat} (w : Word) (hf : f.lo + f.width ≤ 32) (hlo : lo ≤ hi)
    (hhi : hi < 2 ^ f.width) :
    fieldOf f (limit f lo hi w) =
      if fieldOf f w < lo then lo else if hi < fieldOf f w then hi else fieldOf f w := by
  rw [limit, fieldOf_withField f _ _ hf, max_min_eq_ite hlo, Nat.mod_eq_of_lt]
  split
  · exact lt_of_le_of_lt hlo hhi
  · split
    · exact hhi
    · exact fieldOf_lt f w

/-- A range that ends with the field has no value above it. -/
theorem fieldOf_limit_below {f : Field} {lo hi : Nat} (w : Word) (hf : f.lo + f.width ≤ 32) (hlo : lo ≤ hi)
    (hhi : hi + 1 = 2 ^ f.width) :
    fieldOf f (limit f lo hi w) = if fieldOf f w < lo then lo else fieldOf f w := by
  have hmax : ¬hi < fieldOf f w := by
    have := fieldOf_lt f w
    omega
  rw [fieldOf_limit w hf hlo (by omega), if_neg hmax]

/-! ### The fields below one that is written -/

/-- The bits below a field that is written keep their value. -/
theorem withField_mod (f : Field) (w : Word) (v : Nat) (hf : f.lo ≤ 32) :
    (withField f w v).toNat % 2 ^ f.lo = w.toNat % 2 ^ f.lo := by
  have hle : fieldOf f w * 2 ^ f.lo ≤ w.toNat :=
    (Nat.mul_le_mul_right _ (Nat.mod_le _ _)).trans (Nat.div_mul_le_self _ _)
  rw [withField, BitVec.toNat_ofNat, Nat.mod_mod_of_dvd _ (Nat.pow_dvd_pow 2 hf), Nat.add_mul_mod_self_right]
  conv_rhs => rw [← Nat.sub_add_cancel hle, Nat.add_mul_mod_self_right]

/-- A field is read off the bits below its end. -/
theorem fieldOf_congr {f : Field} {w x : Word} {n : Nat} (hn : f.lo + f.width ≤ n)
    (h : w.toNat % 2 ^ n = x.toNat % 2 ^ n) : fieldOf f w = fieldOf f x := by
  have hread (y : Word) : fieldOf f y = y.toNat % 2 ^ n % 2 ^ (f.lo + f.width) / 2 ^ f.lo := by
    rw [Nat.mod_mod_of_dvd _ (Nat.pow_dvd_pow 2 hn), Nat.pow_add, Nat.mod_mul_right_div_self, fieldOf]
  rw [hread, hread, h]

theorem fieldOf_withField_above {e f : Field} (w : Word) (v : Nat) (he : e.lo + e.width ≤ f.lo) (hf : f.lo ≤ 32) :
    fieldOf e (withField f w v) = fieldOf e w := fieldOf_congr he (withField_mod f w v hf)

/-! ### Registers of the hub -/

/-- A hub register other than FLT_REACTION and CHK_ALGO stores what its own limits leave. -/
theorem stores_hub {off : Nat} (w : Word) (hseg : off < 0x8000) (hflt : off < 0x5900 ∨ 0x5D00 ≤ off)
    (hchk : off < 0x6800) : stores off w = hubStored off w := by
  rw [stores, if_neg (by omega), if_neg (by omega), if_neg (by omega)]

theorem stores_bistPeriod (w : Word) : stores 0x6008 w = limit Fld.bistPeriodPeriodUs 100 1000000 w :=
  stores_hub w (by decide) (by decide) (by decide)

theorem stores_spcTonMax (w : Word) : stores 0x301C w = limit Fld.spcTonMaxTonMax 100 0xFFFF w :=
  stores_hub w (by decide) (by decide) (by decide)

theorem stores_measShuntXcheck (w : Word) : stores 0x4010 w = limit Fld.measShuntXcheckDwellMs 1 0xFF w :=
  stores_hub w (by decide) (by decide) (by decide)

theorem stores_pwrDrydownPeriod (w : Word) : stores 0x0810 w = limit Fld.pwrDrydownPeriodPeriodS 1 86400 w :=
  stores_hub w (by decide) (by decide) (by decide)

theorem stores_loopTimeout (w : Word) : stores 0x180C w = limit Fld.loopTimeoutTimeoutMs 1 60000 w :=
  stores_hub w (by decide) (by decide) (by decide)

theorem stores_loopOrphanCfg (w : Word) : stores 0x1828 w = limit Fld.loopOrphanCfgRamp 1 0xFFFFF w :=
  stores_hub w (by decide) (by decide) (by decide)

theorem regAt_bistPeriod : regAt 0x6008 = some ⟨0x6008, 0x4, 1, 12, 0xFFFFF, 0x0, 0x0, 0x0, 0x3E8⟩ := rfl

theorem regAt_spcTonMax : regAt 0x301C = some ⟨0x301C, 0x4, 1, 6, 0x0, 0xFFFF, 0x0, 0x0, 0x1388⟩ := rfl

theorem regAt_measShuntXcheck : regAt 0x4010 = some ⟨0x4010, 0x4, 1, 8, 0x0, 0xFFFFFF, 0x0, 0x0, 0x501F4⟩ := rfl

theorem regAt_pwrDrydownPeriod : regAt 0x0810 = some ⟨0x810, 0x4, 1, 0, 0x1FFFF, 0x0, 0x0, 0x0, 0xE10⟩ := rfl

theorem regAt_loopTimeout : regAt 0x180C = some ⟨0x180C, 0x4, 1, 2, 0xFFFF, 0x0, 0x0, 0x0, 0xC8⟩ := rfl

theorem regAt_loopOrphanCfg : regAt 0x1828 = some ⟨0x1828, 0x4, 1, 2, 0xFFFFF, 0x0, 0x0, 0x0, 0x1388⟩ := rfl

/-- A register that nothing has written reads as at reset. -/
theorem State.fld_of_regs_nil {s : State} (h : s.regs = []) (f : Field) : s.fld f = fieldOf f (resetOf f.off) := by
  rw [State.fld, State.stored, h, Sparse.get]

/-- Settles O58: a limit of each register, the reset values of the untouched register file, and the register index. -/
theorem storedLimits : Obligations.StoredLimits := by
  refine ⟨?bistPeriod, ?resets, ?tonMax, ?shuntXcheck, ?drydownPeriod, ?loopTimeout, ?orphanRamp, ?access, ?present⟩
  case bistPeriod =>
    intro w
    rw [stores_bistPeriod]
    exact fieldOf_limit w (by decide) (by decide) (by decide)
  case resets =>
    intro s h
    simp only [State.fld_of_regs_nil h]
    decide
  case tonMax =>
    intro w
    rw [stores_spcTonMax]
    exact fieldOf_limit_below w (by decide) (by decide) (by decide)
  case shuntXcheck =>
    intro w
    rw [stores_measShuntXcheck]
    exact ⟨(fieldOf_limit_below w (by decide) (by decide) (by decide)).trans (if_congr Nat.lt_one_iff rfl rfl),
      fieldOf_withField_above w _ (by decide) (by decide)⟩
  case drydownPeriod =>
    intro w
    rw [stores_pwrDrydownPeriod]
    exact (fieldOf_limit w (by decide) (by decide) (by decide)).trans (if_congr Nat.lt_one_iff rfl rfl)
  case loopTimeout =>
    intro w
    rw [stores_loopTimeout]
    exact (fieldOf_limit w (by decide) (by decide) (by decide)).trans (if_congr Nat.lt_one_iff rfl rfl)
  case orphanRamp =>
    intro w
    rw [stores_loopOrphanCfg]
    exact (fieldOf_limit_below w (by decide) (by decide) (by decide)).trans (if_congr Nat.lt_one_iff rfl rfl)
  case access =>
    intro d
    rw [regAt_bistPeriod, regAt_spcTonMax, regAt_measShuntXcheck, regAt_pwrDrydownPeriod, regAt_loopTimeout,
      regAt_loopOrphanCfg]
    refine ⟨?_, ?_, ?_, ?_, ?_, ?_⟩ <;> (rintro ⟨⟩; exact ⟨rfl, rfl⟩)
  case present =>
    simp only [List.forall_mem_cons, regAt_bistPeriod, regAt_spcTonMax, regAt_measShuntXcheck, regAt_pwrDrydownPeriod,
      regAt_loopTimeout, regAt_loopOrphanCfg]
    exact ⟨⟨_, rfl⟩, ⟨_, rfl⟩, ⟨_, rfl⟩, ⟨_, rfl⟩, ⟨_, rfl⟩, ⟨_, rfl⟩, fun _ h => absurd h List.not_mem_nil⟩

end Sys2Proof.Machine
end

section
/-!
PROOFS. Frames on the Step Link (chapter 04): what a frame on STEP_IN does to the SPC, and what a link does that goes quiet.
-/

namespace Sys2Proof.Machine

/-! ### A frame on STEP_IN (R113, R127, R128) -/

section
variable {s : State} {f : BitVec 64}

/-- A frame with a wrong CRC or an unknown TYPE is dropped. -/
theorem State.stepFrame_of_invalid (hin : s.stepInOn = true) (hbad : frCrcOk f = false ∨ 1 < frType f) :
    s.stepFrame f = s.dropFrame := by
  have hdrop : (!frCrcOk f || decide (1 < frType f)) = true := by
    simpa only [Bool.or_eq_true, Bool.not_eq_true', decide_eq_true_eq] using hbad
  simp only [State.stepFrame, hin, hdrop, Bool.not_true, Bool.false_eq_true, if_false, if_true]

/-- Any other frame counts as valid; a SET frame is judged where the link was UP before it. -/
theorem State.stepFrame_of_valid (hin : s.stepInOn = true) (hcrc : frCrcOk f = true) (hty : frType f ≤ 1) :
    s.stepFrame f = if s.spc.link = 2 ∧ frType f = 1 then s.stepValid.takeFrame f true else s.stepValid := by
  have hkeep : (!frCrcOk f || decide (1 < frType f)) = false := by
    rw [hcrc, decide_eq_false (Nat.not_lt.2 hty)]
    rfl
  simp only [State.stepFrame, hin, hkeep, Bool.not_true, Bool.false_eq_true, if_false, Bool.and_eq_true, beq_iff_eq]

/-- The player's next frame is judged while frames do not come from STEP_IN (R126). -/
theorem exec_setFrame_player {rest : List (BitVec 64)} (hbox : s.spc.inbox = f :: rest) (hsrc : s.externalSource = false)
    (hon : s.spcOn = true) :
    exec (.setFrame none) s = .next ((s.modSpc (fun x => { x with inbox := rest })).takeFrame f false).settle := by
  have hread : ¬((s.modSpc (fun x => { x with inbox := rest })).externalSource ||
      !(s.modSpc (fun x => { x with inbox := rest })).spcOn) = true := by
    change ¬(s.externalSource || !s.spcOn) = true
    rw [hsrc, hon]
    decide
  change execSetFrame none s = _
  simp only [execSetFrame, hbox]
  exact if_neg hread

theorem exec_setFrame_stepIn (hty : frType f = 1) : exec (.setFrame (some f)) s = .next (s.stepFrame f).settle :=
  if_pos hty

theorem exec_stepIdle_of_idle (hty : frType f = 0) (hcrc : frCrcOk f = true) :
    exec (.stepIdle f) s = .next (s.stepFrame f).settle := if_pos ⟨hty, hcrc⟩

theorem exec_stepFrameDropped_of_invalid (hbad : frCrcOk f = false ∨ 1 < frType f) :
    exec (.stepFrameDropped f) s = .next (s.stepFrame f).settle :=
  if_pos (by simpa only [Bool.or_eq_true, Bool.not_eq_true', decide_eq_true_eq] using hbad)

end

/-- Neither counting a frame as valid nor dropping it raises anything. -/
@[simp] theorem State.stepValid_settled (s : State) : s.stepValid.settled = s.settled :=
  (State.stepValid_touch (TouchM.refl 2048 s)).settled

@[simp] theorem State.dropFrame_settled (s : State) : s.dropFrame.settled = s.settled :=
  (State.dropFrame_touch (TouchM.refl 2048 s)).settled

/-! ### A link that goes quiet (R127) -/

/-- The link back in TRAINING, its count of valid frames started afresh. -/
def State.retrainStep (s : State) : State := s.modSpc (fun x => { x with link := 1, trainCount := 0 })

section
variable {s : State}

/-- 8 µs without a valid frame. -/
theorem exec_stepLinkLost_of_quiet (hup : s.spc.link = 2) (hquiet : s.spc.lastValid + 8000 ≤ s.now) :
    exec .stepLinkLost s = .next s.retrainStep.stepDown.settle := by
  have hdue : (s.spc.link == 2 && decide (s.spc.lastValid + 8000 ≤ s.now)) = true := by
    rw [hup, decide_eq_true hquiet]
    rfl
  exact if_pos hdue

theorem State.stepDown_of_source (hsrc : s.externalSource = true) (hrun : s.glb.st = .run) :
    s.stepDown = s.nakPending.raise .stepLinkLost none none 0 0 0 := by
  refine if_pos ?_
  rw [hsrc, State.inRun, State.st, hrun]
  rfl

theorem State.stepDown_of_noSource (h : s.externalSource = false ∨ s.glb.st ≠ .run) : s.stepDown = s := by
  refine if_neg ?_
  rw [State.inRun, State.st, Bool.and_eq_true, beq_iff_eq, not_and_or, Bool.not_eq_true]
  exact h

end

/-- Settles O33: who reads the frame, whether it is valid, and what the loss of the link ends. -/
theorem stepFrames : Obligations.StepFrames := by
  refine ⟨?player, ?judged, ?counted, ?dropped, ?lost⟩
  case player =>
    intro s f rest hbox hsrc hon
    exact exec_setFrame_player hbox hsrc hon
  case judged =>
    intro s f hin hcrc hty hup
    rw [exec_setFrame_stepIn hty, State.stepFrame_of_valid hin hcrc hty.le, if_pos ⟨hup, hty⟩]
  case counted =>
    intro s f hset hin hcrc
    have hend : s.stepValid.settle = s.stepValid := State.settle_eq (s.stepValid_settled.trans hset)
    constructor
    · intro hty hlink
      have hdown : ¬(s.spc.link = 2 ∧ frType f = 1) := by omega
      rw [exec_setFrame_stepIn hty, State.stepFrame_of_valid hin hcrc hty.le, if_neg hdown, hend]
    · intro hty
      have hidle : ¬(s.spc.link = 2 ∧ frType f = 1) := by omega
      rw [exec_stepIdle_of_idle hty hcrc, State.stepFrame_of_valid hin hcrc (by omega), if_neg hidle, hend]
  case dropped =>
    intro s f hset hin hbad
    rw [exec_stepFrameDropped_of_invalid hbad, State.stepFrame_of_invalid hin hbad,
      State.settle_eq (s.dropFrame_settled.trans hset)]
    rfl
  case lost =>
    intro s hup hquiet a
    have hexec := exec_stepLinkLost_of_quiet hup hquiet
    constructor
    · intro hsrc hrun
      rw [hexec, State.stepDown_of_source (s := s.retrainStep) hsrc hrun]
      rfl
    · intro hnone hset
      rw [hexec, State.stepDown_of_noSource (s := s.retrainStep) hnone]
      exact congrArg _ (State.settle_eq hset)

end Sys2Proof.Machine
end

section
/-!
PROOFS. Phases of the string power controller (chapter 04): reading one phase after another has changed, a phase that fails,
is shed or released, the switching of a phase at its thresholds and the widths that follow a fed-forward transition.
-/

namespace Sys2Proof.Machine

/-! ### One phase of the SPC -/

section
variable (s : State) (p : Phase) (f : PhaseSt → PhaseSt)

@[simp] theorem State.modPhase_get_self : (s.modPhase p f).spc.phases.get p = f (s.spc.phases.get p) :=
  Vec.get_modify_self _ _ _

theorem State.modPhase_get_ne {q : Phase} (h : q ≠ p) : (s.modPhase p f).spc.phases.get q = s.spc.phases.get q :=
  Vec.get_modify_ne _ _ h.symm

@[simp] theorem State.modPhase_now : (s.modPhase p f).now = s.now := rfl

@[simp] theorem State.modPhase_fld (x : Field) : (s.modPhase p f).fld x = s.fld x := rfl

end

/-- Where the registers are the same, so is every field. -/
theorem TouchM.fld {m : Nat} {s t : State} (h : TouchM m s t) (x : Field) (hr : m.testBit 3 = false := by rfl) :
    t.fld x = s.fld x := by
  have hregs : t.regs = s.regs := h.same .regs hr
  rw [State.fld, State.stored, hregs]
  rfl

/-! ### A phase fails (R120, R122) -/

section
variable {s : State} {p : Phase}

/-- An addition that has not reached its share after 50 µs. -/
theorem exec_addTimeout_of_late {t : Nat} (hadded : (s.spc.phases.get p).addedAt = some t) (hlate : t + 50000 ≤ s.now)
    (hshort : s.atShare p = false) : exec (.addTimeout p) s = .next (s.failPhase p .isOpen).settle := by
  have hguard : t + 50000 ≤ s.now ∧ (!s.atShare p) = true := ⟨hlate, by rw [hshort]; rfl⟩
  change execAddTimeout p s = _
  simp only [execAddTimeout, hadded]
  exact if_pos hguard

/-- An active phase that shows a cause fails by it. -/
theorem exec_phaseFailed_of_shown {c : PhaseCause} (hactive : (s.spc.phases.get p).active = true)
    (hshown : s.failureShown p c = true) : exec (.phaseFailed p c) s = .next (s.failPhase p c).settle := by
  refine if_pos ?_
  rw [hactive, hshown]
  rfl

/-- PH_PWMn high for longer than SPC_TON_MAX. -/
theorem State.failureShown_of_longOn {t : Nat} (hhigh : (s.spc.phases.get p).pwm = .high)
    (hfrom : (s.spc.phases.get p).switchedAt = some t) (hlong : t + 10 * s.fld Fld.spcTonMaxTonMax < s.now) :
    s.failureShown p .isOpen = true := by
  simp only [State.failureShown, hhigh, hfrom, decide_eq_true hlong, beq_self_eq_true, Bool.and_true, Bool.true_or]

theorem State.failureShown_of_runs (h : 2 ≤ (s.spc.phases.get p).stuckRun ∨ 2 ≤ (s.spc.phases.get p).wrongRun) :
    s.failureShown p .sense = true := by
  simpa only [State.failureShown, Bool.or_eq_true, decide_eq_true_eq] using h

end

/-- What is raised waits for the collector. -/
theorem State.raise_due (s : State) (x : Src) (g : Option Seg) (k : Option Cell) (a0 a1 a2 : Word) :
    (s.raise x g k a0 a1 a2).flt.due = s.flt.due ++ [(⟨x, s.now, g, k, a0, a1, a2⟩, 0)] := rfl

/-- The failure of a phase is raised with the phase and its cause (R122). -/
theorem State.failPhase_due (s : State) (p : Phase) (c : PhaseCause) :
    ∃ r ∈ (s.failPhase p c).flt.due, r.1.src = .phaseFailed ∧ r.1.arg0 = word p.val ∧ r.1.arg1 = word (causeBit c) := by
  rw [State.failPhase, State.raise_due]
  exact ⟨_, List.mem_append_right _ List.mem_cons_self, rfl, rfl, rfl⟩

/-! ### Phases are shed and released (R111, R121) -/

/-- The active phase with the highest index begins to hand over its share. -/
def State.beginShed (s : State) (p : Phase) : State :=
  ((s.modPhase p (fun x => { x with shedAt := some s.now, handAt := none })).modSpc
    (fun x => { x with shedFrom := none })).recentre

@[simp] theorem State.beginShed_settled (s : State) (p : Phase) : (s.beginShed p).settled = s.settled :=
  (State.recentre_touch (State.modSpc_touch (State.modPhase_touch (TouchM.refl 2048 s) p _) _)).settled

theorem exec_phaseShed_of_due {s : State} {p : Phase} {t : Nat} (hfrom : s.spc.shedFrom = some t)
    (hlast : s.activePhases.getLast? = some p) (hst : s.spc.st = .regulate) (hpend : s.spc.pending = none)
    (hans : s.spc.answered = true) (htog : s.spc.toggle = none)
    (hdwell : Nat.max t s.spc.answeredAt + 10000 * s.fld Fld.spcShedCfgShedDwell ≤ s.now)
    (hmin : s.fld Fld.spcShedCfgMinActive < s.nActive) (hpct : s.fld Fld.spcShedCfgShedPct < s.fld Fld.spcShedCfgAddPct)
    (hmoving : s.moving = []) : exec .phaseShed s = .next (s.beginShed p).settle := by
  change execPhaseShed s = _
  simp only [execPhaseShed, hfrom, hlast, hst, hpend, hans, htog, hmoving, decide_eq_true hdwell, decide_eq_true hmin,
    decide_eq_true hpct]
  rfl

/-- STANDBY with the stage off. -/
def State.standDown (s : State) : State :=
  s.stageOff.modSpc (fun x => { x with st := .standby, shedFrom := none, dwellFrom := none, dOverFrom := none })

theorem State.standDown_touch (s : State) : TouchM 2052 s s.standDown :=
  State.modSpc_touch (State.stageOff_touch (TouchM.refl 2052 s)) _

/-- Every phase is idle once the stage is off (R112). -/
theorem State.standDown_get (s : State) (p : Phase) : s.standDown.spc.phases.get p = (s.spc.phases.get p).idle :=
  Vec.get_map _ _ _

theorem exec_phasesReleased_of_due {s : State} (hst : s.spc.st = .regulate) (htgt : s.spc.target = 0)
    (hsp : s.spc.setpoint = 0) (hans : s.spc.answered = true) (hpend : s.spc.pending = none)
    (hdis : s.spc.disabling = false)
    (hdwell : s.spc.answeredAt + 10000 * s.fld Fld.spcShedCfgShedDwell ≤ s.now) :
    exec .phasesReleased s = .next s.standDown.settle := by
  change execPhasesReleased s = _
  simp only [execPhasesReleased, hst, htgt, hsp, hans, hpend, hdis, decide_eq_true hdwell]
  rfl

/-! ### Thresholds (R105) -/

theorem clampInt_mem {lo hi : Int} (x : Int) (h : lo ≤ hi) : lo ≤ clampInt lo hi x ∧ clampInt lo hi x ≤ hi := by
  unfold clampInt
  split
  · exact ⟨le_rfl, h⟩
  · split <;> omega

/-- A threshold is a 12-bit code. -/
theorem State.codeOf_lt (s : State) (p : Phase) (nano : Int) : s.codeOf p nano < 4096 :=
  Nat.lt_succ_of_le (Int.toNat_le.2 (clampInt_mem _ (by decide)).2)

/-! ### A phase switches (R105 to R107, R122) -/

section
variable (s : State) (p : Phase)

/-- An adjustment after a period changes at most the phase's width, and uses at most a free value. -/
theorem State.adaptWidth_get_self (n : Nat) :
    ∃ w, (s.adaptWidth p n).spc.phases.get p = { s.spc.phases.get p with width := w } := by
  unfold State.adaptWidth
  split
  · exact ⟨_, rfl⟩
  · exact ⟨_, State.modPhase_get_self _ _ _⟩

theorem State.adaptWidth_get_ne (n : Nat) {q : Phase} (h : q ≠ p) :
    (s.adaptWidth p n).spc.phases.get q = s.spc.phases.get q := by
  unfold State.adaptWidth
  split
  · rfl
  · exact State.modPhase_get_ne _ _ _ h

/-- Interleaving changes at most the displacement of the phase's window. -/
theorem State.interleave_get_self :
    ∃ d, (s.interleave p).spc.phases.get p = { s.spc.phases.get p with shift := d } := by
  unfold State.interleave
  split
  · exact ⟨_, rfl⟩
  · split
    · exact ⟨_, rfl⟩
    · exact ⟨_, State.modPhase_get_self _ _ _⟩

theorem State.interleave_get_ne {q : Phase} (h : q ≠ p) : (s.interleave p).spc.phases.get q = s.spc.phases.get q := by
  unfold State.interleave
  split
  · rfl
  · split
    · rfl
    · exact State.modPhase_get_ne _ _ _ h

/-- The sense code of a phase is taken. -/
def State.takeCode (code : Nat) : State := s.modPhase p (fun x => { x with code := code })

/-- After a period the phase's width is adapted and its window moved (R106, R107). -/
def State.followPeriod : State :=
  let y := s.spc.phases.get p
  (s.adaptWidth p (if y.onNs = 0 then 0 else y.onNs + y.offNs)).interleave p

/-- PH_PWMn goes high, which ends a period. -/
def State.turnPhaseOn (code : Nat) : State :=
  (s.modPhase p (fun x => x.turnOn code s.now (s.flag (Fld.spcSenseGainInvert p.val)))).followPeriod p

/-- PH_PWMn goes low. -/
def State.turnPhaseOff (code : Nat) : State :=
  s.modPhase p (fun x => x.turnOff code s.now (s.flag (Fld.spcSenseGainInvert p.val)))

/-- What a sense code of an active phase in REGULATE does: on at the lower threshold, off at the upper. -/
def State.switchPhase (code : Nat) : State :=
  if s.fallenTo p code (s.thresholds p).1 = true then
    if (s.spc.phases.get p).pwm = .high then s.takeCode p code else (s.takeCode p code).turnPhaseOn p code
  else if s.risenTo p code (s.thresholds p).2 = true then
    if (s.spc.phases.get p).pwm = .low then s.takeCode p code else (s.takeCode p code).turnPhaseOff p code
  else s.takeCode p code

theorem State.followPeriod_get_self :
    ∃ w d, (s.followPeriod p).spc.phases.get p = { s.spc.phases.get p with width := w, shift := d } := by
  obtain ⟨w, hwidth⟩ := s.adaptWidth_get_self p
    (if (s.spc.phases.get p).onNs = 0 then 0 else (s.spc.phases.get p).onNs + (s.spc.phases.get p).offNs)
  obtain ⟨d, hshift⟩ := State.interleave_get_self _ p
  exact ⟨w, d, hshift.trans (by rw [hwidth])⟩

theorem State.followPeriod_get_ne {q : Phase} (h : q ≠ p) :
    (s.followPeriod p).spc.phases.get q = s.spc.phases.get q :=
  (State.interleave_get_ne _ p h).trans (State.adaptWidth_get_ne _ p _ h)

theorem State.turnPhaseOn_get_self (code : Nat) :
    ((s.turnPhaseOn p code).spc.phases.get p).pwm = .high ∧
      ((s.turnPhaseOn p code).spc.phases.get p).code = (s.spc.phases.get p).code ∧
      ((s.turnPhaseOn p code).spc.phases.get p).onAt = some s.now := by
  obtain ⟨w, d, h⟩ := State.followPeriod_get_self
    (s.modPhase p (fun x => x.turnOn code s.now (s.flag (Fld.spcSenseGainInvert p.val)))) p
  rw [State.turnPhaseOn, h, State.modPhase_get_self]
  exact ⟨rfl, rfl, rfl⟩

theorem State.turnPhaseOff_get_self (code : Nat) :
    ((s.turnPhaseOff p code).spc.phases.get p).pwm = .low ∧
      ((s.turnPhaseOff p code).spc.phases.get p).code = (s.spc.phases.get p).code := by
  rw [State.turnPhaseOff, State.modPhase_get_self]
  exact ⟨rfl, rfl⟩

theorem State.takeCode_get_self (code : Nat) :
    (s.takeCode p code).spc.phases.get p = { s.spc.phases.get p with code := code } := State.modPhase_get_self _ _ _

/-- A switching phase leaves the others alone. -/
theorem State.switchPhase_get_ne (code : Nat) {q : Phase} (h : q ≠ p) :
    (s.switchPhase p code).spc.phases.get q = s.spc.phases.get q := by
  have hcode : (s.takeCode p code).spc.phases.get q = s.spc.phases.get q := State.modPhase_get_ne _ _ _ h
  have hon : ((s.takeCode p code).turnPhaseOn p code).spc.phases.get q = s.spc.phases.get q :=
    ((State.followPeriod_get_ne _ p h).trans (State.modPhase_get_ne _ _ _ h)).trans hcode
  have hoff : ((s.takeCode p code).turnPhaseOff p code).spc.phases.get q = s.spc.phases.get q :=
    (State.modPhase_get_ne _ _ _ h).trans hcode
  unfold State.switchPhase
  split <;> split
  · exact hcode
  · exact hon
  · split
    · exact hcode
    · exact hoff
  · exact hcode

/-- It takes at most a free value for each of its two adjustments. -/
theorem State.switchPhase_touch (code : Nat) : TouchM 67110912 s (s.switchPhase p code) := by
  have hcode : TouchM 67110912 s (s.takeCode p code) := State.modPhase_touch (TouchM.refl _ s) p _
  have hon : TouchM 67110912 s ((s.takeCode p code).turnPhaseOn p code) :=
    State.interleave_touch (State.adaptWidth_touch (State.modPhase_touch hcode p _) p _) p
  have hoff : TouchM 67110912 s ((s.takeCode p code).turnPhaseOff p code) := State.modPhase_touch hcode p _
  unfold State.switchPhase
  split <;> split
  · exact hcode
  · exact hon
  · split
    · exact hcode
    · exact hoff
  · exact hcode

end

section
variable {s : State} {p : Phase} {code : Nat}

/-- At the lower threshold the phase is on, turned on now where it was not. -/
theorem State.switchPhase_get_of_fallen (h : s.fallenTo p code (s.thresholds p).1 = true) :
    ((s.switchPhase p code).spc.phases.get p).pwm = .high ∧ ((s.switchPhase p code).spc.phases.get p).code = code ∧
      ((s.spc.phases.get p).pwm ≠ .high → ((s.switchPhase p code).spc.phases.get p).onAt = some s.now) := by
  rw [State.switchPhase, if_pos h]
  split
  · next hhigh =>
    rw [State.takeCode_get_self]
    exact ⟨hhigh, rfl, fun hlow => absurd hhigh hlow⟩
  · obtain ⟨hpwm, hcode, hon⟩ := (s.takeCode p code).turnPhaseOn_get_self p code
    rw [State.takeCode_get_self] at hcode
    exact ⟨hpwm, hcode, fun _ => hon⟩

/-- At the upper threshold it is off. -/
theorem State.switchPhase_get_of_risen (hfall : s.fallenTo p code (s.thresholds p).1 = false)
    (hrise : s.risenTo p code (s.thresholds p).2 = true) :
    ((s.switchPhase p code).spc.phases.get p).pwm = .low ∧ ((s.switchPhase p code).spc.phases.get p).code = code := by
  rw [State.switchPhase, if_neg (Bool.eq_false_iff.1 hfall), if_pos hrise]
  split
  · next hlow =>
    rw [State.takeCode_get_self]
    exact ⟨hlow, rfl⟩
  · obtain ⟨hpwm, hcode⟩ := (s.takeCode p code).turnPhaseOff_get_self p code
    rw [State.takeCode_get_self] at hcode
    exact ⟨hpwm, hcode⟩

/-- Between the two only its code is noted. -/
theorem State.switchPhase_get_of_between (hfall : s.fallenTo p code (s.thresholds p).1 = false)
    (hrise : s.risenTo p code (s.thresholds p).2 = false) :
    (s.switchPhase p code).spc.phases.get p = { s.spc.phases.get p with code := code } := by
  rw [State.switchPhase, if_neg (Bool.eq_false_iff.1 hfall), if_neg (Bool.eq_false_iff.1 hrise), State.takeCode_get_self]

theorem State.switchPhase_get_code : ((s.switchPhase p code).spc.phases.get p).code = code := by
  cases hfall : s.fallenTo p code (s.thresholds p).1 with
  | true => exact (State.switchPhase_get_of_fallen hfall).2.1
  | false =>
    cases hrise : s.risenTo p code (s.thresholds p).2 with
    | true => exact (State.switchPhase_get_of_risen hfall hrise).2
    | false => rw [State.switchPhase_get_of_between hfall hrise]

theorem exec_phaseSwitch_of_active (hactive : (s.spc.phases.get p).active = true) (hst : s.spc.st = .regulate) :
    exec (.phaseSwitch p code) s = .next (s.switchPhase p code).settle := by
  have hguard : ¬(!(s.spc.phases.get p).active || s.spc.st != .regulate) = true := by
    rw [hactive, hst]
    decide
  refine (if_neg hguard).trans ?_
  change (if s.fallenTo p code (s.thresholds p).1 = true then
      if ((s.spc.phases.get p).pwm == .high) = true then (s.takeCode p code).done
      else ((s.takeCode p code).turnPhaseOn p code).done
    else if s.risenTo p code (s.thresholds p).2 = true then
      (if ((s.spc.phases.get p).pwm == .low) = true then s.takeCode p code
        else (s.takeCode p code).turnPhaseOff p code).done
    else (s.takeCode p code).done) = (s.switchPhase p code).done
  simp only [State.switchPhase, apply_ite State.done, beq_iff_eq]

end

/-! ### Widths after a fed-forward transition (R106, R108) -/

/-- A width lies within the limits of R106. -/
def State.widthIn (s : State) (w : Nat) : Prop :=
  s.fld Fld.spcFswTargetWMin ≤ w ∧ w ≤ Nat.max (s.fld Fld.spcFswTargetWMin) 4095

theorem State.clampWidth_widthIn (s : State) (w : Int) : s.widthIn (s.clampWidth w) := by
  obtain ⟨hlo, hhi⟩ := clampInt_mem (lo := (s.fld Fld.spcFswTargetWMin : Int))
    (hi := ((Nat.max (s.fld Fld.spcFswTargetWMin) 4095 : Nat) : Int)) w (Int.ofNat_le.2 (Nat.le_max_left _ _))
  exact ⟨Int.ofNat_le.1 (hlo.trans (Int.self_le_toNat _)), Int.toNat_le.2 hhi⟩

/-- One phase takes the width predicted for the string voltage after the transition. -/
def State.rescalePhase (old new : Int) (s : State) (p : Phase) : State :=
  let x := s.spc.phases.get p
  let w := s.clampWidth (Config.rescaledWidth x.onNs x.offNs old new s.targetPeriod x.width : Nat)
  s.modPhase p (fun x => { x with width := w })

theorem State.rescalePhase_widthIn {s : State} {old new : Int} {p q : Phase}
    (h : q = p ∨ s.widthIn (s.spc.phases.get q).width) :
    (s.rescalePhase old new p).widthIn ((s.rescalePhase old new p).spc.phases.get q).width := by
  by_cases hq : q = p
  · subst hq
    rw [State.rescalePhase, State.modPhase_get_self]
    exact s.clampWidth_widthIn _
  · rw [State.rescalePhase, State.modPhase_get_ne _ _ _ hq]
    exact h.resolve_left hq

/-- A phase that is rescaled, or whose width lies within the limits already, ends within them. -/
theorem each_rescalePhase_widthIn {old new : Int} {q : Phase} (l : List Phase) {s : State}
    (h : q ∈ l ∨ s.widthIn (s.spc.phases.get q).width) :
    (each l (State.rescalePhase old new) s).widthIn
      ((each l (State.rescalePhase old new) s).spc.phases.get q).width := by
  unfold each
  induction l generalizing s with
  | nil => exact h.resolve_left List.not_mem_nil
  | cons p l ih =>
    refine ih ?_
    rw [List.mem_cons, or_assoc, or_left_comm] at h
    exact h.imp_right State.rescalePhase_widthIn

/-- Every active phase is rescaled. -/
def State.rescaleAll (s : State) : State :=
  let new : Int := s.vEst
  let old := new - sumInt (s.feedDue.map (fun e => if e.toIn then e.mv else -e.mv))
  each s.activePhases (State.rescalePhase old new) s

/-- And what was due counts as used. -/
def State.useFeed (s : State) : State :=
  s.modSpc (fun x => { x with feed := x.feed.map (fun e => if e.tp + 300 ≤ s.now then { e with used := true } else e) })

theorem State.rescaleAll_touch (s : State) : TouchM 2048 s s.rescaleAll :=
  each_touch _ (TouchM.refl 2048 s) fun _ p h => State.modPhase_touch h p _

/-- The limits are the state's own: a rescale changes no register. -/
theorem State.rescaleAll_widthIn {s : State} {p : Phase} (h : p ∈ s.activePhases) :
    s.widthIn (s.rescaleAll.spc.phases.get p).width := by
  have hin : s.rescaleAll.widthIn (s.rescaleAll.spc.phases.get p).width := each_rescalePhase_widthIn _ (.inl h)
  rwa [State.widthIn, s.rescaleAll_touch.fld] at hin

/-- Nothing is due once it counts as used. -/
theorem State.useFeed_feedDue (s : State) : s.useFeed.feedDue = [] := by
  rw [State.feedDue, List.filter_eq_nil_iff]
  intro e he
  obtain ⟨d, -, rfl⟩ := List.mem_map.1 he
  change ¬(_ && decide (_ ≤ s.now) && _) = true
  by_cases hdue : d.tp + 300 ≤ s.now <;> simp [hdue]

theorem exec_windowRescale_of_due {s : State} (hff : s.flag Fld.spcCtrlFfEn = true) (hst : s.spc.st = .regulate)
    (hrun : s.glb.st = .run) (hdue : s.feedDue ≠ []) :
    exec .windowRescale s = .next s.rescaleAll.useFeed.settle := by
  have hguard : (s.flag Fld.spcCtrlFfEn && s.spc.st == .regulate && s.inRun && !s.feedDue.isEmpty) = true := by
    rw [hff, hst, State.inRun, State.st, hrun, List.isEmpty_eq_false_iff.2 hdue]
    rfl
  exact if_pos hguard

/-- Settles O37: one equation per event, and what it changes in the phases. -/
theorem phaseEvents : Obligations.PhaseEvents := by
  refine ⟨?addTimeout, ?failed, State.failPhase_due, ?shed, ?released, ?switched, ?rescaled⟩
  case addTimeout =>
    intro s p t hadded hlate hshort
    exact exec_addTimeout_of_late hadded hlate hshort
  case failed =>
    intro s p hactive
    exact ⟨fun t hhigh hfrom hlong => exec_phaseFailed_of_shown hactive (State.failureShown_of_longOn hhigh hfrom hlong),
      fun hruns => exec_phaseFailed_of_shown hactive (State.failureShown_of_runs hruns)⟩
  case shed =>
    intro s p t hset hfrom hlast hst hpend hans htog hdwell hmin hpct hmoving
    rw [exec_phaseShed_of_due hfrom hlast hst hpend hans htog hdwell hmin hpct hmoving,
      State.settle_eq ((s.beginShed_settled p).trans hset)]
    rfl
  case released =>
    intro s hset hst htgt hsp hans hpend hdis hdwell
    refine ⟨s.standDown, ?_, rfl, rfl, fun p => ?_, s.standDown_touch.touch [.pins, .spc]⟩
    · rw [exec_phasesReleased_of_due hst htgt hsp hans hpend hdis hdwell,
        State.settle_eq (s.standDown_touch.settled.trans hset)]
    · rw [State.standDown_get]
      exact ⟨rfl, rfl⟩
  case switched =>
    intro s p code hset hactive hst x half low high
    refine ⟨s.codeOf_lt p _, s.codeOf_lt p _, s.switchPhase p code, ?_, (s.switchPhase_touch p code).touch [.spc, .free],
      State.switchPhase_get_code, fun hfall => ?_, fun hfall hpwm => ?_, fun hfall hrise => ?_, fun hfall hrise => ?_,
      fun q hq => s.switchPhase_get_ne p code hq⟩
    · rw [exec_phaseSwitch_of_active hactive hst, State.settle_eq ((s.switchPhase_touch p code).settled.trans hset)]
    · exact (State.switchPhase_get_of_fallen hfall).1
    · exact (State.switchPhase_get_of_fallen hfall).2.2 hpwm
    · exact (State.switchPhase_get_of_risen hfall hrise).1
    · exact State.switchPhase_get_of_between hfall hrise
  case rescaled =>
    intro s hset hff hst hrun hdue
    have htouch : TouchM 2048 s s.rescaleAll.useFeed := State.modSpc_touch s.rescaleAll_touch _
    refine ⟨s.rescaleAll.useFeed, ?_, htouch.touch [.spc], s.rescaleAll.useFeed_feedDue, 
      fun _ hp => State.rescaleAll_widthIn hp⟩
    rw [exec_windowRescale_of_due hff hst hrun hdue, State.settle_eq (htouch.settled.trans hset)]

end Sys2Proof.Machine
end

section
/-!
PROOFS. The effective corner of a cell and the guard time for marking (chapter 05).
-/

namespace Sys2Proof.Machine

/-- Settles O59: each of the two is a choice by one condition. -/
theorem cornerAndGuard : Obligations.CornerAndGuard := by
  refine ⟨fun s k => ⟨fun hown => ?own, fun hown => ?default⟩, fun s => ⟨fun hactive => ?active, fun hactive => ?none⟩⟩
  case own => rw [State.cornerOf, if_pos hown]
  case default => rw [State.cornerOf, if_neg (Bool.eq_false_iff.1 hown)]
  case active =>
    rw [State.guardNs]
    exact if_pos hactive
  case none =>
    rw [State.guardNs]
    exact if_neg (Bool.eq_false_iff.1 hactive)

end Sys2Proof.Machine
end

section
/-!
PROOFS. Slot conversions and cover (chapter 05): what the operations that follow a conversion leave of a cell's last four
conversions, and what a sample that leaves without cover does to the cell's measurement.
-/

namespace Sys2Proof.Machine

/-! ### Operations that leave the last four conversions alone -/

/-- The last four conversions of cell k, their mean and their time, and every other cell's measurement, are as they were. -/
structure MonitorKept (k : Cell) (s t : State) : Prop where
  last4 : (t.meas.get k).last4 = (s.meas.get k).last4
  lastSlot : (t.meas.get k).lastSlot = (s.meas.get k).lastSlot
  mon : (t.meas.get k).mon = (s.meas.get k).mon
  others : ∀ j, j ≠ k → t.meas.get j = s.meas.get j

/-- A change of a cell's measurement that leaves its last four conversions alone. -/
def KeepsMonitor (f : CellMeas → CellMeas) : Prop :=
  ∀ m, (f m).last4 = m.last4 ∧ (f m).lastSlot = m.lastSlot ∧ (f m).mon = m.mon

@[simp] theorem State.sendUp_meas (s : State) (g : Seg) (m : UpMsg) : (s.sendUp g m).meas = s.meas := rfl

@[simp] theorem State.streamOut_meas (s : State) (g : Seg) (w : BitVec 64) : (s.streamOut g w).meas = s.meas :=
  (State.streamOut_touch (TouchM.refl 4608 s) g w).same .meas rfl

@[simp] theorem State.streamCell_meas (s : State) (k : Cell) (kind source : Nat) (x : Sample) (value : Int) :
    (s.streamCell k kind source x value).meas = s.meas :=
  (State.streamCell_touch (TouchM.refl 4608 s) k kind source x value).same .meas rfl

/-- What a released sample leaves in the cell's measurement. -/
theorem State.release_meas (s : State) (k : Cell) (x : Sample) : (s.release k x).meas = s.meas.modify k (fun m => { m with
    lastOut := some x, lastUsable := if x.disturbed then m.lastUsable else some x }) :=
  State.streamCell_meas _ _ _ _ _ _

theorem State.releaseOcv_meas (s : State) (k : Cell) (x : Sample) :
    (s.releaseOcv k x).meas = s.meas.modify k (fun m => { m with lastOcv := some x }) :=
  State.streamCell_meas _ _ _ _ _ _

section
variable {s₀ s t : State} {k : Cell}

theorem MonitorKept.refl (s : State) : MonitorKept k s s := ⟨rfl, rfl, rfl, fun _ _ => rfl⟩

theorem MonitorKept.of_meas (h : MonitorKept k s₀ s) (hm : t.meas = s.meas) : MonitorKept k s₀ t := by
  obtain ⟨hl, hs, hmon, ho⟩ := h
  exact ⟨by rw [hm, hl], by rw [hm, hs], by rw [hm, hmon], fun j hj => by rw [hm, ho j hj]⟩

theorem MonitorKept.of_modify {f : CellMeas → CellMeas} (h : MonitorKept k s₀ s) (hm : t.meas = s.meas.modify k f)
    (hf : KeepsMonitor f) : MonitorKept k s₀ t := by
  obtain ⟨hl, hs, hmon⟩ := hf (s.meas.get k)
  refine ⟨?_, ?_, ?_, fun j hj => ?_⟩
  · rw [hm, Vec.get_modify_self, hl, h.last4]
  · rw [hm, Vec.get_modify_self, hs, h.lastSlot]
  · rw [hm, Vec.get_modify_self, hmon, h.mon]
  · rw [hm, Vec.get_modify_ne _ _ hj.symm, h.others j hj]

theorem MonitorKept.modMeas (h : MonitorKept k s₀ s) {f : CellMeas → CellMeas} (hf : KeepsMonitor f) :
    MonitorKept k s₀ (s.modMeas k f) := h.of_modify rfl hf

theorem MonitorKept.ite {c : Prop} [Decidable c] {u : State} (ht : MonitorKept k s₀ t) (hu : MonitorKept k s₀ u) :
    MonitorKept k s₀ (if c then t else u) := by
  split
  · exact ht
  · exact hu

theorem MonitorKept.each {α : Type} {f : State → α → State} (h : MonitorKept k s₀ s)
    (hf : ∀ u a, MonitorKept k s₀ u → MonitorKept k s₀ (f u a)) (l : List α) : MonitorKept k s₀ (each l f s) := by
  unfold Machine.each
  exact List.foldlRecOn l f h fun u hu a _ => hf u a hu

theorem MonitorKept.releaseAs (h : MonitorKept k s₀ s) (x : Held) (valid : Bool) :
    MonitorKept k s₀ (s.releaseAs k x valid) := by
  unfold State.releaseAs
  dsimp only
  split
  · exact h.of_modify (s.releaseOcv_meas k _) fun _ => ⟨rfl, rfl, rfl⟩
  · exact h.of_modify (s.release_meas k _) fun _ => ⟨rfl, rfl, rfl⟩

theorem MonitorKept.hold (h : MonitorKept k s₀ s) (x : Held) : MonitorKept k s₀ (s.hold k x) := by
  unfold State.hold
  dsimp only
  split
  · exact h.releaseAs x true
  · split
    · exact h.releaseAs x false
    · exact h.modMeas fun _ => ⟨rfl, rfl, rfl⟩

theorem MonitorKept.gateSlot (h : MonitorKept k s₀ s) (e : Nat) (v : Int) (sat : Bool) :
    MonitorKept k s₀ (s.gateSlot k e v sat) := by
  unfold State.gateSlot
  dsimp only
  split
  · exact h
  · refine MonitorKept.ite (MonitorKept.hold ?_ _) ?_
    all_goals exact h.modMeas fun _ => ⟨rfl, rfl, rfl⟩

theorem MonitorKept.ocvSlot (h : MonitorKept k s₀ s) (e : Nat) (v : Int) (sat : Bool) :
    MonitorKept k s₀ (s.ocvSlot k e v sat) := by
  unfold State.ocvSlot
  split
  · exact h
  · exact h.modMeas fun _ => ⟨rfl, rfl, rfl⟩

/-- Whether or not the filter has restarted since, the restart that waited leaves the conversions alone. -/
theorem keepsMonitor_restart (c b : Nat) : KeepsMonitor (fun m =>
    if m.restartedAt < b then ({ m with restart := none } : CellMeas).startAt c b else { m with restart := none }) := by
  intro m
  dsimp only
  split <;> exact ⟨rfl, rfl, rfl⟩

theorem MonitorKept.restartFilter (h : MonitorKept k s₀ s) (e : Nat) : MonitorKept k s₀ (s.restartFilter k e) := by
  unfold State.restartFilter
  dsimp only
  split
  · exact h
  · split
    · exact h
    · split
      · exact (h.modMeas (keepsMonitor_restart _ _)).hold _
      · exact h.modMeas (keepsMonitor_restart _ _)

theorem MonitorKept.windowStart (h : MonitorKept k s₀ s) (e : Nat) : MonitorKept k s₀ (s.windowStart k e) := by
  unfold State.windowStart
  split
  · refine h.modMeas fun m => ?_
    dsimp only
    split <;> exact ⟨rfl, rfl, rfl⟩
  · exact h

theorem MonitorKept.ocvEnd (h : MonitorKept k s₀ s) (e : Nat) : MonitorKept k s₀ (s.ocvEnd k e) := by
  unfold State.ocvEnd
  split
  · dsimp only
    split
    · exact h.modMeas fun _ => ⟨rfl, rfl, rfl⟩
    · refine MonitorKept.hold ?_ _
      exact h.modMeas fun _ => ⟨rfl, rfl, rfl⟩
  · exact h

theorem State.sendBurst_meas (s : State) (k : Cell) (b : Burst) : (s.sendBurst k b).meas = s.meas :=
  (State.sendBurst_touch (TouchM.refl 4608 s) k b).same .meas rfl

theorem MonitorKept.burstSlot (h : MonitorKept k s₀ s) (e : Nat) (v : Int) : MonitorKept k s₀ (s.burstSlot k e v) := by
  unfold State.burstSlot
  dsimp only
  split
  · exact h
  · refine MonitorKept.each ?_ (fun u b hu => hu.of_meas (u.sendBurst_meas k _)) _
    exact h.modMeas fun _ => ⟨rfl, rfl, rfl⟩

end
end Sys2Proof.Machine
end

section
/-!
PROOFS. The events of slot conversions and cover (chapter 05): one equation per event and what it leaves in the cell's
measurement.
-/

namespace Sys2Proof.Machine

/-! ### SLOT_CONVERSION (R147, R148) -/

section
variable (s : State) (k : Cell) (uv : Int)

/-- The end of the slot that has ended. -/
def State.slotEnd : Nat := s.now / 1000 * 1000

/-- A conversion within the converter's range. -/
def State.conversion : Int := clampInt (-1000000) 5500000 (s.primary k uv)

/-- The conversion was beyond the converter's range. -/
def State.saturated : Bool := decide (s.primary k uv < -1000000) || decide (5500000 < s.primary k uv)

/-- The last four conversions with the new one. -/
def State.lastFour : List Int := (s.conversion k uv :: (s.meas.get k).last4).take 4

/-- The value that enters the bursts: the verifier's where it serves the cell. -/
def State.burstValue : Int := if (s.meas.get k).served then (s.meas.get k).visit else s.conversion k uv

/-- The conversion enters the cell's histories and its monitor value. -/
def State.takeSlot : State :=
  s.modMeas k (fun m => { m with
    last4 := s.lastFour k uv, mon := monitorOf (s.lastFour k uv), lastSlot := s.slotEnd
    pHist := ((s.slotEnd - 1000, s.conversion k uv) :: m.pHist).take 64
    vHist := ((s.slotEnd - 1000, s.burstValue k uv) :: m.vHist).take 64
    patAcc := match (s.segs.get (segOf k)).windowAt with
      | some w => if w < s.segTime (segOf k) ∧ s.segTime (segOf k) < w + 32001000 then
          (m.patAcc.1 + s.conversion k uv, m.patAcc.2.1 + 1, m.patAcc.2.2 || s.saturated k uv) else m.patAcc
      | none => m.patAcc })

/-- Of a cell that its primary serves, the conversion enters the filter and the OCV window. -/
def State.filterSlot (e : Nat) (v : Int) (sat : Bool) : State :=
  (if s.gateOpen k (e - 1000) then s.gateSlot k e v sat else s).ocvSlot k e v sat

/-- All that a conversion does. -/
def State.convertSlot : State :=
  let t := s.takeSlot k uv
  let t := if (s.meas.get k).served then t else t.filterSlot k s.slotEnd (s.conversion k uv) (s.saturated k uv)
  (((t.restartFilter k s.slotEnd).windowStart k s.slotEnd).ocvEnd k s.slotEnd).burstSlot k s.slotEnd (s.burstValue k uv)

variable {s k}

theorem exec_slotConversion_of_new (hmeas : (s.segs.get (segOf k)).smeas = true)
    (hon : (s.segs.get (segOf k)).st ≠ .unpowered) (hnew : (s.meas.get k).lastSlot < s.now / 1000 * 1000) :
    exec (.slotConversion k uv) s = .next (s.convertSlot k uv).settle := by
  have hguard : ¬(!(s.segs.get (segOf k)).smeas || (s.segs.get (segOf k)).st == .unpowered ||
      decide (s.now / 1000 * 1000 ≤ (s.meas.get k).lastSlot)) = true := by
    rw [hmeas, beq_eq_false_iff_ne.2 hon, decide_eq_false (Nat.not_le.2 hnew)]
    decide
  exact if_neg hguard

variable (s k)

theorem MonitorKept.filterSlot {s₀ s : State} {k : Cell} (h : MonitorKept k s₀ s) (e : Nat) (v : Int) (sat : Bool) :
    MonitorKept k s₀ (s.filterSlot k e v sat) := by
  unfold State.filterSlot
  split
  · exact (h.gateSlot e v sat).ocvSlot e v sat
  · exact h.ocvSlot e v sat

/-- What follows a conversion leaves the monitor value as the conversion made it. -/
theorem State.convertSlot_monitorKept : MonitorKept k (s.takeSlot k uv) (s.convertSlot k uv) := by
  unfold State.convertSlot
  refine (((MonitorKept.restartFilter ?_ _).windowStart _).ocvEnd _).burstSlot _ _
  split
  · exact MonitorKept.refl _
  · exact (MonitorKept.refl _).filterSlot _ _ _

theorem State.convertSlot_touch : TouchM 4640 s (s.convertSlot k uv) := by
  have htaken : TouchM 4640 s (s.takeSlot k uv) := State.modMeas_touch (TouchM.refl _ s) k _
  unfold State.convertSlot
  refine State.burstSlot_touch (State.ocvEnd_touch (State.windowStart_touch (State.restartFilter_touch ?_ k _) k _) k _)
    k _ _
  split
  · exact htaken
  · refine State.ocvSlot_touch ?_ k _ _ _
    split
    · exact State.gateSlot_touch htaken k _ _ _
    · exact htaken

theorem State.takeSlot_get_self :
    ((s.takeSlot k uv).meas.get k).last4 = s.lastFour k uv ∧ ((s.takeSlot k uv).meas.get k).lastSlot = s.slotEnd ∧
      ((s.takeSlot k uv).meas.get k).mon = monitorOf (s.lastFour k uv) := by
  rw [State.takeSlot, State.modMeas_meas, Vec.get_modify_self]
  exact ⟨rfl, rfl, rfl⟩

theorem State.takeSlot_get_ne {j : Cell} (h : j ≠ k) : (s.takeSlot k uv).meas.get j = s.meas.get j :=
  Vec.get_modify_ne _ _ h.symm

end

/-! ### COVER_TIMEOUT (R159) -/

section
variable (s : State) (k : Cell)

/-- A held sample that leaves as not valid is DISTURBED. -/
theorem State.releaseAs_invalid_get (h : Held) : (s.releaseAs k h false).meas.get k =
    if h.ocv = true then { s.meas.get k with lastOcv := some (asDisturbed h.sample) }
    else { s.meas.get k with lastOut := some (asDisturbed h.sample) } := by
  unfold State.releaseAs
  dsimp only
  split
  · exact (congrArg (Vec.get · k) (s.releaseOcv_meas k _)).trans (Vec.get_modify_self _ _ _)
  · exact (congrArg (Vec.get · k) (s.release_meas k _)).trans (Vec.get_modify_self _ _ _)

/-- What a disturbance that is counted changes in the cell's measurement. -/
theorem State.countDist_get (a b : Nat) : ∃ r n d, (s.countDist k a b).meas.get k =
    { s.meas.get k with restart := r, distCount := n, dist := d } := by
  have hcounted (m : CellMeas) (merged : Bool) (n : Nat) (d : Option (Nat × Nat)) : ∃ r n' d',
      { (if merged && decide (b ≤ m.restartedAt) then m else m.ask true b) with distCount := n, dist := d } =
        { m with restart := r, distCount := n', dist := d' } := by
    split
    · exact ⟨_, _, _, rfl⟩
    · exact ⟨_, _, _, rfl⟩
  unfold State.countDist
  dsimp only
  split
  · rw [State.modMeas_meas, Vec.get_modify_self]
    exact hcounted _ _ _ _
  · rw [State.modShunts_meas, State.modMeas_meas, Vec.get_modify_self]
    exact hcounted _ _ _ _

/-- A time without cover begins, or goes on: what a cell holds and what it delivered last stay. -/
theorem State.loseCover_get : ∃ t r n d, (s.loseCover k).meas.get k =
    { s.meas.get k with coverLost := true, touch := t, restart := r, distCount := n, dist := d } := by
  unfold State.loseCover
  dsimp only
  split
  · next hlost =>
    refine ⟨(s.meas.get k).touch, (s.meas.get k).restart, (s.meas.get k).distCount, (s.meas.get k).dist, ?_⟩
    rw [← hlost]
  · split
    · obtain ⟨r, n, d, h⟩ := State.countDist_get (s.modMeas k (fun m => { m with
        coverLost := true, touch := Nat.max m.touch s.now })) k (s.meas.get k).cover s.now
      refine ⟨Nat.max (s.meas.get k).touch s.now, r, n, d, h.trans ?_⟩
      rw [State.modMeas_meas, Vec.get_modify_self]
    · refine ⟨Nat.max (s.meas.get k).touch s.now, (s.meas.get k).restart, (s.meas.get k).distCount,
        (s.meas.get k).dist, ?_⟩
      rw [State.modMeas_meas, Vec.get_modify_self]

/-- The oldest held sample leaves without cover. -/
def State.dropHeld (h : Held) (rest : List Held) : State :=
  ((s.modMeas k (fun m => { m with heldOuts := rest })).loseCover k).releaseAs k h false

theorem State.dropHeld_touch (h : Held) (rest : List Held) : TouchM 4640 s (s.dropHeld k h rest) :=
  State.releaseAs_touch (State.loseCover_touch (State.modMeas_touch (TouchM.refl _ s) k _) k) k h false

/-- The measurement that a sample without cover leaves behind. -/
theorem State.dropHeld_get (h : Held) (rest : List Held) :
    ((s.dropHeld k h rest).meas.get k).heldOuts = rest ∧ ((s.dropHeld k h rest).meas.get k).coverLost = true ∧
      (h.ocv = false → ((s.dropHeld k h rest).meas.get k).lastOut = some (asDisturbed h.sample) ∧
        ((s.dropHeld k h rest).meas.get k).lastUsable = (s.meas.get k).lastUsable) ∧
      (h.ocv = true → ((s.dropHeld k h rest).meas.get k).lastOcv = some (asDisturbed h.sample)) := by
  obtain ⟨t, r, n, d, hlost⟩ := (s.modMeas k (fun m => { m with heldOuts := rest })).loseCover_get k
  rw [State.modMeas_meas, Vec.get_modify_self] at hlost
  rw [State.dropHeld, State.releaseAs_invalid_get, hlost]
  cases h.ocv with
  | true => exact ⟨rfl, rfl, fun hocv => absurd hocv (by decide), fun _ => rfl⟩
  | false => exact ⟨rfl, rfl, fun _ => ⟨rfl, rfl⟩, fun hocv => absurd hocv (by decide)⟩

variable {s k}

/-- 20 µs after its stamp, or at once where the neighbour's link is lost. -/
theorem exec_coverTimeout_of_due {h : Held} {rest : List Held} (hheld : (s.meas.get k).heldOuts = h :: rest)
    (hdue : h.upTo + 20000 ≤ s.now ∨ ∃ j, farNeighbour k = some j ∧ s.linkUp (segOf j) = false) :
    exec (.coverTimeout k) s = .next (s.dropHeld k h rest).settle := by
  change execCoverTimeout k s = _
  simp only [execCoverTimeout, hheld]
  refine if_pos ?_
  rcases hdue with hlate | ⟨j, hfar, hdown⟩
  · rw [decide_eq_true hlate, Bool.or_true]
  · simp only [hfar, hdown, Bool.not_false, Bool.true_or]

end
end Sys2Proof.Machine
end

section
/-!
PROOFS. The verifier and captures (chapter 05): one equation per event, what a visit, a cross-check and a report of a
segment do; and the obligation about the measurement of cells.
-/

namespace Sys2Proof.Machine

/-! ### VERIFIER_VISIT of a cell (R161 to R164) -/

section
variable (s : State) (k : Cell)

/-- The verifier of a segment stands as given. -/
def State.putVerifier (g : Seg) (v : Verifier) : State := s.modSeg g (fun x => { x with verifier := v })

/-- The verifier after the visit [a, z] of a cell, where the visit is made: as a VERIFY window starts it, or in the
verifier's turn. -/
def State.cellTurn (a z : Nat) : Option Verifier :=
  match s.verifyStart k z with
  | some _ =>
    if s.flag Fld.measCtrlVerifyEn && !s.skips (segOf k) a z (localOf k) then
      some { (s.segs.get (segOf k)).verifier with free := z }
    else none
  | none =>
    if s.verifyWithin (segOf k) a z then none
    else match s.turnOf (segOf k) a z with
      | some (i, v) => if i = localOf k then some v else none
      | none => none

/-- The start of a visit of a cell that ends at z. -/
def State.visitStart (z : Nat) : Nat := (s.verifyStart k z).getD (z - 18000)

/-- A visit of a cell that is made: a transition near the cell discards its value. -/
def State.visitCell (value : Int) (a z : Nat) (v : Verifier) : State :=
  if s.movedSince k a then s.putVerifier (segOf k) v else (s.putVerifier (segOf k) v).cellVisit k value a z

variable {s k}

theorem State.visitStart_of_window {a z : Nat} (h : s.verifyStart k z = some a) : s.visitStart k z = a := by
  rw [State.visitStart, h, Option.getD_some]

theorem State.visitStart_of_turn {z : Nat} (h : s.verifyStart k z = none) : s.visitStart k z = z - 18000 := by
  rw [State.visitStart, h, Option.getD_none]

theorem State.cellTurn_of_window {a b z : Nat} (hwin : s.verifyStart k z = some b)
    (hen : s.flag Fld.measCtrlVerifyEn = true) (hskip : s.skips (segOf k) a z (localOf k) = false) :
    s.cellTurn k a z = some { (s.segs.get (segOf k)).verifier with free := z } := by
  simp only [State.cellTurn, hwin, hen, hskip, Bool.not_false, Bool.and_true, if_true]

theorem State.cellTurn_of_turn {a z : Nat} {v : Verifier} (hwin : s.verifyStart k z = none)
    (hwithin : s.verifyWithin (segOf k) a z = false) (hturn : s.turnOf (segOf k) a z = some (localOf k, v)) :
    s.cellTurn k a z = some v := by
  simp only [State.cellTurn, hwin, hwithin, hturn, Bool.false_eq_true, if_false, if_true]

theorem State.visitCell_of_still {a : Nat} (h : s.movedSince k a = false) (value : Int) (z : Nat) (v : Verifier) :
    s.visitCell k value a z v = (s.putVerifier (segOf k) v).cellVisit k value a z := if_neg (Bool.eq_false_iff.1 h)

theorem State.visitCell_of_moved {a : Nat} (h : s.movedSince k a = true) (value : Int) (z : Nat) (v : Verifier) :
    s.visitCell k value a z v = s.putVerifier (segOf k) v := if_pos h

theorem exec_verifierVisit_cell {a : Nat} {v : Verifier} (value : Int) (hmeas : (s.segs.get (segOf k)).smeas = true)
    (hon : (s.segs.get (segOf k)).st ≠ .unpowered)
    (hstart : s.visitStart k s.slotEnd = a)
    (hfree : (s.segs.get (segOf k)).verifier.free ≤ a) (hcap : s.capturing (segOf k) a s.slotEnd = false)
    (hturn : s.cellTurn k a s.slotEnd = some v) :
    exec (.verifierVisit (.cell k) value) s = .next (s.visitCell k value a s.slotEnd v).settle := by
  subst hstart
  have hguard : ¬(!(s.segs.get (segOf k)).smeas || (s.segs.get (segOf k)).st == .unpowered ||
      decide (s.visitStart k s.slotEnd < (s.segs.get (segOf k)).verifier.free) ||
      s.capturing (segOf k) (s.visitStart k s.slotEnd) s.slotEnd) = true := by
    rw [hmeas, beq_eq_false_iff_ne.2 hon, decide_eq_false (Nat.not_lt.2 hfree), hcap]
    decide
  refine (if_neg hguard).trans ?_
  change (match s.cellTurn k (s.visitStart k s.slotEnd) s.slotEnd with
    | none => s.done
    | some v => if s.movedSince k (s.visitStart k s.slotEnd) then (s.putVerifier (segOf k) v).done
      else ((s.putVerifier (segOf k) v).cellVisit k value (s.visitStart k s.slotEnd) s.slotEnd).done) = _
  rw [hturn, State.visitCell]
  simp only [State.done, apply_ite State.settle, apply_ite Host.Outcome.next]

end

/-! ### The value of a visit (R163) -/

section
variable (s : State) (k : Cell)

/-- The mean of the primary's conversions is read off the cell's measurement. -/
theorem State.primaryMean_congr {t : State} {k : Cell} (h : (t.meas.get k).pHist = (s.meas.get k).pHist) (a b : Nat) :
    t.primaryMean k a b = s.primaryMean k a b := by
  rw [State.primaryMean, State.primaryMean, h]

/-- The sample that a visit [a, z] with a raw mean brings of a cell that its primary serves. -/
def State.visitSample (raw : Int) (a z : Nat) : Sample :=
  ⟨200 * s.verified (segOf k) raw (-5000) 27500, z, false, decide (s.overlap k a z = z - a),
    decide (raw < -5000) || decide (27500 < raw), false⟩

/-- The visit's value goes to the hub and the stream. -/
def State.sendVisit (raw : Int) (a z : Nat) : State :=
  ((s.modMeas k (fun m => { m with visit := 200 * s.verified (segOf k) raw (-5000) 27500 })).sendUp (segOf k)
    (.output k 2 (s.visitSample k raw a z))).streamCell k 2 0x20 (s.visitSample k raw a z)
      (s.verified (segOf k) raw (-5000) 27500)

theorem State.sendVisit_touch (raw : Int) (a z : Nat) : TouchM 4640 s (s.sendVisit k raw a z) :=
  State.streamCell_touch (State.sendUp_touch (State.modMeas_touch (TouchM.refl _ s) k _) _ _) k _ _ _ _

theorem State.sendVisit_pHist (raw : Int) (a z : Nat) :
    ((s.sendVisit k raw a z).meas.get k).pHist = (s.meas.get k).pHist := by
  rw [State.sendVisit, State.streamCell_meas, State.sendUp_meas, State.modMeas_meas, Vec.get_modify_self]

variable {s k}

/-- Of a cell that its primary serves, a visit ends with the cross-check where the primary's mean exists. -/
theorem State.cellVisit_of_not_served (hserved : (s.meas.get k).served = false) (raw : Int) (a z : Nat) :
    s.cellVisit k raw a z = match s.primaryMean k (a + 2000) z with
      | some p => (s.sendVisit k raw a z).crossCheck k
          (decide (10 * s.fld Fld.measXcheckLimitLimit < (200 * s.verified (segOf k) raw (-5000) 27500 - p).natAbs))
      | none => s.sendVisit k raw a z := by
  rw [← State.primaryMean_congr s (s.sendVisit_pHist k raw a z), ← (s.sendVisit_touch k raw a z).fld]
  unfold State.cellVisit
  dsimp only
  rw [hserved, if_neg (by decide)]
  rfl

end

/-! ### Cross-checks (R163, R164) -/

section
variable (s : State) (k : Cell) (miss : Bool)

/-- The count of misses with this check: one up for a miss, one down for a pass. -/
def State.missCount : Nat := if miss then (s.meas.get k).misses + 1 else (s.meas.get k).misses - 1

/-- The check enters the cell's counts. -/
def State.noteCheck : State :=
  s.modMeas k (fun m => { m with
    misses := Nat.min (s.missCount k miss) (s.fld Fld.measXcheckLimitMissN), lastCheck := s.now, noCheckRaised := false
    missRaised := m.missRaised && decide (s.fld Fld.measXcheckLimitMissN ≤ s.missCount k miss)
    passes := if miss || !m.slicePassed then 0 else m.passes + 1 })

theorem State.noteCheck_touch : TouchM 32 s (s.noteCheck k miss) := State.modMeas_touch (TouchM.refl _ s) k _

/-- The checked cell's verifier serves it from now on. -/
def State.beginService : State :=
  s.modMeas k (fun m => { m.ask false s.now with served := true, slicePassed := false, passes := 0 })

/-- The cell is its primary's again. -/
def State.endService : State :=
  s.modMeas k (fun m => { m.ask false s.now with
    served := false, servedEnd := some s.now, misses := 0, passes := 0, slicePassed := false })

variable {s k miss}

theorem State.crossCheck_below (hserved : (s.meas.get k).served = false)
    (hbelow : s.missCount k miss < s.fld Fld.measXcheckLimitMissN) : s.crossCheck k miss = s.noteCheck k miss :=
  (if_neg (Bool.eq_false_iff.1 hserved)).trans (if_neg (Nat.not_le.2 hbelow))

/-- At MISS_N the verifier takes the cell over. -/
theorem State.crossCheck_takesOver (hserved : (s.meas.get k).served = false)
    (hreached : s.fld Fld.measXcheckLimitMissN ≤ s.missCount k miss) (hen : s.flag Fld.measCtrlTakeoverEn = true) :
    s.crossCheck k miss =
      ((s.noteCheck k miss).beginService k).segReport (segOf k) (cellReport s.now .takeover k 0 0 0) :=
  (if_neg (Bool.eq_false_iff.1 hserved)).trans ((if_pos hreached).trans (if_pos hen))

/-- After a slice that passed, the sixteenth pass gives the cell back. -/
theorem State.crossCheck_givesBack (hserved : (s.meas.get k).served = true) (hslice : (s.meas.get k).slicePassed = true)
    (hpasses : 15 ≤ (s.meas.get k).passes) :
    s.crossCheck k false =
      ((s.noteCheck k false).endService k).segReport (segOf k) (cellReport s.now .primaryReturn k 0 0 0) := by
  have hsixteen : 16 ≤ ((s.noteCheck k false).meas.get k).passes := by
    rw [State.noteCheck, State.modMeas_meas, Vec.get_modify_self]
    simp only [hslice, Bool.not_true, Bool.or_false, Bool.false_eq_true, if_false]
    omega
  exact (if_pos hserved).trans (if_pos hsixteen)

end

/-! ### Reports of a segment (R249, R388) -/

section
variable (s : State) (g : Seg) (r : Report)

/-- A segment's FAULT message is dated in its own time; of class HALT it also asks for a halt. -/
theorem State.segReport_link : (s.segReport g r).links.get g = { s.links.get g with
    up := pushDir upPriority s.now (s.links.get g).up
      (.fault { r with time := if (s.segs.get g).timerFrom = none then r.time else s.segTime g } false)
    haltReq := (s.links.get g).haltReq || srcClass r.src == .halt } := by
  simp only [State.segReport, State.sendUp, Option.isNone_iff_eq_none]
  split
  · next hhalt => simp only [State.modLink_links, Vec.get_modify_self, hhalt, Bool.or_true]
  · next hhalt =>
    simp only [State.modLink_links, Vec.get_modify_self, Bool.eq_false_iff.2 hhalt, Bool.or_false]

end

/-! ### VERIFIER_VISIT of a stack (R165) -/

section
variable (s : State) (g : Seg)

/-- The sum of the primary's means of a segment's cells over the slots of [a, b). -/
def State.stackSum (a b : Nat) : Int := sumInt ((cellsOf g).map (fun k => (s.primaryMean k a b).getD 0))

/-- The stack's value is noted. -/
def State.noteStackMv (r : Int) : State := s.modSeg g (fun x => { x with stackMv := (3 * r / 2).toNat })

/-- And its misses in a row. -/
def State.noteStack (r : Int) (n : Nat) : State :=
  (s.noteStackMv g r).modShunts (fun m => { m with stackMiss := m.stackMiss.set g n })

/-- A segment's class is not in what a visit notes. -/
theorem State.modSeg_classAt (f : Segment → Segment) (hat : ∀ x, (f x).clsAt = x.clsAt) (hcls : ∀ x, (f x).cls = x.cls) :
    (s.modSeg g f).classAt g = s.classAt g := by
  rw [State.classAt, State.classAt, State.modSeg_segs, Vec.get_modify_self, hat, hcls]
  rfl

theorem State.noteStackMv_classAt (r : Int) : (s.noteStackMv g r).classAt g = s.classAt g :=
  s.modSeg_classAt g _ (fun _ => rfl) (fun _ => rfl)

theorem State.putVerifier_classAt (v : Verifier) : (s.putVerifier g v).classAt g = s.classAt g :=
  s.modSeg_classAt g _ (fun _ => rfl) (fun _ => rfl)

/-- The misses in a row of a stack, up to three. -/
def stackMisses (far : Bool) (was : Nat) : Nat := if far then Nat.min 3 (was + 1) else 0

/-- The stack's value against the sum of its cells: the third miss in a row is reported. -/
def State.judgeStack (r sum : Int) (far : Bool) : State :=
  let n := stackMisses far (s.shunts.stackMiss.get g)
  if n = 3 ∧ s.shunts.stackMiss.get g < 3 then
    (s.noteStack g r n).segReport g ⟨.stackMismatch, s.now, some g, none, wordI (divI (3 * r) 2), wordI (divI sum 1000), 0⟩
  else s.noteStack g r n

variable {s g}

/-- A visit of a stack in class LOW, whose cells all have a mean, by a segment that does not stream it. -/
theorem State.stackVisit_of_means {raw : Int} {a z : Nat} {far : Bool} (hstream : s.streams g 3 = false)
    (hlow : s.classAt g = .low) (hmeans : ∀ k ∈ cellsOf g, s.primaryMean k (a + 2000) z ≠ none)
    (hfar : decide (10000 * s.fld Fld.measXcheckLimitStackLimit <
      (1500 * s.verified g raw 0 65535 - s.stackSum g (a + 2000) z).natAbs) = far) :
    s.stackVisit g raw a z = s.judgeStack g (s.verified g raw 0 65535) (s.stackSum g (a + 2000) z) far := by
  subst hfar
  have hall : ((cellsOf g).map (fun k => s.primaryMean k (a + 2000) z)).any (fun p => p.isNone) = false := by
    simp only [List.any_map, List.any_eq_false, Function.comp_apply, Option.isNone_iff_eq_none]
    exact hmeans
  have hjudged : ¬((s.noteStackMv g (s.verified g raw 0 65535)).classAt g != .low ||
      ((cellsOf g).map (fun k => s.primaryMean k (a + 2000) z)).any (fun p => p.isNone)) = true := by
    rw [State.noteStackMv_classAt, hlow, hall]
    decide
  unfold State.stackVisit State.stackSum
  dsimp only
  rw [if_neg (show ¬State.streams (s.modSeg g _) g 3 = true from Bool.eq_false_iff.1 hstream)]
  refine (if_neg hjudged).trans ?_
  rw [List.map_map]
  rfl

theorem State.judgeStack_pass (r sum : Int) : s.judgeStack g r sum false = s.noteStack g r 0 := rfl

theorem State.judgeStack_third (r sum : Int) (hwas : s.shunts.stackMiss.get g = 2) :
    s.judgeStack g r sum true = (s.noteStack g r 3).segReport g
      ⟨.stackMismatch, s.now, some g, none, wordI (divI (3 * r) 2), wordI (divI sum 1000), 0⟩ := by
  simp only [State.judgeStack, hwas]
  rfl

theorem State.judgeStack_miss (r sum : Int) (hwas : s.shunts.stackMiss.get g ≠ 2) :
    s.judgeStack g r sum true = s.noteStack g r (Nat.min 3 (s.shunts.stackMiss.get g + 1)) := by
  refine if_neg fun ⟨hthree, hless⟩ => ?_
  have hthree : min 3 (s.shunts.stackMiss.get g + 1) = 3 := hthree
  omega

theorem exec_verifierVisit_stack {v : Verifier} (value : Int) (hmeas : (s.segs.get g).smeas = true)
    (hon : (s.segs.get g).st ≠ .unpowered) (hfree : (s.segs.get g).verifier.free ≤ s.slotEnd - 18000)
    (hcap : s.capturing g (s.slotEnd - 18000) s.slotEnd = false)
    (hwithin : s.verifyWithin g (s.slotEnd - 18000) s.slotEnd = false)
    (hturn : s.turnOf g (s.slotEnd - 18000) s.slotEnd = some (16, v)) :
    exec (.verifierVisit (.stack g) value) s =
      .next ((s.putVerifier g v).stackVisit g value (s.slotEnd - 18000) s.slotEnd).settle := by
  have hguard : ¬(!(s.segs.get g).smeas || (s.segs.get g).st == .unpowered ||
      decide (s.slotEnd - 18000 < (s.segs.get g).verifier.free) ||
      s.capturing g (s.slotEnd - 18000) s.slotEnd) = true := by
    rw [hmeas, beq_eq_false_iff_ne.2 hon, decide_eq_false (Nat.not_lt.2 hfree), hcap]
    decide
  change execVerifierVisit (.stack g) value s = _
  unfold execVerifierVisit
  dsimp only
  rw [Option.getD_none]
  refine (if_neg hguard).trans ?_
  change (match (if s.verifyWithin g (s.slotEnd - 18000) s.slotEnd then none
      else match s.turnOf g (s.slotEnd - 18000) s.slotEnd with
        | some (i, v) => if i = 16 then some v else none
        | none => none : Option Verifier) with
    | none => s.done
    | some v => ((s.putVerifier g v).stackVisit g value (s.slotEnd - 18000) s.slotEnd).done) = _
  rw [hwithin, hturn]
  rfl

end

/-! ### NO_CROSSCHECK and CAPTURE (R165, R166) -/

section
variable {s : State} {k : Cell}

theorem exec_noCrosscheck_of_due (hmeas : (s.segs.get (segOf k)).smeas = true)
    (hrun : (s.segs.get (segOf k)).st = .running) (hin : s.excluded k = false)
    (hfirst : (s.meas.get k).noCheckRaised = false) (hlate : (s.meas.get k).lastCheck + 1000000000 ≤ s.now) :
    exec (.noCrosscheck k) s = .next ((s.modMeas k (fun m => { m with noCheckRaised := true })).segReport
      (segOf k) (cellReport s.now .noCrosscheck k 0 0 0)).settle := by
  refine if_pos ?_
  rw [hmeas, hrun, hin, hfirst, decide_eq_true hlate]
  rfl

variable (s k)

/-- The edges of a cell's CAPTURE pairs whose burst is due and has not been taken. -/
def State.dueCaptures : List EdgeRec :=
  (s.captured k).filter (fun e => decide (s.now < e.pairSlot + 4000 + s.tCyc) && decide (e.pairSlot + 27500 ≤ s.now) &&
    !((s.meas.get k).caps.any (fun b => b.edge.pairSlot == e.pairSlot)))

/-- A captured edge goes before another of the segment whose window it meets: the earlier, or that of the lower cell. -/
def goesBefore (k j : Cell) (e f : EdgeRec) : Bool :=
  decide (f.pairSlot - 4000 < e.pairSlot - 4000 + 32000) && decide (e.pairSlot - 4000 < f.pairSlot - 4000 + 32000) &&
    (decide (f.pairSlot - 4000 < e.pairSlot - 4000) || (f.pairSlot - 4000 == e.pairSlot - 4000 && decide (j < k)))

theorem goesBefore_iff {k j : Cell} {e f : EdgeRec} (he : 4000 ≤ e.pairSlot) (hf : 4000 ≤ f.pairSlot) :
    goesBefore k j e f = true ↔ f.pairSlot < e.pairSlot + 32000 ∧ e.pairSlot < f.pairSlot + 32000 ∧
      (f.pairSlot < e.pairSlot ∨ (f.pairSlot = e.pairSlot ∧ j < k)) := by
  simp only [goesBefore, Bool.and_eq_true, Bool.or_eq_true, decide_eq_true_eq, beq_iff_eq, and_assoc,
    tsub_add_eq_add_tsub he, tsub_add_eq_add_tsub hf, tsub_lt_tsub_iff_right hf, tsub_lt_tsub_iff_right he,
    tsub_left_inj hf he]

/-- Another captured edge of the segment goes before. -/
def State.clashes (e : EdgeRec) : Bool :=
  (cellsOf (segOf k)).any (fun j => j != k && (s.captured j).any (fun f => goesBefore k j e f))

theorem State.clashes_iff {e : EdgeRec} (he : 4000 ≤ e.pairSlot)
    (hall : ∀ f, (∃ j, f ∈ s.captured j) → 4000 ≤ f.pairSlot) :
    s.clashes k e = true ↔ ∃ j ∈ cellsOf (segOf k), j ≠ k ∧ ∃ f ∈ s.captured j, f.pairSlot < e.pairSlot + 32000 ∧
      e.pairSlot < f.pairSlot + 32000 ∧ (f.pairSlot < e.pairSlot ∨ (f.pairSlot = e.pairSlot ∧ j < k)) := by
  simp only [State.clashes, List.any_eq_true, Bool.and_eq_true, bne_iff_ne]
  refine exists_congr fun j => and_congr_right fun _ => and_congr_right fun _ => exists_congr fun f =>
    and_congr_right fun hf => goesBefore_iff he (hall f ⟨j, hf⟩)

/-- The burst around a captured edge. -/
def State.burstOf (samples : List Int) (e : EdgeRec) : Burst :=
  let ended := e.step1 / 1000 * 1000
  let pre := ((s.meas.get k).vHist.filter (fun h =>
    decide (h.1 + 1000 ≤ ended) && decide (ended ≤ h.1 + 8000))).map Prod.snd
  ⟨e, e.pairSlot - 4000, (samples.take 64).map (fun v => 200 * s.verified (segOf k) v (-5000) 27500), false, pre, [], false⟩

variable {s k}

theorem exec_capture_of_due {samples : List Int} {e : EdgeRec} (hcyc : s.cycling = true)
    (hmeas : (s.segs.get (segOf k)).smeas = true) (hon : (s.segs.get (segOf k)).st ≠ .unpowered)
    (hdue : (s.dueCaptures k).head? = some e) :
    exec (.capture k samples) s =
      if s.clashes k e = true then
        if s.shunts.clashAt = some s.play.cycleStart then s.done
        else .next ((s.modShunts (fun m => { m with clashAt := some s.play.cycleStart })).segReport (segOf k)
          (cellReport s.now .captureClash k 0 0 0)).settle
      else .next (s.modMeas k (fun m => { m with caps := m.caps ++ [s.burstOf k samples e] })).settle := by
  have hguard : ¬(!s.cycling || !(s.segs.get (segOf k)).smeas || (s.segs.get (segOf k)).st == .unpowered) = true := by
    rw [hcyc, hmeas, beq_eq_false_iff_ne.2 hon]
    decide
  refine (if_neg hguard).trans ?_
  change (match (s.dueCaptures k).head? with
    | none => s.done
    | some e => if s.clashes k e = true then
        if s.shunts.clashAt = some s.play.cycleStart then s.done
        else ((s.modShunts (fun m => { m with clashAt := some s.play.cycleStart })).segReport (segOf k)
          (cellReport s.now .captureClash k 0 0 0)).done
      else (s.modMeas k (fun m => { m with caps := m.caps ++ [s.burstOf k samples e] })).done) = _
  rw [hdue]
  rfl

end

/-! ### The obligation -/

/-- Settles O42: one equation per event, and what each leaves in the measurement. -/
theorem cellMeasurement : Obligations.CellMeasurement := by
  refine ⟨fun s k uv hmeas hon hnew => ?conversion, fun s k h rest hheld hdue => ?cover,
    fun s k value hmeas hon => ⟨fun v hwin hfree hcap hwithin hturn => ?turn,
      fun a hwin hfree hcap hen hskip hmoved => ?window⟩,
    fun s k raw a z hserved => ?visit, fun s k miss => ⟨fun hserved hbelow => ?below, fun hserved hreached hen => ?takeover,
      fun hserved hmiss hslice hpasses => ?giveBack⟩,
    fun s g r => ⟨(State.segReport_touch (TouchM.refl 512 s) g r).touch [.links], s.segReport_link g r⟩,
    fun s g value v hmeas hon => ?stack, fun s k => exec_noCrosscheck_of_due,
    fun s k samples e hcyc hmeas hon hdue => ?capture⟩
  case conversion =>
    obtain ⟨hlast4, hlastSlot, hmon, hothers⟩ := s.convertSlot_monitorKept k uv
    obtain ⟨htaken4, htakenSlot, htakenMon⟩ := s.takeSlot_get_self k uv
    exact ⟨s.convertSlot k uv, exec_slotConversion_of_new uv hmeas hon hnew,
      (s.convertSlot_touch k uv).touch [.meas, .links, .shunts], hlast4.trans htaken4, hlastSlot.trans htakenSlot,
      hmon.trans htakenMon, fun j hj => (hothers j hj).trans (s.takeSlot_get_ne k uv hj)⟩
  case cover =>
    exact ⟨s.dropHeld k h rest, exec_coverTimeout_of_due hheld hdue,
      (s.dropHeld_touch k h rest).touch [.meas, .links, .shunts], s.dropHeld_get k h rest⟩
  case turn =>
    have hexec : exec (.verifierVisit (.cell k) value) s =
        .next (s.visitCell k value (s.now / 1000 * 1000 - 18000) (s.now / 1000 * 1000) v).settle :=
      exec_verifierVisit_cell value hmeas hon (State.visitStart_of_turn hwin) hfree hcap
      (State.cellTurn_of_turn hwin hwithin hturn)
    refine ⟨fun hstill => ?_, fun hmoved hset => ?_⟩
    · rw [hexec, State.visitCell_of_still hstill]
      rfl
    · rw [hexec, State.visitCell_of_moved hmoved]
      exact congrArg _ (State.settle_eq hset)
  case window =>
    rw [exec_verifierVisit_cell value hmeas hon (State.visitStart_of_window hwin) hfree hcap
      (State.cellTurn_of_window hwin hen hskip), State.visitCell_of_still hmoved]
    rfl
  case visit =>
    refine ⟨fun hnone => ?_, fun p hmean => ?_⟩
    · rw [State.cellVisit_of_not_served hserved, hnone]
      rfl
    · rw [State.cellVisit_of_not_served hserved, hmean]
      rfl
  case below =>
    rw [State.crossCheck_below hserved hbelow]
    refine ⟨?_, ?_, ?_, (s.noteCheck_touch k miss).touch [.meas]⟩
    · rw [State.noteCheck, State.modMeas_meas, Vec.get_modify_self]
      exact Nat.min_eq_left hbelow.le
    · rw [State.noteCheck, State.modMeas_meas, Vec.get_modify_self]
      exact hserved
    · rw [State.noteCheck, State.modMeas_meas, Vec.get_modify_self]
  case takeover =>
    refine ⟨_, State.crossCheck_takesOver hserved hreached hen,
      (State.modMeas_touch (s.noteCheck_touch k miss) k _).touch [.meas], ?_⟩
    rw [State.beginService, State.modMeas_meas, Vec.get_modify_self]
  case giveBack =>
    subst hmiss
    refine ⟨_, State.crossCheck_givesBack hserved hslice hpasses,
      (State.modMeas_touch (s.noteCheck_touch k false) k _).touch [.meas], ?_⟩
    rw [State.endService, State.modMeas_meas, Vec.get_modify_self]
    exact ⟨rfl, rfl⟩
  case stack =>
    intro z a hfree hcap hwithin hturn hstream hlow hmeans r sum far put
    have hexec : exec (.verifierVisit (.stack g) value) s = .next ((s.putVerifier g v).stackVisit g value a z).settle :=
      exec_verifierVisit_stack value hmeas hon hfree hcap hwithin hturn
    have hlow' := (s.putVerifier_classAt g v).trans hlow
    refine ⟨fun hnear hset => ?_, fun hfar hwas => ?_, fun hfar hwas hset => ?_⟩
    · rw [hexec, State.stackVisit_of_means (s := s.putVerifier g v) hstream hlow' hmeans (decide_eq_false hnear),
        State.judgeStack_pass]
      exact congrArg _ (State.settle_eq hset)
    · rw [hexec, State.stackVisit_of_means (s := s.putVerifier g v) hstream hlow' hmeans (decide_eq_true hfar),
        State.judgeStack_third (s := s.putVerifier g v) _ _ hwas]
      rfl
    · rw [hexec, State.stackVisit_of_means (s := s.putVerifier g v) hstream hlow' hmeans (decide_eq_true hfar),
        State.judgeStack_miss (s := s.putVerifier g v) _ _ hwas]
      exact congrArg _ (State.settle_eq hset)
  case capture =>
    intro clash hall he
    have hexec := exec_capture_of_due (samples := samples) hcyc hmeas hon hdue
    have hclash : s.clashes k e = true ↔ clash := s.clashes_iff k he hall
    refine ⟨fun hfree => ⟨s.burstOf k samples e, ?_, rfl, rfl, rfl⟩, fun hmeets hfirst => ?_⟩
    · rw [hexec, if_neg fun h => hfree (hclash.1 h)]
    · rw [hexec, if_pos (hclash.2 hmeets), if_neg hfirst]
      rfl

end Sys2Proof.Machine
end

section
/-!
PROOFS. Contacts (chapter 05): one equation per event, and what an evaluation of a cell's contacts does to the cell paths
and raises.
-/

namespace Sys2Proof.Machine

/-! ### A cell parked for its contacts (R48, R172, R173) -/

section
variable (s : State) (k : Cell)

theorem State.park_cells_ne (code : Nat) {j : Cell} (h : j ≠ k) : (s.park k code).cells.get j = s.cells.get j := by
  have hmod (u : State) (f : CellPath → CellPath) : (u.modCell k f).cells.get j = u.cells.get j :=
    Vec.get_modify_ne _ _ h.symm
  unfold State.park
  dsimp only
  split
  · split
    · rfl
    · split
      · exact hmod _ _
      · split
        · split
          · exact (hmod _ _).trans (hmod _ _)
          · exact hmod _ _
        · exact (hmod _ _).trans (hmod _ _)
  · split
    · rw [(State.disturbOpen_touch (TouchM.refl 4128 _) k).same .cells rfl]
      exact hmod _ _
    · split
      · exact (hmod _ _).trans (hmod _ _)
      · split
        · exact (hmod _ _).trans (hmod _ _)
        · exact (hmod _ _).trans (hmod _ _)
    · exact hmod _ _
    · exact hmod _ _
    · rfl

variable {s k}

/-- Cause CONTACT of an IN cell without a transition: the cell is commutated out with it. -/
theorem State.parkContact_of_isIn (htr : (s.cells.get k).tr = none) (hst : (s.cells.get k).st = .isIn) :
    ((s.park k 6).cells.get k).hasCause 6 = true := by
  have hpark : s.park k 6 = (s.modCell k (fun c => c.addCause 6 s.now)).commutate k false .park none 0 false := by
    simp only [State.park, htr, hst]
    rfl
  rw [hpark, State.commutate, CellPath.hasCause, State.startSeq_causes, State.modCell_cells, Vec.get_modify_self]
  exact CellPath.hasCause_addCause _ s.now (by decide)

/-- Cause CONTACT of an OPEN cell: the cell is in PARK with it. -/
theorem State.parkContact_of_isOpen (htr : (s.cells.get k).tr = none) (hst : (s.cells.get k).st = .isOpen) :
    ((s.park k 6).cells.get k).st = .park ∧ ((s.park k 6).cells.get k).hasCause 6 = true := by
  have hpark : s.park k 6 = (s.modCell k (fun c => { c.addCause 6 s.now with
      st := .park, fromPark := false, gates := s2on, openUntil := s.now })).disturbOpen k := by
    simp only [State.park, htr, hst]
  rw [hpark, (State.disturbOpen_touch (TouchM.refl 4128 _) k).same .cells rfl, State.modCell_cells, Vec.get_modify_self]
  exact ⟨rfl, CellPath.hasCause_addCause _ s.now (by decide)⟩

end

section
variable (s : State) (k : Cell) (rp rn : Int)

/-- Cause CONTACT acts on a cell, and CONTACT_PARK is raised with both poles' resistances. -/
def State.parkForContact : State := (s.park k 6).raise .contactPark (some (segOf k)) (some k) (wordI rp) (wordI rn) 0

theorem State.parkForContact_cells : (s.parkForContact k rp rn).cells = (s.park k 6).cells := rfl

theorem State.parkForContact_due : ∃ r ∈ (s.parkForContact k rp rn).flt.due,
    r.1.src = .contactPark ∧ r.1.cell = some k ∧ r.1.arg0 = wordI rp ∧ r.1.arg1 = wordI rn := by
  rw [State.parkForContact, State.raise_due]
  exact ⟨_, List.mem_append_right _ List.mem_cons_self, rfl, rfl, rfl, rfl⟩

/-! ### Evaluations of an IN cell (R172, R204) -/

/-- Evaluations above the limit in a row, with this one. -/
def State.contactCount (r : Int) (n : Nat) : Nat :=
  countAbove (decide ((s.contactLimit : Int) < r)) n (s.fld Fld.measContactLimitCount)

/-- Both counts of a cell with an evaluation that saturated neither pole. -/
def State.countContact : State :=
  s.modMeas k (fun m => { m with
    contP := s.contactCount rp (s.meas.get k).contP, contN := s.contactCount rn (s.meas.get k).contN })

/-- The evaluation enters the CONTACT kernel, where it is enabled. -/
def State.recordContact (lim i : Int) (z : Nat) : State :=
  if s.kernelsNow.getLsbD 5 then
    let s := if decide (lim < rp) || decide (lim < rn) then
        s.contactRecord k 0 (some rp) (some rn) none none i lim 1 false false z z (s.meas.get k).distCount
      else s
    let s := s.modAna k (fun a => { a with
      cFrom := if a.cN = 0 then z else a.cFrom
      cTo := z
      cDist0 := if a.cN = 0 then (s.meas.get k).distCount else a.cDist0
      cMaxP := if a.cN = 0 then rp else max a.cMaxP rp
      cMaxN := if a.cN = 0 then rn else max a.cMaxN rn
      cN := a.cN + 1, cSumP := a.cSumP + rp, cSumN := a.cSumN + rn, cSumI := a.cSumI + i })
    if 256 ≤ (s.ana.get k).cN then s.contactSummary k else s
  else s

/-- An evaluation that saturated neither pole brings one of the counts to COUNT. -/
def State.reachesCount : Bool :=
  decide (s.fld Fld.measContactLimitCount ≤ s.contactCount rp (s.meas.get k).contP) ||
    decide (s.fld Fld.measContactLimitCount ≤ s.contactCount rn (s.meas.get k).contN)

/-- The counts that reached COUNT fall back by one as the cell is parked. -/
def State.lowerCounts (np nn : Nat) : State :=
  s.modMeas k (fun m => { m with
    contP := if s.fld Fld.measContactLimitCount ≤ np then s.fld Fld.measContactLimitCount - 1 else np
    contN := if s.fld Fld.measContactLimitCount ≤ nn then s.fld Fld.measContactLimitCount - 1 else nn })

theorem State.recordContact_touch {s₀ : State} (h : TouchM 34152608 s₀ s) (lim i : Int) (z : Nat) :
    TouchM 34152608 s₀ (s.recordContact k rp rn lim i z) := by
  unfold State.recordContact
  split
  · dsimp only
    split
    all_goals split
    · exact State.contactSummary_touch (State.modAna_touch (State.contactRecord_touch h k _ _ _ _ _ _ _ _ _ _ _ _ _) k _) k
    · exact State.modAna_touch (State.contactRecord_touch h k _ _ _ _ _ _ _ _ _ _ _ _ _) k _
    · exact State.contactSummary_touch (State.modAna_touch h k _) k
    · exact State.modAna_touch h k _
  · exact h

/-- An evaluation up to the judgement of its counts. -/
def State.evaluateContact (i : Int) (z : Nat) : State :=
  (s.countContact k rp rn).recordContact k rp rn s.contactLimit i z

theorem State.evaluateContact_touch (i : Int) (z : Nat) : TouchM 34152608 s (s.evaluateContact k rp rn i z) :=
  State.recordContact_touch _ k rp rn (State.modMeas_touch (TouchM.refl _ s) k _) _ i z

/-- An evaluation that saturated neither pole: a count that reaches COUNT parks the cell. -/
theorem State.contactUnder_eq (i : Int) (z : Nat) : s.contactUnder k rp rn i false false z =
    if s.reachesCount k rp rn = true then
      ((s.evaluateContact k rp rn i z).lowerCounts k (s.contactCount rp (s.meas.get k).contP)
        (s.contactCount rn (s.meas.get k).contN)).parkForContact k rp rn
    else s.evaluateContact k rp rn i z := by
  rw [State.lowerCounts, (s.evaluateContact_touch k rp rn i z).fld]
  rfl

variable {s k rp rn}

theorem State.contactCount_below {r : Int} (h : r ≤ s.contactLimit) (n : Nat) : s.contactCount r n = 0 := by
  rw [State.contactCount, decide_eq_false (Int.not_lt.2 h)]
  rfl

theorem State.contactCount_above {r : Int} {n : Nat} (h : (s.contactLimit : Int) < r)
    (hn : s.fld Fld.measContactLimitCount ≤ n + 1) : s.contactCount r n = s.fld Fld.measContactLimitCount := by
  rw [State.contactCount, decide_eq_true h]
  exact Nat.min_eq_left hn

/-! ### Continuity tests of an OPEN cell (R173) -/

/-- A test disturbs the cell and enters the CONTACT kernel, where it is enabled. -/
def State.testOpen (s : State) (k : Cell) (pos neg lim : Int) (z : Nat) : State :=
  let s := s.disturb k (z - 16000) (z + s.guardNs)
  if s.kernelsNow.getLsbD 5 then
    s.contactRecord k 2 (some (100 * pos)) (some (100 * neg)) none none 10000 lim 1 false false z z (s.meas.get k).distCount
  else s

theorem State.testOpen_touch (s : State) (k : Cell) (pos neg lim : Int) (z : Nat) :
    TouchM 34156576 s (s.testOpen k pos neg lim z) := by
  have hdisturbed : TouchM 34156576 s (s.disturb k (z - 16000) (z + s.guardNs)) :=
    State.disturb_touch (TouchM.refl _ s) k _ _
  unfold State.testOpen
  dsimp only
  split
  · exact State.contactRecord_touch hdisturbed k _ _ _ _ _ _ _ _ _ _ _ _ _
  · exact hdisturbed

/-- A test that shows a pole above OPEN_LIMIT. -/
def State.openAbove (s : State) (pos neg : Int) : Bool :=
  decide (10000 * (s.fld Fld.measContactLimitOpenLimit : Int) < 100 * pos) ||
    decide (10000 * (s.fld Fld.measContactLimitOpenLimit : Int) < 100 * neg)

/-- A test that saturated neither pole. -/
theorem State.contactOpen_eq (s : State) (k : Cell) (pos neg : Int) (z : Nat) : s.contactOpen k pos neg false false z =
    if s.openAbove pos neg = true then
      (s.testOpen k pos neg (10000 * s.fld Fld.measContactLimitOpenLimit) z).parkForContact k (100 * pos) (100 * neg)
    else s.testOpen k pos neg (10000 * s.fld Fld.measContactLimitOpenLimit) z := rfl

end

/-! ### CONTACT_VISIT (R171) -/

section
variable (s : State) (k : Cell)

/-- The rotation of contact visits goes on after the cell. -/
def State.turnContact : State :=
  (s.modSeg (segOf k) (fun x => { x with verifier := { x.verifier with contact := (localOf k + 1) % 16 } })).modMeas k
    (fun m => { m with contRound := some (s.segs.get (segOf k)).verifier.round })

theorem State.turnContact_served : ((s.turnContact k).meas.get k).served = (s.meas.get k).served := by
  rw [State.turnContact, State.modMeas_meas, Vec.get_modify_self]
  rfl

/-- Both poles' values of a visit that ended at z go to the hub. -/
def State.sendPoles (pos neg : Int) (satP satN : Bool) (z : Nat) (isIn served : Bool) : State :=
  (s.sendUp (segOf k) (.output k 3 ⟨pos, z, false, isIn, satP, served⟩)).sendUp (segOf k)
    (.output k 4 ⟨neg, z, false, isIn, satN, served⟩)

/-- A visit is entered. -/
def State.enterContact (pos neg : Int) (satP satN : Bool) : State :=
  (s.turnContact k).sendPoles k pos neg satP satN s.contactEnd ((s.cells.get k).st == .isIn) (s.meas.get k).served

end

/-- The hub's judgement of a visit that ended at z: of an IN cell over the mean shunt currents, of an OPEN cell over
10 mA. -/
def judgeVisit (k : Cell) (pos neg : Int) (satP satN : Bool) (z : Nat) (a : State) : Host.Outcome State Fault Refusal :=
  match (a.cells.get k).st, a.meanShunt (z - 16000) (z - 8000), a.meanShunt (z - 8000) z with
  | .isIn, some ip, some iN =>
    (a.contactUnder k (divI (1000000 * pos) ip) (divI (1000000 * neg) iN) (divI (ip + iN) 2) satP satN z).done
  | .isOpen, _, _ => (a.contactOpen k pos neg satP satN z).done
  | _, _, _ => a.done

section
variable {s : State} {k : Cell}

theorem exec_contactVisit_of_next {pos neg : Int} {satP satN : Bool} (hmeas : (s.segs.get (segOf k)).smeas = true)
    (hon : (s.segs.get (segOf k)).st ≠ .unpowered) (hup : s.linkUp (segOf k) = true)
    (hen : s.flag Fld.measCtrlVerifyEn = true) (hstream : s.streams (segOf k) 6 = false)
    (hcap : s.capturing (segOf k) (s.contactEnd - 18000) s.contactEnd = false)
    (hnext : s.nextContact (segOf k) s.contactEnd = some k) :
    exec (.contactVisit k pos neg satP satN) s =
      judgeVisit k pos neg satP satN s.contactEnd (s.enterContact k pos neg satP satN) := by
  have hguard : ¬(!(s.segs.get (segOf k)).smeas || (s.segs.get (segOf k)).st == .unpowered || !s.linkUp (segOf k) ||
      !s.flag Fld.measCtrlVerifyEn || s.capturing (segOf k) (s.contactEnd - 18000) s.contactEnd ||
      s.nextContact (segOf k) s.contactEnd != some k) = true := by
    rw [hmeas, beq_eq_false_iff_ne.2 hon, hup, hen, hcap, hnext, bne_self_eq_false]
    decide
  have hquiet : (s.enterContact k pos neg satP satN).streamContact k pos neg satP satN s.contactEnd =
      s.enterContact k pos neg satP satN := by
    have hoff : (s.enterContact k pos neg satP satN).streams (segOf k) 6 = false := hstream
    refine if_neg ?_
    rw [hoff, Bool.false_and]
    decide
  rw [State.enterContact, ← State.turnContact_served] at hquiet
  rw [State.enterContact, ← State.turnContact_served]
  refine (if_neg hguard).trans ?_
  change judgeVisit k pos neg satP satN s.contactEnd (State.streamContact _ k pos neg satP satN s.contactEnd) = _
  exact congrArg _ hquiet

theorem judgeVisit_of_isIn {pos neg ip iN : Int} {satP satN : Bool} {z : Nat} (hst : (s.cells.get k).st = .isIn)
    (hp : s.meanShunt (z - 16000) (z - 8000) = some ip) (hn : s.meanShunt (z - 8000) z = some iN) :
    judgeVisit k pos neg satP satN z s = .next (s.contactUnder k (divI (1000000 * pos) ip) (divI (1000000 * neg) iN)
      (divI (ip + iN) 2) satP satN z).settle := by
  simp only [judgeVisit, hst, hp, hn, State.done]

theorem judgeVisit_of_isOpen {pos neg : Int} {satP satN : Bool} {z : Nat} (hst : (s.cells.get k).st = .isOpen) :
    judgeVisit k pos neg satP satN z s = .next (s.contactOpen k pos neg satP satN z).settle := by
  simp only [judgeVisit, hst, State.done]

/-- An eligible cell has rested, is not excluded and has no transition; it is IN with current, or OPEN. -/
theorem State.contactEligible_cases {z : Nat} (h : s.contactEligible k z = true) :
    s.excluded k = false ∧ (s.cells.get k).tr = none ∧
      (((s.cells.get k).st = .isIn ∧ s.flag Fld.measCtrlContactEn = true ∧ s.overlap k (z - 18000) z = 18000 ∧
          s.shuntHigh (z - 18000) z = true) ∨
        ((s.cells.get k).st = .isOpen ∧ s.flag Fld.measCtrlOpenTestEn = true)) := by
  unfold State.contactEligible at h
  simp only [Bool.and_eq_true, Bool.not_eq_true', Option.isNone_iff_eq_none] at h
  obtain ⟨⟨⟨-, hin⟩, ⟨htr, -⟩, -⟩, hplace⟩ := h
  refine ⟨hin, htr, ?_⟩
  cases hst : (s.cells.get k).st with
  | isIn =>
    simp only [hst, Bool.and_eq_true, beq_iff_eq] at hplace
    obtain ⟨⟨hen, hover⟩, hhigh⟩ := hplace
    exact .inl ⟨rfl, hen, hover, hhigh⟩
  | isOpen =>
    simp only [hst] at hplace
    exact .inr ⟨rfl, hplace⟩
  | bypass | park | keep =>
    simp only [hst, Bool.false_eq_true] at hplace

end
end Sys2Proof.Machine
end

section
/-!
PROOFS. The shunts and the streams (chapter 05): one equation per event, what a slot's mean leaves, and the obligation about
the measurement of the string.
-/

namespace Sys2Proof.Machine

/-! ### SHUNT_SLOT_MEAN (R167, R168) -/

/-- The string current of the latest slot is as it was. -/
structure CurrentKept (s t : State) : Prop where
  iSlot : t.shunts.iSlot = s.shunts.iSlot
  iShunt : t.shunts.iShunt = s.shunts.iShunt
  iT : t.shunts.iT = s.shunts.iT

section
variable {s₀ s t : State}

theorem CurrentKept.of_shunts (h : CurrentKept s₀ s) (hs : t.shunts = s.shunts) : CurrentKept s₀ t := by
  obtain ⟨hslot, hi, hit⟩ := h
  exact ⟨by rw [hs, hslot], by rw [hs, hi], by rw [hs, hit]⟩

theorem CurrentKept.modShunts (h : CurrentKept s₀ s) {f : Meas → Meas} (hslot : ∀ m, (f m).iSlot = m.iSlot)
    (hi : ∀ m, (f m).iShunt = m.iShunt) (hit : ∀ m, (f m).iT = m.iT) : CurrentKept s₀ (s.modShunts f) :=
  ⟨(hslot _).trans h.iSlot, (hi _).trans h.iShunt, (hit _).trans h.iT⟩

theorem CurrentKept.ite {c : Prop} [Decidable c] {u : State} (ht : CurrentKept s₀ t) (hu : CurrentKept s₀ u) :
    CurrentKept s₀ (if c then t else u) := by
  split
  · exact ht
  · exact hu

theorem CurrentKept.sendUp (h : CurrentKept s₀ s) (g : Seg) (m : UpMsg) : CurrentKept s₀ (s.sendUp g m) :=
  h.of_shunts rfl

theorem CurrentKept.streamOut (h : CurrentKept s₀ s) (g : Seg) (w : BitVec 64) : CurrentKept s₀ (s.streamOut g w) := by
  have hms : CurrentKept s₀ (if s.now / 1000000 = s.shunts.strMs then s
      else s.modShunts (fun m => { m with strMs := s.now / 1000000, strSent := m.strSent.map (fun _ => 0) })) :=
    CurrentKept.ite h (h.modShunts (fun _ => rfl) (fun _ => rfl) (fun _ => rfl))
  unfold State.streamOut
  dsimp only
  refine CurrentKept.ite (CurrentKept.sendUp ?_ g _) ?_
  all_goals exact hms.modShunts (fun _ => rfl) (fun _ => rfl) (fun _ => rfl)

theorem CurrentKept.streamShunt (h : CurrentKept s₀ s) (g : Seg) (slot : Nat) (x : Int × Nat × Bool) :
    CurrentKept s₀ (s.streamShunt g slot x) := CurrentKept.ite (h.streamOut g _) h

theorem CurrentKept.streamSlots (h : CurrentKept s₀ s) (slot : Nat) (b t : Option Int) :
    CurrentKept s₀ (s.streamSlots slot b t) := by
  unfold State.streamSlots
  refine CurrentKept.streamShunt (CurrentKept.streamShunt ?_ _ _ _) _ _ _
  exact h.modShunts (fun _ => rfl) (fun _ => rfl) (fun _ => rfl)

theorem State.sendDown_shunts (s : State) (g : Seg) (m : DownMsg) : (s.sendDown g m).shunts = s.shunts :=
  (State.sendDown_touch (TouchM.refl 512 s) g m).same .shunts rfl

theorem CurrentKept.sendSlots (h : CurrentKept s₀ s) (slot : Nat) (it : Option Int) :
    CurrentKept s₀ (s.sendSlots slot it) := by
  have hnoted (l : List (Option Int)) : CurrentKept s₀ (s.modShunts (fun m => { m with iTs := l })) :=
    h.modShunts (fun _ => rfl) (fun _ => rfl) (fun _ => rfl)
  unfold State.sendSlots
  refine CurrentKept.ite (hnoted _) ?_
  unfold each
  exact List.foldlRecOn _ _ (hnoted _) fun u hu g _ => hu.of_shunts (u.sendDown_shunts g _)

theorem CurrentKept.checkShunts (h : CurrentKept s₀ s) : CurrentKept s₀ s.checkShunts := by
  have hjudged (b : Bool) : CurrentKept s₀ (s.modShunts (fun m => { m with noShuntRaised := b })) :=
    h.modShunts (fun _ => rfl) (fun _ => rfl) (fun _ => rfl)
  have hepisode : CurrentKept s₀ (if s.shunts.noShuntRaised then s
      else (s.modShunts (fun m => { m with noShuntRaised := true })).raise .noShunt none none 0 0 0) :=
    CurrentKept.ite h ((hjudged true).of_shunts rfl)
  unfold State.checkShunts
  refine CurrentKept.ite (hjudged false) ?_
  cases s.st with
  | ready | run | halt | orphan | drydown | shutdownLatched => exact hepisode
  | off | boot | startupTest | dormant => exact h

end

section
variable (s : State) (slot : Nat) (bottom top i it : Option Int)

/-- The slot's currents enter the histories and the millisecond. -/
def State.takeCurrent : State :=
  s.modShunts (fun m => { m with
    iShunt := i, iT := it, iSlot := slot + 1000
    iHist := ((slot, it) :: m.iHist).take 4400
    shHist := ((slot, i) :: m.shHist).take 64
    msB := m.msB + (if top.isSome then bottom.getD 0 else 0)
    msT := m.msT + (if bottom.isSome then top.getD 0 else 0)
    msN := m.msN + (if bottom.isSome && top.isSome then 1 else 0) })

/-- The slot counts for the cycle's mean current. -/
def State.countCurrent : State :=
  if s.cycling then s.modPlay (fun p => { p with cycAbs := p.cycAbs + (i.getD 0).natAbs, cycN := p.cycN + 1 }) else s

/-- And for the step's charge. -/
def State.countCharge : State :=
  match s.results.stepFrom with
  | some t => if t ≤ slot then s.modRes (fun r => { r with
      qString := r.qString + 1000 * it.getD 0, iGap := r.iGap || it.isNone }) else s
  | none => s

theorem State.quietSlot_shunts : (s.quietSlot slot bottom top).shunts = s.shunts :=
  (State.quietSlot_touch (TouchM.refl 8192 s) slot bottom top).same .shunts rfl

theorem State.countCurrent_shunts : (s.countCurrent i).shunts = s.shunts := by
  unfold State.countCurrent
  split <;> rfl

theorem State.countCharge_shunts : (s.countCharge slot it).shunts = s.shunts := by
  unfold State.countCharge
  split
  · split <;> rfl
  · rfl

/-- All that a slot's means do. -/
def State.slotMean : State :=
  ((((((s.takeCurrent slot bottom top i it).quietSlot slot bottom top).countCurrent i).countCharge slot it).streamSlots
    slot bottom top).sendSlots slot it).checkShunts

theorem State.slotMean_currentKept :
    CurrentKept (s.takeCurrent slot bottom top i it) (s.slotMean slot bottom top i it) := by
  have hkept : CurrentKept (s.takeCurrent slot bottom top i it)
      ((((s.takeCurrent slot bottom top i it).quietSlot slot bottom top).countCurrent i).countCharge slot it) :=
    CurrentKept.of_shunts ⟨rfl, rfl, rfl⟩
      (by rw [State.countCharge_shunts, State.countCurrent_shunts, State.quietSlot_shunts])
  exact ((hkept.streamSlots slot bottom top).sendSlots slot it).checkShunts

theorem State.countCurrent_touch {s₀ : State} (h : TouchM 1062400 s₀ s) : TouchM 1062400 s₀ (s.countCurrent i) := by
  unfold State.countCurrent
  split
  · exact State.modPlay_touch h _
  · exact h

theorem State.countCharge_touch {s₀ : State} (h : TouchM 1062400 s₀ s) : TouchM 1062400 s₀ (s.countCharge slot it) := by
  unfold State.countCharge
  split
  · split
    · exact State.modRes_touch h _
    · exact h
  · exact h

theorem State.slotMean_touch : TouchM 1062400 s (s.slotMean slot bottom top i it) := by
  have htaken : TouchM 1062400 s (s.takeCurrent slot bottom top i it) := State.modShunts_touch (TouchM.refl _ s) _
  have hcounted := State.countCharge_touch _ slot it
    (State.countCurrent_touch _ i (State.quietSlot_touch htaken slot bottom top))
  exact State.checkShunts_touch (State.sendSlots_touch (State.streamSlots_touch hcounted _ _ _) _ _)

end

/-- I_t of a slot: the same mean of the shunts less their zero estimates. -/
def State.stringCurrent (s : State) (useB useT : Bool) (bottom top : Option Int) : Option Int :=
  combine useB useT (bottom.map (fun x => x - s.results.zeroB.getD 0)) (top.map (fun x => x - s.results.zeroT.getD 0))

theorem exec_shuntSlotMean_of_next {s : State} {bottomRaw topRaw : Option Int} (hpow : s.powered = true)
    (hslot : s.shunts.iSlot ≠ 0) (hnear : s.now ≤ s.shunts.iSlot + 64000) (hover : s.shunts.iSlot + 1000 ≤ s.now)
    (hbottom : s.shuntServes false (s.shuntMean false bottomRaw).isSome = true → s.shuntMean false bottomRaw ≠ none)
    (htop : s.shuntServes true (s.shuntMean true topRaw).isSome = true → s.shuntMean true topRaw ≠ none) :
    exec (.shuntSlotMean bottomRaw topRaw) s =
      let bottom := s.shuntMean false bottomRaw
      let top := s.shuntMean true topRaw
      let useB := s.shuntServes false bottom.isSome
      let useT := s.shuntServes true top.isSome
      .next (s.slotMean s.shunts.iSlot bottom top (combine useB useT bottom top)
        (s.stringCurrent useB useT bottom top)).settle := by
  have hpresent (use : Bool) (x : Option Int) (h : use = true → x ≠ none) : ¬(use && x.isNone) = true := by
    simpa only [Bool.and_eq_true, Option.isNone_iff_eq_none, not_and] using h
  have hguard : ¬(s.now < s.shunts.iSlot + 1000 ∨ (!s.powered) = true ∨
      (s.shuntServes false (s.shuntMean false bottomRaw).isSome && (s.shuntMean false bottomRaw).isNone) = true ∨
      (s.shuntServes true (s.shuntMean true topRaw).isSome && (s.shuntMean true topRaw).isNone) = true) := by
    rintro (hearly | hoff | hgone | hgone)
    · exact Nat.not_lt.2 hover hearly
    · rw [hpow] at hoff
      exact absurd hoff (by decide)
    · exact hpresent _ _ hbottom hgone
    · exact hpresent _ _ htop hgone
  have hnext : ¬(s.shunts.iSlot = 0 ∨ s.shunts.iSlot + 64000 < s.now) :=
    fun h => h.elim hslot (Nat.not_lt.2 hnear)
  change execShuntSlotMean bottomRaw topRaw s = _
  unfold execShuntSlotMean
  dsimp only
  rw [if_neg hnext]
  exact if_neg hguard

/-- The string current is the mean of the shunts that serve the slot. -/
theorem combine_eq (b t : Option Int) : combine true true b t = (match b, t with
      | some x, some y => some (divI (x + y) 2)
      | some _, none => none
      | none, _ => none) ∧
    combine true false b t = b ∧ combine false true b t = t ∧ combine false false b t = none := by
  cases b <;> cases t <;> exact ⟨rfl, rfl, rfl, rfl⟩

/-! ### SHUNT_COMPARE (R169) -/

section
variable (s : State)

/-- The next millisecond begins. -/
def State.nextMilli : State :=
  (s.modShunts (fun m => { m with msStart := s.now / 1000000 * 1000000, msB := 0, msT := 0, msN := 0 })).modSpc
    (fun x => { x with iMilli := 0, iMilliN := 0 })

/-- Means of the millisecond, bottom and top. -/
def State.milliB : Int := divI s.shunts.msB (s.shunts.msN : Int)
def State.milliT : Int := divI s.shunts.msT (s.shunts.msN : Int)

/-- A mismatch of this millisecond is the DWELL-th in a row or a later one, and the first to be reported of its episode. -/
def State.reportsMismatch : Bool :=
  decide (s.fld Fld.measShuntXcheckDwellMs ≤ s.shunts.mismatchRun + 1) && !s.shunts.mismatchRaised

/-- The mismatch is reported, and the shunt farther from the SPC's mean excluded. -/
def State.raiseMismatch : State :=
  let x := s.farther s.milliB s.milliT
  (s.modShunts (fun m => { m with
    mismatchRun := s.shunts.mismatchRun + 1, mismatchRaised := true, exclB := m.exclB || x == 1
    exclT := m.exclT || x == 2 })).raise .shuntMismatch none none (wordI s.milliB) (wordI s.milliT) (word x)

variable {s}

theorem exec_shuntCompare_of_unused (hdue : s.shunts.msStart + 1000000 ≤ s.now)
    (hunused : s.shunts.msN = 0 ∨ s.shuntInUse false = false ∨ s.shuntInUse true = false) :
    exec .shuntCompare s = .next (s.modShunts (fun m => { m with mismatchRun := 0 })).nextMilli.settle := by
  refine (if_neg (Nat.not_lt.2 hdue)).trans (if_pos ?_)
  rcases hunused with h | h | h <;> simp [h]

/-- Of a millisecond in which both shunts are in use. -/
theorem exec_shuntCompare_of_used (hdue : s.shunts.msStart + 1000000 ≤ s.now) (hn : s.shunts.msN ≠ 0)
    (hbottom : s.shuntInUse false = true) (htop : s.shuntInUse true = true) :
    exec .shuntCompare s =
      if (s.milliB - s.milliT).natAbs ≤ 10 * s.fld Fld.measShuntXcheckLimit then
        .next (s.modShunts (fun m => { m with mismatchRun := 0, mismatchRaised := false })).nextMilli.settle
      else if s.reportsMismatch = true then
        .next s.raiseMismatch.nextMilli.settle
      else .next (s.modShunts (fun m => { m with mismatchRun := s.shunts.mismatchRun + 1 })).nextMilli.settle := by
  refine (if_neg (Nat.not_lt.2 hdue)).trans ((if_neg ?_).trans rfl)
  simp [hn, hbottom, htop]

end

/-! ### STREAM_MARK (R174) -/

/-- The mark of a segment's stream: the upper bits of line time in µs. -/
def State.markWord (s : State) : BitVec 64 :=
  streamWord ((s.now / 1000 / 2 ^ 24 % 2 ^ 24 : Nat) : Int) 0xFF s.now false false false false false

theorem exec_streamMark_of_due {s : State} {g : Seg} (hon : s.shunts.strOn = true)
    (hlive : s.shunts.strLive.getLsbD g.val = true)
    (hdue : s.shunts.lastMark.get g + 1000000 * s.fld Fld.measStreamCfgMarkMs ≤ s.now) :
    exec (.streamMark g) s =
      .next ((s.modShunts (fun m => { m with lastMark := m.lastMark.set g s.now })).streamOut g s.markWord).settle := by
  refine if_pos ?_
  rw [hon, hlive, decide_eq_true hdue]
  rfl

/-! ### The obligation -/

/-- Settles O43: one equation per event, and what an evaluation does to the cell paths. -/
theorem stringMeasurement : Obligations.StringMeasurement := by
  refine ⟨fun s k pos neg satP satN hmeas hon hup hen hstream => ?visit, fun s k z => State.contactEligible_cases,
    fun s k rp rn i z hcount => ⟨fun hp hn => ?within, fun hp hreached htr hst => ?parks⟩,
    fun s k pos neg z htr hst => ⟨fun hp hn => ?closed, fun habove => ?broken⟩,
    fun s bottomRaw topRaw hpow hslot hnear hover => ?slotMean, combine_eq,
    fun s hdue hn hbottom htop => ⟨fun hagree hset => ?agree, fun hfar hshort hset => ?counts,
      fun hfar hdwell hfirst => ?mismatch⟩,
    fun s hdue hset hunused => ?unused, fun s g => exec_streamMark_of_due⟩
  case visit =>
    intro z hcap hnext isIn served a b
    have hexec := exec_contactVisit_of_next (pos := pos) (neg := neg) (satP := satP) (satN := satN) hmeas hon hup hen
      hstream hcap hnext
    exact ⟨fun ip iN hst hp hn => hexec.trans (judgeVisit_of_isIn (s := s.enterContact k pos neg satP satN) hst hp hn),
      fun hst => hexec.trans (judgeVisit_of_isOpen (s := s.enterContact k pos neg satP satN) hst)⟩
  case within =>
    have hfew : ¬s.reachesCount k rp rn = true := by
      rw [State.reachesCount, State.contactCount_below hp, State.contactCount_below hn, Bool.or_self, decide_eq_true_eq]
      exact Nat.not_le.2 hcount
    have htouch := s.evaluateContact_touch k rp rn i z
    rw [State.contactUnder_eq, if_neg hfew]
    exact ⟨htouch.same .cells rfl, htouch.same .flt rfl⟩
  case parks =>
    have hmany : s.reachesCount k rp rn = true := by
      rw [State.reachesCount, State.contactCount_above hp hreached, decide_eq_true le_rfl, Bool.true_or]
    have hcells (np nn : Nat) : ((s.evaluateContact k rp rn i z).lowerCounts k np nn).cells = s.cells :=
      (s.evaluateContact_touch k rp rn i z).same .cells rfl
    rw [State.contactUnder_eq, if_pos hmany]
    refine ⟨State.parkForContact_due _ k rp rn, ?_, fun j hj => ?_⟩
    · rw [State.parkForContact_cells]
      refine State.parkContact_of_isIn ?_ ?_
      · rw [hcells, htr]
      · rw [hcells, hst]
    · rw [State.parkForContact_cells, State.park_cells_ne _ k 6 hj, hcells]
  case closed =>
    have hlow : ¬s.openAbove pos neg = true := by
      simp only [State.openAbove, Bool.or_eq_true, decide_eq_true_eq, not_or, not_lt]
      exact ⟨hp, hn⟩
    have htouch := s.testOpen_touch k pos neg (10000 * s.fld Fld.measContactLimitOpenLimit) z
    rw [State.contactOpen_eq, if_neg hlow]
    exact ⟨htouch.same .cells rfl, htouch.same .flt rfl⟩
  case broken =>
    have hhigh : s.openAbove pos neg = true := by
      simp only [State.openAbove, Bool.or_eq_true, decide_eq_true_eq]
      exact habove
    have hcells : (s.testOpen k pos neg (10000 * s.fld Fld.measContactLimitOpenLimit) z).cells = s.cells :=
      (s.testOpen_touch k pos neg _ z).same .cells rfl
    rw [State.contactOpen_eq, if_pos hhigh]
    obtain ⟨hpark, hcause⟩ := State.parkContact_of_isOpen (s := s.testOpen k pos neg
      (10000 * s.fld Fld.measContactLimitOpenLimit) z) (k := k) (by rw [hcells, htr]) (by rw [hcells, hst])
    refine ⟨State.parkForContact_due _ k _ _, ?_, ?_, fun j hj => ?_⟩
    · rw [State.parkForContact_cells]
      exact hpark
    · rw [State.parkForContact_cells]
      exact hcause
    · rw [State.parkForContact_cells, State.park_cells_ne _ k 6 hj, hcells]
  case slotMean =>
    intro bottom top useB useT hservesB hservesT
    obtain ⟨hslotKept, hiKept, hitKept⟩ := s.slotMean_currentKept s.shunts.iSlot bottom top (combine useB useT bottom top)
      (s.stringCurrent useB useT bottom top)
    exact ⟨_, exec_shuntSlotMean_of_next hpow hslot hnear hover hservesB hservesT,
      (s.slotMean_touch _ _ _ _ _).touch [.links, .play, .shunts, .results, .flt], hslotKept, hiKept, hitKept⟩
  case agree =>
    rw [exec_shuntCompare_of_used hdue hn hbottom htop]
    exact (if_pos hagree).trans (congrArg _ (State.settle_eq hset))
  case counts =>
    have hno : ¬s.reportsMismatch = true := by
      simp only [State.reportsMismatch, Bool.and_eq_true, decide_eq_true_eq, Bool.not_eq_true', not_and,
        Bool.not_eq_false]
      exact fun hdwell => hshort.resolve_left (Nat.not_lt.2 hdwell)
    rw [exec_shuntCompare_of_used hdue hn hbottom htop]
    exact (if_neg (Nat.not_le.2 hfar)).trans ((if_neg hno).trans (congrArg _ (State.settle_eq hset)))
  case mismatch =>
    have hyes : s.reportsMismatch = true := by
      rw [State.reportsMismatch, decide_eq_true hdwell, hfirst]
      rfl
    refine ⟨s.raiseMismatch.nextMilli, ?_, rfl, rfl, rfl, ?_⟩
    · rw [exec_shuntCompare_of_used hdue hn hbottom htop]
      exact (if_neg (Nat.not_le.2 hfar)).trans (if_pos hyes)
    · exact ⟨_, List.mem_append_right _ List.mem_cons_self, rfl, rfl, rfl⟩
  case unused =>
    rw [exec_shuntCompare_of_unused hdue hunused]
    exact congrArg _ (State.settle_eq hset)

end Sys2Proof.Machine
end

section
/-!
PROOFS. STACK_LOW in DORMANT (chapter 07): the segment goes into log retention, and with every stack below 20 V the module
enters OFF as every state is entered, with the tick noted; and the refutation of the obligation that has that tick unchanged.
-/

namespace Sys2Proof

theorem Vec.toList_all {α : Type} {n : Nat} {v : Vec α n} {p : α → Bool} (h : ∀ i, p (v.get i) = true) :
    v.toList.all p = true := by
  refine List.all_eq_true.2 fun x hx => ?_
  obtain ⟨i, hi, rfl⟩ := List.getElem_of_mem hx
  exact h ⟨i, hi.trans_eq v.len⟩

end Sys2Proof

namespace Sys2Proof.Machine

section
variable {s : State} {g : Seg} {mv : Nat}

/-- A segment abandons its patrol and retains its log (R230). -/
def State.retainLog (s : State) (g : Seg) (mv : Nat) : State := s.modSeg g (fun x => { x with
  stackMv := mv, retention := true, windowAt := none, suspect := none, suspects := [], confirming := false, patrolAt := none
  smeas := false })

/-- The last stack to fall takes the other stacks, which have fallen before, as they are. -/
theorem State.retainLog_all_low (hmv : mv < 20000) (hothers : ∀ h, h ≠ g → (s.segs.get h).stackMv < 20000) :
    (s.retainLog g mv).segs.toList.all (fun x => decide (x.stackMv < 20000)) = true := by
  refine Vec.toList_all fun h => decide_eq_true ?_
  rw [State.retainLog, State.modSeg_segs, Vec.get_modify]
  split
  case isTrue => exact hmv
  case isFalse hne => exact hothers h (Ne.symm hne)

theorem exec_stackLow_of_all_low (hst : s.glb.st = .dormant) (hmv : mv < 20000)
    (hothers : ∀ h, h ≠ g → (s.segs.get h).stackMv < 20000) :
    exec (.stackLow g mv) s = .next ((s.retainLog g mv).enter .off).settle := by
  refine (if_pos ?_).trans (congrArg State.done (if_pos (State.retainLog_all_low hmv hothers)))
  rw [State.st, hst, decide_eq_true hmv]
  rfl

/-- The module is OFF since the present tick (R25). -/
theorem exec_stackLow_enteredAt (hset : s.settled = true) (hst : s.glb.st = .dormant) (hmv : mv < 20000)
    (hothers : ∀ h, h ≠ g → (s.segs.get h).stackMv < 20000) :
    ∃ u : State, exec (.stackLow g mv) s = .next u ∧ u.glb.enteredAt = s.now :=
  ⟨_, (exec_stackLow_of_all_low hst hmv hothers).trans (congrArg _ (State.settle_eq hset)), rfl⟩

end

/-- DORMANT, entered at tick 0 and one tick on, with every stack at 0 V. -/
def dormantFlat : State := { State.reset with now := 4, glb := { State.reset.glb with st := .dormant, enteredAt := 0 } }

theorem dormantFlat_stackMv (h : Seg) : (dormantFlat.segs.get h).stackMv < 20000 := by
  revert h
  decide +kernel

/-- Refutes O46: its last clause lets STACK_LOW change only the state and PREV as the module goes OFF, but the module enters
OFF as it enters any state, with the tick of the entry noted: from `dormantFlat`, a stack at 19.999 V makes that tick 4. -/
theorem not_patrols : ¬ Obligations.Patrols := by
  rintro ⟨-, -, -, -, -, -, hstackLow⟩
  have hset : dormantFlat.settled = true := by decide
  have hflat : ∀ h, h ≠ (0 : Seg) → (dormantFlat.segs.get h).stackMv < 20000 := fun h _ => dormantFlat_stackMv h
  have hclaimed := (hstackLow dormantFlat 0 19999 hset rfl (by decide)).1 hflat
  obtain ⟨u, hexec, hentered⟩ := exec_stackLow_enteredAt (g := 0) (mv := 19999) hset rfl (by decide) hflat
  have hsame := Host.Outcome.next.inj (hexec.symm.trans hclaimed)
  have hkept : u.glb.enteredAt = dormantFlat.glb.enteredAt := by rw [hsame]
  have htick : dormantFlat.now = dormantFlat.glb.enteredAt := hentered.symm.trans hkept
  exact absurd htick (by decide)

end Sys2Proof.Machine
end

section
/-!
PROOFS. Beacons, park symbols and silence on the span links (chapter 08): what a beacon word holds, what goes out on a link
at a whole microsecond, and what either end of a link makes of what it hears, or does not hear.
-/

namespace Sys2Proof.Machine

/-! ### The beacon word (R127, R245) -/

theorem crcByteL_eight_lt {poly acc : Nat} (hpoly : poly < 2 ^ 8) (hacc : acc < 2 ^ 8) (b : Byte) :
    crcByteL 8 poly acc b < 2 ^ 8 := by
  have hbit (a : Nat) : crcBitL 8 poly a < 2 ^ 8 := by
    have hshift : a * 2 % 2 ^ 8 < 2 ^ 8 := Nat.mod_lt _ (by decide)
    rw [crcBitL]
    split
    case isTrue => exact Nat.xor_lt_two_pow hshift hpoly
    case isFalse => exact hshift
  refine List.foldlRecOn (motive := fun a => a < 2 ^ 8) _ _ (Nat.xor_lt_two_pow hacc ?_) fun a _ _ _ => hbit a
  rw [Nat.sub_self, pow_zero, mul_one]
  exact b.isLt

theorem crc8_lt (l : List Byte) : crc8 l < 2 ^ 8 :=
  List.foldlRecOn (motive := fun a => a < 2 ^ 8) l _ (by decide) fun _ ha b _ => crcByteL_eight_lt (by decide) ha b

/-- The n low bytes do not see what stands above them. -/
theorem leBytes_add_mul (n v x : Nat) : leBytes n (v + x * 2 ^ (8 * n)) = leBytes n v := by
  induction n generalizing v with
  | zero => rfl
  | succ n ih =>
    have habove : x * 2 ^ (8 * (n + 1)) = 256 * (x * 2 ^ (8 * n)) := by ring
    rw [leBytes, leBytes, habove, Nat.add_mul_div_left _ _ (by decide), ih]
    congr 1
    exact BitVec.eq_of_toNat_eq (Nat.add_mul_mod_self_left v 256 _)

theorem flagAt_eq (b : Bool) (n : Nat) : flagAt b n = b.toNat * 2 ^ n := by
  cases b
  · exact (Nat.zero_mul _).symm
  · exact (Nat.one_mul _).symm

/-- A bit is the flag that a number has there. -/
theorem testBit_of_flag {n i : Nat} {b : Bool} (h : n / 2 ^ i % 2 = b.toNat) : n.testBit i = b := by
  rw [Nat.testBit_eq_decide_div_mod_eq, h]
  cases b <;> rfl

theorem classOfNo_classNo (c : Class) : classOfNo (classNo c) = some c := by cases c <;> rfl

section
variable (us : Nat) (c : Class) (halt run patrol late : Bool) (ack : Nat)

/-- What the CRC of a beacon is formed over. -/
def beaconBody : Nat :=
  us % 1024 + classNo c * 2 ^ 10 + flagAt halt 12 + flagAt run 13 + flagAt patrol 14 + flagAt late 15 + ack % 256 * 2 ^ 16

theorem beaconBody_eq : beaconBody us c halt run patrol late ack =
    us % 1024 + classNo c * 2 ^ 10 + halt.toNat * 2 ^ 12 + run.toNat * 2 ^ 13 + patrol.toNat * 2 ^ 14 + late.toNat * 2 ^ 15 +
      ack % 256 * 2 ^ 16 := by
  simp only [beaconBody, flagAt_eq]

theorem classNo_lt : classNo c < 4 := by cases c <;> decide

theorem beaconBody_lt : beaconBody us c halt run patrol late ack < 2 ^ 24 := by
  have hc := classNo_lt c
  have hh := halt.toNat_le
  have hr := run.toNat_le
  have hp := patrol.toNat_le
  have hl := late.toNat_le
  rw [beaconBody_eq]
  omega

theorem beaconWord_toNat : (beaconWord us c halt run patrol late ack).toNat =
    beaconBody us c halt run patrol late ack + crc8 (leBytes 3 (beaconBody us c halt run patrol late ack)) * 2 ^ 24 := by
  have hbody := beaconBody_lt us c halt run patrol late ack
  have hcrc := crc8_lt (leBytes 3 (beaconBody us c halt run patrol late ack))
  have hlt : beaconBody us c halt run patrol late ack +
      crc8 (leBytes 3 (beaconBody us c halt run patrol late ack)) * 2 ^ 24 < 2 ^ 32 := by omega
  exact (BitVec.toNat_ofNat _ _).trans (Nat.mod_eq_of_lt hlt)

theorem beaconWord_crcOk : beaconCrcOk (beaconWord us c halt run patrol late ack) = true := by
  have hbody := beaconBody_lt us c halt run patrol late ack
  rw [beaconCrcOk, beaconWord_toNat, leBytes_add_mul 3, beq_iff_eq]
  omega

/-- Every field of a beacon can be read back from its bits. -/
theorem beaconWord_fields :
    let b := (beaconWord us c halt run patrol late ack).toNat
    b % 1024 = us % 1024 ∧ b / 2 ^ 10 % 4 = classNo c ∧ b / 2 ^ 12 % 2 = halt.toNat ∧ b / 2 ^ 13 % 2 = run.toNat ∧
      b / 2 ^ 14 % 2 = patrol.toNat ∧ b / 2 ^ 15 % 2 = late.toNat ∧ b / 2 ^ 16 % 256 = ack % 256 := by
  have hc := classNo_lt c
  have hh := halt.toNat_le
  have hr := run.toNat_le
  have hp := patrol.toNat_le
  have hl := late.toNat_le
  intro b
  have hb := beaconWord_toNat us c halt run patrol late ack
  generalize crc8 _ = crc at hb
  rw [beaconBody_eq] at hb
  have hb' : b = _ := hb
  generalize b = n at hb'
  refine ⟨?_, ?_, ?_, ?_, ?_, ?_, ?_⟩ <;> omega

end

/-! ### BEACON_TX (R244, R245, R247) -/

/-- Every segment has one turn, in order: P holds up to a segment's own turn, and that turn makes of it Q, which the later
turns keep. -/
theorem each_allSegs {g : Seg} {f : State → Seg → State} {P Q : State → Prop} (hP : ∀ s h, h ≠ g → P s → P (f s h))
    (hturn : ∀ s, P s → Q (f s g)) (hQ : ∀ s h, h ≠ g → Q s → Q (f s h)) {s : State} (hs : P s) : Q (each allSegs f s) := by
  obtain ⟨before, after, hsplit⟩ := List.append_of_mem (List.mem_finRange g)
  have hnodup : (g :: (before ++ after)).Nodup := List.nodup_middle.1 (hsplit ▸ List.nodup_finRange 16)
  obtain ⟨hfresh, -⟩ := List.nodup_cons.1 hnodup
  have hne {h : Seg} (hh : h ∈ before ++ after) : h ≠ g := fun e => hfresh (e ▸ hh)
  have hbefore : P (before.foldl f s) :=
    List.foldlRecOn before f hs fun u hu h hh => hP u h (hne (List.mem_append_left _ hh)) hu
  have hafter : Q (after.foldl f (f (before.foldl f s) g)) :=
    List.foldlRecOn after f (hturn _ hbefore) fun u hu h hh => hQ u h (hne (List.mem_append_right _ hh)) hu
  rw [each, allSegs, indices, hsplit, List.foldl_append]
  exact hafter

section
variable (s : State) (g : Seg)

/-- A beacon is put on a link; the park symbol that it displaces is sent once less (R247). -/
def State.putBeacon : State := s.modLink g (fun l => { l with
  beacon := some (s.beaconFor g false (l.parkLeft != 0))
  parkSym := if l.parkLeft = 0 then none else l.parkSym
  parkLeft := l.parkLeft - 1 })

/-- The turn of a segment in BEACON_TX. -/
def State.serveLink : State :=
  if s.linkUp g then
    if s.now % 1000000 = 0 then (s.putBeacon g).sendDown g (.time s.now ((s.putBeacon g).links.get g).latency)
    else s.putBeacon g
  else s

theorem State.sendDown_link_ne (m : DownMsg) {h : Seg} (hne : h ≠ g) : (s.sendDown g m).links.get h = s.links.get h := by
  rw [State.sendDown]
  split
  case isTrue => exact Vec.get_modify_ne _ _ hne.symm
  case isFalse => exact Vec.get_modify_ne _ _ hne.symm

/-- A message to a segment is queued or waits: nothing else on its link changes. -/
theorem State.sendDown_link_self (m : DownMsg) :
    ∃ d w, (s.sendDown g m).links.get g = { s.links.get g with down := d, waits := w } := by
  rw [State.sendDown]
  split
  case isTrue => exact ⟨_, _, Vec.get_modify_self _ _ _⟩
  case isFalse => exact ⟨_, _, Vec.get_modify_self _ _ _⟩

theorem State.serveLink_touch {s₀ : State} (h : TouchM 512 s₀ s) : TouchM 512 s₀ (s.serveLink g) := by
  have hput : TouchM 512 s₀ (s.putBeacon g) := State.modLink_touch h g _
  rw [State.serveLink]
  split
  case isTrue =>
    split
    case isTrue => exact State.sendDown_touch hput g _
    case isFalse => exact hput
  case isFalse => exact h

theorem State.serveLink_link_ne {h : Seg} (hne : h ≠ g) : (s.serveLink g).links.get h = s.links.get h := by
  have hput : (s.putBeacon g).links.get h = s.links.get h := Vec.get_modify_ne _ _ hne.symm
  rw [State.serveLink]
  split
  case isTrue =>
    split
    case isTrue => exact (State.sendDown_link_ne _ g _ hne).trans hput
    case isFalse => exact hput
  case isFalse => rfl

/-- What BEACON_TX puts on a link that is up, as the state before it has it. -/
def State.BeaconSent (s u : State) (g : Seg) : Prop :=
  (u.links.get g).beacon = some (s.beaconFor g false ((s.links.get g).parkLeft != 0)) ∧
    (u.links.get g).parkSym = (if (s.links.get g).parkLeft = 0 then none else (s.links.get g).parkSym) ∧
    (u.links.get g).parkLeft = (s.links.get g).parkLeft - 1

variable {s g}

theorem State.BeaconSent.of_link {u v : State} (h : s.BeaconSent u g) (e : v.links.get g = u.links.get g) :
    s.BeaconSent v g := by
  rw [State.BeaconSent, e]
  exact h

theorem State.serveLink_sends (hup : s.linkUp g = true) : s.BeaconSent (s.serveLink g) g := by
  have hput : (s.putBeacon g).links.get g = _ := Vec.get_modify_self _ _ _
  have hsent : s.BeaconSent (s.putBeacon g) g := by
    rw [State.BeaconSent, hput]
    exact ⟨rfl, rfl, rfl⟩
  rw [State.serveLink, if_pos hup]
  split
  case isTrue =>
    obtain ⟨d, w, hlink⟩ := (s.putBeacon g).sendDown_link_self g (.time s.now ((s.putBeacon g).links.get g).latency)
    rw [State.BeaconSent, hlink]
    exact hsent
  case isFalse => exact hsent

/-- A beacon is made of the hub's own state and of the acknowledgement on its link. -/
theorem TouchM.beaconFor {u : State} (h : TouchM 512 s u) (hlink : u.links.get g = s.links.get g) (patrol late : Bool) :
    u.beaconFor g patrol late = s.beaconFor g patrol late := by
  have hnow : u.now = s.now := h.same .now rfl
  have hglb : u.glb = s.glb := h.same .glb rfl
  have hspc : u.spc = s.spc := h.same .spc rfl
  have hloop : u.loop = s.loop := h.same .loop rfl
  simp only [State.beaconFor, State.currentClass, State.haltBit, State.inRun, State.st, hnow, hglb, hspc, hloop, hlink]

theorem State.serveLinks_sends (hup : s.linkUp g = true) : s.BeaconSent (each allSegs State.serveLink s) g := by
  refine each_allSegs (g := g) (P := fun u => TouchM 512 s u ∧ u.links.get g = s.links.get g) (Q := fun u => s.BeaconSent u g)
    ?others ?own ?later ⟨TouchM.refl 512 s, rfl⟩
  case others =>
    rintro u h hne ⟨htouch, hlink⟩
    exact ⟨u.serveLink_touch h htouch, (u.serveLink_link_ne h hne.symm).trans hlink⟩
  case own =>
    rintro u ⟨htouch, hlink⟩
    have hupU : u.linkUp g = true := by
      rw [State.linkUp, hlink]
      exact hup
    have hsent := State.serveLink_sends hupU
    rw [State.BeaconSent, htouch.beaconFor hlink, hlink] at hsent
    exact hsent
  case later =>
    intro u h hne hsent
    exact hsent.of_link (u.serveLink_link_ne h hne.symm)

theorem exec_beaconTx_of_due (hpow : s.powered = true) (hout : s.glb.st ≠ .drydown ∨ s.pwr.exitFrom ≠ none)
    (hwhole : s.now % 1000 = 0) : exec .beaconTx s = .next (each allSegs State.serveLink s).settle := by
  have hbeaconing : s.beaconing = true := by
    rw [State.beaconing, hpow, Bool.true_and, Bool.or_eq_true, bne_iff_ne, Option.isSome_iff_ne_none]
    exact hout
  refine if_neg ?_
  rw [hwhole, hbeaconing]
  decide

/-! ### DOWNLINK_BEACON (R245, R248, R255) -/

/-- The beacon in flight has reached the segment. -/
def State.takeOffBeacon (s : State) (g : Seg) : State := s.modLink g (fun l => { l with beacon := none })

theorem State.takeOffBeacon_hears : (s.takeOffBeacon g).hears g = s.hears g := by
  simp only [State.hears, State.linkUp, State.takeOffBeacon, State.modLink_segs, State.modLink_links, Vec.get_modify_self]

variable {b : BitVec 32} {ok : Bool}

/-- US of a beacon is the segment's own count, where that has been set. -/
def State.countAgrees (s : State) (g : Seg) (b : BitVec 32) : Prop :=
  (s.segs.get g).timeSet = false ∨ b.toNat % 1024 = s.now / 1000 % 1024

/-- The checks of a beacon as the model runs them. -/
theorem State.beaconFails_iff : (!ok || !beaconCrcOk b || !(s.takeOffBeacon g).hears g ||
    ((s.segs.get g).timeSet && b.toNat % 1024 != (s.takeOffBeacon g).now / 1000 % 1024)) = true ↔
      ok = false ∨ beaconCrcOk b = false ∨ s.hears g = false ∨ ¬s.countAgrees g b := by
  rw [State.takeOffBeacon_hears]
  simp only [State.countAgrees, State.takeOffBeacon, State.modLink_now, Bool.or_eq_true, Bool.not_eq_true', Bool.and_eq_true,
    bne_iff_ne, not_or, Bool.not_eq_false, or_assoc]

theorem exec_downlinkBeacon_of_invalid (hb : (s.links.get g).beacon = some b)
    (hbad : ok = false ∨ beaconCrcOk b = false ∨ classOfNo (b.toNat / 2 ^ 10 % 4) = none ∨ s.hears g = false ∨
      ¬s.countAgrees g b) : exec (.downlinkBeacon g ok) s = .next (s.takeOffBeacon g).settle := by
  change execDownlinkBeacon g ok s = _
  simp only [execDownlinkBeacon, hb]
  cases hcls : classOfNo (b.toNat / 2 ^ 10 % 4) with
  | none => rfl
  | some c =>
    refine if_pos (State.beaconFails_iff.2 ?_)
    simpa only [hcls, reduceCtorEq, false_or] using hbad

/-- Taking a beacon with HALT leaves the cause of the park that it brings as it is. -/
theorem State.takeBeacon_haltCode (c : Class) (patrol : Bool) :
    ((s.takeOffBeacon g).takeBeacon g c true patrol).haltCode g = s.haltCode g := by
  have htimer (t : State) : (t.startTimer g).haltCode g = t.haltCode g := by
    simp only [State.haltCode, State.startTimer, State.modSeg_segs, State.modSeg_links, Vec.get_modify_self]
    rfl
  have htaken (t : State) : (t.takeBeacon g c true false).haltCode g = t.haltCode g := by
    simp only [State.takeBeacon, State.haltCode, Bool.false_eq_true, if_false, if_true, State.modSeg_segs,
      State.modSeg_links, State.modLink_segs, State.modLink_links, Vec.get_modify_self]
  have hoff : (s.takeOffBeacon g).haltCode g = s.haltCode g := by
    simp only [State.takeOffBeacon, State.haltCode, State.modLink_segs, State.modLink_links, Vec.get_modify_self]
  cases patrol
  case false => exact (htaken _).trans hoff
  case true => exact (htimer _).trans ((htaken _).trans hoff)

/-- A valid beacon is taken; with HALT the segment's IN cells park. -/
theorem exec_downlinkBeacon_of_valid {c : Class} (hb : (s.links.get g).beacon = some b) (hok : ok = true)
    (hcrc : beaconCrcOk b = true) (hcls : classOfNo (b.toNat / 2 ^ 10 % 4) = some c) (hhears : s.hears g = true)
    (hus : s.countAgrees g b) :
    let a := (s.takeOffBeacon g).takeBeacon g c (b.toNat.testBit 12) (b.toNat.testBit 14)
    exec (.downlinkBeacon g ok) s =
      .next (if b.toNat.testBit 12 then a.parkIn g (s.haltCode g) else a).settle := by
  have hgood : ¬(ok = false ∨ beaconCrcOk b = false ∨ s.hears g = false ∨ ¬s.countAgrees g b) := by
    simp only [hok, hcrc, hhears, hus, Bool.true_eq_false, not_true_eq_false, or_self, not_false_eq_true]
  have hpass := mt State.beaconFails_iff.1 hgood
  intro a
  change execDownlinkBeacon g ok s = _
  simp only [execDownlinkBeacon, hb, hcls]
  refine (if_neg hpass).trans (congrArg State.done ?_)
  by_cases hhalt : b.toNat.testBit 12 = true
  case pos =>
    have hcode : a.haltCode g = s.haltCode g := by
      have htaken := State.takeBeacon_haltCode (s := s) (g := g) c (b.toNat.testBit 14)
      rwa [← hhalt] at htaken
    exact (if_pos hhalt).trans ((congrArg (a.parkIn g) hcode).trans (if_pos hhalt).symm)
  case neg => exact (if_neg hhalt).trans (if_neg hhalt).symm

/-! ### UPLINK_BEACON, PARK_SYMBOL_RECEIVED (R244, R246, R247) -/

/-- The first uplink beacon of a frame reports and acknowledges. -/
def State.takeUplink (s : State) (g : Seg) : State := s.modLink g (fun l => { l with
  report := s.uplink g, lastUplink := s.now, down := ackDir downPriority s.now l.down (ackOf l.down) })

theorem exec_uplinkBeacon_of_new (hup : s.linkUp g = true) (hpow : s.powered = true) (hst : (s.segs.get g).st ≠ .unpowered)
    (hnew : upFrame (s.links.get g).lastUplink < upFrame s.now) : exec (.uplinkBeacon g true) s =
      .next (each (boundaryCells g) (fun x j => x.tellNeighbour j []) (s.takeUplink g).watchV).settle := by
  refine if_neg ?_
  rw [hup, hpow, beq_false_of_ne hst, decide_eq_false (Nat.not_le.2 hnew)]
  decide

theorem exec_parkSymbolReceived_of_sent {orphan : Bool} (hsym : (s.links.get g).parkSym = some orphan)
    (hup : s.linkUp g = true) (hst : (s.segs.get g).st ≠ .unpowered) : exec (.parkSymbolReceived g) s =
      .next (State.parkSegment ((s.modSeg g (fun x => { x with haltCause := if orphan then 8 else 7 })).modLink g
        (fun l => { l with lastDownlink := s.now })) g (if orphan then 8 else 7)).settle := by
  have hacts : s.symbolActs g = true := by
    rw [State.symbolActs, hsym, hup, bne_iff_ne.2 hst]
    rfl
  change execParkSymbolReceived g s = _
  simp only [execParkSymbolReceived, hsym]
  exact if_pos hacts

/-! ### LINK_SILENCE (R230, R253) -/

/-- A running segment that hears nothing parks its cells for LINK. -/
def State.parkForSilence (s : State) (g : Seg) : State := if (s.segs.get g).st = .running then s.parkSegment g 9 else s

/-- Its time runs from its own oscillator, where it does not already. -/
def State.runFree (s : State) (g : Seg) : State :=
  if (s.segs.get g).timerFrom = none then (s.parkForSilence g).startTimer g else s.parkForSilence g

theorem State.runFree_glb : (s.runFree g).glb = s.glb := by
  have hpark : (s.parkForSilence g).glb = s.glb := by
    rw [State.parkForSilence]
    split
    case isTrue => exact (State.parkSegment_touch (TouchM.refl 4144 s) g 9).same .glb rfl
    case isFalse => rfl
  rw [State.runFree]
  split
  case isTrue => exact hpark
  case isFalse => exact hpark

/-- Out of patrol mode, 20 µs after the latest beacon or park symbol. -/
theorem exec_linkSilence_of_quiet (hst : (s.segs.get g).st = .running ∨ (s.segs.get g).st = .boot)
    (hquiet : (s.links.get g).lastDownlink + 20000 ≤ s.now) : exec (.linkSilence g) s =
      .next (if s.glb.st = .dormant ∧ (s.segs.get g).onStack = true then (s.runFree g).dormantPatrol g
        else (s.runFree g).modSeg g (fun x => { x with
          trained := false, st := if x.st == .running then .silent else x.st })).settle := by
  have hacts : s.silenceActs g = true := by
    simpa only [State.silenceActs, Bool.and_eq_true, Bool.or_eq_true, beq_iff_eq, decide_eq_true_eq] using ⟨hst, hquiet⟩
  have hpark : (if (s.segs.get g).st == .running then s.parkSegment g 9 else s) = s.parkForSilence g :=
    if_congr beq_iff_eq rfl rfl
  have hfree : (if (s.segs.get g).timerFrom.isNone then (s.parkForSilence g).startTimer g else s.parkForSilence g) =
      s.runFree g := if_congr Option.isNone_iff_eq_none rfl rfl
  refine (if_pos hacts).trans ?_
  rw [hpark, hfree]
  refine congrArg State.done (if_congr ?_ rfl rfl)
  rw [State.st, State.runFree_glb, Bool.and_eq_true, beq_iff_eq]

end

end Sys2Proof.Machine
end

section
/-!
PROOFS. Training and loss of the span links (chapter 08): what a link that has been trained looks like at both of its ends,
one equation per event, and the obligation about the upkeep of the links.
-/

namespace Sys2Proof.Machine

/-! ### A link that has been trained (R252) -/

theorem pumpDir_expect {α : Type} (prio : α → Nat) (now n : Nat) (d : Dir α) : (pumpDir prio now n d).expect = d.expect := by
  induction n generalizing d with
  | zero => rfl
  | succ n ih =>
    rw [pumpDir]
    split
    case isTrue =>
      split
      · rfl
      · exact ih _
    case isFalse => rfl

theorem retrainDir_expect {α : Type} (prio : α → Nat) (now : Nat) (d : Dir α) : (retrainDir prio now d).expect = 0 :=
  pumpDir_expect prio now 64 _

section
variable (s : State) (g : Seg) (c0 c1 : Bool) (ns : Nat)

/-- The hub's end of a link that has been trained. -/
def State.bringUp : State := s.modLink g (fun l => { l with
  st := if c0 && c1 then .up else .single
  c0 := c0
  c1 := c1
  latency := ns
  trainRaised := false
  everUp := true
  lastUplink := s.now
  lastDownlink := s.now
  down := retrainDir downPriority s.now l.down
  up := retrainDir upPriority s.now l.up })

/-- The segment's window is restored from the shadow after a segment reset (R477). -/
def State.restoreWindow : State :=
  if (s.segs.get g).shadowOk then s else s.modSeg g (fun x => { x with win := s.shadowOf g, shadowOk := true })

def State.noteTrained : State := s.modSeg g (fun x => { x with trained := true })

/-- A trip of the keeper that was not released is reported once the link is up again (R51). -/
def State.reportTrip (again : Bool) : State :=
  if again && (s.segs.get g).keeper.tripped then
    s.raise .keeperTrip (some g) none (word (s.segs.get g).keeper.tripCount) 0 0
  else s

theorem State.linkTrained_eq : s.linkTrained g c0 c1 ns =
    ((((s.bringUp g c0 c1 ns).restoreWindow g).noteTrained g).segBack g).reportTrip g (s.links.get g).everUp := rfl

theorem State.restoreWindow_links : (s.restoreWindow g).links = s.links := by
  rw [State.restoreWindow]
  split <;> rfl

theorem State.reportTrip_links (again : Bool) : (s.reportTrip g again).links = s.links := by
  rw [State.reportTrip]
  split <;> rfl

theorem State.reportTrip_segs (again : Bool) : (s.reportTrip g again).segs = s.segs := by
  rw [State.reportTrip]
  split <;> rfl

theorem State.linkTrained_links : (s.linkTrained g c0 c1 ns).links = (s.bringUp g c0 c1 ns).links := by
  have hback (u : State) : (u.segBack g).links = u.links := (State.segBack_touch (TouchM.refl 272 u) g).same .links rfl
  rw [State.linkTrained_eq, State.reportTrip_links, hback]
  exact State.restoreWindow_links _ g

/-- A segment leaves patrol mode with its drivers on; a keeper that has tripped holds its cells (R51, R220). -/
def State.leavePatrol : State := s.modSeg g (fun y => { y with
  st := .running, smeas := true, sdrv := true, keeper := { y.keeper with holding := y.keeper.tripped } })

/-- The way back from patrol mode changes no more of the segment than its state, its drivers and its keeper. -/
theorem State.segBack_seg : ∃ st sm sd kp, (s.segBack g).segs.get g =
    { s.segs.get g with st := st, smeas := sm, sdrv := sd, keeper := kp } := by
  rw [State.segBack]
  dsimp only
  split
  case isTrue =>
    split
    case isTrue => exact ⟨_, _, _, _, Vec.get_modify_self _ _ _⟩
    case isFalse =>
      have hcells : TouchM 16 (s.leavePatrol g) (each (cellsOf g) (fun u k => u.modCell k fun c => { c with keepHold := false })
        (s.leavePatrol g)) := each_touch _ (TouchM.refl 16 _) fun u k hu => State.modCell_touch hu k _
      have hsegs := hcells.same .segs rfl
      exact ⟨_, _, _, _, (congrArg (fun v => Vec.get v g) hsegs).trans (Vec.get_modify_self _ _ _)⟩
  case isFalse => exact ⟨_, _, _, _, rfl⟩

theorem State.restoreWindow_shadowOk : ((s.restoreWindow g).segs.get g).shadowOk = true := by
  rw [State.restoreWindow]
  split
  case isTrue hok => exact hok
  case isFalse => exact congrArg Segment.shadowOk (Vec.get_modify_self _ _ _)

theorem State.restoreWindow_win (h : (s.segs.get g).shadowOk = false) :
    ((s.restoreWindow g).segs.get g).win = s.shadowOf g := by
  rw [State.restoreWindow, if_neg (Bool.not_eq_true _ ▸ h)]
  exact congrArg Segment.win (Vec.get_modify_self _ _ _)

/-- The segment's end of a link that has been trained. -/
theorem State.linkTrained_seg : ∃ st sm sd kp, (s.linkTrained g c0 c1 ns).segs.get g =
    { ((s.bringUp g c0 c1 ns).restoreWindow g).segs.get g with
      trained := true, st := st, smeas := sm, sdrv := sd, keeper := kp } := by
  obtain ⟨st, sm, sd, kp, hback⟩ := (((s.bringUp g c0 c1 ns).restoreWindow g).noteTrained g).segBack_seg g
  refine ⟨st, sm, sd, kp, ?_⟩
  rw [State.linkTrained_eq, State.reportTrip_segs, hback, State.noteTrained, State.modSeg_segs, Vec.get_modify_self]

theorem State.linkTrained_shadowOk : ((s.linkTrained g c0 c1 ns).segs.get g).shadowOk = true := by
  obtain ⟨st, sm, sd, kp, hseg⟩ := s.linkTrained_seg g c0 c1 ns
  rw [hseg]
  exact State.restoreWindow_shadowOk _ g

theorem State.linkTrained_trained : ((s.linkTrained g c0 c1 ns).segs.get g).trained = true := by
  obtain ⟨st, sm, sd, kp, hseg⟩ := s.linkTrained_seg g c0 c1 ns
  rw [hseg]

theorem State.linkTrained_win (h : (s.segs.get g).shadowOk = false) :
    ((s.linkTrained g c0 c1 ns).segs.get g).win = s.shadowOf g := by
  obtain ⟨st, sm, sd, kp, hseg⟩ := s.linkTrained_seg g c0 c1 ns
  rw [hseg]
  exact State.restoreWindow_win (s.bringUp g c0 c1 ns) g h

/-! ### SPAN_TRAINED, TRAINING_TIMEOUT (R252) -/

/-- Training has passed: the shunts are judged afresh, and a slice that waited for the link can start. -/
def State.passTraining : State := (s.linkTrained g c0 c1 ns).checkShunts.nextSlice

/-- In BOOT a segment that a reset of the module did not reach is reset now (R446). -/
def State.resetMissed (t : State) : State :=
  if s.glb.st = .boot ∧ (t.segs.get g).st ≠ .boot then t.sendDown g (.cmd .moduleReset) else t

theorem State.passTraining_glb : (s.passTraining g c0 c1 ns).glb = s.glb :=
  (State.nextSlice_touch (State.checkShunts_touch (State.linkTrained_touch (TouchM.refl 3150608 s) g c0 c1 ns))).same .glb rfl

/-- The model asks the state after training whether it is BOOT; training does not leave BOOT. -/
theorem State.passTraining_resetMissed : (if (s.passTraining g c0 c1 ns).st == .boot &&
    ((s.passTraining g c0 c1 ns).segs.get g).st != .boot then (s.passTraining g c0 c1 ns).sendDown g (.cmd .moduleReset)
      else s.passTraining g c0 c1 ns) = s.resetMissed g (s.passTraining g c0 c1 ns) := by
  refine if_congr ?_ rfl rfl
  rw [State.st, State.passTraining_glb, Bool.and_eq_true, beq_iff_eq, bne_iff_ne]

variable {s g}

theorem exec_spanTrained_of_training (trips : List Nat) (h : s.isTraining g = true) : exec (.spanTrained g trips) s =
    .next (s.resetMissed g (s.passTraining g (s.carriers g).1 (s.carriers g).2 (latencyOf trips))).settle :=
  (if_pos h).trans (congrArg State.done (s.passTraining_resetMissed g _ _ _))

/-- 2 ms have passed with one carrier trained: the link goes on with it, and CARRIER_LOST is raised unless the link was LOST. -/
theorem exec_trainingTimeout_of_one {c0 c1 : Bool} (trips : List Nat) (h : s.isTraining g = true)
    (hlate : (s.links.get g).trainFrom + 2000000 ≤ s.now)
    (hone : (c0 && (s.carriers g).1) ≠ (c1 && (s.carriers g).2)) :
    let p := c0 && (s.carriers g).1
    let u := s.resetMissed g (s.passTraining g p (c1 && (s.carriers g).2) (latencyOf trips))
    exec (.trainingTimeout g c0 c1 trips) s = .next (if (s.links.get g).st = .training
      then u.raise .carrierLost (some g) none (if p then 1 else 0) 0 0 else u).settle := by
  have hbools : ∀ p q : Bool, p ≠ q → (p && q) = false ∧ (p || q) = true := by decide
  obtain ⟨hboth, hany⟩ := hbools _ _ hone
  have hgo : ¬(!s.isTraining g || decide (s.now < (s.links.get g).trainFrom + 2000000) ||
      ((c0 && (s.carriers g).1) && (c1 && (s.carriers g).2))) = true := by
    rw [h, decide_eq_false (Nat.not_lt.2 hlate), hboth]
    decide
  have hreset := s.passTraining_resetMissed g (c0 && (s.carriers g).1) (c1 && (s.carriers g).2) (latencyOf trips)
  refine (if_neg hgo).trans ((if_pos hany).trans (congrArg State.done ?_))
  exact if_congr beq_iff_eq (congrArg (fun u => State.raise u _ _ _ _ _ _) hreset) hreset

/-- Training starts over, and its failure counts as raised. -/
def State.restartTraining (s : State) (g : Seg) : State :=
  s.modLink g (fun l => { l with trainFrom := s.now, trainRaised := true })

/-- 2 ms have passed with neither carrier trained. -/
theorem exec_trainingTimeout_of_none (trips : List Nat) (h : s.isTraining g = true)
    (hlate : (s.links.get g).trainFrom + 2000000 ≤ s.now) :
    exec (.trainingTimeout g false false trips) s = .next (State.tryTest
      (if (s.links.get g).st = .training ∧ (s.links.get g).trainRaised = false
        then (s.restartTraining g).raise .trainFailed (some g) none 0 0 0 else s.restartTraining g)).settle := by
  have hgo : ¬(!s.isTraining g || decide (s.now < (s.links.get g).trainFrom + 2000000) || false) = true := by
    rw [h, decide_eq_false (Nat.not_lt.2 hlate)]
    decide
  refine (if_neg hgo).trans (congrArg (fun u => State.done (State.tryTest u)) (if_congr ?_ rfl rfl))
  rw [Bool.and_eq_true, beq_iff_eq, Bool.not_eq_true']

/-! ### CARRIER_LOST, BACKGROUND_TRAINING, LINK_LOST (R252, R254) -/

/-- The link goes on with one carrier, named by its number. -/
def State.loseCarrier (s : State) (g : Seg) (c : Bool) : State :=
  (s.modLink g (fun l => { l with st := .single, c0 := c, c1 := !c })).raise .carrierLost (some g) none
    (if c then 1 else 0) 0 0

theorem exec_carrierLost_of_up (c : Bool) (h : (s.links.get g).st = .up) :
    exec (.carrierLost g c) s = .next (s.loseCarrier g c).settle := if_pos (beq_iff_eq.2 h)

theorem State.loseCarrier_link (c : Bool) :
    (s.loseCarrier g c).links.get g = { s.links.get g with st := .single, c0 := c, c1 := !c } := Vec.get_modify_self _ _ _

theorem State.loseCarrier_touch (c : Bool) : Touch [.links, .flt] s (s.loseCarrier g c) :=
  (State.raise_touch (State.modLink_touch (TouchM.refl 1049088 s) g _) .carrierLost (some g) none
    (if c then 1 else 0) 0 0).touch [.links, .flt]

theorem State.loseCarrier_due (c : Bool) :
    ∃ r ∈ (s.loseCarrier g c).flt.due, r.1.src = .carrierLost ∧ r.1.seg = some g := by
  rw [State.loseCarrier, State.raise_due]
  exact ⟨_, List.mem_append_right _ List.mem_cons_self, rfl, rfl⟩

theorem exec_backgroundTraining_of_single (h : (s.links.get g).st = .single) (hboth : s.carriers g = (true, true)) :
    exec (.backgroundTraining g true) s =
      .next (s.modLink g (fun l => { l with st := .up, c0 := true, c1 := true })).settle := by
  refine if_pos ?_
  rw [h, hboth]
  rfl

theorem exec_linkLost_of_quiet (hup : s.linkUp g = true) (hpow : s.powered = true)
    (hquiet : (s.links.get g).lastUplink + 20000 ≤ s.now) : exec (.linkLost g) s = .next (s.loseLink g).settle := by
  refine if_pos ?_
  rw [hup, hpow, decide_eq_true hquiet]
  rfl

/-! ### SPAN_RESEND (R248) -/

theorem resend_guard {α : Type} {d : Dir α} (hup : s.linkUp g = true) (hsent : d.sent ≠ [])
    (hlate : d.ackAt + 4000 ≤ s.now) :
    (s.linkUp g && d.sent.length != 0 && decide (d.ackAt + 4000 ≤ s.now)) = true := by
  rw [hup, decide_eq_true hlate, bne_iff_ne.2 (mt List.length_eq_zero_iff.1 hsent)]
  rfl

theorem exec_spanResend_up (hup : s.linkUp g = true) (hsent : (s.links.get g).up.sent ≠ [])
    (hlate : (s.links.get g).up.ackAt + 4000 ≤ s.now) : exec (.spanResend g true) s = .next (s.modLink g (fun l => { l with
      up := { l.up with ackAt := s.now }
      retry := Nat.min 0xFF (l.retry + (s.links.get g).up.sent.length) })).settle :=
  if_pos (resend_guard hup hsent hlate)

theorem exec_spanResend_down (hup : s.linkUp g = true) (hsent : (s.links.get g).down.sent ≠ [])
    (hlate : (s.links.get g).down.ackAt + 4000 ≤ s.now) : exec (.spanResend g false) s = .next (s.modLink g (fun l => { l with
      down := { l.down with ackAt := s.now }
      retry := Nat.min 0xFF (l.retry + (s.links.get g).down.sent.length) })).settle :=
  if_pos (resend_guard hup hsent hlate)

end

/-- Settles O47: the bits of a beacon word, one equation per event, and both ends of a link that has been trained. -/
theorem spanLinkUpkeep : Obligations.SpanLinkUpkeep := by
  refine ⟨⟨?send, ?word, ?downlink, ?uplink, ?symbol, ?silence⟩, ?trained, ?ends, ?one, ?none, ?carrier, ?background, ?lost,
    ?resend⟩
  case send =>
    intro s hset hpow hout hwhole
    have htouch : TouchM 512 s (each allSegs State.serveLink s) :=
      each_touch _ (TouchM.refl 512 s) fun u g hu => u.serveLink_touch g hu
    refine ⟨_, ?_, htouch.touch [.links], fun g hup => State.serveLinks_sends hup⟩
    rw [exec_beaconTx_of_due hpow hout hwhole, State.settle_eq (htouch.settled.trans hset)]
  case word =>
    intro us c halt run patrol late ack b
    obtain ⟨hus, hcls, hhalt, hrun, hpatrol, hlate, hack⟩ := beaconWord_fields us c halt run patrol late ack
    exact ⟨hus, (congrArg classOfNo hcls).trans (classOfNo_classNo c), testBit_of_flag hhalt, testBit_of_flag hrun,
      testBit_of_flag hpatrol, testBit_of_flag hlate, hack, beaconWord_crcOk us c halt run patrol late ack⟩
  case downlink =>
    intro s g b ok hb n a us
    exact ⟨exec_downlinkBeacon_of_invalid hb, fun c hok hcrc hcls hhears hus =>
      exec_downlinkBeacon_of_valid hb hok hcrc hcls hhears hus⟩
  case uplink =>
    intro s g hup hpow hst hnew
    exact exec_uplinkBeacon_of_new hup hpow hst hnew
  case symbol =>
    intro s g orphan hsym hup hst
    exact exec_parkSymbolReceived_of_sent hsym hup hst
  case silence =>
    intro s g hst hquiet
    exact exec_linkSilence_of_quiet hst hquiet
  case trained =>
    intro s g trips htraining
    exact exec_spanTrained_of_training trips htraining
  case ends =>
    intro s g c0 c1 ns
    have hlink : (s.linkTrained g c0 c1 ns).links.get g = _ :=
      (congrArg (fun v => Vec.get v g) (s.linkTrained_links g c0 c1 ns)).trans (Vec.get_modify_self _ _ _)
    rw [hlink]
    exact ⟨if_congr (Bool.and_eq_true _ _ ▸ Iff.rfl) rfl rfl, rfl, rfl, rfl, retrainDir_expect _ _ _,
      retrainDir_expect _ _ _, s.linkTrained_shadowOk g c0 c1 ns, s.linkTrained_trained g c0 c1 ns,
      s.linkTrained_win g c0 c1 ns⟩
  case one =>
    intro s g c0 c1 trips htraining hlate p q t u hone
    exact exec_trainingTimeout_of_one trips htraining hlate hone
  case none =>
    intro s g trips htraining hlate
    exact exec_trainingTimeout_of_none trips htraining hlate
  case carrier =>
    intro s g c hup
    have hlink := s.loseCarrier_link (g := g) c
    exact ⟨_, exec_carrierLost_of_up c hup, congrArg Link.st hlink, congrArg Link.c0 hlink, congrArg Link.c1 hlink,
      State.loseCarrier_touch c, State.loseCarrier_due c⟩
  case background =>
    intro s g hset hsingle hboth
    exact (exec_backgroundTraining_of_single hsingle hboth).trans (congrArg _ (State.settle_eq hset))
  case lost =>
    intro s g hup hpow hquiet
    exact exec_linkLost_of_quiet hup hpow hquiet
  case resend =>
    intro s g hset hup
    have hend (f : Link → Link) : (s.modLink g f).settle = s.modLink g f := State.settle_eq hset
    constructor
    · intro hsent hlate
      rw [exec_spanResend_up hup hsent hlate, hend]
      rfl
    · intro hsent hlate
      rw [exec_spanResend_down hup hsent hlate, hend]
      rfl

end Sys2Proof.Machine
end

section
/-!
PROOFS. Loop frames that a port takes (chapter 09): a sequenced frame out of order, one equation per frame type, the copies
of a PARK_ALL, and the obligation about them.
-/

namespace Sys2Proof.Machine

section
variable {s : State} {p : Port} {f : Frame}

/-! ### A sequenced frame with another LSEQ (R264) -/

/-- It acknowledges as any valid frame does; itself it is only counted (log 55). -/
theorem State.arrive_of_outOfOrder {t : Nat} (hpow : s.powered = true) (hst : (s.port p).st ≠ 0) (htype : f.ftype = t)
    (hseq : isSequenced t = true) (hother : f.lseq ≠ ((s.noteValid p f.lack).port p).expect) (k : State → State) :
    s.arrive p t f k = (s.noteValid p f.lack).modPort p (fun x => { x with crcErr := satAdd 0xFFF x.crcErr 1 }) := by
  have hheard : ¬(!s.powered || (s.port p).st == 0 || f.ftype != t) = true := by
    rw [hpow, beq_eq_false_iff_ne.2 hst, htype, bne_self_eq_false]
    decide
  have hsequenced : ¬(!isSequenced t) = true := by
    rw [hseq]
    decide
  exact (if_neg hheard).trans ((if_neg hsequenced).trans (if_neg hother))

/-! ### IDLE, RSP, EVENT, RES and PARK_ALL (R263, R269, R278, R279, R284) -/

theorem exec_idle_of_takes (h : s.takes p 0 f = true) :
    exec (.idle p f) s = .next ((s.heard p 0 f).takeIdle p f.payload).settle :=
  congrArg State.done (State.arrive_takes h _)

theorem exec_rsp_of_takes (h : s.takes p 2 f = true) : exec (.rsp p f) s =
    .next (if (s.heard p 2 f).isHead then (s.heard p 2 f).headRsp f else (s.heard p 2 f).transit p f id).settle :=
  congrArg State.done (State.arrive_takes h _)

/-- The notice that a head makes of an EVENT: the data of a message (KIND 0), or a link that broke or came back. -/
def State.headEvent (a : State) (p : Port) (l : List Byte) : State :=
  if u l 2 1 = 0 then a.notice 6 (u l 0 2) [] [] ((l.drop 8).take 32)
  else (a.takeLinkEvent p l).notice 4 (u l 0 2) (leBytes 1 (u l 3 1) ++ leBytes 1 (if u l 2 1 = 2 then 1 else 0)) [] []

theorem exec_event_of_takes (h : s.takes p 5 f = true) : exec (.event p f) s =
    .next (if (s.heard p 5 f).isHead then (s.heard p 5 f).headEvent p f.payload
      else if f.bcast then ((s.heard p 5 f).takeLinkEvent p f.payload).passOn p f
      else (s.heard p 5 f).transit p f id).settle :=
  congrArg State.done (State.arrive_takes h _)

theorem exec_res_of_takes (h : s.takes p 3 f = true) : exec (.res p f) s =
    .next (if (s.heard p 3 f).isHead then (s.heard p 3 f).headRes f
      else if f.bcast then
        (if f.info % 4 = 3 then (s.heard p 3 f).takeRetire f.payload else s.heard p 3 f).passOn p f
      else (s.heard p 3 f).transit p f id).settle :=
  congrArg State.done (State.arrive_takes h _)

/-- A head of either number consumes the frame; a head 2 does so without acting (log 57). -/
theorem exec_parkAll_of_takes (h : s.takes p 6 f = true) : exec (.parkAll p f) s =
    .next (if (s.heard p 6 f).isHead then s.heard p 6 f
      else ((s.heard p 6 f).takeParkAll (u f.payload 0 2)).forward p f f.hop).settle :=
  congrArg State.done (State.arrive_takes h _)

/-- An RSP out of order is not acted on. -/
theorem exec_rsp_of_outOfOrder (hpow : s.powered = true) (hst : (s.port p).st ≠ 0) (htype : f.ftype = 2)
    (hother : f.lseq ≠ ((s.noteValid p f.lack).port p).expect) : exec (.rsp p f) s =
      .next (State.settle ((s.noteValid p f.lack).modPort p (fun x => { x with
        crcErr := Nat.min 0xFFF (x.crcErr + 1) }))) :=
  congrArg State.done (State.arrive_of_outOfOrder hpow hst htype rfl hother _)

end

/-! ### Copies of a PARK_ALL (R271, R284) -/

section
variable (s : State) (id : Nat)

/-- The PARK_IDs that the module has taken within the last 10 ms. -/
def State.freshParkIds : List (Nat × Nat) := s.loop.parkIds.filter (fun e => decide (s.now < e.2 + 10000000))

/-- The state in which a PARK_ID has been noted as taken now. -/
def State.noteParkId : State := s.modLoop (fun l => { l with parkIds := (id, s.now) :: s.freshParkIds })

theorem State.takeParkAll_eq : s.takeParkAll id =
    if s.freshParkIds.any (fun e => e.1 == id) then s
    else (s.noteParkId id).abortSlice.haltNow.raise .parkAll none none (word id) 0 0 := rfl

theorem State.freshParkIds_any_iff : (s.freshParkIds.any (fun e => e.1 == id)) = true ↔
    ∃ t, (id, t) ∈ s.loop.parkIds ∧ s.now < t + 10000000 := by
  simp only [State.freshParkIds, List.any_eq_true, List.mem_filter, decide_eq_true_eq, beq_iff_eq]
  constructor
  · rintro ⟨⟨_, t⟩, ⟨hmem, hnow⟩, rfl⟩
    exact ⟨t, hmem, hnow⟩
  · rintro ⟨t, hmem, hnow⟩
    exact ⟨(id, t), ⟨hmem, hnow⟩, rfl⟩

variable {s id}

/-- Another copy within 10 ms does nothing. -/
theorem State.takeParkAll_of_copy (h : ∃ t, (id, t) ∈ s.loop.parkIds ∧ s.now < t + 10000000) : s.takeParkAll id = s := by
  rw [State.takeParkAll_eq, if_pos ((s.freshParkIds_any_iff id).2 h)]

/-- The first copy halts the module and raises PARK_ALL. -/
theorem State.takeParkAll_of_first (h : ∀ t, (id, t) ∈ s.loop.parkIds → t + 10000000 ≤ s.now) :
    s.takeParkAll id = (s.noteParkId id).abortSlice.haltNow.raise .parkAll none none (word id) 0 0 := by
  have hfirst : ¬(s.freshParkIds.any (fun e => e.1 == id)) = true := by
    rw [State.freshParkIds_any_iff]
    rintro ⟨t, hmem, hnow⟩
    exact Nat.not_lt.2 (h t hmem) hnow
  rw [State.takeParkAll_eq, if_neg hfirst]

theorem State.noteParkId_touch : Touch [.loop] s (s.noteParkId id) :=
  (State.modLoop_touch (TouchM.refl 65536 s) _).touch [.loop]

end

/-- Settles O28: one equation per frame type, split by head and member and, at a member, by broadcast and addressed; the
copies of a PARK_ALL; and a frame out of order, which is only counted. -/
theorem loopFramesTaken : Obligations.LoopFramesTaken := by
  refine ⟨fun s p f => ⟨exec_idle_of_takes, ?rsp, ?event, ?res, ?parkAll⟩,
    fun s id => ⟨State.takeParkAll_of_copy, fun hfirst => ⟨_, State.noteParkId_touch, State.takeParkAll_of_first hfirst⟩⟩,
    fun s p f => exec_rsp_of_outOfOrder⟩
  case rsp =>
    intro htakes a
    have hexec := exec_rsp_of_takes htakes
    constructor
    · intro hhead
      rw [hexec, if_pos hhead]
    · intro hmember
      rw [hexec, if_neg (Bool.eq_false_iff.1 hmember)]
  case event =>
    intro htakes a
    have hexec := exec_event_of_takes htakes
    refine ⟨fun hhead hmessage => ?_, fun hhead hlink => ?_, fun hmember hbcast => ?_, fun hmember haddressed => ?_⟩
    · rw [hexec, if_pos hhead, State.headEvent, if_pos hmessage]
    · rw [hexec, if_pos hhead, State.headEvent, if_neg hlink]
    · rw [hexec, if_neg (Bool.eq_false_iff.1 hmember), if_pos hbcast]
    · rw [hexec, if_neg (Bool.eq_false_iff.1 hmember), if_neg (Bool.eq_false_iff.1 haddressed)]
  case res =>
    intro htakes a
    have hexec := exec_res_of_takes htakes
    refine ⟨fun hhead => ?_, fun hmember hbcast hretire => ?_, fun hmember haddressed => ?_⟩
    · rw [hexec, if_pos hhead]
    · rw [hexec, if_neg (Bool.eq_false_iff.1 hmember), if_pos hbcast, if_pos hretire]
    · rw [hexec, if_neg (Bool.eq_false_iff.1 hmember), if_neg (Bool.eq_false_iff.1 haddressed)]
  case parkAll =>
    intro htakes a
    have hexec := exec_parkAll_of_takes htakes
    constructor
    · intro hhead
      rw [hexec, if_pos hhead]
    · intro hmember
      rw [hexec, if_neg (Bool.eq_false_iff.1 hmember)]

end Sys2Proof.Machine
end

section
/-!
PROOFS. Line time (chapter 10): the source that a member follows and loses, the TIME frames of a head, holdover, and the
writes of TIME_NOW.
-/

namespace Sys2Proof.Machine

/-! ### TIME (R299, R300) -/

section
variable {s : State} {p : Port} {f : Frame} {rx : Nat}

/-- A TIME frame is not sequenced, so that to hear it is to count it as valid; that touches the loop and what leaves it. -/
theorem State.heard_time_isHead : (s.heard p 4 f).isHead = s.isHead :=
  congrArg Glb.headEn ((State.noteValid_touch (TouchM.refl 33619968 s) p f.lack).same .glb rfl)

theorem exec_time_of_takes (h : s.takes p 4 f = true) : exec (.time p f rx) s =
    .next (if s.isHead then s.heard p 4 f else ((s.heard p 4 f).passTime p f rx).takeTime p f rx).settle := by
  rw [← State.heard_time_isHead (p := p) (f := f)]
  exact congrArg State.done (State.arrive_takes h _)

@[simp] theorem TimeUnit.setCand_src (t : TimeUnit) (p : Port) (c : Option (Nat × Nat × Bool × Bool)) :
    (t.setCand p c).src = t.src := by cases p <;> rfl

@[simp] theorem TimeUnit.setCand_cand (t : TimeUnit) (p : Port) (c : Option (Nat × Nat × Bool × Bool)) :
    (t.setCand p c).cand p = c := by cases p <;> rfl

/-- The source that is followed stays; only the run of better frames is judged anew. -/
theorem State.chooseSource_of_followed (h : s.tu.src = srcCode p) :
    s.chooseSource p = s.modTu (fun t => { t with better := if s.betterSource p then 0 else t.better }) := if_pos h

/-- The time unit after a frame on a port that may be a source: the port is a candidate. -/
def State.noteSource (s : State) (p : Port) (f : Frame) : State :=
  (s.modTu (fun t => t.setCand p (some (s.now, f.dist + 1, (u f.payload 14 2).testBit 0, f.head)))).modTu
    (fun t => { t with lastSource := s.now })

/-- The time unit after a frame of the source that it follows, before the offset is taken. -/
def State.followFrame (s : State) (p : Port) (f : Frame) : State :=
  ((s.noteSource p f).chooseSource p).modTu (fun t => { t with
    hops := f.dist + 1, srcHoldover := (u f.payload 14 2).testBit 0, srcHead := f.head })

/-- Origin, CORR and the latency of the port, less the time of arrival, in 0.1 ns. -/
def State.frameOffset (s : State) (p : Port) (f : Frame) (rx : Nat) : Int :=
  10 * (u f.payload 0 8 : Int) + (u f.payload 8 4 : Int) + (s.port p).lat - divI (10 * (rx : Int)) 8

theorem State.noteSource_src : (s.noteSource p f).tu.src = s.tu.src := TimeUnit.setCand_src _ _ _

theorem State.takeTime_of_followed (hfollow : s.flag Fld.timeCtrlFollow = true) (hallowed : s.portAllowed p = true)
    (hsrc : s.tu.src = srcCode p) : s.takeTime p f rx = (s.followFrame p f).takeOffset (s.frameOffset p f rx) := by
  have hlistens : ¬(!s.flag Fld.timeCtrlFollow || !s.portAllowed p) = true := by
    rw [hfollow, hallowed]
    decide
  have hnoted : (s.noteSource p f).tu.src = srcCode p := State.noteSource_src.trans hsrc
  have hstays : ¬((s.noteSource p f).chooseSource p).tu.src ≠ srcCode p := by
    rw [State.chooseSource_of_followed hnoted]
    exact not_not_intro hnoted
  exact (if_neg hlistens).trans (if_neg hstays)

theorem State.followFrame_lastSource (hsrc : s.tu.src = srcCode p) : (s.followFrame p f).tu.lastSource = s.now := by
  rw [State.followFrame, State.chooseSource_of_followed (State.noteSource_src.trans hsrc)]
  rfl

theorem State.followFrame_touch (s : State) (p : Port) (f : Frame) : TouchM 131072 s (s.followFrame p f) :=
  State.modTu_touch (State.chooseSource_touch (State.modTu_touch (State.modTu_touch (TouchM.refl _ s) _) _) p) _

end

/-! ### PTM_DIALOGUE (R297) -/

/-- The time unit of a head after a dialogue, before the offset is taken. -/
def State.followPtm (s : State) : State := s.modTu (fun t => { t with
  ptmValid := true, lastSource := s.now, src := 3, hops := 0, srcHoldover := false, srcHead := false })

theorem exec_ptmDialogue_of_follows {s : State} (hpow : s.powered = true) (hptm : s.followsPtm = true) (ok : Bool)
    (master : Nat) : exec (.ptmDialogue ok master) s =
      .next (if ok then s.followPtm.takeOffset (10 * ((master : Int) - s.now))
        else s.modTu (fun t => { t with ptmValid := false })).settle := by
  have hhears : ¬(!s.powered || !s.followsPtm) = true := by
    rw [hpow, hptm]
    decide
  cases ok
  case false => exact if_neg hhears
  case true => exact if_neg hhears

/-! ### TIME_FRAME_TX (R298) -/

/-- TSEQ of the latest TIME frame sent on a port. -/
def Loop.tseq (l : Loop) : Port → Nat
  | .a => l.tseqA
  | .b => l.tseqB

/-- No port has changed its state and no TIME frame has been numbered. -/
structure TimeSeqKept (s t : State) : Prop where
  st : ∀ q, (t.port q).st = (s.port q).st
  tseq : ∀ q, t.loop.tseq q = s.loop.tseq q

section
variable {s₀ s : State}

theorem TimeSeqKept.refl (s : State) : TimeSeqKept s s := ⟨fun _ => rfl, fun _ => rfl⟩

theorem TimeSeqKept.emit (h : TimeSeqKept s₀ s) (o : Output) : TimeSeqKept s₀ (s.emit o) := ⟨h.st, h.tseq⟩

theorem TimeSeqKept.modPort (h : TimeSeqKept s₀ s) (p : Port) {f : PortSt → PortSt}
    (hf : ∀ x, (f x).st = x.st := by intro; rfl) : TimeSeqKept s₀ (s.modPort p f) := by
  obtain ⟨hst, htseq⟩ := h
  refine ⟨fun q => Eq.trans ?_ (hst q), fun q => Eq.trans ?_ (htseq q)⟩
  · cases p <;> cases q
    case a.a => exact hf s.loop.a
    case b.b => exact hf s.loop.b
    case a.b => rfl
    case b.a => rfl
  · cases p <;> cases q <;> rfl

theorem TimeSeqKept.startFrame (h : TimeSeqKept s₀ s) (p : Port) (x : TxFrame) : TimeSeqKept s₀ (s.startFrame p x) := by
  unfold State.startFrame
  refine (h.emit _).modPort p fun ps => ?_
  split
  · rfl
  · rfl

theorem TimeSeqKept.startAgain (h : TimeSeqKept s₀ s) (p : Port) (x : TxFrame) : TimeSeqKept s₀ (s.startAgain p x) := by
  unfold State.startAgain
  exact (h.emit _).modPort p

theorem TimeSeqKept.sendInside (h : TimeSeqKept s₀ s) (p : Port) (x : TxFrame) (t : TxNow) (n : Nat) :
    TimeSeqKept s₀ (s.sendInside p x t n) := by
  unfold State.sendInside
  exact (h.emit _).modPort p

/-- Whichever frame a free transmitter takes (R270, R273), if any. -/
theorem TimeSeqKept.serve (h : TimeSeqKept s₀ s) (p : Port) : TimeSeqKept s₀ (s.serve p) := by
  unfold State.serve
  dsimp only
  split
  · split
    · split
      · exact h
      · exact .startFrame (h.modPort p) p _
    · split
      · exact .startFrame (h.modPort p) p _
      · exact .startAgain (h.modPort p) p _
      · exact .startFrame (h.modPort p) p _
      · exact h
  · split
    · split
      · exact .sendInside (h.modPort p) p _ _ _
      · exact h
    · exact h

theorem TimeSeqKept.sendFrame (h : TimeSeqKept s₀ s) (p : Port) (own : Bool) (f : Frame) :
    TimeSeqKept s₀ (s.sendFrame p own f) := by
  unfold State.sendFrame State.enqueue
  exact .serve (h.modPort p) p

end

section
variable (s : State) (flags : Nat) (p : Port)

/-- TFLAGS of a head (R298). -/
def State.timeFlags : Nat :=
  flagAt (s.tu.st == 0 || s.tu.st == 3) 0 + flagAt (match s.tu.steppedAt with
    | some t => decide (s.now < t + 1000000000)
    | none => false) 1

/-- TSEQ of a port is set. -/
def State.setTseq (n : Nat) : State := s.modLoop (fun l => match p with
  | .a => { l with tseqA := n }
  | .b => { l with tseqB := n })

/-- The turn of a port in TIME_FRAME_TX. -/
def State.sendTime : State :=
  if (s.port p).st != 2 then s
  else
    (s.setTseq p ((s.loop.tseq p + 1) % 65536)).sendFrame p true
      { ftype := 4, down := p == .a, bcast := false, head := s.headNo, hop := 0, dist := 0, lseq := 0, lack := 0,
        info := 0, payload := leBytes 8 s.now ++ leBytes 4 0 ++ leBytes 2 (s.loop.tseq p + 1) ++ leBytes 2 flags }

theorem State.setTseq_port (n : Nat) (q : Port) : (s.setTseq p n).port q = s.port q := by
  cases p <;> cases q <;> rfl

theorem State.setTseq_tseq_self (n : Nat) : (s.setTseq p n).loop.tseq p = n := by cases p <;> rfl

theorem State.setTseq_tseq_other (n : Nat) : (s.setTseq p n).loop.tseq (otherPort p) = s.loop.tseq (otherPort p) := by
  cases p <;> rfl

theorem State.sendTime_touch {s₀ s : State} (h : TouchM 33619968 s₀ s) (flags : Nat) (p : Port) :
    TouchM 33619968 s₀ (s.sendTime flags p) := by
  unfold State.sendTime
  split
  · exact h
  · exact State.sendFrame_touch (State.modLoop_touch h _) p true _

theorem State.sendTime_st (q : Port) : ((s.sendTime flags p).port q).st = (s.port q).st := by
  unfold State.sendTime
  split
  · rfl
  · exact (((TimeSeqKept.refl _).sendFrame p true _).st q).trans (congrArg PortSt.st (s.setTseq_port p _ q))

/-- A port that is UP numbers its frame. -/
theorem State.sendTime_tseq_self : (s.sendTime flags p).loop.tseq p =
    if (s.port p).st = 2 then (s.loop.tseq p + 1) % 65536 else s.loop.tseq p := by
  unfold State.sendTime
  by_cases hup : (s.port p).st = 2
  · rw [if_pos hup, if_neg (by rw [hup]; decide)]
    exact (((TimeSeqKept.refl _).sendFrame p true _).tseq p).trans (s.setTseq_tseq_self p _)
  · rw [if_neg hup, if_pos (bne_iff_ne.2 hup)]

theorem State.sendTime_tseq_other : (s.sendTime flags p).loop.tseq (otherPort p) = s.loop.tseq (otherPort p) := by
  unfold State.sendTime
  split
  · rfl
  · exact (((TimeSeqKept.refl _).sendFrame p true _).tseq _).trans (s.setTseq_tseq_other p _)

end

theorem exec_timeFrameTx_of_due {s : State} (hpow : s.powered = true) (hhead : s.isHead = true)
    (htx : s.flag Fld.timeCtrlTxEn = true) (hdue : s.now % 1000000 = 0) :
    exec .timeFrameTx s = .next ((s.sendTime s.timeFlags .a).sendTime s.timeFlags .b).settle := by
  have hsends : ¬(!s.powered || !s.isHead || !s.flag Fld.timeCtrlTxEn || s.now % 1000000 != 0) = true := by
    rw [hpow, hhead, htx, hdue]
    decide
  exact if_neg hsends

/-! ### SOURCE_LOST (R300) -/

section
variable {s : State} {p : Port}

theorem exec_sourceLost_of_late {c : Nat × Nat × Bool × Bool} (hcand : s.tu.cand p = some c) (hpow : s.powered = true)
    (hmember : s.isHead = false) (hlate : c.1 + 3000000 ≤ s.now) :
    exec (.sourceLost p) s = .next (s.dropSource p).settle := by
  have hdue : (s.powered && !s.isHead && decide (c.1 + 3000000 ≤ s.now)) = true := by
    rw [hpow, hmember, decide_eq_true hlate]
    rfl
  change execSourceLost p s = _
  simp only [execSourceLost, hcand]
  exact if_pos hdue

/-- The port is no candidate any more. -/
def State.dropCand (s : State) (p : Port) : State := s.modTu (fun t => t.setCand p none)

theorem State.dropCand_candidate_other : (s.dropCand p).candidate (otherPort p) = s.candidate (otherPort p) := by
  cases p <;> rfl

theorem State.dropSource_of_other (h : s.tu.src ≠ srcCode p) : s.dropSource p = s.dropCand p :=
  if_pos (by rwa [State.modTu_tu, TimeUnit.setCand_src])

/-- The loss of the source that is followed leaves the other candidate, or none. -/
theorem State.dropSource_of_followed (h : s.tu.src = srcCode p) : s.dropSource p =
    match s.candidate (otherPort p) with
    | some (_, h, hold, head) => (s.dropCand p).modTu (fun t => { t with
        src := srcCode (otherPort p), better := 0, hops := h, srcHoldover := hold, srcHead := head })
    | none => (s.dropCand p).modTu (fun t => { t with src := 0, better := 0 }) := by
  rw [← State.dropCand_candidate_other]
  exact if_neg (by rw [State.modTu_tu, TimeUnit.setCand_src]; exact not_not_intro h)

theorem State.dropSource_cand : (s.dropSource p).tu.cand p = none := by
  by_cases h : s.tu.src = srcCode p
  · rw [State.dropSource_of_followed h]
    split
    · cases p <;> rfl
    · cases p <;> rfl
  · rw [State.dropSource_of_other h]
    exact TimeUnit.setCand_cand _ _ _

theorem State.dropSource_src_of_followed (h : s.tu.src = srcCode p) : (s.dropSource p).tu.src =
    if (s.candidate (otherPort p)).isSome then srcCode (otherPort p) else 0 := by
  rw [State.dropSource_of_followed h]
  cases s.candidate (otherPort p) with
  | none => rfl
  | some c => rfl

end

/-! ### HOLDOVER, HOLDOVER_LIMIT (R301) -/

/-- Counting the trim up to now does not move it. -/
theorem TimeUnit.countTrim_trim (t : TimeUnit) (now : Nat) : (t.countTrim now).trim = t.trim := by
  unfold TimeUnit.countTrim
  split
  · rfl
  · rfl

section
variable {s : State}

/-- The time unit enters HOLDOVER. -/
def State.startHoldover (s : State) : State := s.modTu (fun t => { t.countTrim s.now with
  st := 3, src := 0, holdFrom := some s.now, limitRaised := false, lockMark := none, slewing := false
  trim := meanTrim (t.countTrim s.now).trim (t.countTrim s.now).trims })

theorem exec_holdover_of_late (hpow : s.powered = true) (hfollow : s.flag Fld.timeCtrlFollow = true)
    (hsource : s.isHead = false ∨ s.followsPtm = true) (hst : s.tu.st = 1 ∨ s.tu.st = 2)
    (hlate : s.tu.lastSource + s.sourceTimeout ≤ s.now) :
    exec .holdover s = .next (s.startHoldover.raise .holdover none none 0 0 0).settle := by
  have hfollows : (if s.isHead then s.followsPtm else s.flag Fld.timeCtrlFollow) = true := by
    rcases hsource with hmember | hptm
    · rw [hmember]
      exact hfollow
    · rw [hptm, hfollow, ite_self]
  have hstate : (s.tu.st == 1 || s.tu.st == 2) = true := by
    simpa only [Bool.or_eq_true, beq_iff_eq] using hst
  refine if_pos ?_
  rw [hpow, hfollows, hstate, decide_eq_true hlate]
  rfl

theorem exec_holdoverLimit_of_late {t : Nat} (hfrom : s.tu.holdFrom = some t) (hpow : s.powered = true)
    (hst : s.tu.st = 3) (hfirst : s.tu.limitRaised = false)
    (hlate : t + 1000000000 * s.fld Fld.timeHoldoverLimitS < s.now) :
    exec .holdoverLimit s = .next ((s.modTu (fun x => { x with limitRaised := true })).raise .holdoverLimit none none
      (word (Nat.min 0xFFFF ((s.now - t) / 1000000000))) 0 0).settle := by
  have hdue : (s.powered && s.tu.st == 3 && !s.tu.limitRaised &&
      decide (t + 1000000000 * s.fld Fld.timeHoldoverLimitS < s.now)) = true := by
    rw [hpow, hst, hfirst, decide_eq_true hlate]
    rfl
  change execHoldoverLimit s = _
  simp only [execHoldoverLimit, hfrom]
  exact if_pos hdue

end

/-! ### TIME_NOW (R302, R303) -/

section
variable {s : State} {hi lo v : Word}

/-- Line time reads the first tick at or after the time that is set. -/
theorem State.setTime_now (s : State) (t : Nat) : (s.setTime t).now = onGrid t := rfl

/-- A slew moves no time; it notes when it will be over. -/
theorem State.beginSlew_now (s : State) (off : Int) : (s.beginSlew off).now = s.now := by
  unfold State.beginSlew
  dsimp only
  split
  · rfl
  · rfl

theorem State.beginSlew_tu (s : State) (off : Int) : (s.beginSlew off).tu = { s.tu with
    slewing := true
    slewEnd := if s.fld Fld.timeCtrlSlewPpm = 0 then none
      else some (s.now + off.natAbs * 100000 / s.fld Fld.timeCtrlSlewPpm) } := by
  unfold State.beginSlew
  dsimp only
  split
  · rfl
  · rfl

/-- TIME_NOW_HI waits for TIME_NOW_LO. -/
theorem State.writeTime_hi (hfree : s.flag Fld.timeCtrlFollow = false) :
    s.writeTime 0x2004 hi v = s.modTu (fun t => { t with hiWritten := some hi }) :=
  if_neg (Bool.eq_false_iff.1 hfree)

/-- The state in which no word of TIME_NOW waits for the other. -/
def State.takeHi (s : State) : State := s.modTu (fun t => { t with hiWritten := none })

/-- TIME_NOW_LO completes the time that TIME_NOW_HI has begun. -/
theorem State.writeTime_lo (hfree : s.flag Fld.timeCtrlFollow = false) (hhi : s.tu.hiWritten = some hi) :
    s.writeTime 0x2000 lo v =
      if s.stepPermitted then s.takeHi.setTime (hi.toNat * 2 ^ 32 + lo.toNat)
      else s.takeHi.beginSlew (10 * (((hi.toNat * 2 ^ 32 + lo.toNat : Nat) : Int) - s.now)) := by
  simp only [State.writeTime, hhi]
  exact if_neg (Bool.eq_false_iff.1 hfree)

/-- Both words, in order. -/
theorem State.writeTime_both (hfree : s.flag Fld.timeCtrlFollow = false) :
    (s.writeTime 0x2004 hi 0).writeTime 0x2000 lo 0 =
      if s.stepPermitted then s.takeHi.setTime (hi.toNat * 2 ^ 32 + lo.toNat)
      else s.takeHi.beginSlew (10 * (((hi.toNat * 2 ^ 32 + lo.toNat : Nat) : Int) - s.now)) := by
  rw [State.writeTime_hi hfree]
  exact State.writeTime_lo (s := s.modTu (fun t => { t with hiWritten := some hi })) hfree rfl

/-- A unit that follows a source ignores both words. -/
theorem State.writeTime_hi_of_follow (hfollow : s.flag Fld.timeCtrlFollow = true) : s.writeTime 0x2004 hi v = s :=
  if_pos hfollow

theorem State.writeTime_lo_of_none (hhi : s.tu.hiWritten = none) : s.writeTime 0x2000 lo v = s := by
  simp only [State.writeTime, hhi]

end

/-- Settles O50: one equation per event and per write of TIME_NOW, and what each leaves in the time unit. -/
theorem lineTime : Obligations.LineTime := by
  refine ⟨fun s p f rx htakes => ?time, fun s p f rx hfollow hallowed hsrc => ?offset,
    fun s master hset hpow hptm => ?ptm, fun s hset hpow hhead htx hdue => ?transmits,
    fun s p c hcand hpow hmember hlate => ?lost, fun s hpow hfollow hsource hst hlate => ?holdover,
    fun s t => exec_holdoverLimit_of_late, fun s hi lo hfree hstep => ?steps, fun s hi lo hfree hstep => ?slews,
    fun s hi lo hfollow hhi => ?ignored⟩
  case time =>
    have hexec := exec_time_of_takes (rx := rx) htakes
    constructor
    · intro hhead
      rw [hexec, if_pos hhead]
    · intro hmember
      rw [hexec, if_neg (Bool.eq_false_iff.1 hmember)]
  case offset =>
    exact ⟨s.followFrame p f, State.takeTime_of_followed hfollow hallowed hsrc, rfl, State.followFrame_lastSource hsrc,
      (s.followFrame_touch p f).touch [.tu]⟩
  case ptm =>
    have hexec (ok : Bool) := exec_ptmDialogue_of_follows hpow hptm ok master
    exact ⟨(hexec false).trans (congrArg _ (State.settle_eq hset)), hexec true⟩
  case transmits =>
    have htouch : TouchM 33619968 s ((s.sendTime s.timeFlags .a).sendTime s.timeFlags .b) :=
      State.sendTime_touch (State.sendTime_touch (TouchM.refl _ s) _ _) _ _
    refine ⟨_, ?_, htouch.touch [.loop, .out], ?_, ?_⟩
    · rw [exec_timeFrameTx_of_due hpow hhead htx hdue, State.settle_eq (htouch.settled.trans hset)]
    · exact (State.sendTime_tseq_other _ _ .b).trans (s.sendTime_tseq_self _ .a)
    · have hnumbered := (s.sendTime s.timeFlags .a).sendTime_tseq_self s.timeFlags .b
      have hbefore : (s.sendTime s.timeFlags .a).loop.tseq .b = s.loop.tseq .b := s.sendTime_tseq_other _ .a
      rw [State.sendTime_st, hbefore] at hnumbered
      exact hnumbered
  case lost =>
    refine ⟨s.dropSource p, exec_sourceLost_of_late hcand hpow hmember hlate,
      (State.dropSource_touch (TouchM.refl 131072 s) p).touch [.tu], State.dropSource_cand, fun hother => ?_,
      State.dropSource_src_of_followed⟩
    rw [State.dropSource_of_other hother]
    exact TimeUnit.setCand_src _ _ _
  case holdover =>
    have htouch : TouchM 1179648 s (s.startHoldover.raise .holdover none none 0 0 0) :=
      State.raise_touch (State.modTu_touch (TouchM.refl _ s) _) _ _ _ _ _ _
    refine ⟨_, exec_holdover_of_late hpow hfollow hsource hst hlate, rfl, rfl, rfl, ?_, htouch.touch [.tu, .flt], ?_⟩
    · exact congrArg (fun trim => meanTrim trim (s.tu.countTrim s.now).trims) (s.tu.countTrim_trim s.now)
    · rw [State.raise_due]
      exact ⟨_, List.mem_append_right _ List.mem_cons_self, rfl⟩
  case steps =>
    rw [State.writeTime_both hfree, if_pos hstep, State.setTime_now, onGrid]
  case slews =>
    intro t d
    have hd : d = ((hi.toNat * 2 ^ 32 + lo.toNat : Nat) : Int) - s.now := by
      push_cast
      rfl
    have ht : t = s.takeHi.beginSlew (10 * d) := by
      rw [hd]
      exact (State.writeTime_both hfree).trans (if_neg (Bool.eq_false_iff.1 hstep))
    rw [ht, State.beginSlew_now, State.beginSlew_tu]
    exact ⟨rfl, rfl, rfl⟩
  case ignored =>
    rw [State.writeTime_hi_of_follow hfollow, State.writeTime_lo_of_none hhi]

end Sys2Proof.Machine
end

section
/-!
PROOFS. The 150 °C event (chapter 12): what the halt path leaves in the module state, the pins, the phases and the links, and
what the shutdown adds to it.
-/

namespace Sys2Proof.Machine

/-! ### The phases of a stage that is off (R112) -/

/-- A choice leaves the phases that both its branches leave. -/
theorem State.ite_phases {c : Prop} [Decidable c] {a b : State} {v : Vec PhaseSt 8} (ha : a.spc.phases = v)
    (hb : b.spc.phases = v) : (if c then a else b).spc.phases = v := by
  split
  · exact ha
  · exact hb

/-- A choice touches no more than both its branches. -/
theorem TouchM.ite {c : Prop} [Decidable c] {μ : Nat} {s a b : State} (ha : TouchM μ s a) (hb : TouchM μ s b) :
    TouchM μ s (if c then a else b) := by
  split
  · exact ha
  · exact hb

section
variable (s : State)

theorem State.stageOff_released (p : Phase) : (s.stageOff.spc.phases.get p).pwm = .released :=
  congrArg PhaseSt.pwm (Vec.get_map _ _ _)

theorem State.endInhibit_phases (c : Nat) : (s.endInhibit c).spc.phases = s.spc.phases := by
  unfold State.endInhibit
  exact State.ite_phases rfl rfl

/-- Of the safe states only that of slice 63 is in the SPC: its link, not its phases (R420). -/
theorem State.safeState_phases (n : Nat) : (s.safeState n).spc.phases = s.spc.phases := by
  unfold State.safeState
  split
  case h_1 g _ =>
    have htouch : TouchM 4144 s ((s.parkSegment g 11).bistShunt n true) :=
      State.bistShunt_touch (State.parkSegment_touch (TouchM.refl _ s) g 11 rfl) n true rfl
    rw [htouch.same .spc rfl]
  case h_2 =>
    have hport (p : Port) : (s.restartPort p).spc.phases = s.spc.phases :=
      congrArg Spc.phases ((State.restartPort_touch (TouchM.refl 35192832 s) p rfl).same .spc rfl)
    exact State.ite_phases (hport .a) (State.ite_phases (hport .b) (State.ite_phases rfl (State.ite_phases rfl rfl)))

theorem State.failSlice_phases (n : Slice) (hung : Bool) : (s.failSlice n hung).spc.phases = s.spc.phases :=
  State.safeState_phases _ _

theorem State.nextSlice_phases : s.nextSlice.spc.phases = s.spc.phases :=
  congrArg Spc.phases ((State.nextSlice_touch (TouchM.refl 2097152 s) rfl).same .spc rfl)

theorem State.endOfQueue_phases : s.endOfQueue.spc.phases = s.spc.phases :=
  congrArg Spc.phases ((State.endOfQueue_touch (TouchM.refl 36241408 s) rfl).same .spc rfl)

theorem State.freeBlock_phases (n : Slice) : (s.freeBlock n).spc.phases = s.spc.phases :=
  congrArg Spc.phases ((State.freeBlock_touch (TouchM.refl 2097664 s) n rfl).same .spc rfl)

/-- A slice that is preempted moves no phase, even where it counts as failed. -/
theorem State.abortSlice_phases : s.abortSlice.spc.phases = s.spc.phases := by
  unfold State.abortSlice
  split
  case h_1 => rfl
  case h_2 n _ _ =>
    have hfree := s.freeBlock_phases n
    have hrerun (u : State) (hu : u.spc.phases = s.spc.phases) : u.nextSlice.spc.phases = s.spc.phases :=
      u.nextSlice_phases.trans hu
    refine State.ite_phases hfree (State.ite_phases hfree (State.ite_phases (hrerun _ hfree) ?_))
    refine (State.endOfQueue_phases _).trans (hrerun _ (State.ite_phases ?_ hfree))
    exact (State.failSlice_phases _ _ _).trans hfree

end

/-! ### The halt path, stage by stage (R23, R25, R387) -/

section
variable (s : State)

/-- The cause HALT ends, and OPEN is left, as the module enters another state than HALT. -/
def State.liftHalt (old m : ModState) : State :=
  if m == .halt then s
  else if old == .ready || old == .startupTest then (s.endInhibit inhHalt).leaveOpenAll
  else s.endInhibit inhHalt

/-- A run ends. -/
def State.quitRun (old : ModState) : State := if old == .run then s.leaveRun else s

/-- Slices stop, and those that wait for a rerun wait no longer. -/
def State.quitSlices : State := s.endTest.abortSlice.modBist (fun b => { b with rerunQueue := [] })

/-- DRYDOWN ends. -/
def State.quitDrydown (old : ModState) : State := if old == .drydown then s.drydownLeft else s

/-- The module just before it enters the state that it halts to. -/
def State.atHalt (m : ModState) (cause : Nat) : State :=
  (((s.inhibit cause).stageOff.liftHalt s.st m).quitRun s.st).quitSlices

theorem State.haltTo_eq (m : ModState) (cause : Nat) :
    s.haltTo m cause = (((s.atHalt m cause).enter m).quitDrydown s.st).powerActive.parkSymbol false := rfl

theorem State.liftHalt_touch (old m : ModState) : TouchM 6192 s (s.liftHalt old m) := by
  have hcause : TouchM 6192 s (s.endInhibit inhHalt) := State.endInhibit_touch (TouchM.refl _ s) _ rfl
  exact TouchM.ite (TouchM.refl _ s) (TouchM.ite (State.leaveOpenAll_touch hcause rfl) hcause)

theorem State.liftHalt_phases (old m : ModState) : (s.liftHalt old m).spc.phases = s.spc.phases := by
  have hcause := s.endInhibit_phases inhHalt
  have hopen : (s.endInhibit inhHalt).leaveOpenAll.spc = (s.endInhibit inhHalt).spc :=
    (State.leaveOpenAll_touch (TouchM.refl 4144 _) rfl).same .spc rfl
  exact State.ite_phases rfl (State.ite_phases ((congrArg Spc.phases hopen).trans hcause) hcause)

theorem State.quitRun_touch (old : ModState) : TouchM 51979696 s (s.quitRun old) :=
  TouchM.ite (State.leaveRun_touch (TouchM.refl _ s) rfl) (TouchM.refl _ s)

theorem State.quitSlices_touch : TouchM 37296688 s s.quitSlices :=
  State.modBist_touch (State.abortSlice_touch (State.endTest_touch (TouchM.refl _ s) rfl) rfl) _ rfl

theorem State.quitSlices_phases : s.quitSlices.spc.phases = s.spc.phases := by
  have htest : s.endTest.spc = s.spc := (State.endTest_touch (TouchM.refl 2162688 s) rfl).same .spc rfl
  rw [← htest]
  exact s.endTest.abortSlice_phases

theorem State.quitDrydown_touch (old : ModState) : TouchM 35234592 s (s.quitDrydown old) :=
  TouchM.ite (State.drydownLeft_touch (TouchM.refl _ s) rfl) (TouchM.refl _ s)

/-! ### What the halt path leaves -/

variable (m : ModState) (cause : Nat)

theorem State.atHalt_touch : TouchM 54083504 (s.inhibit cause).stageOff (s.atHalt m cause) :=
  (((TouchM.refl _ _).then (State.liftHalt_touch _ s.st m) rfl).then (State.quitRun_touch _ s.st) rfl).then
    (State.quitSlices_touch _) rfl

theorem State.atHalt_phases : (s.atHalt m cause).spc.phases = (s.inhibit cause).stageOff.spc.phases := by
  have hrun (u : State) : (u.quitRun s.st).spc = u.spc := (u.quitRun_touch s.st).same .spc rfl
  refine (State.quitSlices_phases _).trans ?_
  rw [hrun]
  exact State.liftHalt_phases _ _ _

theorem State.atHalt_glb : (s.atHalt m cause).glb = s.glb :=
  ((s.atHalt_touch m cause).same .glb rfl).trans
    ((State.stageOff_touch (State.inhibit_touch (TouchM.refl 33556612 s) cause rfl) rfl).same .glb rfl)

theorem State.atHalt_now : (s.atHalt m cause).now = s.now :=
  ((s.atHalt_touch m cause).same .now rfl).trans
    ((State.stageOff_touch (State.inhibit_touch (TouchM.refl 33556612 s) cause rfl) rfl).same .now rfl)

/-- Once the module has entered the state that it halts to, neither that state nor the stage changes any more. -/
theorem State.haltTo_entered : TouchM 35234592 ((s.atHalt m cause).enter m) (s.haltTo m cause) :=
  State.parkSymbol_touch (State.powerActive_touch (State.quitDrydown_touch _ s.st) rfl) false rfl

theorem State.haltTo_glb : (s.haltTo m cause).glb = { s.glb with st := m, prev := s.glb.st, enteredAt := s.now } := by
  rw [(s.haltTo_entered m cause).same .glb rfl, State.enter_glb, State.atHalt_glb, State.atHalt_now]

/-- An inhibit moves no pin other than PH_EN_N, which goes high with the stage (R112). -/
theorem State.inhibit_stageOff_pins : (s.inhibit cause).stageOff.pins = { s.pins with phEnHigh := true } := by
  have hkept (u : State) : (u.nakPending.retarget 0).pins = u.pins :=
    (State.retarget_touch (State.nakPending_touch (TouchM.refl 33556608 u) rfl) 0 rfl).same .pins rfl
  have hoff (u : State) : u.stageOff.pins = { u.pins with phEnHigh := true } := rfl
  rw [hoff]
  unfold State.inhibit
  dsimp only
  split
  · rfl
  · rfl
  · rw [State.modSpc_pins, hoff, hkept, State.modSpc_pins]
  · rw [State.modSpc_pins, hoff, hkept, State.modSpc_pins]

theorem State.haltTo_pins : (s.haltTo m cause).pins = { s.pins with phEnHigh := true } := by
  have hhalt : (s.atHalt m cause).pins = (s.inhibit cause).stageOff.pins := (s.atHalt_touch m cause).same .pins rfl
  rw [(s.haltTo_entered m cause).same .pins rfl, State.enter_pins, hhalt, State.inhibit_stageOff_pins]

theorem State.haltTo_released (p : Phase) : ((s.haltTo m cause).spc.phases.get p).pwm = .released := by
  rw [(s.haltTo_entered m cause).same .spc rfl, State.enter_spc, State.atHalt_phases]
  exact State.stageOff_released _ p

theorem State.haltTo_parkSym (g : Seg) : ((s.haltTo m cause).links.get g).parkSym = some false := by
  rw [State.haltTo_eq, State.parkSymbol, State.setLinks_links, Vec.get_map]

end

/-! ### SHUTDOWN (R310, R369) -/

section
variable (s : State)

theorem State.sendDown_parkSym (g h : Seg) (m : DownMsg) :
    ((s.sendDown g m).links.get h).parkSym = (s.links.get h).parkSym := by
  by_cases heq : h = g
  · subst heq
    obtain ⟨d, w, hlink⟩ := s.sendDown_link_self h m
    rw [hlink]
  · rw [s.sendDown_link_ne g m heq]

theorem State.rollBack_parkSym (st : AccState) (h : Seg) :
    ((s.rollBack st).links.get h).parkSym = (s.links.get h).parkSym := by
  unfold State.rollBack
  rw [State.modPlay_links, State.modAcc_links, each]
  exact List.foldlRecOn (motive := fun (u : State) => (u.links.get h).parkSym = (s.links.get h).parkSym) _ _ rfl
    fun u hu g _ => (u.sendDown_parkSym g h _).trans hu

/-- The messages that drop an accord leave the park symbols on the links. -/
theorem State.accordShutdown_parkSym (h : Seg) :
    (s.accordShutdown.links.get h).parkSym = (s.links.get h).parkSym := by
  unfold State.accordShutdown
  split
  · exact s.rollBack_parkSym .rolledBack h
  · exact s.rollBack_parkSym .split h
  all_goals rfl

variable (sensor : Nat) (temp : Int)

/-- The module latched for a sensor and its temperature, with no reset and no HALT to come. -/
def State.latch : State :=
  (((s.haltTo .shutdownLatched inhLatched).abandonWrites (some .tempInhibit)).modTherm (fun t =>
    { t with latched := true, tripSource := sensor, tripTemp := temp })).modGlb (fun g =>
    { g with heldHalt := false, resetAt := none })

/-- A shutdown in full, with its fault. -/
theorem State.shutdownNow_eq (hpow : s.powered = true) (hst : s.glb.st ≠ .shutdownLatched) :
    s.shutdownNow sensor temp =
      (s.latch sensor temp).accordShutdown.abortVerify.raise .shutdown none none (word sensor) (wordI temp) 0 := by
  unfold State.shutdownNow
  split
  case h_1 hoff =>
    rw [State.powered, hoff] at hpow
    exact absurd hpow (by decide)
  case h_2 hdormant =>
    rw [State.powered, hdormant] at hpow
    exact absurd hpow (by decide)
  case h_3 hlatched => exact absurd hlatched hst
  all_goals rfl

/-- The accord, a FLACON_VERIFY and the report leave what the latch has set. -/
theorem State.shutdownNow_touch_latch (hpow : s.powered = true) (hst : s.glb.st ≠ .shutdownLatched) :
    TouchM 35456512 (s.latch sensor temp) (s.shutdownNow sensor temp) := by
  rw [s.shutdownNow_eq sensor temp hpow hst]
  exact State.raise_touch (State.abortVerify_touch (State.accordShutdown_touch (TouchM.refl _ _) rfl) rfl) _ _ _ _ _ _ rfl

/-- Beyond the halt path, writes to the flash are abandoned, and the latch and the module state are set. -/
theorem State.latch_touch : TouchM 109658114 (s.haltTo .shutdownLatched inhLatched) (s.latch sensor temp) :=
  State.modGlb_touch (State.modTherm_touch (State.abandonWrites_touch (TouchM.refl _ _) _ rfl) _ rfl) _ rfl

theorem State.latch_glb : (s.latch sensor temp).glb =
    { s.glb with st := .shutdownLatched, prev := s.glb.st, enteredAt := s.now, heldHalt := false, resetAt := none } := by
  have hwrites : ((s.haltTo .shutdownLatched inhLatched).abandonWrites (some .tempInhibit)).glb =
      { s.glb with st := .shutdownLatched, prev := s.glb.st, enteredAt := s.now } :=
    ((State.abandonWrites_touch (TouchM.refl 109641728 _) _ rfl).same .glb rfl).trans (s.haltTo_glb _ _)
  refine (State.modGlb_glb _ _).trans ?_
  rw [State.modTherm_glb, hwrites]

theorem State.latch_therm : (s.latch sensor temp).therm =
    { s.therm with latched := true, tripSource := sensor, tripTemp := temp } := by
  have hwrites : ((s.haltTo .shutdownLatched inhLatched).abandonWrites (some .tempInhibit)).therm = s.therm :=
    (State.abandonWrites_touch (State.haltTo_touch (TouchM.refl 129875894 s) _ _ rfl) _ rfl).same .therm rfl
  refine (State.modGlb_therm _ _).trans ?_
  rw [State.modTherm_therm, hwrites]

end

theorem exec_shutdown_of_hot {s : State} {i : Fin 33} (hhot : s.at150 i.val = true) (haux : s.auxComing = false) :
    exec (.shutdown i) s = .next (s.shutdownNow i.val (s.sensorTemp i.val)).settle := by
  refine if_pos ?_
  rw [hhot, haux]
  rfl

/-- Settles O14: the event of a hot sensor, and what a shutdown leaves: the halt path's pins, phases and links, the latch, and
the fault that it raises last. -/
theorem shutdownTaken : Obligations.ShutdownTaken := by
  refine ⟨fun s i => exec_shutdown_of_hot, fun s sensor temp hpow hst => ?_⟩
  have hlatch := s.shutdownNow_touch_latch sensor temp hpow hst
  have hhalt := s.latch_touch sensor temp
  refine ⟨?glb, ?therm, ?pins, fun p => ?phases, fun g => ?links, ?fault⟩
  case glb => exact (hlatch.same .glb rfl).trans (s.latch_glb sensor temp)
  case therm => exact (hlatch.same .therm rfl).trans (s.latch_therm sensor temp)
  case pins => exact ((hlatch.same .pins rfl).trans (hhalt.same .pins rfl)).trans (s.haltTo_pins _ _)
  case phases =>
    have hspc : (s.shutdownNow sensor temp).spc = (s.haltTo .shutdownLatched inhLatched).spc :=
      (hlatch.same .spc rfl).trans (hhalt.same .spc rfl)
    rw [hspc]
    exact s.haltTo_released _ _ p
  case links =>
    have hverify (u : State) : u.abortVerify.links = u.links :=
      (State.abortVerify_touch (TouchM.refl 34145280 u) rfl).same .links rfl
    have hlinks : (s.latch sensor temp).links = (s.haltTo .shutdownLatched inhLatched).links := hhalt.same .links rfl
    rw [s.shutdownNow_eq sensor temp hpow hst, State.raise, State.report, State.modFlt_links, hverify,
      State.accordShutdown_parkSym, hlinks]
    exact s.haltTo_parkSym _ _ g
  case fault =>
    rw [s.shutdownNow_eq sensor temp hpow hst, State.raise_due]
    exact ⟨_, List.mem_append_right _ List.mem_cons_self, rfl, rfl, rfl⟩

end Sys2Proof.Machine
end

section
/-!
PROOFS. The samples of the temperature sensors (chapter 12): one equation per event, and what each leaves in the tables of the
diodes, the bank models and the NTCs; slow rounds.
-/

namespace Sys2Proof.Machine

/-! ### The rate near the limit (R358) -/

/-- A check of the rate sets the rate and the time of cooling, and nothing else of the thermal supervision. -/
theorem State.nearCheck_eq (s : State) :
    ∃ near cool, s.nearCheck = { s with therm := { s.therm with near := near, coolSince := cool } } := by
  unfold State.nearCheck
  dsimp only
  split
  · exact ⟨_, _, rfl⟩
  · split
    · exact ⟨_, _, rfl⟩
    · exact ⟨_, _, rfl⟩

theorem State.nearCheck_tables (s : State) : s.nearCheck.therm.dies = s.therm.dies ∧
    s.nearCheck.therm.banks = s.therm.banks ∧ s.nearCheck.therm.lastModel = s.therm.lastModel := by
  obtain ⟨near, cool, heq⟩ := s.nearCheck_eq
  rw [heq]
  exact ⟨rfl, rfl, rfl⟩

section
variable (s : State)

/-! ### THERMAL_SAMPLE (R358, R364) -/

/-- The diodes' readings, judged. -/
def State.judgedDies (rs : List Int) : Vec DieTemp 17 :=
  (s.therm.dies.mapIdx (s.dieFresh rs)).mapIdx (s.dieJudge (s.therm.dies.mapIdx (s.dieFresh rs)) rs)

/-- The diodes' readings in use. -/
def State.takeDies (rs : List Int) : State :=
  s.modTherm (fun h => { h with dies := (s.judgedDies rs).mapIdx (dieUse (s.judgedDies rs) s.now) })

/-- The faults of the diodes. -/
def State.actOnDies (rs : List Int) : State := each (List.range 17) (fun u i => u.dieAct s.therm.dies i) (s.takeDies rs)

theorem State.actOnDies_touch (rs : List Int) : TouchM 1048576 (s.takeDies rs) (s.actOnDies rs) :=
  each_touch _ (TouchM.refl _ _) fun _ i hu => State.dieAct_touch hu _ i rfl

theorem exec_thermalSample_of_powered {s : State} (hpow : s.powered = true) (rs : List Int) :
    exec (.thermalSample rs) s = .next (s.actOnDies rs).nearCheck.settle := if_pos hpow

theorem State.sampledDies (rs : List Int) :
    (s.actOnDies rs).nearCheck.therm.dies = (s.judgedDies rs).mapIdx (dieUse (s.judgedDies rs) s.now) := by
  obtain ⟨hdies, -, -⟩ := (s.actOnDies rs).nearCheck_tables
  rw [hdies, (s.actOnDies_touch rs).same .therm rfl]
  rfl

theorem State.sampleDies_touch (rs : List Int) : TouchM 1064960 s (s.actOnDies rs).nearCheck :=
  State.nearCheck_touch ((State.modTherm_touch (TouchM.refl 1064960 s) _ rfl).then (s.actOnDies_touch rs) rfl) rfl

/-- A reading outside -40 °C to +160 °C breaks its diode (R364). -/
theorem State.dieFresh_of_outside {s : State} {rs : List Int} {i : Nat} (d : DieTemp) (hreach : s.dieReachable i = true)
    (hout : rs.getD i 0 < -4000 ∨ 16000 < rs.getD i 0) :
    s.dieFresh rs i d = { d with stale := false, valid := true, broken := true, goods := 0 } := by
  have hbad : (decide (rs.getD i 0 < -4000) || decide (16000 < rs.getD i 0)) = true := by
    simpa only [Bool.or_eq_true, decide_eq_true_eq] using hout
  simp only [State.dieFresh, hreach, hbad, Bool.or_true, if_true, Bool.not_true, Bool.false_eq_true, if_false]

/-! ### MODEL_STEP (R365) -/

/-- The bank models advance, and take the clamp events that they count. -/
def State.stepBanks : State :=
  (s.putCells (s.cells.map (fun c => { c with clampHits := 0 }))).modTherm (fun h =>
    { h with banks := s.therm.banks.mapIdx (fun i l => s.bankNext (seg i) l), lastModel := s.now })

theorem exec_modelStep_of_powered {s : State} (hpow : s.powered = true) :
    exec .modelStep s = .next s.stepBanks.nearCheck.settle := if_pos hpow

theorem State.stepBanks_touch : TouchM 16400 s s.stepBanks.nearCheck :=
  State.nearCheck_touch (State.modTherm_touch (State.putCells_touch (TouchM.refl _ s) _ rfl) _ rfl) rfl

theorem State.stepBanks_bank (g : Seg) :
    s.stepBanks.nearCheck.therm.banks.get g = s.bankNext (seg g) (s.therm.banks.get g) := by
  obtain ⟨-, hbanks, -⟩ := s.stepBanks.nearCheck_tables
  rw [hbanks]
  exact Vec.get_mapIdx _ _ g

theorem State.stepBanks_lastModel : s.stepBanks.nearCheck.therm.lastModel = s.now := by
  obtain ⟨-, -, hlast⟩ := s.stepBanks.nearCheck_tables
  exact hlast

theorem State.stepBanks_cell (k : Cell) :
    s.stepBanks.nearCheck.cells.get k = { s.cells.get k with clampHits := 0 } := by
  rw [(State.nearCheck_touch (TouchM.refl 16384 s.stepBanks) rfl).same .cells rfl]
  exact Vec.get_map _ _ k

/-! ### NTC_SAMPLE (R356, R360 to R362, R514) -/

/-- The NTCs' readings, judged. -/
def State.judgedNtcs (rs : List Nat) : Vec CellTemp 256 :=
  (s.temps.mapIdx (s.ntcFresh rs)).mapIdx (s.ntcJudge (s.temps.mapIdx (s.ntcFresh rs)) rs)

/-- The cells' temperatures in use. -/
def State.takeNtcs (rs : List Nat) : State := s.setTemps ((s.judgedNtcs rs).mapIdx (s.ntcUse (s.judgedNtcs rs)))

/-- The faults, the parks and the holds that follow. -/
def State.actOnNtcs (rs : List Nat) : State := (each allCells (fun u k => u.ntcAct s.temps rs k) (s.takeNtcs rs)).reviewAll

theorem State.actOnNtcs_touch (rs : List Nat) : TouchM 1052720 (s.takeNtcs rs) (s.actOnNtcs rs) :=
  State.reviewAll_touch (each_touch _ (TouchM.refl _ _) fun _ k hu => State.ntcAct_touch hu _ rs k rfl) rfl

theorem exec_ntcSample_of_supervised {s : State} (hpow : s.powered = true) (hst : s.glb.st ≠ .drydown) (rs : List Nat) :
    exec (.ntcSample rs) s = .next (s.actOnNtcs rs).settle := by
  refine if_pos ?_
  rw [hpow, Bool.true_and, bne_iff_ne]
  exact hst

/-- The faults, the parks and the holds leave the temperatures as they are. -/
theorem State.sampledNtcs (rs : List Nat) :
    (s.actOnNtcs rs).temps = (s.judgedNtcs rs).mapIdx (s.ntcUse (s.judgedNtcs rs)) :=
  (s.actOnNtcs_touch rs).same .temps rfl

theorem State.sampleNtcs_touch (rs : List Nat) : TouchM 1052784 s (s.actOnNtcs rs) :=
  (State.setTemps_touch (TouchM.refl 1052784 s) _ rfl).then (s.actOnNtcs_touch rs) rfl

/-- An electrical fault breaks an NTC at once (R356, R360). -/
theorem State.ntcFresh_of_electrical {s : State} {rs : List Nat} {i : Nat} (t : CellTemp)
    (hreach : s.ntcReachable (cell i) = true) (hmeas : s.ntcMeasured (cell i) = true)
    (hout : 1355000 < rs.getD i 0 ∨ rs.getD i 0 < 9870) :
    (s.ntcFresh rs i t).broken = true ∧ (s.ntcFresh rs i t).goods = 0 := by
  have hfault : ntcElectrical (rs.getD i 0) = true := by
    simpa only [ntcElectrical, Bool.or_eq_true, decide_eq_true_eq] using hout
  simp only [State.ntcFresh, hreach, hmeas, hfault, Bool.or_true, if_true, Bool.not_true, Bool.false_eq_true, if_false,
    and_self]

/-- An NTC out of reach keeps its reading, which is stale (R514). -/
theorem State.ntcFresh_of_unreached {s : State} {i : Nat} (rs : List Nat) (t : CellTemp)
    (hreach : s.ntcReachable (cell i) = false) : s.ntcFresh rs i t = { t with stale := true } := by
  simp only [State.ntcFresh, hreach, Bool.not_false, if_true]

end

/-! ### Slow rounds (R359, R420) -/

section
variable {s : State}

theorem State.startSlow_eq (hidle : s.therm.slowBusy = none) : s.startSlow =
    { s with therm := { s.therm with slowBusy := some s.now }, bist := { s.bist with slowDue := false } } := by
  have hbusy : s.therm.slowBusy.orElse (fun _ => some s.now) = some s.now := by rw [hidle]; rfl
  rw [← hbusy]
  rfl

theorem exec_slowRound_of_due (hset : s.settled = true) (hpow : s.powered = true) (hdue : s.slowRoundDue = true) :
    exec (.slowRound none) s = .next s.startSlow := by
  have hstarts : (s.powered && s.slowRoundDue) = true := by rw [hpow, hdue]; rfl
  have hexec : exec (.slowRound none) s = s.startSlow.done := congrArg State.done (if_pos hstarts)
  rw [hexec]
  exact State.done_eq hset

/-- One report per element, in order, all of the same tick. -/
theorem each_raise_due {α : Type} (x : Src) (a0 a1 : α → Word) (l : List α) (s : State) :
    (each l (fun u c => u.raise x none none (a0 c) (a1 c) 0) s).flt.due =
      s.flt.due ++ l.map (fun c => ((⟨x, s.now, none, none, a0 c, a1 c, 0⟩ : Report), 0)) := by
  unfold each
  induction l generalizing s with
  | nil => exact (List.append_nil _).symm
  | cons c l ih =>
    rw [List.foldl_cons, ih, State.raise_due, List.append_assoc]
    rfl

/-- The channels that a slow round reports: those out of limits in two means, and all while slice 62 stands failed. -/
def State.outsideChannels (s : State) (l : List HouseChannel) : List HouseChannel :=
  l.filter (fun c => s.sliceFailed 62 || decide (2 ≤ c.outside))

/-- The slow round is over and its channels have been judged. -/
def State.judgeChannels (s : State) (l : List HouseChannel) : State :=
  each (s.outsideChannels l) (fun u c => u.raise .housekeeping none none (word c.channel) c.mean 0)
    (s.modTherm (fun h => { h with slowBusy := none }))

theorem State.judgeChannels_raises (l : List HouseChannel) :
    TouchM 1048576 (s.modTherm (fun h => { h with slowBusy := none })) (s.judgeChannels l) :=
  each_touch _ (TouchM.refl _ _) fun _ _ hu => State.raise_touch hu _ _ _ _ _ _ rfl

theorem exec_slowRoundEnd_of_over {t : Nat} (l : List HouseChannel) (hbusy : s.therm.slowBusy = some t)
    (hover : t + 1000000000 ≤ s.now) (halone : s.bist.cmdAll = false) :
    exec (.slowRoundEnd l) s = .next (s.judgeChannels l).settle := by
  have hbist : (s.judgeChannels l).bist = s.bist := (s.judgeChannels_raises l).same .bist rfl
  have hstays : ¬((s.judgeChannels l).bist.cmdAll && (s.judgeChannels l).bist.queue.isEmpty &&
      !(s.judgeChannels l).bist.slowDue) = true := by
    rw [hbist, halone]
    exact Bool.false_ne_true
  have hend : s.endSlow l = s.judgeChannels l := if_neg hstays
  change execSlowRoundEnd l s = _
  simp only [execSlowRoundEnd, hbusy]
  rw [if_pos hover, hend]
  rfl

end

/-- Settles O19: one equation per event, what each leaves in the tables, and the readings of one sensor. -/
theorem temperatureSamples : Obligations.TemperatureSamples := by
  refine ⟨⟨fun s rs hpow => ?dies, fun s hpow => ?banks, fun s rs hpow hst => ?ntcs⟩,
    ⟨fun s rs i d => State.dieFresh_of_outside d, fun s rs i t => State.ntcFresh_of_electrical t,
      fun s rs i t => State.ntcFresh_of_unreached rs t⟩,
    fun s hset hpow hdue hidle => ?begins, fun s l t hbusy hover halone => ?ends⟩
  case dies =>
    exact ⟨_, exec_thermalSample_of_powered hpow rs, s.sampledDies rs, (s.sampleDies_touch rs).touch [.therm, .flt] rfl⟩
  case banks =>
    exact ⟨_, exec_modelStep_of_powered hpow, s.stepBanks_bank, s.stepBanks_lastModel, s.stepBanks_cell,
      s.stepBanks_touch.touch [.cells, .therm] rfl⟩
  case ntcs =>
    exact ⟨_, exec_ntcSample_of_supervised hpow hst rs, s.sampledNtcs rs,
      (s.sampleNtcs_touch rs).touch [.cells, .meas, .temps, .shunts, .flt] rfl⟩
  case begins => rw [exec_slowRound_of_due hset hpow hdue, State.startSlow_eq hidle]
  case ends =>
    have hraises := s.judgeChannels_raises l
    have htouch : TouchM 1064960 s (s.judgeChannels l) := (State.modTherm_touch (TouchM.refl _ s) _ rfl).then hraises rfl
    exact ⟨_, exec_slowRoundEnd_of_over l hbusy hover halone, hraises.same .therm rfl, htouch.touch [.therm, .flt] rfl,
      each_raise_due _ _ _ _ _⟩

end Sys2Proof.Machine
end

section
/-!
PROOFS. The commands of the halt path and the pins that feed it (chapters 04, 13): the filter of a low pulse, the report that
a halt request stands for, and one equation per command.
-/

namespace Sys2Proof.Machine

/-! ### ESTOP_N and PH_FLT_N (R111, R386, R389, R506) -/

/-- A low of 20 ns or less is not seen, one of 50 ns or more is acted on, between them a free value decides; no pin acts on
a hub without power. -/
def execLow (lowNs : Nat) (act : State → State) (s : State) : Host.Outcome State Fault Refusal :=
  let (seen, s') := if 20 < lowNs ∧ lowNs < 50 then s.freeBool else (decide (50 ≤ lowNs), s)
  if seen && s'.powered then (act s').done else s'.done

/-- A pin of the halt path goes low: its cause inhibits the SPC, the stage is off, its source is raised. -/
def State.takeLow (s : State) (pins : Pins) (cause : Nat) (x : Src) : State :=
  ((s.setPins pins).inhibit cause).stageOff.raise x none none 0 0 0

theorem exec_estopNLow (s : State) (ns : Nat) :
    exec (.estopNLow ns) s = execLow ns (fun u => u.takeLow { u.pins with estopN := false } inhEstop .estop) s := rfl

theorem exec_phFltNLow (s : State) (ns : Nat) :
    exec (.phFltNLow ns) s = execLow ns (fun u => u.takeLow { u.pins with phFltN := false } inhPhFlt .phFlt) s := rfl

section
variable {s : State} {ns : Nat}

theorem execLow_of_long (act : State → State) (hpow : s.powered = true) (hlong : 50 ≤ ns) :
    execLow ns act s = .next (act s).settle := by
  have hband : ¬(20 < ns ∧ ns < 50) := by omega
  rw [execLow, if_neg hband]
  exact if_pos (by rw [decide_eq_true hlong, hpow]; rfl)

theorem execLow_of_short (act : State → State) (hset : s.settled = true) (hshort : ns ≤ 20) :
    execLow ns act s = .next s := by
  have hband : ¬(20 < ns ∧ ns < 50) := by omega
  have hunseen : ¬50 ≤ ns := by omega
  rw [execLow, if_neg hband, decide_eq_false hunseen]
  exact State.done_eq hset

@[simp] theorem State.endInhibit_settled (c : Nat) : (s.endInhibit c).settled = s.settled :=
  (State.endInhibit_touch (TouchM.refl 2048 s) c rfl).settled

/-- The high edge of a pin only ends the inhibit of the pin. -/
theorem State.endInhibit_done (hset : s.settled = true) (pins : Pins) (cause : Nat) :
    ((s.setPins pins).endInhibit cause).done = .next ((s.setPins pins).endInhibit cause) :=
  State.done_eq (by rw [State.endInhibit_settled, State.setPins_settled, hset])

end

/-! ### HALT_DECISION, HALT_REQUEST (R387, R388) -/

section
variable {s : State} {g : Seg}

theorem exec_haltDecision_of_not_boot (hst : s.glb.st ≠ .boot) : exec .haltDecision s = .next s.haltNow.settle :=
  if_neg (beq_iff_eq.not.2 hst)

/-- The report of class HALT behind a halt request, where the link still carries one, is sticky at once; its message then
fills the record only. -/
def State.awaitReport (s : State) (g : Seg) : State :=
  match s.pendingHalt g with
  | some r => (s.markSticky r.src .halt (reportUnit r) s.now).modFlt (fun f => { f with awaited := (r.src, g) :: f.awaited })
  | none => s

theorem State.awaitReport_of_none (hnone : s.pendingHalt g = none) : s.awaitReport g = s := by
  rw [State.awaitReport, hnone]

theorem State.awaitReport_of_some {r : Report} (hsome : s.pendingHalt g = some r) : s.awaitReport g =
    (s.markSticky r.src .halt (reportUnit r) s.now).modFlt (fun f => { f with awaited := (r.src, g) :: f.awaited }) := by
  rw [State.awaitReport, hsome]

theorem exec_haltRequest_of_requested (hup : s.linkUp g = true) (hreq : (s.links.get g).haltReq = true)
    (hpow : s.powered = true) : exec (.haltRequest g) s =
      .next (((s.modLink g (fun l => { l with haltReq := false })).abortSlice.awaitReport g).haltNow).settle :=
  if_pos (by rw [hup, hreq, hpow]; rfl)

end

/-- Settles O13: one equation per command; a request splits on the report behind it, a low on its length. -/
theorem haltPathCommands : Obligations.HaltPathCommands := by
  refine ⟨fun s => exec_haltDecision_of_not_boot, fun s g hup hreq hpow => ?request, fun s ns hpow hlong => ?long,
    fun s ns hset hshort => ?short, fun s hset => ?high⟩
  case request =>
    have hexec := exec_haltRequest_of_requested hup hreq hpow
    refine ⟨fun hnone => ?_, fun r hsome => ?_⟩
    · rw [hexec, State.awaitReport_of_none hnone]
    · rw [hexec, State.awaitReport_of_some hsome]
  case long =>
    exact ⟨(exec_estopNLow s ns).trans (execLow_of_long _ hpow hlong),
      (exec_phFltNLow s ns).trans (execLow_of_long _ hpow hlong)⟩
  case short =>
    exact ⟨(exec_estopNLow s ns).trans (execLow_of_short _ hset hshort),
      (exec_phFltNLow s ns).trans (execLow_of_short _ hset hshort)⟩
  case high => exact ⟨State.endInhibit_done hset _ inhEstop, State.endInhibit_done hset _ inhPhFlt⟩

end Sys2Proof.Machine
end

section
/-!
PROOFS. Occurrences at the fault collector and the way of a record from the intake into the log (chapter 13).
-/

namespace Sys2Proof.Machine

/-! ### FAULT_ENTRY (R397, R429) -/

/-- An uncorrectable SRAM error within the range of a running scan ends the scan. -/
def State.meetScan (x : Src) (addr : Word) (s : State) (c : Fin 4) : State :=
  let y := s.chk.get c
  if x == .sramUncorrectable && y.st == .running && decide (y.start ≤ addr.toNat) &&
    decide (addr.toNat < y.start + y.length) then s.abortScan c else s

/-- The scans that an occurrence ends have ended. -/
def State.endMetScans (s : State) (x : Src) (addr : Word) : State := each [0, 1, 2, 3] (State.meetScan x addr) s

theorem exec_faultEntry (s : State) (x : Src) (g : Option Seg) (k : Option Cell) (a0 a1 a2 : Word) :
    exec (.faultEntry x g k a0 a1 a2) s = .next (((s.endMetScans x a0).report
      ⟨x, s.now, g, k, a0, a1, a2⟩ (entryFlags x g)).settle) := rfl

/-- A scan that ends reports nothing to the collector. -/
theorem State.endMetScans_flt (s : State) (x : Src) (addr : Word) : (s.endMetScans x addr).flt = s.flt := by
  have htouch : TouchM 105447424 s (s.endMetScans x addr) :=
    each_touch _ (TouchM.refl _ s) fun u c hu => by
      unfold State.meetScan
      dsimp only
      split
      · exact State.abortScan_touch hu c rfl
      · exact hu
  exact htouch.same .flt rfl

/-- A report that finds none before it is the first that the collector takes as the command ends. -/
theorem State.report_settle_sticky {s : State} (hdue : s.flt.due = []) (r : Report) (flags : BitVec 8) :
    r.src ∈ (s.report r flags).settle.flt.sticky := by
  refine State.settle_sticky _ _ (.inr ⟨[], (r, flags), [], ?_, rfl, by decide⟩)
  rw [State.report, State.modFlt_flt, hdue]

/-! ### INTAKE_MOVE (R399) -/

section
variable {f : Flt} {r : Sillage} {l : List Sillage}

theorem Flt.fixFirst_eq (f : Flt) (r : Sillage) : ∃ a, f.fixFirst r = { f with first := a } := by
  unfold Flt.fixFirst
  split
  · split
    · exact ⟨_, rfl⟩
    · exact ⟨f.first, rfl⟩
  · exact ⟨f.first, rfl⟩

/-- Into a log with room the record goes at its end, with the next SEQ, and AFTER_DROP after a drop. -/
theorem Flt.move_of_room (hin : f.intake = r :: l) (hroom : f.log.length < 64) : ∃ a, f.move = { f with
    intake := l, afterDrop := false, nextSeq := (f.nextSeq + 1) % 65536, first := a
    log := f.log ++ [{ r with seq := f.nextSeq, flags := r.flags ||| (if f.afterDrop then 4 else 0) }] } := by
  rw [Flt.move, hin]
  dsimp only
  rw [if_pos hroom]
  exact Flt.fixFirst_eq _ _

/-- A log without room drops the record and counts it. -/
theorem Flt.move_of_full (hin : f.intake = r :: l) (hfull : 64 ≤ f.log.length) : ∃ a, f.move = { f with
    intake := l, afterDrop := true, logFull := Nat.min 0xFFFF (f.logFull + 1), first := a } := by
  rw [Flt.move, hin]
  dsimp only
  rw [if_neg (Nat.not_lt.2 hfull)]
  exact Flt.fixFirst_eq _ _

/-- Either way the record leaves the intake, and no report comes. -/
theorem Flt.move_takes_head (hin : f.intake = r :: l) : f.move.intake = l ∧ f.move.due = f.due := by
  obtain hroom | hfull := Nat.lt_or_ge f.log.length 64
  · obtain ⟨a, hmove⟩ := Flt.move_of_room hin hroom
    exact hmove ▸ ⟨rfl, rfl⟩
  · obtain ⟨a, hmove⟩ := Flt.move_of_full hin hfull
    exact hmove ▸ ⟨rfl, rfl⟩

/-- The record at the head of the intake has been moved or dropped, at this tick. -/
def State.moveHead (s : State) : State := s.modFlt (fun f => { f.move with intakeAt := s.now })

theorem State.moveHead_settled {s : State} (hin : s.flt.intake = r :: l) : s.moveHead.settled = s.settled := by
  have hdue : s.moveHead.flt.due = s.flt.due := (Flt.move_takes_head hin).2
  rw [State.settled, hdue]
  rfl

theorem exec_intakeMove_of_due {s : State} (hset : s.settled = true) (hin : s.flt.intake = r :: l)
    (hat : s.flt.intakeAt + 200 ≤ s.now) : exec .intakeMove s = .next s.moveHead := by
  have hacts : ¬(s.flt.intake.isEmpty || decide (s.now < s.flt.intakeAt + 200)) = true := by
    rw [hin, decide_eq_false (Nat.not_lt.2 hat)]
    exact Bool.false_ne_true
  exact (if_neg hacts).trans (State.done_eq ((State.moveHead_settled hin).trans hset))

end

/-- Settles O17: the occurrence is the first report that waits as the command ends; the move splits on the log's room. -/
theorem collectorEvents : Obligations.CollectorEvents := by
  refine ⟨fun s x g k a0 a1 a2 hset => ?entry, fun s r l hset hin hat => ?move⟩
  case entry =>
    obtain ⟨hdue, -, -⟩ := s.settled_iff.1 hset
    exact ⟨_, exec_faultEntry s x g k a0 a1 a2,
      State.report_settle_sticky ((congrArg Flt.due (s.endMetScans_flt x a0)).trans hdue) _ _⟩
  case move =>
    refine ⟨_, exec_intakeMove_of_due hset hin hat, (Flt.move_takes_head hin).1, rfl,
      (State.modFlt_touch (TouchM.refl 1048576 s) _ rfl).touch [.flt] rfl, fun hroom => ?_, fun hfull => ?_⟩
    · obtain ⟨a, hmove⟩ := Flt.move_of_room hin hroom
      rw [State.moveHead, State.modFlt_flt, hmove]
      exact ⟨rfl, rfl, rfl, rfl⟩
    · obtain ⟨a, hmove⟩ := Flt.move_of_full hin hfull
      rw [State.moveHead, State.modFlt_flt, hmove]
      exact ⟨rfl, rfl, rfl, rfl⟩

end Sys2Proof.Machine
end

section
/-!
PROOFS. From aux to a running segment (chapter 15): the boot ROM and the firmware's start; the feeds, the image of a segment and
the start of its sequencer.
-/

namespace Sys2Proof.Machine

/-! ### The boot ROM (R447, R451) -/

section
variable (s : State)

/-- The hub's domains are on and the flash answers. -/
def State.romReady : State :=
  (s.modPwr (fun p => { p with hubOn := s.allDomains })).modNvm (fun n => { n with flashOk := true })

/-- The slots are tried in the order that the journal gives: the one that passes, if any, and the state after it. -/
def State.romTried : Option Nat × State := s.romReady.slotOrder.2.trySlots s.romReady.slotOrder.1

/-- The firmware of a slot is to start. -/
def State.verifySlot (slot : Nat) : State :=
  (s.modNvm (fun n => { n with runningB := slot == 1, trial := s.onTrial slot, version := s.slotVersion slot })).modGlb
    (fun g => { g with phase := .verified })

/-- No slot passes. -/
def State.enterRecovery : State := (s.findWritePoint.modGlb (fun g => { g with recovery := true })).trainPorts

theorem State.bootRom_cases :
    (∃ slot, s.bootRom = s.romTried.2.verifySlot slot) ∨ s.bootRom = s.romTried.2.enterRecovery := by
  unfold State.bootRom State.romTried
  extract_lets s₁ s₂
  have hready : s.romReady = s₂ := rfl
  rw [hready]
  clear_value s₂
  rcases s₂.slotOrder with ⟨order, t⟩
  dsimp only
  rcases t.trySlots order with ⟨_ | slot, u⟩
  · exact .inr rfl
  · exact .inl ⟨slot, rfl⟩

/-- The search for a slot sets at most the mark of a trial that has begun (R451). -/
theorem State.slotOrder_glb : ∃ b, s.slotOrder.2.glb = { s.glb with trialBit := b } := by
  unfold State.slotOrder
  split
  case h_1 => exact ⟨_, rfl⟩
  case h_2 r _ =>
    have hdamaged : (if r.status == .checkValueDamaged then s.imageDamaged 0 false else s).glb = s.glb :=
      (TouchM.ite (State.imageDamaged_touch (TouchM.refl 9437184 s) 0 false rfl) (TouchM.refl _ s)).same .glb rfl
    dsimp only
    generalize (if r.status == .checkValueDamaged then s.imageDamaged 0 false else s) = d at hdamaged ⊢
    split
    · exact ⟨_, hdamaged⟩
    · dsimp only
      split
      · exact ⟨true, congrArg (fun g : Glb => { g with trialBit := true }) hdamaged⟩
      · exact ⟨_, hdamaged⟩

theorem State.romTried_glb : ∃ b, s.romTried.2.glb = { s.glb with trialBit := b } := by
  obtain ⟨b, horder⟩ := s.romReady.slotOrder_glb
  exact ⟨b, ((State.trySlots_touch (TouchM.refl 9437184 _) _ rfl).same .glb rfl).trans horder⟩

theorem State.enterRecovery_glb : s.enterRecovery.glb = { s.glb with recovery := true } := by
  have hpoint : s.findWritePoint.glb = s.glb := (State.findWritePoint_touch (TouchM.refl 9437184 s) rfl).same .glb rfl
  have hports (u : State) : u.trainPorts.glb = u.glb := (State.trainPorts_touch (TouchM.refl 65536 u) rfl).same .glb rfl
  rw [State.enterRecovery, hports, State.modGlb_glb, hpoint]

theorem State.bootRom_glb : ∃ b, s.bootRom.glb = { s.glb with trialBit := b, phase := .verified } ∨
    s.bootRom.glb = { s.glb with trialBit := b, recovery := true } := by
  obtain ⟨b, htried⟩ := s.romTried_glb
  obtain ⟨slot, hboot⟩ | hboot := s.bootRom_cases
  · exact ⟨b, .inl (by rw [hboot, State.verifySlot, State.modGlb_glb, State.modNvm_glb, htried])⟩
  · exact ⟨b, .inr (by rw [hboot, State.enterRecovery_glb, htried])⟩

/-- Once the domains are on, the boot ROM leaves the power manager alone. -/
theorem State.romReady_bootRom_touch : TouchM 9502722 s.romReady s.bootRom := by
  have htried : TouchM 9502722 s.romReady s.romTried.2 :=
    State.trySlots_touch (State.slotOrder_touch (TouchM.refl _ _) rfl) _ rfl
  obtain ⟨slot, hboot⟩ | hboot := s.bootRom_cases
  · rw [hboot]
    exact State.modGlb_touch (State.modNvm_touch htried _ rfl) _ rfl
  · rw [hboot]
    exact State.trainPorts_touch (State.modGlb_touch (State.findWritePoint_touch htried rfl) _ rfl) rfl

theorem State.bootRom_pwr : s.bootRom.pwr = { s.pwr with hubOn := s.allDomains } :=
  s.romReady_bootRom_touch.same .pwr rfl

end

/-! ### POWER_ON_RESET and FIRMWARE_START (R371, R447) -/

section
variable {s : State} (headEn : Bool)

/-- HEAD_EN is sampled; the latch as it stands decides. -/
theorem exec_powerOnReset_of_held (hst : s.glb.st = .boot) (hphase : s.glb.phase = .held)
    (hrec : s.glb.recovery = false) (hcause : s.glb.cause = 0) :
    exec (.powerOnReset headEn) s = if s.therm.latched = true then
      .next (State.settle (State.shutdownNow { s with
        glb := { s.glb with headEn := headEn, latchAtBoot := s.therm.latched }
        pwr := { s.pwr with hubOn := if headEn then 0xFF else 0xDF } } s.therm.tripSource s.therm.tripTemp))
    else .next (State.settle
      (State.bootRom { s with glb := { s.glb with headEn := headEn, latchAtBoot := s.therm.latched } })) := by
  refine if_pos ?_
  rw [State.st, hst, hphase, hrec, hcause]
  rfl

/-- The journal is recovered, the configuration and the calibration are loaded. -/
def State.loadStored (s : State) : State := s.recoverJournal.loadConfig.loadCalibration

/-- The firmware runs; a repair that is due begins. -/
def State.startFirmware (s : State) : State :=
  (s.loadStored.modGlb (fun g => { g with phase := .firmware, feedsOn := 0 })).startRepair

theorem exec_firmwareStart_of_verified (hst : s.glb.st = .boot) (hphase : s.glb.phase = .verified) :
    exec .firmwareStart s = .next s.startFirmware.settle := by
  refine if_pos ?_
  rw [State.st, hst, hphase]
  rfl

theorem State.loadStored_touch (s : State) : TouchM 9453568 s s.loadStored :=
  State.loadCalibration_touch (State.loadConfig_touch (State.recoverJournal_touch (TouchM.refl _ s) rfl) rfl) rfl

theorem State.startFirmware_touch (s : State) : TouchM 9453570 s s.startFirmware :=
  State.startRepair_touch (State.modGlb_touch ((TouchM.refl _ s).then s.loadStored_touch rfl) _ rfl) rfl

theorem State.startFirmware_glb (s : State) :
    s.startFirmware.glb = { s.glb with phase := .firmware, feedsOn := 0 } := by
  have hrepair (u : State) : u.startRepair.glb = u.glb := (State.startRepair_touch (TouchM.refl 8388608 u) rfl).same .glb rfl
  have hstored : s.loadStored.glb = s.glb := s.loadStored_touch.same .glb rfl
  rw [State.startFirmware, hrepair, State.modGlb_glb, hstored]

end

/-- Settles O7: a reset splits on the latch, the boot ROM on whether a slot passes; of the module
state, the firmware's start sets the phase and the count of feeds only. -/
theorem bootRom : Obligations.BootRom := by
  refine ⟨fun s headEn hst hphase hrec hcause => ⟨?latched, ?free⟩, fun s => ?rom, fun s hst hphase => ?firmware⟩
  case latched =>
    intro hlatch
    rw [exec_powerOnReset_of_held headEn hst hphase hrec hcause, hlatch, if_pos rfl]
  case free =>
    intro hfree
    rw [exec_powerOnReset_of_held headEn hst hphase hrec hcause, hfree, if_neg Bool.false_ne_true]
  case rom =>
    have htouch := (State.bootRom_touch (TouchM.refl 9535490 s) rfl).touch [.glb, .pwr, .loop, .flt, .nvm] rfl
    have hdomains : s.bootRom.pwr.hubOn = s.allDomains := congrArg Pwr.hubOn s.bootRom_pwr
    obtain ⟨b, hglb | hglb⟩ := s.bootRom_glb
    · rw [hglb]
      exact ⟨rfl, rfl, .inl rfl, hdomains, htouch⟩
    · rw [hglb]
      exact ⟨rfl, rfl, .inr rfl, hdomains, htouch⟩
  case firmware =>
    exact ⟨exec_firmwareStart_of_verified hst hphase, s.startFirmware_glb,
      s.startFirmware_touch.touch [.glb, .therm, .flt, .nvm] rfl⟩

/-! ### FEED_ENABLE (R448) -/

section
variable {s : State}

theorem State.modSeg_congr {g : Seg} {f f' : Segment → Segment} (h : f (s.segs.get g) = f' (s.segs.get g)) :
    s.modSeg g f = s.modSeg g f' := by
  rw [State.modSeg, State.modSeg, Vec.modify, Vec.modify, h]

/-- STARTUP_TEST is entered from BOOT with all feeds on, and not before. -/
theorem State.tryTest_of_early (h : s.glb.st ≠ .boot ∨ s.glb.feedsOn < 17) : s.tryTest = s := by
  refine if_neg fun hall => ?_
  simp only [Bool.and_eq_true, beq_iff_eq, decide_eq_true_eq] at hall
  obtain ⟨⟨⟨hboot, -⟩, hfeeds⟩, -⟩ := hall
  exact h.elim (fun hst => hst hboot) fun hfew => Nat.not_lt.2 hfeeds hfew

theorem feedEnable_guard (hst : s.glb.st = .boot) (hphase : s.glb.phase = .firmware) (hfew : s.glb.feedsOn < 17) :
    ¬(s.st != .boot || s.glb.phase != .firmware || decide (17 ≤ s.glb.feedsOn)) = true := by
  rw [State.st, hst, hphase, decide_eq_false (Nat.not_le.2 hfew)]
  decide

theorem exec_feedEnable_first (ok : Bool) (v mv : Nat) (hset : s.settled = true) (hst : s.glb.st = .boot)
    (hphase : s.glb.phase = .firmware) (hnone : s.glb.feedsOn = 0) : exec (.feedEnable ok v mv) s = .next
      ((s.setFld (Fld.segFeedCtrlFeedEn 0) 1).modGlb (fun g => { g with feedsOn := 1, feedAt := s.now })) :=
  ((if_neg (feedEnable_guard hst hphase (by omega))).trans (if_pos hnone)).trans (State.done_eq hset)

/-- The feed that has come to its voltage: its output and its stack. -/
def State.takeFeed (s : State) (g : Seg) (v mv : Nat) : State :=
  s.modSeg g (fun x => { x with feedOk := true, feedV := v % 256, stackMv := mv, onStack := false })

/-- A feed in range changes neither the state of a segment in BOOT nor a link that trains or is up. -/
theorem State.judgeFeed_of_ok {g : Seg} (v mv : Nat) (hseg : (s.segs.get g).st = .boot)
    (hlink : (s.links.get g).st ≠ .down) : s.judgeFeed g true v mv = s.takeFeed g v mv := by
  have htrains : ¬((true || decide (20000 ≤ mv)) && (s.links.get g).st == .down) = true := by
    rw [Bool.true_or, Bool.true_and, beq_iff_eq]
    exact hlink
  unfold State.judgeFeed
  dsimp only
  rw [if_pos rfl, State.modSeg_links, if_neg htrains]
  refine State.modSeg_congr ?_
  rw [hseg]
  rfl

theorem exec_feedEnable_next (v mv : Nat) (hset : s.settled = true) (hst : s.glb.st = .boot)
    (hphase : s.glb.phase = .firmware) (hsome : 0 < s.glb.feedsOn) (hfew : s.glb.feedsOn < 16)
    (hseg : (s.segs.get (seg (s.glb.feedsOn - 1))).st = .boot)
    (hlink : (s.links.get (seg (s.glb.feedsOn - 1))).st ≠ .down) :
    exec (.feedEnable true v mv) s = .next (((s.takeFeed (seg (s.glb.feedsOn - 1)) v mv).setFld
      (Fld.segFeedCtrlFeedEn (seg s.glb.feedsOn)) 1).modGlb (fun g => { g with
        feedsOn := s.glb.feedsOn + 1, feedAt := s.now })) := by
  have hnotFirst : s.glb.feedsOn ≠ 0 := Nat.pos_iff_ne_zero.1 hsome
  change execFeedEnable true v mv s = _
  simp only [execFeedEnable, if_neg (feedEnable_guard hst hphase (by omega)), if_neg hnotFirst, if_pos hfew,
    State.judgeFeed_of_ok v mv hseg hlink, Bool.not_true, Bool.false_and, Bool.false_eq_true, if_false]
  rw [State.tryTest_of_early (.inr (Nat.succ_lt_succ hfew))]
  exact State.done_eq hset

/-! ### SEGMENT_IMAGE_PUSH (R447) -/

theorem exec_segmentImagePush_of_ready {g : Seg} (hset : s.settled = true) (hup : s.linkUp g = true)
    (hpow : s.powered = true) (hseg : (s.segs.get g).st = .boot) (hmissing : (s.segs.get g).imageIn = false) :
    exec (.segmentImagePush g) s = .next (s.sendShare g 2 s.segmentImage) := by
  refine (if_pos ?_).trans (State.done_eq ?_)
  · rw [hup, hpow, hseg, hmissing]
    rfl
  · rw [(State.sendShare_touch (TouchM.refl 512 s) g 2 _ rfl).settled, hset]

end

/-! ### SEQUENCER_START (R51, R447) -/

theorem cellsOf_nodup (g : Seg) : (cellsOf g).Nodup := by
  refine List.nodup_range.map_on fun i hi j hj hij => ?_
  have hi' := List.mem_range.1 hi
  have hj' := List.mem_range.1 hj
  have hval : (cellOf g i).val = (cellOf g j).val := congrArg Fin.val hij
  simp only [cellOf, cell, Fin.ofNat] at hval
  omega

section
variable (s : State) (g : Seg)

/-- A cell of a segment whose sequencer starts: its checks count from now, and the keeper holds it no longer. -/
def State.startCell (k : Cell) : State :=
  (s.modMeas k (fun m => { m with lastCheck := s.now, noCheckRaised := false })).modCell k (fun c =>
    { c with keepHold := false })

/-- A segment whose sequencer starts: converters and drivers are on, the keeper is served and holds nothing. That the hold
supply is good from here on is the model's choice (log 108). -/
def State.powerSeg : State := s.modSeg g (fun x => { x with
  st := .running, smeas := true, sdrv := true
  keeper := { x.keeper with heartbeat := true, supplyOk := true, lastBeat := s.now, holding := false } })

/-- The segment, and then its cells. -/
def State.startSeg : State := each (cellsOf g) State.startCell (s.powerSeg g)

theorem exec_sequencerStart_of_loaded {s : State} {g : Seg} (hseg : (s.segs.get g).st = .boot)
    (himage : (s.segs.get g).imageIn = true) (hkeeper : (s.segs.get g).keeper.tripped = false) :
    exec (.sequencerStart g) s = .next (s.startSeg g).nextSlice.tryTest.settle := by
  have hloaded : ((s.segs.get g).st == .boot && (s.segs.get g).imageIn) = true := by
    rw [hseg, himage]
    rfl
  change execSequencerStart g s = _
  simp only [execSequencerStart, if_pos hloaded, hkeeper, Bool.false_eq_true, if_false]
  rfl

theorem State.startCell_touch (k : Cell) : TouchM 48 s (s.startCell k) :=
  State.modCell_touch (State.modMeas_touch (TouchM.refl _ s) k _ rfl) k _ rfl

theorem State.startCell_cells_self (k : Cell) :
    (s.startCell k).cells.get k = { s.cells.get k with keepHold := false } := Vec.get_modify_self _ _ _

theorem State.startCell_cells_ne {k j : Cell} (h : j ≠ k) : (s.startCell j).cells.get k = s.cells.get k :=
  Vec.get_modify_ne _ _ h

/-- The cells' turns leave the segments and the module state alone. -/
theorem State.powerSeg_startSeg_touch : TouchM 48 (s.powerSeg g) (s.startSeg g) :=
  each_touch _ (TouchM.refl _ _) fun u _ hu => hu.then (u.startCell_touch _) rfl

theorem State.startSeg_segs : (s.startSeg g).segs = (s.powerSeg g).segs :=
  (s.powerSeg_startSeg_touch g).same .segs rfl

theorem State.startSeg_glb : (s.startSeg g).glb = s.glb := (s.powerSeg_startSeg_touch g).same .glb rfl

theorem State.startSeg_cells_of_mem {k : Cell} (hk : k ∈ cellsOf g) :
    (s.startSeg g).cells.get k = { s.cells.get k with keepHold := false } :=
  each_of_mem (P := fun u => u.cells.get k = s.cells.get k)
    (Q := fun u => u.cells.get k = { s.cells.get k with keepHold := false })
    (fun u _ hne hu => (u.startCell_cells_ne hne).trans hu)
    (fun u hu => by rw [u.startCell_cells_self, hu])
    (fun u _ hne hu => (u.startCell_cells_ne hne).trans hu) (cellsOf_nodup g) hk rfl

theorem State.startSeg_cells_of_not_mem {k : Cell} (hk : k ∉ cellsOf g) :
    (s.startSeg g).cells.get k = s.cells.get k :=
  each_cells_get_of_not_mem (fun u _ hne => u.startCell_cells_ne hne) hk _

end

/-- Settles O8: one equation per event, and what the start of a sequencer leaves in the segments and the cell paths. -/
theorem segmentStart : Obligations.SegmentStart := by
  refine ⟨fun _ => exec_feedEnable_first, fun _ => exec_feedEnable_next,
    fun s g => exec_segmentImagePush_of_ready, fun s g hearly hseg himage hkeeper => ?_⟩
  have hslice : TouchM 2097152 (s.startSeg g) (s.startSeg g).nextSlice := State.nextSlice_touch (TouchM.refl _ _) rfl
  have hsegs : (s.startSeg g).nextSlice.segs = (s.powerSeg g).segs := (hslice.same .segs rfl).trans (s.startSeg_segs g)
  have hcells : (s.startSeg g).nextSlice.cells = (s.startSeg g).cells := hslice.same .cells rfl
  have hglb : (s.startSeg g).nextSlice.glb = s.glb := (hslice.same .glb rfl).trans (s.startSeg_glb g)
  refine ⟨(s.startSeg g).nextSlice, ?exec, ?_⟩
  case exec =>
    rw [exec_sequencerStart_of_loaded hseg himage hkeeper, State.tryTest_of_early (hglb ▸ hearly)]
  rw [hsegs, hcells, State.powerSeg, State.modSeg_segs, Vec.get_modify_self]
  exact ⟨rfl, rfl, rfl, rfl, fun k => s.startSeg_cells_of_mem g, fun k => s.startSeg_cells_of_not_mem g,
    fun g' hne => Vec.get_modify_ne _ _ (Ne.symm hne)⟩

end Sys2Proof.Machine
end

section
/-!
PROOFS. Every command and every step: what each keeps, which parts it may change, the tick of an empty queue; and the state
right after reset.
-/

-- The proofs are elaborated one after another, which keeps the check of the whole text within its memory.
set_option Elab.async false

namespace Sys2Proof.Machine

/-! ### Every command -/

/-- The list form of what a command may change, from the number form. -/
theorem TouchOut.touch {m : Nat} {s : State} {o : Host.Outcome State Fault Refusal} (h : TouchOut m s o) (ps : List Part)
    (e : partsMask ps = m := by rfl) : ∃ u : State, o = .next u.settle ∧ Touch ps s u := by
  obtain ⟨u, ho, hu⟩ := h
  exact ⟨u, ho, hu.touch ps e⟩

/-- One arm for each row of the table, by what that row's operations keep. -/
theorem exec_keeps (c : Instr) (s : State) : KeepsOut s (exec c s) :=
  let h := Keeps.refl s
  match c with
  | .auxInRange x1 => execAuxInRange_keeps h x1
  | .auxOutOfRange x1 => execAuxOutOfRange_keeps h x1
  | .powerOnReset x1 => execPowerOnReset_keeps h x1
  | .firmwareStart => execFirmwareStart_keeps h
  | .feedEnable x1 x2 x3 => execFeedEnable_keeps h x1 x2 x3
  | .segmentImagePush x1 => execSegmentImagePush_keeps h x1
  | .sequencerStart x1 => execSequencerStart_keeps h x1
  | .startupTestEnd => execStartupTestEnd_keeps h
  | .drydownLogCollect => execDrydownLogCollect_keeps h
  | .resetN x1 => execResetN_keeps h x1
  | .watchdog => execWatchdog_keeps h
  | .resetApply => execResetApply_keeps h
  | .resetReq x1 => execResetReq_keeps h x1
  | .shutdownLatchClear x1 => execShutdownLatchClear_keeps h x1
  | .estopNLow x1 => execEstopNLow_keeps h x1
  | .estopNHigh => execEstopNHigh_keeps h
  | .phFltNLow x1 => execPhFltNLow_keeps h x1
  | .phFltNHigh => execPhFltNHigh_keeps h
  | .hostReset x1 => execHostReset_keeps h x1
  | .pcieLinkDown => execPcieLinkDown_keeps h
  | .haltDecision => execHaltDecision_keeps h
  | .haltRequest x1 => execHaltRequest_keeps h x1
  | .faultEntry x1 x2 x3 x4 x5 x6 => execFaultEntry_keeps h x1 x2 x3 x4 x5 x6
  | .intakeMove => execIntakeMove_keeps h
  | .faultRead x1 x2 x3 => execFaultRead_keeps h x1 x2 x3
  | .faultClear x1 x2 => execFaultClear_keeps h x1 x2
  | .fltClear x1 => execFltClear_keeps h x1
  | .firstRearm x1 => execFirstRearm_keeps h x1
  | .ovfClear x1 => execOvfClear_keeps h x1
  | .countClear x1 => execCountClear_keeps h x1
  | .shutdown x1 => execShutdown_keeps h x1
  | .thermalSample x1 => execThermalSample_keeps h x1
  | .modelStep => execModelStep_keeps h
  | .ntcSample x1 => execNtcSample_keeps h x1
  | .slowRound x1 => execSlowRound_keeps h x1
  | .slowRoundEnd x1 => execSlowRoundEnd_keeps h x1
  | .scheduledEdge x1 => execScheduledEdge_keeps h x1
  | .commutationStep x1 => execCommutationStep_keeps h x1
  | .stepConfirmed x1 => execStepConfirmed_keeps h x1
  | .stepUnconfirmed x1 => execStepUnconfirmed_keeps h x1
  | .noPath x1 => execNoPath_keeps h x1
  | .ovTrip x1 x2 => execOvTrip_keeps h x1 x2
  | .uvTrip x1 x2 => execUvTrip_keeps h x1 x2
  | .clampDetect x1 => execClampDetect_keeps h x1
  | .keeperTrip x1 x2 => execKeeperTrip_keeps h x1 x2
  | .keeperRelease x1 x2 => execKeeperRelease_keeps h x1 x2
  | .parkReq x1 x2 => execParkReq_keeps h x1 x2
  | .openReqSet x1 x2 => execOpenReqSet_keeps h x1 x2
  | .openReqClear x1 x2 => execOpenReqClear_keeps h x1 x2
  | .releasePark x1 x2 => execReleasePark_keeps h x1 x2
  | .releaseJudged => execReleaseJudged_keeps h
  | .beaconTx => execBeaconTx_keeps h
  | .downlinkBeacon x1 x2 => execDownlinkBeacon_keeps h x1 x2
  | .uplinkBeacon x1 x2 => execUplinkBeacon_keeps h x1 x2
  | .parkSymbolReceived x1 => execParkSymbolReceived_keeps h x1
  | .linkSilence x1 => execLinkSilence_keeps h x1
  | .orphan => execOrphan_keeps h
  | .orphanPark => execOrphanPark_keeps h
  | .run x1 x2 => execRun_keeps h x1 x2
  | .runStart => execRunStart_keeps h
  | .stop x1 => execStop_keeps h x1
  | .halt x1 => execHalt_keeps h x1
  | .cycleBoundary => execCycleBoundary_keeps h
  | .rungMove x1 => execRungMove_keeps h x1
  | .frameAnswer => execFrameAnswer_keeps h
  | .frameDeadline => execFrameDeadline_keeps h
  | .swap x1 => execSwap_keeps h x1
  | .swapApplied => execSwapApplied_keeps h
  | .sweep x1 x2 x3 x4 x5 => execSweep_keeps h x1 x2 x3 x4 x5
  | .sweepStart => execSweepStart_keeps h
  | .setFrame x1 => execSetFrame_keeps h x1
  | .addTimeout x1 => execAddTimeout_keeps h x1
  | .stepIdle x1 => execStepIdle_keeps h x1
  | .stepLinkLost => execStepLinkLost_keeps h
  | .rampStep x1 => execRampStep_keeps h x1
  | .dwellComplete => execDwellComplete_keeps h
  | .deadlineMiss => execDeadlineMiss_keeps h
  | .phaseSwitch x1 x2 => execPhaseSwitch_keeps h x1 x2
  | .windowRescale => execWindowRescale_keeps h
  | .phaseShed => execPhaseShed_keeps h
  | .phasesReleased => execPhasesReleased_keeps h
  | .phaseFailed x1 x2 => execPhaseFailed_keeps h x1 x2
  | .phaseReturn x1 => execPhaseReturn_keeps h x1
  | .toggleTest => execToggleTest_keeps h
  | .toggleTestEnd => execToggleTestEnd_keeps h
  | .toggleRetry => execToggleRetry_keeps h
  | .vstring => execVstring_keeps h
  | .peak x1 x2 => execPeak_keeps h x1 x2
  | .spcCtrlEn x1 => execSpcCtrlEn_keeps h x1
  | .stepCtrlSource x1 => execStepCtrlSource_keeps h x1
  | .slotConversion x1 x2 => execSlotConversion_keeps h x1 x2
  | .coverTimeout x1 => execCoverTimeout_keeps h x1
  | .verifierVisit x1 x2 => execVerifierVisit_keeps h x1 x2
  | .noCrosscheck x1 => execNoCrosscheck_keeps h x1
  | .capture x1 x2 => execCapture_keeps h x1 x2
  | .contactVisit x1 x2 x3 x4 x5 => execContactVisit_keeps h x1 x2 x3 x4 x5
  | .shuntSlotMean x1 x2 => execShuntSlotMean_keeps h x1 x2
  | .shuntCompare => execShuntCompare_keeps h
  | .shuntReadmit x1 => execShuntReadmit_keeps h x1
  | .guardWrite x1 => execGuardWrite_keeps h x1
  | .streamStart x1 x2 x3 x4 => execStreamStart_keeps h x1 x2 x3 x4
  | .streamStop x1 => execStreamStop_keeps h x1
  | .streamMark x1 => execStreamMark_keeps h x1
  | .zeroEstimate => execZeroEstimate_keeps h
  | .zeroStale => execZeroStale_keeps h
  | .tally => execTally_keeps h
  | .edgeR x1 => execEdgeR_keeps h x1
  | .cellSnapshot => execCellSnapshot_keeps h
  | .snapNow x1 => execSnapNow_keeps h x1
  | .kvalSnap x1 => execKvalSnap_keeps h x1
  | .kvalReset x1 => execKvalReset_keeps h x1
  | .powerBudget x1 x2 => execPowerBudget_keeps h x1 x2
  | .powerEvaluate => execPowerEvaluate_keeps h
  | .drydownEntered => execDrydownEntered_keeps h
  | .wake x1 => execWake_keeps h x1
  | .dozeExit => execDozeExit_keeps h
  | .drydownExit => execDrydownExit_keeps h
  | .patrol x1 => execPatrol_keeps h x1
  | .patrolWindowEnd x1 x2 x3 x4 => execPatrolWindowEnd_keeps h x1 x2 x3 x4
  | .confirmationPatrol x1 => execConfirmationPatrol_keeps h x1
  | .patrolReport x1 => execPatrolReport_keeps h x1
  | .segLost x1 => execSegLost_keeps h x1
  | .anomalyClear x1 => execAnomalyClear_keeps h x1
  | .drydownCfgCopy x1 x2 => execDrydownCfgCopy_keeps h x1 x2
  | .stackLow x1 x2 => execStackLow_keeps h x1 x2
  | .wakeSymbol x1 => execWakeSymbol_keeps h x1
  | .spanTrained x1 x2 => execSpanTrained_keeps h x1 x2
  | .trainingTimeout x1 x2 x3 x4 => execTrainingTimeout_keeps h x1 x2 x3 x4
  | .carrierLost x1 x2 => execCarrierLost_keeps h x1 x2
  | .backgroundTraining x1 x2 => execBackgroundTraining_keeps h x1 x2
  | .linkLost x1 => execLinkLost_keeps h x1
  | .linkRetrain x1 x2 => execLinkRetrain_keeps h x1 x2
  | .segReset x1 x2 => execSegReset_keeps h x1 x2
  | .spanResend x1 x2 => execSpanResend_keeps h x1 x2
  | .config x1 => execConfig_keeps h x1
  | .read x1 => execRead_keeps h x1
  | .share x1 => execShare_keeps h x1
  | .timeMessage x1 x2 => execTimeMessage_keeps h x1 x2
  | .islot x1 => execIslot_keeps h x1
  | .neighbour x1 => execNeighbour_keeps h x1
  | .segmentCmd x1 => execSegmentCmd_keeps h x1
  | .edge x1 => execEdge_keeps h x1
  | .faultMessage x1 => execFaultMessage_keeps h x1
  | .output x1 => execOutput_keeps h x1
  | .sums x1 => execSums_keeps h x1
  | .burst x1 => execBurst_keeps h x1
  | .segmentRsp x1 => execSegmentRsp_keeps h x1
  | .stream x1 => execStream_keeps h x1
  | .idle x1 x2 => execIdle_keeps h x1 x2
  | .idleSend x1 => execIdleSend_keeps h x1
  | .portDown x1 => execPortDown_keeps h x1
  | .retransmit x1 => execRetransmit_keeps h x1
  | .portEnable x1 => execPortEnable_keeps h x1
  | .retrain x1 => execRetrain_keeps h x1
  | .cmd x1 x2 => execCmd_keeps h x1 x2
  | .rsp x1 x2 => execRsp_keeps h x1 x2
  | .res x1 x2 => execRes_keeps h x1 x2
  | .time x1 x2 x3 => execTime_keeps h x1 x2 x3
  | .event x1 x2 => execEvent_keeps h x1 x2
  | .parkAll x1 x2 => execParkAll_keeps h x1 x2
  | .census x1 => execCensus_keeps h x1
  | .probe x1 x2 => execProbe_keeps h x1 x2
  | .reply x1 x2 => execReply_keeps h x1 x2
  | .assign x1 x2 => execAssign_keeps h x1 x2
  | .censusTimeout => execCensusTimeout_keeps h
  | .loopPing x1 => execLoopPing_keeps h x1
  | .retireNotice => execRetireNotice_keeps h
  | .recordResend => execRecordResend_keeps h
  | .timeFrameTx => execTimeFrameTx_keeps h
  | .ptmDialogue x1 x2 => execPtmDialogue_keeps h x1 x2
  | .holdover => execHoldover_keeps h
  | .holdoverLimit => execHoldoverLimit_keeps h
  | .sourceLost x1 => execSourceLost_keeps h x1
  | .timeNowWrite x1 x2 => execTimeNowWrite_keeps h x1 x2
  | .followOff x1 => execFollowOff_keeps h x1
  | .accordBegin x1 x2 => execAccordBegin_keeps h x1 x2
  | .accordPrepare x1 x2 x3 x4 => execAccordPrepare_keeps h x1 x2 x3 x4
  | .accordCommit x1 x2 x3 => execAccordCommit_keeps h x1 x2 x3
  | .accordAbort x1 x2 => execAccordAbort_keeps h x1 x2
  | .accordApply => execAccordApply_keeps h
  | .graceExpiry => execGraceExpiry_keeps h
  | .regRead x1 x2 => execRegRead_keeps h x1 x2
  | .regReadBlock x1 x2 x3 => execRegReadBlock_keeps h x1 x2 x3
  | .regWrite x1 x2 => execRegWrite_keeps h x1 x2
  | .flaconPolicyWrite x1 => execFlaconPolicyWrite_keeps h x1
  | .flaconLoad x1 x2 x3 x4 x5 => execFlaconLoad_keeps h x1 x2 x3 x4 x5
  | .flaconVerify x1 x2 => execFlaconVerify_keeps h x1 x2
  | .flaconErase x1 x2 => execFlaconErase_keeps h x1 x2
  | .resultFetch x1 x2 x3 => execResultFetch_keeps h x1 x2 x3
  | .marks x1 x2 => execMarks_keeps h x1 x2
  | .nvmLogRead x1 x2 x3 => execNvmLogRead_keeps h x1 x2 x3
  | .logCopy x1 => execLogCopy_keeps h x1
  | .hostEnable x1 => execHostEnable_keeps h x1
  | .resetRings x1 => execResetRings_keeps h x1
  | .dbCmdTail x1 => execDbCmdTail_keeps h x1
  | .dbCplHead x1 => execDbCplHead_keeps h x1
  | .dbResHead x1 x2 => execDbResHead_keeps h x1 x2
  | .descriptorFetch x1 x2 => execDescriptorFetch_keeps h x1 x2
  | .completion => execCompletion_keeps h
  | .cmdTimeout x1 => execCmdTimeout_keeps h x1
  | .coalesceTimeout x1 => execCoalesceTimeout_keeps h x1
  | .bistRun x1 x2 => execBistRun_keeps h x1 x2
  | .periodicSlice => execPeriodicSlice_keeps h
  | .sliceEnd x1 x2 => execSliceEnd_keeps h x1 x2
  | .checkScan x1 x2 => execCheckScan_keeps h x1 x2
  | .scanStart x1 x2 => execScanStart_keeps h x1 x2
  | .scanAbort x1 x2 => execScanAbort_keeps h x1 x2
  | .scanDone x1 => execScanDone_keeps h x1
  | .pageProgrammed x1 => execPageProgrammed_keeps h x1
  | .eraseDone x1 => execEraseDone_keeps h x1
  | .begin x1 x2 x3 => execBegin_keeps h x1 x2 x3
  | .chunk x1 x2 x3 => execChunk_keeps h x1 x2 x3
  | .verify x1 => execVerify_keeps h x1
  | .activate x1 => execActivate_keeps h x1
  | .abort x1 => execAbort_keeps h x1
  | .flaconKey x1 x2 => execFlaconKey_keeps h x1 x2
  | .keeperHoldExpiry x1 => execKeeperHoldExpiry_keeps h x1
  | .logRetentionEnd x1 x2 => execLogRetentionEnd_keeps h x1 x2
  | .feedLoss x1 => execFeedLoss_keeps h x1
  | .auxMonitorUpdate x1 => execAuxMonitorUpdate_keeps h x1
  | .pcieLinkUp => execPcieLinkUp_keeps h
  | .portTrainingTimeout x1 => execPortTrainingTimeout_keeps h x1
  | .loopFrameError x1 x2 x3 => execLoopFrameError_keeps h x1 x2 x3
  | .stepFrameDropped x1 => execStepFrameDropped_keeps h x1
  | .recoveryReset => execRecoveryReset_keeps h
  | .segFeedRestore x1 x2 => execSegFeedRestore_keeps h x1 x2
  | .peakClear x1 => execPeakClear_keeps h x1

/-- One arm for each row of the table, by the parts that that row's operations may change. -/
theorem exec_touch (c : Instr) (s : State) : ∃ u, exec c s = .next u.settle ∧ Touch (touched c) s u :=
  match c with
  | .auxInRange x1 => (execAuxInRange_touch s x1).touch _
  | .auxOutOfRange x1 => (execAuxOutOfRange_touch s x1).touch _
  | .powerOnReset x1 => (execPowerOnReset_touch s x1).touch _
  | .firmwareStart => (execFirmwareStart_touch s).touch _
  | .feedEnable x1 x2 x3 => (execFeedEnable_touch s x1 x2 x3).touch _
  | .segmentImagePush x1 => (execSegmentImagePush_touch s x1).touch _
  | .sequencerStart x1 => (execSequencerStart_touch s x1).touch _
  | .startupTestEnd => (execStartupTestEnd_touch s).touch _
  | .drydownLogCollect => (execDrydownLogCollect_touch s).touch _
  | .resetN x1 => (execResetN_touch s x1).touch _
  | .watchdog => (execWatchdog_touch s).touch _
  | .resetApply => (execResetApply_touch s).touch _
  | .resetReq x1 => (execResetReq_touch s x1).touch _
  | .shutdownLatchClear x1 => (execShutdownLatchClear_touch s x1).touch _
  | .estopNLow x1 => (execEstopNLow_touch s x1).touch _
  | .estopNHigh => (execEstopNHigh_touch s).touch _
  | .phFltNLow x1 => (execPhFltNLow_touch s x1).touch _
  | .phFltNHigh => (execPhFltNHigh_touch s).touch _
  | .hostReset x1 => (execHostReset_touch s x1).touch _
  | .pcieLinkDown => (execPcieLinkDown_touch s).touch _
  | .haltDecision => (execHaltDecision_touch s).touch _
  | .haltRequest x1 => (execHaltRequest_touch s x1).touch _
  | .faultEntry x1 x2 x3 x4 x5 x6 => (execFaultEntry_touch s x1 x2 x3 x4 x5 x6).touch _
  | .intakeMove => (execIntakeMove_touch s).touch _
  | .faultRead x1 x2 x3 => (execFaultRead_touch s x1 x2 x3).touch _
  | .faultClear x1 x2 => (execFaultClear_touch s x1 x2).touch _
  | .fltClear x1 => (execFltClear_touch s x1).touch _
  | .firstRearm x1 => (execFirstRearm_touch s x1).touch _
  | .ovfClear x1 => (execOvfClear_touch s x1).touch _
  | .countClear x1 => (execCountClear_touch s x1).touch _
  | .shutdown x1 => (execShutdown_touch s x1).touch _
  | .thermalSample x1 => (execThermalSample_touch s x1).touch _
  | .modelStep => (execModelStep_touch s).touch _
  | .ntcSample x1 => (execNtcSample_touch s x1).touch _
  | .slowRound x1 => (execSlowRound_touch s x1).touch _
  | .slowRoundEnd x1 => (execSlowRoundEnd_touch s x1).touch _
  | .scheduledEdge x1 => (execScheduledEdge_touch s x1).touch _
  | .commutationStep x1 => (execCommutationStep_touch s x1).touch _
  | .stepConfirmed x1 => (execStepConfirmed_touch s x1).touch _
  | .stepUnconfirmed x1 => (execStepUnconfirmed_touch s x1).touch _
  | .noPath x1 => (execNoPath_touch s x1).touch _
  | .ovTrip x1 x2 => (execOvTrip_touch s x1 x2).touch _
  | .uvTrip x1 x2 => (execUvTrip_touch s x1 x2).touch _
  | .clampDetect x1 => (execClampDetect_touch s x1).touch _
  | .keeperTrip x1 x2 => (execKeeperTrip_touch s x1 x2).touch _
  | .keeperRelease x1 x2 => (execKeeperRelease_touch s x1 x2).touch _
  | .parkReq x1 x2 => (execParkReq_touch s x1 x2).touch _
  | .openReqSet x1 x2 => (execOpenReqSet_touch s x1 x2).touch _
  | .openReqClear x1 x2 => (execOpenReqClear_touch s x1 x2).touch _
  | .releasePark x1 x2 => (execReleasePark_touch s x1 x2).touch _
  | .releaseJudged => (execReleaseJudged_touch s).touch _
  | .beaconTx => (execBeaconTx_touch s).touch _
  | .downlinkBeacon x1 x2 => (execDownlinkBeacon_touch s x1 x2).touch _
  | .uplinkBeacon x1 x2 => (execUplinkBeacon_touch s x1 x2).touch _
  | .parkSymbolReceived x1 => (execParkSymbolReceived_touch s x1).touch _
  | .linkSilence x1 => (execLinkSilence_touch s x1).touch _
  | .orphan => (execOrphan_touch s).touch _
  | .orphanPark => (execOrphanPark_touch s).touch _
  | .run x1 x2 => (execRun_touch s x1 x2).touch _
  | .runStart => (execRunStart_touch s).touch _
  | .stop x1 => (execStop_touch s x1).touch _
  | .halt x1 => (execHalt_touch s x1).touch _
  | .cycleBoundary => (execCycleBoundary_touch s).touch _
  | .rungMove x1 => (execRungMove_touch s x1).touch _
  | .frameAnswer => (execFrameAnswer_touch s).touch _
  | .frameDeadline => (execFrameDeadline_touch s).touch _
  | .swap x1 => (execSwap_touch s x1).touch _
  | .swapApplied => (execSwapApplied_touch s).touch _
  | .sweep x1 x2 x3 x4 x5 => (execSweep_touch s x1 x2 x3 x4 x5).touch _
  | .sweepStart => (execSweepStart_touch s).touch _
  | .setFrame x1 => (execSetFrame_touch s x1).touch _
  | .addTimeout x1 => (execAddTimeout_touch s x1).touch _
  | .stepIdle x1 => (execStepIdle_touch s x1).touch _
  | .stepLinkLost => (execStepLinkLost_touch s).touch _
  | .rampStep x1 => (execRampStep_touch s x1).touch _
  | .dwellComplete => (execDwellComplete_touch s).touch _
  | .deadlineMiss => (execDeadlineMiss_touch s).touch _
  | .phaseSwitch x1 x2 => (execPhaseSwitch_touch s x1 x2).touch _
  | .windowRescale => (execWindowRescale_touch s).touch _
  | .phaseShed => (execPhaseShed_touch s).touch _
  | .phasesReleased => (execPhasesReleased_touch s).touch _
  | .phaseFailed x1 x2 => (execPhaseFailed_touch s x1 x2).touch _
  | .phaseReturn x1 => (execPhaseReturn_touch s x1).touch _
  | .toggleTest => (execToggleTest_touch s).touch _
  | .toggleTestEnd => (execToggleTestEnd_touch s).touch _
  | .toggleRetry => (execToggleRetry_touch s).touch _
  | .vstring => (execVstring_touch s).touch _
  | .peak x1 x2 => (execPeak_touch s x1 x2).touch _
  | .spcCtrlEn x1 => (execSpcCtrlEn_touch s x1).touch _
  | .stepCtrlSource x1 => (execStepCtrlSource_touch s x1).touch _
  | .slotConversion x1 x2 => (execSlotConversion_touch s x1 x2).touch _
  | .coverTimeout x1 => (execCoverTimeout_touch s x1).touch _
  | .verifierVisit x1 x2 => (execVerifierVisit_touch s x1 x2).touch _
  | .noCrosscheck x1 => (execNoCrosscheck_touch s x1).touch _
  | .capture x1 x2 => (execCapture_touch s x1 x2).touch _
  | .contactVisit x1 x2 x3 x4 x5 => (execContactVisit_touch s x1 x2 x3 x4 x5).touch _
  | .shuntSlotMean x1 x2 => (execShuntSlotMean_touch s x1 x2).touch _
  | .shuntCompare => (execShuntCompare_touch s).touch _
  | .shuntReadmit x1 => (execShuntReadmit_touch s x1).touch _
  | .guardWrite x1 => (execGuardWrite_touch s x1).touch _
  | .streamStart x1 x2 x3 x4 => (execStreamStart_touch s x1 x2 x3 x4).touch _
  | .streamStop x1 => (execStreamStop_touch s x1).touch _
  | .streamMark x1 => (execStreamMark_touch s x1).touch _
  | .zeroEstimate => (execZeroEstimate_touch s).touch _
  | .zeroStale => (execZeroStale_touch s).touch _
  | .tally => (execTally_touch s).touch _
  | .edgeR x1 => (execEdgeR_touch s x1).touch _
  | .cellSnapshot => (execCellSnapshot_touch s).touch _
  | .snapNow x1 => (execSnapNow_touch s x1).touch _
  | .kvalSnap x1 => (execKvalSnap_touch s x1).touch _
  | .kvalReset x1 => (execKvalReset_touch s x1).touch _
  | .powerBudget x1 x2 => (execPowerBudget_touch s x1 x2).touch _
  | .powerEvaluate => (execPowerEvaluate_touch s).touch _
  | .drydownEntered => (execDrydownEntered_touch s).touch _
  | .wake x1 => (execWake_touch s x1).touch _
  | .dozeExit => (execDozeExit_touch s).touch _
  | .drydownExit => (execDrydownExit_touch s).touch _
  | .patrol x1 => (execPatrol_touch s x1).touch _
  | .patrolWindowEnd x1 x2 x3 x4 => (execPatrolWindowEnd_touch s x1 x2 x3 x4).touch _
  | .confirmationPatrol x1 => (execConfirmationPatrol_touch s x1).touch _
  | .patrolReport x1 => (execPatrolReport_touch s x1).touch _
  | .segLost x1 => (execSegLost_touch s x1).touch _
  | .anomalyClear x1 => (execAnomalyClear_touch s x1).touch _
  | .drydownCfgCopy x1 x2 => (execDrydownCfgCopy_touch s x1 x2).touch _
  | .stackLow x1 x2 => (execStackLow_touch s x1 x2).touch _
  | .wakeSymbol x1 => (execWakeSymbol_touch s x1).touch _
  | .spanTrained x1 x2 => (execSpanTrained_touch s x1 x2).touch _
  | .trainingTimeout x1 x2 x3 x4 => (execTrainingTimeout_touch s x1 x2 x3 x4).touch _
  | .carrierLost x1 x2 => (execCarrierLost_touch s x1 x2).touch _
  | .backgroundTraining x1 x2 => (execBackgroundTraining_touch s x1 x2).touch _
  | .linkLost x1 => (execLinkLost_touch s x1).touch _
  | .linkRetrain x1 x2 => (execLinkRetrain_touch s x1 x2).touch _
  | .segReset x1 x2 => (execSegReset_touch s x1 x2).touch _
  | .spanResend x1 x2 => (execSpanResend_touch s x1 x2).touch _
  | .config x1 => (execConfig_touch s x1).touch _
  | .read x1 => (execRead_touch s x1).touch _
  | .share x1 => (execShare_touch s x1).touch _
  | .timeMessage x1 x2 => (execTimeMessage_touch s x1 x2).touch _
  | .islot x1 => (execIslot_touch s x1).touch _
  | .neighbour x1 => (execNeighbour_touch s x1).touch _
  | .segmentCmd x1 => (execSegmentCmd_touch s x1).touch _
  | .edge x1 => (execEdge_touch s x1).touch _
  | .faultMessage x1 => (execFaultMessage_touch s x1).touch _
  | .output x1 => (execOutput_touch s x1).touch _
  | .sums x1 => (execSums_touch s x1).touch _
  | .burst x1 => (execBurst_touch s x1).touch _
  | .segmentRsp x1 => (execSegmentRsp_touch s x1).touch _
  | .stream x1 => (execStream_touch s x1).touch _
  | .idle x1 x2 => (execIdle_touch s x1 x2).touch _
  | .idleSend x1 => (execIdleSend_touch s x1).touch _
  | .portDown x1 => (execPortDown_touch s x1).touch _
  | .retransmit x1 => (execRetransmit_touch s x1).touch _
  | .portEnable x1 => (execPortEnable_touch s x1).touch _
  | .retrain x1 => (execRetrain_touch s x1).touch _
  | .cmd x1 x2 => (execCmd_touch s x1 x2).touch _
  | .rsp x1 x2 => (execRsp_touch s x1 x2).touch _
  | .res x1 x2 => (execRes_touch s x1 x2).touch _
  | .time x1 x2 x3 => (execTime_touch s x1 x2 x3).touch _
  | .event x1 x2 => (execEvent_touch s x1 x2).touch _
  | .parkAll x1 x2 => (execParkAll_touch s x1 x2).touch _
  | .census x1 => (execCensus_touch s x1).touch _
  | .probe x1 x2 => (execProbe_touch s x1 x2).touch _
  | .reply x1 x2 => (execReply_touch s x1 x2).touch _
  | .assign x1 x2 => (execAssign_touch s x1 x2).touch _
  | .censusTimeout => (execCensusTimeout_touch s).touch _
  | .loopPing x1 => (execLoopPing_touch s x1).touch _
  | .retireNotice => (execRetireNotice_touch s).touch _
  | .recordResend => (execRecordResend_touch s).touch _
  | .timeFrameTx => (execTimeFrameTx_touch s).touch _
  | .ptmDialogue x1 x2 => (execPtmDialogue_touch s x1 x2).touch _
  | .holdover => (execHoldover_touch s).touch _
  | .holdoverLimit => (execHoldoverLimit_touch s).touch _
  | .sourceLost x1 => (execSourceLost_touch s x1).touch _
  | .timeNowWrite x1 x2 => (execTimeNowWrite_touch s x1 x2).touch _
  | .followOff x1 => (execFollowOff_touch s x1).touch _
  | .accordBegin x1 x2 => (execAccordBegin_touch s x1 x2).touch _
  | .accordPrepare x1 x2 x3 x4 => (execAccordPrepare_touch s x1 x2 x3 x4).touch _
  | .accordCommit x1 x2 x3 => (execAccordCommit_touch s x1 x2 x3).touch _
  | .accordAbort x1 x2 => (execAccordAbort_touch s x1 x2).touch _
  | .accordApply => (execAccordApply_touch s).touch _
  | .graceExpiry => (execGraceExpiry_touch s).touch _
  | .regRead x1 x2 => (execRegRead_touch s x1 x2).touch _
  | .regReadBlock x1 x2 x3 => (execRegReadBlock_touch s x1 x2 x3).touch _
  | .regWrite x1 x2 => (execRegWrite_touch s x1 x2).touch _
  | .flaconPolicyWrite x1 => (execFlaconPolicyWrite_touch s x1).touch _
  | .flaconLoad x1 x2 x3 x4 x5 => (execFlaconLoad_touch s x1 x2 x3 x4 x5).touch _
  | .flaconVerify x1 x2 => (execFlaconVerify_touch s x1 x2).touch _
  | .flaconErase x1 x2 => (execFlaconErase_touch s x1 x2).touch _
  | .resultFetch x1 x2 x3 => (execResultFetch_touch s x1 x2 x3).touch _
  | .marks x1 x2 => (execMarks_touch s x1 x2).touch _
  | .nvmLogRead x1 x2 x3 => (execNvmLogRead_touch s x1 x2 x3).touch _
  | .logCopy x1 => (execLogCopy_touch s x1).touch _
  | .hostEnable x1 => (execHostEnable_touch s x1).touch _
  | .resetRings x1 => (execResetRings_touch s x1).touch _
  | .dbCmdTail x1 => (execDbCmdTail_touch s x1).touch _
  | .dbCplHead x1 => (execDbCplHead_touch s x1).touch _
  | .dbResHead x1 x2 => (execDbResHead_touch s x1 x2).touch _
  | .descriptorFetch x1 x2 => (execDescriptorFetch_touch s x1 x2).touch _
  | .completion => (execCompletion_touch s).touch _
  | .cmdTimeout x1 => (execCmdTimeout_touch s x1).touch _
  | .coalesceTimeout x1 => (execCoalesceTimeout_touch s x1).touch _
  | .bistRun x1 x2 => (execBistRun_touch s x1 x2).touch _
  | .periodicSlice => (execPeriodicSlice_touch s).touch _
  | .sliceEnd x1 x2 => (execSliceEnd_touch s x1 x2).touch _
  | .checkScan x1 x2 => (execCheckScan_touch s x1 x2).touch _
  | .scanStart x1 x2 => (execScanStart_touch s x1 x2).touch _
  | .scanAbort x1 x2 => (execScanAbort_touch s x1 x2).touch _
  | .scanDone x1 => (execScanDone_touch s x1).touch _
  | .pageProgrammed x1 => (execPageProgrammed_touch s x1).touch _
  | .eraseDone x1 => (execEraseDone_touch s x1).touch _
  | .begin x1 x2 x3 => (execBegin_touch s x1 x2 x3).touch _
  | .chunk x1 x2 x3 => (execChunk_touch s x1 x2 x3).touch _
  | .verify x1 => (execVerify_touch s x1).touch _
  | .activate x1 => (execActivate_touch s x1).touch _
  | .abort x1 => (execAbort_touch s x1).touch _
  | .flaconKey x1 x2 => (execFlaconKey_touch s x1 x2).touch _
  | .keeperHoldExpiry x1 => (execKeeperHoldExpiry_touch s x1).touch _
  | .logRetentionEnd x1 x2 => (execLogRetentionEnd_touch s x1 x2).touch _
  | .feedLoss x1 => (execFeedLoss_touch s x1).touch _
  | .auxMonitorUpdate x1 => (execAuxMonitorUpdate_touch s x1).touch _
  | .pcieLinkUp => (execPcieLinkUp_touch s).touch _
  | .portTrainingTimeout x1 => (execPortTrainingTimeout_touch s x1).touch _
  | .loopFrameError x1 x2 x3 => (execLoopFrameError_touch s x1 x2 x3).touch _
  | .stepFrameDropped x1 => (execStepFrameDropped_touch s x1).touch _
  | .recoveryReset => (execRecoveryReset_touch s).touch _
  | .segFeedRestore x1 x2 => (execSegFeedRestore_touch s x1 x2).touch _
  | .peakClear x1 => (execPeakClear_touch s x1).touch _

/-- Settles O3, one row of the table after another. -/
theorem everyCommandKeeps : Obligations.EveryCommandKeeps := exec_keeps

/-- Settles O5, one row of the table after another. -/
theorem everyCommandFrame : Obligations.EveryCommandFrame := exec_touch

/-! ### Every step -/

theorem step_of_pending_nil {s : State} (h : s.pending = []) : step s = .next s.idle := by
  simp only [step, h]

theorem step_of_pending_cons {s : State} {c : Instr} {rest : List Instr} (h : s.pending = c :: rest) :
    step s = exec c { s with pending := rest } := by
  simp only [step, h]

/-- The queue holds no memory: taking the command in front of it off leaves the canonical form as it was. -/
theorem step_mem_wf {s t : State} (hs : Memory.wf s = true) (ht : step s = .next t) : Memory.wf t = true := by
  cases hp : s.pending with
  | nil =>
    rw [step_of_pending_nil hp] at ht
    cases ht
    exact (State.idle_keeps (Keeps.refl s)).mem hs
  | cons c rest =>
    rw [step_of_pending_cons hp] at ht
    obtain ⟨u, hu, hk⟩ := exec_keeps c { s with pending := rest }
    rw [hu] at ht
    cases ht
    exact hk.mem hs

/-- Settles O4: it holds right after reset, and a step is a tick or a command. -/
theorem memoryCanonical : Obligations.MemoryCanonical :=
  ⟨wit_MemoryCanonical, fun _ _ => step_mem_wf⟩

/-! ### A tick (log 15) -/

/-- With no read held, an idle step is a tick alone. -/
theorem State.idle_eq_tick {s : State} (h : s.host.heldReads = []) : s.idle = s.idleTick := by
  simp [State.idle, State.answerReads, h, each]

theorem State.idleTick_now (s : State) : s.idleTick.now = (s.now + 4) % 2 ^ 64 := by
  unfold State.idleTick
  dsimp only
  split
  · exact (State.jtagTick_touch (State.serve_touch (State.serve_touch
      (TouchM.refl 100728836 s.tick) .a) .b)).same .now rfl
  · rfl

theorem State.idleTick_of_unpowered {s : State} (h : s.powered = false) :
    s.idleTick = { s with now := (s.now + 4) % 2 ^ 64 } := by
  have hp : s.tick.powered = false := h
  simp only [State.idleTick, hp, Bool.false_eq_true, if_false]
  rfl

/-- Settles O1: a queue with a command in front, and an empty one, whose step is a tick where no read is held. -/
theorem stepsOfTheQueue : Obligations.StepsOfTheQueue := by
  refine ⟨fun c rest s h => step_of_pending_cons h, fun s h => ⟨step_of_pending_nil h, ?_⟩, fun s h hr => ?_,
    fun s h hr hp => ?_⟩
  · rw [(State.idle_keeps (Keeps.refl s)).pending, h]
  · exact ⟨s.idleTick, by rw [step_of_pending_nil h, State.idle_eq_tick hr], s.idleTick_now,
      (State.idleTick_touch (TouchM.refl 100728837 s)).touch _⟩
  · rw [step_of_pending_nil h, State.idle_eq_tick hr, State.idleTick_of_unpowered hp]

/-! ### Right after reset -/

/-- Settles O2: each table of the state right after reset is filled with one value, and that value is read off. -/
theorem resetState : Obligations.ResetState := by
  have hcell (k : Cell) : State.reset.cells.get k = CellPath.reset := Vec.get_fill ..
  have hseg (g : Seg) : State.reset.segs.get g = Segment.reset := Vec.get_fill ..
  have hlink (g : Seg) : State.reset.links.get g = Link.reset := Vec.get_fill ..
  have hphase (p : Phase) : State.reset.spc.phases.get p = PhaseSt.reset := Vec.get_fill ..
  refine ⟨rfl, rfl, rfl, rfl, fun k => ?cell, fun g => ?seg, fun g => ?link, rfl, rfl, rfl, fun p => ?phase, rfl, rfl,
    rfl, rfl, fun n => ?slice, rfl, rfl, rfl, rfl, rfl, rfl, rfl, rfl, rfl, wit_MemoryCanonical⟩
  case cell => rw [hcell]; exact ⟨rfl, rfl, rfl, rfl⟩
  case seg => rw [hseg, hlink]; exact ⟨rfl, rfl, rfl, rfl⟩
  case link => rw [hseg, hlink]; exact ⟨rfl, rfl⟩
  case phase => rw [hphase]; rfl
  case slice => exact congrArg SliceSt.result (Vec.get_fill _ n)

end Sys2Proof.Machine
end

section
/-!
PROOFS. The collector at large (chapter 13): what a command raises is sticky, the count of an occurrence, FAULT_READ and
FAULT_CLEAR; and hold TEMP of a cell (chapter 12).
-/

-- The proofs are elaborated one after another, which keeps the check of the whole text within its memory.
set_option Elab.async false

namespace Sys2Proof.Machine

/-! ### What is raised (R397) -/

/-- Settles O15: a settled state is where the end of a command leaves it, and the reports are taken one by one. -/
theorem raisedIsSticky : Obligations.RaisedIsSticky :=
  ⟨State.settle_sticky, fun _ => State.settle_eq⟩

/-! ### Tables of sources -/

theorem find?_assign_self {α β : Type} [DecidableEq α] (l : List (α × β)) (k : α) (b : β) :
    find? (assign l k b) k = some b := by
  simp [assign, find?]

theorem srcOfNumber_srcNumber (x : Src) : srcOfNumber (srcNumber x) = some x := by
  cases x <;> decide

theorem srcOfId_srcId (x : Src) : srcOfId (srcId x) = some x := by
  cases x <;> decide

/-- No source has the ID that stands for all of them (R403). -/
theorem srcId_ne_all (x : Src) : srcId x ≠ 0xFFFF := by
  cases x <;> decide

theorem State.counter_srcNumber (s : State) (x : Src) :
    s.counter (srcNumber x) = (find? s.flt.counts x).getD 0 := by
  simp only [State.counter, srcOfNumber_srcNumber]

/-! ### Occurrences (R397, R404) -/

/-- A further occurrence of a source at its tick: the sticky bit and the unit, nothing else. -/
theorem State.enterFault_again (s : State) (r : Report) (fl : BitVec 8) (ht : s.flt.tickOf = Nat.max s.now r.time)
    (hx : s.flt.tickSrcs.contains r.src = true) :
    s.enterFault r fl = s.modFlt (fun f => { f with
      sticky := if f.sticky.contains r.src then f.sticky else r.src :: f.sticky
      units := if f.units.contains (r.src, reportUnit r) then f.units else (r.src, reportUnit r) :: f.units }) :=
  if_pos ⟨ht, hx⟩

/-- Settles O16: the occurrence that is the first of its source at the tick, and a further one. -/
theorem occurrenceCounted : Obligations.OccurrenceCounted := by
  refine ⟨State.enterFault_sticky, fun s r fl h => ?first, fun s r fl ht hx => ?again⟩
  case first =>
    obtain ⟨hcounts, hclasses, hlog, -⟩ := s.enterFault_counts r fl h
    refine ⟨?_, ?_, hlog⟩
    · rw [State.counter_srcNumber, State.counter_srcNumber, hcounts, find?_assign_self]
      rfl
    · rw [State.classOf, hclasses, find?_assign_self]
      rfl
  case again =>
    rw [s.enterFault_again r fl ht hx]
    exact ⟨rfl, rfl, rfl, rfl⟩

/-! ### FAULT_READ, FAULT_CLEAR (R402, R403) -/

theorem exec_faultRead_of_accepts {s : State} {o : Origin} {what from_ : Nat} (h : s.accepts o 0x60 false = true) :
    exec (.faultRead o what from_) s =
      .next (((s.taken o).faultRead what from_).2.reply o 0x60 ((s.taken o).faultRead what from_).1).settle :=
  congrArg State.done (State.arrives_accepts h _)

theorem State.faultRead_of_unknown (s : State) {what : Nat} (from_ : Nat) (h : 4 < what) :
    s.faultRead what from_ = (Result.of .rejected, s) := by
  obtain ⟨n, rfl⟩ := Nat.exists_eq_add_of_le' h
  rfl

theorem exec_faultClear_of_accepts {s : State} {o : Origin} {id : BitVec 16} (h : s.accepts o 0x61 false = true) :
    exec (.faultClear o id) s = .next (State.settle (State.reply
      ((((s.taken o).clearFaults id.toNat).2).modFlt (fun f => { f with lastClear := ((s.taken o).clearFaults id.toNat).1 }))
      o 0x61 (Result.of ((s.taken o).clearFaults id.toNat).1))) :=
  congrArg State.done (State.arrives_accepts h _)

/-- One source is named: it is cleared where it is not held. -/
theorem State.clearFaults_srcId (s : State) (x : Src) :
    s.clearFaults (srcId x) = if s.heldSource x then (.rejected, s) else (.ok, s.unstick x) := by
  rw [State.clearFaults, if_neg (srcId_ne_all x)]
  simp only [srcOfId_srcId]

theorem State.unstick_of_not_entered (s : State) (x : Src) (h : ¬(s.flt.tickOf = s.now ∧ s.flt.tickSrcs.contains x = true)) :
    s.unstick x = s.modFlt (fun f => { f with
      sticky := f.sticky.filter (fun y => y != x)
      units := f.units.filter (fun e => e.1 != x)
      awaited := f.awaited.filter (fun e => e.1 != x) }) :=
  if_neg h

/-- Settles O18: the answer of FAULT_READ by WHAT, and the clear of one source by whether it is held. -/
theorem collectorCommands : Obligations.CollectorCommands := by
  refine ⟨fun s o what from_ => exec_faultRead_of_accepts, fun s => ⟨rfl, rfl, fun from_ hfrom => ?counters, fun _ => rfl,
    fun what from_ => s.faultRead_of_unknown from_⟩, fun s o id => exec_faultClear_of_accepts, fun s x hfree hnot => ?clear,
    fun s x hheld => ?held⟩
  case counters => exact if_neg (Nat.not_lt.mpr hfrom)
  case clear =>
    have heq : s.clearFaults (srcId x) = (.ok, s.unstick x) := by
      rw [s.clearFaults_srcId, hfree]
      rfl
    rw [heq, s.unstick_of_not_entered x hnot]
    exact ⟨rfl, rfl, (State.modFlt_touch (TouchM.refl 1048576 s) _ rfl).touch [.flt]⟩
  case held =>
    rw [s.clearFaults_srcId, hheld]
    rfl

/-! ### Hold TEMP (R367, R514) -/

section
variable {s : State} {k : Cell} {lo hi : Int}

/-- With a set-point and the cell not excluded, hold TEMP is judged by the effective range. -/
theorem State.tempDue_of_range (hsign : s.setSign ≠ 0) (hexcl : s.excluded k = false)
    (hrange : s.tempRange s.setSign = (lo, hi)) :
    s.tempDue k = if hi < lo then true else match (s.temps.get k).inUse with
      | none => !(s.temps.get k).sampled
      | some x =>
        if (s.cells.get k).holdTemp then decide (x < lo + 100) || decide (hi - 100 < x)
        else decide (x < lo) || decide (hi < x) := by
  have hjudged : ¬ (decide (s.setSign = 0) || s.excluded k) = true := by simp [hsign, hexcl]
  rw [State.tempDue, if_neg hjudged, hrange] <;> rfl

/-- With a temperature in use, the hold depends on whether it stands already. -/
theorem State.tempDue_of_inUse {x : Int} (hsign : s.setSign ≠ 0) (hexcl : s.excluded k = false)
    (hrange : s.tempRange s.setSign = (lo, hi)) (hle : lo ≤ hi) (hx : (s.temps.get k).inUse = some x) :
    s.tempDue k = if (s.cells.get k).holdTemp then decide (x < lo + 100) || decide (hi - 100 < x)
      else decide (x < lo) || decide (hi < x) := by
  rw [State.tempDue_of_range hsign hexcl hrange, if_neg (not_lt.mpr hle), hx]

end

/-- Settles O20: no set-point or an excluded cell, an empty range, no temperature in use, and a temperature by whether the
hold stands. -/
theorem temperatureHold : Obligations.TemperatureHold := by
  refine fun s k => ⟨fun hnone => ?none, fun lo hi hsign hexcl hrange => ⟨fun hempty => ?empty, fun hle huse => ?unused⟩,
    fun lo hi x hsign hexcl hrange hle huse => ⟨fun hhold => ?begins, fun hhold => ?ends⟩⟩
  case none => exact if_pos (by simpa using hnone)
  case empty => rw [State.tempDue_of_range hsign hexcl hrange, if_pos hempty]
  case unused => rw [State.tempDue_of_range hsign hexcl hrange, if_neg (not_lt.mpr hle), huse]
  case begins => simp [State.tempDue_of_inUse hsign hexcl hrange hle huse, hhold]
  case ends => simp [State.tempDue_of_inUse hsign hexcl hrange hle huse, hhold]

end Sys2Proof.Machine
end

section
/-!
PROOFS. Power up and down, the end of the full test, and the resets of code 1 to 4 (chapter 15).
-/

-- The proofs are elaborated one after another, which keeps the check of the whole text within its memory.
set_option Elab.async false

namespace Sys2Proof.Machine

/-! ### AUX_IN_RANGE, SHUTDOWN_LATCH_CLEAR (R371, R446, R502) -/

theorem State.powerOn_settled (s : State) : s.powerOn.settled = true := rfl

theorem exec_auxInRange_of_unpowered {s : State} {mv : Nat} (hpow : s.powered = false) (hlo : 17000 ≤ mv)
    (hhi : mv ≤ 33000) : exec (.auxInRange mv) s = .next s.powerOn := by
  refine (if_pos ?_).trans (State.done_eq s.powerOn_settled)
  simp [hpow, hlo, hhi]

theorem exec_shutdownLatchClear_of_long {s : State} {ms : Nat} (hs : s.settled = true) (hpow : s.powered = false)
    (hms : 2500 ≤ ms) : exec (.shutdownLatchClear ms) s = .next { s with
      therm := { s.therm with latched := false, tripSource := 0, tripTemp := 0 }, free := s.free + 1 } := by
  have hearly : ¬ (s.powered || decide (ms < 2000)) = true := by simp [hpow]; omega
  have hlong (b : Bool) : (decide (2500 ≤ ms) || b) = true := by simp [hms]
  refine (if_neg hearly).trans ((if_pos (hlong _)).trans (State.done_eq ?_))
  exact hs

/-! ### AUX_OUT_OF_RANGE (R23, R502) -/

theorem Vec.toList_any {α : Type} {n : Nat} (v : Vec α n) (p : α → Bool) :
    v.toList.any p = true ↔ ∃ i, p (v.get i) = true := by
  rw [List.any_eq_true]
  constructor
  · rintro ⟨x, hx, hp⟩
    obtain ⟨i, hi, rfl⟩ := List.getElem_of_mem hx
    exact ⟨⟨i, v.len ▸ hi⟩, hp⟩
  · rintro ⟨i, hp⟩
    exact ⟨_, Vec.get_mem v i, hp⟩

/-- The state that the hub goes to as it stops: a stack keeps the module DORMANT. -/
theorem State.stoppedState_eq (s : State) :
    (if s.segs.toList.any (fun x => decide (20000 ≤ x.stackMv)) then ModState.dormant else .off) =
      if ∃ g, 20000 ≤ (s.segs.get g).stackMv then .dormant else .off := by
  simp only [Vec.toList_any, decide_eq_true_eq]

theorem State.stageOff_abandonWrites_st (s : State) (st : Option Status) :
    (s.stageOff.abandonWrites st).st = s.glb.st :=
  congrArg Glb.st ((State.abandonWrites_touch (State.stageOff_touch (TouchM.refl 109643780 s) rfl) st rfl).same .glb rfl)

/-! ### STARTUP_TEST_END, DRYDOWN_LOG_COLLECT (R422, R447, R450) -/

/-- What the test still ran stands idle. -/
def State.testStopped (s : State) : State :=
  (s.modBist (fun b => { b with queue := [], mode := .idle, runKind := .idle })).modGlb (fun g => { g with testEnded := true })

/-- The test is over, and the loop ports train. -/
def State.testOver (s : State) : State := s.testStopped.trainPorts

theorem State.judgeLastFeed_of_judged {s : State} (h : s.glb.feedsOn = 17) : s.judgeLastFeed = s := by
  refine if_neg ?_
  rw [h]
  decide

/-- With nothing left to run and no source to enter, the end of the test is what it leaves and the choice that follows. -/
theorem exec_startupTestEnd_of_idle {s : State} (hst : s.glb.st = .startupTest) (hend : s.glb.testEnded = false)
    (hfeeds : s.glb.feedsOn = 17) (hrun : s.bist.running = none) (hqueue : s.bist.queue = [])
    (hslow : s.bist.slowDue = false) (hbusy : s.therm.slowBusy = none) (hs : s.settled = true) :
    exec .startupTestEnd s = if s.testOver.glb.heldHalt then
      .next (State.settle (State.haltNow (s.testOver.modGlb (fun g => { g with heldHalt := false }))))
    else .next s.testOver.tryReady.settle := by
  have hidle : (s.modBist (fun b => { b with queue := [], mode := .idle, runKind := .idle })).settle =
      s.modBist (fun b => { b with queue := [], mode := .idle, runKind := .idle }) := State.settle_eq hs
  have hready : ¬ (s.st != .startupTest || s.glb.testEnded || s.bist.running.isSome || s.bist.slowDue ||
      s.therm.slowBusy.isSome || s.bist.queue.any (fun n => s.canStartSlice n.val)) = true := by
    simp [State.st, hst, hend, hrun, hqueue, hslow, hbusy]
  refine (if_neg hready).trans ?_
  rw [State.judgeLastFeed_of_judged hfeeds, hqueue]
  simp only [each, List.foldl_nil, hidle]
  rfl

theorem State.testOver_heldHalt (s : State) : s.testOver.glb.heldHalt = s.glb.heldHalt := by
  have hports : s.testOver.glb = s.testStopped.glb := (State.trainPorts_touch (TouchM.refl 65536 _) rfl).same .glb rfl
  rw [hports]
  rfl

/-- The trial of a slot leaves the module state (R447). -/
theorem State.confirmSlot_st (s : State) : s.confirmSlot.glb.st = s.glb.st ∧ s.confirmSlot.glb.prev = s.glb.prev := by
  have hrec (n : Nat) (l : List Byte) : (s.journal n l).glb = s.glb :=
    (State.journal_touch (TouchM.refl 8388608 s) n l rfl).same .glb rfl
  have hjob (u : State) (j) : (u.pushJob j).glb = u.glb :=
    (State.pushJob_touch (TouchM.refl 8388608 u) j rfl).same .glb rfl
  unfold State.confirmSlot
  extract_lets slot s₁ s₂
  have hfirst : s₂.glb = s.glb := (hjob s₁ _).trans (hrec _ _)
  split
  · exact ⟨rfl, rfl⟩
  split
  · rw [State.modGlb_glb, State.modNvm_glb, hfirst]
    exact ⟨rfl, rfl⟩
  split
  · rw [hjob]
    exact ⟨rfl, rfl⟩
  · exact ⟨rfl, rfl⟩

theorem State.tryReady_of_passed {s : State} (hst : s.glb.st = .startupTest) (hend : s.glb.testEnded = true)
    (hpos : s.loop.valid = true) (hhost : s.glb.headEn = false ∨ s.host.linkUp = true) :
    s.tryReady = (s.abortSlice.enter .ready).confirmSlot := by
  refine if_pos ?_
  rcases hhost with hhost | hhost <;> simp [State.st, State.isHead, hst, hend, hpos, hhost]

/-- Settles O9: the end of a test with nothing left, by the HALT that was held; the entry to READY; the logs. -/
theorem startupTestEnd : Obligations.StartupTestEnd := by
  refine ⟨fun s hst hend hfeeds hrun hqueue hslow hbusy hs => ⟨fun hheld => ?halt, fun hheld => ?ready⟩,
    fun s hst hend hpos hhost => ?entry, fun s hpow hphase hdry hlatched => ?logs⟩
  case halt =>
    rw [exec_startupTestEnd_of_idle hst hend hfeeds hrun hqueue hslow hbusy hs, s.testOver_heldHalt, hheld]
    rfl
  case ready =>
    rw [exec_startupTestEnd_of_idle hst hend hfeeds hrun hqueue hslow hbusy hs, s.testOver_heldHalt, hheld]
    rfl
  case entry =>
    have habort : s.abortSlice.glb = s.glb := (State.abortSlice_touch (TouchM.refl 37296688 s) rfl).same .glb rfl
    obtain ⟨hready, hprev⟩ := (s.abortSlice.enter .ready).confirmSlot_st
    rw [State.tryReady_of_passed hst hend hpos hhost]
    refine ⟨hready, hprev.trans ?_⟩
    rw [State.enter_glb, habort, hst]
  case logs =>
    refine if_pos ?_
    simp [State.st, hpow, hphase, hdry, hlatched]

/-! ### Resets asked for (R445, R446, R452) -/

/-- A reset of a code is asked for: the halt path's actions now, the reset itself 20 µs later. -/
def State.asked (s : State) (code : Nat) : State :=
  let a := s.abortSlice
  { a with
    spc := { a.spc with phases := a.spc.phases.map PhaseSt.idle }
    pins := { a.pins with phEnHigh := true }
    links := a.links.map (fun l => { l with parkSym := some false, parkLeft := 8 })
    glb := { a.glb with resetAt := some (s.now + 20000, code) } }

theorem State.requestReset_of_powered {s : State} (code : Nat) (hnone : s.glb.resetAt = none) (hpow : s.powered = true)
    (hlatched : s.glb.st ≠ .shutdownLatched) : s.requestReset code = s.asked code := by
  have hnow : s.abortSlice.now = s.now := (State.abortSlice_touch (TouchM.refl 37296688 s) rfl).same .now rfl
  obtain ⟨hoff, hdormant⟩ := s.powered_iff.1 hpow
  unfold State.requestReset State.asked
  rw [State.st, hnone]
  split
  case h_1 h => exact absurd h hoff
  case h_2 h => exact absurd h hdormant
  case h_3 h => exact absurd h hlatched
  all_goals
    dsimp only
    rw [← hnow]
    rfl

/-- Settles O10: one request per event, each by `requestReset`. -/
theorem resetRequested : Obligations.ResetRequested := by
  intro s hnone hpow hlatched
  dsimp only
  refine ⟨fun p => ⟨rfl, rfl, rfl⟩, fun hrun => ?idle, fun lowNs hlow => ?resetN, fun hphase => ?watchdog,
    fun t ht hrec hle => ?recovery⟩
  case idle => rw [State.abortSlice, hrun]
  case resetN =>
    have hshort : ¬ lowNs ≤ 100 := by omega
    have hlong (b : Bool) : (decide (1000 ≤ lowNs) || b) = true := by simp [hlow]
    refine (if_neg hshort).trans ((if_pos (hlong _)).trans ?_)
    exact congrArg State.done (State.requestReset_of_powered 1 hnone hpow hlatched)
  case watchdog =>
    refine (if_pos (by simp [hphase])).trans ?_
    exact congrArg State.done (State.requestReset_of_powered 2 hnone hpow hlatched)
  case recovery =>
    have hexec : exec .recoveryReset s =
        ((s.modGlb (fun g => { g with recoveryResetAt := none })).requestReset 4).done := by
      change execRecoveryReset s = _
      rw [execRecoveryReset, ht]
      exact if_pos (by simp [hrec, hle])
    rw [hexec]
    exact congrArg State.done (State.requestReset_of_powered 4 hnone hpow hlatched)

end Sys2Proof.Machine
end

section
/-!
PROOFS. The hub stops (chapter 17), a requested reset is applied (chapter 15), and HALT is entered (chapters 01 and 13).
-/

-- The proofs are elaborated one after another, which keeps the check of the whole text within its memory.
set_option Elab.async false

namespace Sys2Proof.Machine

/-! ### AUX_OUT_OF_RANGE (R23, R230, R502) -/

/-- OPEN is left from READY and STARTUP_TEST as the hub stops (R32). -/
def State.stopped (s : State) : State :=
  if s.glb.st = .ready ∨ s.glb.st = .startupTest then (s.stageOff.abandonWrites none).leaveOpenAll
  else s.stageOff.abandonWrites none

/-- The hub's own part as it stops: the domains are off, nothing is under way. -/
def State.hubOff (s : State) (mv : Nat) : State :=
  ((s.modPwr (fun p => { p with
    inRange := false, nvmOk := false, hubOn := 0, hubRet := 0, auxMv := Nat.min 0xFFFF mv, exitFrom := none, going := none })
    ).setPins { s.pins with wakeLow := false }).modGlb (fun g => { g with
      resetAt := none, recoveryResetAt := none, recovery := false, heldHalt := false })

/-- The state in which the hub ends as it stops. -/
def State.dark (s : State) (mv : Nat) : State :=
  (s.hubOff mv).enter (if ∃ g, 20000 ≤ (s.segs.get g).stackMv then .dormant else .off)

theorem State.hubOff_stoppedState (s : State) (mv : Nat) :
    ((s.hubOff mv).enter (if s.segs.toList.any (fun x => decide (20000 ≤ x.stackMv)) then .dormant else .off)) =
      s.dark mv := by
  rw [s.stoppedState_eq]
  rfl

theorem exec_auxOutOfRange_of_outside {s : State} {mv : Nat} (hpow : s.powered = true) (hmv : mv < 16000 ∨ 34000 < mv) :
    exec (.auxOutOfRange mv) s = .next ((each allSegs (fun x g => x.segAuxLost g) s.stopped).dark mv).settle := by
  have hst := s.stageOff_abandonWrites_st none
  have hopen : (if (s.stageOff.abandonWrites none).st == .ready || (s.stageOff.abandonWrites none).st == .startupTest then
      (s.stageOff.abandonWrites none).leaveOpenAll else s.stageOff.abandonWrites none) = s.stopped := by
    simp [hst, State.stopped]
  refine (if_pos (by simpa [hpow] using hmv)).trans ?_
  rw [hopen]
  generalize each allSegs (fun x g => x.segAuxLost g) s.stopped = a
  exact congrArg State.done (a.hubOff_stoppedState mv)

/-- Settles O6: one equation per event. -/
theorem powerUpAndDown : Obligations.PowerUpAndDown := by
  refine ⟨⟨fun s mv hpow hlo hhi => ?up, fun s ms => exec_shutdownLatchClear_of_long⟩, fun s mv hpow hmv => ?down⟩
  case up =>
    exact ⟨s.powerOn, exec_auxInRange_of_unpowered hpow hlo hhi, rfl, rfl, rfl, rfl, fun k => Vec.get_fill _ k,
      fun g => Vec.get_map _ _ g, rfl, rfl, rfl, rfl, rfl⟩
  case down =>
    dsimp only
    have hdark := exec_auxOutOfRange_of_outside hpow hmv
    rw [State.stopped] at hdark
    generalize each allSegs (fun x g => x.segAuxLost g) _ = a at hdark ⊢
    exact hdark

/-! ### RESET_APPLY (R446, R477) -/

/-- Moving the times on leaves what the module state names (R303). -/
theorem State.shiftTimers_glb (s : State) (d : Int) : ∃ r f c,
    (s.shiftTimers d).glb = { s.glb with resetAt := r, feedAt := f, recoveryResetAt := c } :=
  ⟨_, _, _, rfl⟩

/-- The state whose segments a reset has reached, at line time 0. -/
def State.segsReset (s : State) : State :=
  each allSegs (fun s g => s.segModuleReset g) ((s.shiftTimers (-(s.now : Int))).setNow 0)

theorem State.segsReset_touch (s : State) : TouchM 37486387 s s.segsReset :=
  each_touch _ (State.setNow_touch (State.shiftTimers_touch (TouchM.refl _ s) _ rfl) _ rfl)
    fun _ g h => State.segModuleReset_touch h g rfl

theorem State.segsReset_glb (s : State) : ∃ r f c,
    s.segsReset.glb = { s.glb with resetAt := r, feedAt := f, recoveryResetAt := c } := by
  obtain ⟨r, f, c, h⟩ := s.shiftTimers_glb (-(s.now : Int))
  have hsegs : s.segsReset.glb = (s.shiftTimers (-(s.now : Int))).glb :=
    (each_touch (m := 37297968) _ (TouchM.refl _ _) fun _ g h => State.segModuleReset_touch h g rfl).same .glb rfl
  exact ⟨r, f, c, hsegs.trans h⟩

/-- What a reset by the watchdog reports. -/
def State.resetReported (s : State) (code : Nat) : State :=
  if code = 2 then (s.resetTo code).raise .watchdog none none (s.resetTo code).resetCauseWord 0 0 else s.resetTo code

theorem State.resetReported_touch (s : State) (code : Nat) : TouchM 1048576 (s.resetTo code) (s.resetReported code) :=
  TouchM.ite (State.raise_touch (TouchM.refl _ _) _ _ _ _ _ _ rfl) (TouchM.refl _ _)

/-- The report of the watchdog and the boot ROM leave the rest of what the reset set. -/
theorem State.resetReported_bootRom_touch (s : State) (code : Nat) :
    TouchM 9535490 (s.resetTo code) (s.resetReported code).bootRom :=
  State.bootRom_touch ((TouchM.refl _ _).then (s.resetReported_touch code) rfl) rfl

theorem exec_resetApply_of_due {s : State} {t code : Nat} (hreq : s.glb.resetAt = some (t, code)) (hpow : s.powered = true)
    (hlatched : s.glb.st ≠ .shutdownLatched) (hdue : t ≤ s.now) :
    exec .resetApply s = .next (s.resetReported code).bootRom.settle := by
  change execResetApply s = _
  rw [execResetApply, hreq]
  exact if_pos (by simp [State.st, hpow, hlatched, hdue])

/-- What a reset leaves of the module, beside the segments and their links (R446, R477). -/
theorem State.resetTo_fields (s : State) (code : Nat) :
    (s.resetTo code).now = 0 ∧ (s.resetTo code).glb.st = .boot ∧ (s.resetTo code).glb.prev = s.segsReset.glb.st ∧
    (s.resetTo code).glb.cause = code ∧ (s.resetTo code).glb.resetCount = satAdd 0xFF s.segsReset.glb.resetCount 1 ∧
    (s.resetTo code).regs = s.segsReset.regs.filter (fun e => keptReg e.1) ∧ (s.resetTo code).play = Player.reset ∧
    (s.resetTo code).spc = Spc.reset ∧ (s.resetTo code).host = HostPort.reset ∧ (s.resetTo code).acc = Accord.reset ∧
    (s.resetTo code).results = Ana.reset ∧ (s.resetTo code).pins.phEnHigh = true ∧
    (s.resetTo code).pending = s.segsReset.pending ∧ (s.resetTo code).tu = TimeUnit.reset := by
  unfold State.resetTo State.segsReset
  dsimp only
  generalize each allSegs (fun s g => s.segModuleReset g) _ = a
  exact ⟨rfl, rfl, rfl, rfl, rfl, rfl, rfl, rfl, rfl, rfl, rfl, rfl, rfl, rfl⟩

/-- The choice of a slot leaves the rest of what the reset set in the module state. -/
theorem State.resetReported_bootRom_glb (s : State) (code : Nat) : ∃ b,
    (s.resetReported code).bootRom.glb = { (s.resetTo code).glb with trialBit := b, phase := .verified } ∨
    (s.resetReported code).bootRom.glb = { (s.resetTo code).glb with trialBit := b, recovery := true } := by
  rw [← (s.resetReported_touch code).same .glb rfl]
  exact (s.resetReported code).bootRom_glb

/-- Settles O11: what the reset leaves, kept by the report of a watchdog and by the boot ROM. -/
theorem resetApplied : Obligations.ResetApplied := by
  intro s t code hreq hpow hlatched hdue
  obtain ⟨hnow, hst, hprev, hcause, hcount, hregs, hplay, hspc, hhost, hacc, hres, hpins, hpending, htu⟩ :=
    s.resetTo_fields code
  obtain ⟨r, f, c, hsegs⟩ := s.segsReset_glb
  rw [hsegs] at hprev hcount
  rw [show s.segsReset.regs = s.regs from s.segsReset_touch.same .regs rfl] at hregs
  rw [show s.segsReset.pending = s.pending from s.segsReset_touch.same .pending rfl] at hpending
  refine ⟨_, exec_resetApply_of_due hreq hpow hlatched hdue, ?_⟩
  obtain ⟨b, hglb⟩ := s.resetReported_bootRom_glb code
  have hboot := s.resetReported_bootRom_touch code
  generalize s.resetTo code = v at *
  generalize (s.resetReported code).bootRom = u at *
  have hnamed : u.glb.st = .boot ∧ u.glb.prev = s.glb.st ∧ u.glb.cause = code ∧
      u.glb.resetCount = satAdd 0xFF s.glb.resetCount 1 ∧ (u.glb.phase = .verified ∨ u.glb.recovery = true) := by
    obtain h | h := hglb
    · rw [h]
      exact ⟨hst, hprev, hcause, hcount, .inl rfl⟩
    · rw [h]
      exact ⟨hst, hprev, hcause, hcount, .inr rfl⟩
  obtain ⟨hst, hprev, hcause, hcount, hslot⟩ := hnamed
  exact ⟨(hboot.same .now rfl).trans hnow, hst, hprev, hcause, hcount,
    (hboot.same .regs rfl).trans hregs, (hboot.same .play rfl).trans hplay, (hboot.same .spc rfl).trans hspc,
    (hboot.same .host rfl).trans hhost, (hboot.same .acc rfl).trans hacc, (hboot.same .results rfl).trans hres,
    (congrArg Pins.phEnHigh (hboot.same .pins rfl)).trans hpins, (hboot.same .pending rfl).trans hpending,
    (hboot.same .tu rfl).trans htu, hslot⟩

/-! ### HALT is entered (R23, R111, R387) -/

/-- A preempted slice leaves the SPC but for its link: of the safe states only that of slice 63 is in the SPC (R420). -/
def SpcButLink (x y : Spc) : Prop := ∃ l c, y = { x with link := l, trainCount := c }

theorem SpcButLink.of_eq {x y : Spc} (h : y = x) : SpcButLink x y := ⟨x.link, x.trainCount, h⟩

theorem SpcButLink.trans {x y z : Spc} (h : SpcButLink x y) (k : SpcButLink y z) : SpcButLink x z := by
  obtain ⟨l, c, rfl⟩ := h
  obtain ⟨l', c', rfl⟩ := k
  exact ⟨l', c', rfl⟩

theorem SpcButLink.ite {p : Prop} [Decidable p] {x : Spc} {a b : State} (ha : SpcButLink x a.spc)
    (hb : SpcButLink x b.spc) : SpcButLink x (if p then a else b).spc := by
  split
  · exact ha
  · exact hb

section
variable (s : State)

theorem State.safeState_spc (n : Nat) : SpcButLink s.spc (s.safeState n).spc := by
  unfold State.safeState
  split
  case h_1 g _ =>
    exact .of_eq ((State.bistShunt_touch (State.parkSegment_touch (TouchM.refl 4144 s) g 11 rfl) n true rfl).same .spc rfl)
  case h_2 =>
    have hport (p : Port) : SpcButLink s.spc (s.restartPort p).spc :=
      .of_eq ((State.restartPort_touch (TouchM.refl 35192832 s) p rfl).same .spc rfl)
    exact .ite (hport .a) (.ite (hport .b) (.ite (.of_eq rfl) (.ite ⟨0, 0, rfl⟩ (.of_eq rfl))))

theorem State.failSlice_spc (n : Slice) (hung : Bool) : SpcButLink s.spc (s.failSlice n hung).spc := by
  unfold State.failSlice
  extract_lets s₁ s₂ s₃
  have hset : SpcButLink s.spc s₂.spc :=
    .of_eq ((State.modBist_touch (State.setSlice_touch (TouchM.refl 2097152 s) n _ rfl) _ rfl).same .spc rfl)
  exact (hset.trans (s₂.safeState_spc n.val)).trans
    (.of_eq ((State.raise_touch (TouchM.refl 1048576 s₃) _ _ _ _ _ _ rfl).same .spc rfl))

theorem State.abortSlice_spc : SpcButLink s.spc s.abortSlice.spc := by
  unfold State.abortSlice
  split
  case h_1 => exact .of_eq rfl
  case h_2 n _ _ =>
    extract_lets s₁ s₂ k s₃
    have hmarked : SpcButLink s.spc s₂.spc :=
      .of_eq ((State.modBist_touch (State.setSlice_touch (State.freeBlock_touch (TouchM.refl 2097664 s) n rfl) n _ rfl) _
        rfl).same .spc rfl)
    have hset (f : Bist → Bist) : SpcButLink s.spc (s₂.modBist f).spc := by rwa [State.modBist_spc]
    have hnext (u : State) (hu : SpcButLink s.spc u.spc) : SpcButLink s.spc u.nextSlice.spc :=
      hu.trans (.of_eq ((State.nextSlice_touch (TouchM.refl 2097152 u) rfl).same .spc rfl))
    refine .ite (hset _) (.ite (hset _) (.ite (hnext _ (hset _)) ?_))
    refine .trans (hnext _ (.ite ?_ (hset _)))
      (.of_eq ((State.endOfQueue_touch (TouchM.refl 36241408 _) rfl).same .spc rfl))
    exact (hset _).trans (State.failSlice_spc _ n false)

theorem State.quitSlices_spc : SpcButLink s.spc s.quitSlices.spc := by
  have htest : SpcButLink s.spc s.endTest.spc :=
    .of_eq ((State.endTest_touch (TouchM.refl 2162688 s) rfl).same .spc rfl)
  exact htest.trans s.endTest.abortSlice_spc

theorem State.haltTo_halt_spc (cause : Nat) :
    SpcButLink (s.inhibit cause).stageOff.spc (s.haltTo .halt cause).spc := by
  have hrun (u : State) : SpcButLink u.spc (u.quitRun s.st).spc := .of_eq ((u.quitRun_touch s.st).same .spc rfl)
  exact ((hrun (s.inhibit cause).stageOff).trans (State.quitSlices_spc _)).trans
    (.of_eq ((s.haltTo_entered .halt cause).same .spc rfl))

/-- The answer to a pending frame and the new target leave the causes of the inhibits. -/
theorem State.nakPending_retarget_causes : (s.nakPending.retarget 0).spc.causes = s.spc.causes := by
  have hans (u : State) (x : Answer) : (u.sendAnswer x).spc.causes = u.spc.causes := by
    unfold State.sendAnswer
    extract_lets v
    have hv : v.spc.causes = u.spc.causes := rfl
    clear_value v
    split
    · exact hv
    · exact hv
  have hnak : s.nakPending.spc.causes = s.spc.causes := by
    unfold State.nakPending
    split
    · exact hans _ _
    · rfl
  rw [← hnak]
  exact congrArg Spc.causes ((State.retarget_touch (TouchM.refl 128 _) 0 rfl).same .spc rfl)

/-- An inhibit that arises is among the causes, and the SPC regulates no more. -/
theorem State.inhibit_spc (c : Nat) (hc : c < 7) : (s.inhibit c).spc.causes.getLsbD c = true ∧
    (s.inhibit c).spc.st ≠ .regulate ∧ (s.inhibit c).spc.st ≠ .standby := by
  have hbit (b : BitVec 7) : (b ||| (1 : BitVec 7) <<< c).getLsbD c = true := by
    simp [hc]
  unfold State.inhibit
  extract_lets a b
  split
  case h_1 h => exact ⟨hbit _, h ▸ by decide, h ▸ by decide⟩
  case h_2 h => exact ⟨hbit _, h ▸ by decide, h ▸ by decide⟩
  all_goals
    refine ⟨?_, (by decide : SpcState.inhibited ≠ .regulate), (by decide : SpcState.inhibited ≠ .standby)⟩
    have hcauses : b.spc.causes = a.spc.causes := a.nakPending_retarget_causes
    exact (congrArg (·.getLsbD c) hcauses).trans (hbit _)

/-- The halt path, from a state that the event leads to HALT from. -/
theorem State.haltNow_of_halting (h : s.glb.st = .ready ∨ s.glb.st = .run ∨ s.glb.st = .drydown ∨ s.glb.st = .orphan ∨
    s.glb.st = .startupTest) : s.haltNow = s.haltTo .halt inhHalt := by
  unfold State.haltNow State.st
  rcases h with h | h | h | h | h <;> rw [h]

theorem State.quitRun_play (h : s.glb.st = .run) (u : State) : (u.quitRun s.st).play.st = .halted := by
  rw [State.st, h]
  rfl

theorem State.haltTo_play (m : ModState) (cause : Nat) (h : s.glb.st = .run) : (s.haltTo m cause).play.st = .halted := by
  have hslices (u : State) : u.quitSlices.play = u.play := u.quitSlices_touch.same .play rfl
  rw [(s.haltTo_entered m cause).same .play rfl, State.enter_play, State.atHalt, hslices]
  exact s.quitRun_play h _

theorem State.haltTo_pwr (m : ModState) (cause : Nat) : (s.haltTo m cause).pwr.st = .active := by
  rw [State.haltTo_eq]
  rfl

theorem State.haltTo_parkLeft (m : ModState) (cause : Nat) (g : Seg) : ((s.haltTo m cause).links.get g).parkLeft = 8 := by
  rw [State.haltTo_eq, State.parkSymbol, State.setLinks_links, Vec.get_map]

theorem State.haltTo_inactive (m : ModState) (cause : Nat) (p : Phase) :
    ((s.haltTo m cause).spc.phases.get p).active = false := by
  rw [(s.haltTo_entered m cause).same .spc rfl, State.enter_spc, State.atHalt_phases]
  exact congrArg PhaseSt.active (Vec.get_map _ _ _)

end

/-- Settles O12: the states that the event leads to HALT from, the one that holds it, the ones that it leaves, and the fault of
class HALT in ORPHAN. -/
theorem haltEntered : Obligations.HaltEntered := by
  refine ⟨fun s h => ?halts, fun s h => ?held, fun s h => ?stays, fun s x => ⟨fun h hx => ?orphan, fun h htest => ?fault⟩⟩
  case halts =>
    obtain ⟨hcause, hregulate, hstandby⟩ := s.inhibit_spc inhHalt (by decide)
    obtain ⟨l, c, hspc⟩ := s.haltTo_halt_spc inhHalt
    rw [s.haltNow_of_halting h]
    refine ⟨s.haltTo_glb _ _, s.haltTo_pins _ _, fun p => ⟨s.haltTo_inactive _ _ p, s.haltTo_released _ _ p⟩, ?_, ?_, ?_,
      s.haltTo_pwr _ _, s.haltTo_play _ _, fun g => ⟨s.haltTo_parkSym _ _ g, s.haltTo_parkLeft _ _ g⟩⟩
    · rw [hspc]; exact hcause
    · rw [hspc]; exact hregulate
    · rw [hspc]; exact hstandby
  case held =>
    unfold State.haltNow State.st
    rw [h]
    rfl
  case stays =>
    unfold State.haltNow State.st
    rcases h with h | h | h | h <;> rw [h]
  case orphan =>
    unfold State.classEffect State.st
    simp [h, hx]
  case fault =>
    have horphan : ¬ (s.glb.st == .orphan && x != .estop) = true := by
      rcases h with h | h <;> simp [h]
    unfold State.classEffect State.st
    rw [if_neg (by simp [htest]), if_neg horphan]

end Sys2Proof.Machine
end

section
/-!
PROOFS. Parking by the comparators and the clamp detector, and the keeper (chapter 02).
-/

-- The proofs are elaborated one after another, which keeps the check of the whole text within its memory.
set_option Elab.async false

namespace Sys2Proof.Machine

/-! ### What parking does to a cell without a transition (R32, R42, R46, R48) -/

section
variable {s : State} {k : Cell} (code : Nat)

theorem State.park_of_keep (htr : (s.cells.get k).tr = none) (hst : (s.cells.get k).st = .keep) : s.park k code = s := by
  simp only [State.park, htr, hst]

theorem State.park_of_park (htr : (s.cells.get k).tr = none) (hst : (s.cells.get k).st = .park) :
    s.park k code = s.modCell k (fun c => c.addCause code s.now) := by
  simp only [State.park, htr, hst]

theorem State.park_of_bypass (htr : (s.cells.get k).tr = none) (hst : (s.cells.get k).st = .bypass) :
    s.park k code = s.modCell k (fun c => { c.addCause code s.now with st := .park }) := by
  simp only [State.park, htr, hst]

theorem State.park_of_isOpen (htr : (s.cells.get k).tr = none) (hst : (s.cells.get k).st = .isOpen) :
    s.park k code = (s.modCell k (fun c => { c.addCause code s.now with
      st := .park, fromPark := false, gates := s2on, openUntil := s.now })).disturbOpen k := by
  simp only [State.park, htr, hst]

/-- From IN a sequence out of the path starts: its kind is the cause's own or that of the class in force. -/
theorem State.park_of_isIn (htr : (s.cells.get k).tr = none) (hst : (s.cells.get k).st = .isIn) :
    ∃ kind, s.park k code = (s.modCell k (fun c => c.addCause code s.now)).startSeq k kind false .park none 0 false := by
  simp only [State.park, htr, hst]
  split
  · exact ⟨_, rfl⟩
  split
  · exact ⟨_, rfl⟩
  · exact ⟨_, rfl⟩

theorem State.startSeq_toIn (s : State) (k : Cell) (kind : SeqKind) (toIn : Bool) (target : PathState) (planned : Option Nat)
    (pairSlot : Nat) (late : Bool) : ∃ t, ((s.startSeq k kind toIn target planned pairSlot late).cells.get k).tr = some t ∧
      t.target = target ∧ t.toIn = toIn := by
  simp [State.startSeq]

/-- A cell that is in no transition and not kept gains the cause. -/
theorem State.park_hasCause (htr : (s.cells.get k).tr = none) (hst : (s.cells.get k).st ≠ .keep) (hcode : code - 1 < 12) :
    ((s.park k code).cells.get k).hasCause code = true := by
  have hadd := CellPath.hasCause_addCause (s.cells.get k) s.now hcode
  cases h : (s.cells.get k).st
  case isOpen =>
    rw [State.park_of_isOpen code htr h, (State.disturbOpen_touch (TouchM.refl 4128 _) k).same .cells rfl,
      State.modCell_cells, Vec.get_modify_self]
    exact hadd
  case isIn =>
    obtain ⟨kind, hpark⟩ := State.park_of_isIn code htr h
    rw [hpark, CellPath.hasCause, State.startSeq_causes, State.modCell_cells, Vec.get_modify_self]
    exact hadd
  case bypass =>
    rw [State.park_of_bypass code htr h, State.modCell_cells, Vec.get_modify_self]
    exact hadd
  case park =>
    rw [State.park_of_park code htr h, State.modCell_cells, Vec.get_modify_self]
    exact hadd
  case keep => exact absurd h hst

/-- Parking touches the measurements only where OPEN is left (R32). -/
theorem State.park_touch_of_not_open (htr : (s.cells.get k).tr = none) (hst : (s.cells.get k).st ≠ .isOpen) :
    TouchM 16 s (s.park k code) := by
  cases h : (s.cells.get k).st
  case isOpen => exact absurd h hst
  case isIn =>
    obtain ⟨kind, hpark⟩ := State.park_of_isIn code htr h
    rw [hpark]
    exact State.startSeq_touch (State.modCell_touch (TouchM.refl _ s) k _ rfl) _ _ _ _ _ _ _ rfl
  case bypass =>
    rw [State.park_of_bypass code htr h]
    exact State.modCell_touch (TouchM.refl _ s) k _ rfl
  case park =>
    rw [State.park_of_park code htr h]
    exact State.modCell_touch (TouchM.refl _ s) k _ rfl
  case keep =>
    rw [State.park_of_keep code htr h]
    exact TouchM.refl _ s

end

/-! ### OV_TRIP, UV_TRIP, CLAMP_DETECT (R43, R44, R46) -/

section
variable {s : State} {k : Cell} (hpark : s.parkable k = true)
include hpark

theorem exec_ovTrip_of_above {v : Int} (hexcl : s.excluded k = false) (hen : s.cellFlag k Fld.segCellCfgOvEn = true)
    (hv : s.ovMicro k < v) : exec (.ovTrip k v) s =
      .next ((s.park k 1).segReport (segOf k) (cellReport s.now .ovPark k (word (s.ovEff k)) 0 0)).settle :=
  if_pos (by simp [State.ovActs, hpark, hexcl, hen, hv])

theorem exec_uvTrip_of_below {v : Int} (hexcl : s.excluded k = false) (hen : s.cellFlag k Fld.segCellCfgUvEn = true)
    (hv : v < s.uvMicro k) : exec (.uvTrip k v) s =
      .next ((s.park k 2).segReport (segOf k) (cellReport s.now .uvPark k (word (s.uvEff k)) 0 0)).settle :=
  if_pos (by simp [State.uvActs, hpark, hexcl, hen, hv])

theorem exec_clampDetect_of_isIn (hst : (s.cells.get k).st = .isIn) (hgap : (s.cells.get k).inGap s.now = false) :
    exec (.clampDetect k) s =
      .next ((s.park k 3).segReport (segOf k) (cellReport s.now .clampPark k 0 0 0)).settle :=
  if_pos (by simp [State.clampActs, hpark, hst, hgap])

end

/-- Settles O24: one equation per trip, and what parking does by the state that the cell is in. -/
theorem parkingByTrips : Obligations.ParkingByTrips := by
  refine ⟨fun s k hpark => ⟨fun v => exec_ovTrip_of_above hpark, fun v => exec_uvTrip_of_below hpark,
    exec_clampDetect_of_isIn hpark⟩, fun s k code htr hlo hhi => ⟨fun hst => ?kept, fun hst => ?cause, fun hst => ?parked,
    fun hst => ?out⟩⟩
  case kept => exact State.park_of_keep code htr hst
  case cause =>
    refine ⟨State.park_hasCause code htr hst (by omega), fun j hj => s.park_cells_ne k code hj, ?_, fun hopen => ?_⟩
    · exact (State.park_touch (TouchM.refl 4144 s) k code rfl).touch _
    · exact (State.park_touch_of_not_open code htr hopen).touch _
  case parked =>
    rcases hst with hst | hst
    · rw [State.park_of_bypass code htr hst, State.modCell_cells, Vec.get_modify_self]
    · rw [State.park_of_isOpen code htr hst, (State.disturbOpen_touch (TouchM.refl 4128 _) k).same .cells rfl,
        State.modCell_cells, Vec.get_modify_self]
  case out =>
    obtain ⟨kind, hpark⟩ := State.park_of_isIn code htr hst
    rw [hpark]
    exact State.startSeq_toIn _ k kind false .park none 0 false

/-! ### The keeper (R50, R51) -/

section
variable (s : State) (g : Seg)

/-- The keeper of a segment as it trips. -/
def Keeper.trip (x : Keeper) : Keeper :=
  { x with holding := true, tripped := true, heartbeat := false, tripCount := Nat.min 255 (x.tripCount + 1) }

theorem State.keeperTrips_segs :
    (s.keeperTrips g).segs = (s.modSeg g (fun x => { x with keeper := x.keeper.trip })).segs :=
  (each_touch (m := 16) _ (TouchM.refl _ _) fun _ k h => State.keeperSeq_touch h k rfl).same .segs rfl

theorem State.keeperSeq_cells_ne {k j : Cell} (h : j ≠ k) : (s.keeperSeq j).cells.get k = s.cells.get k :=
  Vec.get_modify_ne _ _ h

theorem State.keeperSeq_now (k : Cell) : (s.keeperSeq k).now = s.now := rfl

/-- The keeper's sequence has started on a cell. -/
def State.keeping (s : State) (k : Cell) (t₀ : Nat) : Prop :=
  ∃ t, (s.cells.get k).tr = some t ∧ t.kind = .keeper ∧ t.target = .keep ∧ t.cmds = [t₀]

theorem State.keeperSeq_keeping (k : Cell) : (s.keeperSeq k).keeping k s.now :=
  State.startSeq_tr s k .keeper false .keep none 0 false

theorem State.keeping_of_keeperSeq_ne {k j : Cell} {t₀ : Nat} (h : j ≠ k) (hs : s.keeping k t₀) :
    (s.keeperSeq j).keeping k t₀ := by
  rwa [State.keeping, s.keeperSeq_cells_ne h]

theorem State.keeperTrips_keeping {k : Cell} (hk : k ∈ cellsOf g) : (s.keeperTrips g).keeping k s.now := by
  unfold State.keeperTrips
  exact each_of_mem (f := State.keeperSeq) (P := fun u => u.now = s.now) (Q := fun u => u.keeping k s.now)
    (fun u _ _ hu => hu) (fun u hu => hu ▸ u.keeperSeq_keeping k)
    (fun u _ hne hu => u.keeping_of_keeperSeq_ne hne hu) (cellsOf_nodup g) hk rfl

variable {s g}

theorem State.keeperActs_of_serving (htrip : (s.segs.get g).keeper.tripped = false)
    (hold : (s.segs.get g).keeper.holding = false ∨ (s.segs.get g).st = .patrol) : s.keeperActs g = true := by
  rcases hold with hold | hold <;> simp [State.keeperActs, htrip, hold]

/-- The state that a trip leaves: with the supply failed, the segment is unpowered. -/
def State.tripped (s : State) (g : Seg) (failed : Bool) : State :=
  if failed then (s.keeperTrips g).modSeg g (fun x => { x with st := .unpowered }) else s.keeperTrips g

theorem exec_keeperTrip_of_serving (failed : Bool) (htrip : (s.segs.get g).keeper.tripped = false)
    (hold : (s.segs.get g).keeper.holding = false ∨ (s.segs.get g).st = .patrol) :
    exec (.keeperTrip g failed) s = .next (s.tripped g failed).settle := by
  refine (if_pos (State.keeperActs_of_serving htrip hold)).trans ?_
  cases failed
  · rfl
  · rfl

theorem State.tripped_keeper (failed : Bool) :
    ((s.tripped g failed).segs.get g).keeper = (s.segs.get g).keeper.trip := by
  have htrips : ((s.keeperTrips g).segs.get g).keeper = (s.segs.get g).keeper.trip := by
    rw [State.keeperTrips_segs, State.modSeg_segs, Vec.get_modify_self]
  cases failed
  · exact htrips
  · rw [State.tripped, if_pos rfl, State.modSeg_segs, Vec.get_modify_self]
    exact htrips

theorem State.tripped_touch (failed : Bool) : TouchM 272 s (s.tripped g failed) := by
  have htrips := State.keeperTrips_touch (TouchM.refl 272 s) g rfl
  exact TouchM.ite (State.modSeg_touch htrips g _ rfl) htrips

theorem State.tripped_cells (failed : Bool) : (s.tripped g failed).cells = (s.keeperTrips g).cells := by
  cases failed
  · rfl
  · rfl

/-- The segment whose hold supply has run down, and its cells in turn: no switch is held on any longer. -/
def State.holdOver (s : State) (g : Seg) : State :=
  each (cellsOf g) (fun s k => s.modCell k (fun c => { c with gates := allOff, keepHold := false }))
    (s.modSeg g (fun x => { x with keeper := { x.keeper with supplyOk := false, holding := false } }))

theorem exec_keeperHoldExpiry_of_dark (hfeed : (s.segs.get g).feedOk = false) (hstack : (s.segs.get g).onStack = false)
    (hold : (s.segs.get g).keeper.holding = true) : exec (.keeperHoldExpiry g) s = .next (s.holdOver g).settle :=
  if_neg (by simp [hfeed, hstack, hold])

theorem State.holdOver_segs : (s.holdOver g).segs =
    s.segs.modify g (fun x => { x with keeper := { x.keeper with supplyOk := false, holding := false } }) :=
  (each_touch (m := 16) _ (TouchM.refl _ _) fun _ k h => State.modCell_touch h k _ rfl).same .segs rfl

theorem State.holdOver_cells_of_mem {k : Cell} (hk : k ∈ cellsOf g) :
    ((s.holdOver g).cells.get k).gates = allOff ∧ ((s.holdOver g).cells.get k).keepHold = false :=
  each_of_mem (P := fun _ => True) (Q := fun u => (u.cells.get k).gates = allOff ∧ (u.cells.get k).keepHold = false)
    (fun _ _ _ _ => trivial)
    (fun u _ => by rw [State.modCell_cells, Vec.get_modify_self]; exact ⟨rfl, rfl⟩)
    (fun u _ hne hu => by rwa [State.modCell_cells, Vec.get_modify_ne _ _ hne]) (cellsOf_nodup g) hk trivial

end

/-- Settles O25: one equation per event, and what the keeper does to its segment and to each of its cells. -/
theorem keeperActs : Obligations.KeeperActs := by
  refine ⟨fun s g failed htrip hold => ⟨s.tripped g failed, exec_keeperTrip_of_serving failed htrip hold,
    (State.tripped_touch failed).touch _, State.tripped_keeper failed, fun hfailed => ?unpowered, fun k hk => ?cells⟩,
    fun s g hfeed hstack hold => ⟨s.holdOver g, exec_keeperHoldExpiry_of_dark hfeed hstack hold, ?touch, ?keeper,
      fun k => State.holdOver_cells_of_mem, fun k hk => ?others⟩⟩
  case unpowered =>
    subst hfailed
    rw [State.tripped, if_pos rfl, State.modSeg_segs, Vec.get_modify_self]
  case cells =>
    rw [State.tripped_cells]
    exact s.keeperTrips_keeping g hk
  case touch =>
    exact (each_touch (m := 272) _ (State.modSeg_touch (TouchM.refl _ s) g _ rfl)
      fun _ k h => State.modCell_touch h k _ rfl).touch _
  case keeper => rw [State.holdOver_segs, Vec.get_modify_self]
  case others =>
    exact each_cells_get_of_not_mem (fun u j hne => Vec.get_modify_ne _ _ hne) hk _

end Sys2Proof.Machine
end

section
/-!
PROOFS. Window writes that are rows of their own, and the release of parked cells (chapters 02 and 16).
-/

-- The proofs are elaborated one after another, which keeps the check of the whole text within its memory.
set_option Elab.async false

namespace Sys2Proof.Machine

/-! ### A write that is admitted (R471 to R474) -/

theorem State.admits_parts {s : State} {off : Nat} {w : Wr} (h : s.admits off w = true) :
    s.accepts w.origin 0x02 false = true ∧ (s.taken w.origin).judgeWrite off (Wr.direct w) = .ok ∧
      (Wr.direct w).accord = 0 ∧ (s.taken w.origin).hostAbsent off = false ∧ s.meetsBar off w = false := by
  simpa [State.admits, and_assoc] using h

/-- What a direct write that is admitted does to a segment's window (R471). -/
def State.windowWritten (s : State) (g : Seg) (off : Nat) (w : Wr) (d : RegDef) : State :=
  (s.atWrite off w).applyWindow g off (Wr.direct w).value ((Wr.direct w).mask &&& (d.rw ||| d.rws ||| d.w1c ||| d.wo))

/-- The hub's shadow follows the window's registers from 0x40 on. -/
def State.windowShadowed (s : State) (g : Seg) (off : Nat) (w : Wr) (d : RegDef) : State :=
  let a := s.windowWritten g off w d
  if 0x40 ≤ off % 0x400 then a.store off (Sparse.get resetOf (a.segs.get g).win off) else a

theorem State.windowRow_of_admits {s : State} {g : Seg} {off : Nat} {isRow : Wr → Bool} {w : Wr} {d : RegDef}
    (hrow : isRow (Wr.direct w) = true) (hadmit : s.admits off w = true) (hreg : regAt off = some d) :
    s.windowRow g off isRow w = (s.windowShadowed g off w d).reply w.origin 0x02 (Result.of .ok) := by
  obtain ⟨hacc, hjudge, haccord, -, -⟩ := State.admits_parts hadmit
  refine (if_pos hrow).trans ((State.arrives_accepts hacc _).trans ?_)
  dsimp only
  rw [hjudge, hreg]
  dsimp only
  rw [if_pos haccord]
  rfl

theorem State.keeperRelease_shadow (s : State) (g : Seg) (w : Wr) (d : RegDef) :
    s.windowShadowed g (windowOff g 0x0C) w d = s.windowWritten g (windowOff g 0x0C) w d :=
  if_neg (by unfold windowOff; omega)

theorem cellCfgOff_shadowed (k : Cell) : 0x40 ≤ cellCfgOff k % 0x400 := by
  simp only [cellCfgOff, Fld.segCellCfgParkReq]
  omega

theorem State.cellCfg_shadow (s : State) (k : Cell) (w : Wr) (d : RegDef) :
    s.windowShadowed (segOf k) (cellCfgOff k) w d = (s.windowWritten (segOf k) (cellCfgOff k) w d).store (cellCfgOff k)
      (Sparse.get resetOf ((s.windowWritten (segOf k) (cellCfgOff k) w d).segs.get (segOf k)).win (cellCfgOff k)) :=
  if_pos (cellCfgOff_shadowed k)

/-! ### KEEPER_RELEASE, OPEN (R31, R51) -/

section
variable (s : State) (g : Seg)

/-- A cell that a released keeper lets go: it is in PARK with cause KEEPER. -/
def State.letGo (k : Cell) : State := s.modCell k (fun c =>
  { c.addCause 10 s.now with st := .park, keepHold := false, tr := none, waiting := none, gates := s2on })

theorem State.letGo_cells_ne {k j : Cell} (h : j ≠ k) : (s.letGo j).cells.get k = s.cells.get k :=
  Vec.get_modify_ne _ _ h

theorem State.letGo_cells_self (k : Cell) : ((s.letGo k).cells.get k).st = .park ∧
    ((s.letGo k).cells.get k).hasCause 10 = true ∧ ((s.letGo k).cells.get k).gates = s2on := by
  rw [State.letGo, State.modCell_cells, Vec.get_modify_self]
  exact ⟨rfl, CellPath.hasCause_addCause _ s.now (by decide), rfl⟩

theorem State.releaseKeeper_of_tripped {s : State} {g : Seg} (htrip : (s.segs.get g).keeper.tripped = true)
    (hbeat : (s.segs.get g).keeper.heartbeat = true) : s.releaseKeeper g = each (cellsOf g) State.letGo
      (s.modSeg g (fun x => { x with keeper := { x.keeper with tripped := false, holding := false } })) :=
  if_pos (by simp [htrip, hbeat])

theorem State.letGoAll_segs : (each (cellsOf g) State.letGo s).segs = s.segs :=
  (each_touch (m := 16) _ (TouchM.refl _ _) fun _ k h => State.modCell_touch h k _ rfl).same .segs rfl

theorem State.letGoAll_cells {k : Cell} (hk : k ∈ cellsOf g) : ((each (cellsOf g) State.letGo s).cells.get k).st = .park ∧
    ((each (cellsOf g) State.letGo s).cells.get k).hasCause 10 = true ∧
    ((each (cellsOf g) State.letGo s).cells.get k).gates = s2on :=
  each_of_mem (f := State.letGo) (P := fun _ => True)
    (Q := fun u => (u.cells.get k).st = .park ∧ (u.cells.get k).hasCause 10 = true ∧ (u.cells.get k).gates = s2on)
    (fun _ _ _ _ => trivial) (fun u _ => u.letGo_cells_self k)
    (fun u _ hne hu => by rwa [u.letGo_cells_ne hne]) (cellsOf_nodup g) hk trivial

theorem State.openCell_of_bypassed {k : Cell} (hst : s.glb.st = .ready ∨ s.glb.st = .startupTest)
    (htr : (s.cells.get k).tr = none) (hkeep : (s.cells.get k).keepHold = false) (hprot : s.protectedNow k = false)
    (hpath : (s.cells.get k).st = .bypass ∨ (s.cells.get k).st = .park) : s.openCell k =
      (s.modCell k (fun c => { c with st := .isOpen, fromPark := c.st == .park, gates := allOff })).disturbOpen k := by
  have hmodule : (s.st == .ready || s.st == .startupTest) = true := by simpa [State.st] using hst
  have hcell : ((s.cells.get k).st == .bypass || (s.cells.get k).st == .park) = true := by simpa using hpath
  refine if_pos ?_
  rw [hmodule, htr, hkeep, hprot, hcell]
  rfl

end

/-- Settles O26: the rows by what a window write that is admitted does, and the two actions. -/
theorem windowWriteRows : Obligations.WindowWriteRows := by
  refine ⟨fun s g w d hrow hadmit hreg => ?release, fun s k w d hadmit hreg => ?cfg, fun s g htrip hbeat => ?keeper,
    fun s k hst htr hkeep hprot hpath => ?opened⟩
  case release =>
    refine congrArg State.done ((State.windowRow_of_admits hrow hadmit hreg).trans ?_)
    rw [s.keeperRelease_shadow]
    rfl
  case cfg =>
    have hrow {isRow : Wr → Bool} (h : isRow (Wr.direct w) = true) :=
      (State.windowRow_of_admits (g := segOf k) h hadmit hreg).trans
        (congrArg (fun u : State => u.reply w.origin 0x02 (Result.of .ok)) (s.cellCfg_shadow k w d))
    exact ⟨fun h => congrArg State.done (hrow h), fun h => congrArg State.done (hrow h),
      fun h => congrArg State.done (hrow h)⟩
  case keeper =>
    rw [State.releaseKeeper_of_tripped htrip hbeat, State.letGoAll_segs]
    refine ⟨?_, fun k hk => State.letGoAll_cells _ g hk⟩
    rw [State.modSeg_segs, Vec.get_modify_self]
  case opened =>
    rw [s.openCell_of_bypassed hst htr hkeep hprot hpath, (State.disturbOpen_touch (TouchM.refl 4128 _) k).same .cells rfl,
      State.modCell_cells, Vec.get_modify_self]
    exact ⟨rfl, rfl⟩

/-! ### RELEASE_PARK (R33, R421, R515) -/

section
variable {s : State} (cells : BitVec 256)

theorem State.releaseCmd_of_free (o : Origin) (hst : s.glb.st = .ready ∨ s.inRun = true)
    (hfree : s.bist.relOrigin = none) : s.releaseCmd o cells =
      if (s.releaseSlices cells).isEmpty then
        ((s.judgeRelease cells).2, some (Result.val (if (s.judgeRelease cells).1 = 0 then .ok else .rejected)
          (s.judgeRelease cells).1))
      else (State.nextSlice (s.modBist (fun b => { b with
        relOrigin := some o, relCells := cells, relQueue := s.releaseSlices cells, relFrom := s.now, reruns := 0 })), none) := by
  have hmodule : ¬ (s.st != .ready && !s.inRun) = true := by
    rcases hst with hst | hst <;> simp [State.st, hst]
  have hnone : ¬ s.bist.relOrigin.isSome = true := by simp [hfree]
  exact (if_neg hmodule).trans (if_neg hnone)

theorem exec_releasePark_of_accepts {o : Origin} (hacc : s.accepts o 0x53 false = true) :
    exec (.releasePark o cells) s = (State.conclude o 0x53 ((s.taken o).releaseCmd o cells)).done :=
  congrArg State.done (State.arrives_accepts hacc _)

theorem exec_releaseJudged_of_due {o : Origin} (horig : s.bist.relOrigin = some o) (hruns : s.releaseRuns = false)
    (hdue : s.bist.relQueue = [] ∨ s.bist.relFrom + 1000000000 ≤ s.now) :
    exec .releaseJudged s = .next s.finishRelease.settle := by
  refine if_pos ?_
  rcases hdue with hdue | hdue <;> simp [horig, hruns, hdue]

theorem State.finishRelease_of_some {o : Origin} (horig : s.bist.relOrigin = some o) : s.finishRelease =
    State.replyLate ((s.judgeRelease s.bist.relCells).2.modBist (fun b =>
      { b with relOrigin := none, relCells := 0, relQueue := [] })) o 0x53
      (Result.val (if (s.judgeRelease s.bist.relCells).1 = 0 then .ok else .rejected) (s.judgeRelease s.bist.relCells).1) := by
  simp only [State.finishRelease, horig]

theorem State.releaseCell_of_cleared {k : Cell} (hst : (s.cells.get k).st = .park) (hclear : s.allCleared k = true) :
    s.releaseCell k = s.modCell k (fun c => { c with st := .bypass, causes := 0, first := 0, resume := s.inRun && !c.held }) :=
  if_pos (by simp [hst, hclear])

variable (s)

/-- The segment's cells that a judgement of the requested cells frees. -/
def State.freed (g : Seg) : BitVec 16 := localSet g (fun k => inSet cells k && s.releasable k)

/-- A segment is told to release its freed cells, if it has any. -/
def State.tellFreed (t : State) (g : Seg) : State :=
  if s.freed cells g = 0 then t else t.sendDown g (.cmd (.release (s.freed cells g)))

theorem State.judgeRelease_eq : s.judgeRelease cells =
    (((allCells.filter (fun k => inSet cells k)).filter (fun k => s.stillParked k)).length,
      each allSegs (s.tellFreed cells) s) := rfl

theorem State.tellFreed_touch (t : State) (g : Seg) : TouchM 512 t (s.tellFreed cells t g) :=
  TouchM.ite (TouchM.refl _ t) (State.sendDown_touch (TouchM.refl _ t) g _ rfl)

theorem State.tellFreed_links_ne (t : State) {g h : Seg} (hne : h ≠ g) :
    (s.tellFreed cells t g).links.get h = t.links.get h := by
  unfold State.tellFreed
  split
  · rfl
  · exact t.sendDown_link_ne g _ hne

/-- A CMD waits for no slice: it is queued at once (R418). -/
theorem State.sendDown_cmd (t : State) (g : Seg) (c : SegCmd) : t.sendDown g (.cmd c) = t.pushDown g (.cmd c) :=
  if_neg (by simp [waitsForSlice])

/-- The link of a segment after the judgement: as before, or with the message in its queue. -/
def State.linkTold (g : Seg) : Link :=
  if s.freed cells g = 0 then s.links.get g
  else { s.links.get g with down := pushDir downPriority s.now (s.links.get g).down (.cmd (.release (s.freed cells g))) }

theorem State.tellFreed_links_self {t : State} {g : Seg} (hnow : t.now = s.now) (hlink : t.links.get g = s.links.get g) :
    (s.tellFreed cells t g).links.get g = s.linkTold cells g := by
  unfold State.tellFreed State.linkTold
  split
  · exact hlink
  · rw [t.sendDown_cmd, State.pushDown, State.modLink_links, Vec.get_modify_self, hlink, hnow]

theorem State.judgeRelease_link (g : Seg) : (s.judgeRelease cells).2.links.get g = s.linkTold cells g :=
  (each_allSegs (g := g) (f := s.tellFreed cells) (P := fun t => t.now = s.now ∧ t.links.get g = s.links.get g)
    (Q := fun t => t.links.get g = s.linkTold cells g)
    (fun t h hne ht => ⟨((s.tellFreed_touch cells t h).same .now rfl).trans ht.1,
      (s.tellFreed_links_ne cells t hne.symm).trans ht.2⟩)
    (fun _ ht => s.tellFreed_links_self cells ht.1 ht.2)
    (fun t _ hne ht => (s.tellFreed_links_ne cells t hne.symm).trans ht) ⟨rfl, rfl⟩)

end

/-- Settles O27: RELEASE_PARK by whether slices run first, its judgement, and what the judgement tells each segment. -/
theorem releasePark : Obligations.ReleasePark := by
  refine ⟨fun s o cells hacc hst hfree => ⟨fun hnone => ?atOnce, fun hsome => ?slices⟩, fun s o horig hruns hdue => ?judged,
    fun s k hst hclear => ?freed, fun s cells => ⟨?count, ?touch, fun g => ⟨fun hm => ?untold, fun hm => ?told⟩⟩⟩
  case atOnce =>
    rw [exec_releasePark_of_accepts cells hacc, State.releaseCmd_of_free cells o hst hfree, hnone]
    rfl
  case slices =>
    rw [exec_releasePark_of_accepts cells hacc, State.releaseCmd_of_free cells o hst hfree,
      if_neg (by simpa using hsome)]
    rfl
  case judged =>
    rw [exec_releaseJudged_of_due horig hruns hdue, State.finishRelease_of_some horig]
  case freed =>
    rw [State.releaseCell_of_cleared hst hclear, State.modCell_cells, Vec.get_modify_self]
    exact ⟨rfl, rfl⟩
  case count =>
    rw [s.judgeRelease_eq, List.filter_filter]
    simp only [Bool.and_comm]
  case touch =>
    exact (each_touch _ (TouchM.refl 512 s) fun t g h => h.then (s.tellFreed_touch cells t g) rfl).touch _
  case untold => exact (s.judgeRelease_link cells g).trans (if_pos hm)
  case told => exact (s.judgeRelease_link cells g).trans (if_neg hm)

end Sys2Proof.Machine
end

section
/-!
PROOFS. Loop frames that carry commands and the census, and the link layer of a port (chapter 09): a frame that an idle port
starts, retransmission, a damaged frame, the figures of a head, and the obligations about them.
-/

-- The proofs are elaborated one after another, which keeps the check of the whole text within its memory.
set_option Elab.async false

namespace Sys2Proof.Machine

/-! ### Ports -/

section
variable (s : State) (p : Port) (f : PortSt → PortSt)

@[simp] theorem State.modPort_port : (s.modPort p f).port p = f (s.port p) := by cases p <;> rfl

@[simp] theorem State.modPort_port_other : (s.modPort p f).port (otherPort p) = s.port (otherPort p) := by
  cases p <;> rfl

@[simp] theorem State.modPort_other_port : (s.modPort (otherPort p) f).port p = s.port p := by cases p <;> rfl

end

/-- The loop of t differs from that of s in its ports only. -/
def PortsOnly (s t : State) : Prop := t.loop = { s.loop with a := t.loop.a, b := t.loop.b }

section
variable {s₀ s : State}

theorem PortsOnly.emit (h : PortsOnly s₀ s) (o : Output) : PortsOnly s₀ (s.emit o) := h

theorem PortsOnly.modPort (h : PortsOnly s₀ s) (p : Port) (f : PortSt → PortSt) : PortsOnly s₀ (s.modPort p f) := by
  cases p
  case a => exact congrArg (fun l => { l with a := f s.loop.a }) h
  case b => exact congrArg (fun l => { l with b := f s.loop.b }) h

theorem PortsOnly.startFrame (h : PortsOnly s₀ s) (p : Port) (x : TxFrame) : PortsOnly s₀ (s.startFrame p x) :=
  (h.emit _).modPort p _

theorem PortsOnly.startAgain (h : PortsOnly s₀ s) (p : Port) (x : TxFrame) : PortsOnly s₀ (s.startAgain p x) :=
  (h.emit _).modPort p _

theorem PortsOnly.sendInside (h : PortsOnly s₀ s) (p : Port) (x : TxFrame) (t : TxNow) (n : Nat) :
    PortsOnly s₀ (s.sendInside p x t n) := (h.emit _).modPort p _

/-- Whichever frame a free transmitter takes (R270, R273), if any. -/
theorem PortsOnly.serve (h : PortsOnly s₀ s) (p : Port) : PortsOnly s₀ (s.serve p) := by
  unfold State.serve
  dsimp only
  split
  · split
    · split
      · exact h
      · exact .startFrame (h.modPort p _) p _
    · split
      · exact .startFrame (h.modPort p _) p _
      · exact .startAgain (h.modPort p _) p _
      · exact .startFrame (h.modPort p _) p _
      · exact h
  · split
    · split
      · exact .sendInside (h.modPort p _) p _ _ _
      · exact h
    · exact h

theorem PortsOnly.sendFrame (h : PortsOnly s₀ s) (p : Port) (own : Bool) (f : Frame) :
    PortsOnly s₀ (s.sendFrame p own f) := .serve (h.modPort p _) p

/-- Every step of a round keeps what is no port. -/
theorem PortsOnly.each {α : Type} (l : List α) {f : State → α → State} (h : PortsOnly s₀ s)
    (hf : ∀ s x, PortsOnly s₀ s → PortsOnly s₀ (f s x)) : PortsOnly s₀ (each l f s) := by
  unfold Machine.each
  induction l generalizing s with
  | nil => exact h
  | cons x l ih => exact ih (hf s x h)

end

/-! ### CMD (R268 to R271) -/

section
variable {s : State} {p : Port} {f : Frame}

theorem exec_cmd_of_takes (h : s.takes p 1 f = true) : exec (.cmd p f) s =
    .next (if (s.heard p 1 f).isHead then (s.heard p 1 f).headCmd p f
      else if f.bcast then (s.heard p 1 f).memberBcast p f
      else (s.heard p 1 f).transit p f (fun s => s.takeCmd p f)).settle :=
  congrArg State.done (State.arrive_takes h _)

/-- The way of an addressed CMD: its target, the next module, or a port that is not UP (R276). -/
theorem State.transit_of_hop (a : State) (k : State → State) (h : f.hop ≠ 1023) : a.transit p f k =
    if f.hop ≤ 1 then k a
    else if (a.port (otherPort p)).st != 2 && f.ftype == 1 then a.noRouteBack p f
    else a.forward p f (f.hop - 1) := if_neg h

/-- A frame in transit whose onward port is UP waits for that port's transmitter. -/
theorem State.forward_of_up (a : State) (hop : Nat) (h : (a.port (otherPort p)).st = 2) :
    a.forward p f hop = a.sendFrame (otherPort p) false { f with hop := hop, dist := f.dist + 1 } :=
  if_pos (beq_iff_eq.2 h)

theorem State.takes_ftype {t : Nat} (h : s.takes p t f = true) : f.ftype = t := by
  unfold State.takes at h
  simp only [Bool.and_eq_true, beq_iff_eq] at h
  grind

end

/-- Settles O29: a head's way, a member's way with a broadcast, and the three ends of an addressed CMD at a member. -/
theorem cmdFramesTaken : Obligations.CmdFramesTaken := by
  intro s p f htakes a
  have hexec := exec_cmd_of_takes htakes
  have htype := State.takes_ftype htakes
  refine ⟨fun hhead => ?_, fun hmember hbcast => ?_, fun hmember haddressed htarget => ?_,
    fun hmember haddressed hfar hfull hup => ?_, fun hmember haddressed hfar hfull hdown => ?_⟩
  · rw [hexec, if_pos hhead]
  · rw [hexec, if_neg (Bool.eq_false_iff.1 hmember), if_pos hbcast]
  · have hhop : f.hop ≠ 1023 := by omega
    rw [hexec, if_neg (Bool.eq_false_iff.1 hmember), if_neg (Bool.eq_false_iff.1 haddressed),
      State.transit_of_hop _ _ hhop, if_pos htarget]
  · rw [hexec, if_neg (Bool.eq_false_iff.1 hmember), if_neg (Bool.eq_false_iff.1 haddressed),
      State.transit_of_hop _ _ hfull, if_neg (Nat.not_le.2 hfar), if_neg (by simp [a, hup]), State.forward_of_up _ _ hup]
  · rw [hexec, if_neg (Bool.eq_false_iff.1 hmember), if_neg (Bool.eq_false_iff.1 haddressed),
      State.transit_of_hop _ _ hfull, if_neg (Nat.not_le.2 hfar), if_pos (by simp [a, hdown, htype])]

/-! ### The census (R275) -/

section
variable {s : State} {p : Port} {f : Frame}

theorem exec_probe_of_takes (h : s.takes p 7 f = true) (hprobe : f.info % 4 = 0) :
    exec (.probe p f) s = .next ((s.heard p 7 f).takeProbe p f).settle :=
  congrArg State.done ((State.arrive_takes h _).trans (if_pos hprobe))

theorem exec_reply_of_takes (h : s.takes p 7 f = true) (hreply : f.info % 4 = 1) : exec (.reply p f) s =
    .next (if (s.heard p 7 f).isHead then (s.heard p 7 f).takeReply f.payload
      else (s.heard p 7 f).transit p f id).settle :=
  congrArg State.done ((State.arrive_takes h _).trans (if_neg (not_not.2 hreply)))

theorem exec_assign_of_takes (h : s.takes p 7 f = true) (hassign : f.info % 4 = 2) :
    exec (.assign p f) s = .next ((s.heard p 7 f).takeAssign p f).settle :=
  congrArg State.done ((State.arrive_takes h _).trans (if_pos hassign))

theorem exec_censusTimeout_of_late {o : Origin} {gen start : Nat} (hset : s.settled = true)
    (hcensus : s.loop.census = some (o, gen, start)) (hlate : start + 1000000 * s.fld Fld.loopTimeoutTimeoutMs < s.now) :
    exec .censusTimeout s = .next ((s.modLoop (fun l => { l with census := none })).replyLate o 0x10
      (Result.of (if s.loop.censusN.isSome then .timeout else .noRoute))) := by
  change execCensusTimeout s = _
  unfold execCensusTimeout
  rw [hcensus]
  refine (if_pos hlate).trans (State.done_eq ?_)
  have htouch := (State.replyLate_touch (TouchM.refl 34144256 (s.modLoop (fun l => { l with census := none }))) o 0x10
    (Result.of (if s.loop.censusN.isSome then .timeout else .noRoute)) rfl).settled
  exact htouch.trans hset

/-- The position, GEN, n and TOPO that a module takes stand after its ports have started what waited for them. -/
theorem State.adopt_loop (gen position n : Nat) (topo : Bool) (hst : s.glb.st ≠ .startupTest) :
    (s.adopt gen position n topo).loop.position = position ∧ (s.adopt gen position n topo).loop.valid = true ∧
      (s.adopt gen position n topo).loop.n = n ∧ (s.adopt gen position n topo).loop.gen = gen ∧
      (s.adopt gen position n topo).loop.topo = topo := by
  unfold State.adopt
  extract_lets a
  have hloop : PortsOnly a ((a.serve .a).serve .b) := .serve (.serve rfl .a) .b
  have hglb : ((a.serve .a).serve .b).glb = a.glb :=
    (State.serve_touch (State.serve_touch (TouchM.refl 33619968 a) .a rfl) .b rfl).same .glb rfl
  have hready : ((a.serve .a).serve .b).tryReady = (a.serve .a).serve .b := by
    refine if_neg ?_
    rw [State.st, hglb]
    simp [a, hst]
  rw [hready, hloop]
  exact ⟨rfl, rfl, rfl, rfl, rfl⟩

end

/-- Settles O30: one equation per census frame, the census that is late, and the position that a module adopts. -/
theorem censusFrames : Obligations.CensusFrames := by
  refine ⟨fun s p f htakes => ⟨exec_probe_of_takes htakes, fun hreply hhead => ?_, fun hreply hmember => ?_,
    exec_assign_of_takes htakes⟩, fun s o gen start => exec_censusTimeout_of_late,
    fun s gen position n topo => State.adopt_loop gen position n topo⟩
  · rw [exec_reply_of_takes htakes hreply, if_pos hhead]
  · rw [exec_reply_of_takes htakes hreply, if_neg (Bool.eq_false_iff.1 hmember)]

/-! ### A frame starts on an idle port (R265, R266) -/

section
variable {s : State} {p : Port}

theorem TxFrame.leaving_of_untimed {x : TxFrame} (h : x.frame.ftype ≠ 4) (t : Nat) : x.leaving t = x.frame := if_pos h

theorem State.startFrame_out (s : State) (p : Port) (x : TxFrame) : (s.startFrame p x).out =
    .frame p (lineOf { x.leaving s.now with lseq := (s.port p).lseqTx, lack := (s.port p).lack } true) :: s.out := rfl

theorem State.startFrame_lastStart (s : State) (p : Port) (x : TxFrame) :
    ((s.startFrame p x).port p).lastStart = s.now := by
  refine (congrArg PortSt.lastStart (State.modPort_port _ p _)).trans ?_
  split
  · rfl
  · rfl

theorem State.startFrame_port_other (s : State) (p : Port) (x : TxFrame) :
    (s.startFrame p x).port (otherPort p) = s.port (otherPort p) := State.modPort_port_other _ p _

theorem State.startAgain_out (s : State) (p : Port) (x : TxFrame) : (s.startAgain p x).out =
    .frame p (lineOf { x.frame with lack := (s.port p).lack } true) :: s.out := rfl

/-- The next frame of a measurement of the latency carries PING (R280). -/
def State.pingsNext (s : State) (p : Port) : Bool := (s.port p).st == 2 && decide ((s.port p).pingSent < 16)

/-- The ID of that PING; 0 for a frame without one. -/
def State.pingId (s : State) (p : Port) : Nat := if s.pingsNext p then (s.port p).pingSent + 1 else 0

/-- The PING is noted with the time at which it leaves. -/
def State.notePing (s : State) (p : Port) : State :=
  if s.pingsNext p then
    s.modPort p (fun x => { x with pingSent := s.pingId p, pingOut := x.pingOut ++ [(s.pingId p, s.now)] })
  else s

/-- The IDLE frame that a port starts, as it waits for its transmitter. -/
def State.nextIdle (s : State) (p : Port) : TxFrame :=
  ⟨true, s.now, 0, s.idleFrame p (s.pingsNext p) false (s.pingId p) 0⟩

theorem State.notePing_loop_only : TouchM 65536 s (s.notePing p) :=
  TouchM.ite (State.modPort_touch (TouchM.refl _ s) p _ rfl) (TouchM.refl _ s)

theorem State.notePing_now : (s.notePing p).now = s.now := (State.notePing_loop_only (p := p)).same .now rfl

theorem State.notePing_out : (s.notePing p).out = s.out := (State.notePing_loop_only (p := p)).same .out rfl

theorem State.notePing_port_other : (s.notePing p).port (otherPort p) = s.port (otherPort p) := by
  unfold State.notePing
  split
  · exact State.modPort_port_other _ p _
  · rfl

theorem State.idleSent_touch : TouchM 33619968 s ((s.notePing p).startFrame p (s.nextIdle p)) :=
  State.startFrame_touch ((TouchM.refl _ s).then State.notePing_loop_only rfl) p _ rfl

theorem exec_idleSend_of_free (hset : s.settled = true) (hpow : s.powered = true) (hst : (s.port p).st ≠ 0)
    (hlate : (s.port p).lastStart + 1000 ≤ s.now) (hfree : (s.port p).idleTx s.now = true)
    (hpong : (s.port p).pongDue = none) (hresend : (s.port p).resend = []) (hready : (s.port p).ready s.now = []) :
    exec (.idleSend p) s = .next ((s.notePing p).startFrame p (s.nextIdle p)) := by
  have hsends : ¬(!s.powered || (s.port p).st == 0 || decide (s.now < (s.port p).lastStart + 1000) ||
      !(s.port p).idleTx s.now) = true := by
    simp [hpow, hst, hfree, hlate]
  have hempty : ¬((s.port p).pongDue.isSome || !(s.port p).resend.isEmpty || !((s.port p).ready s.now).isEmpty) = true := by
    simp [hpong, hresend, hready]
  refine (if_neg hsends).trans ((if_neg hempty).trans (State.done_eq ?_))
  exact State.idleSent_touch.settled.trans hset

end

/-! ### Frames sent again (R265) -/

section
variable (s : State) (p : Port)

/-- The port as a retransmission begins: it is counted, and every held frame that the port may carry (R277) is due again. -/
def State.retransmitted : State := s.modPort p (fun x => { x with
  retry := Nat.min 0xFF (x.retry + 1), retries := x.retries + 1, ackAt := s.now
  resend := x.held.filter (fun h => carries x h.frame.ftype) })

variable {s p}

theorem exec_retransmit_of_due (hset : s.settled = true) (hpow : s.powered = true) (hst : (s.port p).st = 2)
    (hheld : (s.port p).held ≠ []) (hlate : (s.port p).ackAt + 4000 ≤ s.now) :
    exec (.retransmit p) s = .next ((s.retransmitted p).serve p) := by
  have hdue : (s.powered && (s.port p).st == 2 && !(s.port p).held.isEmpty &&
      decide ((s.port p).ackAt + 4000 ≤ s.now)) = true := by
    simp [hpow, hst, hheld, hlate]
  have hframes : s.modPort p (fun x => { x with
      retry := satAdd 0xFF x.retry 1, retries := x.retries + 1, ackAt := s.now
      resend := (s.port p).held.filter (fun t => carries (s.port p) t.frame.ftype) }) = s.retransmitted p := by
    cases p <;> rfl
  refine (if_pos hdue).trans (Eq.trans ?_ (State.done_eq (s := (s.retransmitted p).serve p) ?_))
  · exact congrArg (fun a : State => (a.serve p).done) hframes
  · exact (State.serve_touch (TouchM.refl 33619968 (s.retransmitted p)) p rfl).settled.trans hset

/-- A free transmitter without a PONG or a priority frame starts the first of the frames that are sent again. -/
theorem State.serve_of_resend {x : TxFrame} {l : List TxFrame} (hresend : (s.port p).resend = x :: l)
    (hfree : (s.port p).idleTx s.now = true) (hpong : (s.port p).pongDue = none)
    (hprio : firstPriority ((s.port p).ready s.now) = none) :
    s.serve p = (s.modPort p (fun ps => { ps with resend := l })).startAgain p x := by
  unfold State.serve
  dsimp only
  rw [if_pos hfree, hpong, hprio, hresend]

theorem State.retransmitted_port : (s.retransmitted p).port p = { s.port p with
    retry := Nat.min 0xFF ((s.port p).retry + 1), retries := (s.port p).retries + 1, ackAt := s.now
    resend := (s.port p).held.filter (fun h => carries (s.port p) h.frame.ftype) } := State.modPort_port s p _

/-- The frames sent again go first: what waited for the transmitter is as it was. -/
theorem State.retransmitted_serve_out {x : TxFrame} {l : List TxFrame}
    (hresend : ((s.retransmitted p).port p).resend = x :: l) (hfree : (s.port p).idleTx s.now = true)
    (hpong : (s.port p).pongDue = none) (hprio : firstPriority ((s.port p).ready s.now) = none) :
    ((s.retransmitted p).serve p).out = .frame p (lineOf { x.frame with lack := (s.port p).lack } true) :: s.out := by
  have hport := s.retransmitted_port (p := p)
  rw [State.serve_of_resend hresend (by rw [hport]; exact hfree) (by rw [hport]; exact hpong)
    (by rw [hport]; exact hprio), State.startAgain_out, State.modPort_port, hport]
  rfl

end

/-! ### Damaged frames (R264, R272) -/

section
variable {s : State} {p : Port}

/-- A damaged frame is counted, and training starts to count anew. -/
def State.countDamaged (s : State) (p : Port) (n : Nat) : State :=
  s.modPort p (fun x => { x with count := 0, crcErr := Nat.min 0xFFF (x.crcErr + n) })

/-- The copy, ended with K30.7, of a frame that is being passed on by port q. -/
def State.copyOf (s : State) (q : Port) (g : Frame) : Frame :=
  { g with
    hop := if isSequenced g.ftype && g.hop != 1023 then g.hop - 1 else g.hop
    dist := g.dist + 1, lseq := (s.port q).lseqTx, lack := (s.port q).lack }

/-- The frame is being passed on, and the onward transmitter is free for it. -/
def State.copies (s : State) (p : Port) (g : Frame) : Bool :=
  s.cutsThrough p g && canStart (s.port (otherPort p)) g.ftype && (s.port (otherPort p)).idleTx s.now &&
    ((s.port (otherPort p)).ready s.now).isEmpty

theorem State.abortCopy_eq (g : Frame) : s.abortCopy p g = if s.copies p g then
    (s.emit (.frame (otherPort p) (lineOf (s.copyOf (otherPort p) g) false))).modPort (otherPort p) (fun x => { x with
      lastStart := s.now
      tx := some ⟨s.now, 8 + g.payload.length, isPriority g.ftype, false, s.now + frameNs g.payload.length⟩ })
    else s := rfl

theorem State.abortCopy_loop_out (g : Frame) : TouchM 33619968 s (s.abortCopy p g) := by
  rw [State.abortCopy_eq]
  exact TouchM.ite (State.modPort_touch (State.emit_touch (TouchM.refl _ s) _ rfl) _ _ rfl) (TouchM.refl _ s)

/-- The port on which the frame arrived is not the one by which it leaves. -/
theorem State.abortCopy_port (g : Frame) : (s.abortCopy p g).port p = s.port p := by
  rw [State.abortCopy_eq]
  split
  · exact State.modPort_other_port _ p _
  · rfl

theorem State.abortCopy_of_copies {g : Frame} (h : s.copies p g = true) :
    (s.abortCopy p g).out = .frame (otherPort p) (lineOf (s.copyOf (otherPort p) g) false) :: s.out := by
  rw [State.abortCopy_eq, if_pos h]
  rfl

theorem State.abortCopy_of_whole {g : Frame} (h : s.cutsThrough p g = false) : s.abortCopy p g = s :=
  if_neg (by simp [h])

theorem exec_loopFrameError_of_uncopied {e : FrameError} {f : Option Frame} (hset : s.settled = true)
    (hpow : s.powered = true) (hst : (s.port p).st ≠ 0) (hcopy : e ≠ .crc ∨ f = none) :
    exec (.loopFrameError p e f) s = .next (s.countDamaged p (if e = .aborted then 0 else 1)) := by
  have hhears : ¬(!s.powered || (s.port p).st == 0) = true := by simp [hpow, hst]
  refine (if_neg hhears).trans ?_
  have hend (n : Nat) : (s.countDamaged p n).done = .next (s.countDamaged p n) := State.done_eq hset
  cases e
  case crc =>
    obtain rfl : f = none := hcopy.resolve_left (not_not.2 rfl)
    exact hend 1
  case coding => exact hend 1
  case aborted => exact hend 0
  case unknownType => exact hend 1

theorem exec_loopFrameError_of_crc {g : Frame} (hset : s.settled = true) (hpow : s.powered = true)
    (hst : (s.port p).st ≠ 0) :
    exec (.loopFrameError p .crc (some g)) s = .next ((s.abortCopy p g).countDamaged p 1) := by
  have hhears : ¬(!s.powered || (s.port p).st == 0) = true := by simp [hpow, hst]
  exact (if_neg hhears).trans (State.done_eq ((State.abortCopy_loop_out (p := p) g).settled.trans hset))

theorem State.countDamaged_touch (a : State) (n : Nat) : TouchM 33619968 a (a.countDamaged p n) :=
  State.modPort_touch (TouchM.refl _ a) p _ rfl

end

/-! ### The figures of a head (R279, R341) -/

section
variable {α β : Type} [DecidableEq α]

theorem find?_append (l m : List (α × β)) (k : α) : find? (l ++ m) k = (find? l k).or (find? m k) := by
  induction l with
  | nil => rfl
  | cons e l ih =>
    by_cases h : e.1 = k
    · simp [find?, h]
    · simpa [find?, h] using ih

theorem find?_of_not_mem {l : List (α × β)} {k : α} (h : ∀ e ∈ l, e.1 ≠ k) : find? l k = none := by
  induction l with
  | nil => rfl
  | cons e l ih =>
    have hhead : e.1 ≠ k := h e List.mem_cons_self
    exact (if_neg hhead).trans (ih fun x hx => h x (List.mem_cons_of_mem _ hx))

/-- A key that has one value throughout the list is found with it. -/
theorem find?_of_mem {l : List (α × β)} {k : α} {b : β} (hmem : (k, b) ∈ l) (hone : ∀ e ∈ l, e.1 = k → e.2 = b) :
    find? l k = some b := by
  induction l with
  | nil => exact absurd hmem List.not_mem_nil
  | cons e l ih =>
    by_cases h : e.1 = k
    · exact (if_pos h).trans (congrArg some (hone e List.mem_cons_self h))
    · refine (if_neg h).trans (ih ?_ fun x hx => hone x (List.mem_cons_of_mem _ hx))
      exact (List.mem_cons.1 hmem).resolve_left fun heq => h (congrArg Prod.fst heq).symm

/-- Entries of other keys may go. -/
theorem find?_filter {l : List (α × β)} {k : α} {q : α × β → Bool} (h : ∀ e ∈ l, e.1 = k → q e = true) :
    find? (l.filter q) k = find? l k := by
  induction l with
  | nil => rfl
  | cons e l ih =>
    have hrest := ih fun x hx => h x (List.mem_cons_of_mem _ hx)
    by_cases hk : e.1 = k
    · rw [List.filter_cons_of_pos (h e List.mem_cons_self hk)]
      exact (if_pos hk).trans (if_pos hk).symm
    · by_cases hq : q e = true
      · rw [List.filter_cons_of_pos hq]
        exact (if_neg hk).trans (hrest.trans (if_neg hk).symm)
      · rw [List.filter_cons_of_neg hq]
        exact hrest.trans (if_neg hk).symm

end

section
variable (s : State)

/-- The modules that a head holds figures or placed records of. -/
def State.knownPositions : List Nat :=
  ((s.loop.placed.map Prod.fst) ++ (s.loop.marks.map Prod.fst) ++ (s.loop.lastSent.map Prod.fst)).dedup

/-- The figures that have changed since they were sent. -/
def State.newFigures : List (Nat × Nat × Nat) :=
  (s.knownPositions.map (fun p => (p, s.figures p))).filter (fun e => (find? s.loop.lastSent e.1).getD (0, 0) != e.2)

/-- The figures that have been sent once the notice has left. -/
def State.figuresSent : List (Nat × Nat × Nat) :=
  s.newFigures ++ s.loop.lastSent.filter (fun e => !(s.newFigures.any (fun i => i.1 == e.1)))

/-- The head as it sends its figures. -/
def State.noteFigures : State := s.modLoop (fun l => { l with lastRetire := s.now, lastSent := s.figuresSent })

theorem State.mem_knownPositions (pos : Nat) : pos ∈ s.knownPositions ↔
    (∃ e ∈ s.loop.placed, e.1 = pos) ∨ (∃ e ∈ s.loop.marks, e.1 = pos) ∨ (∃ e ∈ s.loop.lastSent, e.1 = pos) := by
  simp only [State.knownPositions, List.mem_dedup, List.mem_append, List.mem_map, or_assoc]

theorem State.mem_newFigures (e : Nat × Nat × Nat) : e ∈ s.newFigures ↔
    e.1 ∈ s.knownPositions ∧ e.2 = s.figures e.1 ∧ (find? s.loop.lastSent e.1).getD (0, 0) ≠ s.figures e.1 := by
  obtain ⟨pos, fig⟩ := e
  simp only [State.newFigures, List.mem_filter, List.mem_map, bne_iff_ne, Prod.mk.injEq]
  constructor
  · rintro ⟨⟨a, ha, rfl, rfl⟩, hne⟩
    exact ⟨ha, rfl, hne⟩
  · rintro ⟨hmem, rfl, hne⟩
    exact ⟨⟨pos, hmem, rfl, rfl⟩, hne⟩

/-- What a head holds as sent is its present figures: they have changed and are among the new ones, or they stand. -/
theorem State.figuresSent_of_known {pos : Nat} (h : pos ∈ s.knownPositions) :
    (find? s.figuresSent pos).getD (0, 0) = s.figures pos := by
  rw [State.figuresSent, find?_append]
  by_cases hnew : (find? s.loop.lastSent pos).getD (0, 0) = s.figures pos
  · have hnone (e) (he : e ∈ s.newFigures) : e.1 ≠ pos := by
      rintro rfl
      exact ((s.mem_newFigures e).1 he).2.2 hnew
    rw [find?_of_not_mem hnone, Option.none_or, find?_filter]
    · exact hnew
    · rintro e - rfl
      simpa using fun a b hab heq => hnone (a, b) hab heq
  · have hmem : (pos, s.figures pos) ∈ s.newFigures := (s.mem_newFigures _).2 ⟨h, rfl, hnew⟩
    rw [find?_of_mem hmem]
    · rfl
    · rintro e he rfl
      exact ((s.mem_newFigures e).1 he).2.1

theorem PortsOnly.sendRetire {s₀ a : State} (h : PortsOnly s₀ a) (items : List (Nat × Nat × Nat)) :
    PortsOnly s₀ (a.sendRetire items) := by
  refine PortsOnly.each _ h fun a p ha => ?_
  split
  · exact ha.sendFrame _ _ _
  · exact ha

/-- The notices themselves: at most 20 modules in each. -/
def State.sendNotices (items : List (Nat × Nat × Nat)) : State :=
  each (groupsOf 20 (items.length / 20 + 1) items) (fun s g => s.sendRetire g) s

theorem State.sendNotices_touch (items : List (Nat × Nat × Nat)) : TouchM 33619968 s (s.sendNotices items) :=
  each_touch _ (TouchM.refl _ s) fun _ g h => State.sendRetire_touch h g rfl

theorem State.sendNotices_loop (items : List (Nat × Nat × Nat)) : PortsOnly s (s.sendNotices items) :=
  PortsOnly.each _ rfl fun _ g h => h.sendRetire g

variable {s}

theorem exec_retireNotice_of_due (hset : s.settled = true) (hpow : s.powered = true) (hhead : s.isHead = true)
    (hdue : s.loop.lastRetire + 10000000 ≤ s.now) :
    exec .retireNotice s = .next (s.noteFigures.sendNotices s.newFigures) := by
  have hsends : (s.powered && s.isHead && decide (s.loop.lastRetire + 10000000 ≤ s.now)) = true := by
    simp [hpow, hhead, hdue]
  exact (if_pos hsends).trans (State.done_eq ((State.sendNotices_touch s.noteFigures s.newFigures).settled.trans hset))

end

/-! ### Wake symbols (R283) -/

section
variable {s : State} {p : Port}

theorem exec_wakeSymbol_of_head (hpow : s.powered = true) (hhead : s.isHead = true) : exec (.wakeSymbol p) s =
    .next ((s.modLoop (fun l => { l with wakeSeen := true })).notice 3 0 [] [] []).wokenBySymbol.settle := by
  refine (if_neg (by simp [hpow])).trans (congrArg (fun a : State => a.wokenBySymbol.done) (if_pos hhead))

/-- What a member does with a wake symbol that it passes on. -/
def State.passWake (s : State) (p : Port) : State :=
  (s.modLoop (fun l => { l with lastWakeFwd := some s.now })).emit (.wakeSymbol (otherPort p) wakeLine)

theorem exec_wakeSymbol_of_member (hpow : s.powered = true) (hmember : s.isHead = false) : exec (.wakeSymbol p) s =
    .next (match s.loop.lastWakeFwd with
      | some t => if s.now < t + 1000000 then s else s.passWake p
      | none => s.passWake p).wokenBySymbol.settle :=
  (if_neg (by simp [hpow])).trans
    (congrArg (fun a : State => a.wokenBySymbol.done) (if_neg (Bool.eq_false_iff.1 hmember)))

end

/-- Settles O31: one part for each upkeep event of a port, of a head's figures and of a member's records. -/
theorem portUpkeep : Obligations.PortUpkeep := by
  refine ⟨⟨fun s p => ?idle, fun s p hpow hst hquiet => ?down, fun s p hset hpow hst hquiet => ?training,
    fun s p hset hpow hst hheld hlate => ?resend, fun s p e f hset hpow hst => ⟨?uncopied, ?crc⟩⟩,
    fun s hset hpow hhead hdue => ?retire, fun s hpow hmember => ?records, fun s p hpow => ⟨?head, ?passes, ?recent⟩⟩
  case idle =>
    intro hset hpow hst hlate hfree hpong hresend hready
    refine ⟨_, { (s.nextIdle p).frame with lseq := ((s.notePing p).port p).lseqTx, lack := ((s.notePing p).port p).lack },
      exec_idleSend_of_free hset hpow hst hlate hfree hpong hresend hready, rfl, ?_,
      (State.startFrame_lastStart _ p _).trans State.notePing_now,
      (State.startFrame_port_other _ p _).trans State.notePing_port_other, State.idleSent_touch.touch _⟩
    rw [State.startFrame_out, State.notePing_out, TxFrame.leaving_of_untimed (x := s.nextIdle p) (Nat.succ_ne_zero 3).symm]
  case down =>
    refine if_pos ?_
    simpa [hpow, hst] using hquiet
  case training =>
    refine (if_pos (by simp [hpow, hst, hquiet])).trans (State.done_eq ?_)
    exact (State.trainPort_touch (TouchM.refl 65536 s) p rfl).settled.trans hset
  case resend =>
    exact ⟨exec_retransmit_of_due hset hpow hst hheld hlate, fun x l => State.retransmitted_serve_out⟩
  case uncopied => exact exec_loopFrameError_of_uncopied hset hpow hst
  case crc =>
    rintro g rfl rfl
    refine ⟨_, exec_loopFrameError_of_crc hset hpow hst,
      (((State.abortCopy_loop_out g).then (State.countDamaged_touch _ 1) rfl).touch _), ?_, ?_, ?_⟩
    · rw [State.countDamaged, State.modPort_port, State.abortCopy_port]
    · intro hcuts hstart hfree hempty
      refine ⟨s.copyOf (otherPort p) g, rfl, rfl, State.abortCopy_of_copies ?_⟩
      simp [State.copies, hcuts, hstart, hfree, hempty]
    · intro hwhole
      rw [State.abortCopy_of_whole hwhole, State.countDamaged, State.modPort_port_other]
      exact ⟨rfl, rfl⟩
  case retire =>
    have htouch := (State.modLoop_touch (TouchM.refl 33619968 s) (fun l => { l with
      lastRetire := s.now, lastSent := s.figuresSent })).then (s.noteFigures.sendNotices_touch s.newFigures) rfl
    have hloop := s.noteFigures.sendNotices_loop s.newFigures
    refine ⟨_, exec_retireNotice_of_due hset hpow hhead hdue, htouch.touch _, ?_, fun pos hpos => ?_⟩
    · rw [hloop]
      rfl
    · rw [hloop]
      exact s.figuresSent_of_known ((s.mem_knownPositions pos).2 hpos)
  case records => exact if_pos (by simp [hpow, hmember])
  case head => exact exec_wakeSymbol_of_head hpow
  case passes =>
    intro hmember hlate
    rw [exec_wakeSymbol_of_member hpow hmember]
    cases hlast : s.loop.lastWakeFwd with
    | none => rfl
    | some t =>
      simp only [if_neg (Nat.not_lt.2 (hlate t hlast))]
      rfl
  case recent =>
    intro t hmember hlast hnow
    rw [exec_wakeSymbol_of_member hpow hmember, hlast]
    simp only [if_pos hnow]

end Sys2Proof.Machine
end

section
/-!
PROOFS. ORPHAN: loop silence, the entry, and the park symbol once the ramp has ended (chapter 09).
-/

-- The proofs are elaborated one after another, which keeps the check of the whole text within its memory.
set_option Elab.async false

namespace Sys2Proof.Machine

section
variable (s : State)

/-- The silence of the loop is noted (R282). -/
def State.noteSilence : State := s.modLoop (fun l => { l with silent := true })

/-- The run, or OPEN, is left on the way to ORPHAN. -/
def State.leaveForOrphan : State := if s.inRun then s.leaveRun else s.leaveOpenAll

/-- Power ramps to zero at the rate of ORPHAN, and a slice that runs is preempted. -/
def State.rampForOrphan : State :=
  (s.orphanRamp (Nat.min (s.fld Fld.loopOrphanCfgRamp) (s.fld Fld.spcRampLimitRate))).abortSlice

/-- The module in ORPHAN, its park symbol still to come. -/
def State.inOrphan : State :=
  (s.noteSilence.leaveForOrphan.rampForOrphan.enter .orphan).powerActive.modLoop (fun l => { l with orphanSent := false })

theorem State.leaveForOrphan_touch : TouchM 51983792 s s.leaveForOrphan :=
  TouchM.ite (State.leaveRun_touch (TouchM.refl _ s) rfl) (State.leaveOpenAll_touch (TouchM.refl _ s) rfl)

theorem State.rampForOrphan_touch : TouchM 37296816 s s.rampForOrphan :=
  State.abortSlice_touch (State.orphanRamp_touch (TouchM.refl _ s) _ rfl) rfl

theorem State.inOrphan_entered : TouchM 34177024 (s.noteSilence.leaveForOrphan.rampForOrphan.enter .orphan) s.inOrphan :=
  State.modLoop_touch (State.powerActive_touch (TouchM.refl _ _) rfl) _ rfl

theorem State.inOrphan_left : TouchM 54083504 s s.noteSilence.leaveForOrphan.rampForOrphan :=
  ((State.modLoop_touch (TouchM.refl _ s) _ rfl).then (State.leaveForOrphan_touch _) rfl).then
    (State.rampForOrphan_touch _) rfl

theorem State.inOrphan_glb : s.inOrphan.glb = { s.glb with st := .orphan, prev := s.glb.st, enteredAt := s.now } := by
  have hglb : s.noteSilence.leaveForOrphan.rampForOrphan.glb = s.glb := s.inOrphan_left.same .glb rfl
  have hnow : s.noteSilence.leaveForOrphan.rampForOrphan.now = s.now := s.inOrphan_left.same .now rfl
  rw [s.inOrphan_entered.same .glb rfl, State.enter_glb, hglb, hnow]

theorem State.inOrphan_pwr : s.inOrphan.pwr.st = .active := rfl

/-- A player in RUN is HALTED as the run is left, and stays so. -/
theorem State.inOrphan_play (h : s.glb.st = .run) : s.inOrphan.play.st = .halted := by
  have hramp (u : State) : u.rampForOrphan.play = u.play := u.rampForOrphan_touch.same .play rfl
  have hrun : s.noteSilence.inRun = true := beq_iff_eq.2 h
  rw [s.inOrphan_entered.same .play rfl, State.enter_play, hramp, State.leaveForOrphan, if_pos hrun]
  rfl

variable {s}

theorem State.judgesSilence (hpow : s.powered = true) (hst : s.glb.st ≠ .drydown) (hsilent : s.loopSilent = true) :
    ¬(!s.powered || s.st == .drydown || !s.loopSilent) = true := by
  simp [hpow, State.st, hst, hsilent]

theorem exec_orphan_of_enters (hpow : s.powered = true) (hsilent : s.loopSilent = true) (hmeets : s.haltMeets = false)
    (hst : s.glb.st = .ready ∨ s.glb.st = .run) :
    exec .orphan s = .next (s.inOrphan.raise .orphan none none 0 0 0).settle := by
  have hjudged := State.judgesSilence hpow (by rcases hst with h | h <;> simp [h]) hsilent
  have henters : (s.noteSilence.st == .ready || s.noteSilence.inRun) = true := by
    rcases hst with h | h
    · exact Bool.or_eq_true_iff.2 (.inl (beq_iff_eq.2 h))
    · exact Bool.or_eq_true_iff.2 (.inr (beq_iff_eq.2 h))
  exact (if_neg hjudged).trans ((if_neg (Bool.eq_false_iff.1 hmeets)).trans (if_pos henters))

theorem exec_orphan_of_halting (hpow : s.powered = true) (hst : s.glb.st ≠ .drydown) (hsilent : s.loopSilent = true)
    (hmeets : s.haltMeets = true) :
    exec .orphan s = .next (s.noteSilence.raise .orphan none none 0 0 0).settle :=
  (if_neg (State.judgesSilence hpow hst hsilent)).trans (if_pos hmeets)

/-- In the other powered states but DRYDOWN the silence is only noted. -/
theorem exec_orphan_of_stays (hpow : s.powered = true) (hst : s.glb.st ≠ .drydown) (hsilent : s.loopSilent = true)
    (hmeets : s.haltMeets = false) (hset : s.settled = true) (hready : s.glb.st ≠ .ready) (hrun : s.glb.st ≠ .run) :
    exec .orphan s = .next s.noteSilence := by
  have hstays : ¬(s.noteSilence.st == .ready || s.noteSilence.inRun) = true :=
    Bool.eq_false_iff.1 (Bool.or_eq_false_iff.2 ⟨beq_eq_false_iff_ne.2 hready, beq_eq_false_iff_ne.2 hrun⟩)
  exact (if_neg (State.judgesSilence hpow hst hsilent)).trans
    ((if_neg (Bool.eq_false_iff.1 hmeets)).trans ((if_neg hstays).trans (State.done_eq hset)))

theorem exec_orphanPark_of_ended (hset : s.settled = true) (hst : s.glb.st = .orphan)
    (hsent : s.loop.orphanSent = false) (hramp : s.spc.orphanRamp = false ∨ s.spc.ramping = false) :
    exec .orphanPark s = .next ((s.modLoop (fun l => { l with orphanSent := true })).parkSymbol true) := by
  have hdue : (s.st == .orphan && !s.loop.orphanSent && !(s.spc.orphanRamp && s.spc.ramping)) = true := by
    rcases hramp with h | h <;> simp [State.st, hst, hsent, h]
  exact (if_pos hdue).trans (State.done_eq hset)

end

/-- Settles O32: the entry from READY and RUN, the tick that HALT is entered at, the states that only note the silence, and the
park symbol. -/
theorem orphanEntered : Obligations.OrphanEntered := by
  refine ⟨fun s hset hpow hsilent hmeets hst => ?enters, fun s hpow hst hsilent hmeets => ?halting,
    fun s hpow hsilent hmeets hset hst => ?stays, fun s hset hst hsent hramp => ?park⟩
  case enters =>
    refine ⟨_, exec_orphan_of_enters hpow hsilent hmeets hst, s.inOrphan_glb, rfl, s.inOrphan_pwr,
      fun hrun => s.inOrphan_play hrun, ?_⟩
    rw [State.raise_due]
    exact ⟨_, List.mem_append_right _ List.mem_cons_self, rfl⟩
  case halting => exact exec_orphan_of_halting hpow hst hsilent hmeets
  case stays =>
    refine exec_orphan_of_stays hpow ?_ hsilent hmeets hset ?_ ?_
    all_goals rcases hst with h | h | h | h | h <;> simp [h]
  case park =>
    refine ⟨_, exec_orphanPark_of_ended hset hst hsent hramp, rfl, fun g => ?_, ?_⟩
    · rw [State.parkSymbol, State.setLinks_links, Vec.get_map]
      exact ⟨rfl, rfl⟩
    · exact (State.parkSymbol_touch (State.modLoop_touch (TouchM.refl 66048 s) _ rfl) true rfl).touch [.links, .loop]

end Sys2Proof.Machine
end

section
/-!
PROOFS. The string power controller (chapter 04): how a frame is judged, the ramp, answers, the power checks, inhibits, and
the obligations about them.
-/

-- The proofs are elaborated one after another, which keeps the check of the whole text within its memory.
set_option Elab.async false

namespace Sys2Proof.Machine

/-! ### Answers (R116 to R119) -/

section
variable (s : State) (a : Answer)

/-- An answer as it is kept for the player and the registers. -/
def State.keepAnswer : State := s.modSpc (fun x => { x with
  answers := x.answers ++ [a]
  answeredSeq := a.seq
  nakCause := if a.ack then x.nakCause else a.cause
  nakSeq := if a.ack then x.nakSeq else a.seq
  nakUnsol := if a.ack then x.nakUnsol else a.unsol
  nakCount := if a.ack then x.nakCount else satAdd 0xFFFF x.nakCount 1 })

/-- On STEP_OUT the answer takes up the transmitter, and nothing else of the SPC. -/
theorem State.sendAnswer_spc : ∃ t, (s.sendAnswer a).spc = { (s.keepAnswer a).spc with stepFreeAt := t } := by
  have heq : s.sendAnswer a = if (s.keepAnswer a).stepOutOn then
      (s.keepAnswer a).transmit ((s.keepAnswer a).answerFrame (if a.ack then 2 else 3) a.seq a.unsol a.cause)
      else s.keepAnswer a := rfl
  rw [heq]
  split
  · exact ⟨_, rfl⟩
  · exact ⟨_, rfl⟩

variable (ack : Bool) (cause : Nat)

/-- The answer to the pending frame. -/
def State.answerOf : Answer := ⟨ack, s.spc.forceSeq, false, cause, s.spc.target, s.spc.acceptedAt⟩

/-- The frame that is answered is pending no more. -/
def State.unpend : State := s.modSpc (fun x => { x with
  pending := none, lastAnswer := if x.lastSeq = x.forceSeq then some (s.answerOf ack cause) else x.lastAnswer
  answered := true, answeredAt := s.now })

theorem State.answerLast_eq : s.answerLast ack cause = (s.unpend ack cause).sendAnswer (s.answerOf ack cause) := rfl

theorem State.answerLast_pending : (s.answerLast ack cause).spc.pending = none := by
  obtain ⟨t, hspc⟩ := (s.unpend ack cause).sendAnswer_spc (s.answerOf ack cause)
  rw [State.answerLast_eq, hspc]
  rfl

theorem State.answerLast_answers : (s.answerLast ack cause).spc.answers = s.spc.answers ++ [s.answerOf ack cause] := by
  obtain ⟨t, hspc⟩ := (s.unpend ack cause).sendAnswer_spc (s.answerOf ack cause)
  rw [State.answerLast_eq, hspc]
  rfl

variable {s}

/-- A dwell that is complete, with a frame still pending: the answer tells whether its whole target is delivered. -/
theorem exec_dwellComplete_of_pending {t : Nat} {p : SpcFrame} (hset : s.settled = true) (hdwell : s.spc.dwellFrom = some t)
    (hst : s.spc.st = .regulate) (hreached : s.spc.setpoint = s.spc.delivered) (htoggle : s.spc.toggle = none)
    (hlong : t + 1000 * s.fld Fld.stepAckDwellDwellUs ≤ s.now) (hpending : s.spc.pending = some p) :
    exec .dwellComplete s = .next (s.answerLast (s.spc.delivered == s.spc.target * 50)
      (if s.spc.delivered == s.spc.target * 50 then 0 else 1)) := by
  have hend (ack : Bool) (cause : Nat) : (s.answerLast ack cause).done = .next (s.answerLast ack cause) :=
    State.done_eq ((State.answerLast_touch (TouchM.refl 33556480 s) ack cause rfl).settled.trans hset)
  have hcomplete : (s.spc.st == .regulate && s.spc.setpoint == s.spc.delivered && s.spc.toggle.isNone &&
      decide (t + 1000 * s.fld Fld.stepAckDwellDwellUs ≤ s.now)) = true := by
    simp [hst, hreached, htoggle, hlong]
  have howed : s.spc.pending.isSome = true := by rw [hpending]; rfl
  change execDwellComplete s = _
  unfold execDwellComplete
  rw [hdwell]
  exact (if_pos hcomplete).trans ((if_pos howed).trans (hend _ _))

theorem exec_deadlineMiss_of_late {p : SpcFrame} (hpending : s.spc.pending = some p) (hext : p.external = true)
    (hlate : p.acceptedAt + 1000 * frDeadline p.raw ≤ s.now) : exec .deadlineMiss s =
      .next ((s.modSpc (fun x => { x with pending := none })).raise .deadlineMiss none none (word (frSeq p.raw))
        0 0).settle := by
  change execDeadlineMiss s = _
  unfold execDeadlineMiss
  rw [hpending]
  exact if_pos (by simp [hext, hlate])

end

/-- Settles O36: the two answers of a complete dwell, what an answer leaves, and the missed deadline. -/
theorem stepAnswers : Obligations.StepAnswers := by
  refine ⟨fun s t p hset hdwell hst hreached htoggle hlong hpending => ⟨fun hwhole => ?_, fun hshort => ?_⟩,
    fun s ack cause => ⟨s.answerLast_pending ack cause, s.answerLast_answers ack cause,
      (State.answerLast_touch (TouchM.refl 33556480 s) ack cause rfl).touch _⟩,
    fun s p => exec_deadlineMiss_of_late⟩
  · rw [exec_dwellComplete_of_pending hset hdwell hst hreached htoggle hlong hpending, beq_iff_eq.2 hwhole]
    rfl
  · rw [exec_dwellComplete_of_pending hset hdwell hst hreached htoggle hlong hpending, beq_eq_false_iff_ne.2 hshort]
    rfl

/-! ### A frame is judged (R113, R114, R118) -/

section
variable {s : State} {f : BitVec 64}

/-- A deadline of 0 is one whose mantissa is 0. -/
theorem frDeadline_eq_zero_iff : frDeadline f = 0 ↔ f.toNat / 2 ^ 44 % 256 = 0 := by
  simp [frDeadline]

theorem frRamp_eq_zero_iff : frRamp f = 0 ↔ f.toNat / 2 ^ 32 % 256 = 0 := by
  simp [frRamp]

/-- Checks 2 to 4 of R113 in their order. -/
theorem State.frameCheck_eq (s : State) (f : BitVec 64) : s.frameCheck f =
    if 300000 < (frTarget f).natAbs ∨ frDeadline f = 0 ∨ frRamp f = 0 then 5
    else if s.fld Fld.spcRampLimitRate < frRamp f then 2
    else if frTarget f ≠ 0 ∧ (s.glb.st ≠ .run ∨ s.spc.st = .inhibited ∨ s.spc.st = .disabled) then 4 else 0 := by
  unfold State.frameCheck
  refine if_congr ?_ rfl (if_congr Iff.rfl rfl (if_congr ?_ rfl rfl))
  · rw [frDeadline_eq_zero_iff, frRamp_eq_zero_iff]
    simp only [Bool.or_eq_true, decide_eq_true_eq]
    tauto
  · simp [State.inRun, State.st, or_assoc]

/-- The frame is in turn: the link starts its count anew, or its number is next and no frame that it may not preempt waits. -/
def State.inTurn (s : State) (f : BitVec 64) : Bool :=
  s.spc.sync || (frSeq f == (s.spc.lastSeq + 1) % 256 && (s.spc.pending.isNone || frPreempt f))

/-- The frame has the number of the last one, and is answered as a repeat of it or as another in its place. -/
def State.sameSeq (s : State) (f : BitVec 64) : Bool := !s.spc.sync && frSeq f == s.spc.lastSeq && s.spc.lastRaw.isSome

/-- The answer to a frame out of turn. -/
def State.outOfTurn (s : State) (f : BitVec 64) : Answer := ⟨false, frSeq f, false, 3, s.spc.target, s.spc.acceptedAt⟩

/-- The frame that is in turn becomes the last one; with SYNC a pending frame is abandoned. -/
def State.takeTurn (s : State) (f : BitVec 64) : State := s.modSpc (fun x => { x with
  sync := false, lastSeq := frSeq f, lastRaw := some f, pending := if x.sync then none else x.pending })

theorem State.judgeFrame_of_sameSeq (h : s.sameSeq f = true) (ext : Bool) : s.judgeFrame f ext =
    if s.spc.lastRaw = some f then
      match s.spc.lastAnswer with
      | some a => (s.sendAnswer a, false)
      | none => (s, false)
    else (s.sendAnswer (s.outOfTurn f), false) := if_pos h

theorem State.judgeFrame_of_outOfTurn (hseq : s.sameSeq f = false) (hturn : s.inTurn f = false) (ext : Bool) :
    s.judgeFrame f ext = (s.sendAnswer (s.outOfTurn f), false) :=
  (if_neg (Bool.eq_false_iff.1 hseq)).trans (if_neg (Bool.eq_false_iff.1 hturn))

/-- The answer to a frame in turn that fails a check. -/
def State.checkFailed (s : State) (f : BitVec 64) : Answer := ⟨false, frSeq f, false, s.frameCheck f, frTarget f, s.now⟩

theorem State.judgeFrame_of_inTurn (hseq : s.sameSeq f = false) (hturn : s.inTurn f = true) (ext : Bool) :
    s.judgeFrame f ext = if s.frameCheck f = 0 then (s.takeTurn f).acceptFrame f ext
      else (((s.takeTurn f).modSpc (fun x => { x with lastAnswer := some (s.checkFailed f) })).sendAnswer
        (s.checkFailed f), false) :=
  (if_neg (Bool.eq_false_iff.1 hseq)).trans (if_pos hturn)

theorem State.sameSeq_of_last (hsync : s.spc.sync = false) (hseq : frSeq f = s.spc.lastSeq) {g : BitVec 64}
    (hraw : s.spc.lastRaw = some g) : s.sameSeq f = true := by
  simp [State.sameSeq, hsync, hseq, hraw]

end

/-- Settles O34: the repeat, the other frame of its number, the frame out of turn, and the frame in turn by its checks. -/
theorem frameJudged : Obligations.FrameJudged := by
  refine fun s f ext => ⟨fun a hsync hseq hraw hlast => ?repeated, fun g hsync hseq hraw hother => ?other,
    fun hsync hseq hturn => ?outOfTurn, s.frameCheck_eq f, fun hturn => ?inTurn⟩
  case repeated =>
    rw [State.judgeFrame_of_sameSeq (State.sameSeq_of_last hsync hseq hraw), if_pos hraw, hlast]
  case other =>
    have hdiffers : ¬s.spc.lastRaw = some f := by
      rw [hraw]
      exact fun heq => hother (Option.some.inj heq)
    rw [State.judgeFrame_of_sameSeq (State.sameSeq_of_last hsync hseq hraw), if_neg hdiffers]
    rfl
  case outOfTurn =>
    refine State.judgeFrame_of_outOfTurn ?_ ?_ ext
    · simp [State.sameSeq, hseq]
    · rcases hturn with hnext | ⟨hpending, hpreempt⟩
      · simp [State.inTurn, hsync, hnext]
      · simp [State.inTurn, hsync, Option.isNone_eq_false_iff.2 (Option.isSome_iff_ne_none.2 hpending), hpreempt]
  case inTurn =>
    have hseq : s.sameSeq f = false := by
      rcases hturn with hsync | ⟨hnew, -, -⟩
      · simp [State.sameSeq, hsync]
      · simp [State.sameSeq, hnew]
    have hin : s.inTurn f = true := by
      rcases hturn with hsync | ⟨-, hnext, hpending | hpreempt⟩
      · simp [State.inTurn, hsync]
      · simp [State.inTurn, hnext, hpending]
      · simp [State.inTurn, hnext, hpreempt]
    have hjudge := State.judgeFrame_of_inTurn hseq hin ext
    intro a
    constructor
    · intro hpasses
      rw [hjudge, if_pos hpasses]
      rfl
    · intro hfails
      refine ⟨s.checkFailed f, rfl, rfl, rfl, ?_⟩
      rw [hjudge, if_neg hfails]
      rfl

/-! ### Inhibits (R111, R112, R114) -/

section
variable {s : State} {c : Nat}

/-- A cause that arises is noted. -/
def State.addCause (s : State) (c : Nat) : State := s.modSpc (fun x => { x with causes := x.causes ||| ((1 : BitVec 7) <<< c) })

/-- From STANDBY and REGULATE the stage goes off with nothing to deliver. -/
theorem State.inhibit_of_on (h : s.spc.st = .standby ∨ s.spc.st = .regulate) :
    s.inhibit c = ((s.addCause c).nakPending.retarget 0).stageOff.modSpc (fun x => { x with
      st := .inhibited, target := 0, delivered := 0, setpoint := 0, ramping := false, toggle := none, toggleList := []
      dwellFrom := none, shedFrom := none, dOverFrom := none, retryAt := none, unsolDue := false
      disabling := false, orphanRamp := false }) := by
  have hst : (s.addCause c).spc.st = s.spc.st := rfl
  have heq : s.inhibit c = match (s.addCause c).spc.st with
      | .disabled | .inhibited => s.addCause c
      | .standby | .regulate => ((s.addCause c).nakPending.retarget 0).stageOff.modSpc (fun x => { x with
          st := .inhibited, target := 0, delivered := 0, setpoint := 0, ramping := false, toggle := none, toggleList := []
          dwellFrom := none, shedFrom := none, dOverFrom := none, retryAt := none, unsolDue := false
          disabling := false, orphanRamp := false }) := rfl
  rw [heq, hst]
  rcases h with h | h
  · rw [h]
  · rw [h]

theorem State.inhibit_pins (h : s.spc.st = .standby ∨ s.spc.st = .regulate) :
    (s.inhibit c).pins = { s.pins with phEnHigh := true } := by
  have hkept : ((s.addCause c).nakPending.retarget 0).pins = s.pins :=
    (State.retarget_touch (State.nakPending_touch (State.modSpc_touch (TouchM.refl 33556608 s) _ rfl) rfl) 0
      rfl).same .pins rfl
  have hoff (u : State) : u.stageOff.pins = { u.pins with phEnHigh := true } := rfl
  rw [State.inhibit_of_on h, State.modSpc_pins, hoff, hkept]

theorem State.inhibit_released (h : s.spc.st = .standby ∨ s.spc.st = .regulate) (p : Phase) :
    ((s.inhibit c).spc.phases.get p).pwm = .released := by
  rw [State.inhibit_of_on h]
  exact State.stageOff_released _ p

/-- The last cause ends: STANDBY, or DISABLED, with SYNC set. -/
theorem State.endInhibit_of_last (hst : s.spc.st = .inhibited) (hlast : (s.spc.causes &&& ~~~((1 : BitVec 7) <<< c)) = 0) :
    s.endInhibit c = (s.modSpc (fun x => { x with causes := x.causes &&& ~~~((1 : BitVec 7) <<< c) })).modSpc
      (fun x => { x with st := if s.flag Fld.spcCtrlEn then .standby else .disabled, sync := true }) := by
  refine if_pos ?_
  rw [Bool.and_eq_true, beq_iff_eq, beq_iff_eq]
  exact ⟨hst, hlast⟩

end

/-- Settles O39: an inhibit that arises and the last that ends. -/
theorem inhibitsOfTheSpc : Obligations.InhibitsOfTheSpc := by
  refine ⟨fun s c hc => ⟨(s.inhibit_spc c hc).1, fun hon => ?arises⟩, fun s c hc hst hlast => ?ends⟩
  case arises =>
    refine ⟨?_, ?_, ?_, State.inhibit_pins hon, State.inhibit_released hon⟩
    all_goals rw [State.inhibit_of_on hon]; rfl
  case ends =>
    have htouch := (State.endInhibit_touch (TouchM.refl 2048 s) c rfl).touch [.spc]
    rw [State.endInhibit_of_last hst hlast] at htouch ⊢
    exact ⟨rfl, rfl, hlast, htouch⟩

/-! ### The ramp (R115) -/

section
variable {s : State}

theorem State.rampOne_of_held (h : s.rampHeld = true) : s.rampOne = s := if_pos (by rw [h, Bool.or_true])

/-- Where the set-point is after one microsecond of the ramp. -/
def State.rampedTo (s : State) : Int :=
  if (s.spc.delivered - s.spc.setpoint).natAbs ≤ s.spc.ramp then s.spc.delivered
  else if 0 < s.spc.delivered - s.spc.setpoint then s.spc.setpoint + s.spc.ramp else s.spc.setpoint - s.spc.ramp

theorem State.rampOne_of_free (hramp : s.spc.ramping = true) (h : s.rampHeld = false) : s.rampOne =
    s.modSpc (fun x => { x with setpoint := s.rampedTo, ramping := decide (s.rampedTo ≠ x.delivered) }) :=
  if_neg (by simp [hramp, h])

theorem State.rampHeld_iff : s.rampHeld = true ↔ s.spc.toggle ≠ none ∨ ∃ p, (s.spc.phases.get p).addedAt ≠ none := by
  simp [State.rampHeld, Option.isSome_iff_ne_none, allPhases, indices]

theorem State.rampedTo_step : (s.rampedTo - s.spc.setpoint).natAbs ≤ s.spc.ramp := by
  unfold State.rampedTo
  split
  · assumption
  · split <;> omega

end

/-- The time of the latest ramp step stands. -/
def RampKept (s₀ s : State) : Prop := s.spc.rampFrom = s₀.spc.rampFrom

section
variable {s₀ s : State}

theorem RampKept.modSpc (h : RampKept s₀ s) (f : Spc → Spc) (hf : ∀ x, (f x).rampFrom = x.rampFrom := by intro; rfl) :
    RampKept s₀ (s.modSpc f) := (hf s.spc).trans h

theorem RampKept.modPhase (h : RampKept s₀ s) (p : Phase) (f : PhaseSt → PhaseSt) : RampKept s₀ (s.modPhase p f) := h

theorem RampKept.ite {c : Prop} [Decidable c] {a b : State} (ha : RampKept s₀ a) (hb : RampKept s₀ b) :
    RampKept s₀ (if c then a else b) := by
  split
  · exact ha
  · exact hb

theorem RampKept.each {α : Type} (l : List α) {f : State → α → State} (h : RampKept s₀ s)
    (hf : ∀ s x, RampKept s₀ s → RampKept s₀ (f s x)) : RampKept s₀ (each l f s) := by
  unfold Machine.each
  induction l generalizing s with
  | nil => exact h
  | cons x l ih => exact ih (hf s x h)

theorem RampKept.takeCodes (h : RampKept s₀ s) (codes : List (List Nat)) : RampKept s₀ (s.takeCodes codes) := by
  unfold State.takeCodes
  split
  · exact h
  · exact h

theorem RampKept.settleAdded (h : RampKept s₀ s) : RampKept s₀ s.settleAdded := by
  refine .each _ h fun s p hs => ?_
  split
  · exact .ite hs hs
  · exact hs

theorem RampKept.stepOutIdle (h : RampKept s₀ s) : RampKept s₀ s.stepOutIdle := .ite h h

theorem RampKept.settleHand (h : RampKept s₀ s) : RampKept s₀ s.settleHand := by
  refine .each _ (.each _ h fun s p hs => ?_) fun s p hs => ?_
  · split
    · exact .ite hs hs
    · exact hs
  · split
    · exact .ite hs hs
    · exact hs

theorem RampKept.toggleStep (h : RampKept s₀ s) : RampKept s₀ s.toggleStep := by
  unfold State.toggleStep
  split
  · exact h
  · dsimp only
    split
    · exact h
    · split
      · split
        · refine RampKept.modSpc ?_ _
          exact .ite h h
        · exact .ite h h
      · exact .ite h h

theorem RampKept.rampOne (h : RampKept s₀ s) : RampKept s₀ s.rampOne := .ite h h

theorem RampKept.addPhase (h : RampKept s₀ s) : RampKept s₀ s.addPhase := by
  unfold State.addPhase
  split
  · exact h
  · exact h

theorem RampKept.endInhibit (h : RampKept s₀ s) (c : Nat) : RampKept s₀ (s.endInhibit c) := .ite h h

theorem RampKept.watchV (h : RampKept s₀ s) : RampKept s₀ s.watchV := by
  unfold State.watchV
  extract_lets high a
  have ha : RampKept s₀ a := h
  clear_value a
  split
  · exact .ite (ha.endInhibit _) ha
  · exact ha

theorem RampKept.answerLast (h : RampKept s₀ s) (ack : Bool) (cause : Nat) : RampKept s₀ (s.answerLast ack cause) := by
  obtain ⟨t, hspc⟩ := (s.unpend ack cause).sendAnswer_spc (s.answerOf ack cause)
  rw [RampKept, State.answerLast_eq, hspc]
  exact h

theorem RampKept.settleNoPhase (h : RampKept s₀ s) : RampKept s₀ s.settleNoPhase := .ite (h.endInhibit _) h

theorem RampKept.recentre (h : RampKept s₀ s) : RampKept s₀ s.recentre := h

theorem RampKept.spcTimers (h : RampKept s₀ s) : RampKept s₀ s.spcTimers := h

end

section
variable (s : State) (codes : List (List Nat))

/-- The SPC with the sense samples of the last microsecond. -/
def State.sampled : State :=
  ((s.modSpc (fun x => { x with rampFrom := some s.now })).takeCodes codes).settleAdded.stepOutIdle

/-- One microsecond of regulation. -/
def State.regulated : State := s.toggleStep.settleHand.rampOne.recentre

/-- With nothing pending a phase is added where the active ones are loaded enough (R120). -/
def State.phaseAdded : State :=
  if s.spc.pending.isNone && !s.spc.ramping && s.nActive != 0 && s.spc.toggle.isNone &&
      decide (s.fld Fld.spcShedCfgAddPct * s.imax * s.nActive < 100 * s.spc.setpoint.natAbs) then s.addPhase else s

/-- A stage that is being disabled goes off at 0. -/
def State.disabledAtZero : State :=
  if s.spc.disabling && s.spc.setpoint == 0 then
    s.stageOff.modSpc (fun x => { x with st := .disabled, disabling := false, toggle := none })
  else s

/-- A frame that is pending in INHIBITED is answered once the current is in its window. -/
def State.answeredInWindow : State := if s.spc.pending.isSome && s.inWindow then s.answerLast true 0 else s

variable {s} in
theorem RampKept.regulated {s₀ : State} (h : RampKept s₀ s) : RampKept s₀ s.regulated :=
  h.toggleStep.settleHand.rampOne.recentre

variable {s} in
theorem RampKept.phaseAdded {s₀ : State} (h : RampKept s₀ s) : RampKept s₀ s.phaseAdded := .ite h.addPhase h

variable {s} in
theorem RampKept.disabledAtZero {s₀ : State} (h : RampKept s₀ s) : RampKept s₀ s.disabledAtZero := .ite h h

variable {s} in
theorem RampKept.answeredInWindow {s₀ : State} (h : RampKept s₀ s) : RampKept s₀ s.answeredInWindow :=
  .ite (h.answerLast true 0) h

/-- The SPC after one microsecond. -/
def State.rampStepped : State :=
  match (s.sampled codes).spc.st with
  | .regulate => (s.sampled codes).regulated.phaseAdded.spcTimers.disabledAtZero.watchV
  | .inhibited => (s.sampled codes).answeredInWindow.settleNoPhase.watchV
  | .disabled | .standby => (s.sampled codes).watchV

theorem State.sampled_touch : TouchM 33556484 s (s.sampled codes) :=
  State.stepOutIdle_touch (State.settleAdded_touch (State.takeCodes_touch (State.modSpc_touch (TouchM.refl _ s) _ rfl) codes
    rfl) rfl) rfl

theorem State.sampled_rampFrom : (s.sampled codes).spc.rampFrom = some s.now := by
  let a : State := s.modSpc (fun x => { x with rampFrom := some s.now })
  have ha : RampKept a a := rfl
  exact ((ha.takeCodes codes).settleAdded.stepOutIdle : _)

theorem State.rampStepped_touch : TouchM 33556484 s (s.rampStepped codes) := by
  have hsampled := s.sampled_touch codes
  unfold State.rampStepped
  split
  · have hregulated := State.recentre_touch (State.rampOne_touch (State.settleHand_touch (State.toggleStep_touch hsampled
      rfl) rfl) rfl) rfl
    have hadded : TouchM 33556484 s (s.sampled codes).regulated.phaseAdded :=
      TouchM.ite (State.addPhase_touch hregulated rfl) hregulated
    have htimers := State.spcTimers_touch hadded rfl
    exact State.watchV_touch (TouchM.ite (State.modSpc_touch (State.stageOff_touch htimers rfl) _ rfl) htimers) rfl
  · exact State.watchV_touch (State.settleNoPhase_touch (TouchM.ite (State.answerLast_touch hsampled true 0 rfl) hsampled)
      rfl) rfl
  · exact State.watchV_touch hsampled rfl
  · exact State.watchV_touch hsampled rfl

theorem State.rampStepped_rampFrom : (s.rampStepped codes).spc.rampFrom = some s.now := by
  refine Eq.trans ?_ (s.sampled_rampFrom codes)
  change RampKept (s.sampled codes) (s.rampStepped codes)
  unfold State.rampStepped
  generalize s.sampled codes = a
  have ha : RampKept a a := rfl
  split
  · exact ha.regulated.phaseAdded.spcTimers.disabledAtZero.watchV
  · exact ha.answeredInWindow.settleNoPhase.watchV
  · exact ha.watchV
  · exact ha.watchV

variable {s codes}

theorem exec_rampStep_of_due (hdue : ∀ t, s.spc.rampFrom = some t → t + 1000 ≤ s.now) (hon : s.spcOn = true) :
    exec (.rampStep codes) s = .next (s.rampStepped codes).settle := by
  change execRampStep codes s = _
  unfold execRampStep
  extract_lets early a b regulated added timed answered
  have hearly : early = false := by
    cases hfrom : s.spc.rampFrom with
    | none => simp [early, hfrom]
    | some t => simp [early, hfrom, hdue t hfrom]
  rw [if_neg (by simp [hearly, hon])]
  have hb : s.sampled codes = b := rfl
  rw [State.rampStepped, hb]
  clear_value b
  cases b.spc.st
  case regulate =>
    have htimed : b.regulated.phaseAdded.spcTimers = timed := rfl
    dsimp only
    rw [htimed, State.disabledAtZero]
    clear_value timed
    split
    · rfl
    · rfl
  case inhibited => rfl
  case disabled => rfl
  case standby => rfl

end

/-- Settles O35: the step is due, the ramp that waits, and the ramp that moves. -/
theorem rampSteps : Obligations.RampSteps := by
  refine ⟨fun s codes hdue hon => ⟨_, exec_rampStep_of_due hdue hon, s.rampStepped_rampFrom codes,
      (s.rampStepped_touch codes).touch _⟩,
    fun s hheld => State.rampOne_of_held (State.rampHeld_iff.2 hheld), fun s hramp htoggle hadded => ?moves⟩
  case moves =>
    have hfree : s.rampHeld = false := by
      rw [← Bool.not_eq_true, State.rampHeld_iff]
      simp [htoggle, hadded]
    have htouch := (State.rampOne_touch (TouchM.refl 2048 s) rfl).touch [.spc]
    rw [State.rampOne_of_free hramp hfree] at htouch ⊢
    refine ⟨htouch, State.rampedTo_step, fun hlast => ?_⟩
    have hto : s.rampedTo = s.spc.delivered := if_pos hlast
    exact ⟨hto, by simp [hto]⟩

/-! ### Power checks (R109, R111, R123, R136) -/

section
variable {s : State} {t : Nat}

theorem exec_peak_of_arises {p : Phase} {code : Nat} (hon : s.spcOn = true) (hen : s.phaseEnabled p = true)
    (hover : s.peakOver p code = true) (hnew : s.hasInh inhPeak = false) : exec (.peak p code) s =
      .next (((s.modPhase p (fun x => { x with code := code })).inhibit inhPeak).raise .peak none none (word p.val)
        (wordI (divI (s.phaseNano p code) 10000000)) 0).settle := by
  have hseen : (s.spcOn && s.phaseEnabled p && s.peakOver p code) = true := by simp [hon, hen, hover]
  exact (if_pos hseen).trans (if_neg (Bool.eq_false_iff.1 hnew))

/-- Every phase takes its new sense code. -/
def State.withCodes (s : State) (codes : List Nat) : State :=
  s.modSpc (fun x => { x with phases := x.phases.mapIdx (fun n p => { p with code := codes.getD n p.code }) })

theorem exec_peakClear_of_within {codes : List Nat} (hset : s.settled = true)
    (hwithin : ∀ p, s.phaseEnabled p = true → s.peakOver p (codes.getD p.val 0) = false) :
    exec (.peakClear codes) s = .next ((s.withCodes codes).endInhibit inhPeak) := by
  have hclear : (allPhases.all (fun p => !s.phaseEnabled p || !s.peakOver p (codes.getD p.val 0))) = true := by
    rw [List.all_eq_true]
    intro p _
    cases hen : s.phaseEnabled p
    case false => rfl
    case true => rw [hwithin p hen]; rfl
  refine (if_pos hclear).trans (State.done_eq ?_)
  exact (State.endInhibit_touch (TouchM.refl 2048 (s.withCodes codes)) inhPeak rfl).settled.trans hset

theorem exec_vstring_of_over (hfrom : s.spc.vOverFrom = some t) (hlong : t + 10000 ≤ s.now) (hover : s.vLimit < s.vEst)
    (hnew : s.hasInh inhVstring = false) :
    exec .vstring s = .next ((s.inhibit inhVstring).raise .vstring none none (word s.vEst) 0 0).settle := by
  change execVstring s = _
  unfold execVstring
  rw [hfrom]
  exact if_pos ⟨hlong, hover, by rw [hnew]; rfl⟩

theorem exec_toggleTest_of_over (hfrom : s.spc.dOverFrom = some t) (hready : s.crossReady = true)
    (hretry : s.spc.retryAt = none) (hlong : t + 20000 ≤ s.now) : exec .toggleTest s = .next s.startToggle.settle := by
  change execToggleTest s = _
  unfold execToggleTest
  rw [hfrom]
  exact if_pos (by simp [hready, hretry, hlong])

/-- The SPC as a toggle test ends: the dwell starts afresh. -/
def State.toggleOver (s : State) : State := s.endToggle.modSpc (fun x => { x with dwellFrom := none })

/-- The phases of a test and their D, as far as D lies within LIMIT / 2. -/
def State.nearZero (s : State) : List (Phase × Option Int) := (s.spc.toggleList.zip s.spc.togD).filter (fun e =>
  e.2.any (fun d => decide (2 * d.natAbs ≤ 10000 * s.fld Fld.spcXcheckCfgLimit)))

theorem State.named_eq (s : State) : s.named = s.nearZero.map Prod.fst := by
  refine congrArg (List.map Prod.fst) (List.filter_congr fun e _ => ?_)
  cases e.2
  case none => rfl
  case some d => rfl

theorem exec_toggleTestEnd_of_over (hfrom : s.spc.toggle = some t)
    (hlong : t + 150000 * s.spc.toggleList.length ≤ s.now) : exec .toggleTestEnd s = match s.named with
      | [p] => .next (((s.toggleOver).modSpc (fun x => { x with unresolved := 0 })).failPhase p .xchk).settle
      | _ => .next (s.toggleOver.capacityChanged.unresolvedTest (s.toggleOver.crossD.getD 0)).settle := by
  change execToggleTestEnd s = _
  unfold execToggleTestEnd
  rw [hfrom]
  exact if_neg (Nat.not_lt.2 hlong)

theorem exec_toggleRetry_of_due (hat : s.spc.retryAt = some t) (hdue : t ≤ s.now) : exec .toggleRetry s =
    if s.crossReady then s.startToggle.done else (s.modSpc (fun x => { x with retryAt := none })).done := by
  change execToggleRetry s = _
  unfold execToggleRetry
  rw [hat]
  exact if_neg (Nat.not_lt.2 hdue)

end

/-- Settles O38: peaks and their end, V_est, and the toggle test from its start to its retry. -/
theorem powerChecks : Obligations.PowerChecks := by
  refine ⟨fun s p code => exec_peak_of_arises, fun s codes => exec_peakClear_of_within, fun s t => exec_vstring_of_over,
    fun s t => exec_toggleTest_of_over, fun s t hfrom hlong => ?ends, fun s t hat hdue => ⟨fun hready => ?_, fun hnot hset => ?_⟩⟩
  case ends =>
    intro a named
    have hnamed : s.named = named.map Prod.fst := s.named_eq
    rw [exec_toggleTestEnd_of_over hfrom hlong, hnamed]
    clear_value named
    constructor
    · rintro p x rfl
      rfl
    · intro hmany
      split
      · next p hone => exact absurd (by simpa using congrArg List.length hone) hmany
      · rfl
  · rw [exec_toggleRetry_of_due hat hdue, if_pos hready]
    rfl
  · rw [exec_toggleRetry_of_due hat hdue, if_neg (Bool.eq_false_iff.1 hnot)]
    exact State.done_eq hset

end Sys2Proof.Machine
end

section
/-!
PROOFS. The player's frames and moves (chapter 03): answers and deadlines, the end of a run, rung moves, the swap of banks, and
the obligation about them.
-/

-- The proofs are elaborated one after another, which keeps the check of the whole text within its memory.
set_option Elab.async false

namespace Sys2Proof.Machine

/-! ### Answers (R72) -/

section
variable {s : State} {a : Answer}

/-- The answer is that of the frame that the player waits for. -/
def State.answersPending (s : State) (a : Answer) : Bool :=
  match s.play.pending with
  | some p => p.seq == a.seq && !a.unsol
  | none => false

/-- The frame that the player waits for is the zero frame of R74. -/
def State.pendingZero (s : State) : Bool :=
  match s.play.pending with
  | some p => p.zero
  | none => false

/-- The wait for a frame ends with its answer. -/
def State.closeWait (s : State) (mine : Bool) : State :=
  if mine then s.modPlay (fun p => { p with pending := none, answeredAt := some s.now }) else s

theorem State.takeAnswer_of_ack (h : a.ack = true) : s.takeAnswer a =
    (s.clearDerated.closeWait (s.answersPending a)).modPlay (fun p => { p with
      zeroAcked := p.zeroAcked || (s.answersPending a && s.pendingZero) }) := if_pos h

theorem State.takeAnswer_of_nak (h : a.ack = false) : s.takeAnswer a =
    if a.cause = 1 then s.setDerated.closeWait (s.answersPending a)
    else s.raise .stepNak none none (word a.seq) (word a.cause) (word s.play.step) := if_neg (Bool.eq_false_iff.1 h)

variable {p : PlayFrame}

theorem State.answersPending_of_seq (hpending : s.play.pending = some p) (hseq : p.seq = a.seq) (hsol : a.unsol = false) :
    s.answersPending a = true := by
  simp [State.answersPending, hpending, hseq, hsol]

theorem State.pendingZero_of_pending (hpending : s.play.pending = some p) : s.pendingZero = p.zero := by
  simp [State.pendingZero, hpending]

/-- DERATED ends, and nothing else of what the player knows of its frames. -/
theorem State.clearDerated_play : s.clearDerated.play.derated = false ∧ s.clearDerated.now = s.now ∧
    s.clearDerated.play.zeroAcked = s.play.zeroAcked := by
  unfold State.clearDerated
  split
  · exact ⟨rfl, rfl, rfl⟩
  · next h => exact ⟨Bool.eq_false_iff.2 h, rfl, rfl⟩

theorem State.setDerated_play : s.setDerated.play.derated = true ∧ s.setDerated.now = s.now := by
  unfold State.setDerated
  split
  · next h => exact ⟨h, rfl⟩
  · exact ⟨rfl, rfl⟩

/-- The answer of the pending frame ends the wait for it; an ACK ends DERATED, and with it the zero frame is acknowledged. -/
theorem State.takeAnswer_ack (hpending : s.play.pending = some p) (hseq : p.seq = a.seq) (hsol : a.unsol = false)
    (h : a.ack = true) : (s.takeAnswer a).play.pending = none ∧ (s.takeAnswer a).play.answeredAt = some s.now ∧
      (s.takeAnswer a).play.derated = false ∧ (s.takeAnswer a).play.zeroAcked = (s.play.zeroAcked || p.zero) := by
  obtain ⟨hderated, hnow, hzero⟩ := s.clearDerated_play
  rw [State.takeAnswer_of_ack h, State.answersPending_of_seq hpending hseq hsol, State.pendingZero_of_pending hpending,
    ← hnow, ← hzero]
  exact ⟨rfl, rfl, hderated, rfl⟩

theorem State.takeAnswer_derated (hpending : s.play.pending = some p) (hseq : p.seq = a.seq) (hsol : a.unsol = false)
    (h : a.ack = false) (hcause : a.cause = 1) : (s.takeAnswer a).play.pending = none ∧
      (s.takeAnswer a).play.answeredAt = some s.now ∧ (s.takeAnswer a).play.derated = true := by
  obtain ⟨hderated, hnow⟩ := s.setDerated_play
  rw [State.takeAnswer_of_nak h, if_pos hcause, State.answersPending_of_seq hpending hseq hsol, ← hnow]
  exact ⟨rfl, rfl, hderated⟩

/-- The answer has been taken; the exit cycle may be over with it. -/
theorem exec_frameAnswer_of_internal {rest : List Answer} (hanswers : s.spc.answers = a :: rest)
    (hsource : s.externalSource = false) (hcycling : s.cycling = true) {b : State}
    (hb : b = (s.modSpc (fun x => { x with answers := rest })).takeAnswer a) : exec .frameAnswer s =
      if b.play.st == .exit && b.play.exitOver && b.play.pending.isNone then (b.beginStep (b.play.step + 1)).done
      else b.tryFinish.done := by
  have hruns : ¬(!(s.modSpc (fun x => { x with answers := rest })).cycling) = true := by
    change ¬(!s.cycling) = true
    rw [hcycling]
    decide
  have hinternal : ¬(s.modSpc (fun x => { x with answers := rest })).externalSource = true := Bool.eq_false_iff.1 hsource
  change execFrameAnswer s = _
  unfold execFrameAnswer
  rw [hanswers]
  refine (if_neg hruns).trans ?_
  rw [if_neg hinternal, ← hb]
  rfl

theorem exec_frameDeadline_of_late (hpending : s.play.pending = some p) (hcycling : s.cycling = true)
    (hlate : p.deadline ≤ s.now) : exec .frameDeadline s =
      .next (s.raise .stepDeadline none none (word p.seq) 0 (word s.play.step)).settle := by
  change execFrameDeadline s = _
  unfold execFrameDeadline
  rw [hpending]
  exact if_pos (by simp [hcycling, hlate])

end

/-! ### The end of a run (R74) -/

section
variable (s : State)

/-- A run whose records are closed. -/
def State.recordsClosed : State := if s.play.recorded then s else s.endStep s.now s.play.endCode (s.play.endCode == 3)

/-- The player is ARMED in READY. -/
def State.rearmed : State := (s.recordsClosed.clearStep.enter .ready).modPlay (fun p => { p with
  st := .armed, pending := none, stepId := 0xFFFF, inExit := false, exitOver := false, zeroAcked := false, h := none })

/-- Cells, slices and sweeps of the run are let go. -/
def State.lettingGo : State := s.idleCells.askRestart.abortSlice.dropSweep.reviewAll

theorem State.finishRun_eq : s.finishRun = s.rearmed.lettingGo.answerStop := rfl

theorem State.lettingGo_touch : TouchM 37305136 s s.lettingGo :=
  State.reviewAll_touch (State.dropSweep_touch (State.abortSlice_touch (State.askRestart_touch (State.idleCells_touch
    (TouchM.refl _ s) rfl) rfl) rfl) rfl) rfl

theorem State.finishRun_left : TouchM 54082352 s.rearmed s.finishRun :=
  State.answerStop_touch ((TouchM.refl _ _).then s.rearmed.lettingGo_touch rfl) rfl

/-- The STOP is answered once. -/
theorem State.answerStop_stopOrigin : s.answerStop.stopOrigin = none := by
  unfold State.answerStop
  split
  · next o _ =>
    exact (State.replyLate_touch (TouchM.refl 34144256 (s.setStop none)) o 0x51 (Result.of .ok) rfl).same .stopOrigin rfl
  · assumption

theorem State.finishRun_ready : s.finishRun.glb.st = .ready ∧ s.finishRun.play.st = .armed ∧
    s.finishRun.play.pending = none ∧ s.finishRun.stopOrigin = none := by
  have hglb : s.finishRun.glb = s.rearmed.glb := s.finishRun_left.same .glb rfl
  have hplay : s.finishRun.play = s.rearmed.play := s.finishRun_left.same .play rfl
  rw [hglb, hplay]
  exact ⟨rfl, rfl, rfl, State.answerStop_stopOrigin _⟩

end

/-! ### Rung moves (R68) -/

theorem mem_cellsOf {k : Cell} {g : Seg} : k ∈ cellsOf g ↔ segOf k = g := by
  have hk := k.isLt
  have hg := g.isLt
  simp only [cellsOf, List.mem_map, List.mem_range, Fin.ext_iff, cellOf, segOf, cell, seg, Fin.ofNat]
  constructor
  · rintro ⟨i, hi, heq⟩
    omega
  · intro heq
    exact ⟨k.val % 16, by omega, by omega⟩

section
variable (s : State) (k : Cell) (c : CellPath)

/-- The segment decides a move of the cell. -/
def State.decidesMove : Bool := s.played k && s.modeOf k == 1 && c.inService && c.walk.isNone

/-- The rung that it decides for. -/
def State.rungMoved : Nat :=
  (clampInt 0 ((ladRungs s.active (s.ladderOf k) : Int) - 1) ((c.rung : Int) + (if s.movesFrozen then 0
    else match s.cycleOutput k s.play.cycleStart (s.play.cycleStart + s.tCyc - 1000) with
      | some x => ladMv s.active (s.ladderOf k) (moveIndex s.active (s.ladderOf k) (s.tapErr k x) 15 0)
      | none => 0))).toNat

/-- The cell's path after the decision. -/
def State.afterMove : CellPath := if s.decidesMove k c then { c with nextRung := s.rungMoved k c } else c

theorem State.moveCell_eq : s.moveCell k = if s.decidesMove k (s.cells.get k) then
    s.modCell k (fun c => { c with nextRung := s.rungMoved k (s.cells.get k) }) else s := by
  have heq : s.moveCell k = if !s.decidesMove k (s.cells.get k) then s
      else s.modCell k (fun c => { c with nextRung := s.rungMoved k (s.cells.get k) }) := rfl
  rw [heq]
  cases s.decidesMove k (s.cells.get k) <;> rfl

theorem State.moveCell_cells : (s.moveCell k).cells.get k = s.afterMove k (s.cells.get k) := by
  rw [State.moveCell_eq, State.afterMove]
  split
  · exact Vec.get_modify_self _ _ _
  · rfl

variable {k} in
theorem State.moveCell_cells_ne {j : Cell} (hne : j ≠ k) : (s.moveCell j).cells.get k = s.cells.get k := by
  rw [State.moveCell_eq]
  split
  · exact Vec.get_modify_ne _ _ hne
  · rfl

theorem State.moveCell_putCells : s.moveCell k = s.putCells (s.moveCell k).cells := by
  rw [State.moveCell_eq]
  split
  · rfl
  · rfl

/-- The moves of a segment's cells. -/
def State.moveAll (g : Seg) : State := each (cellsOf g) (fun s k => s.moveCell k) s

theorem State.moveAll_touch (g : Seg) : TouchM 16 s (s.moveAll g) :=
  each_touch _ (TouchM.refl 16 s) fun _ k h => State.moveCell_touch h k rfl

/-- What a cell's decision depends on: everything but the other cells' paths. -/
def State.sameFor (u : State) : Prop := ∃ v, u = s.putCells v ∧ v.get k = s.cells.get k

variable {k} in
theorem State.moveAll_cells {g : Seg} (hk : segOf k = g) : ((s.moveAll g).cells.get k) = s.afterMove k (s.cells.get k) := by
  refine each_of_mem (f := fun s k => s.moveCell k) (P := s.sameFor k) (Q := fun u => u.cells.get k = s.afterMove k (s.cells.get k))
    ?others ?own ?kept (cellsOf_nodup g) (mem_cellsOf.2 hk) ⟨s.cells, rfl, rfl⟩
  case others =>
    rintro u x hne ⟨v, rfl, hv⟩
    refine ⟨((s.putCells v).moveCell x).cells, State.moveCell_putCells _ x, ?_⟩
    rw [State.moveCell_cells_ne _ hne]
    exact hv
  case own =>
    rintro u ⟨v, rfl, hv⟩
    rw [State.moveCell_cells, ← hv]
    rfl
  case kept =>
    intro u x hne hu
    rw [State.moveCell_cells_ne _ hne, hu]

variable {k} in
theorem State.moveAll_cells_of_other {g : Seg} (hk : segOf k ≠ g) : ((s.moveAll g).cells.get k) = s.cells.get k :=
  each_cells_get_of_not_mem (fun u _ hne => u.moveCell_cells_ne hne) (fun hmem => hk (mem_cellsOf.1 hmem)) s

variable {s}

theorem exec_rungMove_of_lastSlot {g : Seg} (hset : s.settled = true) (hcycling : s.cycling = true) (hplay : s.play.st = .play)
    (hlast : s.play.cycleStart + s.tCyc ≤ s.now + 1000) (hbefore : s.now < s.play.cycleStart + s.tCyc) :
    exec (.rungMove g) s = .next (s.moveAll g) := by
  have hslot : (s.cycling && s.play.st == .play && decide (s.play.cycleStart + s.tCyc - 1000 ≤ s.now) &&
      decide (s.now < s.play.cycleStart + s.tCyc)) = true := by
    simp [hcycling, hplay, hlast, hbefore]
  exact (if_pos hslot).trans (State.done_eq ((s.moveAll_touch g).settled.trans hset))

end

/-! ### The swap (R91) -/

section
variable {s : State} {t : Nat}

theorem exec_swapApplied_of_due (hat : s.play.swapAt = some t) (hdue : t ≤ s.now) : exec .swapApplied s =
    if s.canSwap && s.st == .ready then s.swapBanks.done else (s.modPlay (fun p => { p with swapAt := none })).done := by
  change execSwapApplied s = _
  unfold execSwapApplied
  rw [hat]
  exact if_neg (Nat.not_lt.2 hdue)

variable (s)

/-- The banks in their new places, before the cells are reviewed. -/
def State.banksSwapped : State :=
  (s.setSegs (s.segs.map (fun x => { x with shareActive := x.shareStaged, shareStaged := x.shareActive }))).modPlay
    (fun p => { p with
      active := p.staged, staged := p.active, bankNo := !p.bankNo, st := .armed, swapAt := none, swapStaged := false })

theorem State.swapBanks_reviewed : TouchM 16 s.banksSwapped s.swapBanks := State.reviewAll_touch (TouchM.refl 16 _) rfl

end

/-- Settles O41: answers, the end of the run, the missed deadline, the moves of a segment's cells, and the swap of banks. -/
theorem framesAndMoves : Obligations.FramesAndMoves := by
  refine ⟨fun s a rest hanswers hsource hcycling => ?answer, fun s a p hpending hseq hsol => ⟨?ack, ?derated, ?nak⟩,
    fun s => ⟨fun hst hover hzero => ?finishes, fun hnot => ?goesOn⟩, fun s p => exec_frameDeadline_of_late,
    fun s g hset hcycling hplay hlast hbefore => ?move, fun s t hat hdue => ⟨fun hcan hst => ?swaps, fun hnot hset => ?drops⟩,
    fun s => ?banks⟩
  case answer =>
    intro b
    have hexec := exec_frameAnswer_of_internal hanswers hsource hcycling (b := b) rfl
    constructor
    · intro hst hover hpending
      rw [hexec, if_pos (by simp [hst, hover, hpending])]
      rfl
    · intro hnot
      rw [hexec, if_neg ?_]
      · rfl
      · rcases hnot with h | h | h <;> simp [h]
  case ack => exact State.takeAnswer_ack hpending hseq hsol
  case derated => exact State.takeAnswer_derated hpending hseq hsol
  case nak =>
    intro hack hcause
    rw [State.takeAnswer_of_nak hack, if_neg hcause]
  case finishes =>
    have hend : s.tryFinish = s.finishRun := if_pos (by simp [hst, hover, hzero])
    rw [hend]
    exact s.finishRun_ready
  case goesOn =>
    refine if_neg ?_
    rcases hnot with h | h | h <;> simp [h]
  case move =>
    refine ⟨_, exec_rungMove_of_lastSlot hset hcycling hplay hlast hbefore, (s.moveAll_touch g).touch _, fun k => ?_⟩
    by_cases hk : segOf k = g
    · rw [s.moveAll_cells hk, State.afterMove]
      refine if_congr ?_ rfl rfl
      simp [State.decidesMove, hk, and_assoc]
    · rw [s.moveAll_cells_of_other hk, if_neg fun h => hk h.1]
  case swaps =>
    rw [exec_swapApplied_of_due hat hdue, if_pos (by simp [hcan, State.st, hst])]
    rfl
  case drops =>
    rw [exec_swapApplied_of_due hat hdue, if_neg (by rcases hnot with h | h <;> simp [State.st, h])]
    exact State.done_eq hset
  case banks =>
    have hplay : s.swapBanks.play = s.banksSwapped.play := s.swapBanks_reviewed.same .play rfl
    have hsegs : s.swapBanks.segs = s.banksSwapped.segs := s.swapBanks_reviewed.same .segs rfl
    rw [hplay, hsegs]
    refine ⟨rfl, rfl, rfl, rfl, fun g => ?_⟩
    have hseg : s.banksSwapped.segs.get g = _ := Vec.get_map _ _ _
    rw [hseg]
    exact ⟨rfl, rfl⟩

end Sys2Proof.Machine
end

section
/-!
PROOFS. The analysis engines (chapter 06): zero estimates, TALLY, snapshots, EDGE-R, the record store, and the obligation about
them.
-/

-- The proofs are elaborated one after another, which keeps the check of the whole text within its memory.
set_option Elab.async false

namespace Sys2Proof.Machine

/-! ### Zero estimates, TALLY and snapshots (R188, R190, R209, R211) -/

section
variable {s : State} {t : Nat}

/-- The zero estimates of the quiet 100 ms that began at t. -/
def State.zeroTaken (s : State) (t : Nat) : State := s.modRes (fun r => { r with
  zeroB := if r.quietNB = 0 then r.zeroB else some (divI r.quietSumB (r.quietNB : Int))
  zeroT := if r.quietNT = 0 then r.zeroT else some (divI r.quietSumT (r.quietNT : Int))
  zeroAt := some (t + 100000000), zeroRaised := false
  quietFrom := none, quietSumB := 0, quietSumT := 0, quietNB := 0, quietNT := 0 })

theorem exec_zeroEstimate_of_quiet (hset : s.settled = true) (hfrom : s.results.quietFrom = some t) (hon : s.anaOn = true)
    (hquiet : s.quiet = true) (hlong : t + 100000000 ≤ s.now) (hslots : t + 100000000 ≤ s.shunts.iSlot) :
    exec .zeroEstimate s = .next (s.zeroTaken t) := by
  change execZeroEstimate s = _
  unfold execZeroEstimate quietLen
  dsimp only
  rw [hfrom]
  exact (if_pos (by simp [hon, hquiet, hlong, hslots])).trans (State.done_eq hset)

theorem exec_zeroStale_of_old (hon : s.anaOn = true) (hat : s.results.zeroAt = some t)
    (hold : t + 3600000000000 * s.fld Fld.anaTallyCfgZeroMaxH < s.now) (hnew : s.results.zeroRaised = false) :
    exec .zeroStale s = .next ((s.modRes (fun r => { r with zeroRaised := true })).raise .zeroStale none none
      (word s.zeroAge) 0 0).settle := by
  have htoo : s.zeroTooOld = true := by simp [State.zeroTooOld, hat, hold]
  exact if_pos (by rw [hon, htoo, hnew]; rfl)

theorem exec_tally_of_due (hst : s.glb.st = .run) (hfrom : s.results.stepFrom ≠ none) (hperiod : s.results.params.period ≠ 0)
    (hdue : s.results.lastTally + 10000000 * s.results.params.period ≤ s.now) : exec .tally s =
      .next (each s.playedCells (fun x k => x.tallyRecord k (s.results.lastTally + 10000000 * s.results.params.period) false)
        (s.modRes (fun r => { r with lastTally := s.results.lastTally + 10000000 * s.results.params.period }))).settle := by
  refine if_pos ?_
  simp [State.inRun, State.st, hst, Option.isSome_iff_ne_none, hfrom, hperiod, hdue]

/-- A snapshot period has ended. -/
def State.snapDue (s : State) : Bool := 100000000 * s.fld Fld.anaTallyCfgSnapPeriod != 0 &&
  decide (s.results.lastSnap + 100000000 * s.fld Fld.anaTallyCfgSnapPeriod ≤ s.now)

theorem exec_cellSnapshot_of_on (hon : s.anaOn = true) : exec .cellSnapshot s =
    if s.snapDue || s.results.snapPending then ((s.snapshots (s.now / 1000 * 1000)).modRes (fun r => { r with
      lastSnap := if s.snapDue then s.now / 1000 * 1000 else r.lastSnap, snapPending := false })).done
    else s.done :=
  if_congr (by rw [hon, Bool.true_and]; exact Iff.rfl) rfl rfl

theorem State.snapDue_of_period (hperiod : 100000000 * s.fld Fld.anaTallyCfgSnapPeriod ≠ 0)
    (hdue : s.results.lastSnap + 100000000 * s.fld Fld.anaTallyCfgSnapPeriod ≤ s.now) : s.snapDue = true := by
  rw [State.snapDue, bne_iff_ne.2 hperiod, decide_eq_true hdue]
  rfl

theorem State.snapDue_of_not (h : 100000000 * s.fld Fld.anaTallyCfgSnapPeriod = 0 ∨
    s.now < s.results.lastSnap + 100000000 * s.fld Fld.anaTallyCfgSnapPeriod) : s.snapDue = false := by
  unfold State.snapDue
  generalize 100000000 * s.fld Fld.anaTallyCfgSnapPeriod = p at h
  rcases h with rfl | h
  · rfl
  · rw [decide_eq_false (Nat.not_le.2 h), Bool.and_false]

/-- SNAP_NOW alone leaves the time of the latest periodic snapshot. -/
theorem exec_cellSnapshot_of_asked (hon : s.anaOn = true) (hpending : s.results.snapPending = true)
    (hnot : 100000000 * s.fld Fld.anaTallyCfgSnapPeriod = 0 ∨
      s.now < s.results.lastSnap + 100000000 * s.fld Fld.anaTallyCfgSnapPeriod) : exec .cellSnapshot s =
      .next ((s.snapshots (s.now / 1000 * 1000)).modRes (fun r => { r with snapPending := false })).settle := by
  rw [exec_cellSnapshot_of_on hon, State.snapDue_of_not hnot, hpending]
  generalize s.snapshots (s.now / 1000 * 1000) = a
  rfl

end

/-! ### EDGE-R (R186, R194, R195) -/

section
variable (s : State) (k : Cell)

/-- The oldest burst of a cell is taken. -/
def State.takeBurst (rest : List Burst) : State := s.modAna k (fun a => { a with bursts := rest })

/-- A disturbed edge is counted. -/
def State.countDisturbed (out : Bool) : State := s.modAna k (fun a =>
  if out then { a with rDistOut := a.rDistOut + 1 } else { a with rDistIn := a.rDistIn + 1 })

/-- The values of a usable edge are kept for the record of its direction. -/
def State.keepEdge (out : Bool) (p : EdgeParams) (v : EdgeVal) : State := s.modAna k (fun a =>
  if out then { a with rOut := a.rOut ++ [v], pOut := p } else { a with rIn := a.rIn ++ [v], pIn := p })

/-- How many values a direction has. -/
def State.edgesKept (out : Bool) : Nat := if out then (s.ana.get k).rOut.length else (s.ana.get k).rIn.length

/-- The current over an edge is too small for a value. -/
def tooSmall (iMin : Nat) (i : List Int) : Bool :=
  decide (sumInt (i.map (fun x => (x.natAbs : Int))) < (iMin : Int) * i.length) || sumInt i == 0

/-- A usable edge is kept; with the last one of a record the record is due. -/
def State.edgeKept (out : Bool) (p : EdgeParams) (v : EdgeVal) : State :=
  if 2 ^ p.nLog2 ≤ (s.keepEdge k out p v).edgesKept k out then (s.keepEdge k out p v).edgeRecord k out false
  else s.keepEdge k out p v

/-- What EDGE_R does with a burst of a cell that it runs on. -/
def State.edgeTaken (b : Burst) (out : Bool) (p : EdgeParams) : State :=
  if b.disturbed then s.countDisturbed k out
  else match s.currentOver b.edge.tx (b.edge.tx + 1000 * p.t1) with
    | none => s
    | some i => if tooSmall p.iMin i then s else s.edgeKept k out p (edgeVal b p.t1 i)

theorem State.takeBurst_ana (rest : List Burst) : (s.takeBurst k rest).ana.get k = { s.ana.get k with bursts := rest } :=
  Vec.get_modify_self _ _ _

theorem State.keepEdge_edgesKept (out : Bool) (p : EdgeParams) (v : EdgeVal) :
    (s.keepEdge k out p v).edgesKept k out = s.edgesKept k out + 1 := by
  have hana : (s.keepEdge k out p v).ana.get k = _ := Vec.get_modify_self _ _ _
  cases out
  case false => simp [State.edgesKept, hana]
  case true => simp [State.edgesKept, hana]

variable {s k}

/-- The record that is begun goes on, or the kernel runs now. -/
theorem State.edgeRuns_takeBurst {rest : List Burst} {out : Bool}
    (h : (if out then (s.ana.get k).rOut else (s.ana.get k).rIn) ≠ [] ∨ s.kernelsNow.getLsbD 1 = true) :
    (s.takeBurst k rest).edgeRuns k out = true := by
  have hkernels : (s.takeBurst k rest).kernelsNow = s.kernelsNow := rfl
  rw [State.edgeRuns, State.takeBurst_ana, hkernels]
  rcases h with h | h
  · simp [h]
  · simp [h]

theorem exec_edgeR_of_runs {b : Burst} {rest : List Burst} (hbursts : (s.ana.get k).bursts = b :: rest)
    (hst : s.glb.st = .run)
    (hruns : (if outward b.edge then (s.ana.get k).rOut else (s.ana.get k).rIn) ≠ [] ∨ s.kernelsNow.getLsbD 1 = true)
    (hon : s.anaOn = true) (hplayed : s.played k = true) (hcls : b.edge.cls ≠ .low) :
    exec (.edgeR k) s = ((s.takeBurst k rest).edgeTaken k b (outward b.edge)
      ((s.takeBurst k rest).burstParams k (outward b.edge))).done := by
  have hjudged : ¬(!(s.takeBurst k rest).inRun || !(s.takeBurst k rest).edgeRuns k (outward b.edge) ||
      !(s.takeBurst k rest).anaOn || !(s.takeBurst k rest).played k || b.edge.cls == .low) = true := by
    have hrun : (s.takeBurst k rest).inRun = true := beq_iff_eq.2 hst
    have hon' : (s.takeBurst k rest).anaOn = true := hon
    have hplayed' : (s.takeBurst k rest).played k = true := hplayed
    simp [hrun, State.edgeRuns_takeBurst hruns, hon', hplayed', hcls]
  change execEdgeR k s = _
  unfold execEdgeR
  rw [hbursts]
  refine (if_neg hjudged).trans ?_
  have htaken : s.modAna k (fun a => { a with bursts := rest }) = s.takeBurst k rest := rfl
  rw [htaken]
  generalize s.takeBurst k rest = a
  unfold State.edgeTaken
  cases b.disturbed
  case true => rfl
  case false =>
    cases a.currentOver b.edge.tx (b.edge.tx + 1000 * (a.burstParams k (outward b.edge)).t1) with
    | none => rfl
    | some i => exact (apply_ite State.done _ _ _).symm

end

section
variable {s : State} {k : Cell} {b : Burst} {out : Bool} {p : EdgeParams} {i : List Int}

theorem tooSmall_of_large {iMin : Nat} (hlarge : (iMin : Int) * i.length ≤ sumInt (i.map (fun x => (x.natAbs : Int))))
    (hsum : sumInt i ≠ 0) : tooSmall iMin i = false := by
  rw [tooSmall, decide_eq_false (Int.not_lt.2 hlarge), beq_eq_false_iff_ne.2 hsum]
  rfl

theorem State.edgeTaken_of_disturbed (hdist : b.disturbed = true) : s.edgeTaken k b out p = s.countDisturbed k out :=
  if_pos hdist

theorem State.edgeTaken_of_known (hdist : b.disturbed = false)
    (hcur : s.currentOver b.edge.tx (b.edge.tx + 1000 * p.t1) = some i) : s.edgeTaken k b out p =
      if tooSmall p.iMin i then s else s.edgeKept k out p (edgeVal b p.t1 i) := by
  unfold State.edgeTaken
  rw [hdist, hcur]
  rfl

theorem State.edgeTaken_of_large (hdist : b.disturbed = false)
    (hcur : s.currentOver b.edge.tx (b.edge.tx + 1000 * p.t1) = some i) (hlarge : tooSmall p.iMin i = false) :
    s.edgeTaken k b out p = s.edgeKept k out p (edgeVal b p.t1 i) := by
  rw [State.edgeTaken_of_known hdist hcur, hlarge]
  rfl

theorem State.edgeTaken_of_small (hdist : b.disturbed = false)
    (hcur : s.currentOver b.edge.tx (b.edge.tx + 1000 * p.t1) = some i)
    (hsmall : sumInt (i.map (fun x => (x.natAbs : Int))) < (p.iMin : Int) * i.length) : s.edgeTaken k b out p = s := by
  rw [State.edgeTaken_of_known hdist hcur, tooSmall, decide_eq_true hsmall]
  rfl

theorem State.edgeKept_of_last {v : EdgeVal} (h : 2 ^ p.nLog2 ≤ s.edgesKept k out + 1) :
    s.edgeKept k out p v = (s.keepEdge k out p v).edgeRecord k out false := by
  rw [State.edgeKept, State.keepEdge_edgesKept, if_pos h]

theorem State.edgeKept_of_more {v : EdgeVal} (h : s.edgesKept k out + 1 < 2 ^ p.nLog2) :
    s.edgeKept k out p v = s.keepEdge k out p v := by
  rw [State.edgeKept, State.keepEdge_edgesKept, if_neg (Nat.not_le.2 h)]

end

/-! ### The record store (R206, R207) -/

section
variable (s : State)

/-- A change of a slot's delivery that leaves its record. -/
structure KeepsRecord (f : Slot → Slot) : Prop where
  record : ∀ x, (f x).record = x.record
  retired : ∀ x, (f x).retired = x.retired

/-- A delivery changes at most how often and whether its slot has been delivered. -/
theorem State.deliverSlot_results (i : Nat) : (s.deliverSlot i).results = s.results ∨
    ∃ f, KeepsRecord f ∧ (s.deliverSlot i).results = (s.modSlot i f).results := by
  have hmod {a b : State} (f : Slot → Slot) (h : a.results = b.results) : (a.modSlot i f).results = (b.modSlot i f).results :=
    congrArg (fun r : Ana => { r with slots := r.slots.map (fun e : Nat × Slot => if e.1 = i then (i, f e.2) else e) }) h
  unfold State.deliverSlot
  split
  · exact .inl rfl
  · split
    · split
      · exact .inl rfl
      · split
        · exact .inl rfl
        · next t hplaced =>
          have hresults : t.results = s.results :=
            (State.placeEntry_touchEq hplaced (TouchM.refl 34078720 s)).same .results rfl
          refine .inr ⟨fun x => { x with placed := true, reads := satAdd 255 x.reads 1, sentAt := t.now },
            ⟨fun _ => rfl, fun _ => rfl⟩, Eq.trans ?_ (hmod _ hresults)⟩
          dsimp only
          split
          · exact (State.sweepPlaced_touch (TouchM.refl 34144256 _) _ _).same .results rfl
          · rfl
    · dsimp only
      refine .inr ⟨_, ?_, hmod _ ((State.toHead_touch (TouchM.refl 33619968 s) _ _ _ _ rfl).same .results rfl)⟩
      exact ⟨fun _ => rfl, fun _ => rfl⟩

theorem find?_mapSlot {l : List (Nat × Slot)} {i : Nat} {x : Slot} (f : Slot → Slot) (h : find? l i = some x) :
    find? (l.map (fun e => if e.1 = i then (i, f e.2) else e)) i = some (f x) := by
  induction l with
  | nil => exact absurd h (by simp [find?])
  | cons e l ih =>
    by_cases he : e.1 = i
    · simp only [find?, if_pos he, List.map_cons, if_true] at h ⊢
      rw [Option.some.inj h]
    · simp only [find?, if_neg he, List.map_cons] at h ⊢
      exact ih h

/-- What a delivery leaves of a record that is stored. -/
theorem State.deliverSlot_stored (i : Nat) : (s.deliverSlot i).results.nextSeq = s.results.nextSeq ∧
    (s.deliverSlot i).results.drops = s.results.drops ∧ ∀ x, find? s.results.slots i = some x →
      ∃ y, find? (s.deliverSlot i).results.slots i = some y ∧ y.record = x.record ∧ y.retired = x.retired := by
  rcases s.deliverSlot_results i with h | ⟨f, hf, h⟩
  · rw [h]
    exact ⟨rfl, rfl, fun x hx => ⟨x, hx, rfl, rfl⟩⟩
  · rw [h]
    exact ⟨rfl, rfl, fun x hx => ⟨f x, find?_mapSlot f hx, hf.record x, hf.retired x⟩⟩

variable (kind : Nat) (flags : BitVec 8) (cell dist time sweepId : Nat) (payload : List Byte)

/-- The record that is stored next. -/
def State.nextRecord : Record :=
  { kind := kind, flags := flags, gen := generation s.results.nextSeq, cell := cell, dist := Nat.min dist 255,
    time := time, seq := s.results.nextSeq, stepId := s.play.stepId, sweepId := sweepId, origin := s.loop.position,
    stepIndex := s.play.step, flaconId := s.activeId, payload := payload }

/-- The record lies in its slot. -/
def State.recordStored (r : Record) : State := s.modRes (fun a => { a with
  nextSeq := (s.results.nextSeq + 1) % 2 ^ 32
  slots := assign a.slots (s.results.nextSeq % 16384) ⟨r, 0, false, false, s.now⟩ })

/-- The slot of the next record holds one that is not retired. -/
def State.slotBusy : Bool :=
  match find? s.results.slots (s.results.nextSeq % 16384) with
  | some x => !x.retired
  | none => false

theorem State.putRecord_of_full (h : s.dropLevel kind ≤ s.unretired) :
    s.putRecord kind flags cell dist time sweepId payload = s.modRes (fun a => { a with
      drops := satAdd 0xFFFF a.drops 1, dropDue := a.dropDue || !a.fullEpisode, fullEpisode := true }) :=
  if_pos (by rw [decide_eq_true h, Bool.true_or])

theorem State.putRecord_of_room (hroom : s.unretired < s.dropLevel kind) (hslot : s.slotBusy = false) :
    s.putRecord kind flags cell dist time sweepId payload =
      (s.recordStored (s.nextRecord kind flags cell dist time sweepId payload)).deliverSlot (s.results.nextSeq % 16384) := by
  have hfree : ¬(decide (s.dropLevel kind ≤ s.unretired) || s.slotBusy) = true := by
    rw [hslot, Bool.or_false, decide_eq_true_eq]
    exact Nat.not_le.2 hroom
  exact if_neg hfree

variable {s} in
theorem State.slotBusy_of_retired
    (h : ∀ x, find? s.results.slots (s.results.nextSeq % 16384) = some x → x.retired = true) : s.slotBusy = false := by
  unfold State.slotBusy
  split
  · next x hx => rw [h x hx]; rfl
  · rfl

end

/-- Settles O44: the zero estimates and their age, the two kinds of periodic records, EDGE-R by what its burst shows, and the
record that is stored or dropped. -/
theorem analysisEngines : Obligations.AnalysisEngines := by
  refine ⟨fun s t => exec_zeroEstimate_of_quiet, fun s t => exec_zeroStale_of_old, fun s => exec_tally_of_due,
    fun s hon => ⟨fun hperiod hdue => ?snapshot,
      fun hpending hnot => exec_cellSnapshot_of_asked hon hpending hnot, fun hpending hnot hset => ?idle⟩,
    fun s k b rest hbursts hst => ?edge,
    fun s kind cell dist time sweepId flags payload => ⟨fun hfull => ?dropped, fun hroom hslot => ?stored⟩⟩
  case snapshot =>
    have hsnap := State.snapDue_of_period hperiod hdue
    rw [exec_cellSnapshot_of_on hon, hsnap]
    rfl
  case idle =>
    rw [exec_cellSnapshot_of_on hon, State.snapDue_of_not hnot, hpending]
    exact State.done_eq hset
  case edge =>
    intro out hruns hon hplayed hcls a p
    rw [exec_edgeR_of_runs hbursts hst hruns hon hplayed hcls]
    refine ⟨fun hdist hset => ?_, fun i hdist hcur hlarge hsum => ?_, fun i hdist hcur hsmall hset => ?_⟩
    · exact (congrArg State.done (State.edgeTaken_of_disturbed hdist)).trans (State.done_eq hset)
    · have htaken := State.edgeTaken_of_large (p := p) (out := out) (s := a) (k := k) hdist hcur (tooSmall_of_large hlarge hsum)
      have hkept : (s.takeBurst k rest).edgesKept k out = if out then (s.ana.get k).rOut.length else (s.ana.get k).rIn.length := by
        rw [State.edgesKept, State.takeBurst_ana]
      refine ⟨fun hlast => (congrArg State.done htaken).trans ?_, fun hmore hset => (congrArg State.done htaken).trans ?_⟩
      · have hcount : 2 ^ p.nLog2 ≤ (s.takeBurst k rest).edgesKept k out + 1 := by
          rw [hkept]
          cases hout : out <;> simpa [hout] using hlast
        exact congrArg State.done (State.edgeKept_of_last hcount)
      · have hcount : (s.takeBurst k rest).edgesKept k out + 1 < 2 ^ p.nLog2 := by
          rw [hkept]
          cases hout : out <;> simpa [hout] using hmore
        exact (congrArg State.done (State.edgeKept_of_more hcount)).trans (State.done_eq hset)
    · exact (congrArg State.done (State.edgeTaken_of_small hdist hcur hsmall)).trans (State.done_eq hset)
  case dropped => exact s.putRecord_of_full kind flags cell dist time sweepId payload hfull
  case stored =>
    have heq := s.putRecord_of_room kind flags cell dist time sweepId payload hroom (State.slotBusy_of_retired hslot)
    obtain ⟨hseq, hdrops, hkept⟩ := State.deliverSlot_stored (s.recordStored (s.nextRecord kind flags cell dist time sweepId
      payload)) (s.results.nextSeq % 16384)
    obtain ⟨y, hy, hrecord, hretired⟩ := hkept _ (find?_assign_self _ _ _)
    rw [heq]
    refine ⟨hseq, hdrops, y, hy, ?_⟩
    rw [hrecord, hretired]
    exact ⟨rfl, rfl, rfl, rfl, rfl, rfl, rfl⟩

end Sys2Proof.Machine
end

section
/-!
PROOFS. Power states, and DRYDOWN's entry and exit (chapter 07): the choice of a state, the segments brought to patrol mode, the
end of the exit, and the obligation about them.
-/

-- The proofs are elaborated one after another, which keeps the check of the whole text within its memory.
set_option Elab.async false

namespace Sys2Proof.Machine

/-! ### The choice of a power state (R217) -/

section
variable (s : State)

theorem State.blockOf_eq_zero_iff (p : PowerState) : s.blockOf p = 0 ↔ ∀ n, 1 ≤ n → n ≤ 11 → s.condition p n = true := by
  unfold State.blockOf
  cases hfind : (List.range 11).find? (fun i => !s.condition p (i + 1)) with
  | none =>
    simp only [Option.elim_none, true_iff]
    intro n hlow hhigh
    have hnone := List.find?_eq_none.1 hfind (n - 1) (List.mem_range.2 (by omega))
    rw [Nat.sub_add_cancel hlow] at hnone
    simpa using hnone
  | some i =>
    simp only [Option.elim_some, Nat.add_eq_zero_iff, one_ne_zero, and_false, false_iff]
    intro hall
    have hfails := List.find?_some hfind
    have hin := List.mem_range.1 (List.mem_of_find?_eq_some hfind)
    rw [hall (i + 1) (by omega) (by omega)] at hfails
    exact absurd hfails (by decide)

/-- What keeps the module out of the next deeper state is noted. -/
def State.noteBlock (p : PowerState) : State := s.modPwr (fun x => { x with block := s.blockAt p })

/-- An entry to DRYDOWN begins. -/
def State.beginEntry : State :=
  (each (allSegs.filter s.linkUp) (fun s g => s.sendDown g (.cmd .patrolEntry)) s).abortSlice.modPwr (fun x => { x with
    changing := true, going := some .drydown })

variable {s}

/-- In READY with no change under way the deepest state is entered at once, but for DRYDOWN. -/
theorem State.evaluatePower_of_free (hst : s.glb.st = .ready) (hexit : s.pwr.exitFrom = none) (hgoing : s.pwr.going = none) :
    s.evaluatePower = match s.deepest with
      | .drydown => (s.noteBlock .drydown).beginEntry
      | .doze => (s.noteBlock .doze).abortSlice.setPower .doze
      | .idle => (s.noteBlock .idle).setPower .idle
      | .active => (s.noteBlock .active).setPower .active := by
  have hfree (p : PowerState) : ¬((s.noteBlock p).st != .ready || (s.noteBlock p).pwr.exitFrom.isSome) = true := by
    have hready : (s.noteBlock p).st = .ready := hst
    have hstays : (s.noteBlock p).pwr.exitFrom = none := hexit
    simp [hready, hstays]
  have hnone (p : PowerState) : (s.noteBlock p).pwr.going = none := hgoing
  have hnoEntry (p : PowerState) : ¬(s.noteBlock p).pwr.going.isSome = true := by simp [hnone]
  have hnoDrydown (p : PowerState) : ¬((s.noteBlock p).pwr.going == some .drydown) = true := by simp [hnone]
  refine (if_neg (hfree _)).trans ?_
  cases s.deepest
  case active => exact if_neg (hnoEntry _)
  case idle => exact if_neg (hnoEntry _)
  case doze => exact if_neg (hnoEntry _)
  case drydown => exact if_neg (hnoDrydown _)

theorem State.beginEntry_pwr (s : State) : s.beginEntry.pwr = { s.pwr with changing := true, going := some .drydown } := by
  have htouch : TouchM 37296688 s (each (allSegs.filter s.linkUp) (fun s g => s.sendDown g (.cmd .patrolEntry)) s).abortSlice :=
    State.abortSlice_touch (each_touch _ (TouchM.refl _ s) fun _ g h => State.sendDown_touch h g _ rfl) rfl
  have hpwr := htouch.same .pwr rfl
  rw [State.beginEntry, State.modPwr_pwr, hpwr]

theorem State.allDomains_of_glb {a s : State} (h : a.glb = s.glb) : a.allDomains = s.allDomains := by
  rw [State.allDomains, State.isHead, h]
  rfl

theorem State.hubForce_of_touch {a s : State} (h : TouchM 37329584 s a) : a.hubForce = s.hubForce := by
  rw [State.hubForce, h.fld, State.allDomains_of_glb (h.same .glb rfl)]
  rfl

/-- The state, its domains and those in retention follow the choice. -/
theorem State.setPower_pwr (s : State) (p : PowerState) : (s.setPower p).pwr =
    { s.pwr with st := p, hubOn := (s.domainsIn p).1, hubRet := (s.domainsIn p).2 } := by
  have hsame {a : State} (ha : TouchM 37296688 s a) : a.pwr = s.pwr ∧ a.domainsIn p = s.domainsIn p := by
    have hdomains := State.allDomains_of_glb (ha.same .glb rfl)
    have hforce := State.hubForce_of_touch ((TouchM.refl 37329584 s).then ha rfl)
    refine ⟨ha.same .pwr rfl, ?_⟩
    cases p <;> simp only [State.domainsIn, hdomains, hforce]
  unfold State.setPower
  split
  · rfl
  · obtain ⟨hpwr, hdomains⟩ := hsame (State.abortSlice_touch (TouchM.refl 37296688 s) rfl)
    simp only [State.modPwr_pwr, hpwr, hdomains]

end

/-! ### Segments to patrol mode (R220, R224, R239) -/

section
variable (s : State) (g : Seg) (first : Nat)

/-- The link of a segment that goes to patrol mode. -/
def State.parkLink : State := (s.captureWindow g).modLink g (fun l => { l with
  st := match l.st with
    | .up | .single => .patrol
    | .training | .lost | .down => .down
    | .patrol => .patrol
  beacon := none })

/-- The segment itself, with its drivers and converters off unless forced, and its timer started. -/
def State.parkSeg (f : Bool) : State := (s.modSeg g (fun x => { x with
  st := .patrol, smeas := f, sdrv := f, patrolAt := some first, windowAt := none, suspect := none, suspects := []
  confirming := false, counted := [], keeper := { x.keeper with holding := x.keeper.holding || !f } })).startTimer g

/-- The keeper holds the gates. -/
def State.holdGates : State :=
  each (cellsOf g) (fun s k => s.modCell k (fun c => { c with keepHold := true, gates := s2on })) s

theorem State.segToPatrol_eq : s.segToPatrol g first =
    if s.linkUp g then
      if (s.parkLink g).segForce g then (s.parkLink g).parkSeg g first ((s.parkLink g).segForce g)
      else ((s.parkLink g).parkSeg g first ((s.parkLink g).segForce g)).holdGates g
    else s.parkLink g := rfl

theorem State.holdGates_touch : TouchM 16 s (s.holdGates g) :=
  each_touch _ (TouchM.refl 16 s) fun _ k h => State.modCell_touch h k _ rfl

theorem State.parkLink_touch : TouchM 512 s (s.parkLink g) :=
  State.modLink_touch (State.captureWindow_touch (TouchM.refl _ s) g rfl) g _ rfl

theorem State.captureWindow_link_ne {h : Seg} (hne : h ≠ g) : (s.captureWindow h).links.get g = s.links.get g := by
  unfold State.captureWindow
  split
  · exact Vec.get_modify_ne _ _ hne
  · rfl

theorem State.captureWindow_link_st : ((s.captureWindow g).links.get g).st = (s.links.get g).st := by
  unfold State.captureWindow
  split
  · rw [State.modLink_links, Vec.get_modify_self]
  · rfl

theorem State.parkLink_link_ne {h : Seg} (hne : h ≠ g) : (s.parkLink h).links.get g = s.links.get g :=
  (Vec.get_modify_ne _ _ hne).trans (s.captureWindow_link_ne g hne)

theorem State.parkLink_of_up (hup : (s.links.get g).st = .up) : ((s.parkLink g).links.get g).st = .patrol := by
  have hlink : (s.parkLink g).links.get g = _ := Vec.get_modify_self _ _ _
  rw [hlink]
  dsimp only
  rw [s.captureWindow_link_st, hup]

theorem State.parkSeg_links (f : Bool) : (s.parkSeg g first f).links = s.links := rfl

theorem State.parkSeg_seg_ne (f : Bool) {h : Seg} (hne : h ≠ g) : (s.parkSeg h first f).segs.get g = s.segs.get g :=
  (Vec.get_modify_ne _ _ hne).trans (Vec.get_modify_ne _ _ hne)

/-- The segment is in patrol mode, with its first patrol at a time. -/
structure InPatrol (f : Bool) (x : Segment) : Prop where
  st : x.st = .patrol
  patrolAt : x.patrolAt = some first
  smeas : x.smeas = f
  sdrv : x.sdrv = f
  windowAt : x.windowAt = none

theorem State.startTimer_seg : ∃ from_ ppb, (s.startTimer g).segs.get g =
    { s.segs.get g with timerFrom := from_, timerPpb := ppb } := ⟨_, _, Vec.get_modify_self _ _ _⟩

theorem State.parkSeg_seg (f : Bool) : InPatrol first f ((s.parkSeg g first f).segs.get g) := by
  rw [State.parkSeg]
  obtain ⟨from_, ppb, hseg⟩ := State.startTimer_seg (s.modSeg g _) g
  rw [hseg, State.modSeg_segs, Vec.get_modify_self]
  exact ⟨rfl, rfl, rfl, rfl, rfl⟩

variable {s g}

theorem State.segForce_of_touch {a : State} {m : Nat} (h : TouchM m s a) (hr : m.testBit 3 = false := by rfl) :
    a.segForce g = s.segForce g := by
  rw [State.segForce, h.fld _ hr]
  rfl

/-- A segment whose link is up is brought to patrol mode in its turn. -/
theorem State.segToPatrol_of_up (hup : (s.links.get g).st = .up) :
    InPatrol first (s.segForce g) ((s.segToPatrol g first).segs.get g) ∧
      ((s.segToPatrol g first).links.get g).st = .patrol := by
  have hlinkUp : s.linkUp g = true := by rw [State.linkUp, hup]
  have hforce := State.segForce_of_touch (g := g) (s.parkLink_touch g)
  have hlink := s.parkLink_of_up g hup
  have hseg := (s.parkLink g).parkSeg_seg g first (s.segForce g)
  rw [State.segToPatrol_eq, if_pos hlinkUp, hforce]
  split
  · exact ⟨hseg, hlink⟩
  · have hheld := ((s.parkLink g).parkSeg g first (s.segForce g)).holdGates_touch g
    rw [hheld.same .segs rfl, hheld.same .links rfl]
    exact ⟨hseg, hlink⟩

/-- The other segments' turns leave it. -/
theorem State.segToPatrol_ne {h : Seg} (hne : h ≠ g) : (s.segToPatrol h first).segs.get g = s.segs.get g ∧
    (s.segToPatrol h first).links.get g = s.links.get g := by
  have hlink := s.parkLink_link_ne g hne
  have hsegs : (s.parkLink h).segs = s.segs := (s.parkLink_touch h).same .segs rfl
  have hseg (f : Bool) : ((s.parkLink h).parkSeg h first f).segs.get g = s.segs.get g :=
    ((s.parkLink h).parkSeg_seg_ne g first f hne).trans (congrArg (fun v => Vec.get v g) hsegs)
  rw [State.segToPatrol_eq]
  split
  · split
    · exact ⟨hseg _, hlink⟩
    · have hheld := ((s.parkLink h).parkSeg h first ((s.parkLink h).segForce h)).holdGates_touch h
      rw [hheld.same .segs rfl, hheld.same .links rfl]
      exact ⟨hseg _, hlink⟩
  · exact ⟨congrArg (fun v => Vec.get v g) hsegs, hlink⟩

variable (s)

/-- Every segment in turn. -/
def State.allToPatrol : State := each allSegs (fun s g => s.segToPatrol g first) s

theorem State.allToPatrol_touch : TouchM 67109648 s (s.allToPatrol first) :=
  each_touch _ (TouchM.refl _ s) fun _ g h => State.segToPatrol_touch h g first rfl

variable {s}

theorem State.allToPatrol_of_up (hup : (s.links.get g).st = .up) :
    InPatrol first (s.segForce g) ((s.allToPatrol first).segs.get g) ∧ ((s.allToPatrol first).links.get g).st = .patrol := by
  refine each_allSegs (g := g) (f := fun s g => s.segToPatrol g first)
    (P := fun u => (u.links.get g).st = .up ∧ u.segForce g = s.segForce g)
    (Q := fun u => InPatrol first (s.segForce g) (u.segs.get g) ∧ (u.links.get g).st = .patrol)
    (fun u h hne hu => ?before) (fun u hu => ?own) (fun u h hne hu => ?after) ⟨hup, rfl⟩
  case before =>
    obtain ⟨hlink, hforce⟩ := hu
    rw [(State.segToPatrol_ne first hne).2]
    exact ⟨hlink, (State.segForce_of_touch (State.segToPatrol_touch (TouchM.refl 67109648 u) h first rfl)).trans hforce⟩
  case own =>
    obtain ⟨hlink, hforce⟩ := hu
    rw [← hforce]
    exact State.segToPatrol_of_up first hlink
  case after =>
    obtain ⟨hseg, hlink⟩ := State.segToPatrol_ne (s := u) first hne
    rwa [hseg, hlink]

end

/-! ### DRYDOWN is entered (R220) -/

section
variable (s : State)

/-- The module as DRYDOWN begins: the slice preempted, the stage off, its domains off. -/
def State.atDrydown : State := (s.abortSlice.stageOff.enter .drydown).setPower .drydown

/-- The stay begins. -/
def State.beginStay (first : Nat) : State := s.modPwr (fun p => { p with
  changing := false, going := none, block := 0, tFirst := first, patrolNo := 0, reported := 0, anomalies := [], anCount := 0 })

/-- The module in DRYDOWN. -/
def State.inDrydown : State := (s.atDrydown.beginStay (firstSecond s.now)).copyDrydown.allToPatrol (firstSecond s.now)

variable {s}

theorem exec_drydownEntered_of_going (hst : s.glb.st = .ready) (hgoing : s.pwr.going = some .drydown) :
    exec .drydownEntered s = if s.blockOf .drydown != 0 then s.stopEntry.done else s.inDrydown.done := by
  refine if_neg ?_
  simp [State.st, hst, hgoing]

theorem State.stopEntry_of_going (hgoing : s.pwr.going = some .drydown) :
    s.stopEntry = s.modPwr (fun p => { p with going := none, exitFrom := some s.now }) :=
  if_pos (by rw [hgoing]; rfl)

variable (s)

theorem State.inDrydown_touch : TouchM 67109648 (s.atDrydown.beginStay (firstSecond s.now)) s.inDrydown :=
  ((TouchM.refl _ _).then (State.copyDrydown_touch (TouchM.refl 256 _) rfl) rfl).then (State.allToPatrol_touch _ _) rfl

theorem State.atDrydown_touch : TouchM 37329462 s s.atDrydown :=
  State.setPower_touch (State.enter_touch (State.stageOff_touch (State.abortSlice_touch (TouchM.refl _ s) rfl) rfl) _ rfl) _ rfl

theorem State.atDrydown_pwr : s.atDrydown.pwr.st = .drydown := by
  rw [State.atDrydown, State.setPower_pwr]

theorem State.atDrydown_entered : TouchM 37329456 (s.abortSlice.stageOff.enter .drydown) s.atDrydown :=
  State.setPower_touch (TouchM.refl _ _) _ rfl

/-- What the hub's part of the state shows in DRYDOWN. -/
theorem State.inDrydown_hub : s.inDrydown.glb.st = .drydown ∧ s.inDrydown.pwr.st = .drydown ∧ s.inDrydown.pwr.going = none ∧
    s.inDrydown.pwr.changing = false ∧ s.inDrydown.pwr.tFirst = firstSecond s.now ∧ s.inDrydown.pins.phEnHigh = true := by
  have hglb : s.inDrydown.glb = s.atDrydown.glb := s.inDrydown_touch.same .glb rfl
  have hpwr : s.inDrydown.pwr = (s.atDrydown.beginStay (firstSecond s.now)).pwr := s.inDrydown_touch.same .pwr rfl
  have hpins : s.inDrydown.pins = s.atDrydown.pins := s.inDrydown_touch.same .pins rfl
  rw [hglb, hpwr, hpins, s.atDrydown_entered.same .glb rfl, s.atDrydown_entered.same .pins rfl]
  exact ⟨rfl, s.atDrydown_pwr, rfl, rfl, rfl, rfl⟩

theorem State.inDrydown_seg {g : Seg} (hup : (s.atDrydown.links.get g).st = .up) :
    InPatrol (firstSecond s.now) (s.segForce g) (s.inDrydown.segs.get g) ∧ (s.inDrydown.links.get g).st = .patrol := by
  have hcopy := State.copyDrydown_touch (TouchM.refl 256 (s.atDrydown.beginStay (firstSecond s.now))) rfl
  have hlinks : (s.atDrydown.beginStay (firstSecond s.now)).copyDrydown.links = s.atDrydown.links := hcopy.same .links rfl
  have hforce : (s.atDrydown.beginStay (firstSecond s.now)).copyDrydown.segForce g = s.segForce g :=
    (State.segForce_of_touch hcopy).trans (State.segForce_of_touch (State.modPwr_touch s.atDrydown_touch _ rfl))
  rw [← hforce]
  exact State.allToPatrol_of_up _ (by rw [hlinks]; exact hup)

end

/-! ### DRYDOWN is left (R220, R221) -/

section
variable {s : State}

theorem exec_drydownExit_of_ready (hexit : s.pwr.exitFrom ≠ none) (hst : s.glb.st = .ready) : exec .drydownExit s =
    .next (((s.modPwr (fun p => { p with changing := false, exitFrom := none })).setPower .active).answerWakes .ok).settle := by
  have hends : ¬(s.pwr.exitFrom.isNone || !s.exitReady) = true := by
    simp [hexit, State.exitReady, State.st, hst]
  change execDrydownExit s = _
  unfold execDrydownExit
  rw [if_neg hends]
  dsimp only
  have hst' : (s.modPwr (fun p => { p with changing := false })).st = .ready := hst
  rw [hst']
  rfl

theorem State.exitReady_iff (hst : s.glb.st = .drydown) : s.exitReady = true ↔
    ∀ g, s.linkUp g = true ∨ (s.segs.get g).st = .unpowered ∨ (s.links.get g).trainRaised = true := by
  simp [State.exitReady, State.st, hst, allSegs, indices, or_assoc]

/-- The exit waits for a segment that has a supply and is not yet back. -/
theorem exec_drydownExit_of_waits (hset : s.settled = true) (hready : s.exitReady = false) :
    exec .drydownExit s = .next s :=
  (if_pos (by rw [hready, Bool.not_false, Bool.or_true])).trans (State.done_eq hset)

/-- The module back in READY, its WAKE commands still to be answered. -/
def State.outOfDrydown (s : State) : State :=
  ((s.modPwr (fun p => { p with changing := false })).enter .ready).drydownLeft.modBist (fun b => { b with slowDue := true })

theorem State.outOfDrydown_touch (s : State) :
    TouchM 37331744 ((s.modPwr (fun p => { p with changing := false })).enter .ready) s.outOfDrydown :=
  State.modBist_touch (State.drydownLeft_touch (TouchM.refl _ _) rfl) _ rfl

theorem exec_drydownExit_of_drydown (hexit : s.pwr.exitFrom ≠ none) (hst : s.glb.st = .drydown) (hready : s.exitReady = true) :
    exec .drydownExit s = .next (s.outOfDrydown.answerWakes .ok).settle := by
  have hends : ¬(s.pwr.exitFrom.isNone || !s.exitReady) = true := by
    simp [hexit, hready]
  change execDrydownExit s = _
  unfold execDrydownExit
  rw [if_neg hends]
  dsimp only
  have hst' : (s.modPwr (fun p => { p with changing := false })).st = .drydown := hst
  rw [hst']
  rfl

theorem State.answerWakes_answered (s : State) (st : Status) :
    TouchM 34144256 (s.modPwr (fun p => { p with wakeOrigins := [] })) (s.answerWakes st) :=
  each_touch _ (TouchM.refl _ _) fun _ o h => State.replyLate_touch h o 0x81 (Result.of st) rfl

/-- Every converter of DRYDOWN is taken back, and the manager is at ACTIVE. -/
theorem State.drydownLeft_pwr (s : State) : s.drydownLeft.pwr.exitFrom = none := by
  unfold State.drydownLeft
  extract_lets a b c found d
  have hb : b.pwr.exitFrom = none := rfl
  have htouch : TouchM 35201024 b d := by
    refine each_touch _ (State.kvalAll_touch (TouchM.refl _ b) rfl) fun u e h => State.raiseAnomaly_touch h _ _ _ rfl
  have hd : d.pwr = b.pwr := htouch.same .pwr rfl
  rw [State.modPwr_pwr, hd]
  exact hb

theorem State.outOfDrydown_exitFrom (s : State) : s.outOfDrydown.pwr.exitFrom = none :=
  State.drydownLeft_pwr ((s.modPwr (fun p => { p with changing := false })).enter .ready)

/-- READY after DRYDOWN, once the WAKE commands are answered. -/
theorem State.outOfDrydown_answered (s : State) (hst : s.glb.st = .drydown) :
    (s.outOfDrydown.answerWakes .ok).glb.st = .ready ∧ (s.outOfDrydown.answerWakes .ok).glb.prev = .drydown ∧
      (s.outOfDrydown.answerWakes .ok).pwr.exitFrom = none ∧ (s.outOfDrydown.answerWakes .ok).pwr.wakeOrigins = [] ∧
      (s.outOfDrydown.answerWakes .ok).bist.slowDue = true := by
  have hglb : s.outOfDrydown.glb = _ := s.outOfDrydown_touch.same .glb rfl
  have hslow : s.outOfDrydown.bist.slowDue = true := rfl
  have hexit := s.outOfDrydown_exitFrom
  generalize s.outOfDrydown = a at hglb hslow hexit ⊢
  have hwakes := a.answerWakes_answered .ok
  have hglb' : (a.answerWakes .ok).glb = a.glb := hwakes.same .glb rfl
  have hpwr : (a.answerWakes .ok).pwr = { a.pwr with wakeOrigins := [] } := hwakes.same .pwr rfl
  have hbist : (a.answerWakes .ok).bist = a.bist := hwakes.same .bist rfl
  rw [hglb', hpwr, hbist, hglb]
  exact ⟨rfl, hst, hexit, rfl, hslow⟩

end

/-- Settles O45: the choice, DOZE and its end, DRYDOWN entered or its entry stopped, and its exit. -/
theorem powerStates : Obligations.PowerStates := by
  refine ⟨fun s hpow hst => ?evaluates, fun s p => s.blockOf_eq_zero_iff p, fun s hst hexit hgoing => ?chooses,
    fun s hst hdoze => if_pos (by simp [State.st, hst, hdoze]), fun s hst hgoing hblock => ?enters,
    fun s hst hgoing hblock hset => ?stops,
    fun s hexit => ⟨exec_drydownExit_of_ready hexit, fun hst hset hwaits => ?waits, fun hst hready => ?leaves⟩⟩
  case evaluates => exact if_pos (by simp [hpow, State.st, hst])
  case chooses =>
    have heq := State.evaluatePower_of_free hst hexit hgoing
    refine ⟨fun hdry => ?_, fun hdry hdoze => ?_, fun hdry hdoze hidle => ?_, fun hdry hdoze hidle => ?_⟩
    · have hdeep : s.deepest = .drydown := by rw [State.deepest, if_pos hdry]
      rw [heq, hdeep]
      dsimp only
      rw [State.beginEntry_pwr]
      exact ⟨rfl, rfl, rfl⟩
    · have hdeep : s.deepest = .doze := by rw [State.deepest, if_neg hdry, if_pos hdoze]
      rw [heq, hdeep]
      dsimp only
      rw [State.setPower_pwr]
      refine ⟨rfl, ?_⟩
      have hforce := State.hubForce_of_touch
        (State.abortSlice_touch (State.modPwr_touch (TouchM.refl 37329584 s) (fun x => { x with block := s.blockAt .doze }) rfl) rfl)
      exact congrArg (fun f => (0x40 &&& ~~~f : BitVec 8)) hforce
    · have hdeep : s.deepest = .idle := by rw [State.deepest, if_neg hdry, if_neg hdoze, if_pos hidle]
      rw [heq, hdeep]
      dsimp only
      rw [State.setPower_pwr]
      exact ⟨rfl, rfl⟩
    · have hdeep : s.deepest = .active := by rw [State.deepest, if_neg hdry, if_neg hdoze, if_neg hidle]
      rw [heq, hdeep]
      dsimp only
      rw [State.setPower_pwr]
      exact ⟨rfl, rfl⟩
  case enters =>
    obtain ⟨hglb, hpwr, hnone, hchanging, hfirst, hpins⟩ := s.inDrydown_hub
    refine ⟨s.inDrydown, ?_, hglb, hpwr, hnone, hchanging, hfirst, hpins, fun g hup => ?_⟩
    · rw [exec_drydownEntered_of_going hst hgoing, hblock]
      rfl
    · obtain ⟨⟨hst', hat, hmeas, hdrv, hwindow⟩, hlink⟩ := s.inDrydown_seg hup
      exact ⟨hst', by rw [hat, hfirst], hmeas, hdrv, hwindow, hlink⟩
  case stops =>
    rw [exec_drydownEntered_of_going hst hgoing, if_pos (bne_iff_ne.2 hblock), State.stopEntry_of_going hgoing]
    exact State.done_eq hset
  case waits =>
    refine exec_drydownExit_of_waits hset (Bool.eq_false_iff.2 fun hready => ?_)
    obtain ⟨g, hup, hpow, htrain⟩ := hwaits
    rcases (State.exitReady_iff hst).1 hready g with h | h | h
    · rw [hup] at h; exact absurd h (by decide)
    · exact hpow h
    · rw [htrain] at h; exact absurd h (by decide)
  case leaves =>
    obtain ⟨hst', hprev, hexit', hwakes, hslow⟩ := s.outOfDrydown_answered hst
    exact ⟨_, exec_drydownExit_of_drydown hexit hst ((State.exitReady_iff hst).2 hready), hst', hprev, hexit', hwakes, hslow⟩

end Sys2Proof.Machine
end

section
/-!
PROOFS. Messages on a span link (chapter 08), each as its receiver takes it, and the obligation about them.
-/

-- The proofs are elaborated one after another, which keeps the check of the whole text within its memory.
set_option Elab.async false

namespace Sys2Proof.Machine

section
variable {s : State} {g : Seg}

/-! ### Down (R249) -/

section
variable (hup : s.linkUp g = true) (hst : (s.segs.get g).st ≠ .unpowered)
include hup hst

/-- A segment that has a supply takes the message that it expects from a link that is up. -/
theorem State.nextDown_eq {α : Type} (pick : DownMsg → Option α) :
    s.nextDown g pick = (expected (s.links.get g).down).bind pick := if_pos (by simp [hup, hst])

/-- A CONFIG message acts on the window, or is held for the accord. -/
def State.configTaken (s : State) (g : Seg) (off : Nat) (v mask : Word) (staged : Bool) : State :=
  if staged then (s.takeDown g).modSeg g (fun x => { x with staged := x.staged ++ [(off, v, mask)] })
  else (s.takeDown g).applyWindow g off v mask

theorem exec_config_of_expected {off : Nat} {v mask : Word} {staged : Bool} {o : Origin}
    (hd : expected (s.links.get g).down = some (.config off v mask staged o)) : exec (.config g) s =
      .next ((s.configTaken g off v mask staged).sendUp g (.rsp off
        (Sparse.get resetOf ((s.configTaken g off v mask staged).segs.get g).win off) .ok (some o))).settle := by
  change execConfig g s = _
  unfold execConfig
  rw [State.nextDown_eq hup hst, hd]
  rfl

theorem exec_read_of_expected {off : Nat} (hd : expected (s.links.get g).down = some (.read off)) :
    exec (.read g) s = .next ((s.takeDown g).sendUp g (.rsp off (s.windowLive g (off % 0x400)) .ok none)).settle := by
  change execRead g s = _
  unfold execRead
  rw [State.nextDown_eq hup hst, hd]
  rfl

/-- A chunk of a share is stored. -/
def State.chunkStored (s : State) (g : Seg) (bank off : Nat) (data : List Byte) : State :=
  (s.takeDown g).modSeg g (fun x => { x with
    shareRx := if off = 0 then data else x.shareRx ++ data, stagedOk := x.stagedOk && bank != 1 })

/-- The status of a share that is complete: its CRC, then its place in the flacon and the segment's own checks. -/
def State.shareJudged (s : State) (g : Seg) (rx : List Byte) : Status :=
  if shareCrcOk rx then shareVerdict s.play.staged.bytes rx g.val (s.guardFor s.play.staged.bytes) else .checkFail

/-- The segment keeps what its checks found, and the share where they allow it. -/
def State.keepShare (s : State) (g : Seg) (st : Status) : State := s.modSeg g (fun x => { x with
  stagedOk := st == .ok, shareStatus := st, shareRx := []
  shareStaged := if st == .ok then x.shareRx else x.shareStaged })

theorem exec_share_of_expected {bank off : Nat} {data : List Byte} {isLast : Bool}
    (hd : expected (s.links.get g).down = some (.share bank off data isLast)) : exec (.share g) s =
      if !isLast then (s.chunkStored g bank off data).done
      else if bank = 2 then
        ((s.chunkStored g bank off data).modSeg g (fun x => { x with imageIn := true, shareRx := [] })).done
      else (((s.chunkStored g bank off data).keepShare g
        (s.shareJudged g ((s.chunkStored g bank off data).segs.get g).shareRx)).sendUp g
          (.shareRsp (s.shareJudged g ((s.chunkStored g bank off data).segs.get g).shareRx))).done := by
  change execShare g s = _
  unfold execShare
  rw [State.nextDown_eq hup hst, hd]
  rfl

theorem exec_timeMessage_of_expected {t l : Nat} (hd : expected (s.links.get g).down = some (.time t l)) (trip : Nat) :
    exec (.timeMessage g trip) s = .next ((((s.takeDown g).compareTimer g).modSeg g (fun x => { x with
      timeSet := true })).modLink g (fun x => { x with latency := latencyOf [trip] })).settle := by
  change execTimeMessage g trip s = _
  unfold execTimeMessage
  rw [State.nextDown_eq hup hst, hd]
  rfl

/-- The slots of an ISLOT message. -/
def islotSlots (first : Nat) (vals : List (Option Int)) : List (Nat × Option Int) :=
  vals.mapIdx (fun i v => (first + 1000 * i, v))

/-- The sums of one cell leave for the hub, where it carried current or plays a walk. -/
def State.sendSums (g : Seg) (l : List (Nat × Option Int)) (s : State) (k : Cell) : State :=
  if (s.sumsOf k l).upTo != 0 && ((s.sumsOf k l).tIn != 0 || (s.sumsOf k l).sweep.isSome) then
    s.sendUp g (.sums k (s.sumsOf k l)) else s

theorem exec_islot_of_expected {first : Nat} {vals : List (Option Int)}
    (hd : expected (s.links.get g).down = some (.islot first vals)) : exec (.islot g) s =
      .next (each (cellsOf g) (State.sendSums g (islotSlots first vals)) ((s.takeDown g).modSeg g (fun x => { x with
        islots := islotSlots first vals }))).settle := by
  change execIslot g s = _
  unfold execIslot
  rw [State.nextDown_eq hup hst, hd]
  rfl

/-- A transition of a neighbour acts on a boundary cell until the guard time after its last confirmation (R158). -/
def State.neighbourActs (k : Cell) (s : State) (e : EdgeRec) : State :=
  (s.neighbourMoved k e.step1 (e.confs.getLastD e.step1 + s.guardNs)).disturb k e.step1
    (e.confs.getLastD e.step1 + s.guardNs)

theorem exec_neighbour_of_expected {j k : Cell} {t : Nat} {l : List EdgeRec}
    (hd : expected (s.links.get g).down = some (.neighbour j t l)) (hfar : farNeighbour j = some k) :
    exec (.neighbour g) s = .next ((each l (State.neighbourActs k) (s.takeDown g)).coverTo k t).settle := by
  change execNeighbour g s = _
  unfold execNeighbour
  rw [State.nextDown_eq hup hst, hd]
  dsimp only [Option.bind_some]
  rw [hfar]
  rfl

theorem exec_segmentCmd_of_expected {c : SegCmd} (hd : expected (s.links.get g).down = some (.cmd c)) :
    exec (.segmentCmd g) s = .next (if c = .reset ∨ c = .moduleReset then (s.takeDown g).segmentAction g c
      else ((s.takeDown g).segmentAction g c).sendUp g (.cmdRsp .ok)).settle := by
  change execSegmentCmd g s = _
  unfold execSegmentCmd
  rw [State.nextDown_eq hup hst, hd]
  cases c <;> rfl

end

/-! ### Up (R249) -/

section
variable (hup : s.linkUp g = true) (hpow : s.powered = true)
include hup hpow

/-- A powered hub takes the message that it expects from a link that is up. -/
theorem State.nextUp_eq {α : Type} (pick : UpMsg → Option α) :
    s.nextUp g pick = (expected (s.links.get g).up).bind pick := if_pos (by simp [hup, hpow])

/-- The hub counts a transition where it was planned. -/
def State.countPlanned (s : State) (e : EdgeRec) : State := if e.planned.isSome then s.countMod e.pairSlot else s

theorem exec_edge_of_expected {e : EdgeRec} (hd : expected (s.links.get g).up = some (.edge e)) : exec (.edge g) s =
    .next ((((s.takeUp g).countPlanned e).modAna e.cell (fun x => { x with
      edges := x.edges + 1, late := if e.late then x.late + 1 else x.late })).tellNeighbour e.cell [e]).settle := by
  change execEdge g s = _
  unfold execEdge
  rw [State.nextUp_eq hup hpow, hd]
  rfl

/-- The flags of a report that came in a message: its time is the segment's, and may be rescaled (R398). -/
def reportFlags (rescaled : Bool) : BitVec 8 := if rescaled then 9 else 1

theorem exec_faultMessage_of_expected {r : Report} {rescaled : Bool}
    (hd : expected (s.links.get g).up = some (.fault r rescaled)) : exec (.faultMessage g) s =
      if s.flt.awaited.contains (r.src, g) then
        (((s.takeUp g).modFlt (fun f => { f with awaited := f.awaited.erase (r.src, g) })).recordAndReact r
          (reportFlags rescaled) ((s.takeUp g).classOf r.src) false).done
      else ((if srcClass r.src == .halt then (s.takeUp g).modLink g (fun l => { l with haltReq := false })
        else s.takeUp g).report r (reportFlags rescaled)).done := by
  change execFaultMessage g s = _
  unfold execFaultMessage
  rw [State.nextUp_eq hup hpow, hd]
  rfl

theorem exec_output_of_expected {k : Cell} {n : Nat} {x : Sample} (hd : expected (s.links.get g).up = some (.output k n x)) :
    exec (.output g) s = if n = 0 ∧ !x.disturbed ∧ x.isIn then ((s.takeUp g).dqdvOutput k x).done
      else if n = 1 ∧ !x.disturbed ∧ !x.sat ∧ (s.takeUp g).kvalRuns ((s.takeUp g).ana.get k).kval then
        ((s.takeUp g).kvalSample k x.value ((s.takeUp g).temps.get k).inUse x.stamp false).done
      else (s.takeUp g).done := by
  change execOutput g s = _
  unfold execOutput
  rw [State.nextUp_eq hup hpow, hd]
  rfl

theorem exec_sums_of_expected {k : Cell} {x : Sums} (hd : expected (s.links.get g).up = some (.sums k x)) :
    exec (.sums g) s = .next ((s.takeUp g).addSums k x).settle := by
  change execSums g s = _
  unfold execSums
  rw [State.nextUp_eq hup hpow, hd]
  rfl

theorem exec_burst_of_part {k : Cell} {l : List Int} (hd : expected (s.links.get g).up = some (.burstPart k l)) :
    exec (.burst g) s = .next ((s.takeUp g).modAna k (fun x => { x with burstRx := x.burstRx ++ l })).settle := by
  change execBurst g s = _
  unfold execBurst
  rw [State.nextUp_eq hup hpow, hd]
  rfl

theorem exec_burst_of_last {k : Cell} {b : Burst} (hd : expected (s.links.get g).up = some (.burst k b)) :
    exec (.burst g) s = .next ((s.takeUp g).modAna k (fun x => { x with
      burstRx := [], bursts := x.bursts ++ [{ b with samples := x.burstRx ++ b.samples }] })).settle := by
  change execBurst g s = _
  unfold execBurst
  rw [State.nextUp_eq hup hpow, hd]
  rfl

theorem exec_stream_of_head {ws : List (BitVec 64)} (hd : expected (s.links.get g).up = some (.stream ws))
    (hhead : s.isHead = true) : exec (.stream g) s =
      .next ((s.takeUp g).placeStream s.loop.position g.val ws).settle := by
  change execStream g s = _
  unfold execStream
  rw [State.nextUp_eq hup hpow, hd]
  exact if_pos hhead

theorem exec_segmentRsp_of_written {off : Nat} {v : Word} {st : Status} {o : Origin}
    (hd : expected (s.links.get g).up = some (.rsp off v st (some o))) : exec (.segmentRsp g) s =
      .next ((if st == .ok && 0x40 ≤ off % 0x400 then (s.takeUp g).store off v else s.takeUp g).replyLate o 0x02
        (Result.of st)).settle := by
  change execSegmentRsp g s = _
  unfold execSegmentRsp
  rw [State.nextUp_eq hup hpow, hd]
  rfl

theorem exec_segmentRsp_of_read {off : Nat} {v : Word} {st : Status}
    (hd : expected (s.links.get g).up = some (.rsp off v st none)) : exec (.segmentRsp g) s =
      .next ((s.takeUp g).modLink g (fun l => { l with seen := assign l.seen (off % 0x400) v })).settle := by
  change execSegmentRsp g s = _
  unfold execSegmentRsp
  rw [State.nextUp_eq hup hpow, hd]
  rfl

theorem exec_segmentRsp_of_cmdRsp {st : Status} (hd : expected (s.links.get g).up = some (.cmdRsp st)) :
    exec (.segmentRsp g) s = .next (s.takeUp g).settle := by
  change execSegmentRsp g s = _
  unfold execSegmentRsp
  rw [State.nextUp_eq hup hpow, hd]
  rfl

theorem exec_segmentRsp_of_shareRsp {st : Status} (hd : expected (s.links.get g).up = some (.shareRsp st)) :
    exec (.segmentRsp g) s = .next ((s.takeUp g).verifyAnswer g st).settle := by
  change execSegmentRsp g s = _
  unfold execSegmentRsp
  rw [State.nextUp_eq hup hpow, hd]
  rfl

end

/-- The segment's own verdict, written out. -/
theorem State.shareJudged_eq (rx : List Byte) : s.shareJudged g rx = if shareCrcOk rx then
    (if rx = shareOf s.play.staged.bytes g.val then ownChecks s.play.staged.bytes g.val (s.guardFor s.play.staged.bytes)
      else .checkFail) else .checkFail :=
  if_congr Iff.rfl (if_congr beq_iff_eq rfl rfl) rfl

theorem State.keepShare_eq (st : Status) : s.keepShare g st = s.modSeg g (fun x => { x with
    stagedOk := st == .ok, shareStatus := st, shareRx := []
    shareStaged := if st = .ok then x.shareRx else x.shareStaged }) := by
  simp only [State.keepShare, beq_iff_eq]

theorem latencyOf_singleton (trip : Nat) : latencyOf [trip] = (trip - 100) / 2 := by
  simp [latencyOf, sumNat]

theorem State.sendSums_eq (l : List (Nat × Option Int)) : State.sendSums g l = fun s k =>
    if (s.sumsOf k l).upTo ≠ 0 ∧ ((s.sumsOf k l).tIn ≠ 0 ∨ (s.sumsOf k l).sweep ≠ none)
      then s.sendUp g (.sums k (s.sumsOf k l)) else s := by
  funext s k
  refine if_congr ?_ rfl rfl
  simp [Option.isSome_iff_ne_none]

end

/-- Settles O48: one equation per message, down and up, under the conditions that its kind adds. -/
theorem spanMessages : Obligations.SpanMessages := by
  refine ⟨fun s g hup hst => ⟨fun off v mask staged o hd => ?config, fun off => exec_read_of_expected hup hst,
      fun bank off data isLast hd => ?share, fun t l trip hd => ?time, fun first vals hd => ?islot,
      fun j t l k => exec_neighbour_of_expected hup hst, fun c => exec_segmentCmd_of_expected hup hst⟩,
    fun s g hup hpow => ⟨fun e => exec_edge_of_expected hup hpow, fun r rescaled hd => ?fault,
      fun k x hd hdist hin => ?output, fun k x hd hdist hsat hruns => ?ocv, fun k n x hd hn hdist => ?disturbed,
      fun k x hd => ⟨fun hstep hnew => ?sums, fun hold => ?known⟩, fun k l => exec_burst_of_part hup hpow,
      fun k b => exec_burst_of_last hup hpow, fun ws => exec_stream_of_head hup hpow, fun off v st o hd => ?written,
      fun off v st => exec_segmentRsp_of_read hup hpow, fun st => exec_segmentRsp_of_cmdRsp hup hpow,
      fun st => exec_segmentRsp_of_shareRsp hup hpow⟩⟩
  case config => exact exec_config_of_expected hup hst hd
  case share =>
    have hexec := exec_share_of_expected hup hst hd
    intro b
    refine ⟨fun hmore => ?_, fun hlast hbank => ?_, fun hlast hbank => ?_⟩
    · rw [hexec, hmore]
      rfl
    · rw [hexec, hlast, if_pos hbank]
      rfl
    · rw [hexec, hlast, if_neg hbank, State.shareJudged_eq, State.keepShare_eq]
      rfl
  case time =>
    rw [exec_timeMessage_of_expected hup hst hd, latencyOf_singleton]
  case islot =>
    rw [exec_islot_of_expected hup hst hd, State.sendSums_eq]
    rfl
  case fault =>
    have hexec := exec_faultMessage_of_expected hup hpow hd
    refine ⟨fun hawaited => ?_, fun hnew => ?_⟩
    · rw [hexec, if_pos (List.contains_iff_mem.2 hawaited)]
      rfl
    · rw [hexec, if_neg (fun h => hnew (List.contains_iff_mem.1 h))]
      simp only [beq_iff_eq]
      rfl
  case output =>
    rw [exec_output_of_expected hup hpow hd, if_pos (by simp [hdist, hin])]
    rfl
  case ocv =>
    rw [exec_output_of_expected hup hpow hd, if_neg (by simp), if_pos ⟨rfl, by simp [hdist], by simp [hsat], hruns⟩]
    rfl
  case disturbed =>
    rw [exec_output_of_expected hup hpow hd, if_neg (by simp [hdist]), if_neg (by simp [hdist])]
    rfl
  case sums =>
    have hfresh : ((s.takeUp g).results.stepFrom.isSome && decide (((s.takeUp g).ana.get k).sumTo ≤ x.from_)) = true := by
      have hstep' : (s.takeUp g).results.stepFrom.isSome = true := Option.isSome_iff_ne_none.2 hstep
      have hnew' : ((s.takeUp g).ana.get k).sumTo ≤ x.from_ := hnew
      rw [hstep', decide_eq_true hnew']
      rfl
    exact (exec_sums_of_expected hup hpow hd).trans (congrArg (fun y => Host.Outcome.next (State.settle y)) (if_pos hfresh))
  case known =>
    have hstale : ¬((s.takeUp g).results.stepFrom.isSome && decide (((s.takeUp g).ana.get k).sumTo ≤ x.from_)) = true := by
      have hresults : (s.takeUp g).results = s.results := rfl
      have hana : (s.takeUp g).ana = s.ana := rfl
      rw [hresults, hana]
      rcases hold with h | h
      · simp [h]
      · simp [Nat.not_le.2 h]
    rw [exec_sums_of_expected hup hpow hd, State.addSums, if_neg hstale]
  case written =>
    rw [exec_segmentRsp_of_written hup hpow hd]
    simp only [Bool.and_eq_true, beq_iff_eq, decide_eq_true_eq]

end Sys2Proof.Machine
end

section
/-!
PROOFS. The supplies of the segments and the aux monitor (chapters 07, 13 and 15), and the obligation about them.
-/

-- The proofs are elaborated one after another, which keeps the check of the whole text within its memory.
set_option Elab.async false

namespace Sys2Proof.Machine

section
variable {s : State} {g : Seg}

/-! ### Log retention (R230) -/

/-- A segment in log retention below 6 V has lost its log and its supply. -/
def State.dropLog (s : State) (g : Seg) (mv : Nat) : State := s.modSeg g (fun x => { x with
  stackMv := mv, retention := false, log := [], logOver := 0, st := .unpowered })

theorem exec_logRetentionEnd_of_low {mv : Nat} (hset : s.settled = true) (hst : s.glb.st = .dormant ∨ s.glb.st = .off)
    (hret : (s.segs.get g).retention = true) (hlow : mv < 6000) :
    exec (.logRetentionEnd g mv) s = .next (s.dropLog g mv) := by
  have hends : ((s.st == .dormant || s.st == .off) && (s.segs.get g).retention && decide (mv < 6000)) = true := by
    rcases hst with h | h <;> simp [State.st, h, hret, hlow]
  exact (if_pos hends).trans (State.done_eq ((s.modSeg_settled g _).trans hset))

/-! ### Feeds (R256, R261, R385) -/

/-- A segment whose feed is lost, once that is raised. -/
def State.feedLost (s : State) (g : Seg) : State :=
  (s.modSeg g (fun x => { x with feedOk := false, feedV := 0, onStack := decide (20000 ≤ x.stackMv) })).raise
    .feedFault (some g) none 0 0 0

/-- A segment without any supply is reset and its link goes down. -/
def State.segDies (s : State) (g : Seg) : State :=
  (((s.abortSegSlice g).segDieReset g false).modSeg g (fun x => { x with
    st := .unpowered, smeas := false, sdrv := false })).linkToDown g

theorem State.feedLost_stackMv : ((s.feedLost g).segs.get g).stackMv = (s.segs.get g).stackMv := by
  have hsegs : (s.feedLost g).segs = (s.modSeg g (fun x => { x with
      feedOk := false, feedV := 0, onStack := decide (20000 ≤ x.stackMv) })).segs := rfl
  rw [hsegs, State.modSeg_segs, Vec.get_modify_self]

theorem exec_feedLoss_of_enabled (hpow : s.powered = true) (hfeed : (s.segs.get g).feedOk = true)
    (hen : s.flag (Fld.segFeedCtrlFeedEn g) = true) : exec (.feedLoss g) s =
      .next (if ((s.feedLost g).segs.get g).stackMv < 20000 then (s.feedLost g).segDies g else s.feedLost g).settle :=
  if_pos (by simp [hpow, hfeed, hen])

/-- The time at which a feed is restored has come. -/
def State.restoreDone (s : State) (g : Seg) : State := s.modSeg g (fun x => { x with feedRestoreAt := none })

/-- A feed in range again, at a segment in the state given. -/
def State.feedBack (s : State) (g : Seg) (volts : Nat) (st : SegState → SegState) : State := s.modSeg g (fun x => { x with
  feedOk := true, feedV := volts % 256, onStack := false, st := st x.st })

theorem exec_segFeedRestore_of_due {t volts : Nat} (hat : (s.segs.get g).feedRestoreAt = some t) (hdue : t ≤ s.now) :
    exec (.segFeedRestore g volts) s = if !s.flag (Fld.segFeedCtrlFeedEn g) then (s.restoreDone g).done
      else (if (s.segs.get g).st == .unpowered && s.powered then
        ((s.restoreDone g).feedBack g volts (fun x => if (s.segs.get g).st == .unpowered then .boot else x)).retrainLink g
      else (s.restoreDone g).feedBack g volts (fun x => if (s.segs.get g).st == .unpowered then .boot else x)).done := by
  change execSegFeedRestore g volts s = _
  unfold execSegFeedRestore
  rw [hat]
  exact if_pos hdue

/-! ### The aux monitor (R242) -/

/-- What the aux monitor takes. -/
def State.auxTaken (s : State) (mv : Nat) (ok : Bool) (count : Nat) : State := s.modPwr (fun p => { p with
  inRange := true, auxMv := Nat.min 0xFFFF mv, nvmOk := ok, sagCount := count })

theorem exec_auxMonitorUpdate_of_steady {mv : Nat} (hpow : s.powered = true) (hno : 20000 ≤ mv ∨ s.pwr.nvmOk = false) :
    exec (.auxMonitorUpdate mv) s = .next (s.auxTaken mv (decide (20000 ≤ mv)) s.pwr.sagCount).startRepair.settle := by
  have hsag : (s.pwr.nvmOk && !decide (20000 ≤ mv)) = false := by
    rcases hno with h | h <;> simp [h]
  change execAuxMonitorUpdate mv s = _
  unfold execAuxMonitorUpdate
  simp only [hpow, hsag, if_true, Bool.false_eq_true, if_false]
  rfl

theorem exec_auxMonitorUpdate_of_sag {mv : Nat} (hpow : s.powered = true) (hlow : mv < 20000) (hwas : s.pwr.nvmOk = true) :
    exec (.auxMonitorUpdate mv) s = .next (((s.auxTaken mv false (Nat.min 0xFF (s.pwr.sagCount + 1))).raise
      .auxSag none none (word mv) 0 0).startRepair).settle := by
  have hsag : (s.pwr.nvmOk && !decide (20000 ≤ mv)) = true := by simp [hwas, hlow]
  have hbad : decide (20000 ≤ mv) = false := by simp [hlow]
  change execAuxMonitorUpdate mv s = _
  unfold execAuxMonitorUpdate
  rw [hbad, hwas]
  simp only [hpow, Bool.not_false, Bool.and_true, if_true]
  rfl

end

/-- Settles O49, supply by supply. -/
theorem supplies : Obligations.Supplies := by
  unfold Obligations.Supplies
  refine ⟨fun s g mv hset hst hret hlow => exec_logRetentionEnd_of_low hset hst hret hlow,
    fun s g hpow hfeed hen => ⟨?onStack, ?dead⟩, fun s g t volts hset hat hdue => ⟨?off, ?alive, ?revived⟩,
    fun s mv hpow => ⟨?steady, ?sag⟩⟩
  case onStack =>
    intro hstack
    rw [exec_feedLoss_of_enabled hpow hfeed hen, State.feedLost_stackMv, if_neg (Nat.not_lt.2 hstack)]
    rfl
  case dead =>
    intro hstack
    rw [exec_feedLoss_of_enabled hpow hfeed hen, State.feedLost_stackMv, if_pos hstack]
    rfl
  case off =>
    intro hen
    rw [exec_segFeedRestore_of_due hat hdue, if_pos (by simp [hen])]
    exact State.done_eq ((s.modSeg_settled g _).trans hset)
  case alive =>
    intro hen hst
    have halive : ((s.segs.get g).st == .unpowered) = false := beq_false_of_ne hst
    rw [exec_segFeedRestore_of_due hat hdue, if_neg (by simp [hen]), halive, if_neg (by simp)]
    exact State.done_eq (((s.restoreDone g).modSeg_settled g _).trans ((s.modSeg_settled g _).trans hset))
  case revived =>
    intro hen hst hpow
    have hdead : ((s.segs.get g).st == .unpowered) = true := beq_iff_eq.2 hst
    rw [exec_segFeedRestore_of_due hat hdue, if_neg (by simp [hen]), hdead, hpow, if_pos (by decide)]
    have hkept : ((s.restoreDone g).feedBack g volts (fun _ => .boot)).settled = true :=
      ((s.restoreDone g).modSeg_settled g _).trans ((s.modSeg_settled g _).trans hset)
    exact State.done_eq ((State.retrainLink_touch (TouchM.refl 512 _) g rfl).settled.trans hkept)
  case steady =>
    intro hno
    rw [exec_auxMonitorUpdate_of_steady hpow hno]
    rfl
  case sag =>
    intro hlow hwas
    rw [exec_auxMonitorUpdate_of_sag hpow hlow hwas]
    rfl

end Sys2Proof.Machine
end

section
/-!
PROOFS. The host port of a powered head (chapter 11): its link, its doorbells, its descriptors and completions and its timeouts,
and the obligation about them.
-/

-- The proofs are elaborated one after another, which keeps the check of the whole text within its memory.
set_option Elab.async false

namespace Sys2Proof.Machine

section
variable {s : State} (hpow : s.hostPowered = true)
include hpow

/-- A powered head gets past the guard of a row of the host port. -/
theorem State.not_hostPowered : ¬(!s.hostPowered) = true := by simp [hpow]

/-! ### The link (R323, R348, R385) -/

omit hpow in
/-- The HOST domain is reset, and the function is to be enumerated again. -/
def State.unenumerated (s : State) : State :=
  s.hostDomainReset.modHost (fun h => { h with busMaster := false, msixEn := false })

omit hpow in
/-- PERST_N is low and the link is away. -/
def State.perstLow (s : State) : State :=
  ((s.unenumerated.setPins { s.unenumerated.pins with perstN := false }).modHost (fun h => { h with linkUp := false })).hostAway

theorem exec_hostReset_of_function : exec (.hostReset true) s = .next s.unenumerated.settle :=
  if_neg (State.not_hostPowered hpow)

theorem exec_hostReset_of_perst : exec (.hostReset false) s =
    .next (if s.host.linkUp then s.perstLow.raise .pcieLinkDown none none 0 0 0 else s.perstLow).settle :=
  if_neg (State.not_hostPowered hpow)

theorem exec_pcieLinkDown_of_up (hup : s.host.linkUp = true) : exec .pcieLinkDown s =
    .next ((s.modHost (fun h => { h with linkUp := false })).hostAway.raise .pcieLinkDown none none 0 0 0).settle :=
  if_pos (by simp [hpow, hup])

omit hpow in
/-- The link is up and the function enumerated. -/
def State.enumerated (s : State) : State :=
  ((s.modHost (fun h => { h with linkUp := true, lostAt := none, busMaster := true, msixEn := true })).setPins
    { s.pins with perstN := true }).modLoop (fun l => { l with silent := false })

theorem exec_pcieLinkUp_of_powered : exec .pcieLinkUp s = .next s.enumerated.tryReady.settle :=
  if_neg (State.not_hostPowered hpow)

/-! ### Doorbells (R326, R341, R346) -/

section
variable (v : BitVec 16)

theorem exec_dbCmdTail_of_powered : exec (.dbCmdTail v) s =
    if ahead v.toNat s.doorbell.host.cmdTail ≤ s.doorbell.host.cmdSize ∧
        ahead v.toNat s.doorbell.host.cmdHead ≤ s.doorbell.host.cmdSize then
      .next (s.doorbell.modHost (fun h => { h with cmdTail := v.toNat })).settle
    else .next (s.doorbell.doorbellError 0x002).settle :=
  if_neg (State.not_hostPowered hpow)

theorem exec_dbCplHead_of_powered : exec (.dbCplHead v) s =
    if ahead v.toNat s.doorbell.host.cpl.cons ≤ s.doorbell.host.cpl.held then
      .next (s.doorbell.modHost (fun h => { h with cpl := { h.cpl with cons := v.toNat } })).settle
    else .next (s.doorbell.doorbellError 0x004).settle :=
  if_neg (State.not_hostPowered hpow)

omit hpow in
/-- A result ring whose first `n` entries the host has passed. -/
def State.passEntries (s : State) (ring : Fin 4) (v n : Nat) : State :=
  (each ((s.host.res.get ring).entries.take n) State.retire s).modHost (fun h => { h with
    res := h.res.modify ring (fun r => { r with cons := v, entries := r.entries.drop n }) })

omit hpow in
/-- The result ring of the doorbell that failed stands in HOST_ERR. -/
def State.noteRing (s : State) (ring : Fin 4) : State :=
  s.modHost (fun h => { h with err := (h.err &&& 0x0FF) ||| BitVec.ofNat 10 (256 * ring.val) })

theorem exec_dbResHead_of_powered (ring : Fin 4) : exec (.dbResHead ring v) s =
    if ahead v.toNat (s.doorbell.host.res.get ring).cons ≤ (s.doorbell.host.res.get ring).held then
      .next (s.doorbell.passEntries ring v.toNat
        (ahead v.toNat (s.doorbell.host.res.get ring).cons)).endEpisode.placeWaiting.settle
    else .next ((s.doorbell.noteRing ring).doorbellError 0x008).settle :=
  if_neg (State.not_hostPowered hpow)

end

omit hpow in
theorem State.doorbellError_st (bits : BitVec 10) : (s.doorbellError bits).host.st = 2 := rfl

omit hpow in
theorem State.doorbellError_err (bits : BitVec 10) : (s.doorbellError bits).host.err = s.host.err ||| bits :=
  congrArg HostPort.err ((State.msix_touch (TouchM.refl 33554432 (s.modHost (fun h => { h with err := h.err ||| bits })))
    (s.fld Fld.hostMsixMapErrVec) rfl).same .host rfl)

/-! ### Descriptors and completions (R326, R330, R334, R335) -/

theorem exec_descriptorFetch_of_room (hst : s.startAll.host.st = 1)
    (hmore : s.startAll.host.cmdTail ≠ s.startAll.host.cmdHead) (hroom : s.startAll.host.outstanding.length < 1024)
    (desc buf : Option (List Byte)) : exec (.descriptorFetch desc buf) s = match desc with
      | none => .next (s.startAll.hostErr 0x010).hostError.settle
      | some d => .next (s.startAll.fetch d buf).settle :=
  (if_neg (State.not_hostPowered hpow)).trans (if_neg (by simp [hst, hmore, hroom]))

theorem exec_completion_of_powered : exec .completion s = .next (State.flushCpl 1 s).startAll.settle :=
  congrArg State.done (if_pos hpow)

/-! ### Timeouts (R336, R345) -/

theorem exec_cmdTimeout_of_late {tag t : Nat} {o : Outstanding}
    (hfind : s.host.outstanding.find? (fun x => x.tag == tag) = some o) (hsent : o.sentAt = some t)
    (hlate : t + 1000000 * s.fld Fld.hostCtrlCmdTimeoutMs ≤ s.now) (hheld : ∀ c ∈ s.host.heldCpl, c.tag ≠ tag)
    (hrsp : s.rspComing tag = false) : exec (.cmdTimeout tag) s =
      .next (((s.completeTag tag o.position (Result.of .timeout) 0x10 ⟨0, 0, 0, 0⟩).modHost (fun h => { h with
        closed := (tag, s.now) :: h.closed })).raise .cmdTimeout none none (word tag) (word o.position) 0).settle := by
  have hnotHeld : s.host.heldCpl.any (fun c => c.tag == tag) = false := List.any_eq_false.2 (fun c hc => by simp [hheld c hc])
  have hnow : (s.completeTag tag o.position (Result.of .timeout) 0x10 ⟨0, 0, 0, 0⟩).now = s.now :=
    (State.completeTag_touch (TouchM.refl 34078720 s) tag o.position (Result.of .timeout) 0x10 ⟨0, 0, 0, 0⟩ rfl).same .now rfl
  change execCmdTimeout tag s = _
  unfold execCmdTimeout
  rw [hfind]
  dsimp only
  rw [hsent]
  dsimp only
  rw [if_pos (by simp [hpow, hlate, hnotHeld, hrsp]), hnow]
  rfl

omit hpow in
/-- A ring's interrupt is due. -/
def State.coalesced (s : State) (r : Ring) : Bool := s.hostPowered && r.unsignalled != 0 &&
  s.fld Fld.hostCoalesceTimeUs != 0 && decide (r.firstAt + 1000 * s.fld Fld.hostCoalesceTimeUs ≤ s.now)

theorem State.coalesced_of_due {r : Ring} (hon : 0 < s.fld Fld.hostCoalesceTimeUs) (hsome : r.unsignalled ≠ 0)
    (hdue : r.firstAt + 1000 * s.fld Fld.hostCoalesceTimeUs ≤ s.now) : s.coalesced r = true := by
  simp [State.coalesced, hpow, hsome, hdue, Nat.pos_iff_ne_zero.1 hon]

omit hpow in
theorem exec_coalesceTimeout_of_completions (hdue : s.coalesced s.host.cpl = true) : exec (.coalesceTimeout 4) s =
    .next ((s.modHost (fun h => { h with cpl := { h.cpl with unsignalled := 0 } })).msix
      (s.fld Fld.hostMsixMapCplVec)).settle := by
  change execCoalesceTimeout 4 s = _
  unfold execCoalesceTimeout
  rw [if_pos (by decide)]
  exact if_pos hdue

omit hpow in
theorem exec_coalesceTimeout_of_results {n : Fin 4} (hdue : s.coalesced (s.host.res.get n) = true) :
    exec (.coalesceTimeout (n.castLE (by decide))) s =
      .next ((s.modHost (fun h => { h with res := h.res.modify n (fun r => { r with unsignalled := 0 }) })).msix
        (s.resVector n)).settle := by
  have hring : ¬(n.castLE (by decide : 4 ≤ 5)).val = 4 := by simp only [Fin.val_castLE]; omega
  have hn : Fin.ofNat 4 (n.castLE (by decide : 4 ≤ 5)).val = n := by ext; simp
  refine (if_neg hring).trans ?_
  rw [hn]
  exact if_pos hdue

end

/-- Settles O51, row by row. -/
theorem hostPortRows : Obligations.HostPortRows := by
  unfold Obligations.HostPortRows
  intro s hpow
  refine ⟨⟨exec_hostReset_of_function hpow, exec_hostReset_of_perst hpow⟩, exec_pcieLinkDown_of_up hpow,
    exec_pcieLinkUp_of_powered hpow, fun v => ⟨?tail, ?tailBad, ?head, ?headBad, fun ring => ⟨?res, ?resBad⟩⟩,
    fun bits => ⟨State.doorbellError_st bits, ?bits⟩,
    fun hst hmore hroom => ⟨exec_descriptorFetch_of_room hpow hst hmore hroom none,
      fun d => exec_descriptorFetch_of_room hpow hst hmore hroom (some d)⟩,
    exec_completion_of_powered hpow,
    fun tag o t hfind hsent hlate hheld hrsp => exec_cmdTimeout_of_late hpow hfind hsent hlate hheld hrsp,
    fun hon => ⟨fun hsome hdue => exec_coalesceTimeout_of_completions (State.coalesced_of_due hpow hon hsome hdue),
      fun n hsome hdue => exec_coalesceTimeout_of_results (State.coalesced_of_due hpow hon hsome hdue)⟩⟩
  case tail => exact fun htail hhead => (exec_dbCmdTail_of_powered hpow v).trans (if_pos ⟨htail, hhead⟩)
  case tailBad => exact fun hbad => (exec_dbCmdTail_of_powered hpow v).trans (if_neg (by omega))
  case head => exact fun hok => (exec_dbCplHead_of_powered hpow v).trans (if_pos hok)
  case headBad => exact fun hbad => (exec_dbCplHead_of_powered hpow v).trans (if_neg (Nat.not_le.2 hbad))
  case res => exact fun hok => (exec_dbResHead_of_powered hpow v ring).trans (if_pos hok)
  case resBad => exact fun hbad => (exec_dbResHead_of_powered hpow v ring).trans (if_neg (Nat.not_le.2 hbad))
  case bits =>
    rw [State.doorbellError_err, BitVec.or_comm, BitVec.or_assoc, BitVec.or_self]

end Sys2Proof.Machine
end

section
/-!
PROOFS. What a command meets before it is judged (chapters 01, 07, 09 and 12), and the obligation about the commands that are
refused.
-/

-- The proofs are elaborated one after another, which keeps the check of the whole text within its memory.
set_option Elab.async false

namespace Sys2Proof.Machine

/-! ### The judgement of a row (R331) -/

/-- A row that is a command arrives and is judged, an accord command so that its status is kept (R319). -/
theorem exec_of_commandOf {c : Instr} {o : Origin} {op : Nat} {mild : Bool} (h : commandOf c = some (o, op, mild)) :
    (¬(0x30 ≤ op ∧ op ≤ 0x33) ∧
      ∃ k, ∀ s, exec c s = (s.arrives o op (fun s => s.gated o op mild k)).done) ∨
    ((0x30 ≤ op ∧ op ≤ 0x33) ∧ mild = false ∧ ∃ k, ∀ s, exec c s = (s.arrives o op (fun s => s.doAccord o op k)).done) := by
  unfold commandOf at h
  split at h <;> cases h
  case h_7 | h_8 | h_9 | h_10 => exact .inr ⟨by decide, rfl, _, fun _ => rfl⟩
  all_goals exact .inl ⟨by decide, _, fun _ => rfl⟩

theorem State.doAccord_of_refusal {s : State} {o : Origin} {op : Nat} {st : Status} (k : State → State × Status)
    (href : (s.taken o).refusal op false = some st) :
    s.doAccord o op k = ((s.taken o).modAcc (fun a => { a with lastStatus := st }), some (Result.of st)) := by
  rw [State.doAccord, State.gated_taken, href]
  rfl

/-- A command that the module state refuses is answered with the status of the refusal, which ACC shows of an accord command. -/
theorem exec_of_refusal {c : Instr} {s : State} {o : Origin} {op : Nat} {mild : Bool} {st : Status}
    (hrow : commandOf c = some (o, op, mild)) (hreach : s.reaches o op = true)
    (href : (s.taken o).refusal op mild = some st) :
    exec c s = .next (State.settle (State.reply (if 0x30 ≤ op ∧ op ≤ 0x33
      then (s.taken o).modAcc (fun a => { a with lastStatus := st }) else s.taken o) o op (Result.of st))) := by
  rcases exec_of_commandOf hrow with ⟨hop, k, hk⟩ | ⟨hop, rfl, k, hk⟩
  · rw [hk, State.arrives_refused hreach href, if_neg hop]
    rfl
  · rw [hk, State.arrives_reaches hreach, State.doAccord_of_refusal k href, if_pos hop]
    rfl

theorem State.arrives_of_full {s : State} {tag : Nat} {h : Bool} {p : Port} {op : Nat} (hpow : s.powered = true)
    (hfull : 128 ≤ s.loop.inFlight) (k : State → State × Option Result) :
    s.arrives (.loop tag h p) op k = s.reply (.loop tag h p) op (Result.of .busy) :=
  (if_neg (by simp [hpow])).trans (if_pos hfull)

theorem exec_of_full {c : Instr} {s : State} {tag : Nat} {h : Bool} {p : Port} {op : Nat} {mild : Bool}
    (hrow : commandOf c = some (.loop tag h p, op, mild)) (hpow : s.powered = true) (hfull : 128 ≤ s.loop.inFlight) :
    exec c s = .next (s.reply (.loop tag h p) op (Result.of .busy)).settle := by
  rcases exec_of_commandOf hrow with ⟨-, k, hk⟩ | ⟨-, -, k, hk⟩
  all_goals
    rw [hk, State.arrives_of_full hpow hfull]
    rfl

/-! ### Refusals by module state (R23, R219, R370, R452) -/

section
variable {s : State} {o : Origin} (op : Nat) (mild : Bool)

theorem State.taken_glb : (s.taken o).glb = s.glb := by
  have hnoted : s.noteCommand.glb = s.glb := (State.noteCommand_touch (TouchM.refl 37329456 s) rfl).same .glb rfl
  cases o
  case ring | loop => exact hnoted
  case bar0 | bcast => rfl

theorem State.taken_refusal : (s.taken o).refusal op mild = s.refusal op mild := by
  unfold State.refusal State.st
  rw [State.taken_glb]

/-- A command that reaches its judgement is accepted where the module state does not refuse its opcode. -/
theorem State.accepts_eq (ho : o ≠ .bar0) (hroom : ∀ tag h p, o = .loop tag h p → s.loop.inFlight < 128)
    (hpow : s.powered = true) : s.accepts o op mild = (s.refusal op mild).isNone := by
  have hreach : s.reaches o op = true := by
    unfold State.reaches
    rw [hpow, Bool.true_and]
    cases o
    case bar0 => exact absurd rfl ho
    case loop tag h p => exact decide_eq_true (hroom tag h p rfl)
    case ring | bcast => rfl
  rw [State.accepts, hreach, Bool.true_and, State.taken_refusal]

variable {op mild}

theorem State.refusal_of_boot (hst : s.glb.st = .boot) : s.refusal op mild =
    if op = 1 || op = 2 || (op = 3 && !s.glb.recovery) || (op = 0xA0 && s.glb.recovery) then none else some .busy := by
  rw [State.refusal, State.st, hst]

theorem State.refusal_of_startupTest (hst : s.glb.st = .startupTest) : s.refusal op mild =
    if op = 1 || op = 2 || op = 3 || op = 0x52 || op = 0x10 then none else some .busy := by
  rw [State.refusal, State.st, hst]

theorem State.refusal_of_drydown (hst : s.glb.st = .drydown) : s.refusal op mild =
    if op = 0x81 || op = 0x80 || op = 0x52 || op = 2 || (op = 1 && mild) then none else some .rejected := by
  rw [State.refusal, State.st, hst]

theorem State.refusal_of_latched (hst : s.glb.st = .shutdownLatched) : s.refusal op mild =
    if op = 2 || latchedAnswers op mild then none else some .tempInhibit := by
  rw [State.refusal, State.st, hst]

theorem State.refusal_of_open (hst : s.glb.st = .ready ∨ s.glb.st = .run ∨ s.glb.st = .halt ∨ s.glb.st = .orphan) :
    s.refusal op mild = none := by
  rcases hst with h | h | h | h <;> rw [State.refusal, State.st, h]

end

theorem Option.isNone_ite_some {α : Type} (b : Bool) (x : α) : (if b then none else some x : Option α).isNone = b := by
  cases b <;> rfl

/-- Settles O52: a row's judgement is a gate in front of it, and the gate is a table over the module state. -/
theorem commandsRefused : Obligations.CommandsRefused := by
  unfold Obligations.CommandsRefused
  refine ⟨fun c s o op mild st hrow hreach href => exec_of_refusal hrow hreach href,
    fun c s tag h p op mild hrow hpow hfull => exec_of_full hrow hpow hfull,
    fun s o op mild ho hroom => ⟨?opens, ?boot, ?test, ?drydown, ?latched⟩,
    fun s op mild st href => ⟨?busy, ?rejected, ?hot⟩⟩
  case opens =>
    intro hst
    have hpow : s.powered = true := (s.powered_iff).2 (by rcases hst with h | h | h | h <;> simp [h])
    rw [State.accepts_eq op mild ho hroom hpow, State.refusal_of_open hst]
    rfl
  case boot =>
    intro hst
    rw [State.accepts_eq op mild ho hroom ((s.powered_iff).2 (by simp [hst])), State.refusal_of_boot hst,
      Option.isNone_ite_some]
    rw [Bool.eq_iff_iff]
    simp [or_assoc]
  case test =>
    intro hst
    rw [State.accepts_eq op mild ho hroom ((s.powered_iff).2 (by simp [hst])), State.refusal_of_startupTest hst,
      Option.isNone_ite_some]
    rw [Bool.eq_iff_iff]
    simp only [Bool.or_eq_true, decide_eq_true_eq, List.mem_cons, List.not_mem_nil, or_false]
    omega
  case drydown =>
    intro hst
    rw [State.accepts_eq op mild ho hroom ((s.powered_iff).2 (by simp [hst])), State.refusal_of_drydown hst,
      Option.isNone_ite_some]
    rw [Bool.eq_iff_iff]
    simp only [Bool.or_eq_true, Bool.and_eq_true, decide_eq_true_eq, List.mem_cons, List.not_mem_nil, or_false]
    tauto
  case latched =>
    intro hst
    rw [State.accepts_eq op mild ho hroom ((s.powered_iff).2 (by simp [hst])), State.refusal_of_latched hst,
      Option.isNone_ite_some]
    rw [Bool.eq_iff_iff]
    simp only [latchedAnswers, Bool.or_eq_true, Bool.and_eq_true, decide_eq_true_eq, beq_iff_eq,
      List.mem_cons, List.not_mem_nil, or_false]
    tauto
  case busy =>
    rintro (hst | hst)
    · rw [State.refusal_of_boot hst] at href
      split at href <;> simp_all
    · rw [State.refusal_of_startupTest hst] at href
      split at href <;> simp_all
  case rejected =>
    intro hst
    rw [State.refusal_of_drydown hst] at href
    split at href <;> simp_all
  case hot =>
    intro hst
    rw [State.refusal_of_latched hst] at href
    split at href <;> simp_all

end Sys2Proof.Machine
end

section
/-!
PROOFS. The commands that move the module, its streams and its loop (chapters 01, 03, 05, 06, 07, 09 and 11), where the module
state accepts their opcode, and the obligation about them.
-/

-- The proofs are elaborated one after another, which keeps the check of the whole text within its memory.
set_option Elab.async false

namespace Sys2Proof.Machine

section
variable {s : State} {o : Origin}

/-! ### RUN (R62, R93) -/

section
variable {t : Nat} {a : State}

/-- A run that a RUN command sets begins to wait for its T_s. -/
def State.runSet (a : State) (ts : Nat) : State := (a.enter .run).powerActive.modPlay (fun p => { p with
  st := .wait, ts := ts, cycles := 0, pending := none, answeredAt := none, recorded := true,
  zeroAcked := false, exitOver := false, inExit := false })

/-- A run that waits, its cells and slices left to it. -/
def State.runReady (a : State) (ts : Nat) : State :=
  let s := (a.runSet ts).askRestart.abortSlice.modShunts (fun m => { m with noShuntRaised := false })
  (s.putCells (s.cells.map (fun c => { c with holdIdle := false, resume := false, plan := [] }))).reviewAll

theorem State.runCmd_of_ready (hact : a.hasActive = true) (harmed : a.play.st = .armed)
    (hclosed : ∀ k, (a.cells.get k).st ≠ .isOpen) (hlow : a.now + 100000 ≤ startTime t)
    (hhigh : startTime t ≤ a.now + 2 ^ 40) (hlink : a.externalSource = false ∨ a.spc.link = 2) :
    a.runCmd t = (.ok, a.runReady (startTime t)) := by
  have hnoOpen : allCells.any (fun k => (a.cells.get k).st == .isOpen) = false :=
    List.any_eq_false.2 fun k _ => by simp [hclosed k]
  have hsource : (a.externalSource && a.spc.link != 2) = false := by rcases hlink with h | h <;> simp [h]
  refine if_neg ?_
  rw [hact, harmed, hnoOpen, hsource]
  simpa [hlow] using hhigh

/-- Nothing after the run is set changes the module state or the player. -/
theorem State.runReady_touch (ts : Nat) : TouchM 37296688 (a.runSet ts) (a.runReady ts) :=
  State.reviewAll_touch (State.putCells_touch (State.modShunts_touch
    (State.abortSlice_touch (State.askRestart_touch (TouchM.refl 37296688 (a.runSet ts)) rfl) rfl) _ rfl) _ rfl) rfl

theorem State.runReady_glb (ts : Nat) (hst : a.glb.st = .ready) :
    (a.runReady ts).glb = { a.glb with st := .run, prev := .ready, enteredAt := a.now } := by
  have hset : (a.runSet ts).glb = (a.enter .run).glb :=
    (State.powerActive_touch (TouchM.refl 34177024 (a.enter .run)) rfl).same .glb rfl
  have hkept : (a.runReady ts).glb = (a.runSet ts).glb := (State.runReady_touch ts).same .glb rfl
  rw [hkept, hset, ← hst]
  rfl

theorem State.runReady_play (ts : Nat) : (a.runReady ts).play = (a.runSet ts).play := (State.runReady_touch ts).same .play rfl

end

theorem exec_run_of_accepts {t : Nat} (hacc : s.accepts o 0x50 false = true) :
    exec (.run o t) s = .next (State.conclude o 0x50 (match (s.taken o).overtaken with
      | some st => (s.taken o).ends st
      | none => if (s.taken o).st == .ready then ((s.taken o).runCmd t).2.ends ((s.taken o).runCmd t).1
        else (s.taken o).ends .rejected)).settle :=
  congrArg State.done (State.arrives_accepts hacc _)

theorem exec_run_of_overtaken {t : Nat} {st : Status} (hacc : s.accepts o 0x50 false = true)
    (hover : (s.taken o).overtaken = some st) :
    exec (.run o t) s = .next ((s.taken o).reply o 0x50 (Result.of st)).settle := by
  rw [exec_run_of_accepts hacc, hover]
  rfl

theorem exec_run_of_ready {t : Nat} (hacc : s.accepts o 0x50 false = true) (hover : (s.taken o).overtaken = none)
    (hst : (s.taken o).glb.st = .ready) : exec (.run o t) s =
      .next (((s.taken o).runCmd t).2.reply o 0x50 (Result.of ((s.taken o).runCmd t).1)).settle := by
  rw [exec_run_of_accepts hacc, hover]
  dsimp only
  rw [if_pos (by simp [State.st, hst])]
  rfl

/-! ### STOP, HALT (R23, R25, R74) -/

theorem exec_stop_of_overtaken {st : Status} (hacc : s.accepts o 0x51 false = true)
    (hover : (s.taken o).overtaken = some st) :
    exec (.stop o) s = .next ((s.taken o).reply o 0x51 (Result.of st)).settle := by
  refine (congrArg State.done (State.arrives_accepts hacc _)).trans ?_
  rw [hover]
  rfl

theorem exec_stop_of_free (hacc : s.accepts o 0x51 false = true) (hover : (s.taken o).overtaken = none) :
    exec (.stop o) s = .next (State.conclude o 0x51 (match (s.taken o).glb.st with
      | .run => (s.taken o).stopRun o
      | .halt => if (s.taken o).haltUncleared || !(s.taken o).pins.estopN then (s.taken o).ends .rejected
        else (s.taken o).leaveHalt.ends .ok
      | .orphan =>
        if (s.taken o).loop.silent then (s.taken o).ends .rejected
        else if (s.taken o).orphanBusy then (s.taken o).ends .busy
        else ((s.taken o).abortSlice.toReady.modSpc (fun x => { x with orphanRamp := false })).ends .ok
      | .off | .boot | .startupTest | .ready | .drydown | .dormant | .shutdownLatched => (s.taken o).ends .rejected)).settle := by
  refine (congrArg State.done (State.arrives_accepts hacc _)).trans ?_
  rw [hover]
  rfl

theorem exec_halt_of_accepts (hacc : s.accepts o 0x52 false = true) :
    exec (.halt o) s = .next (State.conclude o 0x52 (
      if (s.taken o).shutdownComing then (s.taken o).ends .tempInhibit
      else if (s.taken o).resetComing then (s.taken o).ends .busy
      else (s.taken o).abortSlice.haltNow.ends .ok)).settle :=
  congrArg State.done (State.arrives_accepts hacc _)

/-! ### SWEEP (R197) -/

/-- A segment is told of the cells of its own that a sweep plays. -/
def State.tellSweep (cells : BitVec 256) (s : State) (g : Seg) : State :=
  let m := localSet g (inSet cells)
  if m = 0 || !s.linkUp g then s else s.sendDown g (.cmd (.sweepStart m))

/-- A sweep is set for its time. -/
def State.sweepSet (a : State) (id plan t : Nat) (cells : BitVec 256) : State :=
  a.modRes (fun r => { r with sweepAt := some t, sweepPlan := plan, sweepId := id, sweepCells := cells })

theorem State.tellSweeps_touch {m : Nat} {a b : State} (h : TouchM m a b) (cells : BitVec 256)
    (hm : Nat.land 512 m = 512) : TouchM m a (each allSegs (State.tellSweep cells) b) :=
  each_touch _ h fun _ _ h => TouchM.ite h (State.sendDown_touch h _ _ hm)

theorem State.sweepCmd_of_idle {a : State} {id plan t : Nat} {cells : BitVec 256} (hnone : a.results.sweepAt = none)
    (hoff : a.results.sweepOn = false) (hrun : a.inRun = true) (hkernel : a.sweepRuns = true) (hplan : plan < a.sweepCount)
    (hsome : setCells cells ≠ []) (hfew : (setCells cells).length ≤ 32)
    (hcells : ∀ k ∈ setCells cells, ¬(k.val + 1 < 256 ∧ inSet cells (cell (k.val + 1)) = true) ∧ a.played k = true)
    (htime : a.now ≤ t) :
    a.sweepCmd id plan t cells = (.ok, each allSegs (State.tellSweep cells) (a.sweepSet id plan t cells)) := by
  have hapart : (setCells cells).any (fun k => k.val + 1 < 256 && inSet cells (cell (k.val + 1))) = false :=
    List.any_eq_false.2 fun k hk => by simpa using (hcells k hk).1
  have hplayed : (setCells cells).any (fun k => !a.played k) = false :=
    List.any_eq_false.2 fun k hk => by simp [(hcells k hk).2]
  refine (if_neg (by simp [hnone, hoff])).trans (if_neg ?_)
  rw [hrun, hkernel, hapart, hplayed]
  simp [hplan, hsome, hfew, htime]

theorem exec_sweep_of_accepts {id plan t : Nat} {cells : BitVec 256} (hacc : s.accepts o 0x40 false = true) (hid : id ≠ 0) :
    exec (.sweep o id plan t cells) s = .next (((s.taken o).sweepCmd id plan t cells).2.reply o 0x40
      (Result.of ((s.taken o).sweepCmd id plan t cells).1)).settle := by
  refine (congrArg State.done (State.arrives_accepts hacc _)).trans ?_
  dsimp only
  rw [if_neg hid]
  rfl

/-! ### Streams (R175) -/

/-- A selection is taken. -/
def State.streamSet (a : State) (segs : BitVec 16) (kinds : BitVec 8) (cells : BitVec 256) : State :=
  a.modShunts (fun m => { m with
    strOn := true, strSegs := segs, strKinds := kinds, strCells := cells, strLive := 0, drops := 0
    strDropped := m.strDropped.map (fun _ => 0), strSent := m.strSent.map (fun _ => 0)
    lastMark := m.lastMark.map (fun _ => a.now) })

/-- Segments are told to stream, or to stop. -/
def State.tellStream (a : State) (segs : BitVec 16) (on : Bool) : State :=
  each (allSegs.filter (fun g => segs.getLsbD g.val)) (fun s g => s.sendDown g (.cmd (.stream on))) a

theorem State.tellStream_touch {m : Nat} {a b : State} (h : TouchM m a b) (segs : BitVec 16) (on : Bool)
    (hm : Nat.land 512 m = 512) : TouchM m a (b.tellStream segs on) :=
  each_touch _ h fun _ _ h => State.sendDown_touch h _ _ hm

theorem State.streamStart_of_capacity {a : State} {segs : BitVec 16} {kinds : BitVec 8} {cells : BitVec 256}
    (hkind : kinds.getLsbD 7 = false) (hrate : ∀ g : Seg, segs.getLsbD g.val = true → a.streamRate g kinds cells ≤ 625000) :
    a.streamStart segs kinds cells = (.ok, (a.streamSet segs kinds cells).tellStream segs true) := by
  have hfits : allSegs.any (fun g => segs.getLsbD g.val && decide (625000 < a.streamRate g kinds cells)) = false :=
    List.any_eq_false.2 fun g _ => by
      simpa only [Bool.and_eq_true, decide_eq_true_eq, not_and, not_lt] using hrate g
  refine (if_neg (Bool.eq_false_iff.1 hkind)).trans (if_neg ?_)
  rw [hfits]
  exact Bool.false_ne_true

/-- The selection is dropped. -/
def State.streamDropped (a : State) : State :=
  a.modShunts (fun m => { m with strOn := false, strSegs := 0, strKinds := 0, strCells := 0, strLive := 0 })

theorem exec_streamStart_of_accepts {segs : BitVec 16} {kinds : BitVec 8} {cells : BitVec 256}
    (hacc : s.accepts o 0x42 false = true) : exec (.streamStart o segs kinds cells) s =
      .next (((s.taken o).streamStart segs kinds cells).2.reply o 0x42
        (Result.of ((s.taken o).streamStart segs kinds cells).1)).settle :=
  congrArg State.done (State.arrives_accepts hacc _)

theorem exec_streamStop_of_accepts (hacc : s.accepts o 0x43 false = true) : exec (.streamStop o) s =
    .next (((s.taken o).streamDropped.tellStream (s.taken o).shunts.strSegs false).reply o 0x43 (Result.of .ok)).settle :=
  congrArg State.done (State.arrives_accepts hacc _)

/-! ### POWER_BUDGET, WAKE (R219, R236) -/

theorem exec_powerBudget_of_accepts {us : Word} (hacc : s.accepts o 0x80 false = true) : exec (.powerBudget o us) s =
    .next (((s.taken o).setFld Fld.pwrLatencyBudgetBudgetUs us.toNat).budgetWritten.reply o 0x80 (Result.of .ok)).settle :=
  congrArg State.done (State.arrives_accepts hacc _)

theorem exec_wake_of_accepts (hacc : s.accepts o 0x81 false = true) :
    exec (.wake o) s = .next (State.conclude o 0x81 ((s.taken o).wakeCmd o)).settle :=
  congrArg State.done (State.arrives_accepts hacc _)

theorem State.wakeCmd_of_drydown {a : State} (hst : a.glb.st = .drydown) : a.wakeCmd o =
    (a.startExit.modPwr (fun p => { p with wakeCommand := true, wakeOrigins := p.wakeOrigins ++ [o] }), none) :=
  if_pos (by simp [State.st, hst])

theorem State.wakeCmd_of_awake {a : State} (hst : a.glb.st ≠ .drydown) (hexit : a.pwr.exitFrom = none) :
    a.wakeCmd o = (a, some (Result.of .rejected)) :=
  (if_neg (by simp [State.st, hst])).trans (if_neg (by simp [hexit]))

/-! ### CENSUS, LOOP_PING (R275, R331) -/

/-- The GEN that a census takes: another than the last one. -/
def State.censusGen (a : State) : Nat := (a.loop.gen + 1 + a.freeBits.1.toNat % 255) % 256

theorem State.censusGen_ne (a : State) : a.censusGen ≠ a.loop.gen % 256 := by
  unfold State.censusGen
  omega

/-- A census begins; one that meets a known break is over at once. -/
def State.censusBegun (a : State) (o : Origin) : State := a.freeBits.2.modLoop (fun l => { l with
  census := if a.loop.brkUp != 0 then none else some (o, a.censusGen, a.now), censusSeen := [], censusN := none })

/-- Its PROBE leaves out of port B. -/
def State.censusSent (a : State) (o : Origin) : State :=
  (a.censusBegun o).measureLatency.sendFrame .b true (censusFrame 0 (leBytes 1 a.censusGen ++ zeros 7))

theorem ite_bne_zero {α : Type} (n : Nat) (x y : α) : (if n != 0 then x else y) = if n = 0 then y else x := by
  cases n <;> rfl

theorem State.censusCmd_of_idle {a : State} (hst : a.glb.st = .ready ∨ a.inRun = true ∨ a.glb.st = .startupTest)
    (hhead : a.isHead = true) (hno : a.headNo = false) (hnone : a.loop.census = none) (hup : a.loop.b.st = 2) :
    a.censusCmd o = (a.censusSent o, if a.loop.brkUp != 0 then some (Result.of .noRoute) else none) := by
  have hok : (a.st == .ready || a.inRun || a.st == .startupTest) = true := by
    rcases hst with h | h | h <;> simp [State.st, h]
  exact (if_neg (by simp [hhead, hno, hok])).trans ((if_neg (by simp [hnone])).trans (if_neg (by simp [hup])))

theorem PortsOnly.measureLatency {s₀ s : State} (h : PortsOnly s₀ s) : PortsOnly s₀ s.measureLatency :=
  .each _ h fun _ p h => h.modPort p _

theorem exec_census_of_accepts (hacc : s.accepts o 0x10 false = true) :
    exec (.census o) s = .next (State.conclude o 0x10 ((s.taken o).censusCmd o)).settle :=
  congrArg State.done (State.arrives_accepts hacc _)

theorem exec_loopPing_of_accepts (hacc : s.accepts o 0x11 false = true) : exec (.loopPing o) s =
    .next ((s.taken o).reply o 0x11 ⟨.ok, 0, leBytes 8 (s.taken o).now ++ leBytes 4 ((s.taken o).glbWord 0x10) ++
      leBytes 4 ((s.taken o).loopWord 0x1804)⟩).settle :=
  congrArg State.done (State.arrives_accepts hacc _)

end

/-- Settles O53, command by command. -/
theorem moduleCommands : Obligations.ModuleCommands := by
  unfold Obligations.ModuleCommands
  intro s o
  refine ⟨fun t hacc hover hst hact harmed hclosed hlow hhigh hlink => ?run,
    fun st hover => ⟨fun t hacc => exec_run_of_overtaken hacc hover,
      fun hacc => exec_stop_of_overtaken hacc hover⟩, fun hacc hover hst hclear hpin => ?halted,
    fun hacc hover hst hheard hdone => ?orphan, fun hacc hover hst => ⟨fun hplay => ?waits, fun hplay => ?plays⟩,
    fun hacc => ⟨fun hcool hstays => ?halt, fun hhot => ?hot, fun hcool hreset => ?reset⟩,
    fun id plan t cells hacc hid hnone hoff hrun hkernel hplan hsome hfew hcells htime => ?sweep,
    fun segs kinds cells hacc hkind hrate => ?start, fun hacc => ?stopStream,
    fun us hacc => exec_powerBudget_of_accepts hacc, fun hacc hst => ?wake, fun hacc hst hexit => ?awake,
    fun hacc hst hhead hno hnone hup => ?census, fun hacc => exec_loopPing_of_accepts hacc⟩
  case run =>
    refine ⟨(s.taken o).runReady (startTime t), ?_, State.runReady_glb _ hst, ?_⟩
    · rw [exec_run_of_ready hacc hover hst, State.runCmd_of_ready hact harmed hclosed hlow hhigh hlink]
    · rw [State.runReady_play]
      exact ⟨rfl, rfl, rfl⟩
  case halted =>
    rw [exec_stop_of_free hacc hover, hst, hclear, hpin]
    rfl
  case orphan =>
    rw [exec_stop_of_free hacc hover, hst, hheard, hdone]
    rfl
  case waits =>
    rw [exec_stop_of_free hacc hover, hst]
    dsimp only
    rw [State.stopRun, hplay]
    rfl
  case plays =>
    rw [exec_stop_of_free hacc hover, hst]
    dsimp only
    rcases hplay with h | h | h <;> rw [State.stopRun, h]
  case halt =>
    rw [exec_halt_of_accepts hacc, if_neg (by simp [hcool]), if_neg (by simp [hstays])]
    rfl
  case hot =>
    rw [exec_halt_of_accepts hacc, if_pos hhot]
    rfl
  case reset =>
    rw [exec_halt_of_accepts hacc, if_neg (by simp [hcool]), if_pos hreset]
    rfl
  case sweep =>
    have htells := State.tellSweeps_touch (TouchM.refl 512 ((s.taken o).sweepSet id plan t cells)) cells rfl
    have hset : TouchM 8704 (s.taken o) ((s.taken o).sweepSet id plan t cells) :=
      State.modRes_touch (TouchM.refl 8704 (s.taken o)) _ rfl
    refine ⟨_, ?_, htells.same .results rfl, (State.tellSweeps_touch hset cells rfl).touch [.results, .links]⟩
    rw [exec_sweep_of_accepts hacc hid, State.sweepCmd_of_idle hnone hoff hrun hkernel hplan hsome hfew hcells htime]
  case start =>
    have htells := State.tellStream_touch (TouchM.refl 512 ((s.taken o).streamSet segs kinds cells)) segs true rfl
    have hset : TouchM 4608 (s.taken o) ((s.taken o).streamSet segs kinds cells) :=
      State.modShunts_touch (TouchM.refl 4608 (s.taken o)) _ rfl
    have hkept : (((s.taken o).streamSet segs kinds cells).tellStream segs true).shunts =
        ((s.taken o).streamSet segs kinds cells).shunts := htells.same .shunts rfl
    refine ⟨((s.taken o).streamSet segs kinds cells).tellStream segs true, ?_, ?_⟩
    · rw [exec_streamStart_of_accepts hacc, State.streamStart_of_capacity hkind hrate]
    · rw [hkept]
      exact ⟨rfl, rfl, rfl, rfl, rfl, (State.tellStream_touch hset segs true rfl).touch [.links, .shunts]⟩
  case stopStream =>
    have htells := State.tellStream_touch (TouchM.refl 512 (s.taken o).streamDropped) (s.taken o).shunts.strSegs false rfl
    have hset : TouchM 4608 (s.taken o) (s.taken o).streamDropped :=
      State.modShunts_touch (TouchM.refl 4608 (s.taken o)) _ rfl
    have hkept : ((s.taken o).streamDropped.tellStream (s.taken o).shunts.strSegs false).shunts =
        (s.taken o).streamDropped.shunts := htells.same .shunts rfl
    refine ⟨_, exec_streamStop_of_accepts hacc, ?_⟩
    rw [hkept]
    exact ⟨rfl, rfl, rfl, (State.tellStream_touch hset _ false rfl).touch [.links, .shunts]⟩
  case wake =>
    rw [exec_wake_of_accepts hacc, State.wakeCmd_of_drydown hst]
  case awake =>
    rw [exec_wake_of_accepts hacc, State.wakeCmd_of_awake hst hexit]
    rfl
  case census =>
    have hloop : PortsOnly ((s.taken o).censusBegun o) ((s.taken o).censusSent o) :=
      PortsOnly.sendFrame (PortsOnly.measureLatency rfl) .b true _
    refine ⟨(s.taken o).censusSent o, (s.taken o).censusGen, State.censusGen_ne _, Nat.mod_lt _ (by decide), ?_, ?_, ?_⟩
    rotate_right
    · rw [exec_census_of_accepts hacc, State.censusCmd_of_idle hst hhead hno hnone hup, ite_bne_zero]
    · rw [hloop]
      exact ite_bne_zero _ _ _
    · rw [hloop]
      rfl

end Sys2Proof.Machine
end

section
/-!
PROOFS. Accords (chapter 10): their four commands, T and the grace time, and the obligation about them.
-/

-- The proofs are elaborated one after another, which keeps the check of the whole text within its memory.
set_option Elab.async false

namespace Sys2Proof.Machine

/-! ### The four commands (R306 to R310) -/

/-- What an accord command leaves: its status is kept for ACC to show (R319). -/
def State.accordKept (r : State × Status) : State := r.1.modAcc (fun a => { a with lastStatus := r.2 })

section
variable {s : State} {o : Origin}

/-- An accord command that is accepted in READY or RUN is judged, and its status kept. -/
theorem State.done_doAccord {op : Nat} (k : State → State × Status) (hacc : s.accepts o op false = true)
    (hst : (s.taken o).glb.st = .ready ∨ (s.taken o).glb.st = .run) :
    (s.arrives o op (fun s => s.doAccord o op k)).done =
      .next ((State.accordKept (k (s.taken o))).reply o op (Result.of (k (s.taken o)).2)).settle := by
  simp only [State.accepts, Bool.and_eq_true, Option.isNone_iff_eq_none] at hacc
  obtain ⟨hreach, hopen⟩ := hacc
  have hamong : (s.taken o).among [.ready, .run] = true := by
    rcases hst with h | h <;> simp [State.among, State.st, h]
  rw [State.arrives_reaches hreach, State.doAccord, State.gated_taken, hopen]
  dsimp only
  rw [if_pos hamong]
  rfl

end

section
variable {a : State} {id : BitVec 16} {t : Nat}

theorem State.accordBegin_of_new (hid : id ≠ 0) (hnew : id.toNat ≠ a.acc.id)
    (hst : a.acc.st = .idle ∨ a.acc.st = .committed ∨ a.acc.st = .rolledBack) :
    a.accordBegin id = (a.modAcc (fun x => { x with
      st := .isOpen, id := id.toNat, count := 0, failed := 0, commitSeen := false, isPartial := false, t := 0
      staged := [] })).accordAnswer .ok := by
  have hother : a.sameAccord id = false := by simp [State.sameAccord, hnew]
  have hfree : ¬(decide (id = 0) || a.sameAccord id) = true := by
    rw [hother, Bool.or_false, decide_eq_true_eq]
    exact hid
  rcases hst with h | h | h
  all_goals
    rw [State.accordBegin, h]
    exact if_neg hfree

section
variable (hsame : a.sameAccord id = true)
include hsame

theorem State.accordPrepare_of_good {count : Nat} (hst : a.acc.st = .isOpen) (hgood : a.judgePrepare count t = .ok) :
    a.accordPrepare id count t = (a.modAcc (fun x => { x with
      st := .prepared, t := t, grace := 1000 * a.fld Fld.accGraceGraceUs })).accordAnswer .ok := by
  refine (if_neg (by simp [hst])).trans ((if_neg (by simp [hsame])).trans ?_)
  rw [hst]
  dsimp only
  rw [hgood]

omit hsame in
/-- COMMIT is noted, and the segments concerned are told. -/
def State.commitNoted (a : State) (t : Nat) : State :=
  each (a.stagedSegs.filter a.linkUp) (fun s g => s.sendDown g (.cmd (.applyAccord t)))
    (a.modAcc (fun x => { x with commitSeen := true }))

omit hsame in
theorem State.commitNoted_touch (a : State) (t : Nat) :
    TouchM 512 (a.modAcc (fun x => { x with commitSeen := true })) (a.commitNoted t) :=
  each_touch _ (TouchM.refl 512 _) fun _ _ h => State.sendDown_touch h _ _ rfl

theorem State.accordCommit_of_prepared (hst : a.acc.st = .prepared) (ht : t = a.acc.t) (hseen : a.acc.commitSeen = false) :
    a.accordCommit id t = if a.now + 50000 ≤ t then (a.commitNoted t).accordAnswer .ok
      else a.splitNow.accordAnswer .accordSplit := by
  refine (if_neg (by simp [hst])).trans ((if_neg (by simp [hsame])).trans ?_)
  rw [hst]
  exact (if_neg (not_not_intro ht)).trans (if_neg (by simp [hseen]))

theorem State.accordAbort_of_open (hst : a.acc.st = .isOpen ∨ a.acc.st = .prepared) :
    a.accordAbort id = (a.rollBack .rolledBack).accordAnswer .ok := by
  rcases hst with h | h
  all_goals
    refine (if_neg (by simp [h])).trans ((if_neg (by simp [hsame])).trans ?_)
    rw [h]

theorem State.accordAbort_of_split (hst : a.acc.st = .split) :
    a.accordAbort id = (a.modAcc (fun x => { x with st := .idle, id := 0, t := 0 })).accordAnswer .ok :=
  (if_pos (by simp [hst])).trans (if_pos hsame)

end

section
variable (hother : a.sameAccord id = false) (hst : a.acc.st ≠ .split)
include hother hst

theorem State.accordCommit_of_other : a.accordCommit id t = a.accordAnswer .rejected :=
  (if_neg (by simp [hst])).trans (if_pos (by simp [hother]))

theorem State.accordAbort_of_other : a.accordAbort id = a.accordAnswer .rejected :=
  (if_neg (by simp [hst])).trans (if_pos (by simp [hother]))

end

theorem State.judgePrepare_of_good {count : Nat} (hcount : count = a.acc.count) (hlow : a.now + 1000000 ≤ t)
    (hhigh : t ≤ a.now + 2 ^ 40) (hlocked : a.tu.st = 2) (hswap : a.play.swapStaged = false)
    (hheld : ∀ g ∈ a.stagedSegs, a.holdsStaged g = true) : a.judgePrepare count t = .ok := by
  have htime : a.timeGood = true := by simp [State.timeGood, hlocked]
  have hall : a.stagedSegs.all a.holdsStaged = true := List.all_eq_true.2 hheld
  refine (if_neg (not_not_intro hcount)).trans ((if_neg ?_).trans ((if_neg (by simp [htime])).trans
    ((if_neg (by simp [hswap])).trans (if_neg (by simp [hall])))))
  exact not_or.2 ⟨Nat.not_lt.2 hlow, Nat.not_lt.2 hhigh⟩

/-! ### Roll-back and split (R310, R312) -/

theorem State.rollBack_acc (a : State) (st : AccState) : (a.rollBack st).acc = { a.acc with st := st, staged := [] } := by
  have hkept (l : List Seg) : (each l (fun s g => s.sendDown g (.cmd .dropAccord)) a).acc = a.acc :=
    (each_touch l (TouchM.refl 512 a) fun _ _ h => State.sendDown_touch h _ _ rfl).same .acc rfl
  exact congrArg (fun x : Accord => { x with st := st, staged := [] }) (hkept _)

theorem State.rollBack_swapStaged (a : State) (st : AccState) : (a.rollBack st).play.swapStaged = false := rfl

theorem State.splitNow_acc (a : State) : a.splitNow.acc = { a.acc with st := .split, staged := [] } :=
  a.rollBack_acc .split

theorem State.splitNow_swapStaged (a : State) : a.splitNow.play.swapStaged = false := rfl

theorem State.splitNow_due (a : State) : ∃ r ∈ a.splitNow.flt.due, r.1.src = .accordSplit ∧ r.1.arg0 = word a.acc.id := by
  have hdue : a.splitNow.flt.due = (a.rollBack .split).flt.due ++
      [(⟨.accordSplit, (a.rollBack .split).now, none, none, word a.acc.id, 0, 0⟩, 0)] := State.raise_due _ _ _ _ _ _ _
  rw [hdue]
  exact ⟨_, List.mem_append_right _ (List.mem_singleton_self _), rfl, rfl⟩

end

/-! ### At T (R311) -/

section
variable {s : State}

theorem State.stagedSwap_id : s.stagedSwap.acc.id = s.acc.id := by
  unfold State.stagedSwap
  split
  · have hkept : s.swapBanks.acc = s.acc := (State.swapBanks_touch (TouchM.refl 1296 s) rfl).same .acc rfl
    rw [hkept]
  · rfl

theorem State.applyOne_id (w : Staged) (last : Bool) : (s.applyOne w last).acc.id = s.acc.id := by
  unfold State.applyOne
  split
  · dsimp only
    split
    · have hkept : (s.applyWindow (windowSeg w.off) w.off w.value w.mask).acc = s.acc :=
        (State.applyWindow_touch (TouchM.refl 4400 s) _ _ _ _ rfl).same .acc rfl
      exact congrArg Accord.id hkept
    · rfl
  · split
    · rfl
    · have hkept (old new v : Word) : (s.writeHub w.off old new v).acc = s.acc :=
        (State.writeHub_touch (TouchM.refl 117178303 s) _ _ _ _ rfl).same .acc rfl
      dsimp only
      split
      · rw [State.stagedSwap_id, hkept]
      · rw [hkept]

theorem State.applyStaged_id (l : List Staged) : (State.applyStaged l s).acc.id = s.acc.id := by
  induction l generalizing s with
  | nil => rfl
  | cons w l ih => exact ih.trans (s.applyOne_id w _)

/-- A segment concerned is free of the accord. -/
def State.freeSegment (s : State) (g : Seg) : State :=
  if (s.segs.get g).accordAt = some s.acc.t then s.modSeg g (fun x => { x with staged := [], accordAt := none })
  else s.sendDown g (.cmd .dropAccord)

/-- The staged writes have been applied and the segments concerned are free. -/
def State.writesApplied (s : State) : State := each s.stagedSegs State.freeSegment (State.applyStaged s.acc.staged s)

/-- The accord is committed. -/
def State.accordDone (s : State) : State :=
  (s.writesApplied.modAcc (fun a => { a with
    st := .committed, staged := [], isPartial := decide (a.failed ≠ 0), applied := some (s.writesApplied.now, a.staged) })).modPlay
    (fun p => { p with swapStaged := false })

theorem State.writesApplied_id : s.writesApplied.acc.id = s.acc.id := by
  have hkept : s.writesApplied.acc = (State.applyStaged s.acc.staged s).acc :=
    (each_touch s.stagedSegs (TouchM.refl 768 _) fun _ _ h =>
      TouchM.ite (State.modSeg_touch h _ _ rfl) (State.sendDown_touch h _ _ rfl)).same .acc rfl
  rw [hkept, State.applyStaged_id]

theorem State.commitNow_eq : s.commitNow = if s.accordDone.acc.failed = 0 then s.accordDone
    else s.accordDone.raise .accordPartial none none (word s.accordDone.acc.id) (word s.accordDone.acc.failed) 0 := rfl

theorem State.commitNow_touch_accordDone : TouchM 1048576 s.accordDone s.commitNow := by
  rw [State.commitNow_eq]
  exact TouchM.ite (TouchM.refl _ _) (State.raise_touch (TouchM.refl _ _) _ _ _ _ _ _ rfl)

end

/-- Settles O54, command by command, then T and the grace time. -/
theorem accordCommands : Obligations.AccordCommands := by
  unfold Obligations.AccordCommands
  refine ⟨fun s o hst => ⟨fun id hacc hid hnew hfree => ?opened, fun id count t hacc hsame hopen hgood => ?prepared,
      fun count t hcount hlow hhigh hlocked hswap hheld => State.judgePrepare_of_good hcount hlow hhigh hlocked hswap hheld,
      fun id t hacc hsame hprep ht hseen => ⟨fun hearly => ?noted, fun hlate => ?splits⟩,
      fun id hacc hsame => ⟨fun hopen => ?aborted, fun hsplit => ?cleared⟩,
      fun id t hother hwhole => ⟨fun hacc => ?commitOther, fun hacc => ?abortOther⟩⟩,
    fun s hpow hprep hseen hdue hcool hstays => ?apply, fun s hpow hprep hseen hdue => ?expires⟩
  case opened =>
    refine (State.done_doAccord _ hacc hst).trans ?_
    rw [State.accordBegin_of_new hid hnew hfree]
    rfl
  case prepared =>
    refine (State.done_doAccord _ hacc hst).trans ?_
    rw [State.accordPrepare_of_good hsame hopen hgood]
    rfl
  case noted =>
    have htells := (s.taken o).commitNoted_touch t
    have hnoted : ((s.taken o).commitNoted t).acc = { (s.taken o).acc with commitSeen := true } := htells.same .acc rfl
    refine ⟨State.accordKept (((s.taken o).commitNoted t).accordAnswer .ok), ?_, ?_, ?_⟩
    · refine (State.done_doAccord _ hacc hst).trans ?_
      rw [State.accordCommit_of_prepared hsame hprep ht hseen, if_pos hearly]
      rfl
    · exact congrArg (fun x : Accord => { x with lastStatus := .ok }) hnoted
    · have hset : TouchM 262656 (s.taken o) ((s.taken o).modAcc (fun x => { x with commitSeen := true })) :=
        State.modAcc_touch (TouchM.refl 262656 _) _ rfl
      exact (State.modAcc_touch (State.modAcc_touch (hset.then htells rfl) _ rfl) _ rfl).touch [.links, .acc]
  case splits =>
    refine ⟨State.accordKept ((s.taken o).splitNow.accordAnswer .accordSplit), ?_, ?_⟩
    · refine (State.done_doAccord _ hacc hst).trans ?_
      rw [State.accordCommit_of_prepared hsame hprep ht hseen, if_neg (Nat.not_le.2 hlate)]
      rfl
    · exact congrArg (fun x : Accord => { x with lastStatus := .accordSplit }) (s.taken o).splitNow_acc
  case aborted =>
    refine ⟨State.accordKept (((s.taken o).rollBack .rolledBack).accordAnswer .ok), ?_, ?_⟩
    · refine (State.done_doAccord _ hacc hst).trans ?_
      rw [State.accordAbort_of_open hsame hopen]
      rfl
    · exact congrArg (fun x : Accord => { x with lastStatus := .ok }) ((s.taken o).rollBack_acc .rolledBack)
  case cleared =>
    refine (State.done_doAccord _ hacc hst).trans ?_
    rw [State.accordAbort_of_split hsame hsplit]
    rfl
  case commitOther =>
    refine (State.done_doAccord _ hacc hst).trans ?_
    rw [State.accordCommit_of_other hother hwhole]
    rfl
  case abortOther =>
    refine (State.done_doAccord _ hacc hst).trans ?_
    rw [State.accordAbort_of_other hother hwhole]
    rfl
  case apply =>
    have hacc : s.commitNow.acc = s.accordDone.acc := State.commitNow_touch_accordDone.same .acc rfl
    have hplay : s.commitNow.play = s.accordDone.play := State.commitNow_touch_accordDone.same .play rfl
    refine ⟨s.commitNow, if_pos (by simp [hpow, hprep, hseen, hdue, hcool, hstays]), ?_⟩
    rw [hacc, hplay]
    exact ⟨rfl, rfl, rfl, rfl, State.writesApplied_id⟩
  case expires =>
    exact ⟨s.splitNow, if_pos (by simp [hpow, hprep, hseen, hdue]), s.splitNow_acc, s.splitNow_swapStaged, s.splitNow_due⟩

end Sys2Proof.Machine
end

section
/-!
PROOFS. Commands of storage, results, self-test, scans, firmware and register reads (chapters 03, 11, 14, 15 and 16), and the
obligation about them.
-/

-- The proofs are elaborated one after another, which keeps the check of the whole text within its memory.
set_option Elab.async false

namespace Sys2Proof.Machine

/-! ### Jobs of the flash (R441, R455) -/

/-- What a job that is queued, or a journal record, keeps of the NVM: the update and what is known of the slots. -/
structure Nvm.Queued (n m : Nvm) : Prop where
  fw : m.fw = n.fw
  slotA : m.slotA = n.slotA
  slotB : m.slotB = n.slotB
  slotValid : m.slotValid = n.slotValid
  slotWriting : m.slotWriting = n.slotWriting

theorem Nvm.queued_settle (n : Nvm) : n.Queued n.settle := by
  unfold Nvm.settle
  split
  · exact ⟨rfl, rfl, rfl, rfl, rfl⟩
  · split <;> exact ⟨rfl, rfl, rfl, rfl, rfl⟩

theorem State.pushJob_queued (s : State) (j : Job) : s.nvm.Queued (s.pushJob j).nvm :=
  let h := Nvm.queued_settle { s.nvm with jobs := s.nvm.jobs ++ [j], lastStatus := .ok }
  ⟨h.fw, h.slotA, h.slotB, h.slotValid, h.slotWriting⟩

theorem State.recordPushed_queued (s : State) (seq head : Nat) (j : Job) :
    s.nvm.Queued ((s.modNvm (fun n => { n with seq := seq, head := head })).pushJob j).nvm :=
  let h := (s.modNvm (fun n => { n with seq := seq, head := head })).pushJob_queued j
  ⟨h.fw, h.slotA, h.slotB, h.slotValid, h.slotWriting⟩

theorem State.appendRecord_queued (s : State) (kind : Nat) (payload : List Byte) :
    s.nvm.Queued (s.appendRecord kind payload).nvm := by
  unfold State.appendRecord
  exact s.recordPushed_queued _ _ _

theorem State.fwState_of_queued {s t : State} (h : s.nvm.Queued t.nvm) (slot : Nat) : t.fwState slot = s.fwState slot := by
  unfold State.fwState
  rw [h.slotA, h.slotB]

theorem State.setFwState_fwState (s : State) (slot code : Nat) : (s.setFwState slot code).fwState slot = code := by
  unfold State.setFwState State.fwState
  by_cases h : slot = 0 <;> simp [h]

theorem State.fwState_setFw (s : State) (x : Option FwUpdate) (slot : Nat) :
    (s.modNvm (fun n => { n with fw := x })).fwState slot = s.fwState slot := rfl

theorem State.orRefused_of_free {s : State} (h : s.writeRefusal = none) (k : State → Option Result × State) :
    s.orRefused k = k s := by
  rw [State.orRefused, h]

theorem State.judgedFromFlash_fw (s : State) (region : Nat) (l : List Byte) :
    (s.judgedFromFlash region l).nvm.fw = s.nvm.fw := by
  unfold State.judgedFromFlash
  split
  · rfl
  · rfl
  · split <;> rfl

theorem State.judgedFromFlash_version (s : State) (region : Nat) (l : List Byte) :
    (s.judgedFromFlash region l).nvm.version = s.nvm.version := by
  unfold State.judgedFromFlash
  split
  · rfl
  · rfl
  · split <;> rfl

/-- Whether a write is inhibited does not depend on the NVM. -/
theorem State.judgedFromFlash_writeRefusal (s : State) (region : Nat) (l : List Byte) :
    (s.judgedFromFlash region l).writeRefusal = s.writeRefusal := by
  unfold State.judgedFromFlash
  split
  · rfl
  · rfl
  · split <;> rfl

section
variable {s : State} {o : Origin}

/-! ### FLACON_LOAD (R90, R332) -/

section
variable {a : State}

/-- A piece lies in the staged bank. -/
def State.pieceLoaded (a : State) (offset total : Nat) (data : List Byte) : State := a.modPlay (fun p => { p with
  staged := { p.staged with bytes := p.staged.bytes ++ data, total := total }
  loading := some (total, offset + data.length) })

/-- The last piece has come, and the flacon is judged. -/
def State.loadJudged (a : State) (v : Verdict) : State :=
  (a.modPlay (fun p => { p with loading := none, staged := { p.staged with complete := true } })).noteVerdict v

/-- In READY, with nothing that keeps the flacons, a flacon command is judged. -/
theorem State.flaconLoad_of_ready (hst : a.glb.st = .ready) (hfree : a.flaconBusy = false) {offset total : Nat}
    {data : List Byte} (hwhole : data.length % 4 = 0) (hfits : offset + data.length ≤ total) (hcap : total ≤ 1048576)
    (hnext : offset ≠ 0 → a.play.loading = some (total, offset)) :
    a.flaconLoad none offset total data =
      let b := (if offset = 0 then a.emptyStaged 0xFE else a).pieceLoaded offset total data
      if offset + data.length < total then (Result.val .ok (offset + data.length), b)
      else (Result.val (b.judgeLoad total b.play.staged.bytes).status (offset + data.length),
        b.loadJudged (b.judgeLoad total b.play.staged.bytes)) := by
  refine (if_neg (by simp [State.st, hst])).trans ((if_neg (by simp [hfree])).trans ((if_neg ?_).trans
    (if_neg (Nat.not_lt.2 hcap))))
  rintro (h | h | ⟨h, hother⟩)
  · exact h hwhole
  · omega
  · exact hother (hnext h)

/-- The bytes that a flacon slot holds. -/
def State.slotBytesHeld (a : State) (i : Fin 8) : Nat :=
  if a.nvm.slotValid.getLsbD i.val then (find? a.nvm.slotTotal i.val).getD 0 else 0

/-- A slot's bytes lie in the staged bank. -/
def State.slotLoaded (a : State) (i : Fin 8) : State := (a.emptyStaged i.val).modPlay (fun p => { p with
  staged := { p.staged with
    bytes := a.flashRead (regionStart (slotRegion i.val)) (a.slotBytesHeld i), total := a.slotBytesHeld i, complete := true } })

/-- What a load from a slot judges. -/
def State.slotVerdict (a : State) (i : Fin 8) : Verdict :=
  (a.slotLoaded i).judgeLoad (a.slotBytesHeld i) (a.flashRead (regionStart (slotRegion i.val)) (a.slotBytesHeld i))

/-- The verdict stands, the copies in flash have been compared and a repair may start. -/
def State.slotJudged (a : State) (i : Fin 8) : State :=
  let s := (a.slotLoaded i).noteVerdict (a.slotVerdict i)
  (if (a.slotVerdict i).rule = 1 ∨ (a.slotVerdict i).rule = 2 then s else s.judgedFromFlash (slotRegion i.val)
    (a.flashRead (regionStart (slotRegion i.val)) (a.slotBytesHeld i))).startRepair

theorem State.flaconLoad_of_slot (hst : a.glb.st = .ready) (hfree : a.flaconBusy = false) (i : Fin 8) (offset total : Nat)
    (data : List Byte) : a.flaconLoad (some i) offset total data =
      (Result.val (a.slotVerdict i).status (a.slotBytesHeld i), a.slotJudged i) :=
  (if_neg (by simp [State.st, hst])).trans (if_neg (by simp [hfree]))

theorem State.slotJudged_play (i : Fin 8) :
    (a.slotJudged i).play = ((a.slotLoaded i).noteVerdict (a.slotVerdict i)).play :=
  (State.startRepair_touch (TouchM.ite (TouchM.refl 9437184 _) (State.judgedFromFlash_touch (TouchM.refl 9437184 _) _ _ rfl))
    rfl).same .play rfl

theorem exec_flaconLoad_of_accepts {slot : Option (Fin 8)} {offset total : Nat} {data : List Byte}
    (hacc : s.accepts o 0x20 false = true) : exec (.flaconLoad o slot offset total data) s =
      .next (((s.taken o).flaconLoad slot offset total data).2.reply o 0x20
        ((s.taken o).flaconLoad slot offset total data).1).settle :=
  congrArg State.done (State.arrives_accepts hacc _)

/-! ### FLACON_VERIFY, FLACON_ERASE (R90, R91) -/

theorem exec_flaconVerify_of_accepts {store : Option (Fin 8)} (hacc : s.accepts o 0x21 false = true) :
    exec (.flaconVerify o store) s =
      .next (State.conclude o 0x21 (swapPair ((s.taken o).flaconVerify o store))).settle :=
  congrArg State.done (State.arrives_accepts hacc _)

/-- The segments that a flacon cannot be shared to have answered TIMEOUT. -/
def State.absentAnswers (a : State) : List (Nat × Status) :=
  (allSegs.filter (fun g => !a.linkUp g)).map (fun g => (g.val, Status.timeout))

/-- A flacon that passes its checks is shared to the segments whose link is up. -/
def State.shared (a : State) (v : Verdict) (store : Option (Fin 8)) : State :=
  (each (allSegs.filter (fun g => a.linkUp g)) (fun s g => s.sendShare g 1 (shareOf a.play.staged.bytes g.val))
    (a.unverify.noteVerdict v)).modPlay (fun p => { p with
      verify := some ⟨o, store.map Fin.val, v.status, a.absentAnswers⟩ })

section
variable (hst : a.glb.st = .ready) (hfree : a.flaconBusy = false) (hwhole : a.play.staged.complete = true)
  {store : Option (Fin 8)}
include hst hfree hwhole

theorem State.flaconVerify_of_bad {v : Verdict} (hv : a.judgeVerify a.play.staged.total a.play.staged.bytes = v)
    (hbad : v.rule ≠ 0) : a.flaconVerify o store = (some (Result.of v.status), a.unverify.noteVerdict v) := by
  refine (if_neg (by simp [State.st, hst])).trans ((if_neg (by simp [hfree])).trans ((if_neg (by simp [hwhole])).trans ?_))
  dsimp only
  rw [hv, if_pos hbad]

theorem State.flaconVerify_of_good {v : Verdict} (hv : a.judgeVerify a.play.staged.total a.play.staged.bytes = v)
    (hgood : v.rule = 0) : a.flaconVerify o store = match (a.shared (o := o) v store).concludeVerify with
      | (s, some (_, r)) => (some r, s)
      | (s, none) => (none, s) := by
  refine (if_neg (by simp [State.st, hst])).trans ((if_neg (by simp [hfree])).trans ((if_neg (by simp [hwhole])).trans ?_))
  dsimp only
  rw [hv, if_neg (not_not_intro hgood)]
  rfl

end

theorem State.absentAnswers_of_up {g : Seg} (hup : a.linkUp g = true) : find? a.absentAnswers g.val = none := by
  refine find?_of_not_mem fun e he heq => ?_
  obtain ⟨j, hj, rfl⟩ := List.mem_map.1 he
  have hdown := (List.mem_filter.1 hj).2
  rw [Fin.ext heq, hup] at hdown
  exact absurd hdown (by decide)

/-- While a segment has still to answer, nothing is concluded. -/
theorem State.concludeVerify_of_open {v : VerifyJob} (hv : a.play.verify = some v) {g : Seg}
    (hopen : find? v.answers g.val = none) : a.concludeVerify = (a, none) := by
  have hany : allSegs.any (fun g => (find? v.answers g.val).isNone) = true :=
    List.any_eq_true.2 ⟨g, List.mem_finRange g, by simp [hopen]⟩
  rw [State.concludeVerify, hv]
  exact if_pos hany

theorem State.shares_touch {m : Nat} {t b : State} (h : TouchM m t b) (l : List Seg) (bytes : List Byte)
    (hm : Nat.land 512 m = 512) :
    TouchM m t (each l (fun s g => s.sendShare g 1 (shareOf bytes g.val)) b) :=
  each_touch _ h fun _ _ h => State.sendShare_touch h _ _ _ hm

theorem exec_flaconErase_of_accepts {target : BitVec 8} (hacc : s.accepts o 0x22 false = true) :
    exec (.flaconErase o target) s =
      .next (State.conclude o 0x22 (swapPair ((s.taken o).flaconErase o target.toNat))).settle :=
  congrArg State.done (State.arrives_accepts hacc _)

/-- A slot is marked as one that is being erased. -/
def State.slotMarked (a : State) (i : Nat) : State :=
  (a.appendRecord 7 (leBytes 1 (slotRegion i) ++ zeros 3 ++ leBytes 4 (a.eraseCount (1000 + slotRegion i) + 1))).modNvm
    (fun n => { n with slotValid := setBit8 n.slotValid i false, slotWriting := setBit8 n.slotWriting i true })

/-- The erase of a slot is queued. -/
def State.slotErasing (a : State) (i : Nat) (o : Origin) : State :=
  (a.slotMarked i).pushJob ⟨slotRegion i, eraseBlocks (regionStart (slotRegion i)) 16, .eraseSlot i o⟩

theorem State.slotErasing_touch (i : Nat) : TouchM 8388608 a (a.slotErasing i o) :=
  State.pushJob_touch (State.modNvm_touch (State.appendRecord_touch (TouchM.refl 8388608 a) _ _ rfl) _ rfl) _ rfl

theorem State.slotErasing_nvm (i : Nat) : (a.slotErasing i o).nvm.slotValid = setBit8 a.nvm.slotValid i false ∧
    (a.slotErasing i o).nvm.slotWriting = setBit8 a.nvm.slotWriting i true := by
  have hrecord := a.appendRecord_queued 7
    (leBytes 1 (slotRegion i) ++ zeros 3 ++ leBytes 4 (a.eraseCount (1000 + slotRegion i) + 1))
  have hmarked : (a.slotMarked i).nvm.slotValid = setBit8 a.nvm.slotValid i false ∧
      (a.slotMarked i).nvm.slotWriting = setBit8 a.nvm.slotWriting i true :=
    ⟨congrArg (fun x => setBit8 x i false) hrecord.slotValid, congrArg (fun x => setBit8 x i true) hrecord.slotWriting⟩
  have hqueued := (a.slotMarked i).pushJob_queued
    ⟨slotRegion i, eraseBlocks (regionStart (slotRegion i)) 16, .eraseSlot i o⟩
  exact ⟨hqueued.slotValid.trans hmarked.1, hqueued.slotWriting.trans hmarked.2⟩

section
variable (hst : a.glb.st = .ready) (hfree : a.flaconBusy = false)
include hst hfree

theorem State.flaconErase_of_slot {target : Nat} (hslot : target < 8) (hwrite : a.writeRefusal = none) :
    a.flaconErase o target = (none, a.slotErasing target o) := by
  refine (if_neg (by simp [State.st, hst])).trans ((if_neg (by omega)).trans ((if_neg (by simp [hfree])).trans
    ((if_neg (by omega)).trans ?_)))
  rw [hwrite]
  rfl

theorem State.flaconErase_of_staged : a.flaconErase o 0xFE = (some (Result.of .ok), a.emptyStaged 0xFF) :=
  (if_neg (by simp [State.st, hst])).trans ((if_neg (by omega)).trans ((if_neg (by simp [hfree])).trans (if_pos rfl)))

end

/-! ### RESULT_FETCH, NVM_LOG_READ (R343, R344, R456) -/

theorem exec_resultFetch_of_accepts {slot gen : Nat} (hacc : s.accepts o 0x41 true = true) (hslot : slot < 16384) :
    exec (.resultFetch o slot gen) s =
      .next (((s.taken o).fetchResult slot gen).2.reply o 0x41 ((s.taken o).fetchResult slot gen).1).settle :=
  congrArg State.done ((State.arrives_accepts hacc _).trans
    (congrArg (State.conclude o 0x41) (if_neg (Nat.not_le.2 hslot))))

theorem State.fetchResult_of_gen {slot gen : Nat} {x : Slot} (hfind : find? a.results.slots slot = some x)
    (hgen : gen = x.record.gen ∨ gen = 0) : a.fetchResult slot gen =
      (⟨.ok, x.record.gen, recordBytes x.record x.reads false⟩,
        a.modSlot slot (fun x => { x with reads := Nat.min 255 (x.reads + 1) })) := by
  rw [State.fetchResult, hfind]
  exact if_pos hgen

theorem exec_marks_of_accepts {items : List (Nat × Nat × Nat)} (hacc : s.accepts o 0x41 false = true) :
    exec (.marks o items) s =
      .next (((s.taken o).takeMarks o items).2.reply o 0x41 ((s.taken o).takeMarks o items).1).settle :=
  congrArg State.done (State.arrives_accepts hacc _)

/-- One figure of the marks is taken. -/
def State.takeMark (s : State) (e : Nat × Nat × Nat) : State :=
  s.modLoop (fun l => { l with marks := assign l.marks e.1 e.2 })

theorem State.takeMarks_of_own {tag : Nat} {x : Outstanding} (items : List (Nat × Nat × Nat)) (hhead : a.isHead = true)
    (hfind : a.host.outstanding.find? (fun x => x.tag == tag) = some x) (hown : x.position = 0) :
    a.takeMarks (.ring tag) items = (Result.of .ok, each items State.takeMark a) := by
  have hhere : (match a.host.outstanding.find? (fun x => x.tag == tag) with
      | some x => x.position == 0
      | none => true) = true := by
    rw [hfind]
    exact beq_iff_eq.2 hown
  exact if_pos (Bool.and_eq_true_iff.2 ⟨hhead, hhere⟩)

theorem exec_nvmLogRead_of_accepts {source index : Nat} (hacc : s.accepts o 0x90 false = true) :
    exec (.nvmLogRead o source index) s = .next ((s.taken o).reply o 0x90 ((s.taken o).logRead source index)).settle :=
  congrArg State.done (State.arrives_accepts hacc _)

/-! ### BIST_RUN, CHECK_SCAN (R423, R429) -/

theorem exec_bistRun_of_accepts {n : Option Slice} (hacc : s.accepts o 0x70 false = true) :
    exec (.bistRun o n) s = .next (State.conclude o 0x70 ((s.taken o).bistCmd o n)).settle :=
  congrArg State.done (State.arrives_accepts hacc _)

/-- The slices that a BIST_RUN runs. -/
def State.slicesAsked (a : State) (n : Option Slice) : List Slice :=
  match n with
  | some n => [n]
  | none => a.enabledSlices

/-- A BIST_RUN waits for its slices. -/
def State.bistAsked (a : State) (o : Origin) (n : Option Slice) : State := a.modBist (fun b => { b with
  cmdOrigin := some o, cmdAll := n.isNone, cmdPassed := 0, cmdFailed := 0, cmdAborted := 0, cmdFirst := none
  queue := a.slicesAsked n, mode := .command, reruns := 0, waitFrom := a.now })

theorem State.bistCmd_of_free {n : Option Slice}
    (hst : a.glb.st = .ready ∨ a.glb.st = .run ∨ a.glb.st = .halt ∨ a.glb.st = .orphan) (hnone : a.bist.cmdOrigin = none) :
    a.bistCmd o n = ((a.bistAsked o n).nextSlice, none) := by
  unfold State.bistCmd State.st
  rcases hst with h | h | h | h
  all_goals
    rw [h]
    exact if_neg (by simp [hnone])

theorem exec_checkScan_of_accepts {c : Fin 4} (hacc : s.accepts o 0x71 false = true) :
    exec (.checkScan o c) s = .next (State.conclude o 0x71 ((s.taken o).checkCmd o c)).settle :=
  congrArg State.done (State.arrives_accepts hacc _)

/-- A scan begins, or waits for its context's slice. -/
def State.scanBegun (a : State) (c : Fin 4) (o : Option Origin) : State := a.modChk c (fun _ => { a.scanRequest c with
  st := if a.chkUnderTest c then .waiting else .running, status := .ok, origin := o })

theorem State.startScan_of_good {c : Fin 4} {o : Option Origin} (hgood : a.judgeScan c = .ok) :
    a.startScan c o = (.ok, a.scanBegun c o) := by
  rw [State.startScan, hgood]
  rfl

theorem State.checkCmd_of_good {c : Fin 4} (hopen : a.chkLocked c = false) (hgood : a.judgeScan c = .ok) :
    a.checkCmd o c = (a.scanBegun c (some o), none) := by
  refine (if_neg (by simp [hopen])).trans ?_
  rw [State.startScan_of_good hgood]

/-! ### FW_UPDATE (R453) -/

theorem State.arrives_doFw (hacc : s.accepts o 0xA0 false = true) (k : State → Option Result × State) :
    (s.arrives o 0xA0 (fun s => s.doFw o k)).done = .next (State.conclude o 0xA0 (swapPair (k (s.taken o)))).settle :=
  congrArg State.done (State.arrives_accepts hacc _)

/-- An update of the idle slot has begun. -/
def State.updateMarked (a : State) (total version : Nat) : State :=
  ((a.appendRecord 5 (slotBytes (1 + a.idleSlot) total version)).setFwState a.idleSlot 2).modNvm (fun n => { n with
    fw := some ⟨a.idleSlot, total, version, 0⟩ })

/-- The erase of its slot is queued. -/
def State.updateBegun (a : State) (o : Origin) (total version : Nat) : State := (a.updateMarked total version).pushJob
  ⟨1 + a.idleSlot, eraseBlocks (regionStart (1 + a.idleSlot)) ((total + 0xFFFF) / 0x10000), .fwBegin a.idleSlot o⟩

theorem State.updateBegun_nvm (total version : Nat) :
    (a.updateBegun o total version).nvm.fw = some ⟨a.idleSlot, total, version, 0⟩ ∧
      (a.updateBegun o total version).fwState a.idleSlot = 2 := by
  have hmarked : (a.updateMarked total version).fwState a.idleSlot = 2 := by
    rw [State.updateMarked, State.fwState_setFw, State.setFwState_fwState]
  have hqueued := (a.updateMarked total version).pushJob_queued
    ⟨1 + a.idleSlot, eraseBlocks (regionStart (1 + a.idleSlot)) ((total + 0xFFFF) / 0x10000), .fwBegin a.idleSlot o⟩
  exact ⟨hqueued.fw, (State.fwState_of_queued hqueued _).trans hmarked⟩

/-- The copies of the image that an update has brought have been compared. -/
def State.imageCompared (a : State) (f : FwUpdate) : State :=
  if check1 fwMagic fwMagicEnd 0x200000 f.total (a.flashRead (regionStart (1 + f.slot)) f.total)
  then a.judgedFromFlash (1 + f.slot) (a.flashRead (regionStart (1 + f.slot)) f.total) else a

theorem State.imageCompared_fw (f : FwUpdate) : (a.imageCompared f).nvm.fw = a.nvm.fw := by
  unfold State.imageCompared
  split
  · exact State.judgedFromFlash_fw _ _ _
  · rfl

theorem State.imageCompared_version (f : FwUpdate) : (a.imageCompared f).nvm.version = a.nvm.version := by
  unfold State.imageCompared
  split
  · exact State.judgedFromFlash_version _ _ _
  · rfl

theorem State.imageCompared_flag (f : FwUpdate) (x : Field) : (a.imageCompared f).flag x = a.flag x := by
  have hregs : (a.imageCompared f).regs = a.regs :=
    (TouchM.ite (State.judgedFromFlash_touch (TouchM.refl 9437184 a) _ _ rfl) (TouchM.refl 9437184 a)).same .regs rfl
  unfold State.flag State.fld State.stored
  rw [hregs]

theorem State.imageCompared_writeRefusal (f : FwUpdate) : (a.imageCompared f).writeRefusal = a.writeRefusal := by
  unfold State.imageCompared
  split
  · exact State.judgedFromFlash_writeRefusal _ _ _
  · rfl

/-- An update has ended with its slot VERIFIED. -/
def State.updateEnded (a : State) (f : FwUpdate) : State :=
  ((a.appendRecord 6 (slotBytes (1 + f.slot) f.total f.version ++ leBytes 4 (a.eraseCount (1000 + (1 + f.slot))))).setFwState
    f.slot 3).modNvm (fun n => { n with fw := none })

/-- Its command is answered in its turn. -/
def State.updateVerified (a : State) (o : Origin) (f : FwUpdate) (st : Status) (version : Nat) : State :=
  (a.updateEnded f).pushJob ⟨1 + f.slot, [], .answer o 0xA0 st version⟩

theorem State.updateVerified_nvm (f : FwUpdate) (st : Status) (version : Nat) :
    (a.updateVerified o f st version).nvm.fw = none ∧ (a.updateVerified o f st version).fwState f.slot = 3 := by
  have hended : (a.updateEnded f).fwState f.slot = 3 := by
    rw [State.updateEnded, State.fwState_setFw, State.setFwState_fwState]
  have hqueued := (a.updateEnded f).pushJob_queued ⟨1 + f.slot, [], .answer o 0xA0 st version⟩
  exact ⟨hqueued.fw, (State.fwState_of_queued hqueued _).trans hended⟩

section
variable (hst : a.glb.st = .ready) (hfree : a.flashCommand = false) (hwrite : a.writeRefusal = none)

omit hst hfree hwrite in
theorem State.fwAccepted_of_ready (hst : a.glb.st = .ready) : ¬(!a.fwAccepted) = true := by
  simp [State.fwAccepted, State.st, hst]

include hst hfree hwrite

theorem State.fwBegin_of_free {total version : Nat} (hfits : total ≤ 0x200000) :
    a.fwBegin o total version = (none, a.updateBegun o total version) :=
  (if_neg (State.fwAccepted_of_ready hst)).trans ((if_neg (by simp [hfree])).trans ((if_neg (Nat.not_lt.2 hfits)).trans
    (State.orRefused_of_free hwrite _)))

theorem State.fwChunk_of_next {f : FwUpdate} {offset : Nat} {data : List Byte} (hfw : a.nvm.fw = some f)
    (hnext : offset = f.received) (hwhole : data.length % 4 = 0) (hsome : data ≠ []) (hfits : offset + data.length ≤ f.total) :
    a.fwChunk o offset data = (none, a.pushJob ⟨1 + f.slot, programOps (regionStart (1 + f.slot) + offset) data,
      .fwChunk (offset + data.length) o⟩) := by
  have hlen : data.length ≠ 0 := fun h => hsome (List.length_eq_zero_iff.1 h)
  refine (if_neg (State.fwAccepted_of_ready hst)).trans ((if_neg (by simp [hfree])).trans ?_)
  rw [hfw]
  exact (if_neg (by omega)).trans (State.orRefused_of_free hwrite _)

omit hwrite in
theorem State.fwVerify_of_whole {f : FwUpdate} (hfw : a.nvm.fw = some f) (hwhole : f.total ≤ f.received) : a.fwVerify o =
    if a.checkSlot f.slot f.total == .checkFail then
      (some (Result.val (a.checkSlot f.slot f.total) (a.slotVersion f.slot)), a.imageCompared f)
    else if a.slotVersion f.slot < (a.imageCompared f).nvm.version ∧ !(a.imageCompared f).flag Fld.nvmCtrlAllowDowngrade then
      (some (Result.val .rejected (a.slotVersion f.slot)), a.imageCompared f)
    else (a.imageCompared f).orRefused (fun s =>
      (none, s.updateVerified o f (a.checkSlot f.slot f.total) (a.slotVersion f.slot))) := by
  refine (if_neg (State.fwAccepted_of_ready hst)).trans ((if_neg (by simp [hfree])).trans ?_)
  rw [hfw]
  exact if_neg (Nat.not_lt.2 hwhole)

omit hst hfree hwrite in
/-- The image is admitted: its checks, and its version or leave to go back. -/
def State.imageAdmitted (a : State) (f : FwUpdate) : Prop := a.checkSlot f.slot f.total ≠ .checkFail ∧
  (a.nvm.version ≤ a.slotVersion f.slot ∨ a.flag Fld.nvmCtrlAllowDowngrade = true)

theorem State.fwVerify_of_admitted {f : FwUpdate} (hfw : a.nvm.fw = some f) (hwhole : f.total ≤ f.received)
    (hgood : a.imageAdmitted f) : a.fwVerify o =
      (none, (a.imageCompared f).updateVerified o f (a.checkSlot f.slot f.total) (a.slotVersion f.slot)) := by
  obtain ⟨hcheck, hversion⟩ := hgood
  rw [State.fwVerify_of_whole hst hfree hfw hwhole, if_neg (by simp [hcheck]), State.imageCompared_version,
    State.imageCompared_flag, if_neg ?_]
  · exact State.orRefused_of_free ((State.imageCompared_writeRefusal f).trans hwrite) _
  · rintro ⟨hold, hfixed⟩
    rcases hversion with h | h
    · exact absurd hold (Nat.not_lt.2 h)
    · simp [h] at hfixed

omit hwrite in
theorem State.fwVerify_of_refused {f : FwUpdate} (hfw : a.nvm.fw = some f) (hwhole : f.total ≤ f.received)
    (hbad : ¬a.imageAdmitted f) : a.fwVerify o = (some (Result.val (if a.checkSlot f.slot f.total = .checkFail
      then a.checkSlot f.slot f.total else .rejected) (a.slotVersion f.slot)), a.imageCompared f) := by
  rw [State.fwVerify_of_whole hst hfree hfw hwhole, State.imageCompared_version, State.imageCompared_flag]
  by_cases hcheck : a.checkSlot f.slot f.total = .checkFail
  · rw [if_pos (by simp [hcheck]), if_pos hcheck]
  · have hversion : ¬(a.nvm.version ≤ a.slotVersion f.slot ∨ a.flag Fld.nvmCtrlAllowDowngrade = true) :=
      fun h => hbad ⟨hcheck, h⟩
    rw [not_or] at hversion
    rw [if_neg (by simp [hcheck]), if_neg hcheck, if_pos ⟨Nat.not_le.1 hversion.1, by simpa using hversion.2⟩]

theorem State.fwActivate_of_verified (hslot : a.fwState a.idleSlot = 3) : a.fwActivate o =
    (none, a.pushJob ⟨0, a.slotRecOps a.idleSlot true (a.slotVersion a.idleSlot), .fwActivate a.idleSlot o⟩) :=
  (if_neg (by simp [State.st, hst])).trans ((if_neg (by simp [hfree])).trans
    ((if_neg (not_not_intro hslot)).trans (State.orRefused_of_free hwrite _)))

omit hfree hwrite in
theorem State.fwAbort_of_none (hfw : a.nvm.fw = none) : a.fwAbort = (some (Result.of .ok), a) := by
  refine (if_neg (State.fwAccepted_of_ready hst)).trans ?_
  rw [hfw]

theorem State.fwKey_of_open {key : List Byte} (hopen : a.flag Fld.playFlaconPolicyLock = false) :
    a.fwKey o key = (none, a.writeConfig key a.corrections o) :=
  (if_neg (by simp [State.st, hst])).trans ((if_neg (by simp [hopen])).trans ((if_neg (by simp [hfree])).trans
    (State.orRefused_of_free hwrite _)))

end

/-! ### REG_READ, REG_READ_BLOCK (R468 to R472) -/

theorem exec_regRead_of_plain {off : Nat} (ho : o ≠ .bar0) (hacc : s.accepts o 0x01 (decide (off < 0x1000)) = true)
    (halign : off % 4 = 0) (hin : off < 0x10000) (hbar : (s.taken o).barWrites off = []) : exec (.regRead o off) s =
      .next (((s.taken o).readAt off false).2.reply o 0x01 (Result.val .ok ((s.taken o).readAt off false).1.toNat)).settle := by
  cases o
  case bar0 => exact absurd rfl ho
  case ring | loop | bcast =>
    refine congrArg State.done ((State.arrives_accepts hacc _).trans ?_)
    rw [if_neg (by simp [badOffset, halign, hin]), if_neg (by simp [hbar])]
    rfl

theorem exec_regReadBlock_of_whole {off count : Nat} (hacc : s.accepts o 0x03 false = true) (halign : off % 4 = 0)
    (hsome : 1 ≤ count) (hmany : count ≤ 60) (hin : off + 4 * count ≤ 0x10000) : exec (.regReadBlock o off count) s =
      .next (((s.taken o).readMany off count).2.reply o 0x03
        ⟨.ok, 0, (((s.taken o).readMany off count).1.map (fun (w : Word) => leBytes 4 w.toNat)).flatten⟩).settle :=
  congrArg State.done ((State.arrives_accepts hacc _).trans (congrArg (State.conclude o 0x03) (if_neg (by omega))))

end

end

/-- Settles O55, command by command. -/
theorem storageCommands : Obligations.StorageCommands := by
  unfold Obligations.StorageCommands
  intro s o
  refine ⟨fun total data hacc hst hfree hwhole hmore hcap => ?first,
    fun offset total data hacc hst hfree hwhole hoff hnext hfits hcap => ⟨fun hmore => ?further, fun hlast => ?last⟩,
    fun i offset total data hacc hst hfree => ?slot, fun store hacc hst hfree hwhole hbad => ?bad,
    fun store hacc hst hfree hwhole hgood ⟨g, hup⟩ => ?good, fun target hacc hst hfree hslot hwrite => ?erase,
    fun hacc hst hfree => ?eraseStaged, fun slot gen x hacc hslot hfind hgen => ?fetch,
    fun items tag x hacc ho hhead hfind hown => ?marks, fun source index hacc => exec_nvmLogRead_of_accepts hacc,
    fun n hacc hst hnone => ?bist, fun c hacc hopen hgood => ?scan, fun hacc hst hfree hwrite =>
      ⟨fun total version hfits => ?fwBegin, fun f offset data hfw hnext hwhole hsome hfits => ?fwChunk,
        fun f hfw hwhole => ?fwVerify, fun hslot => ?fwActivate, fun hfw => ?fwAbort, fun key hopen => ?fwKey⟩,
    fun off ho hacc halign hin hbar => exec_regRead_of_plain ho hacc halign hin hbar,
    fun off count hacc halign hsome hmany hin => exec_regReadBlock_of_whole hacc halign hsome hmany hin,
    fun off hlow hhigh => (if_neg hlow).trans (if_neg hhigh)⟩
  case first =>
    rw [exec_flaconLoad_of_accepts hacc, State.flaconLoad_of_ready hst hfree hwhole (by omega) hcap (fun h => absurd rfl h)]
    dsimp only
    rw [Nat.zero_add, if_pos hmore, if_pos rfl, State.pieceLoaded, Nat.zero_add]
    rfl
  case further =>
    rw [exec_flaconLoad_of_accepts hacc, State.flaconLoad_of_ready hst hfree hwhole hfits hcap (fun _ => hnext)]
    dsimp only
    rw [if_pos hmore, if_neg hoff]
    rfl
  case last =>
    rw [exec_flaconLoad_of_accepts hacc, State.flaconLoad_of_ready hst hfree hwhole hfits hcap (fun _ => hnext)]
    dsimp only
    rw [if_neg (by omega), if_neg hoff, State.pieceLoaded, hlast]
    rfl
  case slot =>
    refine ⟨(s.taken o).slotJudged i, ((s.taken o).slotVerdict i).status, ?_, ?_⟩
    · rw [exec_flaconLoad_of_accepts hacc, State.flaconLoad_of_slot hst hfree]
      rfl
    · rw [State.slotJudged_play]
      exact ⟨rfl, rfl, rfl, rfl, rfl, rfl⟩
  case bad =>
    rw [exec_flaconVerify_of_accepts hacc, State.flaconVerify_of_bad hst hfree hwhole rfl hbad]
    rfl
  case good =>
    have hverdict : TouchM 1536 (s.taken o) ((s.taken o).unverify.noteVerdict
        ((s.taken o).judgeVerify (s.taken o).play.staged.total (s.taken o).play.staged.bytes)) :=
      State.noteVerdict_touch (State.unverify_touch (TouchM.refl 1536 _) rfl) _ rfl
    have hkept := (State.shares_touch (TouchM.refl 512 ((s.taken o).unverify.noteVerdict
      ((s.taken o).judgeVerify (s.taken o).play.staged.total (s.taken o).play.staged.bytes)))
      (allSegs.filter (fun g => (s.taken o).linkUp g)) (s.taken o).play.staged.bytes rfl).same .play rfl
    refine ⟨(s.taken o).shared (o := o) _ store, ?_,
      (State.modPlay_touch (State.shares_touch hverdict _ _ rfl) _ rfl).touch [.links, .play], rfl,
      congrArg (fun p => p.staged.verified) hkept⟩
    rw [exec_flaconVerify_of_accepts hacc, State.flaconVerify_of_good hst hfree hwhole rfl hgood,
        State.concludeVerify_of_open rfl (State.absentAnswers_of_up hup)]
    rfl
  case erase =>
    refine ⟨(s.taken o).slotErasing target.toNat o, ?_, (State.slotErasing_touch _).touch [.nvm], State.slotErasing_nvm _⟩
    rw [exec_flaconErase_of_accepts hacc, State.flaconErase_of_slot hst hfree hslot hwrite]
    rfl
  case eraseStaged =>
    refine (exec_flaconErase_of_accepts hacc).trans ?_
    have hall : (0xFE : BitVec 8).toNat = 0xFE := rfl
    rw [hall, State.flaconErase_of_staged hst hfree]
    rfl
  case fetch =>
    rw [exec_resultFetch_of_accepts hacc hslot, State.fetchResult_of_gen hfind hgen]
  case marks =>
    subst ho
    have htouch : TouchM 65536 (s.taken (.ring tag)) (each items State.takeMark (s.taken (.ring tag))) :=
      each_touch _ (TouchM.refl _ _) fun _ _ h => State.modLoop_touch h _ rfl
    refine ⟨_, ?_, htouch.touch [.loop], fun i hone => ?_⟩
    · rw [exec_marks_of_accepts hacc, State.takeMarks_of_own items hhead hfind hown]
    · subst hone
      rfl
  case bist =>
    rw [exec_bistRun_of_accepts hacc, State.bistCmd_of_free hst hnone]
    cases n <;> rfl
  case scan =>
    refine ⟨(s.taken o).scanBegun c (some o), ?_, (State.modChk_touch (TouchM.refl 4194304 _) _ _ rfl).touch [.chk], ?_⟩
    · rw [exec_checkScan_of_accepts hacc, State.checkCmd_of_good hopen hgood]
    · rw [State.scanBegun, State.modChk_chk, Vec.get_modify_self]
      exact ⟨rfl, rfl, rfl⟩
  case fwBegin =>
    refine ⟨(s.taken o).updateBegun o total version, ?_, State.updateBegun_nvm total version⟩
    refine (State.arrives_doFw hacc _).trans ?_
    rw [State.fwBegin_of_free hst hfree hwrite hfits]
    rfl
  case fwChunk =>
    refine (State.arrives_doFw hacc _).trans ?_
    rw [State.fwChunk_of_next hst hfree hwrite hfw hnext hwhole hsome hfits]
    rfl
  case fwVerify =>
    have hrow : exec (.verify o) s = .next (State.conclude o 0xA0 (swapPair ((s.taken o).fwVerify o))).settle :=
      State.arrives_doFw hacc _
    by_cases hgood : (s.taken o).imageAdmitted f
    · refine ⟨((s.taken o).imageCompared f).updateVerified o f ((s.taken o).checkSlot f.slot f.total)
        ((s.taken o).slotVersion f.slot), fun _ => ⟨?_, State.updateVerified_nvm f _ _⟩, fun hbad => absurd hgood hbad⟩
      rw [hrow, State.fwVerify_of_admitted hst hfree hwrite hfw hwhole hgood]
      rfl
    · refine ⟨(s.taken o).imageCompared f, fun h => absurd h hgood, fun _ => ⟨?_, (State.imageCompared_fw f).trans hfw⟩⟩
      rw [hrow, State.fwVerify_of_refused hst hfree hfw hwhole hgood]
      rfl
  case fwActivate =>
    refine (State.arrives_doFw hacc _).trans ?_
    rw [State.fwActivate_of_verified hst hfree hwrite hslot]
    rfl
  case fwAbort =>
    refine (State.arrives_doFw hacc _).trans ?_
    rw [State.fwAbort_of_none hst hfw]
    rfl
  case fwKey =>
    refine (State.arrives_doFw hacc _).trans ?_
    rw [State.fwKey_of_open hst hfree hwrite hopen]
    rfl

end Sys2Proof.Machine
end

section
/-!
PROOFS. The rows that write a register (chapter 16): how a write is judged and where it goes, and the obligation about them.
-/

-- The proofs are elaborated one after another, which keeps the check of the whole text within its memory.
set_option Elab.async false

namespace Sys2Proof.Machine

/-! ### Writes that come directly and writes that are staged (R322, R468) -/

theorem Wr.direct_of_loop {w : Wr} (h : w.origin ≠ .bar0) : Wr.direct w = w := by
  unfold Wr.direct
  split
  · exact absurd ‹_› h
  all_goals rfl

theorem Wr.direct_accord_of_bar {w : Wr} (h : w.origin = .bar0) : (Wr.direct w).accord = 0 := by
  unfold Wr.direct
  rw [h]

/-! ### The judgement of a write (R473, R474) -/

section
variable {a : State} {off : Nat} {w : Wr} {d : RegDef}

/-- The module state refuses a write with a status that is not OK. -/
theorem State.writeRefusedIn_ne_ok (bar : Bool) : a.writeRefusedIn off bar ≠ some .ok := by
  unfold State.writeRefusedIn
  cases a.st
  case boot | startupTest => dsimp only; split <;> simp
  all_goals simp

/-- A write to a register that is there passes only where the register is known. -/
theorem State.regAt_of_judgeWrite (hjudge : a.judgeWrite off w = .ok) (hthere : a.hostAbsent off = false) :
    ∃ d, regAt off = some d := by
  cases hreg : regAt off
  case some d => exact ⟨d, rfl⟩
  case none =>
    unfold State.judgeWrite at hjudge
    rw [hreg, hthere] at hjudge
    split at hjudge
    · exact absurd hjudge (by decide)
    · split at hjudge
      next st hrefused =>
        subst hjudge
        exact absurd hrefused (State.writeRefusedIn_ne_ok _)
      · simp at hjudge

section
variable (hjudge : a.judgeWrite off (Wr.direct w) = .ok) (hthere : a.hostAbsent off = false) (hreg : regAt off = some d)
include hjudge hthere hreg

theorem State.writeReg_of_direct (haccord : (Wr.direct w).accord = 0) :
    a.writeReg off w = (a.wakeBlock off).directWrite off d (Wr.direct w) := by
  unfold State.writeReg
  dsimp only
  rw [hjudge]
  dsimp only
  rw [hthere, if_neg Bool.false_ne_true, hreg]
  exact if_pos haccord

theorem State.writeReg_of_staged (haccord : (Wr.direct w).accord ≠ 0) :
    a.writeReg off w = (a.wakeBlock off).stageWrite off d (Wr.direct w) := by
  unfold State.writeReg
  dsimp only
  rw [hjudge]
  dsimp only
  rw [hthere, if_neg Bool.false_ne_true, hreg]
  exact if_neg haccord

end

/-- A write that fails a check changes nothing. -/
theorem State.writeReg_of_refused (hjudge : a.judgeWrite off (Wr.direct w) ≠ .ok) :
    a.writeReg off w = (a, some (Result.of (a.judgeWrite off (Wr.direct w)))) := by
  unfold State.writeReg
  dsimp only
  split
  · exact absurd ‹_› hjudge
  · rfl

/-- A write to a register of the hub's own acts there. -/
theorem State.directWrite_of_hubOwn (hown : hubOwn off = true) : a.directWrite off d w =
    (((a.writeHub off (a.standing off d) (written off d (a.standing off d) w (d.rw ||| d.rws))
      (w.value &&& w.mask)).stagedLast off d).loopLast off d w.origin,
      some (Result.of (a.startAnswer off (w.value &&& w.mask)))) := by
  refine if_neg ?_
  rintro ⟨hwindow, hheld⟩
  simp only [hubOwn, Bool.or_eq_true, decide_eq_true_eq] at hown
  rcases hown with h | h
  · omega
  · simp [h] at hheld

/-- A write to a register that a segment holds leaves for it. -/
theorem State.directWrite_of_segment (hown : hubOwn off = false) : a.directWrite off d w = (a.sendDown (windowSeg off)
    (.config off w.value (w.mask &&& (d.rw ||| d.rws ||| d.w1c ||| d.wo)) false w.origin), none) := by
  simp only [hubOwn, Bool.or_eq_false_iff, decide_eq_false_iff_not, Nat.not_lt] at hown
  exact if_pos ⟨hown.1, by simp [hown.2]⟩

/-- A staged write is counted and kept for T. -/
def State.stagedKept (a : State) (off : Nat) (d : RegDef) (w : Wr) : State := a.modAcc (fun x => { x with
  count := x.count + 1, staged := x.staged ++ [⟨off, w.value, w.mask &&& d.rws⟩] })

theorem State.stageWrite_of_hub (hoff : off < 0x8000) (hplain : off ≠ 0x2800) :
    a.stageWrite off d w = (a.stagedKept off d w, some (Result.of .ok)) := by
  have hnoSwap : ¬(decide (off = 0x2800) && (w.mask &&& d.rws).getLsbD 0) = true := by simp [hplain]
  unfold State.stageWrite
  dsimp only
  rw [if_neg hnoSwap, if_neg (Nat.not_le.2 hoff)]
  rfl

theorem State.stageWrite_of_window (hoff : 0x8000 ≤ off) : a.stageWrite off d w =
    ((a.stagedKept off d w).sendDown (windowSeg off) (.config off w.value (w.mask &&& d.rws) true w.origin), none) := by
  have hnoSwap : ¬(decide (off = 0x2800) && (w.mask &&& d.rws).getLsbD 0) = true := by
    rw [decide_eq_false (by omega), Bool.false_and]
    exact Bool.false_ne_true
  unfold State.stageWrite
  dsimp only
  rw [if_neg hnoSwap, if_pos hoff]
  rfl

end

/-! ### A row -/

section
variable {s : State} {off : Nat} {isRow : Wr → Bool} {w : Wr}

/-- Every row that writes a register judges its write as REG_WRITE does. -/
theorem exec_of_writeRowOf {c : Instr} (hrow : writeRowOf c = some (off, isRow, w)) (halign : badOffset off = false) :
    exec c s = (s.writeRow off isRow w).done := by
  unfold writeRowOf at hrow
  split at hrow <;> cases hrow
  case h_29 => exact if_neg (by simp [halign])
  all_goals rfl

variable (hbits : isRow (Wr.direct w) = true) (hacc : s.accepts w.origin 0x02 false = true)
include hbits hacc

/-- A write that meets a BAR0 access of its register is noted for it (R472). -/
theorem State.writeRow_of_meets (hmeets : s.meetsBar off w = true) : s.writeRow off isRow w = State.conclude w.origin 0x02
    (((s.taken w.origin).modHost (fun h => { h with met := h.met.filter (fun m => m.1 == (s.taken w.origin).now) ++
      [((s.taken w.origin).now, off, (s.taken w.origin).regWord off, w)] })).writeReg off w) :=
  (if_pos hbits).trans ((State.arrives_accepts hacc _).trans (congrArg (State.conclude w.origin 0x02) (if_pos hmeets)))

theorem State.writeRow_of_alone (halone : s.meetsBar off w = false) :
    s.writeRow off isRow w = State.conclude w.origin 0x02 ((s.taken w.origin).writeReg off w) :=
  (if_pos hbits).trans ((State.arrives_accepts hacc _).trans
    (congrArg (State.conclude w.origin 0x02) (if_neg (Bool.eq_false_iff.1 halone))))

omit hbits hacc

/-- A write that is refused is noted for no BAR0 access. -/
theorem State.not_meetsBar_of_refused (hjudge : (s.taken w.origin).judgeWrite off (Wr.direct w) ≠ .ok) :
    s.meetsBar off w = false := by
  by_cases h : w.origin = .bar0
  · simp [State.meetsBar, h]
  · rw [Wr.direct_of_loop h] at hjudge
    simp [State.meetsBar, hjudge]

theorem State.not_meetsBar_of_staged (haccord : (Wr.direct w).accord ≠ 0) : s.meetsBar off w = false := by
  by_cases h : w.origin = .bar0
  · exact absurd (Wr.direct_accord_of_bar h) haccord
  · rw [Wr.direct_of_loop h] at haccord
    have hstaged : (w.accord == 0) = false := beq_false_of_ne haccord
    rw [State.meetsBar, hstaged, Bool.and_false, Bool.false_and, Bool.false_and]

include hbits

theorem State.writeRow_of_admits {d : RegDef} (hreg : regAt off = some d) (hadmit : s.admits off w = true) :
    s.writeRow off isRow w = State.conclude w.origin 0x02 ((s.atWrite off w).directWrite off d (Wr.direct w)) := by
  obtain ⟨hacc, hjudge, haccord, hthere, halone⟩ := State.admits_parts hadmit
  rw [State.writeRow_of_alone hbits hacc halone, State.writeReg_of_direct hjudge hthere hreg haccord]
  rfl

theorem State.writeRow_of_hubOwn {d : RegDef} (hreg : regAt off = some d) (hadmit : s.admits off w = true)
    (hown : hubOwn off = true) : s.writeRow off isRow w = s.wrote off w := by
  rw [State.writeRow_of_admits hbits hreg hadmit, State.directWrite_of_hubOwn hown, Wr.direct_origin]
  unfold State.wrote
  rw [hreg]
  rfl

end

/-- A bit outside MASK keeps its value. -/
theorem written_getLsbD_of_unmasked {off : Nat} {d : RegDef} {old : Word} {w : Wr} {kinds : Word} {i : Nat}
    (hstores : ∀ x, stores off x = x) (hmask : w.mask.getLsbD i = false) (hkind : (d.rw ||| d.rws).getLsbD i = true) :
    (written off d old w kinds).getLsbD i = old.getLsbD i := by
  have hi : i < 32 := BitVec.lt_of_getLsbD hkind
  unfold written
  dsimp only
  rw [hstores, BitVec.getLsbD_and, hkind]
  simp only [BitVec.getLsbD_or, BitVec.getLsbD_and, BitVec.getLsbD_not, hmask, hi, decide_true, Bool.false_and,
    Bool.not_false, Bool.and_true, Bool.and_false, Bool.or_false]

/-- Settles O56: a row's write goes the way that its judgement, its accord and its offset give it. -/
theorem registerWriteRows : Obligations.RegisterWriteRows := by
  unfold Obligations.RegisterWriteRows
  refine ⟨fun c s off isRow w d hrow hbits hreg halign => ⟨fun hadmit hown => ?hub, fun hacc hjudge => ?refused,
      fun hadmit hown => ?segment, fun hacc hjudge hthere haccord hoff hplain => ?staged,
      fun hacc hjudge hthere haccord hoff => ?stagedWindow, fun hacc hmeets => ?meets⟩,
    fun s off w horigin hpow hbad => ?unsupported, fun s hi lo hhigh hlow => ?time,
    fun off d old w kinds hstores i hmask hkind => written_getLsbD_of_unmasked hstores hmask hkind⟩
  case hub =>
    rw [exec_of_writeRowOf hrow halign, State.writeRow_of_hubOwn hbits hreg hadmit hown]
    rfl
  case refused =>
    rw [exec_of_writeRowOf hrow halign, State.writeRow_of_alone hbits hacc (State.not_meetsBar_of_refused hjudge),
      State.writeReg_of_refused hjudge]
    rfl
  case segment =>
    rw [exec_of_writeRowOf hrow halign, State.writeRow_of_admits hbits hreg hadmit, State.directWrite_of_segment hown,
      Wr.direct_origin]
    rfl
  case staged =>
    rw [exec_of_writeRowOf hrow halign, State.writeRow_of_alone hbits hacc (State.not_meetsBar_of_staged haccord),
      State.writeReg_of_staged hjudge hthere hreg haccord, State.stageWrite_of_hub hoff hplain]
    rfl
  case stagedWindow =>
    rw [exec_of_writeRowOf hrow halign, State.writeRow_of_alone hbits hacc (State.not_meetsBar_of_staged haccord),
      State.writeReg_of_staged hjudge hthere hreg haccord, State.stageWrite_of_window hoff, Wr.direct_origin]
    rfl
  case meets =>
    rw [exec_of_writeRowOf hrow halign, State.writeRow_of_meets hbits hacc hmeets]
    rfl
  case unsupported => exact if_pos (by simp [horigin, hpow, hbad])
  case time =>
    obtain ⟨-, hjudgeHigh, -, hthereHigh, -⟩ := State.admits_parts hhigh
    obtain ⟨-, hjudgeLow, -, hthereLow, -⟩ := State.admits_parts hlow
    obtain ⟨dHigh, hregHigh⟩ := State.regAt_of_judgeWrite hjudgeHigh hthereHigh
    obtain ⟨dLow, hregLow⟩ := State.regAt_of_judgeWrite hjudgeLow hthereLow
    have hrowHigh : s.writeRow 0x2004 (fun _ => true) hi = s.wrote 0x2004 hi :=
      State.writeRow_of_hubOwn rfl hregHigh hhigh rfl
    have hrowLow : (s.wrote 0x2004 hi).writeRow 0x2000 (fun _ => true) lo = (s.wrote 0x2004 hi).wrote 0x2000 lo :=
      State.writeRow_of_hubOwn rfl hregLow hlow rfl
    change execTimeNowWrite hi lo s = _
    rw [execTimeNowWrite, hrowHigh, hrowLow]
    rfl

end Sys2Proof.Machine
end

section
/-!
PROOFS. What written bits bring about in the blocks of the hub (the registers of each chapter), and the obligation about them.
-/

-- The proofs are elaborated one after another, which keeps the check of the whole text within its memory.
set_option Elab.async false

namespace Sys2Proof.Machine

/-! ### Fields of one bit and of two -/

theorem fieldOf_bit {off n : Nat} (v : Word) : fieldOf ⟨off, n, 1⟩ v = 1 ↔ v.getLsbD n = true := by
  unfold fieldOf BitVec.getLsbD
  rw [Nat.testBit_eq_decide_div_mod_eq, decide_eq_true_eq]
  exact Iff.rfl

theorem fieldOf_bit_clear {off n : Nat} {v : Word} (h : v.getLsbD n = false) : fieldOf ⟨off, n, 1⟩ v ≠ 1 := by
  rw [Ne, fieldOf_bit, h]
  exact Bool.false_ne_true

theorem testBit_mod_256 {v : Word} {i : Nat} (hi : i < 8) : (v.toNat % 256).testBit i = v.getLsbD i := by
  rw [show (256 : Nat) = 2 ^ 8 from rfl, Nat.testBit_mod_two_pow]
  simp [hi, BitVec.getLsbD]

/-! ### Failed phases (R134) -/

/-- Whether a phase has failed is the same in two states. -/
def FailedKept (p : Phase) (s t : State) : Prop := (t.spc.phases.get p).failed = (s.spc.phases.get p).failed

section
variable {p : Phase} {s₀ s : State}

theorem FailedKept.of_phases {t : State} (h : FailedKept p s₀ s) (heq : t.spc.phases = s.spc.phases) : FailedKept p s₀ t := by
  unfold FailedKept at *
  rw [heq, h]

theorem FailedKept.modPhase (h : FailedKept p s₀ s) (q : Phase) {f : PhaseSt → PhaseSt} (hf : ∀ x, (f x).failed = x.failed) :
    FailedKept p s₀ (s.modPhase q f) := by
  unfold FailedKept at *
  by_cases hpq : p = q
  · subst hpq
    rw [State.modPhase_get_self, hf, h]
  · rw [State.modPhase_get_ne _ _ _ hpq, h]

/-- Every phase is changed in what is not its failure. -/
theorem FailedKept.mapPhases {t : State} (h : FailedKept p s₀ s) {f : PhaseSt → PhaseSt}
    (heq : t.spc.phases = s.spc.phases.map f) (hf : ∀ x, (f x).failed = x.failed) : FailedKept p s₀ t := by
  unfold FailedKept at *
  rw [heq, Vec.get_map, hf, h]

theorem FailedKept.each {α : Type} (l : List α) {f : State → α → State} (h : FailedKept p s₀ s)
    (hf : ∀ s x, FailedKept p s₀ s → FailedKept p s₀ (f s x)) : FailedKept p s₀ (each l f s) := by
  unfold Machine.each
  induction l generalizing s with
  | nil => exact h
  | cons x l ih => exact ih (hf s x h)

theorem FailedKept.ite {c : Prop} [Decidable c] {a b : State} (ha : FailedKept p s₀ a) (hb : FailedKept p s₀ b) :
    FailedKept p s₀ (if c then a else b) := by
  split
  · exact ha
  · exact hb

theorem FailedKept.recentre (h : FailedKept p s₀ s) : FailedKept p s₀ s.recentre := h.mapPhases rfl (fun _ => rfl)

theorem FailedKept.stageOff (h : FailedKept p s₀ s) : FailedKept p s₀ s.stageOff :=
  h.mapPhases (f := PhaseSt.idle) rfl (fun _ => rfl)

theorem FailedKept.nakPending (h : FailedKept p s₀ s) : FailedKept p s₀ s.nakPending := by
  refine FailedKept.ite (h.of_phases ?_) h
  rw [State.answerLast_eq]
  obtain ⟨t, hspc⟩ := (s.unpend false 4).sendAnswer_spc (a := s.answerOf false 4)
  rw [hspc]
  rfl

theorem FailedKept.retarget (h : FailedKept p s₀ s) (t : Int) : FailedKept p s₀ (s.retarget t) := FailedKept.ite h h

theorem FailedKept.inhibit (h : FailedKept p s₀ s) (c : Nat) : FailedKept p s₀ (s.inhibit c) := by
  have hcause : FailedKept p s₀ (s.addCause c) := h
  have hoff := (FailedKept.retarget (FailedKept.nakPending hcause) 0).stageOff
  unfold State.inhibit
  dsimp only
  split
  · exact h
  · exact h
  · exact hoff
  · exact hoff

theorem FailedKept.addPhase (h : FailedKept p s₀ s) : FailedKept p s₀ s.addPhase := by
  unfold State.addPhase
  split
  · exact h
  · exact FailedKept.recentre (h.modPhase _ fun _ => rfl)

theorem FailedKept.addPhases (n : Nat) (h : FailedKept p s₀ s) : FailedKept p s₀ (State.addPhases n s) := by
  induction n generalizing s with
  | zero => exact h
  | succ n ih => exact FailedKept.ite (ih h.addPhase) h

theorem FailedKept.checkNoPhase (h : FailedKept p s₀ s) : FailedKept p s₀ s.checkNoPhase := FailedKept.ite (h.inhibit _) h

theorem FailedKept.capacityChanged (h : FailedKept p s₀ s) : FailedKept p s₀ s.capacityChanged :=
  FailedKept.ite h (FailedKept.recentre h)

theorem FailedKept.settleNoPhase (h : FailedKept p s₀ s) : FailedKept p s₀ s.settleNoPhase :=
  FailedKept.ite (h.of_phases (s.endInhibit_phases _)) h

/-- The phases at work that are not healthy. -/
def State.badPhases (s : State) : List Phase := s.activePhases.filter (fun p => !s.phaseHealthy p)

/-- They are released, and a dwell begins anew. -/
def State.badReleased (s : State) : State :=
  if s.badPhases.isEmpty then each s.badPhases (fun s p => s.releasePhase p) s
  else (each s.badPhases (fun s p => s.releasePhase p) s).modSpc (fun x => { x with dwellFrom := none })

theorem State.phasesChanged_eq (s : State) : s.phasesChanged =
    (if s.badReleased.checkNoPhase.capacityChanged.spc.st == .regulate
      then State.addPhases 8 s.badReleased.checkNoPhase.capacityChanged
      else s.badReleased.checkNoPhase.capacityChanged).recentre.settleNoPhase := rfl

/-- However the phases at work change, none fails by it and none recovers. -/
theorem FailedKept.phasesChanged (h : FailedKept p s₀ s) : FailedKept p s₀ s.phasesChanged := by
  have hgone : FailedKept p s₀ (Machine.each s.badPhases (fun s p => s.releasePhase p) s) :=
    h.each _ fun _ q hq => hq.modPhase q (f := PhaseSt.idle) fun _ => rfl
  have hreleased : FailedKept p s₀ s.badReleased := FailedKept.ite hgone hgone
  have hcapacity := FailedKept.capacityChanged (FailedKept.checkNoPhase hreleased)
  rw [State.phasesChanged_eq]
  exact FailedKept.settleNoPhase (FailedKept.recentre (FailedKept.ite (hcapacity.addPhases 8) hcapacity))

/-- A phase whose bit is written returns from FAILED. -/
theorem State.clearFailed_failed {bits : Nat} (hbit : bits.testBit p.val = true) :
    ((s.clearFailed bits).spc.phases.get p).failed = false := by
  have hcleared (l : List Phase) (u : State) (hu : (u.spc.phases.get p).failed = false ∨ p ∈ l) :
      ((Machine.each l (fun s p => s.modPhase p (fun x => { x with
        failed := false, fOpen := false, fSense := false, fXchk := false })) u).spc.phases.get p).failed = false := by
    unfold Machine.each
    induction l generalizing u with
    | nil => exact hu.resolve_right List.not_mem_nil
    | cons q l ih =>
      refine ih _ ?_
      by_cases hpq : p = q
      · subst hpq
        exact .inl (by rw [State.modPhase_get_self])
      · rw [State.modPhase_get_ne _ _ _ hpq]
        exact hu.imp id fun hmem => (List.mem_cons.1 hmem).resolve_left hpq
  refine (FailedKept.phasesChanged rfl).trans (hcleared _ s ?_)
  cases hfailed : (s.spc.phases.get p).failed with
  | false => exact .inl rfl
  | true => exact .inr (List.mem_filter.2 ⟨List.mem_finRange p, by simp [hbit, hfailed]⟩)

end

/-! ### The registers -/

section
variable (s : State) (old new v : Word)

theorem State.writeHub_fltCtrl : s.writeHub 0x5800 old new v = (s.store 0x5800 new).wroteFltCtrl v := rfl

theorem State.wroteFltCtrl_first (hbit : v.getLsbD 4 = true) (hnone : ∀ x, s.flt.tickBest = some x → x.1 ≠ s.now) :
    (s.wroteFltCtrl v).flt.first = none := by
  have hwritten : (s.wroteFltCtrl v).flt.first = match s.flt.tickBest with
      | some (t, a) => if t = s.now then some a else none
      | none => none := if_pos ((fieldOf_bit v).2 hbit)
  rw [hwritten]
  cases hbest : s.flt.tickBest with
  | none => rfl
  | some x => exact if_neg (hnone x hbest)

theorem State.wroteFltCtrl_full (hbit : v.getLsbD 5 = true) :
    (s.wroteFltCtrl v).flt.logFull = 0 ∧ (s.wroteFltCtrl v).flt.intakeFull = 0 :=
  ⟨if_pos ((fieldOf_bit v).2 hbit), if_pos ((fieldOf_bit v).2 hbit)⟩

theorem State.wroteFltCtrl_counts (hbit : v.getLsbD 6 = true) : (s.wroteFltCtrl v).flt.counts = [] :=
  if_pos ((fieldOf_bit v).2 hbit)

theorem State.wroteFltCtrl_counts_kept (hbit : v.getLsbD 6 = false) : (s.wroteFltCtrl v).flt.counts = s.flt.counts :=
  if_neg (fieldOf_bit_clear hbit)

theorem State.counter_of_empty (h : s.flt.counts = []) (n : Nat) : s.counter n = 0 := by
  unfold State.counter
  rw [h]
  split <;> rfl

theorem State.wroteSpcEn_st (hst : s.spc.st = .disabled) :
    (s.wroteSpcEn false true).spc.st = .standby ∨ (s.wroteSpcEn false true).spc.st = .inhibited := by
  unfold State.wroteSpcEn
  rw [hst]
  dsimp only
  split
  · exact .inl rfl
  · exact .inr rfl

theorem State.checkShunts_excl :
    s.checkShunts.shunts.exclB = s.shunts.exclB ∧ s.checkShunts.shunts.exclT = s.shunts.exclT := by
  unfold State.checkShunts
  split
  · exact ⟨rfl, rfl⟩
  · cases s.st
    case off | boot | startupTest | dormant => exact ⟨rfl, rfl⟩
    all_goals
      dsimp only
      split <;> exact ⟨rfl, rfl⟩

theorem State.readmit_both : (s.readmit 3).shunts.exclB = false ∧ (s.readmit 3).shunts.exclT = false := by
  obtain ⟨hB, hT⟩ := (s.modShunts (fun m => { m with
    exclB := m.exclB && !(Nat.testBit 3 0), exclT := m.exclT && !(Nat.testBit 3 1) })).checkShunts_excl
  exact ⟨hB.trans (Bool.and_false _), hT.trans (Bool.and_false _)⟩

theorem State.wroteAnaCtrl_of_snap (h0 : v.getLsbD 0 = true) (h1 : v.getLsbD 1 = false) (h2 : v.getLsbD 2 = false) :
    s.wroteAnaCtrl v = s.modRes (fun r => { r with snapPending := true }) := by
  unfold State.wroteAnaCtrl
  dsimp only
  rw [if_pos (c := fieldOf Fld.anaCtrlSnapNow v = 1) ((fieldOf_bit v).2 h0),
    if_neg (c := fieldOf Fld.anaCtrlKvalSnap v = 1) (fieldOf_bit_clear h1),
    if_neg (c := fieldOf Fld.anaCtrlKvalReset v = 1) (fieldOf_bit_clear h2)]

theorem State.wroteWakeCause_anomaly (hbit : v.getLsbD 2 = true) :
    (s.wroteWakeCause v).pwr.wakeAnomaly = false ∧ (s.wroteWakeCause v).pwr.anCount = 0 := by
  unfold State.wroteWakeCause
  rw [if_pos hbit]
  exact ⟨rfl, rfl⟩

/-- The period of a segment whose link is up is the module's. -/
theorem State.copyDrydown_periodS {g : Seg} (hup : s.linkUp g = true) :
    (s.copyDrydown.segs.get g).periodS = s.fld Fld.pwrDrydownPeriodPeriodS := by
  have hcopied (l : List Seg) (u : State) (hregs : u.regs = s.regs)
      (hu : (u.segs.get g).periodS = s.fld Fld.pwrDrydownPeriodPeriodS ∨ g ∈ l) :
      ((each l (fun s g => s.modSeg g (fun x => { x with
        periodS := s.fld Fld.pwrDrydownPeriodPeriodS, dormantPatrol := s.flag Fld.pwrDrydownCfgDormantPatrol })) u).segs.get
          g).periodS = s.fld Fld.pwrDrydownPeriodPeriodS := by
    unfold each
    induction l generalizing u with
    | nil => exact hu.resolve_right List.not_mem_nil
    | cons j l ih =>
      refine ih _ hregs ?_
      by_cases hj : j = g
      · subst hj
        refine .inl ?_
        rw [State.modSeg_segs, Vec.get_modify_self]
        unfold State.fld State.stored
        rw [hregs]
      · refine hu.imp (fun h => ?_) fun hmem => (List.mem_cons.1 hmem).resolve_left (Ne.symm hj)
        rw [State.modSeg_segs, Vec.get_modify_ne _ _ hj, h]
  exact hcopied _ s rfl (.inr (List.mem_filter.2 ⟨List.mem_finRange g, hup⟩))

theorem State.copyDrydown_fld (x : Field) : s.copyDrydown.fld x = s.fld x := by
  have hregs : s.copyDrydown.regs = s.regs := (State.copyDrydown_touch (TouchM.refl 256 s) rfl).same .regs rfl
  unfold State.fld State.stored
  rw [hregs]

theorem windowSeg_windowOff (g : Seg) : windowSeg (windowOff g 0) = g := by
  have hdiv : (windowOff g 0 - 0x8000) / 0x400 = g.val := by
    unfold windowOff
    omega
  unfold windowSeg
  rw [hdiv]
  exact Fin.ext (Nat.mod_eq_of_lt g.isLt)

theorem State.writeHub_segCtrl (g : Seg) : s.writeHub (windowOff g 0) old new v =
    let a := s.store (windowOff g 0) new
    let b := if v.getLsbD 0 then a.segResetAsked g else a
    if v.getLsbD 1 then b.retrainLink g else b := by
  have hwindow : 0x8000 ≤ windowOff g 0 := by
    unfold windowOff
    omega
  have hrel : windowOff g 0 % 0x400 = 0 := by
    unfold windowOff
    omega
  have heq := (if_pos hwindow).trans (if_pos (c := windowOff g 0 % 0x400 = 0) hrel) (a := s.writeHub (windowOff g 0) old new v)
  rw [windowSeg_windowOff] at heq
  exact heq

/-- One port's bits of LOOP_CTRL: a changed enable restarts it, RETRAIN retrains it. -/
def State.portWritten (s : State) (old new v : Word) (p : Port) (bit retrain : Nat) : State :=
  let s := if old.getLsbD bit != new.getLsbD bit then s.restartPort p else s
  if v.getLsbD retrain then s.retrainPort p else s

theorem State.writeHub_loopCtrl : s.writeHub 0x1800 old new v =
    ((s.store 0x1800 new).portWritten old new v .a 0 2).portWritten old new v .b 1 3 := rfl

theorem State.portWritten_of_unchanged {p : Port} {bit retrain : Nat} (hbit : old.getLsbD bit = new.getLsbD bit)
    (hretrain : v.getLsbD retrain = false) : s.portWritten old new v p bit retrain = s := by
  simp [State.portWritten, hbit, hretrain]

theorem State.portWritten_of_retrain {p : Port} {bit retrain : Nat} (hbit : old.getLsbD bit = new.getLsbD bit)
    (hretrain : v.getLsbD retrain = true) : s.portWritten old new v p bit retrain = s.retrainPort p := by
  simp [State.portWritten, hbit, hretrain]

theorem State.portWritten_of_enable {p : Port} {bit retrain : Nat} (hbit : old.getLsbD bit ≠ new.getLsbD bit)
    (hretrain : v.getLsbD retrain = false) : s.portWritten old new v p bit retrain = s.restartPort p := by
  simp [State.portWritten, hbit, hretrain]

theorem chkOf_chkCtrlOff (c : Fin 4) : chkOf (chkCtrlOff c) = (c, 0) := by
  fin_cases c <;> rfl

theorem State.writeHub_chkCtrl {c : Fin 4} (hopen : s.chkLocked c = false) : s.writeHub (chkCtrlOff c) old new v =
    let a := s.store (chkCtrlOff c) new
    let b := if v.getLsbD 1 then a.abortScan c else a
    if v.getLsbD 0 then (b.startScan c none).2 else b := by
  have hblock : s.writeHub (chkCtrlOff c) old new v = s.writeChk (chkCtrlOff c) new v := by fin_cases c <;> rfl
  rw [hblock, State.writeChk, chkOf_chkCtrlOff]
  exact (if_neg (by simp [hopen])).trans (if_pos rfl)

theorem State.writeHub_hostCtrl (hoff : s.flag Fld.hostCtrlEn = false) : s.writeHub 0x1000 old new v =
    let a := (if v.getLsbD 1 then s.resetRings else s).store 0x1000 (new &&& ~~~1)
    if new.getLsbD 0 then a.enableHost else a := by
  change s.writeHost 0x1000 new v = _
  unfold State.writeHost
  rw [hoff]
  rfl

theorem State.writeHub_timeCtrl : s.writeHub 0x2008 old new v =
    let a := (s.store 0x2008 new).modTu (fun t => { t with hiWritten := if new.getLsbD 0 then none else t.hiWritten })
    if s.flag Fld.timeCtrlFollow && !new.getLsbD 0 then a.followOff else a := rfl

theorem State.writeHub_policy : s.writeHub 0x281C old new v =
    if s.flag Fld.playFlaconPolicyLock then s else (s.store 0x281C new).unverify := rfl

theorem State.writeHub_playCtrl {a : State} (hswap : s.directSwap = some a) (hbit : v.getLsbD 0 = true) :
    s.writeHub 0x2800 old new v = a.store 0x2800 (new &&& ~~~1) := by
  have heq : s.writeHub 0x2800 old new v =
      (if v.getLsbD 0 then s.directSwap.getD s else s).store 0x2800 (new &&& ~~~1) := rfl
  rw [heq, if_pos hbit, hswap]
  rfl

end

/-- Settles O57, register by register. -/
theorem registerEffects : Obligations.RegisterEffects := by
  unfold Obligations.RegisterEffects
  intro s old new v
  refine ⟨fun h => if_pos h, rfl,
    ⟨fun hbit hnone => State.wroteFltCtrl_first _ v hbit hnone, fun hbit => State.wroteFltCtrl_full _ v hbit,
      fun hbit => State.counter_of_empty _ (State.wroteFltCtrl_counts _ v hbit),
      fun hbit => State.wroteFltCtrl_counts_kept _ v hbit⟩,
    fun p hbit => State.clearFailed_failed ((testBit_mod_256 p.isLt).trans hbit), fun hst hwas hnow => ?spcEn,
    fun hexcl => ?readmit, fun hnew => ?guard, fun h0 h1 h2 => State.wroteAnaCtrl_of_snap s v h0 h1 h2,
    fun hbit => State.wroteWakeCause_anomaly s v hbit, fun g hup => ?period, fun g h1 h0 => ?retrain, fun g h0 h1 => ?reset,
    fun h3 hB => ⟨fun h2 hA => ?retrainA, fun h2 hA => ?restartA⟩, fun hfollow hoff => ?follow, fun hbit => ?logCopy,
    fun hoff h1 h0 => ?rings, fun hoff h1 h0 => ?enable, fun c hopen h0 h1 => ?start, fun c hopen h0 h1 => ?abort,
    fun a hswap hbit => State.writeHub_playCtrl s old new v hswap hbit, fun hbit => if_pos hbit, fun hlock => if_pos hlock,
    fun hopen => ?policy⟩
  case spcEn =>
    have heq : s.writeHub 0x3000 old new v = (s.store 0x3000 new).wroteSpcEn (old.getLsbD 0) (new.getLsbD 0) := rfl
    rw [heq, hwas, hnow]
    exact State.wroteSpcEn_st _ hst
  case readmit =>
    have heq : s.writeHub 0x400C old new v = (s.store 0x400C new).readmit (fieldOf Fld.measShuntCfgExcluded v) := rfl
    rw [heq, hexcl]
    exact State.readmit_both _
  case guard =>
    have heq : s.writeHub 0x4014 old new v = (s.store 0x4014 new).unverify := if_neg hnew
    rw [heq]
    rfl
  case period =>
    have heq : s.writeHub 0x0810 old new v = (s.store 0x0810 new).copyDrydown := rfl
    rw [heq, State.copyDrydown_fld]
    exact State.copyDrydown_periodS _ hup
  case retrain =>
    rw [State.writeHub_segCtrl, h0, h1]
    rfl
  case reset =>
    rw [State.writeHub_segCtrl, h0, h1]
    rfl
  case retrainA =>
    rw [State.writeHub_loopCtrl, State.portWritten_of_unchanged _ _ _ _ hB h3, State.portWritten_of_retrain _ _ _ _ hA h2]
  case restartA =>
    rw [State.writeHub_loopCtrl, State.portWritten_of_unchanged _ _ _ _ hB h3, State.portWritten_of_enable _ _ _ _ hA h2]
  case follow =>
    rw [State.writeHub_timeCtrl, hfollow, hoff]
    exact ⟨rfl, rfl⟩
  case logCopy =>
    change s.writeNvm 0x7000 new v = _
    unfold State.writeNvm
    rw [if_pos (by simp [hbit])]
  case rings =>
    rw [State.writeHub_hostCtrl _ _ _ _ hoff, h1, h0]
    exact ⟨rfl, rfl, rfl⟩
  case enable =>
    rw [State.writeHub_hostCtrl _ _ _ _ hoff, h1, h0]
    rfl
  case start =>
    rw [State.writeHub_chkCtrl _ _ _ _ hopen, h0, h1]
    rfl
  case abort =>
    rw [State.writeHub_chkCtrl _ _ _ _ hopen, h0, h1]
    rfl
  case policy =>
    rw [State.writeHub_policy, hopen]
    rfl

end Sys2Proof.Machine
end

section
/-!
PROOFS. Self-test, scans and the flash (chapters 14 and 15): periodic slices, the end of a slice, of a scan and of a flash
operation, and the obligation about them.
-/

-- The proofs are elaborated one after another, which keeps the check of the whole text within its memory.
set_option Elab.async false

namespace Sys2Proof.Machine

section
variable {s : State}

/-! ### Periodic slices (R416, R417) -/

theorem exec_periodicSlice_of_due (hpow : s.powered = true) (hrun : s.bist.running = none) (hqueue : s.bist.queue = [])
    (hrerun : s.bist.rerunQueue = []) (hcmd : s.bist.cmdOrigin = none) (hstate : s.periodicState = true)
    (hen : s.flag Fld.bistCtrlPeriodicEn = true)
    (hdue : s.bist.lastStart + 1000 * s.fld Fld.bistPeriodPeriodUs ≤ s.now) (hnext : s.nextSlice = s) :
    exec .periodicSlice s = .next s.periodicChoice.settle := by
  change execPeriodicSlice s = _
  unfold execPeriodicSlice
  rw [if_neg (by simp [hpow, hrun]), hnext]
  dsimp only
  rw [if_neg (by simp [hrun]), if_neg (by simp [hrerun]), if_neg (by simp [hqueue]),
    if_neg (by simp [hcmd, hstate, hen, hdue])]
  rfl

theorem State.periodicChoice_of_aborted {n : Slice} (h : s.bist.abortedLast = some n) : s.periodicChoice = s.startOrSkip n := by
  rw [State.periodicChoice, h]

/-! ### The end of a slice (R415, R424) -/

section
variable {n : Slice} {t steps : Nat} {ok : Bool} (hrun : s.bist.running = some (n, t))
  (hends : slicePlanned n.val ≤ steps ∨ t + 1000 * sliceMax n.val ≤ s.now)
include hrun hends

/-- A slice that ends is aborted where an event preempts it, and else has passed or not. -/
theorem exec_sliceEnd_of_ended : exec (.sliceEnd steps ok) s =
    if s.preempted then .next s.abortSlice.settle
    else
      let hung := !decide (slicePlanned n.val ≤ steps) || decide (t + 1000 * sliceMax n.val < s.now)
      .next ((if !hung && ok then (s.freeBlock n).passSlice n else (s.freeBlock n).failSlice n hung).afterSlice n
        s.bist.runKind (!hung && ok)).settle := by
  have hgoesOn : ¬(!decide (slicePlanned n.val ≤ steps) && !decide (t + 1000 * sliceMax n.val ≤ s.now)) = true := by
    rcases hends with h | h <;> simp [h]
  change execSliceEnd steps ok s = _
  unfold execSliceEnd
  rw [hrun]
  exact if_neg hgoesOn

variable (hfree : s.preempted = false)
include hfree

theorem exec_sliceEnd_of_whole (hreached : slicePlanned n.val ≤ steps) (htime : s.now ≤ t + 1000 * sliceMax n.val) :
    exec (.sliceEnd steps ok) s = .next ((if ok then (s.freeBlock n).passSlice n else (s.freeBlock n).failSlice n false).afterSlice
      n s.bist.runKind ok).settle := by
  have hwhole : (!decide (slicePlanned n.val ≤ steps) || decide (t + 1000 * sliceMax n.val < s.now)) = false := by
    simp [hreached, Nat.not_lt.2 htime]
  rw [exec_sliceEnd_of_ended hrun hends, if_neg (by simp [hfree]), hwhole]
  dsimp only
  rw [Bool.not_false, Bool.true_and]

theorem exec_sliceEnd_of_hung (hhung : steps < slicePlanned n.val ∨ t + 1000 * sliceMax n.val < s.now) :
    exec (.sliceEnd steps ok) s = .next (((s.freeBlock n).failSlice n true).afterSlice n s.bist.runKind false).settle := by
  have hnot : (!decide (slicePlanned n.val ≤ steps) || decide (t + 1000 * sliceMax n.val < s.now)) = true := by
    rcases hhung with h | h
    · simp [Nat.not_le.2 h]
    · simp [h]
  rw [exec_sliceEnd_of_ended hrun hends, if_neg (by simp [hfree]), hnot]
  rfl

end

/-- A slice that passes has that result. -/
theorem State.passSlice_result (n : Slice) : ((s.passSlice n).bist.slices.get n).result = .passed := by
  have hcells (a : State) : TouchM 6176 a
      (each (cellsOf (seg n.val)) (fun s k => s.modMeas k (fun m => { m with slicePassed := m.slicePassed || m.served })) a) :=
    each_touch _ (TouchM.refl 6176 a) fun _ _ h => State.modMeas_touch h _ _ rfl
  have hblock (a : State) : TouchM 6176 a (if n.val < 16 then each (cellsOf (seg n.val)) (fun s k =>
      s.modMeas k (fun m => { m with slicePassed := m.slicePassed || m.served })) a else a) :=
    TouchM.ite (hcells a) (TouchM.refl 6176 a)
  have hshunt (a : State) : TouchM 6176 a (a.bistShunt n.val false) := State.bistShunt_touch (TouchM.refl 6176 a) _ _ rfl
  have hset : (s.passSlice n).bist = (s.setSlice n (fun _ => ⟨.passed, false, some s.now⟩)).bist :=
    (TouchM.ite (State.modSpc_touch ((hshunt _).then (hblock _) rfl) _ rfl) ((hshunt _).then (hblock _) rfl)).same .bist rfl
  rw [hset]
  exact congrArg SliceSt.result (Vec.get_modify_self s.bist.slices n _)

/-! ### The end of a scan (R428, R429) -/

/-- A scan of flash is done. -/
def State.scanEnded (s : State) (c : Fin 4) : State := s.modChk c (fun x => { x.finish
  (s.flashRead ((s.chk.get c).start - 0x10000000) (s.chk.get c).length) with st := .done, status := .ok, origin := none })

theorem exec_scanDone_of_flash {c : Fin 4} (hst : (s.chk.get c).st = .running) (hfree : s.chkUnderTest c = false)
    (hflash : 0x10000000 ≤ (s.chk.get c).start) : exec (.scanDone c) s = match (s.chk.get c).origin with
      | some o => .next ((s.scanEnded c).replyLate o 0x71 (Result.val .ok ((s.scanEnded c).chkStatus c).toNat)).settle
      | none => .next (s.scanEnded c).settle := by
  have hbytes : s.scanBytes (s.chk.get c).start (s.chk.get c).length =
      (s.flashRead ((s.chk.get c).start - 0x10000000) (s.chk.get c).length, s) := if_pos hflash
  change execScanDone c s = _
  unfold execScanDone
  dsimp only
  rw [if_pos (by simp [hst, hfree]), hbytes]
  cases (s.chk.get c).origin <;> rfl

/-! ### The end of a flash operation (R455) -/

/-- The operation at the head of the queue is applied. -/
def State.opApplied (s : State) (j : Job) (op : FlashOp) (ops : List FlashOp) (rest : List Job) : State :=
  s.modNvm (fun n => { n with flash := op.apply n.flash, jobs := { j with ops := ops } :: rest })

theorem State.endOp_of_head {j : Job} {rest : List Job} {op : FlashOp} {ops : List FlashOp} {erase ok : Bool}
    (hfree : s.nvmTested = false) (hjobs : s.nvm.jobs = j :: rest) (hops : j.ops = op :: ops) (hkind : op.isErase = erase) :
    s.endOp erase ok = if !ok then s.failOp j op rest
      else State.endJobs 16 (if j.region = 13 ∧ erase then
          (s.opApplied j op ops rest).countErase ((op.addr - journalBase) / sectorSize)
        else s.opApplied j op ops rest) := by
  unfold State.endOp
  rw [if_neg (by simp [hfree]), hjobs]
  dsimp only
  rw [hops]
  exact if_neg (by simp [hkind])

end

/-! ### The contents of flash (R455) -/

theorem Sparse.get_of_absent {α : Type} (d : Nat → α) {m : List (Nat × α)} {x : Nat} (h : ∀ e ∈ m, e.1 ≠ x) :
    Sparse.get d m x = d x := by
  induction m with
  | nil => rfl
  | cons e m ih =>
    exact (if_neg (h e List.mem_cons_self)).trans (ih fun y hy => h y (List.mem_cons_of_mem _ hy))

theorem get_eraseRange (m : List (Nat × Byte)) {a n x : Nat} (hlow : a ≤ x) (hhigh : x < a + n) :
    Sparse.get erased (eraseRange m a n) x = 0xFF := by
  refine Sparse.get_of_absent erased fun e he heq => ?_
  have hout := (List.mem_filter.1 he).2
  simp only [Bool.or_eq_true, decide_eq_true_eq] at hout
  omega

/-- Settles O60: the engine, a scan, an operation of the flash, and the bytes that it leaves. -/
theorem selfTestAndFlash : Obligations.SelfTestAndFlash := by
  unfold Obligations.SelfTestAndFlash
  refine ⟨fun s hpow hrun hqueue hrerun _ hcmd hstate hen hdue hnext =>
      exec_periodicSlice_of_due hpow hrun hqueue hrerun hcmd hstate hen hdue hnext,
    fun s n h => State.periodicChoice_of_aborted h, fun s n hcan => if_pos hcan,
    fun s n t steps ok hrun hends => ⟨fun hpre => (exec_sliceEnd_of_ended hrun hends).trans (if_pos hpre),
      fun hfree hok hreached htime => ?passed, fun hfree hok hreached htime => ?failed,
      fun hfree hhung => exec_sliceEnd_of_hung hrun hends hfree hhung⟩,
    fun s n => State.passSlice_result n, fun s c hst hfree hflash => ⟨fun hnone => ?silent, fun o horigin => ?answered⟩,
    fun s j rest op ops hfree hjobs hops => ⟨fun hkind => ⟨?programmed, ?notProgrammed⟩,
      fun hkind hregion => ⟨?erased, ?notErased⟩⟩,
    fun m a x _ hlow => ⟨fun hhigh => get_eraseRange m hlow hhigh, fun hhigh => get_eraseRange m hlow hhigh⟩,
    fun m a x b hwf => ?program⟩
  case passed =>
    rw [exec_sliceEnd_of_whole hrun hends hfree hreached htime, hok]
    rfl
  case failed =>
    rw [exec_sliceEnd_of_whole hrun hends hfree hreached htime, hok]
    rfl
  case silent =>
    rw [exec_scanDone_of_flash hst hfree hflash, hnone]
    rfl
  case answered =>
    rw [exec_scanDone_of_flash hst hfree hflash, horigin]
    rfl
  case programmed =>
    refine congrArg State.done ((State.endOp_of_head hfree hjobs hops hkind).trans ?_)
    rw [if_neg (by decide), if_neg (by simp)]
    rfl
  case notProgrammed => exact congrArg State.done ((State.endOp_of_head hfree hjobs hops hkind).trans (if_pos rfl))
  case erased =>
    refine congrArg State.done ((State.endOp_of_head hfree hjobs hops hkind).trans ?_)
    rw [if_neg (by decide), if_neg (fun h => hregion h.1)]
    rfl
  case notErased => exact congrArg State.done ((State.endOp_of_head hfree hjobs hops hkind).trans (if_pos rfl))
  case program =>
    rw [show (FlashOp.program a [b]).apply m = Sparse.put erased m a b from rfl, Sparse.get_put erased m a x 0 b hwf]
    exact if_congr eq_comm rfl rfl

end Sys2Proof.Machine
end
